-- ==== Sys2Proof/Word.lean ====
section
/-!
DEFINITION. The word types and the sparse table that every indexed piece of state uses.

A table is a list of (key, value) pairs, sorted by key, that omits every entry equal to the table's
default value: two tables that read alike are the same list (`Tbl.wf`).
-/

namespace Sys2Proof

/-- A register or memory word of the part (R310, R467: registers are 32 bits wide). -/
abbrev Word := BitVec 32

/-- One byte of a memory. -/
abbrev Byte := BitVec 8

/-- A sparse table: key and value pairs in strictly rising key order. -/
abbrev Tbl (α : Type) := List (Nat × α)

/-- The value at key `k`, and `d` where the table lists none. -/
def Tbl.get {α : Type} (t : Tbl α) (d : α) (k : Nat) : α :=
  match t with
  | [] => d
  | (k', v) :: r => if k' = k then v else Tbl.get r d k

/-- The table without any entry at key `k`. -/
def Tbl.erase {α : Type} (t : Tbl α) (k : Nat) : Tbl α :=
  match t with
  | [] => []
  | (k', v) :: r => if k' = k then Tbl.erase r k else (k', v) :: Tbl.erase r k

/-- Put (k, v) before the first larger key. -/
def Tbl.ins {α : Type} (t : Tbl α) (k : Nat) (v : α) : Tbl α :=
  match t with
  | [] => [(k, v)]
  | (k', v') :: r => if k < k' then (k, v) :: (k', v') :: r else (k', v') :: Tbl.ins r k v

/-- Write `v` at `k`; writing the default `d` removes the entry, which keeps the form canonical. -/
def Tbl.set {α : Type} [DecidableEq α] (t : Tbl α) (d : α) (k : Nat) (v : α) : Tbl α :=
  if v = d then t.erase k else (t.erase k).ins k v

/-- Keys strictly rise. -/
def Tbl.sorted {α : Type} (t : Tbl α) : Bool :=
  match t with
  | [] => true
  | (k, _) :: r => (match r with | [] => true | (k', _) :: _ => decide (k < k')) && Tbl.sorted r

/-- The canonical form: keys strictly rise and no entry equals the default. -/
def Tbl.wf {α : Type} [DecidableEq α] (t : Tbl α) (d : α) : Bool :=
  Tbl.sorted t && t.all (fun e => decide (e.2 ≠ d))

/-- The keys in use. -/
def Tbl.keys {α : Type} (t : Tbl α) : List Nat := t.map (·.1)

end Sys2Proof
end

