-- ==== Sys2Proof/Syntax.lean ====
section
/-!
DEFINITION. The commands of the block: one constructor of `Instr` per row of spec/opcode_table.json, with the row's
operands. A port number `n` is Dn, `u` is Uu, `k` is the port index of R502 (0–95 downstream, 96 + u upstream),
`t` a Torik thread, `q` a queue. What the outside world does or what a clock brings about arrives as one command.
-/

namespace Sys2Proof

/-- A master of the register fabric (R463). -/
inductive Master where
  /-- Torik thread `t`, at system (`priv`) or user privilege. -/
  | thread (t : Nat) (priv : Bool)
  /-- The boot loader applying the register table. -/
  | boot
  /-- The host of tree `u`. -/
  | host (u : Nat)
  /-- The service console. -/
  | console
  /-- A cascade peer, by chip ID. -/
  | peer (chip : Nat)
deriving DecidableEq, Repr

/-- The master exists: a thread, tree or chip ID in range. -/
def Master.wf (m : Master) : Bool :=
  match m with
  | .thread t _ => decide (t < 64)
  | .boot => true
  | .host u => decide (u < 4)
  | .console => true
  | .peer c => decide (c < 4096)

/-- What a host's packet to endpoint 0 of a device brings to its end, among the standard requests the part follows (R120). -/
inductive Seen where
  /-- Nothing of these. -/
  | nothing
  /-- The device's configuration descriptor has been read: its bytes. -/
  | descriptor (bytes : List Byte)
  /-- SET_CONFIGURATION of a value. -/
  | setConfig (v : Nat)
  /-- SET_INTERFACE of an interface to an alternate setting. -/
  | setInterface (i alt : Nat)
deriving DecidableEq, Repr

/-- The request's values fit their bytes. -/
def Seen.wf (x : Seen) : Bool :=
  match x with
  | .nothing => true
  | .descriptor _ => true
  | .setConfig v => decide (v < 256)
  | .setInterface i alt => decide (i < 256) && decide (alt < 256)

/-- Memory words of a packet read with errors (R105): how many had a single bit error and how many a double. -/
structure WordErrs where
  /-- Words with a single bit error. -/
  one : Nat
  /-- Words with a double bit error. -/
  two : Nat
deriving DecidableEq, Repr

/-- A packet has at most 131 words (R84). -/
def WordErrs.wf (x : WordErrs) : Bool := decide (x.one < 132) && decide (x.two < 132)

/-- A packet of queue `q` as its egress reads it, with the word errors met so far. -/
structure QueueRead where
  /-- Queue. -/
  q : Nat
  /-- Word errors. -/
  errs : WordErrs
deriving DecidableEq, Repr

/-- The queue exists. -/
def QueueRead.wf (x : QueueRead) : Bool := decide (x.q < 512) && x.errs.wf

/-- The end of a non-periodic split: the errors of the words its result was read from, and what a host completes with it (R78, R120). -/
structure SplitEnd where
  /-- Word errors. -/
  errs : WordErrs
  /-- Request completed. -/
  seen : Seen
deriving DecidableEq, Repr

/-- Both parts are well formed. -/
def SplitEnd.wf (x : SplitEnd) : Bool := x.errs.wf && x.seen.wf

/-- The data of a host's packet: its length, and the request it completes (R120). -/
structure Payload where
  /-- Bytes. -/
  len : Nat
  /-- Request completed. -/
  seen : Seen
deriving DecidableEq, Repr

/-- At most 1,024 bytes. -/
def Payload.wf (x : Payload) : Bool := decide (x.len < 1025) && x.seen.wf

/-- One side of an upstream port: USB 2.0, or SuperSpeed with `ss`. -/
structure BusSide where
  /-- Upstream port. -/
  u : Nat
  /-- SuperSpeed side. -/
  ss : Bool
deriving DecidableEq, Repr

/-- The port exists. -/
def BusSide.wf (x : BusSide) : Bool := decide (x.u < 4)

/-- The data of a cascade frame: its length and the colour and poison tag of its header (R398, R400). -/
structure FrameData where
  /-- Bytes. -/
  len : Nat
  /-- Colour code. -/
  colour : Nat
  /-- Poison tag. -/
  poison : Bool
deriving DecidableEq, Repr

/-- At most 1,024 bytes, and a colour of two bits. -/
def FrameData.wf (x : FrameData) : Bool := decide (x.len < 1025) && decide (x.colour < 4)

/-- What an owner says of its port in PRES_REQ: its LAT, and whether the port has a SuperSpeed PHY (R415). -/
structure OwnerPort where
  /-- LAT in nanoseconds. -/
  lat : Nat
  /-- SuperSpeed PHY. -/
  ss : Bool
deriving DecidableEq, Repr

/-- LAT has 13 bits. -/
def OwnerPort.wf (x : OwnerPort) : Bool := decide (x.lat < 8192)

/-- The device side of bridge channel `c`: the pin SBU`pin`. -/
structure BridgePin where
  /-- Channel. -/
  c : Nat
  /-- SBU1 or SBU2. -/
  pin : Nat
deriving DecidableEq, Repr

/-- The channel and the pin exist. -/
def BridgePin.wf (x : BridgePin) : Bool := decide (x.c < 16) && decide (x.pin < 3)

/-- Who sends data to the device of a bridge channel (R203, R204). -/
inductive BridgeFrom where
  /-- The host of tree `u`, by bulk OUT. -/
  | host (u : Nat)
  /-- The service console. -/
  | console
deriving DecidableEq, Repr

/-- The tree exists. -/
def BridgeFrom.wf (x : BridgeFrom) : Bool :=
  match x with
  | .host u => decide (u < 4)
  | .console => true

/-- A command of the block (opcode_table.json). -/
inductive Instr where
  /-- ABSENT_WRITE (R6). A write to a register of an absent unit or port is ignored and counted in G_ABSENT_WR_CNT. -/
  | absentWrite (m : Master) (a : Nat) (v : Nat)
  /-- PA_LINK_LOSS (R17). A PA die link carries no valid frame for 5 µs while its enable is driven high; the die pulls its gates low, removes Rp and its ports enter PA_LOST. -/
  | paLinkLoss (d : Nat)
  /-- ROOT_CLOCK_LOSS (R27). The RC monitor finds the root clock absent; the part enters SAFE and the collector and console run on the RC oscillator. -/
  | rootClockLoss
  /-- PLL_UNLOCK (R513). The root PLL loses lock after STRAP and asserts F01. -/
  | pllUnlock
  /-- SOF_RECEIVED (R30). An SOF or bus interval on an upstream port realigns that port's microframe timer and frame number. -/
  | sofReceived (u : Nat) (frame : Nat)
  /-- MICROFRAME_BOUNDARY (R30). A tree's microframe timer reaches a boundary, applying staged values, refilling policers and serving red holds. -/
  | microframeBoundary (u : Nat)
  /-- TB_TICK_125US (R116). A 125 µs tick of TB serves as the boundary for levels and entries that belong to no tree. -/
  | tbTick125us
  /-- SHAPER_TICK_UPDATE (R137). At the end of each 1 µs tick of TB every open shaper updates its credit and fraction. -/
  | shaperTickUpdate
  /-- ONE_MS_TICK (R325). A 1 ms tick of TB posts event 15. -/
  | oneMsTick
  /-- PORT_MAP_WRITE (R51). A write of P_MAP[n] that changes where Dn is presented starts the move: old slot disconnected, routing and endpoint entries removed, flushes requested, SE0 driven. -/
  | portMapWrite (n : Nat) (v : Nat)
  /-- MOVE_SE0_END (R51). The 10 ms SE0 of a port move ends. -/
  | moveSe0End (k : Nat)
  /-- ENUM_STALL (R59). A port that has waited ENUM_TO for an address in ENABLED or DISABLED sets ENUM_STALL, counts it, logs it and sends a notice. -/
  | enumStall (n : Nat)
  /-- SET_ADDRESS_COMPLETE (R70). A SET_ADDRESS completes its status stage; the routing entry is filled from the address-0 target and the target cleared. -/
  | setAddressComplete (u : Nat) (a : Nat) (ss : Bool) (h : Nat) (l : Nat)
  /-- SET_PORT_RESET (R66). SetPortFeature(PORT_RESET) starts a port reset and makes the port the address-0 target. -/
  | setPortReset (u : Nat) (h : Nat) (l : Nat) (ss : Bool)
  /-- USB2_PORT_RESET_END (R67). The 15 ms USB 2.0 port reset ends; the port becomes ENABLED with C_PORT_RESET. -/
  | usb2PortResetEnd (n : Nat) (chirp : Bool)
  /-- BH_PORT_RESET (R92). SetPortFeature(BH_PORT_RESET) starts a warm reset with LFPS reset signalling. -/
  | bhPortReset (u : Nat) (h : Nat) (l : Nat)
  /-- HOT_RESET_ESCALATION (R92). A hot reset that has not reached U0 within 2 ms escalates to a warm reset. -/
  | hotResetEscalation (n : Nat)
  /-- WARM_RESET_LFPS_END (R92). Warm reset LFPS signalling ends and the link proceeds through Rx.Detect and Polling. -/
  | warmResetLfpsEnd (n : Nat)
  /-- WARM_RESET_FAIL (R92). A warm reset has not reached U0 at its maximum; the port goes to DISCONNECTED and the failure is counted. -/
  | warmResetFail (n : Nat)
  /-- DEVICE_CONNECT (R66). A pull-up stable for 2.5 µs or a SuperSpeed receiver is detected; the port goes to DISABLED with C_PORT_CONNECTION. -/
  | deviceConnect (n : Nat) (sp : Nat) (ss : Bool)
  /-- DEVICE_DISCONNECT (R66). A device is removed; the port goes to DISCONNECTED and its routing and endpoint entries are cleared. -/
  | deviceDisconnect (n : Nat)
  /-- PORT_ENABLE_ERROR (R66). Babble or loss of activity sends an ENABLED port to DISABLED with C_PORT_ENABLE. -/
  | portEnableError (n : Nat)
  /-- CLEAR_PORT_ENABLE (R66). ClearPortFeature(PORT_ENABLE) sends the port to DISABLED. -/
  | clearPortEnable (u : Nat) (h : Nat) (l : Nat)
  /-- SET_PORT_POWER (R68). SetPortFeature(PORT_POWER) makes the power path eligible again, or is answered STALL when HOST_PWR = 0. -/
  | setPortPower (u : Nat) (h : Nat) (l : Nat)
  /-- CLEAR_PORT_POWER (R68). ClearPortFeature(PORT_POWER) turns the power path off as a command off, or is answered STALL when HOST_PWR = 0. -/
  | clearPortPower (u : Nat) (h : Nat) (l : Nat)
  /-- REG_READ (R63). A vendor REG_READ request reads consecutive registers for the host. -/
  | regRead (u : Nat) (a : Nat) (len : Nat)
  /-- REG_WRITE (R63). A vendor REG_WRITE request issues its register writes in address order when its status stage completes. -/
  | regWrite (u : Nat) (a : Nat) (data : List Nat) (status : Bool)
  /-- GET_RESULT (R63). A vendor GET_RESULT request returns the result of the last REG_READ or REG_WRITE and the index of the first failing register. -/
  | getResult (u : Nat) (len : Nat)
  /-- LOG_READ (R63). A vendor LOG_READ request returns event-log records from the slot in wValue. -/
  | logRead (u : Nat) (slot : Nat) (len : Nat)
  /-- VENDOR_REQUEST_UNKNOWN (R64). A vendor request with an unknown bRequest or a wLength out of range is answered STALL with no access. -/
  | vendorRequestUnknown (u : Nat) (req : Nat) (len : Nat)
  /-- UPSTREAM_BUS_RESET (R75). A recognised bus reset or hot or warm reset on Uu aborts control transfers, discards unissued writes, drops requests and flushes the tree. -/
  | upstreamBusReset (u : Nat) (ss : Bool)
  /-- BUS_RESET_END (R75). The upstream reset ends; routing is cleared, hubs return to address 0 and the tree's ports go to DISCONNECTED and then DISABLED. -/
  | busResetEnd (side : BusSide)
  /-- HS_DOWNSTREAM_TOKEN (R72). A high-speed token from the host is routed to the port named by its address, the address-0 target, or broadcast. -/
  | hsDownstreamToken (u : Nat) (addr : Nat) (epn : Nat) (dirIn : Bool) (pay : Payload)
  /-- PERIODIC_START_SPLIT (R77). A periodic start-split is held for its microframe stage, or not held when the stage is full. -/
  | periodicStartSplit (n : Nat) (addr : Nat) (epn : Nat) (dirIn : Bool) (len : Nat)
  /-- PERIODIC_COMPLETE_SPLIT (R77). A periodic complete-split is answered NYET, with data or handshake, or ERR. -/
  | periodicCompleteSplit (n : Nat) (addr : Nat) (epn : Nat) (dirIn : Bool) (errs : WordErrs)
  /-- NONPERIODIC_START_SPLIT (R78). A non-periodic start-split is answered ACK when a buffer is free, NAK otherwise. -/
  | nonperiodicStartSplit (n : Nat) (addr : Nat) (epn : Nat) (dirIn : Bool) (len : Nat)
  /-- NONPERIODIC_COMPLETE_SPLIT (R78). A non-periodic complete-split is answered NYET while pending, or with the result. -/
  | nonperiodicCompleteSplit (n : Nat) (addr : Nat) (epn : Nat) (dirIn : Bool) (fin : SplitEnd)
  /-- TT_TRANSACTION_DONE (R77). A full- or low-speed transaction run by a TT completes and its result is held for the complete-split. -/
  | ttTransactionDone (n : Nat) (addr : Nat) (epn : Nat) (dirIn : Bool) (res : Nat) (len : Nat) (errs : WordErrs)
  /-- CLEAR_TT_BUFFER (R79). CLEAR_TT_BUFFER frees the TT buffer of a device address and endpoint. -/
  | clearTtBuffer (u : Nat) (h : Nat) (l : Nat) (addr : Nat) (epn : Nat)
  /-- RESET_TT (R79). RESET_TT resets the TT of the named logical port within 1 ms. -/
  | resetTt (u : Nat) (h : Nat) (l : Nat) (value : Nat)
  /-- GET_TT_STATE (R79). GET_TT_STATE is answered with STALL. -/
  | getTtState (u : Nat)
  /-- STOP_TT (R79). STOP_TT is answered with STALL. -/
  | stopTt (u : Nat)
  /-- SET_HUB_DEPTH (R85). SET_HUB_DEPTH sets the depth a hub uses to read its route-string nibble. -/
  | setHubDepth (u : Nat) (h : Nat) (d : Nat)
  /-- UPSTREAM_HOST_ATTACH (R81). A host attaches on an upstream port's USB 2.0 side and the tree is presented at the link's speed. -/
  | upstreamHostAttach (u : Nat) (hs : Bool)
  /-- SS_UPSTREAM_ABSENT (R81). The upstream SuperSpeed link has not reached U0 within 360 ms of USB 2.0 attach and is treated as absent. -/
  | ssUpstreamAbsent (u : Nat)
  /-- SS_UPSTREAM_U0 (R82). The upstream SuperSpeed link reaches U0; the USB 3 hubs appear and downstream SuperSpeed terminations are enabled. -/
  | ssUpstreamU0 (u : Nat) (gen : Nat)
  /-- SS_UPSTREAM_LOSS (R82). The upstream SuperSpeed link is lost; USB 3 hubs disappear and their ports' links go to SS.Disabled. -/
  | ssUpstreamLoss (u : Nat)
  /-- SS_DOWNSTREAM_PACKET (R85). A downstream SuperSpeed packet is decoded by route string and queued to its port, its hub queue, or discarded. -/
  | ssDownstreamPacket (u : Nat) (route : Nat) (addr : Nat) (epn : Nat) (dirIn : Bool) (ty : Nat) (pay : Payload) (seq : Nat) (numP : Nat) (whole : Bool)
  /-- SS_UPSTREAM_PACKET (R87). A packet received on Dn is looked up, metered and queued toward the upstream or cascade link of its tree. -/
  | ssUpstreamPacket (n : Nat) (addr : Nat) (epn : Nat) (dirIn : Bool) (ty : Nat) (len : Nat) (numP : Nat) (whole : Bool)
  /-- ITP_RECEIVED (R90). An isochronous timestamp packet is written once to the tree's ITP queue for every U0 port to read. -/
  | itpReceived (u : Nat)
  /-- ITP_RELEASE_TIMEOUT (R90). 125 µs after its write an ITP's words are released. -/
  | itpReleaseTimeout (u : Nat)
  /-- QUEUE_WRITE_REQUEST (R102). A producer with a packet header asks its queue for w words and stalls until they are free. -/
  | queueWriteRequest (q : Nat) (src : Nat) (x : Nat) (cls : Nat) (len : Nat)
  /-- QUEUE_SPACE_GRANTED (R102). Enough words become free; the write handshake completes and the words are reserved. -/
  | queueSpaceGranted (q : Nat)
  /-- QUEUE_CONFIG_WRITE (R99). A write of CD_QCFG enables a queue, requests a flush, or is refused while the queue is active. -/
  | queueConfigWrite (q : Nat) (v : Nat)
  /-- CUT_THROUGH_START (R103). Enough words of a packet are written to start it toward an idle egress. -/
  | cutThroughStart (rd : QueueRead) (words : Nat) (left : Nat)
  /-- CUT_THROUGH_ABORT (R104). A cut-through packet with bad CRC, poison or a 100 µs ingress stall is ended with EDB and counted. -/
  | cutThroughAbort (rd : QueueRead)
  /-- EGRESS_PICK (R145). An egress free to start a packet chooses one by class, periodic limit, shaper and DRR. -/
  | egressPick (x : Nat) (left : Nat)
  /-- PACKET_STAGED (R95). A packet is wholly staged into the egress buffer and starts on the wire. -/
  | packetStaged (x : Nat) (errs : WordErrs)
  /-- EPISODE_SEEN_READ (R112). A read of CD_QST during an episode marks it seen. -/
  | episodeSeenRead (q : Nat)
  /-- PROTECTION_WRITE (R108). A write of CD_PROT changes bank codes from the next cycle, or is refused for a bank still pending. -/
  | protectionWrite (v : Nat)
  /-- QUEUE_FLUSH (R109). A write of CD_QCTL.FLUSH requests a flush with a boundary B. -/
  | queueFlush (q : Nat)
  /-- FLUSH_BOUNDARY (R109). Boundary B is reached; discarded packets are skipped, counted and FLUSH_DONE rises. -/
  | flushBoundary (q : Nat)
  /-- FLUSH_PRODUCER_TIMEOUT (R110). A producer writes no word for 100 µs while a flush waits; its packet is aborted and B reached. -/
  | flushProducerTimeout (q : Nat)
  /-- RED_HOLD_FORCED (R132). A hold that has lasted RED_MAX boundaries ends; its packet is released yellow and counted. -/
  | redHoldForced (p : Nat)
  /-- FORGIVE (R140). A write of 1 to a TM_SH_FORGIVE bit clears the shaper's debt after the next tick. -/
  | forgive (x : Nat)
  /-- TREE_SUSPEND (R155). Uu's USB 2.0 lines idle in J for 3.0 ms suspend the tree's hubs and stop SOF to its ports. -/
  | treeSuspend (u : Nat)
  /-- SET_PORT_SUSPEND (R158). SetPortFeature(PORT_SUSPEND) selectively suspends a port, back hub or management function. -/
  | setPortSuspend (u : Nat) (h : Nat) (l : Nat)
  /-- CLEAR_PORT_SUSPEND (R158). ClearPortFeature(PORT_SUSPEND) drives K on a suspended or L1 port to resume it. -/
  | clearPortSuspend (u : Nat) (h : Nat) (l : Nat)
  /-- PORT_RESUME_END (R158). Resume signalling on a port ends with EOP; the port becomes ENABLED with C_PORT_SUSPEND. -/
  | portResumeEnd (n : Nat)
  /-- HOST_RESUME (R158). K from the host on Uu is repeated to every tree-suspended port. -/
  | hostResume (u : Nat)
  /-- HOST_RESUME_END (R158). The host's EOP ends global resume and SOF resumes next microframe. -/
  | hostResumeEnd (u : Nat)
  /-- DEVICE_RESUME (R158). K from a device on a selectively suspended or L1 port with its hub awake is taken over and driven by the part. -/
  | deviceResume (n : Nat)
  /-- DEVICE_WAKE (R159). A wake or port change on a port whose hub chain is asleep propagates where remote wake is allowed, or is held, and is counted. -/
  | deviceWake (n : Nat)
  /-- UPSTREAM_WAKE_DRIVE_START (R158). The part begins driving K on Uu for a propagated wake. -/
  | upstreamWakeDriveStart (u : Nat)
  /-- UPSTREAM_WAKE_DRIVE_END (R160). The part releases Uu after its upstream drive and repeats the host's K if present. -/
  | upstreamWakeDriveEnd (u : Nat)
  /-- WAKE_NO_HOST_RESUME (R160). No host K within 1 ms of the release leaves the tree suspended. -/
  | wakeNoHostResume (u : Nat)
  /-- SET_AND_TEST_PORT_L1 (R161). SetAndTestPortFeature(PORT_L1) sends LPM tokens to the device, or is refused. -/
  | setAndTestPortL1 (u : Nat) (h : Nat) (l : Nat) (addr : Nat) (besl : Nat) (rwe : Bool)
  /-- L1_TOKEN_RESPONSE (R161). The device answers the LPM token; on ACK the port enters L1. -/
  | l1TokenResponse (n : Nat) (resp : Nat)
  /-- L1_TOKEN_TIMEOUT (R161). No response within 16 bit times records TIMEOUT. -/
  | l1TokenTimeout (n : Nat)
  /-- UPSTREAM_LPM_TOKEN (R163). An LPM token to the front hub is accepted when allowed, otherwise answered NYET. -/
  | upstreamLpmToken (u : Nat)
  /-- UPSTREAM_L1_EXIT (R163). Uu leaves L1 on resume signalling and is ready within 20 µs. -/
  | upstreamL1Exit (u : Nat)
  /-- SET_PORT_U1_TIMEOUT (R164). SetPortFeature(PORT_U1_TIMEOUT) sets the port's U1 timeout. -/
  | setPortU1Timeout (u : Nat) (h : Nat) (l : Nat) (v : Nat)
  /-- SET_PORT_U2_TIMEOUT (R164). SetPortFeature(PORT_U2_TIMEOUT) sets the port's U2 timeout and sends it to the device. -/
  | setPortU2Timeout (u : Nat) (h : Nat) (l : Nat) (v : Nat)
  /-- U1_IDLE_TIMEOUT (R164). A downstream link idle for U1_TIMEOUT sends LGO_U1. -/
  | u1IdleTimeout (n : Nat)
  /-- U2_INACTIVITY_TIMEOUT (R164). The U2 inactivity timeout moves the link from U1 to U2, or from U0 sends LGO_U2. -/
  | u2InactivityTimeout (n : Nat)
  /-- DEVICE_LGO (R164). A device's U1 or U2 request is accepted or rejected by the timeout values. -/
  | deviceLgo (n : Nat) (k : Nat)
  /-- UX_EXIT (R165). A downstream link leaves U1 or U2 on device LFPS or a held packet. -/
  | uxExit (n : Nat)
  /-- UX_EXIT_TIMEOUT (R165). A link not in U0 within 2 ms of exit start enters Recovery. -/
  | uxExitTimeout (n : Nat)
  /-- RECOVERY_FAIL (R165). Failed Recovery sends the link to SS.Inactive and is counted. -/
  | recoveryFail (n : Nat)
  /-- SS_LINK_U0 (R89). A downstream link reaches U0; held packets go and ERDY is sent for deferred ones. -/
  | ssLinkU0 (n : Nat) (gen : Nat)
  /-- SET_PORT_LINK_STATE_U3 (R166). SetPortFeature(PORT_LINK_STATE) with U3 sends the link to U3. -/
  | setPortLinkStateU3 (u : Nat) (h : Nat) (l : Nat)
  /-- SET_PORT_LINK_STATE_U0 (R166). SetPortFeature(PORT_LINK_STATE) with U0 resumes the link. -/
  | setPortLinkStateU0 (u : Nat) (h : Nat) (l : Nat)
  /-- DEVICE_U3_EXIT (R173). A device leaves U3 by LFPS; C_PORT_LINK_STATE is set and Uu leaves U3 if needed to forward Function Wake. -/
  | deviceU3Exit (n : Nat)
  /-- UPSTREAM_LGO (R167). LGO_U1, LGO_U2 or LGO_U3 from the host is answered LAU or LXU. -/
  | upstreamLgo (u : Nat) (k : Nat)
  /-- UPSTREAM_U1_INITIATE (R167). Uu idle for US_U1_IDLE with its conditions met initiates U1. -/
  | upstreamU1Initiate (u : Nat)
  /-- UPSTREAM_U2_INITIATE (R167). Uu idle for US_U2_IDLE with its conditions met initiates U2. -/
  | upstreamU2Initiate (u : Nat)
  /-- UPSTREAM_U3_ENTRY (R172). Uu's SuperSpeed link enters U3 and every active downstream link of the tree is sent to U3. -/
  | upstreamU3Entry (u : Nat)
  /-- UPSTREAM_U3_EXIT (R172). Uu leaves U3; downstream links stay in U3 until resumed. -/
  | upstreamU3Exit (u : Nat)
  /-- DORMANT_ENTRY (R175). DORM_DLY after every host-facing tree is asleep, the part enters DORMANT. -/
  | dormantEntry
  /-- CC_ATTACH (R185). A CC pin first classifies as Rd; TC_STATE becomes ATTACH_WAIT and debounce starts. -/
  | ccAttach (n : Nat) (cc1 : Nat) (cc2 : Nat)
  /-- ATTACH_DEBOUNCE_END (R185). CC classes steady for ATTACH_DB end debounce; the moisture check starts, or UNSUPPORTED or DEBUG_ACC is chosen. -/
  | attachDebounceEnd (n : Nat)
  /-- MOISTURE_CHECK_DONE (R192). The moisture check completes; a pass proceeds toward ATTACHED, a failure enters steam hold. -/
  | moistureCheckDone (n : Nat) (cc1 : Nat) (cc2 : Nat) (sbu1 : Nat) (sbu2 : Nat)
  /-- SEAT_CONFIRMED (R190). SEAT low for SEAT_DB confirms seating; a SEAT_WAIT port proceeds. -/
  | seatConfirmed (n : Nat)
  /-- SEAT_LOSS (R191). SEAT high for 1 ms on a cradle port drops PWR_OK, ends the contract and removes Rp for 25 ms. -/
  | seatLoss (n : Nat)
  /-- ERROR_RECOVERY_END (R191). After 25 ms Rp is restored; a new attach follows if Rd is found, otherwise the detach is reported. -/
  | errorRecoveryEnd (n : Nat) (cc1 : Nat) (cc2 : Nat)
  /-- CC_OPEN (R188). The CC pin that carried Rd reads open; TC_STATE becomes DETACHING and a running transition is aborted. -/
  | ccOpen (n : Nat)
  /-- DETACH_CANCELLED (R188). Rd returns before tPDDebounce; the detach is cancelled and counted, and a Hard Reset follows after an aborted transition. -/
  | detachCancelled (n : Nat) (cc1 : Nat) (cc2 : Nat)
  /-- TPDDEBOUNCE_END (R188). The pin has read open for tPDDebounce; PWR_OK falls, power, VCONN and SBU are turned off. -/
  | tpddebounceEnd (n : Nat)
  /-- DETACH_REPORTED (R188). Open for ATTACH_DB, the detach is reported: UNATTACHED, DISCONNECTED and a record. -/
  | detachReported (n : Nat)
  /-- MOISTURE_RETEST (R195). RETEST after the previous check a steam-hold re-test runs. -/
  | moistureRetest (n : Nat)
  /-- OVERRIDE (R196). P_TC_CMD.OVERRIDE ends steam hold for the present attachment, or is refused. -/
  | override (n : Nat)
  /-- RECHECK (R196). P_TC_CMD.RECHECK runs a moisture check at once on an eligible port, or is refused. -/
  | recheck (n : Nat)
  /-- CRADLE_WRITE (R186). A write of P_TC_CFG changing CRADLE drops or releases the seating gate of the port. -/
  | cradleWrite (n : Nat) (v : Nat)
  /-- VCONN_TRIP (R198). VCONN overcurrent turns VCONN off for the attachment and is counted. -/
  | vconnTrip (n : Nat)
  /-- SBU_OVERVOLTAGE (R200). An SBU pin above 4.0 V opens its switch within 1 µs and is counted. -/
  | sbuOvervoltage (n : Nat)
  /-- SB_CONFIG_WRITE (R202). A write changing MODE or PORT of an active channel releases it and reapplies the channel rules. -/
  | sbConfigWrite (c : Nat) (v : Nat)
  /-- SET_LINE_CODING (R201). A CDC SET_LINE_CODING sets a channel's line settings, or is answered STALL. -/
  | setLineCoding (u : Nat) (c : Nat) (rate : Nat) (bits : Nat) (parity : Nat) (stopBits : Nat)
  /-- BRIDGE_RX_DATA (R203). Data received from the device goes to the CDC bulk IN endpoint, dropping the oldest over 4 KiB. -/
  | bridgeRxData (line : BridgePin) (bytes : List Byte)
  /-- BRIDGE_TX_DATA (R203). Bulk OUT data is sent to the device, or NAKed while the channel is inactive or console-held. -/
  | bridgeTxData (src : BridgeFrom) (c : Nat) (bytes : List Byte)
  /-- DRP_TOGGLE (R184). An upstream port with DRP toggles between Rp and Rd each half period. -/
  | drpToggle (u : Nat)
  /-- PD_MESSAGE_RECEIVED (R214). A valid PD message is received, GoodCRC sent and queued in the receive FIFO, or refused when full. -/
  | pdMessageReceived (k : Nat) (kind : Nat) (bytes : Nat) (h : Nat) (objs : List Nat)
  /-- PD_RETRY_TIMEOUT (R214). tReceive expires without GoodCRC; the message is retried or completes FAILED. -/
  | pdRetryTimeout (k : Nat)
  /-- PD_TX_START (R215). After CC idle for 25 µs, and tSinkTx where needed, the engine starts transmitting. -/
  | pdTxStart (k : Nat)
  /-- PD_TX_COMPLETE (R219). A transmission completes on GoodCRC and its result is posted; PD_NEXT applies on an Accept and the contract updates on PS_RDY. -/
  | pdTxComplete (k : Nat)
  /-- TX_GO (R221). PD_CMD TX_GO starts the transmit buffer, or is refused. -/
  | txGo (k : Nat)
  /-- RX_POP (R221). PD_CMD RX_POP removes the head receive entry, or is refused when empty. -/
  | rxPop (k : Nat)
  /-- HARD_RESET (R242). PD_CMD HARD_RESET sends Hard Reset signalling, or is refused. -/
  | hardReset (k : Nat)
  /-- CABLE_RESET (R242). PD_CMD CABLE_RESET sends Cable Reset signalling, or is refused. -/
  | cableReset (k : Nat)
  /-- HARD_RESET_RECEIVED (R237). Hard Reset signalling received starts the hardware Hard Reset sequence and discards pending transmissions. -/
  | hardResetReceived (k : Nat)
  /-- CABLE_RESET_RECEIVED (R218). Cable Reset signalling received posts a kind 4 entry. -/
  | cableResetReceived (k : Nat)
  /-- TPSHARDRESET_END (R237). tPSHardReset ends; the contract is dropped, the path discharges and VCONN turns off. -/
  | tpshardresetEnd (k : Nat)
  /-- TSRCRECOVER_END (R237). tSrcRecover ends; VCONN turns on again and the path may ramp. -/
  | tsrcrecoverEnd (k : Nat)
  /-- HR_VSAFE5V_TIMEOUT (R237). VBUS not at vSafe5V at step 4's maximum ends HR_SEQ with no contract. -/
  | hrVsafe5vTimeout (k : Nat)
  /-- PD_NEXT_WRITE (R227). A write of PD_NEXT is range-checked and staged for the next Accept, or refused. -/
  | pdNextWrite (k : Nat) (v : Nat)
  /-- TSRCTRANSITION_END (R228). tSrcTransition ends and VSET moves toward the new voltage. -/
  | tsrctransitionEnd (k : Nat)
  /-- TRANSITION_DONE (R228). VBUS settles at the target and a kind 5 entry is posted. -/
  | transitionDone (k : Nat)
  /-- TRANSITION_TIMEOUT (R228). VBUS not settled at step 3's maximum makes the engine send Hard Reset. -/
  | transitionTimeout (k : Nat)
  /-- EPR_KEEPALIVE_EXPIRY (R226). No EPR_KeepAlive within tSourceEPRKeepAlive sends Hard Reset and posts kind 7. -/
  | eprKeepaliveExpiry (k : Nat)
  /-- PPS_TIMEOUT (R226). No PPS Request within tPPSTimeout sends Hard Reset and posts kind 7. -/
  | ppsTimeout (k : Nat)
  /-- FR_SWAP_SIGNAL (R236). The FR_Swap signal with VBUS falling makes the upstream port source vSafe5V within 150 µs. -/
  | frSwapSignal (u : Nat)
  /-- RAMP_START (R262). All conditions of R261 hold; the forced implicit take is made and PRECHECK starts. -/
  | rampStart (k : Nat)
  /-- PRECHECK_END (R262). PRECHECK ends with VBUS low and SLOPE begins. -/
  | precheckEnd (k : Nat)
  /-- FET_SHORT (R263). VBUS at or above 0.8 V during PRECHECK ends the ramp with FET_SHORT and a hard off to STUCK. -/
  | fetShort (k : Nat) (v : Nat)
  /-- SLOPE_END (R262). VBUS reaches 4.75 V, or the slope's maximum time passes, and ENHANCE begins. -/
  | slopeEnd (k : Nat)
  /-- GATE_RISE_END (R262). GATE_RISE passes in ENHANCE without GATE or VBUS reaching their levels; GATE_STUCK or a UV trip follows. -/
  | gateRiseEnd (k : Nat) (gateOk : Bool)
  /-- POWER_GOOD (R264). The ramp is complete with no fault timer running; PGOOD rises, FT_RUN is armed and USB terminations follow. -/
  | powerGood (k : Nat)
  /-- FAST_TRIP (R265). The shunt voltage exceeds the armed threshold for 100 ns; the gate falls within 1 µs and the trip is recorded. -/
  | fastTrip (k : Nat)
  /-- SLOW_TRIP (R267). The shared OC/UV fault timer reaches FAULT_T; the path trips with its cause. -/
  | slowTrip (k : Nat)
  /-- OV_TRIP (R267). The OV timer reaches 100 µs; the path trips with cause OV. -/
  | ovTrip (k : Nat)
  /-- RETRY_WAIT_END (R269). The retry wait ends and a retry ramp starts when R261 holds. -/
  | retryWaitEnd (k : Nat)
  /-- RETRY_COUNT_RESET (R270). PGOOD held for 5.0 s returns the retry count to 1. -/
  | retryCountReset (k : Nat)
  /-- VSET_TRIM (R259). Every 1 ms with PGOOD and no slew, the VSET code is trimmed by 1 toward the target within its limit. -/
  | vsetTrim (k : Nat)
  /-- VSET_SLEW_DONE (R260). The reference code reaches its new value and STATE leaves SLEW. -/
  | vsetSlewDone (k : Nat)
  /-- VSET_PWM_PERIOD (R258). A VSET PWM period begins and staged PP_CFG values apply. -/
  | vsetPwmPeriod (k : Nat)
  /-- DISCHARGE_GATE_TIMEOUT (R272). VBUS still high 60 ms into a soft off; GATE is pulled to ISP anyway. -/
  | dischargeGateTimeout (k : Nat)
  /-- VBUS_DISCHARGED (R273). VBUS falls below 0.8 V; the path takes its final state and the Basin charge is returned. -/
  | vbusDischarged (k : Nat) (v : Nat)
  /-- DISCHARGE_SLOW (R274). VBUS still high 650 ms after an off sets DIS_SLOW, counts, logs and returns the charge. -/
  | dischargeSlow (k : Nat)
  /-- PP_ON (R276). PP_CMD ON ends a command off, or is refused. -/
  | ppOn (k : Nat)
  /-- PP_OFF (R276). PP_CMD OFF soft-offs the path, cancels RETRY_WAIT and resets the retry count, or is refused. -/
  | ppOff (k : Nat)
  /-- PP_RELEASE (R276). PP_CMD RELEASE turns LATCHED into OFF, or is refused. -/
  | ppRelease (k : Nat)
  /-- CLEAR_STUCK (R276). PP_CMD CLEAR_STUCK turns STUCK into OFF, or is refused. -/
  | clearStuck (k : Nat)
  /-- BASIN_TICK (R294). Each 1 ms Basin tick updates measured power and energy buckets, the heat factor, LIMIT and SHED causes. -/
  | basinTick (temps : List Nat)
  /-- GRANT_EXPIRY (R292). An unused grant reaches GRANT_T and is released, its entry removed and counted. -/
  | grantExpiry (k : Nat)
  /-- SENSOR_SELF_TEST (R296). Every 1 s each die sensor makes a self-test conversion and a stuck sensor asserts F04. -/
  | sensorSelfTest (idx : Nat) (diff : Nat)
  /-- BOARD_SENSOR_READ (R297). A board sensor is read by analog sample or I²C; three invalid readings set FAULT. -/
  | boardSensorRead (j : Nat) (valid : Bool) (temp : Nat)
  /-- BOARD_SENSOR_CONFIG_WRITE (R297). Switching a board sensor off clears VALID and FAULT at once. -/
  | boardSensorConfigWrite (j : Nat) (v : Nat)
  /-- SHED_POWER_OFF (R302). At level 4 with a cause present, one downstream port is soft-offed every OFF_GAP. -/
  | shedPowerOff
  /-- SHED_PORT_RELEASE (R303). Below level 4, one powered-off port is released every OFF_GAP, last off first. -/
  | shedPortRelease
  /-- SHED_LEVEL_WRITE (R301). A write of BSN_SHED_CTL.LEVEL sets the program SHED level. -/
  | shedLevelWrite (v : Nat)
  /-- CAP_WRITE (R291). A write of a chip or group cap takes effect at once and triggers a queue scan. -/
  | capWrite (g : Nat) (v : Nat)
  /-- START (R314). TK_TCTL START clears the thread's state and enters RUN at TK_TPC, or is refused. -/
  | start (t : Nat)
  /-- HALT (R314). TK_TCTL HALT stops the thread at its next instruction boundary. -/
  | halt (t : Nat)
  /-- RESUME (R314). TK_TCTL RESUME continues a halted thread. -/
  | resume (t : Nat)
  /-- STOP (R314). TK_TCTL STOP halts the thread and turns it OFF. -/
  | stop (t : Nat)
  /-- WAIT_WAKE (R324). A post of an enabled event wakes a thread in WAIT, which takes the lowest enabled pending event. -/
  | waitWake (t : Nat)
  /-- OPERATION_COMPLETE (R311). A long operation completes and the thread leaves STALL. -/
  | operationComplete (t : Nat)
  /-- THREAD_TIMER_EXPIRY (R329). A thread timer expires, posts event 0–3 and reloads if periodic. -/
  | threadTimerExpiry (t : Nat) (j : Nat)
  /-- HOST_REQUEST_ENTRY (R336). A host control request to a tree's hubs or management function is placed in its mailbox slot and posts event 4 + u. -/
  | hostRequestEntry (u : Nat) (target : Nat) (ss : Bool) (w1 : Nat) (w2 : Nat) (data : List Byte)
  /-- HOST_REQUEST_TIMEOUT (R338). A host request unanswered for HOST_TO is answered STALL, removed and counted. -/
  | hostRequestTimeout (u : Nat) (tag : Nat)
  /-- ADD (R353). gd = ga + gb. -/
  | add (t : Nat) (rd : Nat) (ra : Nat) (rb : Nat)
  /-- SUB (R353). gd = ga − gb. -/
  | sub (t : Nat) (rd : Nat) (ra : Nat) (rb : Nat)
  /-- AND (R353). gd = ga & gb. -/
  | and (t : Nat) (rd : Nat) (ra : Nat) (rb : Nat)
  /-- OR (R353). gd = ga | gb. -/
  | or (t : Nat) (rd : Nat) (ra : Nat) (rb : Nat)
  /-- XOR (R353). gd = ga ^ gb. -/
  | xor (t : Nat) (rd : Nat) (ra : Nat) (rb : Nat)
  /-- SLL (R353). Shift left by gb & 31. -/
  | sll (t : Nat) (rd : Nat) (ra : Nat) (rb : Nat)
  /-- SRL (R353). Logical shift right by gb & 31. -/
  | srl (t : Nat) (rd : Nat) (ra : Nat) (rb : Nat)
  /-- SRA (R353). Arithmetic shift right by gb & 31. -/
  | sra (t : Nat) (rd : Nat) (ra : Nat) (rb : Nat)
  /-- SLLI (R353). Shift left by sh. -/
  | slli (t : Nat) (rd : Nat) (ra : Nat) (amt : Nat)
  /-- SRLI (R353). Logical shift right by sh. -/
  | srli (t : Nat) (rd : Nat) (ra : Nat) (amt : Nat)
  /-- SRAI (R353). Arithmetic shift right by sh. -/
  | srai (t : Nat) (rd : Nat) (ra : Nat) (amt : Nat)
  /-- SLT (R353). Signed set-less-than. -/
  | slt (t : Nat) (rd : Nat) (ra : Nat) (rb : Nat)
  /-- SLTU (R353). Unsigned set-less-than. -/
  | sltu (t : Nat) (rd : Nat) (ra : Nat) (rb : Nat)
  /-- MUL (R353). Low 32 bits of the product. -/
  | mul (t : Nat) (rd : Nat) (ra : Nat) (rb : Nat)
  /-- MULHU (R353). High 32 bits of the unsigned product. -/
  | mulhu (t : Nat) (rd : Nat) (ra : Nat) (rb : Nat)
  /-- EXTU (R353). Extract an unsigned bit field. -/
  | extu (t : Nat) (rd : Nat) (ra : Nat) (amt : Nat) (w1 : Nat)
  /-- INS (R353). Insert a bit field into gd. -/
  | ins (t : Nat) (rd : Nat) (ra : Nat) (amt : Nat) (w1 : Nat)
  /-- CLZ (R353). Count leading zeros. -/
  | clz (t : Nat) (rd : Nat) (ra : Nat)
  /-- ADDI (R354). gd = ga + sext16(imm). -/
  | addi (t : Nat) (rd : Nat) (ra : Nat) (imm : Nat)
  /-- ANDI (R354). gd = ga & zext16(imm). -/
  | andi (t : Nat) (rd : Nat) (ra : Nat) (imm : Nat)
  /-- ORI (R354). gd = ga | zext16(imm). -/
  | ori (t : Nat) (rd : Nat) (ra : Nat) (imm : Nat)
  /-- XORI (R354). gd = ga ^ zext16(imm). -/
  | xori (t : Nat) (rd : Nat) (ra : Nat) (imm : Nat)
  /-- SLTI (R354). Signed compare with immediate. -/
  | slti (t : Nat) (rd : Nat) (ra : Nat) (imm : Nat)
  /-- SLTIU (R354). Unsigned compare with sign-extended immediate. -/
  | sltiu (t : Nat) (rd : Nat) (ra : Nat) (imm : Nat)
  /-- LUI (R354). gd = imm << 16. -/
  | lui (t : Nat) (rd : Nat) (imm : Nat)
  /-- JALR (R354). Jump to ga + sext16(imm), linking PC + 4. -/
  | jalr (t : Nat) (rd : Nat) (ra : Nat) (imm : Nat)
  /-- LB (R356). Load a sign-extended byte. -/
  | lb (t : Nat) (rt : Nat) (ra : Nat) (off : Nat)
  /-- LBU (R356). Load a zero-extended byte. -/
  | lbu (t : Nat) (rt : Nat) (ra : Nat) (off : Nat)
  /-- LH (R356). Load a sign-extended halfword. -/
  | lh (t : Nat) (rt : Nat) (ra : Nat) (off : Nat)
  /-- LHU (R356). Load a zero-extended halfword. -/
  | lhu (t : Nat) (rt : Nat) (ra : Nat) (off : Nat)
  /-- LW (R356). Load a word. -/
  | lw (t : Nat) (rt : Nat) (ra : Nat) (off : Nat)
  /-- LWP (R357). Load a register pair, or a 64-bit register access. -/
  | lwp (t : Nat) (rt : Nat) (ra : Nat) (off : Nat)
  /-- SB (R356). Store a byte. -/
  | sb (t : Nat) (rt : Nat) (ra : Nat) (off : Nat)
  /-- SH (R356). Store a halfword. -/
  | sh (t : Nat) (rt : Nat) (ra : Nat) (off : Nat)
  /-- SW (R356). Store a word. -/
  | sw (t : Nat) (rt : Nat) (ra : Nat) (off : Nat)
  /-- BEQ (R358). Branch if equal. -/
  | beq (t : Nat) (ra : Nat) (rb : Nat) (off : Nat)
  /-- BNE (R358). Branch if not equal. -/
  | bne (t : Nat) (ra : Nat) (rb : Nat) (off : Nat)
  /-- BLT (R358). Branch if signed less. -/
  | blt (t : Nat) (ra : Nat) (rb : Nat) (off : Nat)
  /-- BGE (R358). Branch if signed greater or equal. -/
  | bge (t : Nat) (ra : Nat) (rb : Nat) (off : Nat)
  /-- BLTU (R358). Branch if unsigned less. -/
  | bltu (t : Nat) (ra : Nat) (rb : Nat) (off : Nat)
  /-- BGEU (R358). Branch if unsigned greater or equal. -/
  | bgeu (t : Nat) (ra : Nat) (rb : Nat) (off : Nat)
  /-- JAL (R358). Jump with link. -/
  | jal (t : Nat) (rd : Nat) (off : Nat)
  /-- PRD (R362). Port read primitive. -/
  | prd (t : Nat) (rd : Nat) (ra : Nat) (rb : Nat) (rc : Nat)
  /-- PWR (R362). Port write primitive with full mask. -/
  | pwr (t : Nat) (rd : Nat) (ra : Nat) (rb : Nat) (rc : Nat)
  /-- PWRM (R362). Masked port read-merge-write primitive. -/
  | pwrm (t : Nat) (rd : Nat) (ra : Nat) (rb : Nat) (rc : Nat)
  /-- PSND (R360). PD send primitive. -/
  | psnd (t : Nat) (rd : Nat) (ra : Nat) (rb : Nat)
  /-- PRCV (R360). PD receive primitive. -/
  | prcv (t : Nat) (rd : Nat) (ra : Nat) (rb : Nat)
  /-- TAKE (R288). Credit TAKE of ΔP for port k. -/
  | take (t : Nat) (rd : Nat) (ra : Nat) (rb : Nat)
  /-- TAKEQ (R290). Credit TAKE_Q, queuing the raise when it does not fit. -/
  | takeq (t : Nat) (rd : Nat) (ra : Nat) (rb : Nat)
  /-- GIVE (R287). Credit GIVE lowering the port's charge, followed by a queue scan. -/
  | give (t : Nat) (rd : Nat) (ra : Nat) (rb : Nat)
  /-- CANCEL (R287). Credit CANCEL removing the port's queue entry and grant. -/
  | cancel (t : Nat) (rd : Nat) (ra : Nat)
  /-- AADD (R360). Atomic add to a memory word. -/
  | aadd (t : Nat) (rd : Nat) (ra : Nat) (rb : Nat)
  /-- CAS (R360). Atomic compare-and-swap. -/
  | cas (t : Nat) (rd : Nat) (ra : Nat) (rb : Nat) (rc : Nat)
  /-- EPOST (R361). Post an event to a thread. -/
  | epost (t : Nat) (rd : Nat) (ra : Nat) (rb : Nat)
  /-- QFLUSH (R333). Queue flush primitive. -/
  | qflush (t : Nat) (rd : Nat) (ra : Nat)
  /-- QGET (R334). Copy the head packet of a queue to memory and release it. -/
  | qget (t : Nat) (rd : Nat) (ra : Nat) (rb : Nat) (rc : Nat)
  /-- QPUT (R334). Write a packet into a queue for an egress and class. -/
  | qput (t : Nat) (rd : Nat) (ra : Nat) (rb : Nat) (rc : Nat)
  /-- RGET (R337). Copy the oldest untaken mailbox entry to local memory. -/
  | rget (t : Nat) (rd : Nat) (ra : Nat) (rb : Nat)
  /-- RDONE (R338). End a request with ACK or STALL and optional IN data. -/
  | rdone (t : Nat) (rd : Nat) (ra : Nat) (rb : Nat) (rc : Nat)
  /-- WAIT (R324). Take an enabled pending event or block. -/
  | wait (t : Nat) (rd : Nat)
  /-- ETEST (R364). Take an enabled pending event without blocking. -/
  | etest (t : Nat) (rd : Nat)
  /-- EVS (R364). Set event enable bits. -/
  | evs (t : Nat) (idx : Nat) (ra : Nat)
  /-- EVC (R364). Clear event enable bits. -/
  | evc (t : Nat) (idx : Nat) (ra : Nat)
  /-- EVR (R364). Read event enable bits. -/
  | evr (t : Nat) (rd : Nat) (idx : Nat)
  /-- EVPR (R364). Read event pending bits. -/
  | evpr (t : Nat) (rd : Nat) (idx : Nat)
  /-- TSET (R329). Set, or stop, a thread timer. -/
  | tset (t : Nat) (j : Nat) (p : Bool) (ra : Nat)
  /-- TRD (R364). Read the time left on a timer. -/
  | trd (t : Nat) (rd : Nat) (j : Nat)
  /-- TRAP (R342). Raise a TRAP exception with a code. -/
  | trap (t : Nat) (code : Nat)
  /-- ERET (R365). Return from an exception. -/
  | eret (t : Nat)
  /-- TID (R364). Read the thread number and privilege. -/
  | tid (t : Nat) (rd : Nat)
  /-- ILLEGAL_ENCODING (R350). An undefined or malformed instruction word raises ILLEGAL. -/
  | illegalEncoding (t : Nat) (w : Nat)
  /-- IMAGE_LOADED (R381). Banks are read and checked and the chosen image loaded; start-up writes and the register table apply and threads start. -/
  | imageLoaded (quadBadA : Bool) (quadBadB : Bool)
  /-- CONFIRM (R382). A write of G_BOOT_CTL.CONFIRM confirms the image and advances rollback fuses when asked. -/
  | confirm
  /-- CONFIRM_TIMEOUT (R382). No confirmation within 2.0 s sets FAIL_A or FAIL_B and makes a boot reset. -/
  | confirmTimeout
  /-- FUSE_WRITE (R383). A privileged write of a fuse field blows its bits and locks it, or is refused. -/
  | fuseWrite (m : Master) (idx : Nat) (v : Nat)
  /-- BEGIN (R385). G_UPD_CTL BEGIN starts UPDATE and records the owner. -/
  | updBegin (m : Master)
  /-- ERASE (R385). G_UPD_CTL ERASE erases a 4 KiB sector of the inactive bank. -/
  | erase (m : Master)
  /-- PROGRAM (R385). G_UPD_CTL PROGRAM programs 256 bytes from G_UPD_BUF. -/
  | program (m : Master)
  /-- VERIFY (R385). G_UPD_CTL VERIFY checks a bank and reports its code. -/
  | verify (m : Master)
  /-- END (R385). G_UPD_CTL END ends UPDATE. -/
  | updEnd (m : Master)
  /-- FLASH_OP_COMPLETE (R385). The flash reports ready and BUSY falls. -/
  | flashOpComplete
  /-- UPDATE_TIMEOUT (R386). 60 s without a command from the owner ends UPDATE with ABORTED. -/
  | updateTimeout
  /-- KCL_AUTO_DETECT (R392). In AUTO, terminations on both lanes and 100 ms without Rp make Uu a KCL link. -/
  | kclAutoDetect (u : Nat)
  /-- KCL_TERMINATION_DETECT (R395). Far-end terminations on both lane pairs start training in POLL. -/
  | kclTerminationDetect (u : Nat)
  /-- KCL_POLL_LOCK (R395). 16 consecutive KTS1 on each lane give block lock and deskew; CONFIG begins. -/
  | kclPollLock (u : Nat)
  /-- KCL_CONFIG_DONE (R395). 8 identical KTS2 on each lane fix lane order, version and peer; the link goes to NUMBERING, UP or UNNUMBERED. -/
  | kclConfigDone (u : Nat) (swap : Bool) (ver : Nat) (peerLink : Nat) (hasId : Bool) (peerChip : Nat) (peerDie : Nat)
  /-- KCL_TRAIN_TIMEOUT (R395). Training step 2 or 3 not complete at its maximum fails and is counted. -/
  | kclTrainTimeout (u : Nat) (oneLane : Bool)
  /-- KCL_TRAIN_RETRY (R395). 10 ms after a failure the port returns to detection. -/
  | kclTrainRetry (u : Nat)
  /-- DATA_FRAME (R423). A DATA frame is received and written to its destination queue or forwarded. -/
  | dataFrame (u : Nat) (seq : Nat) (dest : Nat) (gchip : Nat) (port : Nat) (epn : Nat) (dirIn : Bool) (colour : Nat) (poison : Bool) (toHost : Bool) (kind : Nat) (per : Bool) (addr : Nat) (len : Nat) (pseq : Nat) (numP : Nat)
  /-- PROXY_FRAME (R424). A PROXY request or result is received and carried out or held. -/
  | proxyFrame (u : Nat) (seq : Nat) (dest : Nat) (gchip : Nat) (port : Nat) (epn : Nat) (dirIn : Bool) (toHost : Bool) (kind : Nat) (pid : Nat) (res : Nat) (body : FrameData)
  /-- ISOPF_FRAME (R426). An ISOPF prefetch request or data frame is received. -/
  | isopfFrame (u : Nat) (seq : Nat) (dest : Nat) (gchip : Nat) (port : Nat) (epn : Nat) (dirIn : Bool) (toHost : Bool) (body : FrameData)
  /-- PRES_REQ (R415). A presentation request is accepted with PRES_ACK or refused with PRES_NAK. -/
  | presReq (u : Nat) (seq : Nat) (dest : Nat) (gchip : Nat) (port : Nat) (t : Nat) (h : Nat) (l : Nat) (own : OwnerPort)
  /-- PRES_ACK (R416). PRES_ACK arrives at the owner and the presentation proceeds. -/
  | presAck (u : Nat) (seq : Nat) (dest : Nat) (n : Nat) (lat : Nat)
  /-- PRES_NAK (R416). PRES_NAK arrives; STATE becomes REFUSED with its cause. -/
  | presNak (u : Nat) (seq : Nat) (dest : Nat) (n : Nat) (cause : Nat)
  /-- PRES_END (R416). PRES_END frees the presenter's remote slot. -/
  | presEnd (u : Nat) (seq : Nat) (dest : Nat) (gchip : Nat) (port : Nat)
  /-- PORT_ST (R419). The presenter reports an owned port's status change in its hub. -/
  | portSt (u : Nat) (seq : Nat) (dest : Nat) (gchip : Nat) (port : Nat) (st : Nat) (speed : Nat) (ss : Nat) (chg : Nat) (woken : Bool)
  /-- PORT_CMD (R419). The owner carries out a host request for a remote slot and answers PORT_RSP. -/
  | portCmd (u : Nat) (seq : Nat) (dest : Nat) (n : Nat) (code : Nat) (val : Nat)
  /-- PORT_RSP (R419). The presenter completes the host request with the owner's result. -/
  | portRsp (u : Nat) (seq : Nat) (dest : Nat) (gchip : Nat) (port : Nat) (res : Nat)
  /-- TREE_EVT (R420). The owner applies a tree event to the ports presented in that tree. -/
  | treeEvt (u : Nat) (seq : Nat) (dest : Nat) (c : Nat) (t : Nat) (ev : Nat)
  /-- SOF_SYNC (R420). The owner aligns its presented ports' microframe timer to the frame number, moved earlier by LAT. -/
  | sofSync (u : Nat) (seq : Nat) (dest : Nat) (c : Nat) (t : Nat) (frame : Nat)
  /-- SOF_SYNC_SEND (R420). Every 1 ms the presenter sends SOF_SYNC to its owners. -/
  | sofSyncSend
  /-- PROXY_HOST_TOKEN (R424). A high-speed token to a remote slot is answered from proxy entries and may send a PROXY request. -/
  | proxyHostToken (u : Nat) (addr : Nat) (epn : Nat) (kind : Nat) (pid : Nat) (len : Nat) (dirIn : Bool) (ack : Bool)
  /-- ISO_PREFETCH_POLL (R426). In each endpoint interval the owner performs the isochronous IN one microframe ahead. -/
  | isoPrefetchPoll (n : Nat) (epn : Nat) (len : Nat)
  /-- PROXY_ENTRY_TIMEOUT (R425). A proxy entry with no host token for 100 ms is freed. -/
  | proxyEntryTimeout (j : Nat)
  /-- REG_RD (R429). A remote REG_RD frame is served through the register fabric. -/
  | regRd (u : Nat) (seq : Nat) (dest : Nat) (src : Nat) (hops : Nat) (addrs : List Nat)
  /-- REG_WR (R429). A remote REG_WR frame is served as an unprivileged peer master. -/
  | regWr (u : Nat) (seq : Nat) (dest : Nat) (src : Nat) (hops : Nat) (pairs : List (Nat × Nat))
  /-- REG_RSP (R429). A register response frame arrives in mailbox 5. -/
  | regRsp (u : Nat) (seq : Nat) (dest : Nat) (src : Nat) (hops : Nat) (data : List Byte)
  /-- MBX (R429). An MBX frame places a KIND 3 entry in mailbox 5, or is answered BUSY. -/
  | mbx (u : Nat) (seq : Nat) (dest : Nat) (src : Nat) (hops : Nat) (data : List Byte)
  /-- MBX_RSP (R429). An MBX_RSP frame with OK or BUSY arrives. -/
  | mbxRsp (u : Nat) (seq : Nat) (dest : Nat) (src : Nat) (hops : Nat) (busy : Bool)
  /-- MBX_RETRY (R429). 1 ms after BUSY the sender sends its MBX again. -/
  | mbxRetry (dest : Nat)
  /-- ROUTE (R412). A ROUTE flood is recorded, forwarded once and budgets rechecked. -/
  | routeFrame (u : Nat) (seq : Nat) (origin : Nat) (rseq : Nat) (hops : Nat) (lat : Nat)
  /-- ROOT (R405). A ROOT announcement is adopted if it carries a lower die ID and flooded. -/
  | rootFrame (u : Nat) (seq : Nat) (die : Nat) (rid : Nat)
  /-- ID_REQ (R406). An ID request is relayed toward the root or answered by it. -/
  | idReq (u : Nat) (seq : Nat) (die : Nat) (fixed : Bool) (want : Nat)
  /-- ID_GRANT (R406). An ID grant numbers the part or is relayed. -/
  | idGrant (u : Nat) (seq : Nat) (die : Nat) (id : Nat)
  /-- ID_CLAIM (R406). The root refreshes its table entry for the claiming die. -/
  | idClaim (u : Nat) (seq : Nat) (dest : Nat) (die : Nat) (id : Nat)
  /-- ID_REFUSE (R407). A refusal leaves the part UNNUMBERED or makes it request a new ID. -/
  | idRefuse (u : Nat) (seq : Nat) (die : Nat) (cause : Nat)
  /-- ROUTE_LOSS (R413). A route-loss notice removes routes through its link and is passed on. -/
  | routeLoss (u : Nat) (seq : Nat) (origins : List Nat)
  /-- LACK (R401). A LACK releases acknowledged frames from the sender. -/
  | lack (u : Nat) (seq : Nat)
  /-- LNAK (R401). An LNAK makes the sender resend from the named SEQ; a fourth forces a retrain. -/
  | lnak (u : Nat) (seq : Nat)
  /-- CREDIT (R402). A CREDIT frame returns credits for a VC. -/
  | credit (u : Nat) (vc : Nat) (n : Nat)
  /-- KEEPALIVE (R403). A KEEPALIVE frame is received. -/
  | keepalive (u : Nat)
  /-- PROBE (R410). A PROBE is echoed at once. -/
  | probe (u : Nat) (tb : Nat)
  /-- PROBE_ECHO (R410). A PROBE_ECHO updates the link's hop latency. -/
  | probeEcho (u : Nat) (tb : Nat) (rtt : Nat)
  /-- FRAME_ERROR (R401). A frame with bad CRC, LEN or SEQ, or unknown type, is discarded; an LNAK is sent or the frame counted. -/
  | frameError (u : Nat) (unknown : Bool) (seq : Nat) (vc : Nat) (len : Nat)
  /-- LACK_TIMER (R401). 2 µs with an unacknowledged frame sends a LACK. -/
  | lackTimer (u : Nat)
  /-- CREDIT_TIMER (R402). 1 µs with credit owed sends a CREDIT frame. -/
  | creditTimer (u : Nat)
  /-- KEEPALIVE_TIMER (R403). 10 µs without a sent frame sends KEEPALIVE. -/
  | keepaliveTimer (u : Nat)
  /-- KCL_LINK_LOSS (R403). 100 µs without a valid frame loses the link: DOWN, frames discarded, routes switched, ROUTE_LOSS sent. -/
  | kclLinkLoss (u : Nat)
  /-- ROUTE_FLOOD_TIMER (R412). Every 100 ms a numbered part floods ROUTE. -/
  | routeFloodTimer
  /-- ROUTE_ENTRY_EXPIRY (R412). A route entry not refreshed for 350 ms is removed. -/
  | routeEntryExpiry (origin : Nat) (u : Nat)
  /-- ROOT_ANNOUNCE_TIMER (R405). Every 100 ms a part floods a ROOT announcement. -/
  | rootAnnounceTimer
  /-- ROOT_LOST (R405). A root unheard for 500 ms is lost and election runs again. -/
  | rootLost
  /-- ID_CLAIM_TIMER (R406). Every 10 s a numbered part sends ID_CLAIM. -/
  | idClaimTimer
  /-- ID_FREE_TIMEOUT (R406). The root frees an ID unclaimed for 60 s. -/
  | idFreeTimeout (id : Nat)
  /-- ID_REQ_RETRY (R407). An UNNUMBERED part sends ID_REQ every 10 s. -/
  | idReqRetry
  /-- PROBE_TIMER (R410). Every 100 ms a KCL 1.1 link sends a PROBE. -/
  | probeTimer (u : Nat)
  /-- PRES_NO_ANSWER (R416). No answer within 10 ms + 2 × LAT sets REFUSED with NO_ANSWER. -/
  | presNoAnswer (n : Nat)
  /-- PRES_REQ_RETRY (R416). A refused presentation sends PRES_REQ again every 1 s. -/
  | presReqRetry (n : Nat)
  /-- PORTOP_TIMEOUT (R419). No PORT_RSP within 20 ms answers STALL and is counted. -/
  | portopTimeout (idx : Nat)
  /-- MGMT_SEND (R429). A write of KL_MTX_CTL sends a management frame, or is refused. -/
  | mgmtSend (v : Nat)
  /-- MGMT_REQUEST_TIMEOUT (R429). A management request without answer in 10 ms + 2 × LAT is counted. -/
  | mgmtRequestTimeout (dest : Nat) (mcode : Nat)
  /-- SUPPLY_FALL (R437). A monitored supply falls below its threshold, causing POR, HOLD or a PA die disable. -/
  | supplyFall (idx : Nat)
  /-- SUPPLY_RISE (R437). A monitored supply rises above its threshold. -/
  | supplyRise (idx : Nat)
  /-- RESET_N_LOW (R438). RESET_N held low resets the part into HOLD. -/
  | resetNLow
  /-- RESET_N_HIGH (R438). RESET_N rises, allowing HOLD to end. -/
  | resetNHigh
  /-- HOLD_END (R440). The HOLD time passes; the part enters STRAP, latches straps and starts T0. -/
  | holdEnd
  /-- PLL_LOCK (R443). The root PLL locks and G_READY.CLK rises. -/
  | pllLock
  /-- PLL_LOCK_TIMEOUT (R443). No lock within 500 µs enters SAFE with ENTRY = PLL. -/
  | pllLockTimeout
  /-- RISE_ENTRY (R444). The ROM checks complete; the part enters RISE, TB starts and VENT runs, or SAFE with ENTRY = ROM. -/
  | riseEntry (romOk : Bool)
  /-- UNIT_READY (R444). A unit or port becomes ready; ports become READY and RUN follows when ALL rises. -/
  | unitReady (idx : Nat)
  /-- CALIBRATION_FAIL (R448). A calibration fails; the unit or port is marked failed with its consequences. -/
  | calibrationFail (idx : Nat)
  /-- READINESS_TIMEOUT (R448). A unit's maximum time or the RISE limit passes without readiness; it is marked failed. -/
  | readinessTimeout (idx : Nat)
  /-- SAFE (R455). G_MODE_CTL SAFE enters SAFE, or is refused in SAFE. -/
  | modeSafe
  /-- RELEASE (R457). G_MODE_CTL RELEASE with its complement makes a RELEASE reset when CLEAR = 1, or is refused. -/
  | release
  /-- SELFTEST (R454). G_MODE_CTL SELFTEST powers off, drops links and starts the ROM test programs, or is refused. -/
  | selftest
  /-- SELFTEST_END (R454). The test run ends; G_SELFTEST_RES is written and a SELFTEST reset follows. -/
  | selftestEnd (first : Nat)
  /-- RESET (R440). G_MODE_CTL RESET makes a CMD reset. -/
  | modeReset
  /-- WAKE (R460). G_MODE_CTL WAKE leaves DORMANT, or is refused outside it. -/
  | wake
  /-- REGISTER_WRITE (R471). A write to a register without a row of its own is handled field by field under its access codes. -/
  | registerWrite (m : Master) (a : Nat) (v : Nat)
  /-- GUARD_WRITE (R487). A complement write to a guard address completes a held RWP write, or returns GUARD. -/
  | guardWrite (m : Master) (a : Nat) (v : Nat)
  /-- GUARD_EXPIRY (R488). A guard slot not completed within 1 ms is emptied and counted. -/
  | guardExpiry (m : Master)
  /-- PAIR_LO_READ (R468). A 32-bit read of a marked pair's _LO snapshots _HI for the reading master. -/
  | pairLoRead (m : Master) (a : Nat)
  /-- SYNC_ALIAS_READ (R474). A read at the synchronous alias of a CLK_SLOW register waits for a fresh sample. -/
  | syncAliasRead (m : Master) (a : Nat)
  /-- UNMAPPED_ACCESS (R466). An access to an unmapped address returns UNMAPPED and is counted. -/
  | unmappedAccess (m : Master) (a : Nat)
  /-- ACCESS_ERROR (R467). A misaligned access or a byte or halfword write is refused and counted. -/
  | accessError (m : Master) (a : Nat) (w : Nat) (write : Bool)
  /-- CONFIG_SCRUB (R480). The scrub visits each configuration register to check parity and votes. -/
  | configScrub (a : Nat) (found : Nat)
  /-- PROT_SEL_WRITE (R481). A write of G_PROT.PROT_SEL converts critical fields between parity and three copies. -/
  | protSelWrite (v : Nat) (bad : List Nat)
  /-- CLEAR_ONE (R493). G_CNT_CTL CLEAR_ONE clears the counter at G_CNT_ADDR. -/
  | clearOne (m : Master)
  /-- CLEAR_PREFIX (R493). G_CNT_CTL CLEAR_PREFIX clears every counter with the coded prefix. -/
  | clearPrefix (m : Master) (p : Nat)
  /-- CLEAR_ALL (R493). G_CNT_CTL CLEAR_ALL clears every counter. -/
  | clearAll (m : Master)
  /-- LOG_RECORD_WRITE (R495). A waiting event-log record is written, coalesced or dropped, and copied to notice paths. -/
  | logRecordWrite
  /-- FAULT_ONSET (R513). A fault source or instance asserts; it is counted, logged and its reaction class applied. -/
  | faultOnset (idx : Nat) (inst : Nat) (detail : Nat)
  /-- FAULT_HOLD_EXPIRY (R513). An event source with no further event for HOLD is deasserted. -/
  | faultHoldExpiry (idx : Nat)
  /-- REACTION_CLASS_WRITE (R516). A write of FC_REACT sets classes, applying raises and lowerings at once. -/
  | reactionClassWrite (j : Nat) (v : Nat)
  /-- RESTART (R517). FC_CMD RESTART clears a latched VENT stop, or is refused. -/
  | restart
  /-- VENT_AUTO_RESTART (R517). With VENT_AUTO = 1, VENT runs again 1.0 s after the last stop source falls. -/
  | ventAutoRestart
  /-- KICK (R523). A write of FC_WDOG.KICK restarts the watchdog period. -/
  | kick
  /-- WATCHDOG_EXPIRY (R523). The watchdog period passes with no kick and F40 asserts. -/
  | watchdogExpiry
  /-- CONVERTER_CHECK (R522). Every 1 ms each PA converter is compared with its reference. -/
  | converterCheck (d : Nat) (idx : Nat) (ok : Bool)
  /-- SOFTWARE_SOURCE_WRITE (R513). A write of FC_SW.SET asserts or deasserts software sources F56–F63. -/
  | softwareSourceWrite (v : Nat)
  /-- ARM (R526). FC_INJ ARM arms an injection on one checker instance, or is refused. -/
  | arm (idx : Nat) (inst : Nat)
  /-- DISARM (R526). FC_INJ DISARM ends an armed injection as EXPIRED. -/
  | disarm
  /-- INJECTION_EXPIRY (R526). An armed injection unchecked for 1.0 s becomes EXPIRED. -/
  | injectionExpiry
  /-- ATB_ROUTE_WRITE (R549). A write of SV_ATB selects a route, or is refused. -/
  | atbRouteWrite (v : Nat)
  /-- ATB_SETTLED (R548). 1 ms after a new route SETTLED rises. -/
  | atbSettled
  /-- CONSOLE_LINE (R536). A line ended by CR or LF is parsed and dispatched, or discarded with ERR RANGE. -/
  | consoleLine (text : List Nat) (bad : Bool)
  /-- CTRL_C (R536). Ctrl-C discards the line and aborts any running command. -/
  | ctrlC
  /-- CONSOLE_LINE_PASSED (R547). An unknown command line is passed to mailbox 4 with event 8, or answered UNKNOWN, BUSY or WRONG_STATE. -/
  | consoleLinePassed (text : List Nat)
  /-- CONSOLE_PASS_TIMEOUT (R547). A passed line not ended within 5 s is answered ERR TIMEOUT. -/
  | consolePassTimeout
  /-- SESSION_IDLE_TIMEOUT (R541). No input for IDLE_TO closes the session and frees held ports. -/
  | sessionIdleTimeout
  /-- PIN_LOCKOUT_END (R542). The 60 s PIN lockout ends. -/
  | pinLockoutEnd
  /-- CON_HELLO (R539). `hello` opens a view session and sets the OSP version. -/
  | conHello (hasV : Bool) (v : Nat)
  /-- CON_BYE (R541). `bye` closes the session and frees held ports. -/
  | conBye
  /-- CON_HELP (R545). `help` lists the commands accepted. -/
  | conHelp
  /-- CON_SERVICE (R542). `service` opens a service session, checking the PIN. -/
  | conService (hasPin : Bool) (pin : Nat)
  /-- CON_VIEW (R541). `view` returns to a view session. -/
  | conView
  /-- CON_BAUD (R545). `baud` sets the UART rate after its status line. -/
  | conBaud (r : Nat)
  /-- CON_ECHO_ON (R545). `echo on` sets ECHO. -/
  | conEchoOn
  /-- CON_ECHO_OFF (R545). `echo off` clears ECHO. -/
  | conEchoOff
  /-- CON_CAP (R545). `cap` prints G_CAP_UNITS decoded and G_ABSENT_WR_CNT. -/
  | conCap
  /-- CON_MODE (R545). `mode` prints the mode and active conditions. -/
  | conMode
  /-- CON_READY (R545). `ready` prints G_READY, G_READY_FAIL and failed ports. -/
  | conReady
  /-- CON_RST (R545). `rst` prints G_RST_CAUSE and G_SAFE_ST.ENTRY. -/
  | conRst
  /-- CON_SAFE (R545). `safe` prints SAFE entry and blocking causes. -/
  | conSafe
  /-- CON_BOOT (R545). `boot` prints straps, bank versions and check codes. -/
  | conBoot
  /-- CON_UPDATE_STATUS (R545). `update status` prints the UPDATE state. -/
  | conUpdateStatus
  /-- CON_MAP (R545). `map` prints each port's tree place and supply group. -/
  | conMap
  /-- CON_PORT (R545). `port n` prints STATE and CAUSE. -/
  | conPort (n : Nat)
  /-- CON_TC (R545). `tc n` prints Type-C state and counters. -/
  | conTc (n : Nat)
  /-- CON_MOIST (R545). `moist n` prints moisture readings and re-test time. -/
  | conMoist (n : Nat)
  /-- CON_LP (R545). `lp` prints U0 admission state. -/
  | conLp
  /-- CON_LP_U (R545). `lp u` prints a tree's link power state. -/
  | conLpU (u : Nat)
  /-- CON_LP_N (R545). `lp n` prints a port's link power state and wake counts. -/
  | conLpN (n : Nat)
  /-- CON_PP (R545). `pp k` prints power-path state. -/
  | conPp (k : Nat)
  /-- CON_PD (R545). `pd k` prints the contract and PD state. -/
  | conPd (k : Nat)
  /-- CON_PD_LOG (R545). `pd k log` prints the last 16 PD messages. -/
  | conPdLog (k : Nat)
  /-- CON_SB (R545). `sb` lists bridge channels. -/
  | conSb
  /-- CON_BSN (R545). `bsn` prints chip totals and SHED state. -/
  | conBsn
  /-- CON_BSN_G (R545). `bsn g` prints a group's budget, charges and queue. -/
  | conBsnG (g : Nat)
  /-- CON_TEMP (R545). `temp` prints sensors, margin, H and LIMIT. -/
  | conTemp
  /-- CON_CALDERA (R545). `caldera` prints bank protection and error counts. -/
  | conCaldera
  /-- CON_EPT (R545). `ept` prints EP_STAT and EP_MISS_CNT. -/
  | conEpt
  /-- CON_EPT_N (R545). `ept n` lists a port's endpoint entries. -/
  | conEptN (n : Nat)
  /-- CON_POL (R545). `pol p` prints a policer's state and byte counts. -/
  | conPol (p : Nat)
  /-- CON_SHP (R545). `shp s` prints a shaper's credit and slope. -/
  | conShp (x : Nat)
  /-- CON_SCHED (R545). `sched x` prints an egress's traffic and deferral counts. -/
  | conSched (x : Nat)
  /-- CON_KCL (R545). `kcl` prints each link's state. -/
  | conKcl
  /-- CON_KCL_ROUTE (R545). `kcl route c` prints routes toward a chip. -/
  | conKclRoute (c : Nat)
  /-- CON_KCL_PRES (R545). `kcl pres n` prints a presentation's state. -/
  | conKclPres (n : Nat)
  /-- CON_TK (R545). `tk` prints each thread's state. -/
  | conTk
  /-- CON_TK_T (R545). `tk t` prints a thread's exception registers. -/
  | conTkT (t : Nat)
  /-- CON_FAULT (R545). `fault` prints FC_SUMMARY, classes and VENT state. -/
  | conFault
  /-- CON_PROT (R545). `prot` prints configuration protection state. -/
  | conProt
  /-- CON_LOG (R545). `log` prints decoded event-log records. -/
  | conLog
  /-- CON_LOG_PLUME (R545). `log plume` prints the PLUME records. -/
  | conLogPlume
  /-- CON_ATB (R545). `atb` prints SV_ATB_ST and the route scale. -/
  | conAtb
  /-- CON_RD (R545). `rd` reads one register and prints its fields. -/
  | conRd (a : Nat)
  /-- CON_HOLD (R544). `hold n` gives the session control of a port. -/
  | conHold (n : Nat)
  /-- CON_HOLD_ALL (R544). `hold all` holds every present downstream port. -/
  | conHoldAll
  /-- CON_FREE (R544). `free n` ends control of a port, restoring ON where needed. -/
  | conFree (n : Nat)
  /-- CON_FREE_ALL (R544). `free all` frees every held port. -/
  | conFreeAll
  /-- CON_PP_ON (R545). `pp k on` runs PP_CMD ON through the guard. -/
  | conPpOn (k : Nat)
  /-- CON_PP_OFF (R545). `pp k off` runs PP_CMD OFF through the guard. -/
  | conPpOff (k : Nat)
  /-- CON_PP_RELEASE (R545). `pp k release` runs PP_CMD RELEASE through the guard. -/
  | conPpRelease (k : Nat)
  /-- CON_PP_CLEAR (R545). `pp k clear` runs PP_CMD CLEAR_STUCK through the guard. -/
  | conPpClear (k : Nat)
  /-- CON_STEAM_RELEASE (R196). `steam n release` runs P_TC_CMD OVERRIDE. -/
  | conSteamRelease (n : Nat)
  /-- CON_TC_RECHECK (R196). `tc n recheck` runs P_TC_CMD RECHECK. -/
  | conTcRecheck (n : Nat)
  /-- CON_PD_CAPS (R242). `pd k caps` sends new Source_Capabilities, or is refused. -/
  | conPdCaps (k : Nat)
  /-- CON_PD_EPR_EXIT (R242). `pd k epr exit` leaves EPR mode, or is refused. -/
  | conPdEprExit (k : Nat)
  /-- CON_PD_HARDRESET (R545). `pd k hardreset` runs PD_CMD HARD_RESET. -/
  | conPdHardreset (k : Nat)
  /-- CON_SB_C (R204). `sb c` attaches the console to a bridge channel. -/
  | conSbC (c : Nat)
  /-- CON_SB_OFF (R204). `sb off` detaches the console from the channel. -/
  | conSbOff
  /-- CON_WR (R543). `wr` makes one register write with the guard where needed and logs it. -/
  | conWr (a : Nat) (v : Nat)
  /-- CON_ATB_ROUTE (R548). `atb route` writes SV_ATB to select a meter route. -/
  | conAtbRoute (route : Nat) (idx : Nat)
  /-- CON_ATB_OFF (R548). `atb off` turns ATB0 off. -/
  | conAtbOff
  /-- CON_TEST (R551). `test N` runs a console, meter or SELFTEST catalogue test. -/
  | conTest (n : Nat) (hasK : Bool) (k : Nat) (v : Nat) (ok : Bool)
  /-- CON_CNT_CLEAR_ONE (R493). `cnt clear one` runs CLEAR_ONE. -/
  | conCntClearOne (a : Nat)
  /-- CON_CNT_CLEAR_PREFIX (R493). `cnt clear prefix` runs CLEAR_PREFIX. -/
  | conCntClearPrefix (p : Nat)
  /-- CON_CNT_CLEAR_ALL (R493). `cnt clear all` runs CLEAR_ALL. -/
  | conCntClearAll
  /-- CON_FAULT_INJ (R526). `fault inj s i` arms an injection. -/
  | conFaultInj (idx : Nat) (inst : Nat)
  /-- CON_FAULT_DISARM (R526). `fault disarm` disarms an injection. -/
  | conFaultDisarm
  /-- CON_FAULT_RESTART (R517). `fault restart` runs FC_CMD RESTART. -/
  | conFaultRestart
  /-- CON_UPDATE (R384). `update` runs BEGIN. -/
  | conUpdate
  /-- CON_UPDATE_ERASE (R385). `update erase b off` runs ERASE. -/
  | conUpdateErase (b : Nat) (off : Nat)
  /-- CON_UPDATE_PAGE (R385). `update page b off h` loads G_UPD_BUF and runs PROGRAM. -/
  | conUpdatePage (b : Nat) (off : Nat) (data : List Byte)
  /-- CON_UPDATE_VERIFY (R385). `update verify b` runs VERIFY. -/
  | conUpdateVerify (b : Nat)
  /-- CON_UPDATE_END (R385). `update end` runs END. -/
  | conUpdateEnd
  /-- CON_SELFTEST (R554). `selftest` starts SELFTEST. -/
  | conSelftest
  /-- CON_RESET (R545). `reset` runs G_MODE_CTL RESET. -/
  | conReset
  /-- CON_SAFE_ENTER (R545). `safe enter` runs G_MODE_CTL SAFE. -/
  | conSafeEnter
  /-- CON_SAFE_RELEASE (R457). `safe release` writes RELEASE and its complement. -/
  | conSafeRelease
  /-- CON_WAKE (R545). `wake` runs G_MODE_CTL WAKE. -/
  | conWake
  /-- EXTEST (R570). JTAG EXTEST takes control of the boundary pins while RESET_N is low. -/
  | extest (pre : Nat)
  /-- SAMPLE_PRELOAD (R570). JTAG SAMPLE/PRELOAD captures pin levels without disturbing them. -/
  | samplePreload (cells : Nat) (pre : Nat)
  /-- BYPASS (R570). JTAG BYPASS, or any other code, selects the bypass register. -/
  | bypass
  /-- TEST_LOGIC_RESET (R584). JTAG_TRST_N low or Test-Logic-Reset selects BYPASS. -/
  | testLogicReset
  /-- UPSTREAM_HOST_DETACH (R175). A host detaches from a host-facing upstream port. The tree's LINK falls to 0, the tree counts as asleep, and a port change event is posted. -/
  | upstreamHostDetach (u : Nat)
  /-- UPSTREAM_UX_EXIT (R167). An upstream link in U1 or U2 returns to U0, either on the host's LFPS or because a packet is queued for Uu's egress. -/
  | upstreamUxExit (u : Nat)
  /-- SLOW_TRIP_SAMPLE (R267). Each current sample, every 10 µs, and each VBUS sample, every 20 µs, is compared with the OC, UV and OV limits; the comparison starts or stops the fault timer and the OV timer and drives PPS current limiting. -/
  | slowTripSample (k : Nat) (isVbus : Bool) (v : Nat)
deriving DecidableEq, Repr

end Sys2Proof
end

