-- ==== Sys2Proof/Decode.lean ====
section
/-!
DEFINITION. Words of the command table. No row of spec/opcode_table.json gives its command bits: a command reaches the block as an event,
an access or a line, with its operands, and no word spells one.
-/

namespace Sys2Proof

/-- The command a word spells by the table's bits: none, since the table gives none. -/
def decodeTableWord (_nbits _w : Nat) : Option Instr := none

end Sys2Proof
end

