-- ==== Sys2Proof/Config.lean ====
section
/-!
DEFINITION. What the spec leaves open: constants without a body, so that nothing can be proved of their values, and the
choices of the part that never change while it runs.
-/

namespace Sys2Proof

/-- The three parts of the family (R2). A part's variant is fixed in silicon. [log 1: DESIGN CHOICE] -/
inductive Variant where
  | klh9600 | klh9610 | klh4800
deriving DecidableEq, Repr

namespace Config

/-- A value the spec leaves open, by how many such values were taken before it. [log 6: DESIGN CHOICE] -/
opaque free : Nat → Nat

/-- Byte i of the content a host or a device gave a packet, where no command carries it: by packet and byte. [log 57: DESIGN CHOICE] -/
opaque content : Nat → Nat → BitVec 8

end Config

end Sys2Proof
end

