-- ==== Sys2Proof/Machine/Regs.lean ====
section
/-!
DEFINITION. The register catalogue: the address of every register of the part (R501 to R509, R532, R556),
one descriptor per stored field (the field tables of the chapters; the address, the lowest bit, the width and the
reset value), and the rows by which the register fabric finds a field's access code.

`R.<REG>` is a register's byte address, `<REG>.<FIELD>` is a field's descriptor. Reserved bits have no descriptor: they
read 0 and ignore writes. A register whose value the hardware computes at each read has no stored field.
-/

namespace Sys2Proof.Machine

/-- A stored register field: byte address of its register, lowest bit, width, reset value. -/
structure Fld where
  /-- Byte address of the register. -/
  addr : Nat
  /-- Lowest bit of the field in the register. -/
  lo : Nat
  /-- Width in bits. -/
  wid : Nat
  /-- Reset value. -/
  rst : Nat
deriving DecidableEq, Repr

/-- The field's key in the field store. -/
abbrev Fld.key (f : Fld) : Nat := f.addr * 32 + f.lo

/-- Access codes of the field tables (00_scope.md, access codes and reserved bits). -/
inductive Acc where
  | ro | rw | rwa | rwp | rwl
  /-- RW, and the write is a command: nothing is stored, the field reads 0. -/
  | cmd
  /-- RWP, and the write is a command. -/
  | cmdp
deriving DecidableEq, Repr

/-- One field of a catalogue row. -/
structure FieldRow where
  /-- Lowest bit. -/
  lo : Nat
  /-- Width. -/
  wid : Nat
  /-- Access code. -/
  acc : Acc
  /-- Reset value in the register with the given index. -/
  rst : Nat → Nat

/-- One row of the catalogue: a register or an array of registers. -/
structure RegRow where
  /-- The register's name. -/
  name : String
  /-- Address of index 0. -/
  base : Nat
  /-- Distance of two neighbours, 0 for a single register. -/
  stride : Nat
  /-- Number of registers. -/
  count : Nat
  /-- Prefix code of R493. -/
  prefixCode : Nat
  /-- 0: fields; 1: 16-bit event counter; 2: low word of a 64-bit byte counter; 3: its high word. -/
  kind : Nat
  /-- The stored fields. -/
  fields : List FieldRow

/-! ### Addresses -/

namespace R

/-- Address of G_CAP_UNITS (R4). -/
abbrev G_CAP_UNITS : Nat := 0x0
/-- Address of P_CAP[n], n = 0–95 (R5). -/
abbrev P_CAP (n : Nat) : Nat := 0x100000 + 0x400 * n
/-- Address of G_MODE (R35). -/
abbrev G_MODE : Nat := 0x10
/-- Address of P_MAP[n], n = 0–95 (R47). -/
abbrev P_MAP (n : Nat) : Nat := 0x100008 + 0x400 * n
/-- Address of U_TREE[u], u = 0–3 (R54). -/
abbrev U_TREE (u : Nat) : Nat := 0x118000 + 0x400 * u
/-- Address of U_TREEST[u], u = 0–3 (R55). -/
abbrev U_TREEST (u : Nat) : Nat := 0x118004 + 0x400 * u
/-- Address of U_MGMT[u], u = 0–3 (R61). -/
abbrev U_MGMT (u : Nat) : Nat := 0x118008 + 0x400 * u
/-- Address of P_PORTST[n], n = 0–95 (R69). -/
abbrev P_PORTST (n : Nat) : Nat := 0x10000C + 0x400 * n
/-- Address of U_BCAST_CNT[u], u = 0–3 (R83). -/
abbrev U_BCAST_CNT (u : Nat) : Nat := 0x118040 + 0x400 * u
/-- Address of U_MGMT_DROP_CNT[u], u = 0–3 (R83). -/
abbrev U_MGMT_DROP_CNT (u : Nat) : Nat := 0x118044 + 0x400 * u
/-- Address of U_NOTICE_DROP_CNT[u], u = 0–3 (R83). -/
abbrev U_NOTICE_DROP_CNT (u : Nat) : Nat := 0x118048 + 0x400 * u
/-- Address of P_ENUM_STALL_CNT[n], n = 0–95 (R83). -/
abbrev P_ENUM_STALL_CNT (n : Nat) : Nat := 0x100040 + 0x400 * n
/-- Address of P_TT_ERR_CNT[n], n = 0–95 (R83). -/
abbrev P_TT_ERR_CNT (n : Nat) : Nat := 0x100044 + 0x400 * n
/-- Address of CD_QCFG[q], q = 0–511 (R98). -/
abbrev CD_QCFG (q : Nat) : Nat := 0x80000 + 0x40 * q
/-- Address of CD_QST[q], q = 0–511 (R113). -/
abbrev CD_QST (q : Nat) : Nat := 0x80004 + 0x40 * q
/-- Address of CD_QPTR[q], q = 0–511 (R114). -/
abbrev CD_QPTR (q : Nat) : Nat := 0x80008 + 0x40 * q
/-- Address of CD_QTHR[q], q = 0–511 (R114). -/
abbrev CD_QTHR (q : Nat) : Nat := 0x8000C + 0x40 * q
/-- Address of CD_QWM[q], q = 0–511 (R114). -/
abbrev CD_QWM (q : Nat) : Nat := 0x80010 + 0x40 * q
/-- Address of CD_QCTL[q], q = 0–511 (R114). -/
abbrev CD_QCTL (q : Nat) : Nat := 0x80014 + 0x40 * q
/-- Address of CD_PROT (R114). -/
abbrev CD_PROT : Nat := 0x89000
/-- Address of CD_PROT_PEND (R114). -/
abbrev CD_PROT_PEND : Nat := 0x89004
/-- Address of P_QSEL[n], n = 0–95 (R115). -/
abbrev P_QSEL (n : Nat) : Nat := 0x100010 + 0x400 * n
/-- Address of U_QSEL[u], u = 0–3 (R115). -/
abbrev U_QSEL (u : Nat) : Nat := 0x11800C + 0x400 * u
/-- Address of EP_KEY[e], e = 0–2047 (R116). -/
abbrev EP_KEY (e : Nat) : Nat := 0xC0000 + 0x8 * e
/-- Address of EP_MAP[e], e = 0–2047 (R116). -/
abbrev EP_MAP (e : Nat) : Nat := 0xC0004 + 0x8 * e
/-- Address of U_ROUTE_ERR_CNT[u], u = 0–3 (R121). -/
abbrev U_ROUTE_ERR_CNT (u : Nat) : Nat := 0x11804C + 0x400 * u
/-- Address of P_SS_RST_FAIL_CNT[n], n = 0–95 (R121). -/
abbrev P_SS_RST_FAIL_CNT (n : Nat) : Nat := 0x100048 + 0x400 * n
/-- Address of CD_PAR_ERR_CNT[b], b = 0–31 (R121). -/
abbrev CD_PAR_ERR_CNT (b : Nat) : Nat := 0x88000 + 0x10 * b
/-- Address of CD_CORR_CNT[b], b = 0–31 (R121). -/
abbrev CD_CORR_CNT (b : Nat) : Nat := 0x88004 + 0x10 * b
/-- Address of CD_UNCORR_CNT[b], b = 0–31 (R121). -/
abbrev CD_UNCORR_CNT (b : Nat) : Nat := 0x88008 + 0x10 * b
/-- Address of CD_CFG_REJ_CNT (R121). -/
abbrev CD_CFG_REJ_CNT : Nat := 0x89008
/-- Address of CD_OVERSIZE_CNT[q], q = 0–511 (R121). -/
abbrev CD_OVERSIZE_CNT (q : Nat) : Nat := 0x80020 + 0x40 * q
/-- Address of CD_QFULL_CNT[q], q = 0–511 (R121). -/
abbrev CD_QFULL_CNT (q : Nat) : Nat := 0x80024 + 0x40 * q
/-- Address of CD_CT_ABORT_CNT[q], q = 0–511 (R121). -/
abbrev CD_CT_ABORT_CNT (q : Nat) : Nat := 0x80028 + 0x40 * q
/-- Address of CD_FLUSH_DISC_CNT[q], q = 0–511 (R121). -/
abbrev CD_FLUSH_DISC_CNT (q : Nat) : Nat := 0x8002C + 0x40 * q
/-- Address of CD_QWM_CNT[q], q = 0–511 (R121). -/
abbrev CD_QWM_CNT (q : Nat) : Nat := 0x80030 + 0x40 * q
/-- Address of EP_MISS_CNT (R121). -/
abbrev EP_MISS_CNT : Nat := 0xC4004
/-- Address of EP_REJ_CNT (R121). -/
abbrev EP_REJ_CNT : Nat := 0xC4008
/-- Address of EP_STAT (R122). -/
abbrev EP_STAT : Nat := 0xC4000
/-- Address of TM_PL_CFG[p], p = 0–199 (R134). -/
abbrev TM_PL_CFG (p : Nat) : Nat := 0x40000 + 0x40 * p
/-- Address of TM_PL_CIR[p], p = 0–199 (R134). -/
abbrev TM_PL_CIR (p : Nat) : Nat := 0x40004 + 0x40 * p
/-- Address of TM_PL_PIR[p], p = 0–199 (R134). -/
abbrev TM_PL_PIR (p : Nat) : Nat := 0x40008 + 0x40 * p
/-- Address of TM_PL_CBS[p], p = 0–199 (R134). -/
abbrev TM_PL_CBS (p : Nat) : Nat := 0x4000C + 0x40 * p
/-- Address of TM_PL_PBS[p], p = 0–199 (R134). -/
abbrev TM_PL_PBS (p : Nat) : Nat := 0x40010 + 0x40 * p
/-- Address of TM_PL_TC[p], p = 0–199 (R134). -/
abbrev TM_PL_TC (p : Nat) : Nat := 0x40014 + 0x40 * p
/-- Address of TM_PL_TP[p], p = 0–199 (R134). -/
abbrev TM_PL_TP (p : Nat) : Nat := 0x40018 + 0x40 * p
/-- Address of TM_SH_SLOPE[s], s = 0–99 (R142). -/
abbrev TM_SH_SLOPE (s : Nat) : Nat := 0x44000 + 0x40 * s
/-- Address of TM_SH_HI[s], s = 0–99 (R142). -/
abbrev TM_SH_HI (s : Nat) : Nat := 0x44004 + 0x40 * s
/-- Address of TM_SH_LO[s], s = 0–99 (R142). -/
abbrev TM_SH_LO (s : Nat) : Nat := 0x44008 + 0x40 * s
/-- Address of TM_SH_CREDIT[s], s = 0–99 (R142). -/
abbrev TM_SH_CREDIT (s : Nat) : Nat := 0x4400C + 0x40 * s
/-- Address of TM_SH_FORGIVE[i], i = 0–3 (R142). -/
abbrev TM_SH_FORGIVE (i : Nat) : Nat := 0x47000 + 0x4 * i
/-- Address of TM_EG_CFG[x], x = 0–99 (R150). -/
abbrev TM_EG_CFG (x : Nat) : Nat := 0x44010 + 0x40 * x
/-- Address of TM_EG_ST[x], x = 0–99 (R150). -/
abbrev TM_EG_ST (x : Nat) : Nat := 0x44014 + 0x40 * x
/-- Address of TM_DRR_Q[n], n = 0–95 (R150). -/
abbrev TM_DRR_Q (n : Nat) : Nat := 0x46000 + 0x4 * n
/-- Address of TM_HEAT (R150). -/
abbrev TM_HEAT : Nat := 0x47010
/-- Address of TM_PL_PROMOTE_CNT[p], p = 0–199 (R153). -/
abbrev TM_PL_PROMOTE_CNT (p : Nat) : Nat := 0x40038 + 0x40 * p
/-- Address of TM_PL_HOLD_CNT[p], p = 0–199 (R153). -/
abbrev TM_PL_HOLD_CNT (p : Nat) : Nat := 0x4003C + 0x40 * p
/-- Address of TM_PL_RED_FORCE_CNT[p], p = 0–199 (R153). -/
abbrev TM_PL_RED_FORCE_CNT (p : Nat) : Nat := 0x4001C + 0x40 * p
/-- Address of TM_SH_GATE_CNT[s], s = 0–99 (R153). -/
abbrev TM_SH_GATE_CNT (s : Nat) : Nat := 0x44020 + 0x40 * s
/-- Address of TM_DEFER_CNT[x], x = 0–99 (R153). -/
abbrev TM_DEFER_CNT (x : Nat) : Nat := 0x44024 + 0x40 * x
/-- Address of TM_RES_CNT[x], x = 0–99 (R153). -/
abbrev TM_RES_CNT (x : Nat) : Nat := 0x44028 + 0x40 * x
/-- Address of TM_CFG_REJ_CNT (R153). -/
abbrev TM_CFG_REJ_CNT : Nat := 0x47014
/-- Address of TM_PL_GRN_LO[p], p = 0–199 (R154). -/
abbrev TM_PL_GRN_LO (p : Nat) : Nat := 0x40020 + 0x40 * p
/-- Address of TM_PL_GRN_HI[p], p = 0–199 (R154). -/
abbrev TM_PL_GRN_HI (p : Nat) : Nat := 0x40024 + 0x40 * p
/-- Address of TM_PL_YEL_LO[p], p = 0–199 (R154). -/
abbrev TM_PL_YEL_LO (p : Nat) : Nat := 0x40028 + 0x40 * p
/-- Address of TM_PL_YEL_HI[p], p = 0–199 (R154). -/
abbrev TM_PL_YEL_HI (p : Nat) : Nat := 0x4002C + 0x40 * p
/-- Address of TM_PL_RED_LO[p], p = 0–199 (R154). -/
abbrev TM_PL_RED_LO (p : Nat) : Nat := 0x40030 + 0x40 * p
/-- Address of TM_PL_RED_HI[p], p = 0–199 (R154). -/
abbrev TM_PL_RED_HI (p : Nat) : Nat := 0x40034 + 0x40 * p
/-- Address of TM_EG_BYTES_LO[x], x = 0–99 (R154). -/
abbrev TM_EG_BYTES_LO (x : Nat) : Nat := 0x44018 + 0x40 * x
/-- Address of TM_EG_BYTES_HI[x], x = 0–99 (R154). -/
abbrev TM_EG_BYTES_HI (x : Nat) : Nat := 0x4401C + 0x40 * x
/-- Address of P_LPST[n], n = 0–95 (R178). -/
abbrev P_LPST (n : Nat) : Nat := 0x100014 + 0x400 * n
/-- Address of P_LPTO[n], n = 0–95 (R179). -/
abbrev P_LPTO (n : Nat) : Nat := 0x100018 + 0x400 * n
/-- Address of U_LP_CFG[u], u = 0–3 (R179). -/
abbrev U_LP_CFG (u : Nat) : Nat := 0x118010 + 0x400 * u
/-- Address of U_LPST[u], u = 0–3 (R179). -/
abbrev U_LPST (u : Nat) : Nat := 0x118014 + 0x400 * u
/-- Address of G_LP_CFG (R179). -/
abbrev G_LP_CFG : Nat := 0x100
/-- Address of G_U0_ADMIT (R179). -/
abbrev G_U0_ADMIT : Nat := 0x104
/-- Address of P_WAKE_CNT[n], n = 0–95 (R180). -/
abbrev P_WAKE_CNT (n : Nat) : Nat := 0x10004C + 0x400 * n
/-- Address of P_WAKE_COLL_CNT[n], n = 0–95 (R180). -/
abbrev P_WAKE_COLL_CNT (n : Nat) : Nat := 0x100050 + 0x400 * n
/-- Address of P_UX_EXIT_FAIL_CNT[n], n = 0–95 (R180). -/
abbrev P_UX_EXIT_FAIL_CNT (n : Nat) : Nat := 0x100054 + 0x400 * n
/-- Address of U_WAKE_UP_CNT[u], u = 0–3 (R180). -/
abbrev U_WAKE_UP_CNT (u : Nat) : Nat := 0x118050 + 0x400 * u
/-- Address of G_ADMIT_DEMOTE_CNT (R180). -/
abbrev G_ADMIT_DEMOTE_CNT : Nat := 0x828
/-- Address of G_ADMIT_OVER_CNT (R180). -/
abbrev G_ADMIT_OVER_CNT : Nat := 0x82C
/-- Address of G_DORMANT_CNT (R180). -/
abbrev G_DORMANT_CNT : Nat := 0x830
/-- Address of P_TC_CFG[n], n = 0–95 (R207). -/
abbrev P_TC_CFG (n : Nat) : Nat := 0x100020 + 0x400 * n
/-- Address of P_TCST[n], n = 0–95 (R208). -/
abbrev P_TCST (n : Nat) : Nat := 0x100024 + 0x400 * n
/-- Address of P_MOIST_CC[n], n = 0–95 (R209). -/
abbrev P_MOIST_CC (n : Nat) : Nat := 0x10002C + 0x400 * n
/-- Address of P_MOIST_SBU[n], n = 0–95 (R209). -/
abbrev P_MOIST_SBU (n : Nat) : Nat := 0x100030 + 0x400 * n
/-- Address of P_TC_CMD[n], n = 0–95 (R209). -/
abbrev P_TC_CMD (n : Nat) : Nat := 0x100028 + 0x400 * n
/-- Address of G_MOIST_CFG (R209). -/
abbrev G_MOIST_CFG : Nat := 0x110
/-- Address of G_SB_CFG[c], c = 0–15 (R209). -/
abbrev G_SB_CFG (c : Nat) : Nat := 0x140 + 0x4 * c
/-- Address of U_TC_CFG[u], u = 0–3 (R209). -/
abbrev U_TC_CFG (u : Nat) : Nat := 0x118018 + 0x400 * u
/-- Address of P_STEAM_CNT[n], n = 0–95 (R210). -/
abbrev P_STEAM_CNT (n : Nat) : Nat := 0x100058 + 0x400 * n
/-- Address of P_MOIST_FAIL_CNT[n], n = 0–95 (R210). -/
abbrev P_MOIST_FAIL_CNT (n : Nat) : Nat := 0x10005C + 0x400 * n
/-- Address of P_SEAT_LOSS_CNT[n], n = 0–95 (R210). -/
abbrev P_SEAT_LOSS_CNT (n : Nat) : Nat := 0x100060 + 0x400 * n
/-- Address of P_CC_GLITCH_CNT[n], n = 0–95 (R210). -/
abbrev P_CC_GLITCH_CNT (n : Nat) : Nat := 0x100064 + 0x400 * n
/-- Address of P_VCONN_TRIP_CNT[n], n = 0–95 (R210). -/
abbrev P_VCONN_TRIP_CNT (n : Nat) : Nat := 0x100068 + 0x400 * n
/-- Address of P_SBU_OV_CNT[n], n = 0–95 (R210). -/
abbrev P_SBU_OV_CNT (n : Nat) : Nat := 0x10006C + 0x400 * n
/-- Address of P_SB_NOCH_CNT[n], n = 0–95 (R210). -/
abbrev P_SB_NOCH_CNT (n : Nat) : Nat := 0x100070 + 0x400 * n
/-- Address of P_TC_REJ_CNT[n], n = 0–95 (R210). -/
abbrev P_TC_REJ_CNT (n : Nat) : Nat := 0x100074 + 0x400 * n
/-- Address of PD_CFG[k], k = 0–99 (R245). -/
abbrev PD_CFG (k : Nat) : Nat := 0x100100 + 0x400 * k
/-- Address of PD_ST[k], k = 0–99 (R246). -/
abbrev PD_ST (k : Nat) : Nat := 0x100104 + 0x400 * k
/-- Address of PD_NEXT[k], k = 0–99 (R247). -/
abbrev PD_NEXT (k : Nat) : Nat := 0x100108 + 0x400 * k
/-- Address of PD_CONTRACT[k], k = 0–99 (R247). -/
abbrev PD_CONTRACT (k : Nat) : Nat := 0x10010C + 0x400 * k
/-- Address of PD_CMD[k], k = 0–99 (R247). -/
abbrev PD_CMD (k : Nat) : Nat := 0x100110 + 0x400 * k
/-- Address of PD_RXW0[k], k = 0–99 (R247). -/
abbrev PD_RXW0 (k : Nat) : Nat := 0x100120 + 0x400 * k
/-- Address of PD_RXW1[k], k = 0–99 (R247). -/
abbrev PD_RXW1 (k : Nat) : Nat := 0x100124 + 0x400 * k
/-- Address of PD_RXW2[k], k = 0–99 (R247). -/
abbrev PD_RXW2 (k : Nat) : Nat := 0x100128 + 0x400 * k
/-- Address of PD_RXW3[k], k = 0–99 (R247). -/
abbrev PD_RXW3 (k : Nat) : Nat := 0x10012C + 0x400 * k
/-- Address of PD_RXW4[k], k = 0–99 (R247). -/
abbrev PD_RXW4 (k : Nat) : Nat := 0x100130 + 0x400 * k
/-- Address of PD_RXW5[k], k = 0–99 (R247). -/
abbrev PD_RXW5 (k : Nat) : Nat := 0x100134 + 0x400 * k
/-- Address of PD_RXW6[k], k = 0–99 (R247). -/
abbrev PD_RXW6 (k : Nat) : Nat := 0x100138 + 0x400 * k
/-- Address of PD_RXW7[k], k = 0–99 (R247). -/
abbrev PD_RXW7 (k : Nat) : Nat := 0x10013C + 0x400 * k
/-- Address of PD_TXW0[k], k = 0–99 (R247). -/
abbrev PD_TXW0 (k : Nat) : Nat := 0x100140 + 0x400 * k
/-- Address of PD_TXW1[k], k = 0–99 (R247). -/
abbrev PD_TXW1 (k : Nat) : Nat := 0x100144 + 0x400 * k
/-- Address of PD_TXW2[k], k = 0–99 (R247). -/
abbrev PD_TXW2 (k : Nat) : Nat := 0x100148 + 0x400 * k
/-- Address of PD_TXW3[k], k = 0–99 (R247). -/
abbrev PD_TXW3 (k : Nat) : Nat := 0x10014C + 0x400 * k
/-- Address of PD_TXW4[k], k = 0–99 (R247). -/
abbrev PD_TXW4 (k : Nat) : Nat := 0x100150 + 0x400 * k
/-- Address of PD_TXW5[k], k = 0–99 (R247). -/
abbrev PD_TXW5 (k : Nat) : Nat := 0x100154 + 0x400 * k
/-- Address of PD_TXW6[k], k = 0–99 (R247). -/
abbrev PD_TXW6 (k : Nat) : Nat := 0x100158 + 0x400 * k
/-- Address of PD_TXW7[k], k = 0–99 (R247). -/
abbrev PD_TXW7 (k : Nat) : Nat := 0x10015C + 0x400 * k
/-- Address of PD_REJ_CNT[k], k = 0–99 (R248). -/
abbrev PD_REJ_CNT (k : Nat) : Nat := 0x100180 + 0x400 * k
/-- Address of PD_WAIT_CNT[k], k = 0–99 (R248). -/
abbrev PD_WAIT_CNT (k : Nat) : Nat := 0x100184 + 0x400 * k
/-- Address of PD_HR_CNT[k], k = 0–99 (R248). -/
abbrev PD_HR_CNT (k : Nat) : Nat := 0x100188 + 0x400 * k
/-- Address of PD_TX_FAIL_CNT[k], k = 0–99 (R248). -/
abbrev PD_TX_FAIL_CNT (k : Nat) : Nat := 0x10018C + 0x400 * k
/-- Address of PD_RX_OVF_CNT[k], k = 0–99 (R248). -/
abbrev PD_RX_OVF_CNT (k : Nat) : Nat := 0x100190 + 0x400 * k
/-- Address of PD_ABORT_CNT[k], k = 0–99 (R248). -/
abbrev PD_ABORT_CNT (k : Nat) : Nat := 0x100194 + 0x400 * k
/-- Address of PD_WD_CNT[k], k = 0–99 (R248). -/
abbrev PD_WD_CNT (k : Nat) : Nat := 0x100198 + 0x400 * k
/-- Address of PP_CFG[k], k = 0–99 (R278). -/
abbrev PP_CFG (k : Nat) : Nat := 0x100200 + 0x400 * k
/-- Address of PP_TRIP[k], k = 0–99 (R279). -/
abbrev PP_TRIP (k : Nat) : Nat := 0x100204 + 0x400 * k
/-- Address of PP_STAGE[k], k = 0–99 (R279). -/
abbrev PP_STAGE (k : Nat) : Nat := 0x100208 + 0x400 * k
/-- Address of PP_CMD[k], k = 0–99 (R280). -/
abbrev PP_CMD (k : Nat) : Nat := 0x10020C + 0x400 * k
/-- Address of PP_ST[k], k = 0–99 (R281). -/
abbrev PP_ST (k : Nat) : Nat := 0x100210 + 0x400 * k
/-- Address of PP_MEAS[k], k = 0–99 (R282). -/
abbrev PP_MEAS (k : Nat) : Nat := 0x100214 + 0x400 * k
/-- Address of PP_LAST[k], k = 0–99 (R282). -/
abbrev PP_LAST (k : Nat) : Nat := 0x100218 + 0x400 * k
/-- Address of PP_FT_CNT[k], k = 0–99 (R283). -/
abbrev PP_FT_CNT (k : Nat) : Nat := 0x100240 + 0x400 * k
/-- Address of PP_ST_CNT[k], k = 0–99 (R283). -/
abbrev PP_ST_CNT (k : Nat) : Nat := 0x100244 + 0x400 * k
/-- Address of PP_RETRY_CNT[k], k = 0–99 (R283). -/
abbrev PP_RETRY_CNT (k : Nat) : Nat := 0x100248 + 0x400 * k
/-- Address of PP_LATCH_CNT[k], k = 0–99 (R283). -/
abbrev PP_LATCH_CNT (k : Nat) : Nat := 0x10024C + 0x400 * k
/-- Address of PP_STUCK_CNT[k], k = 0–99 (R283). -/
abbrev PP_STUCK_CNT (k : Nat) : Nat := 0x100250 + 0x400 * k
/-- Address of PP_DIS_SLOW_CNT[k], k = 0–99 (R283). -/
abbrev PP_DIS_SLOW_CNT (k : Nat) : Nat := 0x100254 + 0x400 * k
/-- Address of PP_REJ_CNT[k], k = 0–99 (R283). -/
abbrev PP_REJ_CNT (k : Nat) : Nat := 0x100258 + 0x400 * k
/-- Address of BSN_CHIP_CAP (R306). -/
abbrev BSN_CHIP_CAP : Nat := 0x20000
/-- Address of BSN_SG_CAP[g], g = 0–12 (R306). -/
abbrev BSN_SG_CAP (g : Nat) : Nat := 0x20100 + 0x10 * g
/-- Address of BSN_CHIP_HEAD (R306). -/
abbrev BSN_CHIP_HEAD : Nat := 0x20004
/-- Address of BSN_SG_HEAD[g], g = 0–12 (R306). -/
abbrev BSN_SG_HEAD (g : Nat) : Nat := 0x20104 + 0x10 * g
/-- Address of BSN_CHIP_MEAS (R306). -/
abbrev BSN_CHIP_MEAS : Nat := 0x20008
/-- Address of BSN_SG_MEAS[g], g = 0–12 (R306). -/
abbrev BSN_SG_MEAS (g : Nat) : Nat := 0x20108 + 0x10 * g
/-- Address of BSN_CHIP_ST (R306). -/
abbrev BSN_CHIP_ST : Nat := 0x2000C
/-- Address of BSN_SG_ST[g], g = 0–12 (R306). -/
abbrev BSN_SG_ST (g : Nat) : Nat := 0x2010C + 0x10 * g
/-- Address of BSN_CHG[k], k = 0–99 (R306). -/
abbrev BSN_CHG (k : Nat) : Nat := 0x100280 + 0x400 * k
/-- Address of BSN_UQ[k], k = 0–99 (R306). -/
abbrev BSN_UQ (k : Nat) : Nat := 0x100284 + 0x400 * k
/-- Address of BSN_PRIO[i], i = 0–5 (R306). -/
abbrev BSN_PRIO (i : Nat) : Nat := 0x202A0 + 0x4 * i
/-- Address of BSN_GRANT_CFG (R306). -/
abbrev BSN_GRANT_CFG : Nat := 0x2029C
/-- Address of BSN_TS[i], i = 0–11 (R307). -/
abbrev BSN_TS (i : Nat) : Nat := 0x20200 + 0x4 * i
/-- Address of BSN_BRD_CFG[j], j = 0–3 (R307). -/
abbrev BSN_BRD_CFG (j : Nat) : Nat := 0x20240 + 0x4 * j
/-- Address of BSN_BRD_T[j], j = 0–3 (R307). -/
abbrev BSN_BRD_T (j : Nat) : Nat := 0x20250 + 0x4 * j
/-- Address of BSN_HEAT_CFG (R307). -/
abbrev BSN_HEAT_CFG : Nat := 0x20280
/-- Address of BSN_HEAT_CAP (R307). -/
abbrev BSN_HEAT_CAP : Nat := 0x20284
/-- Address of BSN_HEAT_ST (R307). -/
abbrev BSN_HEAT_ST : Nat := 0x20288
/-- Address of BSN_U0_CFG (R307). -/
abbrev BSN_U0_CFG : Nat := 0x2028C
/-- Address of BSN_SHED_CTL (R307). -/
abbrev BSN_SHED_CTL : Nat := 0x20290
/-- Address of BSN_SHED_ST (R307). -/
abbrev BSN_SHED_ST : Nat := 0x20294
/-- Address of BSN_SHED_CFG (R307). -/
abbrev BSN_SHED_CFG : Nat := 0x20298
/-- Address of BSN_OFF[i], i = 0–2 (R307). -/
abbrev BSN_OFF (i : Nat) : Nat := 0x202C0 + 0x4 * i
/-- Address of BSN_TAKE_SHORT_CNT (R308). -/
abbrev BSN_TAKE_SHORT_CNT : Nat := 0x20300
/-- Address of BSN_RANGE_CNT (R308). -/
abbrev BSN_RANGE_CNT : Nat := 0x20304
/-- Address of BSN_REJ_CNT (R308). -/
abbrev BSN_REJ_CNT : Nat := 0x20308
/-- Address of BSN_GRANT_CNT (R308). -/
abbrev BSN_GRANT_CNT : Nat := 0x2030C
/-- Address of BSN_GRANT_EXP_CNT (R308). -/
abbrev BSN_GRANT_EXP_CNT : Nat := 0x20310
/-- Address of BSN_SHED_CNT (R308). -/
abbrev BSN_SHED_CNT : Nat := 0x20314
/-- Address of BSN_SHED_OFF_CNT (R308). -/
abbrev BSN_SHED_OFF_CNT : Nat := 0x20318
/-- Address of BSN_SG_EMPTY_CNT[g], g = 0–12 (R308). -/
abbrev BSN_SG_EMPTY_CNT (g : Nat) : Nat := 0x20340 + 0x4 * g
/-- Address of BSN_CHIP_EMPTY_CNT (R308). -/
abbrev BSN_CHIP_EMPTY_CNT : Nat := 0x2031C
/-- Address of BSN_BRD_FAULT_CNT[j], j = 0–3 (R308). -/
abbrev BSN_BRD_FAULT_CNT (j : Nat) : Nat := 0x20380 + 0x4 * j
/-- Address of TK_TCTL[t], t = 0–63 (R345). -/
abbrev TK_TCTL (t : Nat) : Nat := 0x10000 + 0x40 * t
/-- Address of TK_TPC[t], t = 0–63 (R345). -/
abbrev TK_TPC (t : Nat) : Nat := 0x10004 + 0x40 * t
/-- Address of TK_TCFG[t], t = 0–63 (R345). -/
abbrev TK_TCFG (t : Nat) : Nat := 0x10008 + 0x40 * t
/-- Address of TK_TVEC[t], t = 0–63 (R345). -/
abbrev TK_TVEC (t : Nat) : Nat := 0x1000C + 0x40 * t
/-- Address of TK_UWIN[t], t = 0–63 (R345). -/
abbrev TK_UWIN (t : Nat) : Nat := 0x10010 + 0x40 * t
/-- Address of TK_TST[t], t = 0–63 (R345). -/
abbrev TK_TST (t : Nat) : Nat := 0x10014 + 0x40 * t
/-- Address of TK_TEXC[t], t = 0–63 (R345). -/
abbrev TK_TEXC (t : Nat) : Nat := 0x10018 + 0x40 * t
/-- Address of TK_TEPC[t], t = 0–63 (R345). -/
abbrev TK_TEPC (t : Nat) : Nat := 0x1001C + 0x40 * t
/-- Address of TK_TEADDR[t], t = 0–63 (R345). -/
abbrev TK_TEADDR (t : Nat) : Nat := 0x10020 + 0x40 * t
/-- Address of TK_VERSION (R346). -/
abbrev TK_VERSION : Nat := 0x11000
/-- Address of TK_CTL (R346). -/
abbrev TK_CTL : Nat := 0x11004
/-- Address of TK_EVROUTE[i], i = 0–63 (R346). -/
abbrev TK_EVROUTE (i : Nat) : Nat := 0x11100 + 0x4 * i
/-- Address of TK_REQ_CFG (R346). -/
abbrev TK_REQ_CFG : Nat := 0x11008
/-- Address of TK_MBX_ST (R346). -/
abbrev TK_MBX_ST : Nat := 0x1100C
/-- Address of TK_EXC_CNT[t], t = 0–63 (R347). -/
abbrev TK_EXC_CNT (t : Nat) : Nat := 0x10030 + 0x40 * t
/-- Address of TK_EV_COAL_CNT[t], t = 0–63 (R347). -/
abbrev TK_EV_COAL_CNT (t : Nat) : Nat := 0x10034 + 0x40 * t
/-- Address of TK_PRIM_REJ_CNT[t], t = 0–63 (R347). -/
abbrev TK_PRIM_REJ_CNT (t : Nat) : Nat := 0x10038 + 0x40 * t
/-- Address of TK_EV_DROP_CNT (R347). -/
abbrev TK_EV_DROP_CNT : Nat := 0x11200
/-- Address of TK_REQ_TO_CNT[s], s = 0–5 (R347). -/
abbrev TK_REQ_TO_CNT (s : Nat) : Nat := 0x11220 + 0x4 * s
/-- Address of TK_REQ_REPL_CNT[u], u = 0–3 (R347). -/
abbrev TK_REQ_REPL_CNT (u : Nat) : Nat := 0x11240 + 0x4 * u
/-- Address of TK_MEM_CORR_CNT (R347). -/
abbrev TK_MEM_CORR_CNT : Nat := 0x11204
/-- Address of TK_MEM_UNCORR_CNT (R347). -/
abbrev TK_MEM_UNCORR_CNT : Nat := 0x11208
/-- Address of G_STRAP (R390). -/
abbrev G_STRAP : Nat := 0x2C
/-- Address of G_BOOT_ST (R390). -/
abbrev G_BOOT_ST : Nat := 0x200
/-- Address of G_BOOT_VER (R390). -/
abbrev G_BOOT_VER : Nat := 0x204
/-- Address of G_BOOT_CTL (R390). -/
abbrev G_BOOT_CTL : Nat := 0x208
/-- Address of G_UPD_CTL (R390). -/
abbrev G_UPD_CTL : Nat := 0x210
/-- Address of G_UPD_ADDR (R390). -/
abbrev G_UPD_ADDR : Nat := 0x214
/-- Address of G_UPD_BUF[i], i = 0–63 (R390). -/
abbrev G_UPD_BUF (i : Nat) : Nat := 0x300 + 0x4 * i
/-- Address of G_UPD_ST (R390). -/
abbrev G_UPD_ST : Nat := 0x218
/-- Address of G_FUSE_KEY[i], i = 0–7 (R390). -/
abbrev G_FUSE_KEY (i : Nat) : Nat := 0x400 + 0x4 * i
/-- Address of G_FUSE_CFG (R390). -/
abbrev G_FUSE_CFG : Nat := 0x420
/-- Address of G_FUSE_RB (R390). -/
abbrev G_FUSE_RB : Nat := 0x424
/-- Address of G_DIE_ID_LO (R390). -/
abbrev G_DIE_ID_LO : Nat := 0x30
/-- Address of G_DIE_ID_HI (R390). -/
abbrev G_DIE_ID_HI : Nat := 0x34
/-- Address of G_FW_REJ_CNT (R391). -/
abbrev G_FW_REJ_CNT : Nat := 0x834
/-- Address of KL_CFG (R433). -/
abbrev KL_CFG : Nat := 0x30000
/-- Address of KL_ID (R433). -/
abbrev KL_ID : Nat := 0x30004
/-- Address of KL_RT_IDX (R433). -/
abbrev KL_RT_IDX : Nat := 0x30008
/-- Address of KL_RT_DATA (R433). -/
abbrev KL_RT_DATA : Nat := 0x3000C
/-- Address of KL_RPT_IDX (R433). -/
abbrev KL_RPT_IDX : Nat := 0x30010
/-- Address of KL_RPT_DATA (R433). -/
abbrev KL_RPT_DATA : Nat := 0x30014
/-- Address of KL_PROXY_ST (R433). -/
abbrev KL_PROXY_ST : Nat := 0x30018
/-- Address of KL_MTX_CTL (R433). -/
abbrev KL_MTX_CTL : Nat := 0x3001C
/-- Address of KL_MTX_W[i], i = 0–14 (R433). -/
abbrev KL_MTX_W (i : Nat) : Nat := 0x30040 + 0x4 * i
/-- Address of KL_UCFG[u], u = 0–3 (R434). -/
abbrev KL_UCFG (u : Nat) : Nat := 0x30100 + 0x40 * u
/-- Address of KL_LST[u], u = 0–3 (R434). -/
abbrev KL_LST (u : Nat) : Nat := 0x30104 + 0x40 * u
/-- Address of KL_BUDGET[u], u = 0–3 (R434). -/
abbrev KL_BUDGET (u : Nat) : Nat := 0x30108 + 0x40 * u
/-- Address of KL_LQ[u], u = 0–3 (R434). -/
abbrev KL_LQ (u : Nat) : Nat := 0x3010C + 0x40 * u
/-- Address of KL_LQ_QNT[u], u = 0–3 (R434). -/
abbrev KL_LQ_QNT (u : Nat) : Nat := 0x30110 + 0x40 * u
/-- Address of KL_GRP[g], g = 0–63 (R434). -/
abbrev KL_GRP (g : Nat) : Nat := 0x30400 + 0x10 * g
/-- Address of KL_GRP_ST[g], g = 0–63 (R434). -/
abbrev KL_GRP_ST (g : Nat) : Nat := 0x30404 + 0x10 * g
/-- Address of KL_GRP_QNT[g], g = 0–63 (R434). -/
abbrev KL_GRP_QNT (g : Nat) : Nat := 0x30408 + 0x10 * g
/-- Address of KL_PRES[n], n = 0–95 (R434). -/
abbrev KL_PRES (n : Nat) : Nat := 0x30800 + 0x4 * n
/-- Address of KL_TRAIN_FAIL_CNT[u], u = 0–3 (R435). -/
abbrev KL_TRAIN_FAIL_CNT (u : Nat) : Nat := 0x30120 + 0x40 * u
/-- Address of KL_CRC_ERR_CNT[u], u = 0–3 (R435). -/
abbrev KL_CRC_ERR_CNT (u : Nat) : Nat := 0x30124 + 0x40 * u
/-- Address of KL_RETRAIN_CNT[u], u = 0–3 (R435). -/
abbrev KL_RETRAIN_CNT (u : Nat) : Nat := 0x30128 + 0x40 * u
/-- Address of KL_LINK_LOSS_CNT[u], u = 0–3 (R435). -/
abbrev KL_LINK_LOSS_CNT (u : Nat) : Nat := 0x3012C + 0x40 * u
/-- Address of KL_LOST_CNT[u], u = 0–3 (R435). -/
abbrev KL_LOST_CNT (u : Nat) : Nat := 0x30130 + 0x40 * u
/-- Address of KL_BAD_FRAME_CNT[u], u = 0–3 (R435). -/
abbrev KL_BAD_FRAME_CNT (u : Nat) : Nat := 0x30134 + 0x40 * u
/-- Address of KL_NOROUTE_CNT[u], u = 0–3 (R435). -/
abbrev KL_NOROUTE_CNT (u : Nat) : Nat := 0x30138 + 0x40 * u
/-- Address of KL_PRES_REJ_CNT (R435). -/
abbrev KL_PRES_REJ_CNT : Nat := 0x30A00
/-- Address of KL_PORTOP_TO_CNT (R435). -/
abbrev KL_PORTOP_TO_CNT : Nat := 0x30A04
/-- Address of KL_PROXY_FULL_CNT (R435). -/
abbrev KL_PROXY_FULL_CNT : Nat := 0x30A08
/-- Address of KL_ISO_LATE_CNT (R435). -/
abbrev KL_ISO_LATE_CNT : Nat := 0x30A0C
/-- Address of KL_MGMT_HOP_CNT (R435). -/
abbrev KL_MGMT_HOP_CNT : Nat := 0x30A10
/-- Address of KL_MGMT_TO_CNT (R435). -/
abbrev KL_MGMT_TO_CNT : Nat := 0x30A14
/-- Address of G_READY (R450). -/
abbrev G_READY : Nat := 0x20
/-- Address of G_READY_FAIL (R450). -/
abbrev G_READY_FAIL : Nat := 0x24
/-- Address of P_READY[n], n = 0–95 (R451). -/
abbrev P_READY (n : Nat) : Nat := 0x100004 + 0x400 * n
/-- Address of G_MODE_CTL (R460). -/
abbrev G_MODE_CTL : Nat := 0x14
/-- Address of G_SAFE_ST (R461). -/
abbrev G_SAFE_ST : Nat := 0x18
/-- Address of G_RST_CAUSE (R461). -/
abbrev G_RST_CAUSE : Nat := 0x1C
/-- Address of G_SELFTEST_RES (R461). -/
abbrev G_SELFTEST_RES : Nat := 0x28
/-- Address of G_MODE_REJ_CNT (R462). -/
abbrev G_MODE_REJ_CNT : Nat := 0x838
/-- Address of G_SAFE_CNT (R462). -/
abbrev G_SAFE_CNT : Nat := 0x83C
/-- Address of G_PROT (R499). -/
abbrev G_PROT : Nat := 0x40
/-- Address of G_CNT_CTL (R499). -/
abbrev G_CNT_CTL : Nat := 0x44
/-- Address of G_CNT_ADDR (R499). -/
abbrev G_CNT_ADDR : Nat := 0x48
/-- Address of G_APPLY_PEND[i], i = 0–7 (R499). -/
abbrev G_APPLY_PEND (i : Nat) : Nat := 0x60 + 0x4 * i
/-- Address of G_LOG_HEAD (R499). -/
abbrev G_LOG_HEAD : Nat := 0x80
/-- Address of G_LOG_IDX (R499). -/
abbrev G_LOG_IDX : Nat := 0x84
/-- Address of G_LOG_REC[i], i = 0–3 (R499). -/
abbrev G_LOG_REC (i : Nat) : Nat := 0x90 + 0x4 * i
/-- Address of G_ABSENT_WR_CNT (R500). -/
abbrev G_ABSENT_WR_CNT : Nat := 0x800
/-- Address of G_UNMAPPED_CNT (R500). -/
abbrev G_UNMAPPED_CNT : Nat := 0x804
/-- Address of G_ACC_ERR_CNT (R500). -/
abbrev G_ACC_ERR_CNT : Nat := 0x808
/-- Address of G_LOCK_VIOL_CNT (R500). -/
abbrev G_LOCK_VIOL_CNT : Nat := 0x80C
/-- Address of G_PRIV_VIOL_CNT (R500). -/
abbrev G_PRIV_VIOL_CNT : Nat := 0x810
/-- Address of G_GUARD_FAIL_CNT (R500). -/
abbrev G_GUARD_FAIL_CNT : Nat := 0x814
/-- Address of G_VOTE_CORR_CNT (R500). -/
abbrev G_VOTE_CORR_CNT : Nat := 0x818
/-- Address of G_PAR_RST_CNT (R500). -/
abbrev G_PAR_RST_CNT : Nat := 0x81C
/-- Address of G_LOG_COAL_CNT (R500). -/
abbrev G_LOG_COAL_CNT : Nat := 0x820
/-- Address of G_LOG_DROP_CNT (R500). -/
abbrev G_LOG_DROP_CNT : Nat := 0x824
/-- Address of G_TB_LO (R507). -/
abbrev G_TB_LO : Nat := 0x8
/-- Address of G_TB_HI (R507). -/
abbrev G_TB_HI : Nat := 0xC
/-- Address of FC_SUMMARY_LO (R533). -/
abbrev FC_SUMMARY_LO : Nat := 0x4000
/-- Address of FC_SUMMARY_HI (R533). -/
abbrev FC_SUMMARY_HI : Nat := 0x4004
/-- Address of FC_REACT[i], i = 0–3 (R533). -/
abbrev FC_REACT (i : Nat) : Nat := 0x4010 + 0x4 * i
/-- Address of FC_CFG (R533). -/
abbrev FC_CFG : Nat := 0x4020
/-- Address of FC_CMD (R533). -/
abbrev FC_CMD : Nat := 0x4024
/-- Address of FC_VENT_ST (R533). -/
abbrev FC_VENT_ST : Nat := 0x4028
/-- Address of FC_WDOG (R533). -/
abbrev FC_WDOG : Nat := 0x402C
/-- Address of FC_SW (R533). -/
abbrev FC_SW : Nat := 0x4030
/-- Address of FC_INJ (R533). -/
abbrev FC_INJ : Nat := 0x4040
/-- Address of FC_INJ_ST (R533). -/
abbrev FC_INJ_ST : Nat := 0x4044
/-- Address of FC_INJ_PROPAGATE (R533). -/
abbrev FC_INJ_PROPAGATE : Nat := 0x4048
/-- Address of FC_SRC_CNT[i], i = 0–63 (R534). -/
abbrev FC_SRC_CNT (i : Nat) : Nat := 0x4100 + 0x4 * i
/-- Address of FC_VENT_STOP_CNT (R534). -/
abbrev FC_VENT_STOP_CNT : Nat := 0x4080
/-- Address of FC_INJ_CNT (R534). -/
abbrev FC_INJ_CNT : Nat := 0x4084
/-- Address of FC_REJ_CNT (R534). -/
abbrev FC_REJ_CNT : Nat := 0x4088
/-- Address of SV_CFG (R557). -/
abbrev SV_CFG : Nat := 0x8000
/-- Address of SV_UART (R557). -/
abbrev SV_UART : Nat := 0x8004
/-- Address of SV_ST (R557). -/
abbrev SV_ST : Nat := 0x8008
/-- Address of SV_HOLD[i], i = 0–2 (R557). -/
abbrev SV_HOLD (i : Nat) : Nat := 0x8010 + 0x4 * i
/-- Address of SV_ATB (R557). -/
abbrev SV_ATB : Nat := 0x8020
/-- Address of SV_ATB_ST (R557). -/
abbrev SV_ATB_ST : Nat := 0x8024
/-- Address of SV_LINE_ERR_CNT (R558). -/
abbrev SV_LINE_ERR_CNT : Nat := 0x8080
/-- Address of SV_PIN_FAIL_CNT (R558). -/
abbrev SV_PIN_FAIL_CNT : Nat := 0x8084
/-- Address of SV_CMD_REJ_CNT (R558). -/
abbrev SV_CMD_REJ_CNT : Nat := 0x8088
/-- Address of SV_SESSION_CNT (R558). -/
abbrev SV_SESSION_CNT : Nat := 0x808C

end R

/-! ### Fields -/

/-- P_MAP[n].KIND, [31:30], RWP (R47). -/
abbrev P_MAP.KIND (n : Nat) : Fld := ⟨0x100008 + 0x400 * n, 30, 2, 0x0⟩
/-- P_MAP[n].CHIP, [27:16], RWP (R47). -/
abbrev P_MAP.CHIP (n : Nat) : Fld := ⟨0x100008 + 0x400 * n, 16, 12, 0x000⟩
/-- P_MAP[n].UP, [13:12], RWP (R47). -/
abbrev P_MAP.UP (n : Nat) : Fld := ⟨0x100008 + 0x400 * n, 12, 2, 0x0⟩
/-- P_MAP[n].HUB, [10:8], RWP (R47). -/
abbrev P_MAP.HUB (n : Nat) : Fld := ⟨0x100008 + 0x400 * n, 8, 3, 0x0⟩
/-- P_MAP[n].LPORT, [7:4], RWP (R47). -/
abbrev P_MAP.LPORT (n : Nat) : Fld := ⟨0x100008 + 0x400 * n, 4, 4, 0x0⟩
/-- U_TREE[u].ENUM_TO, [23:16], RW (R54). -/
abbrev U_TREE.ENUM_TO (u : Nat) : Fld := ⟨0x118000 + 0x400 * u, 16, 8, 0x32⟩
/-- U_TREE[u].MGMT_EN, [15], RWP (R54). -/
abbrev U_TREE.MGMT_EN (u : Nat) : Fld := ⟨0x118000 + 0x400 * u, 15, 1, 0x0⟩
/-- U_TREE[u].HOST_PWR, [14], RWP (R54). -/
abbrev U_TREE.HOST_PWR (u : Nat) : Fld := ⟨0x118000 + 0x400 * u, 14, 1, 0x0⟩
/-- U_TREE[u].BH_EN, [7:1], RWP (R54). -/
abbrev U_TREE.BH_EN (u : Nat) : Fld := ⟨0x118000 + 0x400 * u, 1, 7, 0x00⟩
/-- U_TREEST[u].USB3_HUB, [4], RO (R55). -/
abbrev U_TREEST.USB3_HUB (u : Nat) : Fld := ⟨0x118004 + 0x400 * u, 4, 1, 0x0⟩
/-- U_TREEST[u].LINK, [2:0], RO (R55). -/
abbrev U_TREEST.LINK (u : Nat) : Fld := ⟨0x118004 + 0x400 * u, 0, 3, 0x0⟩
/-- U_MGMT[u].CH_MASK, [15:0], RWP (R61). -/
abbrev U_MGMT.CH_MASK (u : Nat) : Fld := ⟨0x118008 + 0x400 * u, 0, 16, 0x0000⟩
/-- P_PORTST[n].STATE, [31:28], RO (R69). -/
abbrev P_PORTST.STATE (n : Nat) : Fld := ⟨0x10000C + 0x400 * n, 28, 4, 0x0⟩
/-- P_PORTST[n].CAUSE, [27:24], RO (R69). -/
abbrev P_PORTST.CAUSE (n : Nat) : Fld := ⟨0x10000C + 0x400 * n, 24, 4, 0x0⟩
/-- P_PORTST[n].SPEED, [23:22], RO (R69). -/
abbrev P_PORTST.SPEED (n : Nat) : Fld := ⟨0x10000C + 0x400 * n, 22, 2, 0x0⟩
/-- P_PORTST[n].SS_LINK, [21], RO (R69). -/
abbrev P_PORTST.SS_LINK (n : Nat) : Fld := ⟨0x10000C + 0x400 * n, 21, 1, 0x0⟩
/-- P_PORTST[n].ENUM_STALL, [20], RO (R69). -/
abbrev P_PORTST.ENUM_STALL (n : Nat) : Fld := ⟨0x10000C + 0x400 * n, 20, 1, 0x0⟩
/-- P_PORTST[n].ADDR, [18:12], RO (R69). -/
abbrev P_PORTST.ADDR (n : Nat) : Fld := ⟨0x10000C + 0x400 * n, 12, 7, 0x00⟩
/-- P_PORTST[n].ADDR_VALID, [11], RO (R69). -/
abbrev P_PORTST.ADDR_VALID (n : Nat) : Fld := ⟨0x10000C + 0x400 * n, 11, 1, 0x0⟩
/-- CD_QCFG[q].EN, [31], RWP (R98). -/
abbrev CD_QCFG.EN (q : Nat) : Fld := ⟨0x80000 + 0x40 * q, 31, 1, 0x0⟩
/-- CD_QCFG[q].BANK, [28:24], RWP (R98). -/
abbrev CD_QCFG.BANK (q : Nat) : Fld := ⟨0x80000 + 0x40 * q, 24, 5, 0x00⟩
/-- CD_QCFG[q].SIZE, [23:20], RWP (R98). -/
abbrev CD_QCFG.SIZE (q : Nat) : Fld := ⟨0x80000 + 0x40 * q, 20, 4, 0x0⟩
/-- CD_QCFG[q].BASE, [15:0], RWP (R98). -/
abbrev CD_QCFG.BASE (q : Nat) : Fld := ⟨0x80000 + 0x40 * q, 0, 16, 0x0000⟩
/-- CD_QST[q].EN_ACT, [31], RO (R113). -/
abbrev CD_QST.EN_ACT (q : Nat) : Fld := ⟨0x80004 + 0x40 * q, 31, 1, 0x0⟩
/-- CD_QST[q].CFG_ERR, [30], RO (R113). -/
abbrev CD_QST.CFG_ERR (q : Nat) : Fld := ⟨0x80004 + 0x40 * q, 30, 1, 0x0⟩
/-- CD_QST[q].FLUSH_BUSY, [29], RO (R113). -/
abbrev CD_QST.FLUSH_BUSY (q : Nat) : Fld := ⟨0x80004 + 0x40 * q, 29, 1, 0x0⟩
/-- CD_QST[q].FLUSH_DONE, [28], RO (R113). -/
abbrev CD_QST.FLUSH_DONE (q : Nat) : Fld := ⟨0x80004 + 0x40 * q, 28, 1, 0x1⟩
/-- CD_QST[q].ABOVE_HI, [27], RO (R113). -/
abbrev CD_QST.ABOVE_HI (q : Nat) : Fld := ⟨0x80004 + 0x40 * q, 27, 1, 0x0⟩
/-- CD_QST[q].FULL, [26], RO (R113). -/
abbrev CD_QST.FULL (q : Nat) : Fld := ⟨0x80004 + 0x40 * q, 26, 1, 0x0⟩
/-- CD_QST[q].EMPTY, [25], RO (R113). -/
abbrev CD_QST.EMPTY (q : Nat) : Fld := ⟨0x80004 + 0x40 * q, 25, 1, 0x1⟩
/-- CD_QST[q].PROT_OLD, [24], RO (R113). -/
abbrev CD_QST.PROT_OLD (q : Nat) : Fld := ⟨0x80004 + 0x40 * q, 24, 1, 0x0⟩
/-- CD_QST[q].OCC, [15:0], RO (R113). -/
abbrev CD_QST.OCC (q : Nat) : Fld := ⟨0x80004 + 0x40 * q, 0, 16, 0x0000⟩
/-- CD_QTHR[q].CT_WORDS, [15:0], RW (R114). -/
abbrev CD_QTHR.CT_WORDS (q : Nat) : Fld := ⟨0x8000C + 0x40 * q, 0, 16, 0x0000⟩
/-- CD_QWM[q].HI, [31:16], RW (R114). -/
abbrev CD_QWM.HI (q : Nat) : Fld := ⟨0x80010 + 0x40 * q, 16, 16, 0x0000⟩
/-- CD_QWM[q].LO, [15:0], RW (R114). -/
abbrev CD_QWM.LO (q : Nat) : Fld := ⟨0x80010 + 0x40 * q, 0, 16, 0x0000⟩
/-- CD_QCTL[q].FLUSH, [0], RW (R114). -/
abbrev CD_QCTL.FLUSH (q : Nat) : Fld := ⟨0x80014 + 0x40 * q, 0, 1, 0x0⟩
/-- CD_PROT.SECDED, [31:0], RWP (R114). -/
abbrev CD_PROT.SECDED : Fld := ⟨0x89000, 0, 32, 0xFFFFFFFF⟩
/-- CD_PROT_PEND.PEND, [31:0], RO (R114). -/
abbrev CD_PROT_PEND.PEND : Fld := ⟨0x89004, 0, 32, 0x00000000⟩
/-- P_QSEL[n].TTQ, [28:20], RWA (R115). -/
abbrev P_QSEL.TTQ (n : Nat) : Fld := ⟨0x100010 + 0x400 * n, 20, 9, 0x000⟩
/-- P_QSEL[n].DEFQ_OUT, [18:10], RWA (R115). -/
abbrev P_QSEL.DEFQ_OUT (n : Nat) : Fld := ⟨0x100010 + 0x400 * n, 10, 9, 0x000⟩
/-- P_QSEL[n].DEFQ_IN, [8:0], RWA (R115). -/
abbrev P_QSEL.DEFQ_IN (n : Nat) : Fld := ⟨0x100010 + 0x400 * n, 0, 9, 0x000⟩
/-- U_QSEL[u].HUBQ, [24:16], RWA (R115). -/
abbrev U_QSEL.HUBQ (u : Nat) : Fld := ⟨0x11800C + 0x400 * u, 16, 9, 0x000⟩
/-- U_QSEL[u].ITPQ, [8:0], RWA (R115). -/
abbrev U_QSEL.ITPQ (u : Nat) : Fld := ⟨0x11800C + 0x400 * u, 0, 9, 0x000⟩
/-- EP_KEY[e].VALID, [31], RWA (R116). -/
abbrev EP_KEY.VALID (e : Nat) : Fld := ⟨0xC0000 + 0x8 * e, 31, 1, 0x0⟩
/-- EP_KEY[e].TYPE, [30:29], RWA (R116). -/
abbrev EP_KEY.TYPE (e : Nat) : Fld := ⟨0xC0000 + 0x8 * e, 29, 2, 0x0⟩
/-- EP_KEY[e].PORT, [23:17], RWA (R116). -/
abbrev EP_KEY.PORT (e : Nat) : Fld := ⟨0xC0000 + 0x8 * e, 17, 7, 0x00⟩
/-- EP_KEY[e].DIR, [16], RWA (R116). -/
abbrev EP_KEY.DIR (e : Nat) : Fld := ⟨0xC0000 + 0x8 * e, 16, 1, 0x0⟩
/-- EP_KEY[e].EPNUM, [15:12], RWA (R116). -/
abbrev EP_KEY.EPNUM (e : Nat) : Fld := ⟨0xC0000 + 0x8 * e, 12, 4, 0x0⟩
/-- EP_KEY[e].ADDR, [10:4], RWA (R116). -/
abbrev EP_KEY.ADDR (e : Nat) : Fld := ⟨0xC0000 + 0x8 * e, 4, 7, 0x00⟩
/-- EP_MAP[e].CLASS, [28:26], RWA (R116). -/
abbrev EP_MAP.CLASS (e : Nat) : Fld := ⟨0xC0004 + 0x8 * e, 26, 3, 0x0⟩
/-- EP_MAP[e].POLICER, [23:16], RWA (R116). -/
abbrev EP_MAP.POLICER (e : Nat) : Fld := ⟨0xC0004 + 0x8 * e, 16, 8, 0x00⟩
/-- EP_MAP[e].QUEUE, [8:0], RWA (R116). -/
abbrev EP_MAP.QUEUE (e : Nat) : Fld := ⟨0xC0004 + 0x8 * e, 0, 9, 0x000⟩
/-- TM_PL_CFG[p].RED_MAX, [15:8], RWA (R134). -/
abbrev TM_PL_CFG.RED_MAX (p : Nat) : Fld := ⟨0x40000 + 0x40 * p, 8, 8, 0x08⟩
/-- TM_PL_CFG[p].MODE, [1:0], RWA (R134). -/
abbrev TM_PL_CFG.MODE (p : Nat) : Fld := ⟨0x40000 + 0x40 * p, 0, 2, 0x0⟩
/-- TM_PL_CIR[p].CIR, [19:0], RWA (R134). -/
abbrev TM_PL_CIR.CIR (p : Nat) : Fld := ⟨0x40004 + 0x40 * p, 0, 20, 0x00000⟩
/-- TM_PL_PIR[p].PIR, [19:0], RWA (R134). -/
abbrev TM_PL_PIR.PIR (p : Nat) : Fld := ⟨0x40008 + 0x40 * p, 0, 20, 0x00000⟩
/-- TM_PL_CBS[p].CBS, [23:0], RWA (R134). -/
abbrev TM_PL_CBS.CBS (p : Nat) : Fld := ⟨0x4000C + 0x40 * p, 0, 24, 0x000000⟩
/-- TM_PL_PBS[p].PBS, [23:0], RWA (R134). -/
abbrev TM_PL_PBS.PBS (p : Nat) : Fld := ⟨0x40010 + 0x40 * p, 0, 24, 0x000000⟩
/-- TM_SH_SLOPE[s].HEAT_EN, [31], RWA (R142). -/
abbrev TM_SH_SLOPE.HEAT_EN (s : Nat) : Fld := ⟨0x44000 + 0x40 * s, 31, 1, 0x1⟩
/-- TM_SH_SLOPE[s].IDLE_SLOPE, [23:0], RWA (R142). -/
abbrev TM_SH_SLOPE.IDLE_SLOPE (s : Nat) : Fld := ⟨0x44000 + 0x40 * s, 0, 24, 0x097400⟩
/-- TM_SH_HI[s].HI, [30:0], RWA (R142). -/
abbrev TM_SH_HI.HI (s : Nat) : Fld := ⟨0x44004 + 0x40 * s, 0, 31, 0x00010000⟩
/-- TM_SH_LO[s].LO, [31:0], RWA (R142). -/
abbrev TM_SH_LO.LO (s : Nat) : Fld := ⟨0x44008 + 0x40 * s, 0, 32, 0xFFFF0000⟩
/-- TM_SH_FORGIVE[i].FORGIVE, [31:0], RW (R142). -/
abbrev TM_SH_FORGIVE.FORGIVE (i : Nat) : Fld := ⟨0x47000 + 0x4 * i, 0, 32, 0x00000000⟩
/-- TM_EG_CFG[x].OVH, [23:16], RWA (R150). -/
abbrev TM_EG_CFG.OVH (x : Nat) : Fld := ⟨0x44010 + 0x40 * x, 16, 8, 0x10⟩
/-- TM_EG_CFG[x].RES, [6:0], RWA (R150). -/
abbrev TM_EG_CFG.RES (x : Nat) : Fld := ⟨0x44010 + 0x40 * x, 0, 7, 0x5A⟩
/-- TM_EG_ST[x].BULK_GATED, [31], RO (R150). -/
abbrev TM_EG_ST.BULK_GATED (x : Nat) : Fld := ⟨0x44014 + 0x40 * x, 31, 1, 0x0⟩
/-- TM_EG_ST[x].DEFERRED, [30], RO (R150). -/
abbrev TM_EG_ST.DEFERRED (x : Nat) : Fld := ⟨0x44014 + 0x40 * x, 30, 1, 0x0⟩
/-- TM_EG_ST[x].PER_USED, [19:0], RO (R150). -/
abbrev TM_EG_ST.PER_USED (x : Nat) : Fld := ⟨0x44014 + 0x40 * x, 0, 20, 0x00000⟩
/-- TM_DRR_Q[n].QUANTUM, [19:0], RWA (R150). -/
abbrev TM_DRR_Q.QUANTUM (n : Nat) : Fld := ⟨0x46000 + 0x4 * n, 0, 20, 0x02000⟩
/-- TM_HEAT.H, [8:0], RO (R150). -/
abbrev TM_HEAT.H : Fld := ⟨0x47010, 0, 9, 0x100⟩
/-- P_LPST[n].SUSP_KIND, [31:28], RO (R178). -/
abbrev P_LPST.SUSP_KIND (n : Nat) : Fld := ⟨0x100014 + 0x400 * n, 28, 4, 0x0⟩
/-- P_LPST[n].LAST_WAKE, [27:24], RO (R178). -/
abbrev P_LPST.LAST_WAKE (n : Nat) : Fld := ⟨0x100014 + 0x400 * n, 24, 4, 0x0⟩
/-- P_LPST[n].BESL, [23:20], RO (R178). -/
abbrev P_LPST.BESL (n : Nat) : Fld := ⟨0x100014 + 0x400 * n, 20, 4, 0x0⟩
/-- P_LPST[n].L1_RWE, [19], RO (R178). -/
abbrev P_LPST.L1_RWE (n : Nat) : Fld := ⟨0x100014 + 0x400 * n, 19, 1, 0x0⟩
/-- P_LPST[n].L1_RESULT, [18:16], RO (R178). -/
abbrev P_LPST.L1_RESULT (n : Nat) : Fld := ⟨0x100014 + 0x400 * n, 16, 3, 0x0⟩
/-- P_LPST[n].SS_LS, [15:12], RO (R178). -/
abbrev P_LPST.SS_LS (n : Nat) : Fld := ⟨0x100014 + 0x400 * n, 12, 4, 0x5⟩
/-- P_LPST[n].ADMIT, [11], RO (R178). -/
abbrev P_LPST.ADMIT (n : Nat) : Fld := ⟨0x100014 + 0x400 * n, 11, 1, 0x0⟩
/-- P_LPTO[n].U2_TIMEOUT, [23:16], RO (R179). -/
abbrev P_LPTO.U2_TIMEOUT (n : Nat) : Fld := ⟨0x100018 + 0x400 * n, 16, 8, 0x00⟩
/-- P_LPTO[n].U1_TIMEOUT, [15:8], RO (R179). -/
abbrev P_LPTO.U1_TIMEOUT (n : Nat) : Fld := ⟨0x100018 + 0x400 * n, 8, 8, 0x00⟩
/-- P_LPTO[n].DEMOTE_EN, [0], RW (R179). -/
abbrev P_LPTO.DEMOTE_EN (n : Nat) : Fld := ⟨0x100018 + 0x400 * n, 0, 1, 0x1⟩
/-- U_LP_CFG[u].US_U2_IDLE, [23:16], RW (R179). -/
abbrev U_LP_CFG.US_U2_IDLE (u : Nat) : Fld := ⟨0x118010 + 0x400 * u, 16, 8, 0x04⟩
/-- U_LP_CFG[u].US_U1_IDLE, [15:8], RW (R179). -/
abbrev U_LP_CFG.US_U1_IDLE (u : Nat) : Fld := ⟨0x118010 + 0x400 * u, 8, 8, 0x0A⟩
/-- U_LP_CFG[u].L1_EN, [3], RW (R179). -/
abbrev U_LP_CFG.L1_EN (u : Nat) : Fld := ⟨0x118010 + 0x400 * u, 3, 1, 0x1⟩
/-- U_LP_CFG[u].US_INIT_EN, [2], RW (R179). -/
abbrev U_LP_CFG.US_INIT_EN (u : Nat) : Fld := ⟨0x118010 + 0x400 * u, 2, 1, 0x1⟩
/-- U_LPST[u].HS_STATE, [31:28], RO (R179). -/
abbrev U_LPST.HS_STATE (u : Nat) : Fld := ⟨0x118014 + 0x400 * u, 28, 4, 0x0⟩
/-- U_LPST[u].SS_LS, [27:24], RO (R179). -/
abbrev U_LPST.SS_LS (u : Nat) : Fld := ⟨0x118014 + 0x400 * u, 24, 4, 0x5⟩
/-- U_LPST[u].ASLEEP, [23], RO (R179). -/
abbrev U_LPST.ASLEEP (u : Nat) : Fld := ⟨0x118014 + 0x400 * u, 23, 1, 0x0⟩
/-- U_LPST[u].RWE_FRONT, [22], RO (R179). -/
abbrev U_LPST.RWE_FRONT (u : Nat) : Fld := ⟨0x118014 + 0x400 * u, 22, 1, 0x0⟩
/-- U_LPST[u].RWE_BH, [21:15], RO (R179). -/
abbrev U_LPST.RWE_BH (u : Nat) : Fld := ⟨0x118014 + 0x400 * u, 15, 7, 0x00⟩
/-- G_LP_CFG.DORM_DLY, [15:8], RW (R179). -/
abbrev G_LP_CFG.DORM_DLY : Fld := ⟨0x100, 8, 8, 0x0A⟩
/-- G_LP_CFG.ADMIT_IDLE, [7:0], RW (R179). -/
abbrev G_LP_CFG.ADMIT_IDLE : Fld := ⟨0x100, 0, 8, 0x14⟩
/-- G_U0_ADMIT.OVER, [31], RO (R179). -/
abbrev G_U0_ADMIT.OVER : Fld := ⟨0x104, 31, 1, 0x0⟩
/-- G_U0_ADMIT.COUNT, [22:16], RO (R179). -/
abbrev G_U0_ADMIT.COUNT : Fld := ⟨0x104, 16, 7, 0x00⟩
/-- G_U0_ADMIT.LIMIT, [6:0], RO (R179). -/
abbrev G_U0_ADMIT.LIMIT : Fld := ⟨0x104, 0, 7, 0x60⟩
/-- P_TC_CFG[n].ATTACH_DB, [23:16], RW (R207). -/
abbrev P_TC_CFG.ATTACH_DB (n : Nat) : Fld := ⟨0x100020 + 0x400 * n, 16, 8, 0x96⟩
/-- P_TC_CFG[n].SEAT_DB, [15:8], RW (R207). -/
abbrev P_TC_CFG.SEAT_DB (n : Nat) : Fld := ⟨0x100020 + 0x400 * n, 8, 8, 0x14⟩
/-- P_TC_CFG[n].CRADLE, [7], RWP (R207). -/
abbrev P_TC_CFG.CRADLE (n : Nat) : Fld := ⟨0x100020 + 0x400 * n, 7, 1, 0x0⟩
/-- P_TC_CFG[n].MOIST_EN, [6], RWP (R207). -/
abbrev P_TC_CFG.MOIST_EN (n : Nat) : Fld := ⟨0x100020 + 0x400 * n, 6, 1, 0x1⟩
/-- P_TC_CFG[n].VCONN_EN, [5], RW (R207). -/
abbrev P_TC_CFG.VCONN_EN (n : Nat) : Fld := ⟨0x100020 + 0x400 * n, 5, 1, 0x1⟩
/-- P_TC_CFG[n].DAM_EN, [4], RW (R207). -/
abbrev P_TC_CFG.DAM_EN (n : Nat) : Fld := ⟨0x100020 + 0x400 * n, 4, 1, 0x1⟩
/-- P_TC_CFG[n].VMODE_EN, [3], RW (R207). -/
abbrev P_TC_CFG.VMODE_EN (n : Nat) : Fld := ⟨0x100020 + 0x400 * n, 3, 1, 0x1⟩
/-- P_TC_CFG[n].SBU_SWAP, [2], RW (R207). -/
abbrev P_TC_CFG.SBU_SWAP (n : Nat) : Fld := ⟨0x100020 + 0x400 * n, 2, 1, 0x0⟩
/-- P_TC_CFG[n].RP_ADV, [1:0], RW (R207). -/
abbrev P_TC_CFG.RP_ADV (n : Nat) : Fld := ⟨0x100020 + 0x400 * n, 0, 2, 0x0⟩
/-- P_TCST[n].TC_STATE, [31:28], RO (R208). -/
abbrev P_TCST.TC_STATE (n : Nat) : Fld := ⟨0x100024 + 0x400 * n, 28, 4, 0x0⟩
/-- P_TCST[n].CC1, [27:26], RO (R208). -/
abbrev P_TCST.CC1 (n : Nat) : Fld := ⟨0x100024 + 0x400 * n, 26, 2, 0x0⟩
/-- P_TCST[n].CC2, [25:24], RO (R208). -/
abbrev P_TCST.CC2 (n : Nat) : Fld := ⟨0x100024 + 0x400 * n, 24, 2, 0x0⟩
/-- P_TCST[n].ORIENT, [23], RO (R208). -/
abbrev P_TCST.ORIENT (n : Nat) : Fld := ⟨0x100024 + 0x400 * n, 23, 1, 0x0⟩
/-- P_TCST[n].MUX_SET, [22], RO (R208). -/
abbrev P_TCST.MUX_SET (n : Nat) : Fld := ⟨0x100024 + 0x400 * n, 22, 1, 0x0⟩
/-- P_TCST[n].SEAT_IN, [21], RO (R208). -/
abbrev P_TCST.SEAT_IN (n : Nat) : Fld := ⟨0x100024 + 0x400 * n, 21, 1, 0x0⟩
/-- P_TCST[n].PWR_OK, [20], RO (R208). -/
abbrev P_TCST.PWR_OK (n : Nat) : Fld := ⟨0x100024 + 0x400 * n, 20, 1, 0x0⟩
/-- P_TCST[n].VCONN_ON, [19], RO (R208). -/
abbrev P_TCST.VCONN_ON (n : Nat) : Fld := ⟨0x100024 + 0x400 * n, 19, 1, 0x0⟩
/-- P_TCST[n].PARTNER, [18], RO (R208). -/
abbrev P_TCST.PARTNER (n : Nat) : Fld := ⟨0x100024 + 0x400 * n, 18, 1, 0x0⟩
/-- P_TCST[n].SBU_ST, [17:16], RO (R208). -/
abbrev P_TCST.SBU_ST (n : Nat) : Fld := ⟨0x100024 + 0x400 * n, 16, 2, 0x0⟩
/-- P_TCST[n].SB_CH, [15:12], RO (R208). -/
abbrev P_TCST.SB_CH (n : Nat) : Fld := ⟨0x100024 + 0x400 * n, 12, 4, 0x0⟩
/-- P_TCST[n].MOIST_FAIL, [11:8], RO (R208). -/
abbrev P_TCST.MOIST_FAIL (n : Nat) : Fld := ⟨0x100024 + 0x400 * n, 8, 4, 0x0⟩
/-- P_TCST[n].MOIST_VALID, [7], RO (R208). -/
abbrev P_TCST.MOIST_VALID (n : Nat) : Fld := ⟨0x100024 + 0x400 * n, 7, 1, 0x0⟩
/-- P_TCST[n].OVR, [6], RO (R208). -/
abbrev P_TCST.OVR (n : Nat) : Fld := ⟨0x100024 + 0x400 * n, 6, 1, 0x0⟩
/-- P_TCST[n].VMODE, [5], RO (R208). -/
abbrev P_TCST.VMODE (n : Nat) : Fld := ⟨0x100024 + 0x400 * n, 5, 1, 0x0⟩
/-- P_MOIST_CC[n].CC2, [31:16], RO (R209). -/
abbrev P_MOIST_CC.CC2 (n : Nat) : Fld := ⟨0x10002C + 0x400 * n, 16, 16, 0x0000⟩
/-- P_MOIST_CC[n].CC1, [15:0], RO (R209). -/
abbrev P_MOIST_CC.CC1 (n : Nat) : Fld := ⟨0x10002C + 0x400 * n, 0, 16, 0x0000⟩
/-- P_MOIST_SBU[n].SBU2, [31:16], RO (R209). -/
abbrev P_MOIST_SBU.SBU2 (n : Nat) : Fld := ⟨0x100030 + 0x400 * n, 16, 16, 0x0000⟩
/-- P_MOIST_SBU[n].SBU1, [15:0], RO (R209). -/
abbrev P_MOIST_SBU.SBU1 (n : Nat) : Fld := ⟨0x100030 + 0x400 * n, 0, 16, 0x0000⟩
/-- P_TC_CMD[n].RECHECK, [1], RWP (R209). -/
abbrev P_TC_CMD.RECHECK (n : Nat) : Fld := ⟨0x100028 + 0x400 * n, 1, 1, 0x0⟩
/-- P_TC_CMD[n].OVERRIDE, [0], RWP (R209). -/
abbrev P_TC_CMD.OVERRIDE (n : Nat) : Fld := ⟨0x100028 + 0x400 * n, 0, 1, 0x0⟩
/-- G_MOIST_CFG.RETEST, [31:24], RWP (R209). -/
abbrev G_MOIST_CFG.RETEST : Fld := ⟨0x110, 24, 8, 0x0A⟩
/-- G_MOIST_CFG.SBU_OPEN, [15:8], RWP (R209). -/
abbrev G_MOIST_CFG.SBU_OPEN : Fld := ⟨0x110, 8, 8, 0x14⟩
/-- G_MOIST_CFG.CC_OPEN, [7:0], RWP (R209). -/
abbrev G_MOIST_CFG.CC_OPEN : Fld := ⟨0x110, 0, 8, 0x14⟩
/-- G_SB_CFG[c].MODE, [31:30], RW (R209). -/
abbrev G_SB_CFG.MODE (c : Nat) : Fld := ⟨0x140 + 0x4 * c, 30, 2, 0x1⟩
/-- G_SB_CFG[c].LEVEL, [29], RW (R209). -/
abbrev G_SB_CFG.LEVEL (c : Nat) : Fld := ⟨0x140 + 0x4 * c, 29, 1, 0x0⟩
/-- G_SB_CFG[c].CONSOLE, [28], RO (R209). -/
abbrev G_SB_CFG.CONSOLE (c : Nat) : Fld := ⟨0x140 + 0x4 * c, 28, 1, 0x0⟩
/-- G_SB_CFG[c].ACTIVE, [27], RO (R209). -/
abbrev G_SB_CFG.ACTIVE (c : Nat) : Fld := ⟨0x140 + 0x4 * c, 27, 1, 0x0⟩
/-- G_SB_CFG[c].PORT, [22:16], RW (R209). -/
abbrev G_SB_CFG.PORT (c : Nat) : Fld := ⟨0x140 + 0x4 * c, 16, 7, 0x00⟩
/-- G_SB_CFG[c].CUR_PORT, [14:8], RO (R209). -/
abbrev G_SB_CFG.CUR_PORT (c : Nat) : Fld := ⟨0x140 + 0x4 * c, 8, 7, 0x00⟩
/-- U_TC_CFG[u].DRP, [0], RWP (R209). -/
abbrev U_TC_CFG.DRP (u : Nat) : Fld := ⟨0x118018 + 0x400 * u, 0, 1, 0x0⟩
/-- PD_CFG[k].EN, [31], RWP (R245). -/
abbrev PD_CFG.EN (k : Nat) : Fld := ⟨0x100100 + 0x400 * k, 31, 1, 0x1⟩
/-- PD_CFG[k].REV_MAX, [30:29], RW (R245). -/
abbrev PD_CFG.REV_MAX (k : Nat) : Fld := ⟨0x100100 + 0x400 * k, 29, 2, 0x2⟩
/-- PD_CFG[k].EPR_EN, [28], RWP (R245). -/
abbrev PD_CFG.EPR_EN (k : Nat) : Fld := ⟨0x100100 + 0x400 * k, 28, 1, if k < 96 then 0x1 else 0x0⟩
/-- PD_CFG[k].PPS_EN, [27], RW (R245). -/
abbrev PD_CFG.PPS_EN (k : Nat) : Fld := ⟨0x100100 + 0x400 * k, 27, 1, 0x1⟩
/-- PD_CFG[k].AVS_EN, [26], RW (R245). -/
abbrev PD_CFG.AVS_EN (k : Nat) : Fld := ⟨0x100100 + 0x400 * k, 26, 1, if k < 96 then 0x1 else 0x0⟩
/-- PD_CFG[k].FRS_EN, [25], RWP (R245). -/
abbrev PD_CFG.FRS_EN (k : Nat) : Fld := ⟨0x100100 + 0x400 * k, 25, 1, 0x0⟩
/-- PD_CFG[k].PRS_EN, [24], RWP (R245). -/
abbrev PD_CFG.PRS_EN (k : Nat) : Fld := ⟨0x100100 + 0x400 * k, 24, 1, if k < 96 then 0x0 else 0x1⟩
/-- PD_CFG[k].MAX_PWR, [23:16], RWP (R245). -/
abbrev PD_CFG.MAX_PWR (k : Nat) : Fld := ⟨0x100100 + 0x400 * k, 16, 8, if k < 96 then 0xF0 else 0x64⟩
/-- PD_CFG[k].THREAD, [13:8], RW (R245). -/
abbrev PD_CFG.THREAD (k : Nat) : Fld := ⟨0x100100 + 0x400 * k, 8, 6, 0x08⟩
/-- PD_CFG[k].WAIT_MAX, [7:0], RW (R245). -/
abbrev PD_CFG.WAIT_MAX (k : Nat) : Fld := ⟨0x100100 + 0x400 * k, 0, 8, 0x14⟩
/-- PD_ST[k].CONTRACT, [31:30], RO (R246). -/
abbrev PD_ST.CONTRACT (k : Nat) : Fld := ⟨0x100104 + 0x400 * k, 30, 2, 0x0⟩
/-- PD_ST[k].REV, [29:28], RO (R246). -/
abbrev PD_ST.REV (k : Nat) : Fld := ⟨0x100104 + 0x400 * k, 28, 2, 0x0⟩
/-- PD_ST[k].KIND, [27:25], RO (R246). -/
abbrev PD_ST.KIND (k : Nat) : Fld := ⟨0x100104 + 0x400 * k, 25, 3, 0x0⟩
/-- PD_ST[k].EPR_MODE, [24], RO (R246). -/
abbrev PD_ST.EPR_MODE (k : Nat) : Fld := ⟨0x100104 + 0x400 * k, 24, 1, 0x0⟩
/-- PD_ST[k].IN_TRANS, [23], RO (R246). -/
abbrev PD_ST.IN_TRANS (k : Nat) : Fld := ⟨0x100104 + 0x400 * k, 23, 1, 0x0⟩
/-- PD_ST[k].HR_SEQ, [22], RO (R246). -/
abbrev PD_ST.HR_SEQ (k : Nat) : Fld := ⟨0x100104 + 0x400 * k, 22, 1, 0x0⟩
/-- PD_ST[k].SWAP, [21:20], RO (R246). -/
abbrev PD_ST.SWAP (k : Nat) : Fld := ⟨0x100104 + 0x400 * k, 20, 2, 0x0⟩
/-- PD_ST[k].PWR_ROLE, [19], RO (R246). -/
abbrev PD_ST.PWR_ROLE (k : Nat) : Fld := ⟨0x100104 + 0x400 * k, 19, 1, 0x0⟩
/-- PD_ST[k].DATA_ROLE, [18], RO (R246). -/
abbrev PD_ST.DATA_ROLE (k : Nat) : Fld := ⟨0x100104 + 0x400 * k, 18, 1, 0x0⟩
/-- PD_ST[k].SINKTX, [17], RO (R246). -/
abbrev PD_ST.SINKTX (k : Nat) : Fld := ⟨0x100104 + 0x400 * k, 17, 1, 0x0⟩
/-- PD_ST[k].CABLE_5A, [16], RO (R246). -/
abbrev PD_ST.CABLE_5A (k : Nat) : Fld := ⟨0x100104 + 0x400 * k, 16, 1, 0x0⟩
/-- PD_ST[k].CABLE_EPR, [15], RO (R246). -/
abbrev PD_ST.CABLE_EPR (k : Nat) : Fld := ⟨0x100104 + 0x400 * k, 15, 1, 0x0⟩
/-- PD_ST[k].ABORTED, [14], RO (R246). -/
abbrev PD_ST.ABORTED (k : Nat) : Fld := ⟨0x100104 + 0x400 * k, 14, 1, 0x0⟩
/-- PD_ST[k].TX_ST, [13:11], RO (R246). -/
abbrev PD_ST.TX_ST (k : Nat) : Fld := ⟨0x100104 + 0x400 * k, 11, 3, 0x0⟩
/-- PD_ST[k].RX_CNT, [10:8], RO (R246). -/
abbrev PD_ST.RX_CNT (k : Nat) : Fld := ⟨0x100104 + 0x400 * k, 8, 3, 0x0⟩
/-- PD_ST[k].PDO_IDX, [7:4], RO (R246). -/
abbrev PD_ST.PDO_IDX (k : Nat) : Fld := ⟨0x100104 + 0x400 * k, 4, 4, 0x0⟩
/-- PD_NEXT[k].KIND, [31:29], RWA (R247). -/
abbrev PD_NEXT.KIND (k : Nat) : Fld := ⟨0x100108 + 0x400 * k, 29, 3, 0x0⟩
/-- PD_NEXT[k].VOLT, [28:16], RWA (R247). -/
abbrev PD_NEXT.VOLT (k : Nat) : Fld := ⟨0x100108 + 0x400 * k, 16, 13, 0x0000⟩
/-- PD_NEXT[k].CURR, [8:0], RWA (R247). -/
abbrev PD_NEXT.CURR (k : Nat) : Fld := ⟨0x100108 + 0x400 * k, 0, 9, 0x000⟩
/-- PD_CONTRACT[k].KIND, [31:29], RO (R247). -/
abbrev PD_CONTRACT.KIND (k : Nat) : Fld := ⟨0x10010C + 0x400 * k, 29, 3, 0x0⟩
/-- PD_CONTRACT[k].VOLT, [28:16], RO (R247). -/
abbrev PD_CONTRACT.VOLT (k : Nat) : Fld := ⟨0x10010C + 0x400 * k, 16, 13, 0x0000⟩
/-- PD_CONTRACT[k].CURR, [8:0], RO (R247). -/
abbrev PD_CONTRACT.CURR (k : Nat) : Fld := ⟨0x10010C + 0x400 * k, 0, 9, 0x000⟩
/-- PD_CMD[k].RESULT, [31:28], RO (R247). -/
abbrev PD_CMD.RESULT (k : Nat) : Fld := ⟨0x100110 + 0x400 * k, 28, 4, 0x0⟩
/-- PD_CMD[k].CMD, [2:0], RWP (R247). -/
abbrev PD_CMD.CMD (k : Nat) : Fld := ⟨0x100110 + 0x400 * k, 0, 3, 0x0⟩
/-- PD_TXW0[k].WORD, [31:0], RW (R247). -/
abbrev PD_TXW0.WORD (k : Nat) : Fld := ⟨0x100140 + 0x400 * k, 0, 32, 0x00000000⟩
/-- PD_TXW1[k].WORD, [31:0], RW (R247). -/
abbrev PD_TXW1.WORD (k : Nat) : Fld := ⟨0x100144 + 0x400 * k, 0, 32, 0x00000000⟩
/-- PD_TXW2[k].WORD, [31:0], RW (R247). -/
abbrev PD_TXW2.WORD (k : Nat) : Fld := ⟨0x100148 + 0x400 * k, 0, 32, 0x00000000⟩
/-- PD_TXW3[k].WORD, [31:0], RW (R247). -/
abbrev PD_TXW3.WORD (k : Nat) : Fld := ⟨0x10014C + 0x400 * k, 0, 32, 0x00000000⟩
/-- PD_TXW4[k].WORD, [31:0], RW (R247). -/
abbrev PD_TXW4.WORD (k : Nat) : Fld := ⟨0x100150 + 0x400 * k, 0, 32, 0x00000000⟩
/-- PD_TXW5[k].WORD, [31:0], RW (R247). -/
abbrev PD_TXW5.WORD (k : Nat) : Fld := ⟨0x100154 + 0x400 * k, 0, 32, 0x00000000⟩
/-- PD_TXW6[k].WORD, [31:0], RW (R247). -/
abbrev PD_TXW6.WORD (k : Nat) : Fld := ⟨0x100158 + 0x400 * k, 0, 32, 0x00000000⟩
/-- PD_TXW7[k].WORD, [31:0], RW (R247). -/
abbrev PD_TXW7.WORD (k : Nat) : Fld := ⟨0x10015C + 0x400 * k, 0, 32, 0x00000000⟩
/-- PP_CFG[k].SLOPE, [31:24], RWA (R278). -/
abbrev PP_CFG.SLOPE (k : Nat) : Fld := ⟨0x100200 + 0x400 * k, 24, 8, 0x0A⟩
/-- PP_CFG[k].VSLEW, [23:16], RWA (R278). -/
abbrev PP_CFG.VSLEW (k : Nat) : Fld := ⟨0x100200 + 0x400 * k, 16, 8, 0x06⟩
/-- PP_CFG[k].RETRIES, [14:12], RWA (R278). -/
abbrev PP_CFG.RETRIES (k : Nat) : Fld := ⟨0x100200 + 0x400 * k, 12, 3, 0x3⟩
/-- PP_CFG[k].FAULT_T, [10:0], RWA (R278). -/
abbrev PP_CFG.FAULT_T (k : Nat) : Fld := ⟨0x100200 + 0x400 * k, 0, 11, 0x1F4⟩
/-- PP_TRIP[k].FT_RUN, [31:24], RWP (R279). -/
abbrev PP_TRIP.FT_RUN (k : Nat) : Fld := ⟨0x100204 + 0x400 * k, 24, 8, 0x50⟩
/-- PP_TRIP[k].FT_RAMP, [23:16], RWP (R279). -/
abbrev PP_TRIP.FT_RAMP (k : Nat) : Fld := ⟨0x100204 + 0x400 * k, 16, 8, 0x50⟩
/-- PP_TRIP[k].ST_LIMIT, [15:0], RWP (R279). -/
abbrev PP_TRIP.ST_LIMIT (k : Nat) : Fld := ⟨0x100204 + 0x400 * k, 0, 16, 0x0438⟩
/-- PP_STAGE[k].RSHUNT, [31:24], RWP (R279). -/
abbrev PP_STAGE.RSHUNT (k : Nat) : Fld := ⟨0x100208 + 0x400 * k, 24, 8, 0x32⟩
/-- PP_STAGE[k].GATE_RISE, [23:16], RWP (R279). -/
abbrev PP_STAGE.GATE_RISE (k : Nat) : Fld := ⟨0x100208 + 0x400 * k, 16, 8, 0x14⟩
/-- PP_STAGE[k].GAIN, [15:0], RWP (R279). -/
abbrev PP_STAGE.GAIN (k : Nat) : Fld := ⟨0x100208 + 0x400 * k, 0, 16, 0x1400⟩
/-- PP_CMD[k].RESULT, [31:28], RO (R280). -/
abbrev PP_CMD.RESULT (k : Nat) : Fld := ⟨0x10020C + 0x400 * k, 28, 4, 0x0⟩
/-- PP_CMD[k].CMD, [2:0], RWP (R280). -/
abbrev PP_CMD.CMD (k : Nat) : Fld := ⟨0x10020C + 0x400 * k, 0, 3, 0x0⟩
/-- PP_ST[k].STATE, [31:28], RO (R281). -/
abbrev PP_ST.STATE (k : Nat) : Fld := ⟨0x100210 + 0x400 * k, 28, 4, 0x0⟩
/-- PP_ST[k].CAUSE, [27:24], RO (R281). -/
abbrev PP_ST.CAUSE (k : Nat) : Fld := ⟨0x100210 + 0x400 * k, 24, 4, 0x0⟩
/-- PP_ST[k].PGOOD, [23], RO (R281). -/
abbrev PP_ST.PGOOD (k : Nat) : Fld := ⟨0x100210 + 0x400 * k, 23, 1, 0x0⟩
/-- PP_ST[k].FTIMER, [22], RO (R281). -/
abbrev PP_ST.FTIMER (k : Nat) : Fld := ⟨0x100210 + 0x400 * k, 22, 1, 0x0⟩
/-- PP_ST[k].FT_LVL, [21], RO (R281). -/
abbrev PP_ST.FT_LVL (k : Nat) : Fld := ⟨0x100210 + 0x400 * k, 21, 1, 0x0⟩
/-- PP_ST[k].DIS_SLOW, [20], RO (R281). -/
abbrev PP_ST.DIS_SLOW (k : Nat) : Fld := ⟨0x100210 + 0x400 * k, 20, 1, 0x0⟩
/-- PP_ST[k].TRIM_LIM, [19], RO (R281). -/
abbrev PP_ST.TRIM_LIM (k : Nat) : Fld := ⟨0x100210 + 0x400 * k, 19, 1, 0x0⟩
/-- PP_ST[k].RETRY_USED, [18:16], RO (R281). -/
abbrev PP_ST.RETRY_USED (k : Nat) : Fld := ⟨0x100210 + 0x400 * k, 16, 3, 0x0⟩
/-- PP_ST[k].CMD_OFF, [15], RO (R281). -/
abbrev PP_ST.CMD_OFF (k : Nat) : Fld := ⟨0x100210 + 0x400 * k, 15, 1, 0x0⟩
/-- PP_ST[k].VSET_CODE, [11:0], RO (R281). -/
abbrev PP_ST.VSET_CODE (k : Nat) : Fld := ⟨0x100210 + 0x400 * k, 0, 12, 0x000⟩
/-- PP_MEAS[k].VBUS, [31:16], RO (R282). -/
abbrev PP_MEAS.VBUS (k : Nat) : Fld := ⟨0x100214 + 0x400 * k, 16, 16, 0x0000⟩
/-- PP_MEAS[k].IBUS, [15:0], RO (R282). -/
abbrev PP_MEAS.IBUS (k : Nat) : Fld := ⟨0x100214 + 0x400 * k, 0, 16, 0x0000⟩
/-- PP_LAST[k].VBUS, [31:16], RO (R282). -/
abbrev PP_LAST.VBUS (k : Nat) : Fld := ⟨0x100218 + 0x400 * k, 16, 16, 0x0000⟩
/-- PP_LAST[k].IBUS, [15:0], RO (R282). -/
abbrev PP_LAST.IBUS (k : Nat) : Fld := ⟨0x100218 + 0x400 * k, 0, 16, 0x0000⟩
/-- BSN_CHIP_CAP.EMAX, [31:16], RWP (R306). -/
abbrev BSN_CHIP_CAP.EMAX : Fld := ⟨0x20000, 16, 16, 0x4E20⟩
/-- BSN_CHIP_CAP.CAP, [15:0], RWP (R306). -/
abbrev BSN_CHIP_CAP.CAP : Fld := ⟨0x20000, 0, 16, 0x0BB8⟩
/-- BSN_SG_CAP[g].EMAX, [31:16], RWP (R306). -/
abbrev BSN_SG_CAP.EMAX (g : Nat) : Fld := ⟨0x20100 + 0x10 * g, 16, 16, 0x1388⟩
/-- BSN_SG_CAP[g].CAP, [15:0], RWP (R306). -/
abbrev BSN_SG_CAP.CAP (g : Nat) : Fld := ⟨0x20100 + 0x10 * g, 0, 16, if g = 12 then 0xC8 else 0xF0⟩
/-- BSN_CHIP_MEAS.P, [31:0], RO (R306). -/
abbrev BSN_CHIP_MEAS.P : Fld := ⟨0x20008, 0, 32, 0x00000000⟩
/-- BSN_SG_MEAS[g].P, [23:0], RO (R306). -/
abbrev BSN_SG_MEAS.P (g : Nat) : Fld := ⟨0x20108 + 0x10 * g, 0, 24, 0x000000⟩
/-- BSN_CHIP_ST.OVER, [31], RO (R306). -/
abbrev BSN_CHIP_ST.OVER : Fld := ⟨0x2000C, 31, 1, 0x0⟩
/-- BSN_CHIP_ST.EMPTY, [30], RO (R306). -/
abbrev BSN_CHIP_ST.EMPTY : Fld := ⟨0x2000C, 30, 1, 0x0⟩
/-- BSN_SG_ST[g].OVER, [31], RO (R306). -/
abbrev BSN_SG_ST.OVER (g : Nat) : Fld := ⟨0x2010C + 0x10 * g, 31, 1, 0x0⟩
/-- BSN_SG_ST[g].EMPTY, [30], RO (R306). -/
abbrev BSN_SG_ST.EMPTY (g : Nat) : Fld := ⟨0x2010C + 0x10 * g, 30, 1, 0x0⟩
/-- BSN_CHG[k].CHARGE, [17:0], RO (R306). -/
abbrev BSN_CHG.CHARGE (k : Nat) : Fld := ⟨0x100280 + 0x400 * k, 0, 18, 0x00000⟩
/-- BSN_PRIO[i].PRIO, [31:0], RW (R306). -/
abbrev BSN_PRIO.PRIO (i : Nat) : Fld := ⟨0x202A0 + 0x4 * i, 0, 32, 0x55555555⟩
/-- BSN_GRANT_CFG.GRANT_T, [31:16], RW (R306). -/
abbrev BSN_GRANT_CFG.GRANT_T : Fld := ⟨0x2029C, 16, 16, 0x01F4⟩
/-- BSN_GRANT_CFG.AGE_BLOCK, [15:0], RW (R306). -/
abbrev BSN_GRANT_CFG.AGE_BLOCK : Fld := ⟨0x2029C, 0, 16, 0x07D0⟩
/-- BSN_TS[i].TEMP, [15:0], RO (R307). -/
abbrev BSN_TS.TEMP (i : Nat) : Fld := ⟨0x20200 + 0x4 * i, 0, 16, 0x0000⟩
/-- BSN_BRD_CFG[j].SRC, [31:30], RWP (R307). -/
abbrev BSN_BRD_CFG.SRC (j : Nat) : Fld := ⟨0x20240 + 0x4 * j, 30, 2, 0x0⟩
/-- BSN_BRD_CFG[j].ADDR, [28:22], RWP (R307). -/
abbrev BSN_BRD_CFG.ADDR (j : Nat) : Fld := ⟨0x20240 + 0x4 * j, 22, 7, 0x00⟩
/-- BSN_BRD_CFG[j].REG, [21:14], RWP (R307). -/
abbrev BSN_BRD_CFG.REG (j : Nat) : Fld := ⟨0x20240 + 0x4 * j, 14, 8, 0x00⟩
/-- BSN_BRD_CFG[j].LIMIT, [7:0], RWP (R307). -/
abbrev BSN_BRD_CFG.LIMIT (j : Nat) : Fld := ⟨0x20240 + 0x4 * j, 0, 8, 0x55⟩
/-- BSN_BRD_T[j].VALID, [31], RO (R307). -/
abbrev BSN_BRD_T.VALID (j : Nat) : Fld := ⟨0x20250 + 0x4 * j, 31, 1, 0x0⟩
/-- BSN_BRD_T[j].FAULT, [30], RO (R307). -/
abbrev BSN_BRD_T.FAULT (j : Nat) : Fld := ⟨0x20250 + 0x4 * j, 30, 1, 0x0⟩
/-- BSN_BRD_T[j].TEMP, [15:0], RO (R307). -/
abbrev BSN_BRD_T.TEMP (j : Nat) : Fld := ⟨0x20250 + 0x4 * j, 0, 16, 0x0000⟩
/-- BSN_HEAT_CFG.SPAN, [31:24], RW (R307). -/
abbrev BSN_HEAT_CFG.SPAN : Fld := ⟨0x20280, 24, 8, 0x19⟩
/-- BSN_HEAT_CFG.H_STEP, [23:16], RW (R307). -/
abbrev BSN_HEAT_CFG.H_STEP : Fld := ⟨0x20280, 16, 8, 0x08⟩
/-- BSN_HEAT_CFG.H_FLOOR, [8:0], RW (R307). -/
abbrev BSN_HEAT_CFG.H_FLOOR : Fld := ⟨0x20280, 0, 9, 0x040⟩
/-- BSN_HEAT_CAP.H_CAP, [8:0], RW (R307). -/
abbrev BSN_HEAT_CAP.H_CAP : Fld := ⟨0x20284, 0, 9, 0x100⟩
/-- BSN_HEAT_ST.SRC, [31:28], RO (R307). -/
abbrev BSN_HEAT_ST.SRC : Fld := ⟨0x20288, 28, 4, 0x0⟩
/-- BSN_HEAT_ST.MARGIN, [23:16], RO (R307). -/
abbrev BSN_HEAT_ST.MARGIN : Fld := ⟨0x20288, 16, 8, 0x7F⟩
/-- BSN_HEAT_ST.H_TGT, [8:0], RO (R307). -/
abbrev BSN_HEAT_ST.H_TGT : Fld := ⟨0x20288, 0, 9, 0x100⟩
/-- BSN_U0_CFG.U0_SHED, [22:16], RW (R307). -/
abbrev BSN_U0_CFG.U0_SHED : Fld := ⟨0x2028C, 16, 7, 0x18⟩
/-- BSN_U0_CFG.U0_MIN, [14:8], RW (R307). -/
abbrev BSN_U0_CFG.U0_MIN : Fld := ⟨0x2028C, 8, 7, 0x08⟩
/-- BSN_U0_CFG.U0_MAX, [6:0], RW (R307). -/
abbrev BSN_U0_CFG.U0_MAX : Fld := ⟨0x2028C, 0, 7, 0x60⟩
/-- BSN_SHED_CTL.LEVEL, [2:0], RWP (R307). -/
abbrev BSN_SHED_CTL.LEVEL : Fld := ⟨0x20290, 0, 3, 0x0⟩
/-- BSN_SHED_ST.LEVEL, [30:28], RO (R307). -/
abbrev BSN_SHED_ST.LEVEL : Fld := ⟨0x20294, 28, 3, 0x0⟩
/-- BSN_SHED_ST.CAUSE, [4:0], RO (R307). -/
abbrev BSN_SHED_ST.CAUSE : Fld := ⟨0x20294, 0, 5, 0x00⟩
/-- BSN_SHED_CFG.OFF_GAP, [31:25], RW (R307). -/
abbrev BSN_SHED_CFG.OFF_GAP : Fld := ⟨0x20298, 25, 7, 0x05⟩
/-- BSN_SHED_CFG.H_SHED, [24:16], RW (R307). -/
abbrev BSN_SHED_CFG.H_SHED : Fld := ⟨0x20298, 16, 9, 0x080⟩
/-- BSN_SHED_CFG.HYST, [15:8], RW (R307). -/
abbrev BSN_SHED_CFG.HYST : Fld := ⟨0x20298, 8, 8, 0x05⟩
/-- BSN_SHED_CFG.E_EXIT, [7:0], RW (R307). -/
abbrev BSN_SHED_CFG.E_EXIT : Fld := ⟨0x20298, 0, 8, 0x19⟩
/-- TK_TCTL[t].RESULT, [31:28], RO (R345). -/
abbrev TK_TCTL.RESULT (t : Nat) : Fld := ⟨0x10000 + 0x40 * t, 28, 4, 0x0⟩
/-- TK_TCTL[t].CMD, [2:0], RWP (R345). -/
abbrev TK_TCTL.CMD (t : Nat) : Fld := ⟨0x10000 + 0x40 * t, 0, 3, 0x0⟩
/-- TK_TPC[t].PC, [18:2], RWP (R345). -/
abbrev TK_TPC.PC (t : Nat) : Fld := ⟨0x10004 + 0x40 * t, 2, 17, if t = 0 then 0x10000 else 0⟩
/-- TK_TCFG[t].START_PRIV, [31], RWP (R345). -/
abbrev TK_TCFG.START_PRIV (t : Nat) : Fld := ⟨0x10008 + 0x40 * t, 31, 1, 0x1⟩
/-- TK_TVEC[t].VEC, [18:2], RWP (R345). -/
abbrev TK_TVEC.VEC (t : Nat) : Fld := ⟨0x1000C + 0x40 * t, 2, 17, 0x10001⟩
/-- TK_UWIN[t].SIZE, [31:28], RWP (R345). -/
abbrev TK_UWIN.SIZE (t : Nat) : Fld := ⟨0x10010 + 0x40 * t, 28, 4, 0x0⟩
/-- TK_UWIN[t].BASE, [16:0], RWP (R345). -/
abbrev TK_UWIN.BASE (t : Nat) : Fld := ⟨0x10010 + 0x40 * t, 0, 17, 0x00000⟩
/-- TK_TEXC[t].TCODE, [31:24], RO (R345). -/
abbrev TK_TEXC.TCODE (t : Nat) : Fld := ⟨0x10018 + 0x40 * t, 24, 8, 0x00⟩
/-- TK_TEXC[t].EPRIV, [8], RO (R345). -/
abbrev TK_TEXC.EPRIV (t : Nat) : Fld := ⟨0x10018 + 0x40 * t, 8, 1, 0x0⟩
/-- TK_TEXC[t].ECAUSE, [7:0], RO (R345). -/
abbrev TK_TEXC.ECAUSE (t : Nat) : Fld := ⟨0x10018 + 0x40 * t, 0, 8, 0x00⟩
/-- TK_TEPC[t].EPC, [31:0], RO (R345). -/
abbrev TK_TEPC.EPC (t : Nat) : Fld := ⟨0x1001C + 0x40 * t, 0, 32, 0x00000000⟩
/-- TK_TEADDR[t].EADDR, [31:0], RO (R345). -/
abbrev TK_TEADDR.EADDR (t : Nat) : Fld := ⟨0x10020 + 0x40 * t, 0, 32, 0x00000000⟩
/-- TK_VERSION.ISA_MAJOR, [31:24], RO (R346). -/
abbrev TK_VERSION.ISA_MAJOR : Fld := ⟨0x11000, 24, 8, 0x01⟩
/-- TK_VERSION.ISA_MINOR, [23:16], RO (R346). -/
abbrev TK_VERSION.ISA_MINOR : Fld := ⟨0x11000, 16, 8, 0x00⟩
/-- TK_VERSION.ROM_REV, [15:8], RO (R346). -/
abbrev TK_VERSION.ROM_REV : Fld := ⟨0x11000, 8, 8, 0x12⟩
/-- TK_VERSION.THREADS, [7:0], RO (R346). -/
abbrev TK_VERSION.THREADS : Fld := ⟨0x11000, 0, 8, 0x40⟩
/-- TK_CTL.IMEM_WE, [0], RWP (R346). -/
abbrev TK_CTL.IMEM_WE : Fld := ⟨0x11004, 0, 1, 0x0⟩
/-- TK_EVROUTE[i]: route enable of event 4i + j (R346). -/
abbrev TK_EVROUTE.EN (i j : Nat) : Fld := ⟨0x11100 + 0x4 * i, 8 * j + 7, 1, 0⟩
/-- TK_EVROUTE[i]: target thread of event 4i + j (R346). -/
abbrev TK_EVROUTE.THREAD (i j : Nat) : Fld := ⟨0x11100 + 0x4 * i, 8 * j, 6, 0⟩
/-- TK_REQ_CFG.HOST_TO, [31:24], RW (R346). -/
abbrev TK_REQ_CFG.HOST_TO : Fld := ⟨0x11008, 24, 8, 0x2D⟩
/-- TK_REQ_CFG.VND_FIRST, [15:8], RWP (R346). -/
abbrev TK_REQ_CFG.VND_FIRST : Fld := ⟨0x11008, 8, 8, 0x00⟩
/-- TK_REQ_CFG.VND_LAST, [7:0], RWP (R346). -/
abbrev TK_REQ_CFG.VND_LAST : Fld := ⟨0x11008, 0, 8, 0x00⟩
/-- G_STRAP.STRAPS, [7:0], RO (R390). -/
abbrev G_STRAP.STRAPS : Fld := ⟨0x2C, 0, 8, 0⟩
/-- G_BOOT_ST.SOURCE, [31:30], RO (R390). -/
abbrev G_BOOT_ST.SOURCE : Fld := ⟨0x200, 30, 2, 0x0⟩
/-- G_BOOT_ST.CONFIRMED, [29], RO (R390). -/
abbrev G_BOOT_ST.CONFIRMED : Fld := ⟨0x200, 29, 1, 0x0⟩
/-- G_BOOT_ST.CFG_ERR, [28], RO (R390). -/
abbrev G_BOOT_ST.CFG_ERR : Fld := ⟨0x200, 28, 1, 0x0⟩
/-- G_BOOT_ST.FAIL_B, [25], RO (R390). -/
abbrev G_BOOT_ST.FAIL_B : Fld := ⟨0x200, 25, 1, 0x0⟩
/-- G_BOOT_ST.FAIL_A, [24], RO (R390). -/
abbrev G_BOOT_ST.FAIL_A : Fld := ⟨0x200, 24, 1, 0x0⟩
/-- G_BOOT_ST.STAT_B, [23:20], RO (R390). -/
abbrev G_BOOT_ST.STAT_B : Fld := ⟨0x200, 20, 4, 0x0⟩
/-- G_BOOT_ST.STAT_A, [19:16], RO (R390). -/
abbrev G_BOOT_ST.STAT_A : Fld := ⟨0x200, 16, 4, 0x0⟩
/-- G_BOOT_ST.BOOT_RST, [7:0], RO (R390). -/
abbrev G_BOOT_ST.BOOT_RST : Fld := ⟨0x200, 0, 8, 0x00⟩
/-- G_BOOT_VER.IMG_VER, [31:0], RO (R390). -/
abbrev G_BOOT_VER.IMG_VER : Fld := ⟨0x204, 0, 32, 0x00000000⟩
/-- G_BOOT_CTL.CONFIRM, [0], RWP (R390). -/
abbrev G_BOOT_CTL.CONFIRM : Fld := ⟨0x208, 0, 1, 0x0⟩
/-- G_UPD_CTL.RESULT, [31:28], RO (R390). -/
abbrev G_UPD_CTL.RESULT : Fld := ⟨0x210, 28, 4, 0x0⟩
/-- G_UPD_CTL.CMD, [2:0], RWP (R390). -/
abbrev G_UPD_CTL.CMD : Fld := ⟨0x210, 0, 3, 0x0⟩
/-- G_UPD_ADDR.BANK, [20], RW (R390). -/
abbrev G_UPD_ADDR.BANK : Fld := ⟨0x214, 20, 1, 0x0⟩
/-- G_UPD_ADDR.OFFSET, [18:0], RW (R390). -/
abbrev G_UPD_ADDR.OFFSET : Fld := ⟨0x214, 0, 19, 0x00000⟩
/-- G_UPD_BUF[i].DATA, [31:0], RW (R390). -/
abbrev G_UPD_BUF.DATA (i : Nat) : Fld := ⟨0x300 + 0x4 * i, 0, 32, 0x00000000⟩
/-- G_UPD_ST.ACTIVE, [31], RO (R390). -/
abbrev G_UPD_ST.ACTIVE : Fld := ⟨0x218, 31, 1, 0x0⟩
/-- G_UPD_ST.BUSY, [30], RO (R390). -/
abbrev G_UPD_ST.BUSY : Fld := ⟨0x218, 30, 1, 0x0⟩
/-- G_UPD_ST.ABORTED, [29], RO (R390). -/
abbrev G_UPD_ST.ABORTED : Fld := ⟨0x218, 29, 1, 0x0⟩
/-- G_UPD_ST.OWNER, [26:24], RO (R390). -/
abbrev G_UPD_ST.OWNER : Fld := ⟨0x218, 24, 3, 0x0⟩
/-- G_UPD_ST.VERIFY, [23:20], RO (R390). -/
abbrev G_UPD_ST.VERIFY : Fld := ⟨0x218, 20, 4, 0x0⟩
/-- G_FUSE_KEY[i].HASH, [31:0], RWL (R390). -/
abbrev G_FUSE_KEY.HASH (i : Nat) : Fld := ⟨0x400 + 0x4 * i, 0, 32, 0x00000000⟩
/-- G_FUSE_CFG.SIG_REQ, [0], RWL (R390). -/
abbrev G_FUSE_CFG.SIG_REQ : Fld := ⟨0x420, 0, 1, 0x0⟩
/-- G_FUSE_RB.COUNT, [6:0], RO (R390). -/
abbrev G_FUSE_RB.COUNT : Fld := ⟨0x424, 0, 7, 0x00⟩
/-- G_DIE_ID_LO.ID, [31:0], RO (R390). -/
abbrev G_DIE_ID_LO.ID : Fld := ⟨0x30, 0, 32, 0⟩
/-- G_DIE_ID_HI.ID, [31:0], RO (R390). -/
abbrev G_DIE_ID_HI.ID : Fld := ⟨0x34, 0, 32, 0⟩
/-- KL_CFG.EN, [31], RWP (R433). -/
abbrev KL_CFG.EN : Fld := ⟨0x30000, 31, 1, 0x1⟩
/-- KL_CFG.ROOT_EN, [30], RW (R433). -/
abbrev KL_CFG.ROOT_EN : Fld := ⟨0x30000, 30, 1, 0x1⟩
/-- KL_CFG.ID_MODE, [29], RWP (R433). -/
abbrev KL_CFG.ID_MODE : Fld := ⟨0x30000, 29, 1, 0x0⟩
/-- KL_CFG.FIXED_ID, [11:0], RWP (R433). -/
abbrev KL_CFG.FIXED_ID : Fld := ⟨0x30000, 0, 12, 0x000⟩
/-- KL_ID.STATE, [31:30], RO (R433). -/
abbrev KL_ID.STATE : Fld := ⟨0x30004, 30, 2, 0x0⟩
/-- KL_ID.ROOT, [29], RO (R433). -/
abbrev KL_ID.ROOT : Fld := ⟨0x30004, 29, 1, 0x0⟩
/-- KL_ID.CAUSE, [28:25], RO (R433). -/
abbrev KL_ID.CAUSE : Fld := ⟨0x30004, 25, 4, 0x0⟩
/-- KL_ID.ROOT_ID, [23:12], RO (R433). -/
abbrev KL_ID.ROOT_ID : Fld := ⟨0x30004, 12, 12, 0x000⟩
/-- KL_ID.ID, [11:0], RO (R433). -/
abbrev KL_ID.ID : Fld := ⟨0x30004, 0, 12, 0x000⟩
/-- KL_RT_IDX.CHIP, [11:0], RW (R433). -/
abbrev KL_RT_IDX.CHIP : Fld := ⟨0x30008, 0, 12, 0x000⟩
/-- KL_RPT_IDX.ENTRY, [8:0], RW (R433). -/
abbrev KL_RPT_IDX.ENTRY : Fld := ⟨0x30010, 0, 9, 0x000⟩
/-- KL_MTX_CTL.RESULT, [31:28], RO (R433). -/
abbrev KL_MTX_CTL.RESULT : Fld := ⟨0x3001C, 28, 4, 0x0⟩
/-- KL_MTX_CTL.BUSY, [27], RO (R433). -/
abbrev KL_MTX_CTL.BUSY : Fld := ⟨0x3001C, 27, 1, 0x0⟩
/-- KL_MTX_CTL.DEST, [23:12], RWP (R433). -/
abbrev KL_MTX_CTL.DEST : Fld := ⟨0x3001C, 12, 12, 0x000⟩
/-- KL_MTX_CTL.MCODE, [11:8], RWP (R433). -/
abbrev KL_MTX_CTL.MCODE : Fld := ⟨0x3001C, 8, 4, 0x0⟩
/-- KL_MTX_CTL.LEN, [5:0], RWP (R433). -/
abbrev KL_MTX_CTL.LEN : Fld := ⟨0x3001C, 0, 6, 0x00⟩
/-- KL_MTX_W[i].DATA, [31:0], RW (R433). -/
abbrev KL_MTX_W.DATA (i : Nat) : Fld := ⟨0x30040 + 0x4 * i, 0, 32, 0x00000000⟩
/-- KL_UCFG[u].MODE, [5:4], RWP (R434). -/
abbrev KL_UCFG.MODE (u : Nat) : Fld := ⟨0x30100 + 0x40 * u, 4, 2, 0x2⟩
/-- KL_UCFG[u].VER11, [0], RW (R434). -/
abbrev KL_UCFG.VER11 (u : Nat) : Fld := ⟨0x30100 + 0x40 * u, 0, 1, 0x1⟩
/-- KL_LST[u].STATE, [31:28], RO (R434). -/
abbrev KL_LST.STATE (u : Nat) : Fld := ⟨0x30104 + 0x40 * u, 28, 4, 0x0⟩
/-- KL_LST[u].VER, [27], RO (R434). -/
abbrev KL_LST.VER (u : Nat) : Fld := ⟨0x30104 + 0x40 * u, 27, 1, 0x0⟩
/-- KL_LST[u].LANE_SWAP, [26], RO (R434). -/
abbrev KL_LST.LANE_SWAP (u : Nat) : Fld := ⟨0x30104 + 0x40 * u, 26, 1, 0x0⟩
/-- KL_LST[u].LAT_HI, [25], RO (R434). -/
abbrev KL_LST.LAT_HI (u : Nat) : Fld := ⟨0x30104 + 0x40 * u, 25, 1, 0x0⟩
/-- KL_LST[u].PEER_LINK, [24:23], RO (R434). -/
abbrev KL_LST.PEER_LINK (u : Nat) : Fld := ⟨0x30104 + 0x40 * u, 23, 2, 0x0⟩
/-- KL_LST[u].FAIL, [22:20], RO (R434). -/
abbrev KL_LST.FAIL (u : Nat) : Fld := ⟨0x30104 + 0x40 * u, 20, 3, 0x0⟩
/-- KL_LST[u].PEER_CHIP, [19:8], RO (R434). -/
abbrev KL_LST.PEER_CHIP (u : Nat) : Fld := ⟨0x30104 + 0x40 * u, 8, 12, 0x000⟩
/-- KL_LST[u].HOP_LAT, [7:0], RO (R434). -/
abbrev KL_LST.HOP_LAT (u : Nat) : Fld := ⟨0x30104 + 0x40 * u, 0, 8, 0x00⟩
/-- KL_BUDGET[u].BUDGET, [8:0], RW (R434). -/
abbrev KL_BUDGET.BUDGET (u : Nat) : Fld := ⟨0x30108 + 0x40 * u, 0, 9, 0x190⟩
/-- KL_LQ[u].EN, [31], RWP (R434). -/
abbrev KL_LQ.EN (u : Nat) : Fld := ⟨0x3010C + 0x40 * u, 31, 1, 0x0⟩
/-- KL_LQ[u].PQ, [24:16], RWP (R434). -/
abbrev KL_LQ.PQ (u : Nat) : Fld := ⟨0x3010C + 0x40 * u, 16, 9, 0x000⟩
/-- KL_LQ[u].AQ, [8:0], RWP (R434). -/
abbrev KL_LQ.AQ (u : Nat) : Fld := ⟨0x3010C + 0x40 * u, 0, 9, 0x000⟩
/-- KL_LQ_QNT[u].QUANTUM, [19:0], RWA (R434). -/
abbrev KL_LQ_QNT.QUANTUM (u : Nat) : Fld := ⟨0x30110 + 0x40 * u, 0, 20, 0x02000⟩
/-- KL_GRP[g].EN, [31], RWP (R434). -/
abbrev KL_GRP.EN (g : Nat) : Fld := ⟨0x30400 + 0x10 * g, 31, 1, 0x0⟩
/-- KL_GRP[g].PQ, [24:16], RWP (R434). -/
abbrev KL_GRP.PQ (g : Nat) : Fld := ⟨0x30400 + 0x10 * g, 16, 9, 0x000⟩
/-- KL_GRP[g].AQ, [8:0], RWP (R434). -/
abbrev KL_GRP.AQ (g : Nat) : Fld := ⟨0x30400 + 0x10 * g, 0, 9, 0x000⟩
/-- KL_GRP_QNT[g].QUANTUM, [19:0], RWA (R434). -/
abbrev KL_GRP_QNT.QUANTUM (g : Nat) : Fld := ⟨0x30408 + 0x10 * g, 0, 20, 0x02000⟩
/-- KL_PRES[n].STATE, [31:28], RO (R434). -/
abbrev KL_PRES.STATE (n : Nat) : Fld := ⟨0x30800 + 0x4 * n, 28, 4, 0x0⟩
/-- KL_PRES[n].CAUSE, [27:24], RO (R434). -/
abbrev KL_PRES.CAUSE (n : Nat) : Fld := ⟨0x30800 + 0x4 * n, 24, 4, 0x0⟩
/-- KL_PRES[n].LAT, [12:0], RO (R434). -/
abbrev KL_PRES.LAT (n : Nat) : Fld := ⟨0x30800 + 0x4 * n, 0, 13, 0x0000⟩
/-- G_READY.ALL, [31], RO (R450). -/
abbrev G_READY.ALL : Fld := ⟨0x20, 31, 1, 0x0⟩
/-- G_READY.US, [23:20], RO (R450). -/
abbrev G_READY.US : Fld := ⟨0x20, 20, 4, 0x0⟩
/-- G_READY.KCL, [10], RO (R450). -/
abbrev G_READY.KCL : Fld := ⟨0x20, 10, 1, 0x0⟩
/-- G_READY.PA1, [9], RO (R450). -/
abbrev G_READY.PA1 : Fld := ⟨0x20, 9, 1, 0x0⟩
/-- G_READY.PA0, [8], RO (R450). -/
abbrev G_READY.PA0 : Fld := ⟨0x20, 8, 1, 0x0⟩
/-- G_READY.TORIK, [7], RO (R450). -/
abbrev G_READY.TORIK : Fld := ⟨0x20, 7, 1, 0x0⟩
/-- G_READY.BASIN, [6], RO (R450). -/
abbrev G_READY.BASIN : Fld := ⟨0x20, 6, 1, 0x0⟩
/-- G_READY.TM, [5], RO (R450). -/
abbrev G_READY.TM : Fld := ⟨0x20, 5, 1, 0x0⟩
/-- G_READY.EP, [4], RO (R450). -/
abbrev G_READY.EP : Fld := ⟨0x20, 4, 1, 0x0⟩
/-- G_READY.CALDERA, [3], RO (R450). -/
abbrev G_READY.CALDERA : Fld := ⟨0x20, 3, 1, 0x0⟩
/-- G_READY.SVC, [2], RO (R450). -/
abbrev G_READY.SVC : Fld := ⟨0x20, 2, 1, 0x0⟩
/-- G_READY.FC, [1], RO (R450). -/
abbrev G_READY.FC : Fld := ⟨0x20, 1, 1, 0x0⟩
/-- G_READY.CLK, [0], RO (R450). -/
abbrev G_READY.CLK : Fld := ⟨0x20, 0, 1, 0x0⟩
/-- G_READY_FAIL.US, [23:20], RO (R450). -/
abbrev G_READY_FAIL.US : Fld := ⟨0x24, 20, 4, 0x0⟩
/-- G_READY_FAIL.KCL, [10], RO (R450). -/
abbrev G_READY_FAIL.KCL : Fld := ⟨0x24, 10, 1, 0x0⟩
/-- G_READY_FAIL.PA1, [9], RO (R450). -/
abbrev G_READY_FAIL.PA1 : Fld := ⟨0x24, 9, 1, 0x0⟩
/-- G_READY_FAIL.PA0, [8], RO (R450). -/
abbrev G_READY_FAIL.PA0 : Fld := ⟨0x24, 8, 1, 0x0⟩
/-- G_READY_FAIL.TORIK, [7], RO (R450). -/
abbrev G_READY_FAIL.TORIK : Fld := ⟨0x24, 7, 1, 0x0⟩
/-- G_READY_FAIL.BASIN, [6], RO (R450). -/
abbrev G_READY_FAIL.BASIN : Fld := ⟨0x24, 6, 1, 0x0⟩
/-- G_READY_FAIL.TM, [5], RO (R450). -/
abbrev G_READY_FAIL.TM : Fld := ⟨0x24, 5, 1, 0x0⟩
/-- G_READY_FAIL.EP, [4], RO (R450). -/
abbrev G_READY_FAIL.EP : Fld := ⟨0x24, 4, 1, 0x0⟩
/-- G_READY_FAIL.CALDERA, [3], RO (R450). -/
abbrev G_READY_FAIL.CALDERA : Fld := ⟨0x24, 3, 1, 0x0⟩
/-- G_READY_FAIL.SVC, [2], RO (R450). -/
abbrev G_READY_FAIL.SVC : Fld := ⟨0x24, 2, 1, 0x0⟩
/-- G_READY_FAIL.FC, [1], RO (R450). -/
abbrev G_READY_FAIL.FC : Fld := ⟨0x24, 1, 1, 0x0⟩
/-- G_READY_FAIL.CLK, [0], RO (R450). -/
abbrev G_READY_FAIL.CLK : Fld := ⟨0x24, 0, 1, 0x0⟩
/-- P_READY[n].SENSE_OK, [11], RO (R451). -/
abbrev P_READY.SENSE_OK (n : Nat) : Fld := ⟨0x100004 + 0x400 * n, 11, 1, 0x0⟩
/-- P_READY[n].CC_OK, [10], RO (R451). -/
abbrev P_READY.CC_OK (n : Nat) : Fld := ⟨0x100004 + 0x400 * n, 10, 1, 0x0⟩
/-- P_READY[n].SS_OK, [9], RO (R451). -/
abbrev P_READY.SS_OK (n : Nat) : Fld := ⟨0x100004 + 0x400 * n, 9, 1, 0x0⟩
/-- P_READY[n].USB2_OK, [8], RO (R451). -/
abbrev P_READY.USB2_OK (n : Nat) : Fld := ⟨0x100004 + 0x400 * n, 8, 1, 0x0⟩
/-- P_READY[n].FCAUSE, [3:2], RO (R451). -/
abbrev P_READY.FCAUSE (n : Nat) : Fld := ⟨0x100004 + 0x400 * n, 2, 2, 0x0⟩
/-- P_READY[n].FAIL, [1], RO (R451). -/
abbrev P_READY.FAIL (n : Nat) : Fld := ⟨0x100004 + 0x400 * n, 1, 1, 0x0⟩
/-- P_READY[n].READY, [0], RO (R451). -/
abbrev P_READY.READY (n : Nat) : Fld := ⟨0x100004 + 0x400 * n, 0, 1, 0x0⟩
/-- G_MODE_CTL.RESULT, [31:28], RO (R460). -/
abbrev G_MODE_CTL.RESULT : Fld := ⟨0x14, 28, 4, 0x0⟩
/-- G_MODE_CTL.CMD, [2:0], RWP (R460). -/
abbrev G_MODE_CTL.CMD : Fld := ⟨0x14, 0, 3, 0x0⟩
/-- G_SAFE_ST.ACTIVE, [31], RO (R461). -/
abbrev G_SAFE_ST.ACTIVE : Fld := ⟨0x18, 31, 1, 0x0⟩
/-- G_SAFE_ST.CLEAR, [30], RO (R461). -/
abbrev G_SAFE_ST.CLEAR : Fld := ⟨0x18, 30, 1, 0x0⟩
/-- G_SAFE_ST.B_TEMP, [26], RO (R461). -/
abbrev G_SAFE_ST.B_TEMP : Fld := ⟨0x18, 26, 1, 0x0⟩
/-- G_SAFE_ST.B_CLOCK, [25], RO (R461). -/
abbrev G_SAFE_ST.B_CLOCK : Fld := ⟨0x18, 25, 1, 0x0⟩
/-- G_SAFE_ST.B_FAULT, [24], RO (R461). -/
abbrev G_SAFE_ST.B_FAULT : Fld := ⟨0x18, 24, 1, 0x0⟩
/-- G_SAFE_ST.FSRC, [23:16], RO (R461). -/
abbrev G_SAFE_ST.FSRC : Fld := ⟨0x18, 16, 8, 0x00⟩
/-- G_SAFE_ST.ENTRY, [3:0], RO (R461). -/
abbrev G_SAFE_ST.ENTRY : Fld := ⟨0x18, 0, 4, 0x0⟩
/-- G_RST_CAUSE.LAST, [31:28], RO (R461). -/
abbrev G_RST_CAUSE.LAST : Fld := ⟨0x1C, 28, 4, 0x0⟩
/-- G_RST_CAUSE.RST_CNT, [7:0], RO (R461). -/
abbrev G_RST_CAUSE.RST_CNT : Fld := ⟨0x1C, 0, 8, 0x00⟩
/-- G_SELFTEST_RES.RESULT, [31:28], RO (R461). -/
abbrev G_SELFTEST_RES.RESULT : Fld := ⟨0x28, 28, 4, 0x0⟩
/-- G_SELFTEST_RES.FIRST_FAIL, [15:0], RO (R461). -/
abbrev G_SELFTEST_RES.FIRST_FAIL : Fld := ⟨0x28, 0, 16, 0x0000⟩
/-- G_PROT.LAST_ADDR, [21:2], RO (R499). -/
abbrev G_PROT.LAST_ADDR : Fld := ⟨0x40, 2, 20, 0x00000⟩
/-- G_PROT.PROT_SEL, [0], RWP (R499). -/
abbrev G_PROT.PROT_SEL : Fld := ⟨0x40, 0, 1, 0x1⟩
/-- G_CNT_CTL.RESULT, [31:28], RO (R499). -/
abbrev G_CNT_CTL.RESULT : Fld := ⟨0x44, 28, 4, 0x0⟩
/-- G_CNT_CTL.PREFIX, [11:8], RWP (R499). -/
abbrev G_CNT_CTL.PREFIX : Fld := ⟨0x44, 8, 4, 0x0⟩
/-- G_CNT_CTL.CMD, [2:0], RWP (R499). -/
abbrev G_CNT_CTL.CMD : Fld := ⟨0x44, 0, 3, 0x0⟩
/-- G_CNT_ADDR.ADDR, [21:2], RW (R499). -/
abbrev G_CNT_ADDR.ADDR : Fld := ⟨0x48, 2, 20, 0x00000⟩
/-- G_LOG_IDX.SLOT, [11:0], RW (R499). -/
abbrev G_LOG_IDX.SLOT : Fld := ⟨0x84, 0, 12, 0x000⟩
/-- FC_REACT[i].CLASS, [31:0], RWP (R533). -/
abbrev FC_REACT.CLASS (i : Nat) : Fld := ⟨0x4010 + 0x4 * i, 0, 32, if i = 0 then 0x620AA5DF else if i = 1 then 0x0005D541 else if i = 2 then 0x04020685 else 0⟩
/-- FC_CFG.HOLD, [15:8], RW (R533). -/
abbrev FC_CFG.HOLD : Fld := ⟨0x4020, 8, 8, 0x0A⟩
/-- FC_CFG.VENT_AUTO, [0], RWP (R533). -/
abbrev FC_CFG.VENT_AUTO : Fld := ⟨0x4020, 0, 1, 0x0⟩
/-- FC_CMD.RESULT, [31:28], RO (R533). -/
abbrev FC_CMD.RESULT : Fld := ⟨0x4024, 28, 4, 0x0⟩
/-- FC_CMD.CMD, [2:0], RWP (R533). -/
abbrev FC_CMD.CMD : Fld := ⟨0x4024, 0, 3, 0x0⟩
/-- FC_VENT_ST.RUN, [31], RO (R533). -/
abbrev FC_VENT_ST.RUN : Fld := ⟨0x4028, 31, 1, 0x0⟩
/-- FC_VENT_ST.LATCHED, [30], RO (R533). -/
abbrev FC_VENT_ST.LATCHED : Fld := ⟨0x4028, 30, 1, 0x0⟩
/-- FC_VENT_ST.STOP_SRC, [21:16], RO (R533). -/
abbrev FC_VENT_ST.STOP_SRC : Fld := ⟨0x4028, 16, 6, 0x00⟩
/-- FC_WDOG.KICK, [31], RW (R533). -/
abbrev FC_WDOG.KICK : Fld := ⟨0x402C, 31, 1, 0x0⟩
/-- FC_WDOG.PERIOD, [15:0], RWP (R533). -/
abbrev FC_WDOG.PERIOD : Fld := ⟨0x402C, 0, 16, 0x0000⟩
/-- FC_SW.SET, [7:0], RWP (R533). -/
abbrev FC_SW.SET : Fld := ⟨0x4030, 0, 8, 0x00⟩
/-- FC_INJ.RESULT, [31:28], RO (R533). -/
abbrev FC_INJ.RESULT : Fld := ⟨0x4040, 28, 4, 0x0⟩
/-- FC_INJ.INST, [27:8], RWP (R533). -/
abbrev FC_INJ.INST : Fld := ⟨0x4040, 8, 20, 0x00000⟩
/-- FC_INJ.SRC, [7:2], RWP (R533). -/
abbrev FC_INJ.SRC : Fld := ⟨0x4040, 2, 6, 0x00⟩
/-- FC_INJ.CMD, [1:0], RWP (R533). -/
abbrev FC_INJ.CMD : Fld := ⟨0x4040, 0, 2, 0x0⟩
/-- FC_INJ_ST.STATE, [31:30], RO (R533). -/
abbrev FC_INJ_ST.STATE : Fld := ⟨0x4044, 30, 2, 0x0⟩
/-- FC_INJ_ST.SRC, [7:2], RO (R533). -/
abbrev FC_INJ_ST.SRC : Fld := ⟨0x4044, 2, 6, 0x00⟩
/-- FC_INJ_PROPAGATE.PROPAGATE, [0], RWP (R533). -/
abbrev FC_INJ_PROPAGATE.PROPAGATE : Fld := ⟨0x4048, 0, 1, 0x0⟩
/-- SV_CFG.PIN, [31:16], RWP (R557). -/
abbrev SV_CFG.PIN : Fld := ⟨0x8000, 16, 16, 0x0000⟩
/-- SV_CFG.IDLE_TO, [15:8], RW (R557). -/
abbrev SV_CFG.IDLE_TO : Fld := ⟨0x8000, 8, 8, 0x3C⟩
/-- SV_CFG.SVC_EN, [1], RWP (R557). -/
abbrev SV_CFG.SVC_EN : Fld := ⟨0x8000, 1, 1, 0x1⟩
/-- SV_CFG.ECHO, [0], RW (R557). -/
abbrev SV_CFG.ECHO : Fld := ⟨0x8000, 0, 1, 0x1⟩
/-- SV_UART.RATE, [31:30], RW (R557). -/
abbrev SV_UART.RATE : Fld := ⟨0x8004, 30, 2, 0⟩
/-- SV_UART.RC, [29], RO (R557). -/
abbrev SV_UART.RC : Fld := ⟨0x8004, 29, 1, 0x0⟩
/-- SV_ST.SESSION, [31:30], RO (R557). -/
abbrev SV_ST.SESSION : Fld := ⟨0x8008, 30, 2, 0x0⟩
/-- SV_ST.OSP, [27:20], RO (R557). -/
abbrev SV_ST.OSP : Fld := ⟨0x8008, 20, 8, 0x00⟩
/-- SV_ST.LOCKOUT, [7], RO (R557). -/
abbrev SV_ST.LOCKOUT : Fld := ⟨0x8008, 7, 1, 0x0⟩
/-- SV_ST.HELD, [6:0], RO (R557). -/
abbrev SV_ST.HELD : Fld := ⟨0x8008, 0, 7, 0x00⟩
/-- SV_HOLD[i].HOLD, [31:0], RO (R557). -/
abbrev SV_HOLD.HOLD (i : Nat) : Fld := ⟨0x8010 + 0x4 * i, 0, 32, 0x00000000⟩
/-- SV_ATB.EN, [31], RW (R557). -/
abbrev SV_ATB.EN : Fld := ⟨0x8020, 31, 1, 0x0⟩
/-- SV_ATB.ROUTE, [23:16], RW (R557). -/
abbrev SV_ATB.ROUTE : Fld := ⟨0x8020, 16, 8, 0x00⟩
/-- SV_ATB.INDEX, [7:0], RW (R557). -/
abbrev SV_ATB.INDEX : Fld := ⟨0x8020, 0, 8, 0x00⟩
/-- SV_ATB_ST.SETTLED, [31], RO (R557). -/
abbrev SV_ATB_ST.SETTLED : Fld := ⟨0x8024, 31, 1, 0x0⟩
/-- SV_ATB_ST.ROUTE, [23:16], RO (R557). -/
abbrev SV_ATB_ST.ROUTE : Fld := ⟨0x8024, 16, 8, 0x00⟩
/-- SV_ATB_ST.INDEX, [7:0], RO (R557). -/
abbrev SV_ATB_ST.INDEX : Fld := ⟨0x8024, 0, 8, 0x00⟩

/-! ### Rows -/

/-- Part 0 of the catalogue. -/
def regRows0 : List RegRow := [
  ⟨"G_CAP_UNITS", 0x0, 0x0, 1, 0, 0, []⟩,
  ⟨"P_CAP", 0x100000, 0x400, 96, 1, 0, []⟩,
  ⟨"G_MODE", 0x10, 0x0, 1, 0, 0, []⟩,
  ⟨"P_MAP", 0x100008, 0x400, 96, 1, 0, [⟨30, 2, .rwp, fun _ => 0x0⟩, ⟨16, 12, .rwp, fun _ => 0x000⟩, ⟨12, 2, .rwp, fun _ => 0x0⟩, ⟨8, 3, .rwp, fun _ => 0x0⟩, ⟨4, 4, .rwp, fun _ => 0x0⟩]⟩,
  ⟨"U_TREE", 0x118000, 0x400, 4, 2, 0, [⟨16, 8, .rw, fun _ => 0x32⟩, ⟨15, 1, .rwp, fun _ => 0x0⟩, ⟨14, 1, .rwp, fun _ => 0x0⟩, ⟨1, 7, .rwp, fun _ => 0x00⟩]⟩,
  ⟨"U_TREEST", 0x118004, 0x400, 4, 2, 0, [⟨4, 1, .ro, fun _ => 0x0⟩, ⟨0, 3, .ro, fun _ => 0x0⟩]⟩,
  ⟨"U_MGMT", 0x118008, 0x400, 4, 2, 0, [⟨0, 16, .rwp, fun _ => 0x0000⟩]⟩,
  ⟨"P_PORTST", 0x10000C, 0x400, 96, 1, 0, [⟨28, 4, .ro, fun _ => 0x0⟩, ⟨24, 4, .ro, fun _ => 0x0⟩, ⟨22, 2, .ro, fun _ => 0x0⟩, ⟨21, 1, .ro, fun _ => 0x0⟩, ⟨20, 1, .ro, fun _ => 0x0⟩, ⟨12, 7, .ro, fun _ => 0x00⟩, ⟨11, 1, .ro, fun _ => 0x0⟩]⟩,
  ⟨"U_BCAST_CNT", 0x118040, 0x400, 4, 2, 1, []⟩,
  ⟨"U_MGMT_DROP_CNT", 0x118044, 0x400, 4, 2, 1, []⟩,
  ⟨"U_NOTICE_DROP_CNT", 0x118048, 0x400, 4, 2, 1, []⟩,
  ⟨"P_ENUM_STALL_CNT", 0x100040, 0x400, 96, 1, 1, []⟩,
  ⟨"P_TT_ERR_CNT", 0x100044, 0x400, 96, 1, 1, []⟩,
  ⟨"CD_QCFG", 0x80000, 0x40, 512, 3, 0, [⟨31, 1, .rwp, fun _ => 0x0⟩, ⟨24, 5, .rwp, fun _ => 0x00⟩, ⟨20, 4, .rwp, fun _ => 0x0⟩, ⟨0, 16, .rwp, fun _ => 0x0000⟩]⟩,
  ⟨"CD_QST", 0x80004, 0x40, 512, 3, 0, [⟨31, 1, .ro, fun _ => 0x0⟩, ⟨30, 1, .ro, fun _ => 0x0⟩, ⟨29, 1, .ro, fun _ => 0x0⟩, ⟨28, 1, .ro, fun _ => 0x1⟩, ⟨27, 1, .ro, fun _ => 0x0⟩, ⟨26, 1, .ro, fun _ => 0x0⟩, ⟨25, 1, .ro, fun _ => 0x1⟩, ⟨24, 1, .ro, fun _ => 0x0⟩, ⟨0, 16, .ro, fun _ => 0x0000⟩]⟩,
  ⟨"CD_QPTR", 0x80008, 0x40, 512, 3, 0, []⟩,
  ⟨"CD_QTHR", 0x8000C, 0x40, 512, 3, 0, [⟨0, 16, .rw, fun _ => 0x0000⟩]⟩,
  ⟨"CD_QWM", 0x80010, 0x40, 512, 3, 0, [⟨16, 16, .rw, fun _ => 0x0000⟩, ⟨0, 16, .rw, fun _ => 0x0000⟩]⟩,
  ⟨"CD_QCTL", 0x80014, 0x40, 512, 3, 0, [⟨0, 1, .cmd, fun _ => 0x0⟩]⟩,
  ⟨"CD_PROT", 0x89000, 0x0, 1, 3, 0, [⟨0, 32, .rwp, fun _ => 0xFFFFFFFF⟩]⟩,
  ⟨"CD_PROT_PEND", 0x89004, 0x0, 1, 3, 0, [⟨0, 32, .ro, fun _ => 0x00000000⟩]⟩,
  ⟨"P_QSEL", 0x100010, 0x400, 96, 1, 0, [⟨20, 9, .rwa, fun _ => 0x000⟩, ⟨10, 9, .rwa, fun _ => 0x000⟩, ⟨0, 9, .rwa, fun _ => 0x000⟩]⟩,
  ⟨"U_QSEL", 0x11800C, 0x400, 4, 2, 0, [⟨16, 9, .rwa, fun _ => 0x000⟩, ⟨0, 9, .rwa, fun _ => 0x000⟩]⟩,
  ⟨"EP_KEY", 0xC0000, 0x8, 2048, 4, 0, [⟨31, 1, .rwa, fun _ => 0x0⟩, ⟨29, 2, .rwa, fun _ => 0x0⟩, ⟨17, 7, .rwa, fun _ => 0x00⟩, ⟨16, 1, .rwa, fun _ => 0x0⟩, ⟨12, 4, .rwa, fun _ => 0x0⟩, ⟨4, 7, .rwa, fun _ => 0x00⟩]⟩,
  ⟨"EP_MAP", 0xC0004, 0x8, 2048, 4, 0, [⟨26, 3, .rwa, fun _ => 0x0⟩, ⟨16, 8, .rwa, fun _ => 0x00⟩, ⟨0, 9, .rwa, fun _ => 0x000⟩]⟩,
  ⟨"U_ROUTE_ERR_CNT", 0x11804C, 0x400, 4, 2, 1, []⟩,
  ⟨"P_SS_RST_FAIL_CNT", 0x100048, 0x400, 96, 1, 1, []⟩,
  ⟨"CD_PAR_ERR_CNT", 0x88000, 0x10, 32, 3, 1, []⟩,
  ⟨"CD_CORR_CNT", 0x88004, 0x10, 32, 3, 1, []⟩,
  ⟨"CD_UNCORR_CNT", 0x88008, 0x10, 32, 3, 1, []⟩,
  ⟨"CD_CFG_REJ_CNT", 0x89008, 0x0, 1, 3, 1, []⟩,
  ⟨"CD_OVERSIZE_CNT", 0x80020, 0x40, 512, 3, 1, []⟩,
  ⟨"CD_QFULL_CNT", 0x80024, 0x40, 512, 3, 1, []⟩,
  ⟨"CD_CT_ABORT_CNT", 0x80028, 0x40, 512, 3, 1, []⟩,
  ⟨"CD_FLUSH_DISC_CNT", 0x8002C, 0x40, 512, 3, 1, []⟩,
  ⟨"CD_QWM_CNT", 0x80030, 0x40, 512, 3, 1, []⟩,
  ⟨"EP_MISS_CNT", 0xC4004, 0x0, 1, 4, 1, []⟩,
  ⟨"EP_REJ_CNT", 0xC4008, 0x0, 1, 4, 1, []⟩,
  ⟨"EP_STAT", 0xC4000, 0x0, 1, 4, 0, []⟩,
  ⟨"TM_PL_CFG", 0x40000, 0x40, 200, 5, 0, [⟨8, 8, .rwa, fun _ => 0x08⟩, ⟨0, 2, .rwa, fun _ => 0x0⟩]⟩]

/-- Part 1 of the catalogue. -/
def regRows1 : List RegRow := [
  ⟨"TM_PL_CIR", 0x40004, 0x40, 200, 5, 0, [⟨0, 20, .rwa, fun _ => 0x00000⟩]⟩,
  ⟨"TM_PL_PIR", 0x40008, 0x40, 200, 5, 0, [⟨0, 20, .rwa, fun _ => 0x00000⟩]⟩,
  ⟨"TM_PL_CBS", 0x4000C, 0x40, 200, 5, 0, [⟨0, 24, .rwa, fun _ => 0x000000⟩]⟩,
  ⟨"TM_PL_PBS", 0x40010, 0x40, 200, 5, 0, [⟨0, 24, .rwa, fun _ => 0x000000⟩]⟩,
  ⟨"TM_PL_TC", 0x40014, 0x40, 200, 5, 0, []⟩,
  ⟨"TM_PL_TP", 0x40018, 0x40, 200, 5, 0, []⟩,
  ⟨"TM_SH_SLOPE", 0x44000, 0x40, 100, 5, 0, [⟨31, 1, .rwa, fun _ => 0x1⟩, ⟨0, 24, .rwa, fun _ => 0x097400⟩]⟩,
  ⟨"TM_SH_HI", 0x44004, 0x40, 100, 5, 0, [⟨0, 31, .rwa, fun _ => 0x00010000⟩]⟩,
  ⟨"TM_SH_LO", 0x44008, 0x40, 100, 5, 0, [⟨0, 32, .rwa, fun _ => 0xFFFF0000⟩]⟩,
  ⟨"TM_SH_CREDIT", 0x4400C, 0x40, 100, 5, 0, []⟩,
  ⟨"TM_SH_FORGIVE", 0x47000, 0x4, 4, 5, 0, [⟨0, 32, .cmd, fun _ => 0x00000000⟩]⟩,
  ⟨"TM_EG_CFG", 0x44010, 0x40, 100, 5, 0, [⟨16, 8, .rwa, fun _ => 0x10⟩, ⟨0, 7, .rwa, fun _ => 0x5A⟩]⟩,
  ⟨"TM_EG_ST", 0x44014, 0x40, 100, 5, 0, [⟨31, 1, .ro, fun _ => 0x0⟩, ⟨30, 1, .ro, fun _ => 0x0⟩, ⟨0, 20, .ro, fun _ => 0x00000⟩]⟩,
  ⟨"TM_DRR_Q", 0x46000, 0x4, 96, 5, 0, [⟨0, 20, .rwa, fun _ => 0x02000⟩]⟩,
  ⟨"TM_HEAT", 0x47010, 0x0, 1, 5, 0, [⟨0, 9, .ro, fun _ => 0x100⟩]⟩,
  ⟨"TM_PL_PROMOTE_CNT", 0x40038, 0x40, 200, 5, 1, []⟩,
  ⟨"TM_PL_HOLD_CNT", 0x4003C, 0x40, 200, 5, 1, []⟩,
  ⟨"TM_PL_RED_FORCE_CNT", 0x4001C, 0x40, 200, 5, 1, []⟩,
  ⟨"TM_SH_GATE_CNT", 0x44020, 0x40, 100, 5, 1, []⟩,
  ⟨"TM_DEFER_CNT", 0x44024, 0x40, 100, 5, 1, []⟩,
  ⟨"TM_RES_CNT", 0x44028, 0x40, 100, 5, 1, []⟩,
  ⟨"TM_CFG_REJ_CNT", 0x47014, 0x0, 1, 5, 1, []⟩,
  ⟨"TM_PL_GRN_LO", 0x40020, 0x40, 200, 5, 2, []⟩,
  ⟨"TM_PL_GRN_HI", 0x40024, 0x40, 200, 5, 3, []⟩,
  ⟨"TM_PL_YEL_LO", 0x40028, 0x40, 200, 5, 2, []⟩,
  ⟨"TM_PL_YEL_HI", 0x4002C, 0x40, 200, 5, 3, []⟩,
  ⟨"TM_PL_RED_LO", 0x40030, 0x40, 200, 5, 2, []⟩,
  ⟨"TM_PL_RED_HI", 0x40034, 0x40, 200, 5, 3, []⟩,
  ⟨"TM_EG_BYTES_LO", 0x44018, 0x40, 100, 5, 2, []⟩,
  ⟨"TM_EG_BYTES_HI", 0x4401C, 0x40, 100, 5, 3, []⟩,
  ⟨"P_LPST", 0x100014, 0x400, 96, 1, 0, [⟨28, 4, .ro, fun _ => 0x0⟩, ⟨24, 4, .ro, fun _ => 0x0⟩, ⟨20, 4, .ro, fun _ => 0x0⟩, ⟨19, 1, .ro, fun _ => 0x0⟩, ⟨16, 3, .ro, fun _ => 0x0⟩, ⟨12, 4, .ro, fun _ => 0x5⟩, ⟨11, 1, .ro, fun _ => 0x0⟩]⟩,
  ⟨"P_LPTO", 0x100018, 0x400, 96, 1, 0, [⟨16, 8, .ro, fun _ => 0x00⟩, ⟨8, 8, .ro, fun _ => 0x00⟩, ⟨0, 1, .rw, fun _ => 0x1⟩]⟩,
  ⟨"U_LP_CFG", 0x118010, 0x400, 4, 2, 0, [⟨16, 8, .rw, fun _ => 0x04⟩, ⟨8, 8, .rw, fun _ => 0x0A⟩, ⟨3, 1, .rw, fun _ => 0x1⟩, ⟨2, 1, .rw, fun _ => 0x1⟩]⟩,
  ⟨"U_LPST", 0x118014, 0x400, 4, 2, 0, [⟨28, 4, .ro, fun _ => 0x0⟩, ⟨24, 4, .ro, fun _ => 0x5⟩, ⟨23, 1, .ro, fun _ => 0x0⟩, ⟨22, 1, .ro, fun _ => 0x0⟩, ⟨15, 7, .ro, fun _ => 0x00⟩]⟩,
  ⟨"G_LP_CFG", 0x100, 0x0, 1, 0, 0, [⟨8, 8, .rw, fun _ => 0x0A⟩, ⟨0, 8, .rw, fun _ => 0x14⟩]⟩,
  ⟨"G_U0_ADMIT", 0x104, 0x0, 1, 0, 0, [⟨31, 1, .ro, fun _ => 0x0⟩, ⟨16, 7, .ro, fun _ => 0x00⟩, ⟨0, 7, .ro, fun _ => 0x60⟩]⟩,
  ⟨"P_WAKE_CNT", 0x10004C, 0x400, 96, 1, 1, []⟩,
  ⟨"P_WAKE_COLL_CNT", 0x100050, 0x400, 96, 1, 1, []⟩,
  ⟨"P_UX_EXIT_FAIL_CNT", 0x100054, 0x400, 96, 1, 1, []⟩,
  ⟨"U_WAKE_UP_CNT", 0x118050, 0x400, 4, 2, 1, []⟩]

/-- Part 2 of the catalogue. -/
def regRows2 : List RegRow := [
  ⟨"G_ADMIT_DEMOTE_CNT", 0x828, 0x0, 1, 0, 1, []⟩,
  ⟨"G_ADMIT_OVER_CNT", 0x82C, 0x0, 1, 0, 1, []⟩,
  ⟨"G_DORMANT_CNT", 0x830, 0x0, 1, 0, 1, []⟩,
  ⟨"P_TC_CFG", 0x100020, 0x400, 96, 1, 0, [⟨16, 8, .rw, fun _ => 0x96⟩, ⟨8, 8, .rw, fun _ => 0x14⟩, ⟨7, 1, .rwp, fun _ => 0x0⟩, ⟨6, 1, .rwp, fun _ => 0x1⟩, ⟨5, 1, .rw, fun _ => 0x1⟩, ⟨4, 1, .rw, fun _ => 0x1⟩, ⟨3, 1, .rw, fun _ => 0x1⟩, ⟨2, 1, .rw, fun _ => 0x0⟩, ⟨0, 2, .rw, fun _ => 0x0⟩]⟩,
  ⟨"P_TCST", 0x100024, 0x400, 96, 1, 0, [⟨28, 4, .ro, fun _ => 0x0⟩, ⟨26, 2, .ro, fun _ => 0x0⟩, ⟨24, 2, .ro, fun _ => 0x0⟩, ⟨23, 1, .ro, fun _ => 0x0⟩, ⟨22, 1, .ro, fun _ => 0x0⟩, ⟨21, 1, .ro, fun _ => 0x0⟩, ⟨20, 1, .ro, fun _ => 0x0⟩, ⟨19, 1, .ro, fun _ => 0x0⟩, ⟨18, 1, .ro, fun _ => 0x0⟩, ⟨16, 2, .ro, fun _ => 0x0⟩, ⟨12, 4, .ro, fun _ => 0x0⟩, ⟨8, 4, .ro, fun _ => 0x0⟩, ⟨7, 1, .ro, fun _ => 0x0⟩, ⟨6, 1, .ro, fun _ => 0x0⟩, ⟨5, 1, .ro, fun _ => 0x0⟩]⟩,
  ⟨"P_MOIST_CC", 0x10002C, 0x400, 96, 1, 0, [⟨16, 16, .ro, fun _ => 0x0000⟩, ⟨0, 16, .ro, fun _ => 0x0000⟩]⟩,
  ⟨"P_MOIST_SBU", 0x100030, 0x400, 96, 1, 0, [⟨16, 16, .ro, fun _ => 0x0000⟩, ⟨0, 16, .ro, fun _ => 0x0000⟩]⟩,
  ⟨"P_TC_CMD", 0x100028, 0x400, 96, 1, 0, [⟨1, 1, .cmdp, fun _ => 0x0⟩, ⟨0, 1, .cmdp, fun _ => 0x0⟩]⟩,
  ⟨"G_MOIST_CFG", 0x110, 0x0, 1, 0, 0, [⟨24, 8, .rwp, fun _ => 0x0A⟩, ⟨8, 8, .rwp, fun _ => 0x14⟩, ⟨0, 8, .rwp, fun _ => 0x14⟩]⟩,
  ⟨"G_SB_CFG", 0x140, 0x4, 16, 0, 0, [⟨30, 2, .rw, fun _ => 0x1⟩, ⟨29, 1, .rw, fun _ => 0x0⟩, ⟨28, 1, .ro, fun _ => 0x0⟩, ⟨27, 1, .ro, fun _ => 0x0⟩, ⟨16, 7, .rw, fun _ => 0x00⟩, ⟨8, 7, .ro, fun _ => 0x00⟩]⟩,
  ⟨"U_TC_CFG", 0x118018, 0x400, 4, 2, 0, [⟨0, 1, .rwp, fun _ => 0x0⟩]⟩,
  ⟨"P_STEAM_CNT", 0x100058, 0x400, 96, 1, 1, []⟩,
  ⟨"P_MOIST_FAIL_CNT", 0x10005C, 0x400, 96, 1, 1, []⟩,
  ⟨"P_SEAT_LOSS_CNT", 0x100060, 0x400, 96, 1, 1, []⟩,
  ⟨"P_CC_GLITCH_CNT", 0x100064, 0x400, 96, 1, 1, []⟩,
  ⟨"P_VCONN_TRIP_CNT", 0x100068, 0x400, 96, 1, 1, []⟩,
  ⟨"P_SBU_OV_CNT", 0x10006C, 0x400, 96, 1, 1, []⟩,
  ⟨"P_SB_NOCH_CNT", 0x100070, 0x400, 96, 1, 1, []⟩,
  ⟨"P_TC_REJ_CNT", 0x100074, 0x400, 96, 1, 1, []⟩,
  ⟨"PD_CFG", 0x100100, 0x400, 100, 6, 0, [⟨31, 1, .rwp, fun _ => 0x1⟩, ⟨29, 2, .rw, fun _ => 0x2⟩, ⟨28, 1, .rwp, fun k => if k < 96 then 0x1 else 0x0⟩, ⟨27, 1, .rw, fun _ => 0x1⟩, ⟨26, 1, .rw, fun k => if k < 96 then 0x1 else 0x0⟩, ⟨25, 1, .rwp, fun _ => 0x0⟩, ⟨24, 1, .rwp, fun k => if k < 96 then 0x0 else 0x1⟩, ⟨16, 8, .rwp, fun k => if k < 96 then 0xF0 else 0x64⟩, ⟨8, 6, .rw, fun _ => 0x08⟩, ⟨0, 8, .rw, fun _ => 0x14⟩]⟩,
  ⟨"PD_ST", 0x100104, 0x400, 100, 6, 0, [⟨30, 2, .ro, fun _ => 0x0⟩, ⟨28, 2, .ro, fun _ => 0x0⟩, ⟨25, 3, .ro, fun _ => 0x0⟩, ⟨24, 1, .ro, fun _ => 0x0⟩, ⟨23, 1, .ro, fun _ => 0x0⟩, ⟨22, 1, .ro, fun _ => 0x0⟩, ⟨20, 2, .ro, fun _ => 0x0⟩, ⟨19, 1, .ro, fun _ => 0x0⟩, ⟨18, 1, .ro, fun _ => 0x0⟩, ⟨17, 1, .ro, fun _ => 0x0⟩, ⟨16, 1, .ro, fun _ => 0x0⟩, ⟨15, 1, .ro, fun _ => 0x0⟩, ⟨14, 1, .ro, fun _ => 0x0⟩, ⟨11, 3, .ro, fun _ => 0x0⟩, ⟨8, 3, .ro, fun _ => 0x0⟩, ⟨4, 4, .ro, fun _ => 0x0⟩]⟩,
  ⟨"PD_NEXT", 0x100108, 0x400, 100, 6, 0, [⟨29, 3, .rwa, fun _ => 0x0⟩, ⟨16, 13, .rwa, fun _ => 0x0000⟩, ⟨0, 9, .rwa, fun _ => 0x000⟩]⟩,
  ⟨"PD_CONTRACT", 0x10010C, 0x400, 100, 6, 0, [⟨29, 3, .ro, fun _ => 0x0⟩, ⟨16, 13, .ro, fun _ => 0x0000⟩, ⟨0, 9, .ro, fun _ => 0x000⟩]⟩,
  ⟨"PD_CMD", 0x100110, 0x400, 100, 6, 0, [⟨28, 4, .ro, fun _ => 0x0⟩, ⟨0, 3, .cmdp, fun _ => 0x0⟩]⟩,
  ⟨"PD_RXW0", 0x100120, 0x400, 100, 6, 0, []⟩,
  ⟨"PD_RXW1", 0x100124, 0x400, 100, 6, 0, []⟩,
  ⟨"PD_RXW2", 0x100128, 0x400, 100, 6, 0, []⟩,
  ⟨"PD_RXW3", 0x10012C, 0x400, 100, 6, 0, []⟩,
  ⟨"PD_RXW4", 0x100130, 0x400, 100, 6, 0, []⟩,
  ⟨"PD_RXW5", 0x100134, 0x400, 100, 6, 0, []⟩,
  ⟨"PD_RXW6", 0x100138, 0x400, 100, 6, 0, []⟩,
  ⟨"PD_RXW7", 0x10013C, 0x400, 100, 6, 0, []⟩,
  ⟨"PD_TXW0", 0x100140, 0x400, 100, 6, 0, [⟨0, 32, .rw, fun _ => 0x00000000⟩]⟩,
  ⟨"PD_TXW1", 0x100144, 0x400, 100, 6, 0, [⟨0, 32, .rw, fun _ => 0x00000000⟩]⟩,
  ⟨"PD_TXW2", 0x100148, 0x400, 100, 6, 0, [⟨0, 32, .rw, fun _ => 0x00000000⟩]⟩,
  ⟨"PD_TXW3", 0x10014C, 0x400, 100, 6, 0, [⟨0, 32, .rw, fun _ => 0x00000000⟩]⟩,
  ⟨"PD_TXW4", 0x100150, 0x400, 100, 6, 0, [⟨0, 32, .rw, fun _ => 0x00000000⟩]⟩,
  ⟨"PD_TXW5", 0x100154, 0x400, 100, 6, 0, [⟨0, 32, .rw, fun _ => 0x00000000⟩]⟩,
  ⟨"PD_TXW6", 0x100158, 0x400, 100, 6, 0, [⟨0, 32, .rw, fun _ => 0x00000000⟩]⟩,
  ⟨"PD_TXW7", 0x10015C, 0x400, 100, 6, 0, [⟨0, 32, .rw, fun _ => 0x00000000⟩]⟩]

/-- Part 3 of the catalogue. -/
def regRows3 : List RegRow := [
  ⟨"PD_REJ_CNT", 0x100180, 0x400, 100, 6, 1, []⟩,
  ⟨"PD_WAIT_CNT", 0x100184, 0x400, 100, 6, 1, []⟩,
  ⟨"PD_HR_CNT", 0x100188, 0x400, 100, 6, 1, []⟩,
  ⟨"PD_TX_FAIL_CNT", 0x10018C, 0x400, 100, 6, 1, []⟩,
  ⟨"PD_RX_OVF_CNT", 0x100190, 0x400, 100, 6, 1, []⟩,
  ⟨"PD_ABORT_CNT", 0x100194, 0x400, 100, 6, 1, []⟩,
  ⟨"PD_WD_CNT", 0x100198, 0x400, 100, 6, 1, []⟩,
  ⟨"PP_CFG", 0x100200, 0x400, 100, 7, 0, [⟨24, 8, .rwa, fun _ => 0x0A⟩, ⟨16, 8, .rwa, fun _ => 0x06⟩, ⟨12, 3, .rwa, fun _ => 0x3⟩, ⟨0, 11, .rwa, fun _ => 0x1F4⟩]⟩,
  ⟨"PP_TRIP", 0x100204, 0x400, 100, 7, 0, [⟨24, 8, .rwp, fun _ => 0x50⟩, ⟨16, 8, .rwp, fun _ => 0x50⟩, ⟨0, 16, .rwp, fun _ => 0x0438⟩]⟩,
  ⟨"PP_STAGE", 0x100208, 0x400, 100, 7, 0, [⟨24, 8, .rwp, fun _ => 0x32⟩, ⟨16, 8, .rwp, fun _ => 0x14⟩, ⟨0, 16, .rwp, fun _ => 0x1400⟩]⟩,
  ⟨"PP_CMD", 0x10020C, 0x400, 100, 7, 0, [⟨28, 4, .ro, fun _ => 0x0⟩, ⟨0, 3, .cmdp, fun _ => 0x0⟩]⟩,
  ⟨"PP_ST", 0x100210, 0x400, 100, 7, 0, [⟨28, 4, .ro, fun _ => 0x0⟩, ⟨24, 4, .ro, fun _ => 0x0⟩, ⟨23, 1, .ro, fun _ => 0x0⟩, ⟨22, 1, .ro, fun _ => 0x0⟩, ⟨21, 1, .ro, fun _ => 0x0⟩, ⟨20, 1, .ro, fun _ => 0x0⟩, ⟨19, 1, .ro, fun _ => 0x0⟩, ⟨16, 3, .ro, fun _ => 0x0⟩, ⟨15, 1, .ro, fun _ => 0x0⟩, ⟨0, 12, .ro, fun _ => 0x000⟩]⟩,
  ⟨"PP_MEAS", 0x100214, 0x400, 100, 7, 0, [⟨16, 16, .ro, fun _ => 0x0000⟩, ⟨0, 16, .ro, fun _ => 0x0000⟩]⟩,
  ⟨"PP_LAST", 0x100218, 0x400, 100, 7, 0, [⟨16, 16, .ro, fun _ => 0x0000⟩, ⟨0, 16, .ro, fun _ => 0x0000⟩]⟩,
  ⟨"PP_FT_CNT", 0x100240, 0x400, 100, 7, 1, []⟩,
  ⟨"PP_ST_CNT", 0x100244, 0x400, 100, 7, 1, []⟩,
  ⟨"PP_RETRY_CNT", 0x100248, 0x400, 100, 7, 1, []⟩,
  ⟨"PP_LATCH_CNT", 0x10024C, 0x400, 100, 7, 1, []⟩,
  ⟨"PP_STUCK_CNT", 0x100250, 0x400, 100, 7, 1, []⟩,
  ⟨"PP_DIS_SLOW_CNT", 0x100254, 0x400, 100, 7, 1, []⟩,
  ⟨"PP_REJ_CNT", 0x100258, 0x400, 100, 7, 1, []⟩,
  ⟨"BSN_CHIP_CAP", 0x20000, 0x0, 1, 8, 0, [⟨16, 16, .rwp, fun _ => 0x4E20⟩, ⟨0, 16, .rwp, fun _ => 0x0BB8⟩]⟩,
  ⟨"BSN_SG_CAP", 0x20100, 0x10, 13, 8, 0, [⟨16, 16, .rwp, fun _ => 0x1388⟩, ⟨0, 16, .rwp, fun g => if g = 12 then 0xC8 else 0xF0⟩]⟩,
  ⟨"BSN_CHIP_HEAD", 0x20004, 0x0, 1, 8, 0, []⟩,
  ⟨"BSN_SG_HEAD", 0x20104, 0x10, 13, 8, 0, []⟩,
  ⟨"BSN_CHIP_MEAS", 0x20008, 0x0, 1, 8, 0, [⟨0, 32, .ro, fun _ => 0x00000000⟩]⟩,
  ⟨"BSN_SG_MEAS", 0x20108, 0x10, 13, 8, 0, [⟨0, 24, .ro, fun _ => 0x000000⟩]⟩,
  ⟨"BSN_CHIP_ST", 0x2000C, 0x0, 1, 8, 0, [⟨31, 1, .ro, fun _ => 0x0⟩, ⟨30, 1, .ro, fun _ => 0x0⟩]⟩,
  ⟨"BSN_SG_ST", 0x2010C, 0x10, 13, 8, 0, [⟨31, 1, .ro, fun _ => 0x0⟩, ⟨30, 1, .ro, fun _ => 0x0⟩]⟩,
  ⟨"BSN_CHG", 0x100280, 0x400, 100, 8, 0, [⟨0, 18, .ro, fun _ => 0x00000⟩]⟩,
  ⟨"BSN_UQ", 0x100284, 0x400, 100, 8, 0, []⟩,
  ⟨"BSN_PRIO", 0x202A0, 0x4, 6, 8, 0, [⟨0, 32, .rw, fun _ => 0x55555555⟩]⟩,
  ⟨"BSN_GRANT_CFG", 0x2029C, 0x0, 1, 8, 0, [⟨16, 16, .rw, fun _ => 0x01F4⟩, ⟨0, 16, .rw, fun _ => 0x07D0⟩]⟩,
  ⟨"BSN_TS", 0x20200, 0x4, 12, 8, 0, [⟨0, 16, .ro, fun _ => 0x0000⟩]⟩,
  ⟨"BSN_BRD_CFG", 0x20240, 0x4, 4, 8, 0, [⟨30, 2, .rwp, fun _ => 0x0⟩, ⟨22, 7, .rwp, fun _ => 0x00⟩, ⟨14, 8, .rwp, fun _ => 0x00⟩, ⟨0, 8, .rwp, fun _ => 0x55⟩]⟩,
  ⟨"BSN_BRD_T", 0x20250, 0x4, 4, 8, 0, [⟨31, 1, .ro, fun _ => 0x0⟩, ⟨30, 1, .ro, fun _ => 0x0⟩, ⟨0, 16, .ro, fun _ => 0x0000⟩]⟩,
  ⟨"BSN_HEAT_CFG", 0x20280, 0x0, 1, 8, 0, [⟨24, 8, .rw, fun _ => 0x19⟩, ⟨16, 8, .rw, fun _ => 0x08⟩, ⟨0, 9, .rw, fun _ => 0x040⟩]⟩,
  ⟨"BSN_HEAT_CAP", 0x20284, 0x0, 1, 8, 0, [⟨0, 9, .rw, fun _ => 0x100⟩]⟩,
  ⟨"BSN_HEAT_ST", 0x20288, 0x0, 1, 8, 0, [⟨28, 4, .ro, fun _ => 0x0⟩, ⟨16, 8, .ro, fun _ => 0x7F⟩, ⟨0, 9, .ro, fun _ => 0x100⟩]⟩,
  ⟨"BSN_U0_CFG", 0x2028C, 0x0, 1, 8, 0, [⟨16, 7, .rw, fun _ => 0x18⟩, ⟨8, 7, .rw, fun _ => 0x08⟩, ⟨0, 7, .rw, fun _ => 0x60⟩]⟩]

/-- Part 4 of the catalogue. -/
def regRows4 : List RegRow := [
  ⟨"BSN_SHED_CTL", 0x20290, 0x0, 1, 8, 0, [⟨0, 3, .rwp, fun _ => 0x0⟩]⟩,
  ⟨"BSN_SHED_ST", 0x20294, 0x0, 1, 8, 0, [⟨28, 3, .ro, fun _ => 0x0⟩, ⟨0, 5, .ro, fun _ => 0x00⟩]⟩,
  ⟨"BSN_SHED_CFG", 0x20298, 0x0, 1, 8, 0, [⟨25, 7, .rw, fun _ => 0x05⟩, ⟨16, 9, .rw, fun _ => 0x080⟩, ⟨8, 8, .rw, fun _ => 0x05⟩, ⟨0, 8, .rw, fun _ => 0x19⟩]⟩,
  ⟨"BSN_OFF", 0x202C0, 0x4, 3, 8, 0, []⟩,
  ⟨"BSN_TAKE_SHORT_CNT", 0x20300, 0x0, 1, 8, 1, []⟩,
  ⟨"BSN_RANGE_CNT", 0x20304, 0x0, 1, 8, 1, []⟩,
  ⟨"BSN_REJ_CNT", 0x20308, 0x0, 1, 8, 1, []⟩,
  ⟨"BSN_GRANT_CNT", 0x2030C, 0x0, 1, 8, 1, []⟩,
  ⟨"BSN_GRANT_EXP_CNT", 0x20310, 0x0, 1, 8, 1, []⟩,
  ⟨"BSN_SHED_CNT", 0x20314, 0x0, 1, 8, 1, []⟩,
  ⟨"BSN_SHED_OFF_CNT", 0x20318, 0x0, 1, 8, 1, []⟩,
  ⟨"BSN_SG_EMPTY_CNT", 0x20340, 0x4, 13, 8, 1, []⟩,
  ⟨"BSN_CHIP_EMPTY_CNT", 0x2031C, 0x0, 1, 8, 1, []⟩,
  ⟨"BSN_BRD_FAULT_CNT", 0x20380, 0x4, 4, 8, 1, []⟩,
  ⟨"TK_TCTL", 0x10000, 0x40, 64, 9, 0, [⟨28, 4, .ro, fun _ => 0x0⟩, ⟨0, 3, .cmdp, fun _ => 0x0⟩]⟩,
  ⟨"TK_TPC", 0x10004, 0x40, 64, 9, 0, [⟨2, 17, .rwp, fun t => if t = 0 then 0x10000 else 0⟩]⟩,
  ⟨"TK_TCFG", 0x10008, 0x40, 64, 9, 0, [⟨31, 1, .rwp, fun _ => 0x1⟩]⟩,
  ⟨"TK_TVEC", 0x1000C, 0x40, 64, 9, 0, [⟨2, 17, .rwp, fun _ => 0x10001⟩]⟩,
  ⟨"TK_UWIN", 0x10010, 0x40, 64, 9, 0, [⟨28, 4, .rwp, fun _ => 0x0⟩, ⟨0, 17, .rwp, fun _ => 0x00000⟩]⟩,
  ⟨"TK_TST", 0x10014, 0x40, 64, 9, 0, []⟩,
  ⟨"TK_TEXC", 0x10018, 0x40, 64, 9, 0, [⟨24, 8, .ro, fun _ => 0x00⟩, ⟨8, 1, .ro, fun _ => 0x0⟩, ⟨0, 8, .ro, fun _ => 0x00⟩]⟩,
  ⟨"TK_TEPC", 0x1001C, 0x40, 64, 9, 0, [⟨0, 32, .ro, fun _ => 0x00000000⟩]⟩,
  ⟨"TK_TEADDR", 0x10020, 0x40, 64, 9, 0, [⟨0, 32, .ro, fun _ => 0x00000000⟩]⟩,
  ⟨"TK_VERSION", 0x11000, 0x0, 1, 9, 0, [⟨24, 8, .ro, fun _ => 0x01⟩, ⟨16, 8, .ro, fun _ => 0x00⟩, ⟨8, 8, .ro, fun _ => 0x12⟩, ⟨0, 8, .ro, fun _ => 0x40⟩]⟩,
  ⟨"TK_CTL", 0x11004, 0x0, 1, 9, 0, [⟨0, 1, .rwp, fun _ => 0x0⟩]⟩,
  ⟨"TK_EVROUTE", 0x11100, 0x4, 64, 9, 0, [⟨7, 1, .rwp, fun _ => 0⟩, ⟨0, 6, .rwp, fun _ => 0⟩, ⟨15, 1, .rwp, fun _ => 0⟩, ⟨8, 6, .rwp, fun _ => 0⟩, ⟨23, 1, .rwp, fun _ => 0⟩, ⟨16, 6, .rwp, fun _ => 0⟩, ⟨31, 1, .rwp, fun _ => 0⟩, ⟨24, 6, .rwp, fun _ => 0⟩]⟩,
  ⟨"TK_REQ_CFG", 0x11008, 0x0, 1, 9, 0, [⟨24, 8, .rw, fun _ => 0x2D⟩, ⟨8, 8, .rwp, fun _ => 0x00⟩, ⟨0, 8, .rwp, fun _ => 0x00⟩]⟩,
  ⟨"TK_MBX_ST", 0x1100C, 0x0, 1, 9, 0, []⟩,
  ⟨"TK_EXC_CNT", 0x10030, 0x40, 64, 9, 1, []⟩,
  ⟨"TK_EV_COAL_CNT", 0x10034, 0x40, 64, 9, 1, []⟩,
  ⟨"TK_PRIM_REJ_CNT", 0x10038, 0x40, 64, 9, 1, []⟩,
  ⟨"TK_EV_DROP_CNT", 0x11200, 0x0, 1, 9, 1, []⟩,
  ⟨"TK_REQ_TO_CNT", 0x11220, 0x4, 6, 9, 1, []⟩,
  ⟨"TK_REQ_REPL_CNT", 0x11240, 0x4, 4, 9, 1, []⟩,
  ⟨"TK_MEM_CORR_CNT", 0x11204, 0x0, 1, 9, 1, []⟩,
  ⟨"TK_MEM_UNCORR_CNT", 0x11208, 0x0, 1, 9, 1, []⟩,
  ⟨"G_STRAP", 0x2C, 0x0, 1, 0, 0, [⟨0, 8, .ro, fun _ => 0⟩]⟩,
  ⟨"G_BOOT_ST", 0x200, 0x0, 1, 0, 0, [⟨30, 2, .ro, fun _ => 0x0⟩, ⟨29, 1, .ro, fun _ => 0x0⟩, ⟨28, 1, .ro, fun _ => 0x0⟩, ⟨25, 1, .ro, fun _ => 0x0⟩, ⟨24, 1, .ro, fun _ => 0x0⟩, ⟨20, 4, .ro, fun _ => 0x0⟩, ⟨16, 4, .ro, fun _ => 0x0⟩, ⟨0, 8, .ro, fun _ => 0x00⟩]⟩,
  ⟨"G_BOOT_VER", 0x204, 0x0, 1, 0, 0, [⟨0, 32, .ro, fun _ => 0x00000000⟩]⟩,
  ⟨"G_BOOT_CTL", 0x208, 0x0, 1, 0, 0, [⟨0, 1, .cmdp, fun _ => 0x0⟩]⟩]

/-- Part 5 of the catalogue. -/
def regRows5 : List RegRow := [
  ⟨"G_UPD_CTL", 0x210, 0x0, 1, 0, 0, [⟨28, 4, .ro, fun _ => 0x0⟩, ⟨0, 3, .cmdp, fun _ => 0x0⟩]⟩,
  ⟨"G_UPD_ADDR", 0x214, 0x0, 1, 0, 0, [⟨20, 1, .rw, fun _ => 0x0⟩, ⟨0, 19, .rw, fun _ => 0x00000⟩]⟩,
  ⟨"G_UPD_BUF", 0x300, 0x4, 64, 0, 0, [⟨0, 32, .rw, fun _ => 0x00000000⟩]⟩,
  ⟨"G_UPD_ST", 0x218, 0x0, 1, 0, 0, [⟨31, 1, .ro, fun _ => 0x0⟩, ⟨30, 1, .ro, fun _ => 0x0⟩, ⟨29, 1, .ro, fun _ => 0x0⟩, ⟨24, 3, .ro, fun _ => 0x0⟩, ⟨20, 4, .ro, fun _ => 0x0⟩]⟩,
  ⟨"G_FUSE_KEY", 0x400, 0x4, 8, 0, 0, [⟨0, 32, .rwl, fun _ => 0x00000000⟩]⟩,
  ⟨"G_FUSE_CFG", 0x420, 0x0, 1, 0, 0, [⟨0, 1, .rwl, fun _ => 0x0⟩]⟩,
  ⟨"G_FUSE_RB", 0x424, 0x0, 1, 0, 0, [⟨0, 7, .ro, fun _ => 0x00⟩]⟩,
  ⟨"G_DIE_ID_LO", 0x30, 0x0, 1, 0, 0, [⟨0, 32, .ro, fun _ => 0⟩]⟩,
  ⟨"G_DIE_ID_HI", 0x34, 0x0, 1, 0, 0, [⟨0, 32, .ro, fun _ => 0⟩]⟩,
  ⟨"G_FW_REJ_CNT", 0x834, 0x0, 1, 0, 1, []⟩,
  ⟨"KL_CFG", 0x30000, 0x0, 1, 10, 0, [⟨31, 1, .rwp, fun _ => 0x1⟩, ⟨30, 1, .rw, fun _ => 0x1⟩, ⟨29, 1, .rwp, fun _ => 0x0⟩, ⟨0, 12, .rwp, fun _ => 0x000⟩]⟩,
  ⟨"KL_ID", 0x30004, 0x0, 1, 10, 0, [⟨30, 2, .ro, fun _ => 0x0⟩, ⟨29, 1, .ro, fun _ => 0x0⟩, ⟨25, 4, .ro, fun _ => 0x0⟩, ⟨12, 12, .ro, fun _ => 0x000⟩, ⟨0, 12, .ro, fun _ => 0x000⟩]⟩,
  ⟨"KL_RT_IDX", 0x30008, 0x0, 1, 10, 0, [⟨0, 12, .rw, fun _ => 0x000⟩]⟩,
  ⟨"KL_RT_DATA", 0x3000C, 0x0, 1, 10, 0, []⟩,
  ⟨"KL_RPT_IDX", 0x30010, 0x0, 1, 10, 0, [⟨0, 9, .rw, fun _ => 0x000⟩]⟩,
  ⟨"KL_RPT_DATA", 0x30014, 0x0, 1, 10, 0, []⟩,
  ⟨"KL_PROXY_ST", 0x30018, 0x0, 1, 10, 0, []⟩,
  ⟨"KL_MTX_CTL", 0x3001C, 0x0, 1, 10, 0, [⟨28, 4, .ro, fun _ => 0x0⟩, ⟨27, 1, .ro, fun _ => 0x0⟩, ⟨12, 12, .rwp, fun _ => 0x000⟩, ⟨8, 4, .rwp, fun _ => 0x0⟩, ⟨0, 6, .rwp, fun _ => 0x00⟩]⟩,
  ⟨"KL_MTX_W", 0x30040, 0x4, 15, 10, 0, [⟨0, 32, .rw, fun _ => 0x00000000⟩]⟩,
  ⟨"KL_UCFG", 0x30100, 0x40, 4, 10, 0, [⟨4, 2, .rwp, fun _ => 0x2⟩, ⟨0, 1, .rw, fun _ => 0x1⟩]⟩,
  ⟨"KL_LST", 0x30104, 0x40, 4, 10, 0, [⟨28, 4, .ro, fun _ => 0x0⟩, ⟨27, 1, .ro, fun _ => 0x0⟩, ⟨26, 1, .ro, fun _ => 0x0⟩, ⟨25, 1, .ro, fun _ => 0x0⟩, ⟨23, 2, .ro, fun _ => 0x0⟩, ⟨20, 3, .ro, fun _ => 0x0⟩, ⟨8, 12, .ro, fun _ => 0x000⟩, ⟨0, 8, .ro, fun _ => 0x00⟩]⟩,
  ⟨"KL_BUDGET", 0x30108, 0x40, 4, 10, 0, [⟨0, 9, .rw, fun _ => 0x190⟩]⟩,
  ⟨"KL_LQ", 0x3010C, 0x40, 4, 10, 0, [⟨31, 1, .rwp, fun _ => 0x0⟩, ⟨16, 9, .rwp, fun _ => 0x000⟩, ⟨0, 9, .rwp, fun _ => 0x000⟩]⟩,
  ⟨"KL_LQ_QNT", 0x30110, 0x40, 4, 10, 0, [⟨0, 20, .rwa, fun _ => 0x02000⟩]⟩,
  ⟨"KL_GRP", 0x30400, 0x10, 64, 10, 0, [⟨31, 1, .rwp, fun _ => 0x0⟩, ⟨16, 9, .rwp, fun _ => 0x000⟩, ⟨0, 9, .rwp, fun _ => 0x000⟩]⟩,
  ⟨"KL_GRP_ST", 0x30404, 0x10, 64, 10, 0, []⟩,
  ⟨"KL_GRP_QNT", 0x30408, 0x10, 64, 10, 0, [⟨0, 20, .rwa, fun _ => 0x02000⟩]⟩,
  ⟨"KL_PRES", 0x30800, 0x4, 96, 10, 0, [⟨28, 4, .ro, fun _ => 0x0⟩, ⟨24, 4, .ro, fun _ => 0x0⟩, ⟨0, 13, .ro, fun _ => 0x0000⟩]⟩,
  ⟨"KL_TRAIN_FAIL_CNT", 0x30120, 0x40, 4, 10, 1, []⟩,
  ⟨"KL_CRC_ERR_CNT", 0x30124, 0x40, 4, 10, 1, []⟩,
  ⟨"KL_RETRAIN_CNT", 0x30128, 0x40, 4, 10, 1, []⟩,
  ⟨"KL_LINK_LOSS_CNT", 0x3012C, 0x40, 4, 10, 1, []⟩,
  ⟨"KL_LOST_CNT", 0x30130, 0x40, 4, 10, 1, []⟩,
  ⟨"KL_BAD_FRAME_CNT", 0x30134, 0x40, 4, 10, 1, []⟩,
  ⟨"KL_NOROUTE_CNT", 0x30138, 0x40, 4, 10, 1, []⟩,
  ⟨"KL_PRES_REJ_CNT", 0x30A00, 0x0, 1, 10, 1, []⟩,
  ⟨"KL_PORTOP_TO_CNT", 0x30A04, 0x0, 1, 10, 1, []⟩,
  ⟨"KL_PROXY_FULL_CNT", 0x30A08, 0x0, 1, 10, 1, []⟩,
  ⟨"KL_ISO_LATE_CNT", 0x30A0C, 0x0, 1, 10, 1, []⟩,
  ⟨"KL_MGMT_HOP_CNT", 0x30A10, 0x0, 1, 10, 1, []⟩]

/-- Part 6 of the catalogue. -/
def regRows6 : List RegRow := [
  ⟨"KL_MGMT_TO_CNT", 0x30A14, 0x0, 1, 10, 1, []⟩,
  ⟨"G_READY", 0x20, 0x0, 1, 0, 0, [⟨31, 1, .ro, fun _ => 0x0⟩, ⟨20, 4, .ro, fun _ => 0x0⟩, ⟨10, 1, .ro, fun _ => 0x0⟩, ⟨9, 1, .ro, fun _ => 0x0⟩, ⟨8, 1, .ro, fun _ => 0x0⟩, ⟨7, 1, .ro, fun _ => 0x0⟩, ⟨6, 1, .ro, fun _ => 0x0⟩, ⟨5, 1, .ro, fun _ => 0x0⟩, ⟨4, 1, .ro, fun _ => 0x0⟩, ⟨3, 1, .ro, fun _ => 0x0⟩, ⟨2, 1, .ro, fun _ => 0x0⟩, ⟨1, 1, .ro, fun _ => 0x0⟩, ⟨0, 1, .ro, fun _ => 0x0⟩]⟩,
  ⟨"G_READY_FAIL", 0x24, 0x0, 1, 0, 0, [⟨20, 4, .ro, fun _ => 0x0⟩, ⟨10, 1, .ro, fun _ => 0x0⟩, ⟨9, 1, .ro, fun _ => 0x0⟩, ⟨8, 1, .ro, fun _ => 0x0⟩, ⟨7, 1, .ro, fun _ => 0x0⟩, ⟨6, 1, .ro, fun _ => 0x0⟩, ⟨5, 1, .ro, fun _ => 0x0⟩, ⟨4, 1, .ro, fun _ => 0x0⟩, ⟨3, 1, .ro, fun _ => 0x0⟩, ⟨2, 1, .ro, fun _ => 0x0⟩, ⟨1, 1, .ro, fun _ => 0x0⟩, ⟨0, 1, .ro, fun _ => 0x0⟩]⟩,
  ⟨"P_READY", 0x100004, 0x400, 96, 1, 0, [⟨11, 1, .ro, fun _ => 0x0⟩, ⟨10, 1, .ro, fun _ => 0x0⟩, ⟨9, 1, .ro, fun _ => 0x0⟩, ⟨8, 1, .ro, fun _ => 0x0⟩, ⟨2, 2, .ro, fun _ => 0x0⟩, ⟨1, 1, .ro, fun _ => 0x0⟩, ⟨0, 1, .ro, fun _ => 0x0⟩]⟩,
  ⟨"G_MODE_CTL", 0x14, 0x0, 1, 0, 0, [⟨28, 4, .ro, fun _ => 0x0⟩, ⟨0, 3, .cmdp, fun _ => 0x0⟩]⟩,
  ⟨"G_SAFE_ST", 0x18, 0x0, 1, 0, 0, [⟨31, 1, .ro, fun _ => 0x0⟩, ⟨30, 1, .ro, fun _ => 0x0⟩, ⟨26, 1, .ro, fun _ => 0x0⟩, ⟨25, 1, .ro, fun _ => 0x0⟩, ⟨24, 1, .ro, fun _ => 0x0⟩, ⟨16, 8, .ro, fun _ => 0x00⟩, ⟨0, 4, .ro, fun _ => 0x0⟩]⟩,
  ⟨"G_RST_CAUSE", 0x1C, 0x0, 1, 0, 0, [⟨28, 4, .ro, fun _ => 0x0⟩, ⟨0, 8, .ro, fun _ => 0x00⟩]⟩,
  ⟨"G_SELFTEST_RES", 0x28, 0x0, 1, 0, 0, [⟨28, 4, .ro, fun _ => 0x0⟩, ⟨0, 16, .ro, fun _ => 0x0000⟩]⟩,
  ⟨"G_MODE_REJ_CNT", 0x838, 0x0, 1, 0, 1, []⟩,
  ⟨"G_SAFE_CNT", 0x83C, 0x0, 1, 0, 1, []⟩,
  ⟨"G_PROT", 0x40, 0x0, 1, 0, 0, [⟨2, 20, .ro, fun _ => 0x00000⟩, ⟨0, 1, .rwp, fun _ => 0x1⟩]⟩,
  ⟨"G_CNT_CTL", 0x44, 0x0, 1, 0, 0, [⟨28, 4, .ro, fun _ => 0x0⟩, ⟨8, 4, .rwp, fun _ => 0x0⟩, ⟨0, 3, .cmdp, fun _ => 0x0⟩]⟩,
  ⟨"G_CNT_ADDR", 0x48, 0x0, 1, 0, 0, [⟨2, 20, .rw, fun _ => 0x00000⟩]⟩,
  ⟨"G_APPLY_PEND", 0x60, 0x4, 8, 0, 0, []⟩,
  ⟨"G_LOG_HEAD", 0x80, 0x0, 1, 0, 0, []⟩,
  ⟨"G_LOG_IDX", 0x84, 0x0, 1, 0, 0, [⟨0, 12, .rw, fun _ => 0x000⟩]⟩,
  ⟨"G_LOG_REC", 0x90, 0x4, 4, 0, 0, []⟩,
  ⟨"G_ABSENT_WR_CNT", 0x800, 0x0, 1, 0, 1, []⟩,
  ⟨"G_UNMAPPED_CNT", 0x804, 0x0, 1, 0, 1, []⟩,
  ⟨"G_ACC_ERR_CNT", 0x808, 0x0, 1, 0, 1, []⟩,
  ⟨"G_LOCK_VIOL_CNT", 0x80C, 0x0, 1, 0, 1, []⟩,
  ⟨"G_PRIV_VIOL_CNT", 0x810, 0x0, 1, 0, 1, []⟩,
  ⟨"G_GUARD_FAIL_CNT", 0x814, 0x0, 1, 0, 1, []⟩,
  ⟨"G_VOTE_CORR_CNT", 0x818, 0x0, 1, 0, 1, []⟩,
  ⟨"G_PAR_RST_CNT", 0x81C, 0x0, 1, 0, 1, []⟩,
  ⟨"G_LOG_COAL_CNT", 0x820, 0x0, 1, 0, 1, []⟩,
  ⟨"G_LOG_DROP_CNT", 0x824, 0x0, 1, 0, 1, []⟩,
  ⟨"G_TB_LO", 0x8, 0x0, 1, 0, 0, []⟩,
  ⟨"G_TB_HI", 0xC, 0x0, 1, 0, 0, []⟩,
  ⟨"FC_SUMMARY_LO", 0x4000, 0x0, 1, 11, 0, []⟩,
  ⟨"FC_SUMMARY_HI", 0x4004, 0x0, 1, 11, 0, []⟩,
  ⟨"FC_REACT", 0x4010, 0x4, 4, 11, 0, [⟨0, 32, .rwp, fun i => if i = 0 then 0x620AA5DF else if i = 1 then 0x0005D541 else if i = 2 then 0x04020685 else 0⟩]⟩,
  ⟨"FC_CFG", 0x4020, 0x0, 1, 11, 0, [⟨8, 8, .rw, fun _ => 0x0A⟩, ⟨0, 1, .rwp, fun _ => 0x0⟩]⟩,
  ⟨"FC_CMD", 0x4024, 0x0, 1, 11, 0, [⟨28, 4, .ro, fun _ => 0x0⟩, ⟨0, 3, .cmdp, fun _ => 0x0⟩]⟩,
  ⟨"FC_VENT_ST", 0x4028, 0x0, 1, 11, 0, [⟨31, 1, .ro, fun _ => 0x0⟩, ⟨30, 1, .ro, fun _ => 0x0⟩, ⟨16, 6, .ro, fun _ => 0x00⟩]⟩,
  ⟨"FC_WDOG", 0x402C, 0x0, 1, 11, 0, [⟨31, 1, .cmd, fun _ => 0x0⟩, ⟨0, 16, .rwp, fun _ => 0x0000⟩]⟩,
  ⟨"FC_SW", 0x4030, 0x0, 1, 11, 0, [⟨0, 8, .rwp, fun _ => 0x00⟩]⟩,
  ⟨"FC_INJ", 0x4040, 0x0, 1, 11, 0, [⟨28, 4, .ro, fun _ => 0x0⟩, ⟨8, 20, .rwp, fun _ => 0x00000⟩, ⟨2, 6, .rwp, fun _ => 0x00⟩, ⟨0, 2, .cmdp, fun _ => 0x0⟩]⟩,
  ⟨"FC_INJ_ST", 0x4044, 0x0, 1, 11, 0, [⟨30, 2, .ro, fun _ => 0x0⟩, ⟨2, 6, .ro, fun _ => 0x00⟩]⟩,
  ⟨"FC_INJ_PROPAGATE", 0x4048, 0x0, 1, 11, 0, [⟨0, 1, .rwp, fun _ => 0x0⟩]⟩]

/-- Part 7 of the catalogue. -/
def regRows7 : List RegRow := [
  ⟨"FC_SRC_CNT", 0x4100, 0x4, 64, 11, 1, []⟩,
  ⟨"FC_VENT_STOP_CNT", 0x4080, 0x0, 1, 11, 1, []⟩,
  ⟨"FC_INJ_CNT", 0x4084, 0x0, 1, 11, 1, []⟩,
  ⟨"FC_REJ_CNT", 0x4088, 0x0, 1, 11, 1, []⟩,
  ⟨"SV_CFG", 0x8000, 0x0, 1, 12, 0, [⟨16, 16, .rwp, fun _ => 0x0000⟩, ⟨8, 8, .rw, fun _ => 0x3C⟩, ⟨1, 1, .rwp, fun _ => 0x1⟩, ⟨0, 1, .rw, fun _ => 0x1⟩]⟩,
  ⟨"SV_UART", 0x8004, 0x0, 1, 12, 0, [⟨30, 2, .rw, fun _ => 0⟩, ⟨29, 1, .ro, fun _ => 0x0⟩]⟩,
  ⟨"SV_ST", 0x8008, 0x0, 1, 12, 0, [⟨30, 2, .ro, fun _ => 0x0⟩, ⟨20, 8, .ro, fun _ => 0x00⟩, ⟨7, 1, .ro, fun _ => 0x0⟩, ⟨0, 7, .ro, fun _ => 0x00⟩]⟩,
  ⟨"SV_HOLD", 0x8010, 0x4, 3, 12, 0, [⟨0, 32, .ro, fun _ => 0x00000000⟩]⟩,
  ⟨"SV_ATB", 0x8020, 0x0, 1, 12, 0, [⟨31, 1, .rw, fun _ => 0x0⟩, ⟨16, 8, .rw, fun _ => 0x00⟩, ⟨0, 8, .rw, fun _ => 0x00⟩]⟩,
  ⟨"SV_ATB_ST", 0x8024, 0x0, 1, 12, 0, [⟨31, 1, .ro, fun _ => 0x0⟩, ⟨16, 8, .ro, fun _ => 0x00⟩, ⟨0, 8, .ro, fun _ => 0x00⟩]⟩,
  ⟨"SV_LINE_ERR_CNT", 0x8080, 0x0, 1, 12, 1, []⟩,
  ⟨"SV_PIN_FAIL_CNT", 0x8084, 0x0, 1, 12, 1, []⟩,
  ⟨"SV_CMD_REJ_CNT", 0x8088, 0x0, 1, 12, 1, []⟩,
  ⟨"SV_SESSION_CNT", 0x808C, 0x0, 1, 12, 1, []⟩]

/-- Every register of the part (R501). -/
def regRows : List RegRow :=
  regRows0 ++ regRows1 ++ regRows2 ++ regRows3 ++ regRows4 ++ regRows5 ++ regRows6 ++ regRows7

/-- The index at which a row names the address, if it does. -/
def RegRow.index (r : RegRow) (a : Nat) : Option Nat :=
  if r.stride = 0 then (if a = r.base then some 0 else none)
  else if r.base ≤ a ∧ (a - r.base) % r.stride = 0 ∧ (a - r.base) / r.stride < r.count
    then some ((a - r.base) / r.stride) else none

/-- The row and index of the register at an address; none where the address names no register (R466). -/
def findRow (rows : List RegRow) (a : Nat) : Option (RegRow × Nat) :=
  match rows with
  | [] => none
  | r :: rest => match r.index a with
    | some i => some (r, i)
    | none => findRow rest a

/-- The register at a byte address. -/
def regAt (a : Nat) : Option (RegRow × Nat) := findRow regRows a

/-- The stored field a catalogue row describes, at index `i` and address `a`. -/
def FieldRow.fld (f : FieldRow) (a i : Nat) : Fld := ⟨a, f.lo, f.wid, f.rst i⟩

end Sys2Proof.Machine
end

