-- ==== Sys2Proof/Machine/State.lean ====
section
/-!
DEFINITION. The machine state: every register field, counter, FIFO, buffer, memory, mode and pin the spec gives the part,
as plain data, and the queue of commands that wait.

Register fields are stored one by one in `flds`, under the descriptors of Machine/Regs.lean, and a field that holds its
reset value is not listed. What the spec gives the part beyond its registers is in the structures below, one table per
kind of unit, indexed as the spec indexes it; the default of each structure is its content after reset.
-/

namespace Sys2Proof.Machine

/-- A step never faults on this part: a refused access answers a result code, which is a next state. -/
inductive Fault where
  /-- Raised by no meaning. Kept so that the outcome type has a fault to name. Safe. -/
  | none
deriving DecidableEq, Repr

/-- Why a command has no meaning here. -/
inductive Refusal where
  /-- The command's meaning is not written yet. Raised by Machine/Dispatch.lean only. Safe. -/
  | notModelled (mnemonic : String)
deriving DecidableEq, Repr

/-- The result of one command. -/
abbrev Res (σ : Type) := Host.Outcome σ Fault Refusal

/-- Result codes of the register fabric (R470); PD, power-path, mode and other command registers use 0 to 2. -/
inductive RC where
  | ok | wrongState | range | badWidth | badAlign | locked | priv | pend | guard | unmapped
deriving DecidableEq, Repr

/-- The code of R470. -/
def RC.code (r : RC) : Nat :=
  match r with
  | .ok => 0 | .wrongState => 1 | .range => 2 | .badWidth => 3 | .badAlign => 4 | .locked => 5
  | .priv => 6 | .pend => 7 | .guard => 8 | .unmapped => 9

/-- Modes that exclude each other; RUN carries the conditions of R32. -/
inductive Mode where
  | off | hold | strap | rise | run | selftest | safe
deriving DecidableEq, Repr

/-- The monitored supplies (R437), the root clock, the reset pin, the strap pins and the enable lines and links of the two
PA dies (R17 to R19). [log 2: DESIGN CHOICE] -/
structure Pins where
  /-- Supplies of R437 above threshold: 0 VDD_CORE, 1 VDD_SRAM, 2 VDD_IO, 3 VDD_SVC, 4 VDD_PA, 5 VPUMP_PA0, 6 VPUMP_PA1. -/
  supply : List Bool := [true, true, true, true, true, true, true]
  /-- RESET_N is high. -/
  resetN : Bool := true
  /-- STRAP0 to STRAP7 as they stand at the pins. -/
  strapPins : Nat := 0
  /-- The root clock counts as absent until the next reset (R27, R458). -/
  clockAbsent : Bool := false
  /-- The root PLL is locked (R443). -/
  pllLocked : Bool := false
  /-- Enable lines driven high to PA0 and PA1. -/
  paEnable : List Bool := [false, false]
  /-- The die is lost (R17, R439) and its ports stay in PA_LOST until a reset. -/
  paLost : List Bool := [false, false]
deriving DecidableEq, Repr

/-- One event-log record (R494). -/
structure LogRec where
  /-- TIME_US at the event. -/
  time : Nat := 0
  /-- Record kind. -/
  kind : Nat := 0
  /-- Event within the kind. -/
  code : Nat := 0
  /-- ARG0. -/
  arg0 : Nat := 0
  /-- ARG1. -/
  arg1 : Nat := 0
deriving DecidableEq, Repr

/-- The event log (R494, R495). -/
structure Log where
  /-- The 4,096 slots. -/
  slots : Tbl LogRec := []
  /-- Records written since POR. -/
  count : Nat := 0
  /-- Records waiting to be written, oldest first, at most 64. -/
  wait : List LogRec := []
  /-- Records dropped since the last LOG_DROP record. -/
  dropped : Nat := 0
  /-- Records of this run written less than 100 µs ago, by which later ones are coalesced. -/
  recent : List LogRec := []
deriving DecidableEq, Repr

/-- A watched level's episode (R112, R497). -/
structure Episode where
  /-- The level is high. -/
  on : Bool := false
  /-- A master has read the register during the episode. -/
  seen : Bool := false
  /-- Boundaries after the rise. -/
  bounds : Nat := 0
  /-- Highest watched value. -/
  peak : Nat := 0
  /-- Millisecond of the last notice, plus one; 0 when none was written. -/
  lastMs : Nat := 0
deriving DecidableEq, Repr

/-- A held guarded write (R487). -/
structure GuardSlot where
  /-- The master that made step 1. -/
  m : Master
  /-- Register address A. -/
  addr : Nat
  /-- Value V. -/
  val : Nat
deriving DecidableEq, Repr

/-- A `_HI` snapshot of a master (R468). -/
structure Snapshot where
  /-- The master. -/
  m : Master
  /-- Address of the pair's `_LO`. -/
  lo : Nat
  /-- The copied `_HI`. -/
  hi : Nat
deriving DecidableEq, Repr

/-- The register fabric: guard slots, snapshots, and the result of the last access. [log 9: DESIGN CHOICE] -/
structure Fabric where
  /-- Held guard slots, oldest first. -/
  guards : List GuardSlot := []
  /-- Pair snapshots. -/
  snaps : List Snapshot := []
  /-- Result of the last access (R470). -/
  rc : RC := .ok
  /-- Data of the last read. -/
  data : Nat := 0
deriving DecidableEq, Repr

/-- The fault collector beyond its registers. -/
structure Faults where
  /-- Level sources' instances in the condition: (source, instance). -/
  levels : List (Nat × Nat) := []
  /-- Event sources held asserted (R513). -/
  events : List Nat := []
  /-- Sources whose present assertion is an injection held back under R529. -/
  heldBack : List Nat := []
  /-- Instance of the armed injection (R525). -/
  injInst : Nat := 0
  /-- The last stop source has fallen and VENT waits its 1.0 s (R517, VENT_AUTO = 1). -/
  ventWait : Bool := false
deriving DecidableEq, Repr

/-- Thread states (R313). -/
inductive TState where
  | off | run | wait | stall | halt | faulted
deriving DecidableEq, Repr

/-- What a thread in STALL does when its operation completes (R314, R344). -/
inductive After where
  | continue | halt | stop
deriving DecidableEq, Repr

/-- A thread timer (R329). -/
structure Timer where
  /-- Running. -/
  on : Bool := false
  /-- TB time in µs of the next expiry. -/
  due : Nat := 0
  /-- Reload value in µs; 0 for a one-shot timer. -/
  reload : Nat := 0
deriving DecidableEq, Repr

/-- One Torik thread. [log 2: DESIGN CHOICE] -/
structure Thread where
  /-- State (R313). -/
  state : TState := .off
  /-- System privilege (R316). -/
  priv : Bool := false
  /-- An exception is being handled (R340). -/
  exc : Bool := false
  /-- Result of the last register access (R320). -/
  lres : RC := .ok
  /-- Program counter (R351). -/
  pc : Word := 0
  /-- General registers g1 to g31 (R351). -/
  gpr : Tbl Word := []
  /-- EVP (R323). -/
  evp : BitVec 256 := 0
  /-- EVE (R323). -/
  eve : BitVec 256 := 0
  /-- Timers 0 to 3. -/
  timers : Tbl Timer := []
  /-- Local memory, 1 KiB. -/
  loc : Tbl Byte := []
  /-- Destination of the WAIT in progress. -/
  waitRd : Nat := 0
  /-- What follows STALL. -/
  after : After := .continue
  /-- Queue of the put in progress (R102, R334). -/
  put : Option Nat := none
deriving DecidableEq, Repr

/-- A mailbox entry (R335). -/
structure MboxEntry where
  /-- KIND. -/
  kind : Nat
  /-- TARGET. -/
  target : Nat
  /-- TAG. -/
  tag : Nat
  /-- Payload bytes. -/
  payload : List Byte
  /-- Taken by a thread. -/
  taken : Bool
deriving DecidableEq, Repr

/-- Torik beyond its threads. -/
structure Torik where
  /-- Instruction memory, 256 KiB (R319). -/
  imem : Tbl Byte := []
  /-- Shared data memory, 128 KiB, by offset from 0x1000_0000. -/
  dmem : Tbl Byte := []
  /-- Mailboxes by source 0 to 5, oldest entry first (R335, R336). -/
  mbox : Tbl (List MboxEntry) := []
  /-- Next TAG of each source. -/
  tags : Tbl Nat := []
deriving DecidableEq, Repr

/-! ### What the part sends outward -/

/-- Signalling on a port's USB 2.0 lines. -/
inductive Usb2 where
  | se0 | disconnect | connect | busReset | driveK | eop | ack | nak | nyet | stall | err | data
  | lpmToken (besl : Nat) (rwe : Bool)
  | pre | forward | sof | badPacket
deriving DecidableEq, Repr

/-- Signalling on a port's SuperSpeed link. -/
inductive SsSig where
  | termOn | termOff | warmResetLfps | hotReset | exitLfps | lgoU1 | lgoU2 | lgoU3 | lau | lxu | u2Timeout
  | erdy | nrdy | packet | edb | ping | deferred | retry
deriving DecidableEq, Repr

/-- What leaves the part. [log 9: DESIGN CHOICE] -/
inductive Out where
  /-- USB 2.0 signalling at port k. -/
  | usb2 (k : Nat) (sig : Usb2)
  /-- SuperSpeed signalling at port k, with a value the signal carries. -/
  | ss (k : Nat) (sig : SsSig) (v : Nat)
  /-- The end of a control request of the host of tree u: ACK with IN data, or STALL. -/
  | ctl (u : Nat) (ack : Bool) (data : List Nat)
  /-- A PD message at port k: transmit kind and words; kind 5 is the BIST carrier. -/
  | pd (k kind : Nat) (words : List Nat)
  /-- A KCL frame on link u: type, virtual channel, destination and payload words. -/
  | kcl (u type vc dest : Nat) (words : List Nat)
  /-- A console line. -/
  | con (text : String)
  /-- Numbers printed by a console command. -/
  | conData (vals : List Nat)
  /-- Bytes on a serial bridge channel, toward the device on pin SBU`pin`, or toward the host or console. -/
  | bridge (c : Nat) (toHost : Bool) (pin : Nat) (bytes : List Byte)
  /-- A flash read, erase or program operation. -/
  | flash (op addr : Nat)
deriving DecidableEq, Repr

/-! ### Power path (chapter 08) -/

/-- Level of a GATE pin (R262, R273): held at ISP, following during SLOPE, at ISP + 10 V. -/
inductive Gate where
  | isp | slope | full
deriving DecidableEq, Repr

/-- The state a discharge ends in (R273 step 3). -/
inductive DisEnd where
  | off | retryWait | latched | stuck
deriving DecidableEq, Repr

/-- A power path beyond its registers. -/
structure Path where
  /-- GATE. -/
  gate : Gate := .isp
  /-- Target voltage T in mV. -/
  target : Nat := 0
  /-- The target before the running slew. -/
  oldTarget : Nat := 0
  /-- Nominal code of the target (R259). -/
  nominal : Nat := 0
  /-- Trim codes. -/
  trim : Int := 0
  /-- The ramp is complete (R264). -/
  rampDone : Bool := false
  /-- OC started and its stop rule is not met. -/
  oc : Bool := false
  /-- UV started and its stop rule is not met. -/
  uv : Bool := false
  /-- Cause whose start rule started the shared timer. -/
  first : Nat := 0
  /-- Consecutive current samples at or below the limit. -/
  ocGood : Nat := 0
  /-- Consecutive VBUS samples at or above the UV limit. -/
  uvGood : Nat := 0
  /-- The OV timer runs. -/
  ov : Bool := false
  /-- Consecutive VBUS samples at or below the OV limit. -/
  ovGood : Nat := 0
  /-- What the running discharge ends in. -/
  disEnd : DisEnd := .off
  /-- The running discharge is a soft off with GATE still high. -/
  soft : Bool := false
  /-- The ramp in progress, or to come, is a retry. -/
  retrying : Bool := false
  /-- TB ms at which PGOOD rose. -/
  pgoodMs : Nat := 0
  /-- Sum of VBUS × IBUS samples since the last Basin tick, in mW, and their number (R294). -/
  pSum : Nat := 0
  /-- Samples in `pSum`. -/
  pCount : Nat := 0
  /-- TB ms of the last UV trip, plus one (F45). -/
  uvTripMs : Nat := 0
deriving DecidableEq, Repr

/-! ### PD engine (chapter 07) -/

/-- Where a transmission stands (R215). -/
inductive TxPhase where
  | idle | waitIdle | sinkTx | wire | retryWait
deriving DecidableEq, Repr

/-- Where a Hard Reset sequence stands (R237, R238). -/
inductive HrPhase where
  | none | signalling | psHardReset | discharge | srcRecover | turnOn
deriving DecidableEq, Repr

/-- Where a transition stands (R228). -/
inductive TransPhase where
  | none | srcTransition | slew | settled
deriving DecidableEq, Repr

/-- What the ROM program's PD policy remembers of a port (R222 to R234). [log 63: DEDUCED] -/
structure PdPolicy where
  /-- Messages it is to send, in order. -/
  todo : List Nat := []
  /-- The first Request since the attach or the last Hard Reset has been answered (R232). -/
  answered : Bool := false
  /-- Consecutive Waits for one request (R230). -/
  waits : Nat := 0
  /-- The last Request was answered Reject and its entry stays in the upgrade queue (R293). -/
  parked : Bool := false
  /-- The offer: 0 full, 1 position 1 alone at the Rp current (R232), 2 positions 1 to 3 (R304). -/
  lim : Nat := 0
  /-- Credit in mW to give back after PS_RDY (R231). -/
  giveBack : Nat := 0
  /-- Hard Resets in a row with no Request answered (R237). -/
  hrs : Nat := 0
  /-- The ramp for which Source_Capabilities was first sent: TB ms of its PGOOD, plus one. -/
  capsFor : Nat := 0
  /-- TB ms at which Source_Capabilities was last sent, and how often since the ramp (R244). -/
  capsMs : Nat := 0
  /-- How often. -/
  capsN : Nat := 0
  /-- DR_Swap has been sent since the attach (R234). -/
  drSent : Bool := false
  /-- Step of the vendor-mode entry: 0 none, 1 identity asked, 2 SVIDs asked, 3 Modes asked, 4 Enter Mode sent. -/
  vdm : Nat := 0
  /-- The cable has been asked for its identity. -/
  cable : Bool := false
  /-- The Request last answered Wait (R230). -/
  lastReq : Nat := 0
  /-- As sink, TB ms at which the Request is sent again after a Wait, plus one (R232). -/
  reqAt : Nat := 0
  /-- The capabilities have been lowered in SHED (R304): 0 no, 1 yes in EPR mode, whose exit follows, 2 yes. -/
  shed : Nat := 0
deriving DecidableEq, Repr

/-- A PD engine beyond its registers. -/
structure Engine where
  /-- Receive FIFO, oldest first, at most 4 entries of up to 8 words (R218). -/
  rx : List (List Nat) := []
  /-- Entries of kinds 3 to 7 the engine holds for room (R216). -/
  held : List (List Nat) := []
  /-- Transmission in progress. -/
  tx : TxPhase := .idle
  /-- Its words. -/
  txWords : List Nat := []
  /-- Retries used. -/
  retries : Nat := 0
  /-- MessageID of the next transmission, per transmit kind. -/
  txId : Tbl Nat := []
  /-- MessageID last received, plus one, per kind. -/
  rxId : Tbl Nat := []
  /-- An own AMS runs (R217). -/
  ams : Bool := false
  /-- The last message received that awaits an answer is a Request, with its position. -/
  request : Option Nat := none
  /-- A swap the partner asked for and the part has not answered (R233): 1 PR_Swap, 2 FR_Swap, 3 VCONN_Swap, 4 DR_Swap. -/
  swapAsked : Nat := 0
  /-- An own message that asks for an answer waits for it: 1 DR_Swap, 2 a Request as sink, 3 a Request accepted. -/
  asked : Nat := 0
  /-- The ROM program's policy for the port. -/
  pol : PdPolicy := {}
  /-- Hard Reset sequence. -/
  hr : HrPhase := .none
  /-- VCONN was on before the sequence. -/
  vconnBefore : Bool := false
  /-- Transition. -/
  trans : TransPhase := .none
  /-- Object position of the contract under transition (R228, R246). -/
  pos : Nat := 0
  /-- Upstream: attached as source (R184, R238). -/
  srcDefault : Bool := false
  /-- The last 16 messages, newest first: TB µs, sent, header. -/
  msgs : List (Nat × Bool × Nat) := []
deriving DecidableEq, Repr

/-! ### Basin (chapter 09) -/

/-- An upgrade-queue entry (R290 to R292). -/
structure UqEntry where
  /-- Present. -/
  pend : Bool := false
  /-- ΔP in mW. -/
  delta : Nat := 0
  /-- Unused grant in mW; 0 for none. -/
  grant : Nat := 0
  /-- Age in ms. -/
  age : Nat := 0
deriving DecidableEq, Repr

/-- Basin beyond its registers. -/
structure Basin where
  /-- Upgrade queue by port k. -/
  uq : Tbl UqEntry := []
  /-- Energy buckets in µJ by group, 13 for the chip; full at reset (R294). -/
  bucket : Tbl Nat := []
  /-- Ports powered off by SHED step 4, last first (R302, R303). -/
  offOrder : List Nat := []
  /-- Consecutive stuck self-tests per die sensor (R296). -/
  stuck : Tbl Nat := []
  /-- Consecutive invalid readings per board sensor (R297). -/
  invalid : Tbl Nat := []
  /-- Board sensors that have given a valid reading since they were switched on (R297). -/
  brdRead : List Nat := []
  /-- Die sensors sampled at least once since RISE. -/
  sampled : List Nat := []
deriving DecidableEq, Repr

/-! ### Ports and upstream ports (chapters 02, 03, 05, 06) -/

/-- Where a port move stands (R51). -/
inductive Move where
  | none | oldBoundary | se0 | newBoundary
deriving DecidableEq, Repr

/-- Why a moisture check runs (R185, R195, R196). -/
inductive Check where
  | none | attach | retest | recheck
deriving DecidableEq, Repr

/-- What a tree's address names (R70). -/
inductive Target where
  | port (n : Nat)
  | backHub (b : Nat)
  | frontHub
  | mgmt
  | remote (slot : Nat)
deriving DecidableEq, Repr

/-- An endpoint descriptor captured from a configuration descriptor (R120). -/
structure EpDesc where
  /-- Configuration. -/
  cfg : Nat
  /-- Interface. -/
  iface : Nat
  /-- Alternate setting. -/
  alt : Nat
  /-- bEndpointAddress: number, IN in bit 7. -/
  epAddr : Nat
  /-- Transfer type. -/
  ty : Nat
deriving DecidableEq, Repr

/-- What the part has seen of a device's configuration (R120). -/
structure DevCfg where
  /-- Value of the last SET_CONFIGURATION. -/
  cfg : Nat := 0
  /-- Endpoints of the captured configuration descriptors. -/
  eps : List EpDesc := []
deriving DecidableEq, Repr

/-- A front logical port that carries a back hub or the management function (R53, R156 to R168). -/
structure LPort where
  /-- A device is reported connected. -/
  conn : Bool := false
  /-- PORT_ENABLE. -/
  en : Bool := false
  /-- PORT_SUSPEND on the USB 2.0 side. -/
  susp : Bool := false
  /-- C_PORT_CONNECTION. -/
  cConn : Bool := false
  /-- C_PORT_RESET. -/
  cReset : Bool := false
  /-- C_PORT_SUSPEND. -/
  cSuspend : Bool := false
  /-- The reported link is in U3 (R168). -/
  u3 : Bool := false
  /-- Recorded U1 timeout. -/
  u1 : Nat := 0
  /-- Recorded U2 timeout. -/
  u2 : Nat := 0
deriving DecidableEq, Repr

/-- A downstream port beyond its registers. [log 2: DESIGN CHOICE] -/
structure Port where
  /-- The device's USB 2.0 pull-up: 0 none, else SPEED as P_PORTST codes it. -/
  dev : Nat := 0
  /-- A SuperSpeed receiver is present. -/
  devSs : Bool := false
  /-- The device connected on USB 2.0 under a host, and stays there until it is detached or moved (R82). -/
  on2 : Bool := false
  /-- Where Dn is presented: tree, hub and logical port (R48, R50). -/
  slot : Option (Nat × Nat × Nat) := none
  /-- Port move (R51). -/
  move : Move := .none
  /-- The host has set PORT_POWER (R66). -/
  hostPower : Bool := false
  /-- C_PORT_CONNECTION. -/
  cConn : Bool := false
  /-- C_PORT_ENABLE. -/
  cEnable : Bool := false
  /-- C_PORT_RESET. -/
  cReset : Bool := false
  /-- C_PORT_SUSPEND. -/
  cSuspend : Bool := false
  /-- C_BH_PORT_RESET. -/
  cBhReset : Bool := false
  /-- C_PORT_LINK_STATE. -/
  cLink : Bool := false
  /-- Raw SEAT level is asserted (low). -/
  seatRaw : Bool := false
  /-- In steam hold, re-tests included (R195). -/
  steam : Bool := false
  /-- The moisture check in progress. -/
  check : Check := .none
  /-- TC_STATE to return to after a RECHECK or a cancelled detach. -/
  checkRet : Nat := 0
  /-- PWR_OK to return to after a RECHECK or a cancelled detach. -/
  checkPwr : Bool := false
  /-- Error recovery runs (R191). -/
  errRec : Bool := false
  /-- The running detach (R188): 0 none, 1 before step 2, 2 after it. -/
  det : Nat := 0
  /-- The running detach aborted a transition (R239). -/
  detAbort : Bool := false
  /-- A detach has been reported, and no attach debounce has ended since (R189). -/
  reDet : Bool := false
  /-- A seating loss was recognised on a cradle port, and seating has not been confirmed since (R189). -/
  seatGone : Bool := false
  /-- VCONN has tripped during this attachment (R198). -/
  vconnTripped : Bool := false
  /-- TB µs of the last packet on the SuperSpeed link. -/
  idleSince : Nat := 0
  /-- SuperSpeed generation the link trained at: 0 none, 1 Gen 1, 2 Gen 2. -/
  gen : Nat := 0
  /-- Port reset in progress (R67, R92): 0 none, 1 USB 2.0, 2 hot, 3 warm with LFPS, 4 warm after LFPS. -/
  rst : Nat := 0
  /-- The reset in progress was asked for, or has become, a warm reset: C_BH_PORT_RESET follows. -/
  warm : Bool := false
  /-- Resume signalling the part drives on the port (R158, R162): 0 none, 1 for the host, 2 taken over from the device. -/
  resume : Nat := 0
  /-- An LPM token awaits the device's response: BESL and remote-wake enable (R161). -/
  l1Ask : Option (Nat × Bool) := none
  /-- K from the device stands on the port (R177). -/
  devK : Bool := false
  /-- An exit from U1 or U2 has started and U0 is not reached (R165). -/
  exiting : Bool := false
  /-- The device's LFPS woke the link from U3: C_PORT_LINK_STATE is set when U0 is reached (R166). -/
  fnWake : Bool := false
  /-- Endpoints with a deferred packet, which receive ERDY at U0 (R89): endpoint number, IN. -/
  deferred : List (Nat × Bool) := []
  /-- PORT_REMOTE_WAKE_MASK: connect, disconnect, over-current (R173). -/
  wakeMask : Nat := 0
  /-- Device Dn's wake was held by a hub that does not allow wake (R159), or waits for a host resume. -/
  woke : Bool := false
  /-- Frame number a remote presenter's SOF_SYNC gave (R420). -/
  frame : Nat := 0
  /-- The presenter has answered PRES_ACK (R416). -/
  presAck : Bool := false
  /-- The presenter asked last: chip, tree, hub, logical port. -/
  presTo : Option (Nat × Nat × Nat × Nat) := none
  /-- LAT of the presenter toward this part, in 10 ns, as its PRES_ACK gave it. -/
  presLat : Nat := 0
  /-- An endpoint's isochronous prefetch: endpoint number, intervals without a host token (R426). -/
  prefetch : List (Nat × Nat) := []
  /-- Configuration and captured endpoints of the devices behind Dn, by address (R120). -/
  devs : Tbl DevCfg := []
deriving DecidableEq, Repr

/-- An upstream port and its tree beyond their registers. [log 2: DESIGN CHOICE] -/
structure Up where
  /-- Address-routing table, by address (R70). -/
  routes : Tbl Target := []
  /-- Address-0 target (R70). -/
  target0 : Option Target := none
  /-- A partner is attached on the CC pins of Uu. -/
  attached : Bool := false
  /-- VCONN is sourced on Uu. -/
  vconn : Bool := false
  /-- DRP: Uu presents Rp (R184). -/
  rp : Bool := false
  /-- Orientation multiplexer of Uu (R184, R187): lane on TXB/RXB, once an attachment has set it. -/
  mux : Option Bool := none
  /-- Frame number (R30). -/
  frame : Nat := 0
  /-- Microframe within the frame. -/
  mf : Nat := 0
  /-- Microframe boundaries so far, by which TT stages are told apart (R77). -/
  mfCount : Nat := 0
  /-- Back hubs as presented, by bit k (R53). -/
  bhNow : Nat := 0
  /-- The management function is presented (R53). -/
  mgmtNow : Bool := false
  /-- Channels as presented (R62). -/
  chNow : Nat := 0
  /-- The management function is in the 10 ms SE0 of a CH_MASK change: Move (R62). -/
  mgmtMove : Move := .none
  /-- HOST_PWR as the hub descriptor shows it (R53). -/
  hostPwr : Bool := false
  /-- Heat factor as the tree latched it (R141). -/
  heat : Nat := 256
  /-- A recognised bus reset on Uu's USB 2.0 side has not ended (R75). -/
  rstHs : Bool := false
  /-- A recognised hot or warm reset on Uu's SuperSpeed side has not ended (R75). -/
  rstSs : Bool := false
  /-- Addresses of the USB 3 hubs on the SuperSpeed bus (R58). -/
  ssRoutes : Tbl Target := []
  /-- Alternate setting of the USB 2.0 hubs by hub: 0 single TT, 1 multiple TT (R46). -/
  alts : Tbl Nat := []
  /-- Logical ports (hub, logical port) that carry nothing and whose C_PORT_CONNECTION is set, because what they carried has left (R51). -/
  vacated : List (Nat × Nat) := []
  /-- Downstream ports the present transaction's token was sent to: the only ones repeated from (R73). -/
  tokenTo : List Nat := []
  /-- Front logical ports that carry a back hub or the management function. -/
  lports : Tbl LPort := []
  /-- Depth of the front hub (R85). -/
  depth : Nat := 0
  /-- Depths of the back hubs. -/
  bhDepth : Tbl Nat := []
  /-- Undelivered event-log records of the notice path, oldest first, at most 64 (R65). -/
  notices : List LogRec := []
  /-- Result of the last REG_READ or REG_WRITE, and the index of the first register that did not return OK (R63). -/
  last : RC × Nat := (.ok, 0)
  /-- A REG_WRITE whose status stage has not completed: address and data. -/
  heldWrite : Option (Nat × List Nat) := none
  /-- Generation of the upstream SuperSpeed link: 0 none, 1 Gen 1, 2 Gen 2, 3 Gen 2x2. -/
  gen : Nat := 0
  /-- The SuperSpeed link counts as absent (R81). -/
  ssAbsent : Bool := false
  /-- The host has set U1_ENABLE on the front hub (R167). -/
  u1En : Bool := false
  /-- The host has set U2_ENABLE on the front hub. -/
  u2En : Bool := false
  /-- A wake waits for the upstream drive to begin (R158). -/
  wakePend : Bool := false
  /-- The host's K has been seen while the part drove K (R177). -/
  hostK : Bool := false
  /-- TB µs of the last packet on Uu. -/
  idleSince : Nat := 0
  /-- Function Wake notifications wait for Uu to reach U0 (R173): downstream ports. -/
  wakeFwd : List Nat := []
  /-- Configuration values the host has set: of hub or function h on its side, at 2h, plus 1 on SuperSpeed. -/
  cfgs : Tbl Nat := []
deriving DecidableEq, Repr

/-! ### Boot and update (chapter 12) -/

/-- A flash operation in progress (R385). -/
inductive FlashOp where
  | none
  | erase
  | program
  /-- VERIFY of a bank: 0 A, 1 B. -/
  | verify (bank : Nat)
deriving DecidableEq, Repr

/-- What the ROM program keeps for its 1 ms work (R107, R304). Times are TB ms plus one. -/
structure RomWork where
  /-- Since when a hardware SHED cause has been present; 0 for none present. -/
  hotAt : Nat := 0
  /-- Since when none has been present; 0 for one present. -/
  calmAt : Nat := 0
  /-- How far LEVEL has been raised for the present cause: 0, 3 or 4. -/
  raised : Nat := 0
  /-- The value of BSN_SHED_CTL.LEVEL the ROM program last wrote; 0 for none above it. -/
  wrote : Nat := 0
  /-- The last port visited, lowered or restored. -/
  visitAt : Nat := 0
  /-- Lowered ports receive their full offer again. -/
  restore : Bool := false
  /-- Alert has been sent for the present overtemperature (R222). -/
  alerted : Bool := false
  /-- Banks that recovery has moved to SECDED, by bit (R107). -/
  recov : Nat := 0
deriving DecidableEq, Repr

/-- Boot, update and flash beyond their registers. -/
structure Boot where
  /-- The image runs and its confirmation is awaited (R382). -/
  confirmWait : Bool := false
  /-- The master that owns the update (R384). -/
  owner : Option Master := none
  /-- Flash operation in progress. -/
  op : FlashOp := .none
  /-- An UPDATE that ends by SAFE, timeout or a bus reset waits for the operation (R386). -/
  abortAfter : Bool := false
  /-- A reset that waits for the flash operation, by kind (R459). -/
  resetAfter : Option Nat := none
  /-- Flash: both banks of 512 KiB, bank 1 from 0x8_0000; an erased byte is not listed. -/
  flash : Tbl Byte := []
  /-- Locked fuse fields (R383): 0–7 G_FUSE_KEY, 8 SIG_REQ. -/
  fuseLock : List Nat := []
  /-- Descriptor records of the running image (R376): type and data. -/
  desc : List (Nat × List Byte) := []
  /-- Offset last programmed, with its bank bit (`update status`). -/
  lastProg : Nat := 0
  /-- SVN to which confirmation advances the rollback counter; 0 for none (R382). -/
  advSvn : Nat := 0
  /-- The ROM program serves the part: no image or an extending one runs (R38, R387). -/
  rom : Bool := false
  /-- Threads the ROM program has restarted after F15 (R517): TB ms of the last restart, plus one. -/
  restarted : Tbl Nat := []
  /-- Ports the ROM program has released, and trees at 128 + u (R388). -/
  released : List Nat := []
  /-- Generation the ROM program last set egress x for (R151). -/
  romGen : Tbl Nat := []
  /-- The ROM program's 1 ms work. -/
  work : RomWork := {}
deriving DecidableEq, Repr

/-! ### Serial bridge (chapter 06) -/

/-- A bridge channel beyond its register (R201, R203). -/
structure Chan where
  /-- Baud rate. -/
  rate : Nat := 115200
  /-- Data bits. -/
  bits : Nat := 8
  /-- Parity: 0 none, 1 odd, 2 even. -/
  parity : Nat := 0
  /-- Stop bits. -/
  stop : Nat := 1
  /-- Undelivered data for the bulk IN endpoint. -/
  rx : List Byte := []
  /-- bOverRun of SERIAL_STATE. -/
  overrun : Bool := false
  /-- Port the channel is assigned to, though overvoltage may have opened its switch (R200, R202). -/
  port : Option Nat := none
  /-- bRxCarrier and bTxCarrier as SERIAL_STATE last reported them (R203). -/
  told : Nat := 0
deriving DecidableEq, Repr

/-- Ports that wait for a channel, in the order they began waiting (R202). -/
structure Bridges where
  /-- Waiting ports. -/
  wait : List Nat := []
deriving DecidableEq, Repr

/-! ### Transaction translators (R76 to R80) -/

/-- Where a split transaction stands. -/
inductive SplitSt where
  | pending | done | nak | stall | failed
deriving DecidableEq, Repr

/-- A split transaction a TT holds. -/
structure Split where
  /-- Device address. -/
  addr : Nat
  /-- Endpoint number. -/
  epn : Nat
  /-- Direction IN. -/
  dirIn : Bool
  /-- Microframe Y of a periodic transaction, counted as `Up.mfCount`. -/
  y : Nat
  /-- Data length. -/
  len : Nat
  /-- State. -/
  st : SplitSt
  /-- Order of its packet in the TT's queue. -/
  order : Nat
  /-- The result's data was poisoned (R106). -/
  poison : Bool
deriving DecidableEq, Repr

/-- A transaction translator. -/
structure Tt where
  /-- Periodic splits, in the order their start-splits arrived. -/
  per : List Split := []
  /-- Non-periodic buffers, at most 4. -/
  np : List Split := []
  /-- A flush is not finished: start-splits are answered NAK (R75). -/
  flush : Bool := false
deriving DecidableEq, Repr

/-! ### Caldera and the traffic manager (chapters 03, 04) -/

/-- Colour of a data packet (R127). -/
inductive Colour where
  | none | green | yellow | red
deriving DecidableEq, Repr

/-- A packet in Caldera, or one whose producer waits for room (R84, R102). -/
structure Packet where
  /-- Ingress: port k of R502, 100 + v for KCL link v, 104 for Torik. -/
  src : Nat := 0
  /-- Egress index x (R136); 100 for the part's own hubs and for Torik. -/
  egress : Nat := 0
  /-- Downstream port of the endpoint, on this part or on the owner's. -/
  port : Nat := 0
  /-- Chip at the other end of a remote presentation: 0 for none, else chip ID plus one. -/
  chip : Nat := 0
  /-- 0 transaction packet, 1 ACK transaction packet, 2 data, 3 timestamp, 4 TT data, 5 PROXY frame, 6 ISOPF frame. -/
  kind : Nat := 0
  /-- Endpoint entry plus one; 0 for a miss or none. -/
  entry : Nat := 0
  /-- Scheduling class of R143; 4 for SIGNAL. -/
  cls : Nat := 4
  /-- Device address. -/
  addr : Nat := 0
  /-- Endpoint number. -/
  epn : Nat := 0
  /-- Direction IN. -/
  dirIn : Bool := false
  /-- Colour. -/
  colour : Colour := .none
  /-- Poison tag. -/
  poison : Bool := false
  /-- Payload length L. -/
  len : Nat := 0
  /-- Words w (R84). -/
  w : Nat := 3
  /-- Words written so far. -/
  written : Nat := 3
  /-- Header and payload bytes of a packet Torik put. -/
  data : List Byte := []
  /-- Route string of a downstream header (R85). -/
  route : Nat := 0
  /-- Sequence number of its header. -/
  seq : Nat := 0
  /-- Which content the sender gave it, for the bytes that no command carries: an argument of `Config.content`. [log 57: DESIGN CHOICE] -/
  body : Nat := 0
  /-- Its check bits are of the SECDED code: the code of the bank when its words were reserved (R105, R108). -/
  secded : Bool := true
  /-- Order of admission. -/
  order : Nat := 0
  /-- Its egress has begun. -/
  started : Bool := false
  /-- It started by cut-through. -/
  cut : Bool := false
  /-- A pending flush will discard it. -/
  doomed : Bool := false
  /-- Delivered or discarded; its words are freed when it is first in the queue. -/
  gone : Bool := false
  /-- Red-held. -/
  held : Bool := false
  /-- NumP of an ACK transaction packet as it is forwarded. -/
  numP : Nat := 0
  /-- Policer that marked it red. -/
  pol : Nat := 0
  /-- Ports that have yet to read a timestamp (R90). -/
  readers : List Nat := []
  /-- Owner chip plus one, for a packet of another part's port on its way through the fabric; 0 for this part. -/
  owner : Nat := 0
  /-- DIRN of the frame that carries it: false toward the owner (R399). -/
  toHost : Bool := false
  /-- Arguments of a PROXY or ISOPF frame. -/
  args : List Nat := []
deriving DecidableEq, Repr

/-- A Caldera queue beyond its registers (R96, R101). -/
structure Queue where
  /-- Write pointer WR. -/
  wr : Nat := 0
  /-- Read pointer RD. -/
  rd : Nat := 0
  /-- Packets, oldest first. -/
  pkts : List Packet := []
  /-- Producers that stall, oldest first (R102). -/
  wait : List Packet := []
  /-- Words still to be read under the bank's old code (R108). -/
  oldWords : Nat := 0
  /-- Order number at the pending flush's request: the packets below it were begun before (R109). -/
  bound : Nat := 0
  /-- Threads that wait for the pending flush (R333). -/
  askers : List Nat := []
  /-- Ports whose TT found no room in the queue, with the words it asks (R102). -/
  nak : List (Nat × Nat) := []
deriving DecidableEq, Repr

/-- An egress: its shaper (R137) and its scheduler (R145, R146). -/
structure Egress where
  /-- Credit c. -/
  credit : Int := 0
  /-- Fraction f in 1/256 byte. -/
  frac : Nat := 0
  /-- Wire bytes sent in the present tick. -/
  sent : Nat := 0
  /-- FORGIVE acts at the end of the tick (R140). -/
  forgive : Bool := false
  /-- Current member of the round robin. -/
  cur : Nat := 0
  /-- Deficits by member. -/
  deficit : Tbl Nat := []
  /-- Members topped up in their present turn. -/
  topped : List Nat := []
  /-- Packets deferred in this window, by order. -/
  deferred : List Nat := []
  /-- Packets chosen and not yet wholly on the wire, by queue and order: the staging buffer of 262 words holds at most two (R95). -/
  stage : List (Nat × Nat) := []
deriving DecidableEq, Repr

/-- Token counts of a policer (R126). -/
structure Policer where
  /-- Tc. -/
  tc : Nat := 0
  /-- Tp. -/
  tp : Nat := 0
  /-- MODE as of the last boundary. -/
  mode : Nat := 0
deriving DecidableEq, Repr

/-- A red hold (R131). -/
structure Hold where
  /-- Policer that owns it. -/
  pol : Nat
  /-- Endpoint entry. -/
  entry : Nat
  /-- Length Lh of the red packet. -/
  len : Nat
  /-- Boundaries it has lasted. -/
  age : Nat
  /-- The held packet: queue and order. -/
  pkt : Option (Nat × Nat)
  /-- SuperSpeed OUT, or a TT: the path the hold acts on; 0 SuperSpeed IN, 1 SuperSpeed OUT, 2 TT. -/
  path : Nat
  /-- Sequence number of the last ACK forwarded with NumP = 0. -/
  seq : Nat
  /-- Its NumP. -/
  numP : Nat
deriving DecidableEq, Repr

/-- The data path as a whole. -/
structure Flow where
  /-- Order number of the next packet. -/
  next : Nat := 0
  /-- Red holds, oldest first. -/
  holds : List Hold := []
  /-- Banks' last two microframes, by 125 µs of TB, in which CD_PAR_ERR_CNT rose: the earlier and the later, each plus one (R107). -/
  parErr : Tbl (Nat × Nat) := []
  /-- TB ms at which CD_CORR_CNT of a bank last rose, or SECDED was set for recovery, plus one (R107). -/
  corrAt : Tbl Nat := []
  /-- DORMANT was left while every tree slept, and no tree has woken since (R175). -/
  barred : Bool := false
deriving DecidableEq, Repr

/-! ### Cascade link engine (chapter 13) -/

/-- A frame (R398, R399). -/
structure KFrame where
  /-- TYPE. -/
  ty : Nat
  /-- VC. -/
  vc : Nat
  /-- DEST. -/
  dest : Nat
  /-- Body length LEN. -/
  len : Nat
  /-- Header fields that depend on the type, and arguments. -/
  args : List Nat
deriving DecidableEq, Repr

/-- A KCL link beyond its registers (R395 to R403). -/
structure KLink where
  /-- SEQ of the next frame. -/
  txSeq : Nat := 0
  /-- Frames sent and not acknowledged, oldest first, at most 64. -/
  unacked : List (Nat × KFrame) := []
  /-- Frames that wait for room among the unacknowledged, or for credit. -/
  txq : List KFrame := []
  /-- Credits in use at the peer, by VC. -/
  used : Tbl Nat := []
  /-- SEQ expected next. -/
  rxSeq : Nat := 0
  /-- Frames accepted since the last LACK. -/
  rxCount : Nat := 0
  /-- An LNAK is sent and its SEQ has not arrived. -/
  discarding : Bool := false
  /-- SEQ named by the peer's last LNAK, plus one, and how often in a row. -/
  lnak : Nat × Nat := (0, 0)
  /-- Credits owed to the peer, by VC. -/
  owed : Tbl Nat := []
  /-- DATA frames that wait at the head of VC1 or VC2 for their queue: VC, queue, packet. -/
  stalled : List (Nat × Nat × Packet) := []
  /-- Die ID of the peer. -/
  peerDie : Nat := 0
  /-- Far-end terminations are detected on both lane pairs. -/
  far : Bool := false
  /-- TB of the PROBE in flight. -/
  probe : Option Nat := none
  /-- A training attempt failed: the port waits 10 ms (R395). -/
  retryWait : Bool := false
deriving DecidableEq, Repr

/-- A route the part has heard (R412). -/
structure RouteE where
  /-- Origin. -/
  origin : Nat
  /-- Link it arrived on. -/
  link : Nat
  /-- LAT in 10 ns. -/
  lat : Nat
  /-- HOPS. -/
  hops : Nat
deriving DecidableEq, Repr

/-- A remote slot of the presenter (R415, R433). -/
structure Slot where
  /-- Entry in use. -/
  valid : Bool := false
  /-- Tree. -/
  tree : Nat := 0
  /-- Hub. -/
  hub : Nat := 0
  /-- Logical port. -/
  lport : Nat := 0
  /-- Owner's port. -/
  port : Nat := 0
  /-- Owner's chip. -/
  chip : Nat := 0
  /-- LAT of the owner toward this part, as PRES_REQ gave it. -/
  lat : Nat := 0
  /-- The owner's port has a SuperSpeed PHY, as PRES_REQ gave it (R44). [log 20: DESIGN CHOICE] -/
  ssPhy : Bool := false
  /-- PORT_REMOTE_WAKE_MASK the host of this tree set: connect, disconnect, over-current (R173). -/
  wakeMask : Nat := 0
  /-- State of the port as the owner last reported it: STATE, SPEED, SS_LINK, change bits. -/
  st : Nat × Nat × Nat × Nat := (2, 0, 0, 0)
  /-- The slot is suspended (R427): cause, 0 for none. -/
  susp : Nat := 0
  /-- The slot reports the port: its tree has reached a boundary since the presentation (R416). -/
  shown : Bool := false
deriving DecidableEq, Repr

/-- A group of the presenter (R417). -/
structure Grp where
  /-- In use. -/
  used : Bool := false
  /-- Tree. -/
  tree : Nat := 0
  /-- Owner chip. -/
  chip : Nat := 0
deriving DecidableEq, Repr

/-- What a proxy entry holds (R424). -/
inductive ProxySt where
  | asked | data | nak | stall | ack | nyet | error
deriving DecidableEq, Repr

/-- A proxy entry. -/
structure Proxy where
  /-- Remote slot. -/
  slot : Nat
  /-- Device address. -/
  addr : Nat
  /-- Endpoint number. -/
  epn : Nat
  /-- 0 IN, 1 OUT or PING, 2 SETUP, 3 isochronous, 4 split. -/
  kind : Nat
  /-- Data PID: 0 or 1. -/
  pid : Nat
  /-- Result. -/
  st : ProxySt
  /-- Data length. -/
  len : Nat
  /-- The microframe of a periodic split, as `Up.mfCount`, plus one; 0 otherwise. -/
  y : Nat := 0
deriving DecidableEq, Repr

/-- An ID of the root's table (R406). -/
structure IdEntry where
  /-- The ID is held. -/
  held : Bool := false
  /-- Die ID that holds, or held, it. -/
  die : Nat := 0
deriving DecidableEq, Repr

/-- The cascade link engine as a whole. -/
structure Kcl where
  /-- Lowest die ID heard, with the ID of the root that announced it; none before any announcement. -/
  root : Option Nat := none
  /-- The root's table of IDs. -/
  ids : Tbl IdEntry := []
  /-- Routes heard. -/
  routes : List RouteE := []
  /-- Sequence of the last ROUTE seen from an origin, plus one. -/
  seqs : Tbl Nat := []
  /-- Own ROUTE sequence. -/
  mySeq : Nat := 0
  /-- Remote slots 0 to 447. -/
  slots : Tbl Slot := []
  /-- Groups 0 to 63. -/
  grps : Tbl Grp := []
  /-- Proxy entries, oldest first, at most 256. -/
  proxies : List Proxy := []
  /-- Port commands without an answer: slot and tree. -/
  ops : List (Nat × Nat) := []
  /-- Management requests without an answer: destination and MCODE. -/
  reqs : List (Nat × Nat) := []
  /-- The frame last sent through KL_MTX_CTL (R433). -/
  mtx : Option KFrame := none
  /-- MBX frames sent and not answered OK: destination, body, and whether the peer answered BUSY (R429). -/
  mbxBusy : List (Nat × List Nat × Bool) := []
  /-- ID requests and claims relayed toward the root: die ID and the link they came from (R406). -/
  relays : List (Nat × Nat) := []
deriving DecidableEq, Repr

/-! ### Service engine and test access port (chapters 18, 19) -/

/-- The service engine beyond its registers. -/
structure Svc where
  /-- SV_SESSION_CNT at the session's opening (R559). -/
  opened : Nat := 0
  /-- Wrong or missing PINs in a row (R542). -/
  pinRun : Nat := 0
  /-- TAG of a line passed to mailbox 4 and not ended (R547). -/
  passed : Option Nat := none
  /-- Held ports that were commanded off when they were held (R544). -/
  wasOff : List Nat := []
deriving DecidableEq, Repr

/-- The JTAG port (R570). -/
structure Jtag where
  /-- Instruction in force: 0 EXTEST, 1 SAMPLE/PRELOAD, 15 BYPASS. -/
  ir : Nat := 15
  /-- The 134 cells as last captured, cell 0 nearest TDI. -/
  capture : Nat := 0
  /-- The update latches of the 134 cells. -/
  latch : Nat := 0
deriving DecidableEq, Repr

/-- The state of the part. [log 50: DESIGN CHOICE] -/
structure State where
  /-- The part (R2). No command changes it. -/
  variant : Variant
  /-- Mode. -/
  mode : Mode
  /-- The DORMANT condition (R175). The other conditions of R32 are read from what raises them. -/
  dormant : Bool
  /-- Timebase TB (R29), in CLK_HS cycles. -/
  tb : Nat
  /-- Supplies, clock, straps and PA dies. -/
  pins : Pins
  /-- Register fields, by `Fld.key`. -/
  flds : Tbl Nat
  /-- Staged values of RWA fields (R482), by `Fld.key`. -/
  staged : Tbl Nat
  /-- Event counters (R492), by register address. -/
  cnts : Tbl Nat
  /-- 64-bit byte counters (R154), by the address of their `_LO`. -/
  bytes : Tbl Nat
  /-- Register fabric. -/
  fab : Fabric
  /-- Event log. -/
  log : Log
  /-- Watched levels (R497), by 4096 × code + index. -/
  eps : Tbl Episode
  /-- Fault collector. -/
  flt : Faults
  /-- Torik threads. -/
  threads : Tbl Thread
  /-- Torik memories and mailboxes. -/
  tk : Torik
  /-- Downstream port n. -/
  ports : Tbl Port
  /-- Upstream port u. -/
  ups : Tbl Up
  /-- PD engine k. -/
  engs : Tbl Engine
  /-- Power path k. -/
  paths : Tbl Path
  /-- Serial bridge channel c. -/
  chans : Tbl Chan
  /-- Transaction translator of Dn. -/
  tts : Tbl Tt
  /-- Caldera queue q. -/
  queues : Tbl Queue
  /-- Egress x. -/
  egresses : Tbl Egress
  /-- Policer p. -/
  pols : Tbl Policer
  /-- KCL link u. -/
  klinks : Tbl KLink
  /-- Basin. -/
  bsn : Basin
  /-- Boot, update and flash. -/
  boot : Boot
  /-- The bridge channels' waiting ports. -/
  brg : Bridges
  /-- The data path. -/
  flow : Flow
  /-- The cascade link engine. -/
  kcl : Kcl
  /-- The service engine. -/
  svc : Svc
  /-- The JTAG port. -/
  jtag : Jtag
  /-- Values taken so far from `Config.free`: the model's own field, for what the spec leaves open. -/
  freeCtr : Nat
  /-- What the part has sent outward, newest first: the model's own record of its output wires. -/
  out : List Out
  /-- Commands that wait, oldest first. -/
  pending : List Instr
deriving DecidableEq, Repr

/-- A variant of the family at entry to STRAP after a power-on reset (R440, R443, R461): registers at their reset values,
RST_CNT 1, T0 running at the ROM entry in system mode (R315), memories without content.
[log 1: DESIGN CHOICE; log 2: DESIGN CHOICE; log 5: DESIGN CHOICE] -/
def State.resetOf (v : Variant) : State where
  variant := v
  mode := .strap
  dormant := false
  tb := 0
  pins := {}
  flds := (G_RST_CAUSE.RST_CNT.key, 1) :: if v = .klh4800 then [(G_U0_ADMIT.LIMIT.key, 0x30), (BSN_U0_CFG.U0_MAX.key, 0x30)] else []
  staged := []
  cnts := []
  bytes := []
  fab := {}
  log := {}
  eps := []
  flt := {}
  threads := [(0, { state := .run, priv := true, pc := 0x40000 })]
  tk := {}
  ports := []
  ups := []
  engs := []
  paths := []
  chans := []
  tts := []
  queues := []
  egresses := []
  pols := []
  klinks := []
  bsn := {}
  boot := {}
  brg := {}
  flow := {}
  kcl := {}
  svc := {}
  jtag := {}
  freeCtr := 0
  out := []
  pending := []

/-- The part right after reset. [log 1: DESIGN CHOICE] -/
def State.reset : State := State.resetOf .klh9600

end Sys2Proof.Machine
end

