-- ==== Sys2Proof/Machine/Ops.lean ====
section
/-!
DEFINITION. Operations every block shares: reading and writing register fields, counters and units, posting events,
writing event-log records, and the facts about the part that follow from its variant.
-/

namespace Sys2Proof

namespace Machine

/-! ### The variant (R2, R4, R5, R509) -/

/-- Number of downstream ports (G_CAP_UNITS.DS_PORTS). -/
def dsPorts (v : Variant) : Nat :=
  match v with
  | .klh4800 => 48
  | _ => 96

/-- Number of upstream ports (G_CAP_UNITS.US_PORTS). -/
def usPorts (v : Variant) : Nat :=
  match v with
  | .klh4800 => 2
  | _ => 4

/-- The cascade link engine is present (G_CAP_UNITS.KCL). -/
def hasKcl (v : Variant) : Bool :=
  match v with
  | .klh4800 => false
  | _ => true

/-- Downstream ports have SuperSpeed PHYs (G_CAP_UNITS.SS_DS). -/
def hasSs (v : Variant) : Bool :=
  match v with
  | .klh9610 => false
  | _ => true

/-- Number of serial bridge channels (G_CAP_UNITS.SBU_CH). -/
def sbChannels (v : Variant) : Nat :=
  match v with
  | .klh4800 => 8
  | _ => 16

/-- VARIANT code of G_CAP_UNITS. -/
def variantCode (v : Variant) : Nat :=
  match v with
  | .klh9600 => 0
  | .klh9610 => 1
  | .klh4800 => 2

/-- G_CAP_UNITS as it reads (R4). -/
def capUnits (v : Variant) : Nat :=
  0xB1 * 2 ^ 24 + variantCode v * 2 ^ 20 + sbChannels v * 2 ^ 13 + (hasKcl v).toNat * 2 ^ 12 +
    (hasSs v).toNat * 2 ^ 11 + usPorts v * 2 ^ 8 + dsPorts v

end Machine

/-- Master code (R463). -/
def Master.code (m : Master) : Nat :=
  match m with
  | .thread t _ => t % 64
  | .boot => 0x40
  | .host u => 0x41 + u
  | .console => 0x45
  | .peer _ => 0x46

/-- A privileged master writes RWP fields directly (R463, R486). -/
def Master.privileged (m : Master) : Bool :=
  match m with
  | .thread _ p => p
  | .boot => true
  | _ => false

namespace Machine

namespace State

/-- Dn is present. [log 8: DEDUCED] -/
def dsHere (s : State) (n : Nat) : Bool := decide (n < dsPorts s.variant)

/-- Uu is present. [log 8: DEDUCED] -/
def usHere (s : State) (u : Nat) : Bool := decide (u < usPorts s.variant)

/-- Port k of R502 is present: Dk, or U(k − 96). [log 8: DEDUCED] -/
def kHere (s : State) (k : Nat) : Bool :=
  if k < 96 then s.dsHere k else s.usHere (k - 96)

/-- Supply group g is present (R2). -/
def sgHere (s : State) (g : Nat) : Bool := decide (g < dsPorts s.variant / 8) || decide (g = 12)

/-! ### Fields, counters, units -/

/-- The applied value of a register field. -/
def get (s : State) (f : Fld) : Nat := Tbl.get s.flds f.rst f.key

/-- Write a register field; bits beyond its width are lost. -/
def set (s : State) (f : Fld) (v : Nat) : State :=
  { s with flds := Tbl.set s.flds f.rst f.key (v % 2 ^ f.wid) }

/-- A field of one bit, or a count, is not 0. -/
def on (s : State) (f : Fld) : Bool := decide (s.get f ≠ 0)

/-- Stage a value of an RWA field (R482). -/
def stage (s : State) (f : Fld) (v : Nat) : State :=
  { s with staged := Tbl.ins (Tbl.erase s.staged f.key) f.key (v % 2 ^ f.wid) }

/-- The staged value of a field, or its applied value. -/
def pendingOf (s : State) (f : Fld) : Nat := Tbl.get s.staged (s.get f) f.key

/-- A value of the field is staged. -/
def isStaged (s : State) (f : Fld) : Bool := s.staged.any fun e => e.1 == f.key

/-- Drop a staged value. -/
def unstage (s : State) (f : Fld) : State := { s with staged := Tbl.erase s.staged f.key }

/-- Apply a staged value at its boundary. -/
def apply (s : State) (f : Fld) : State := (s.set f (s.pendingOf f)).unstage f

/-- An event counter (R492). -/
def cnt (s : State) (a : Nat) : Nat := Tbl.get s.cnts 0 a

/-- Count one event; the counter saturates at 0xFFFF (R492). -/
def inc (s : State) (a : Nat) : State :=
  { s with cnts := Tbl.set s.cnts 0 a (min (s.cnt a + 1) 0xFFFF) }

/-- Count `n` events. -/
def incBy (s : State) (a n : Nat) : State :=
  { s with cnts := Tbl.set s.cnts 0 a (min (s.cnt a + n) 0xFFFF) }

/-- Add to a 64-bit byte counter (R154). -/
def addBytes (s : State) (lo n : Nat) : State :=
  { s with bytes := Tbl.set s.bytes 0 lo ((Tbl.get s.bytes 0 lo + n) % 2 ^ 64) }

/-- Send something outward. [log 9: DESIGN CHOICE] -/
def emit (s : State) (o : Out) : State := { s with out := o :: s.out }

/-- Take a value the spec leaves open (Config.free), below `bound`. [log 6: DESIGN CHOICE] -/
def freeVal (s : State) (bound : Nat) : Nat := Config.free s.freeCtr % bound

/-- Step the counter of taken free values. [log 6: DESIGN CHOICE] -/
def freeNext (s : State) : State := { s with freeCtr := s.freeCtr + 1 }

/-- Change the mode. -/
def enterMode (s : State) (m : Mode) : State := { s with mode := m }

/-- Change the DORMANT condition. -/
def setDormant (s : State) (b : Bool) : State := { s with dormant := b }

/-- Set the timebase (R29). [log 4: DESIGN CHOICE] -/
def setTb (s : State) (v : Nat) : State := { s with tb := v }

/-- Result of a register access (R470). [log 9: DESIGN CHOICE] -/
def answer (s : State) (r : RC) : State := { s with fab := { s.fab with rc := r } }

/-- Data of a register read. [log 9: DESIGN CHOICE] -/
def answerData (s : State) (v : Nat) : State := { s with fab := { s.fab with rc := .ok, data := v } }

/-- Torik thread t. -/
def thread (s : State) (t : Nat) : Thread := Tbl.get s.threads {} t

/-- Change thread t. -/
def modThread (s : State) (t : Nat) (f : Thread → Thread) : State :=
  { s with threads := Tbl.set s.threads {} t (f (s.thread t)) }

/-- Downstream port n. -/
def port (s : State) (i : Nat) : Port := Tbl.get s.ports {} i

/-- Change downstream port n. -/
def modPort (s : State) (i : Nat) (f : Port → Port) : State :=
  { s with ports := Tbl.set s.ports {} i (f (s.port i)) }

/-- Upstream port u. -/
def up (s : State) (i : Nat) : Up := Tbl.get s.ups {} i

/-- Change upstream port u. -/
def modUp (s : State) (i : Nat) (f : Up → Up) : State :=
  { s with ups := Tbl.set s.ups {} i (f (s.up i)) }

/-- PD engine k. -/
def eng (s : State) (i : Nat) : Engine := Tbl.get s.engs {} i

/-- Change pD engine k. -/
def modEng (s : State) (i : Nat) (f : Engine → Engine) : State :=
  { s with engs := Tbl.set s.engs {} i (f (s.eng i)) }

/-- Power path k. -/
def path (s : State) (i : Nat) : Path := Tbl.get s.paths {} i

/-- Change power path k. -/
def modPath (s : State) (i : Nat) (f : Path → Path) : State :=
  { s with paths := Tbl.set s.paths {} i (f (s.path i)) }

/-- Serial bridge channel c. -/
def chan (s : State) (i : Nat) : Chan := Tbl.get s.chans {} i

/-- Change serial bridge channel c. -/
def modChan (s : State) (i : Nat) (f : Chan → Chan) : State :=
  { s with chans := Tbl.set s.chans {} i (f (s.chan i)) }

/-- Transaction translator of Dn. -/
def tt (s : State) (i : Nat) : Tt := Tbl.get s.tts {} i

/-- Change transaction translator of Dn. -/
def modTt (s : State) (i : Nat) (f : Tt → Tt) : State :=
  { s with tts := Tbl.set s.tts {} i (f (s.tt i)) }

/-- Caldera queue q. -/
def queue (s : State) (i : Nat) : Queue := Tbl.get s.queues {} i

/-- Change caldera queue q. -/
def modQueue (s : State) (i : Nat) (f : Queue → Queue) : State :=
  { s with queues := Tbl.set s.queues {} i (f (s.queue i)) }

/-- Egress x. -/
def egress (s : State) (i : Nat) : Egress := Tbl.get s.egresses {} i

/-- Change egress x. -/
def modEgress (s : State) (i : Nat) (f : Egress → Egress) : State :=
  { s with egresses := Tbl.set s.egresses {} i (f (s.egress i)) }

/-- Policer p. -/
def pol (s : State) (i : Nat) : Policer := Tbl.get s.pols {} i

/-- Change policer p. -/
def modPol (s : State) (i : Nat) (f : Policer → Policer) : State :=
  { s with pols := Tbl.set s.pols {} i (f (s.pol i)) }

/-- KCL link u. -/
def klink (s : State) (i : Nat) : KLink := Tbl.get s.klinks {} i

/-- Change kCL link u. -/
def modKlink (s : State) (i : Nat) (f : KLink → KLink) : State :=
  { s with klinks := Tbl.set s.klinks {} i (f (s.klink i)) }

/-- Change Basin. -/
def modBsn (s : State) (f : Basin → Basin) : State := { s with bsn := f s.bsn }

/-- Change the fault collector. -/
def modFlt (s : State) (f : Faults → Faults) : State := { s with flt := f s.flt }

/-- Change the pins. -/
def modPins (s : State) (f : Pins → Pins) : State := { s with pins := f s.pins }

/-- Change Torik. -/
def modTk (s : State) (f : Torik → Torik) : State := { s with tk := f s.tk }

/-- Change the register fabric. -/
def modFab (s : State) (f : Fabric → Fabric) : State := { s with fab := f s.fab }

/-- Change the event log. -/
def modLog (s : State) (f : Log → Log) : State := { s with log := f s.log }

/-- Change boot, update and flash. -/
def modBoot (s : State) (f : Boot → Boot) : State := { s with boot := f s.boot }

/-- Change the bridge channels' waiting ports. -/
def modBrg (s : State) (f : Bridges → Bridges) : State := { s with brg := f s.brg }

/-- Change the data path. -/
def modFlow (s : State) (f : Flow → Flow) : State := { s with flow := f s.flow }

/-- Change the cascade link engine. -/
def modKcl (s : State) (f : Kcl → Kcl) : State := { s with kcl := f s.kcl }

/-- Change the service engine. -/
def modSvc (s : State) (f : Svc → Svc) : State := { s with svc := f s.svc }

/-- Change the JTAG port. -/
def modJtag (s : State) (f : Jtag → Jtag) : State := { s with jtag := f s.jtag }


/-- TIME_US (R494). -/
def timeUs (s : State) : Nat := s.tb / 480

/-- TB in ms. -/
def timeMs (s : State) : Nat := s.tb / 480000

/-! ### The event log (R495) -/

/-- A record arises: it waits to be written, or is dropped and counted when 64 already wait. [log 11: DEDUCED; log 23: DEDUCED] -/
def logRec (s : State) (kind code arg0 arg1 : Nat) : State :=
  if s.log.wait.length < 64 then
    { s with log := { s.log with wait := s.log.wait ++ [⟨s.timeUs, kind, code, arg0, arg1⟩] } }
  else
    { s with log := { s.log with dropped := s.log.dropped + 1 } }.inc R.G_LOG_DROP_CNT

/-- A record for which R512 names no ARG1, or a REGISTER record that no master caused: ARG1 is a free value. [log 53: DESIGN CHOICE] -/
def logOpen (s : State) (kind code arg0 : Nat) : State := s.freeNext.logRec kind code arg0 (s.freeVal (2 ^ 32))

/-! ### Watched levels (R112, R497) -/

/-- The episode of watched level `code` at index `i`. -/
def episode (s : State) (code i : Nat) : Episode := Tbl.get s.eps {} (4096 * code + i)

/-- Set an episode. -/
def setEpisode (s : State) (code i : Nat) (e : Episode) : State :=
  { s with eps := Tbl.set s.eps {} (4096 * code + i) e }

/-- The watched level stands at `lvl` with value `v`: a rise starts an episode; a fall ends it, with a PLUME record when no
master has read the level and none was written in this millisecond. -/
def watch (s : State) (code i : Nat) (lvl : Bool) (v : Nat) : State :=
  let e := s.episode code i
  match lvl, e.on with
  | true, false => s.setEpisode code i { e with on := true, seen := false, bounds := 0, peak := v }
  | true, true => s.setEpisode code i { e with peak := max e.peak v }
  | false, false => s
  | false, true =>
    let plume := !e.seen && decide (e.lastMs ≠ s.timeMs + 1)
    let s1 := s.setEpisode code i { e with on := false, lastMs := if plume then s.timeMs + 1 else e.lastMs }
    if plume then s1.logRec 0x0F code i (min e.bounds 65535 * 65536 + e.peak % 65536) else s1

/-- A boundary of the level's domain falls within its episode. -/
def watchTick (s : State) (code i : Nat) : State :=
  let e := s.episode code i
  if e.on then s.setEpisode code i { e with bounds := e.bounds + 1 } else s

/-- A master reads the level's register. -/
def watchSeen (s : State) (code i : Nat) : State :=
  let e := s.episode code i
  if e.on then s.setEpisode code i { e with seen := true } else s

/-! ### Events (R323, R325, R326) -/

/-- Post event `e` to thread `t`: dropped for a thread in OFF, coalesced when already pending. -/
def post (s : State) (t e : Nat) : State :=
  if (s.thread t).state = .off then s.inc R.TK_EV_DROP_CNT
  else if (s.thread t).evp.getLsbD e then s.inc (R.TK_EV_COAL_CNT t)
  else s.modThread t fun h => { h with evp := h.evp ||| (1#256 <<< e) }

/-- Post event `e` to the thread TK_EVROUTE names; dropped and counted where the route is off (R326). -/
def postRouted (s : State) (e : Nat) : State :=
  if s.on (TK_EVROUTE.EN (e / 4) (e % 4)) then s.post (s.get (TK_EVROUTE.THREAD (e / 4) (e % 4))) e
  else s.inc R.TK_EV_DROP_CNT

/-- Post the PD event of port k to the thread PD_CFG[k].THREAD names at that moment (R219, R220). -/
def postPd (s : State) (k : Nat) : State := s.post (s.get (PD_CFG.THREAD k)) (16 + k)

/-- Port change event of port k (R326). -/
def postPort (s : State) (k : Nat) : State := s.postRouted (116 + k)

/-! ### Cascade frames other blocks send (R398 to R402, R412) -/

/-- Uu is a KCL link that carries frames of every kind. -/
def linkUp (s : State) (u : Nat) : Bool := hasKcl s.variant && decide (s.get (KL_LST.STATE u) = 5)

/-- A route is better: lower LAT, then lower link index (R412). -/
def betterRoute (a b : RouteE) : Bool := decide (a.lat < b.lat) || (decide (a.lat = b.lat) && decide (a.link < b.link))

/-- The best of some routes. -/
def bestRoute (l : List RouteE) : Option RouteE :=
  l.foldl (fun best r => match best with
    | none => some r
    | some b => if betterRoute r b then some r else some b) none

/-- Routes the part holds toward chip c. -/
def routesTo (s : State) (c : Nat) : List RouteE := s.kcl.routes.filter fun r => r.origin == c

/-- PRIMARY toward chip c. -/
def primary (s : State) (c : Nat) : Option RouteE := bestRoute (s.routesTo c)

/-- SPARE toward chip c: the best route on any other link. -/
def spare (s : State) (c : Nat) : Option RouteE :=
  match s.primary c with
  | none => none
  | some p => bestRoute ((s.routesTo c).filter fun r => !(r.link == p.link))

/-- The best route toward chip c whose link is in UP: what PRIMARY and SPARE leave of a way to it (R412, R427). [log 36: DEDUCED] -/
def reach (s : State) (c : Nat) : Option RouteE := bestRoute ((s.routesTo c).filter fun r => s.linkUp r.link)

/-- The link a frame for chip c leaves on; `from` is one more than the link it arrived on, 0 for an own frame. -/
def linkFor (s : State) (c from_ : Nat) : Option Nat :=
  match s.primary c with
  | none => none
  | some p =>
    if s.linkUp p.link then (if p.link + 1 = from_ then none else some p.link)
    else match s.spare c with
      | none => none
      | some r => if s.linkUp r.link && decide (r.link + 1 ≠ from_) then some r.link else none

/-- Credits of a VC's buffer in units of 64 bytes (R402). -/
def vcCredits (vc : Nat) : Nat := if vc = 0 then 64 else if vc = 1 then 256 else 512

/-- Credits a frame costs. -/
def KFrame.cost (f : KFrame) : Nat := (8 + f.len + 63) / 64

/-- A frame leaves on link u: it takes a SEQ and credits and stays until acknowledged (R401, R402). -/
def kTransmit (s : State) (u : Nat) (f : KFrame) : State :=
  let l := s.klink u
  (s.modKlink u fun l => { l with
    txSeq := (l.txSeq + 1) % 128
    unacked := l.unacked ++ [(l.txSeq, f)]
    used := Tbl.set l.used 0 f.vc (Tbl.get l.used 0 f.vc + KFrame.cost f) }).emit (.kcl u f.ty f.vc f.dest (l.txSeq :: f.args))

/-- Link u has room for the frame among its unacknowledged frames and in the peer's buffer. -/
def kRoom (s : State) (u : Nat) (f : KFrame) : Bool :=
  decide ((s.klink u).unacked.length < 64) && decide (Tbl.get (s.klink u).used 0 f.vc + KFrame.cost f ≤ vcCredits f.vc)

/-- Hand a frame to link u: it leaves at once, or waits for room. -/
def kSend (s : State) (u : Nat) (f : KFrame) : State :=
  if (s.klink u).txq.isEmpty && s.kRoom u f then s.kTransmit u f
  else s.modKlink u fun l => { l with txq := l.txq ++ [f] }

/-- Send an own frame by route; with no usable link it is discarded. [log 37: DEDUCED] -/
def kRoute (s : State) (f : KFrame) : State :=
  match s.linkFor f.dest 0 with
  | some u => s.kSend u f
  | none => s

/-- Codes the model gives the PORTOP frames, whose values the spec does not assign (DESIGN CHOICE, log 20). -/
abbrev opPresReq : Nat := 1
abbrev opPresAck : Nat := 2
abbrev opPresNak : Nat := 3
abbrev opPresEnd : Nat := 4
abbrev opPortSt : Nat := 5
abbrev opPortCmd : Nat := 6
abbrev opPortRsp : Nat := 7
abbrev opTreeEvt : Nat := 8
abbrev opSofSync : Nat := 9

/-- Send a PORTOP frame to chip c. [log 20: DESIGN CHOICE] -/
def portOp (s : State) (c : Nat) (args : List Nat) : State := s.kRoute ⟨4, 0, c, args.length, args⟩

/-- The chip that presents Dn, while its presentation runs. -/
def presenter (s : State) (n : Nat) : Option Nat :=
  if n < 96 ∧ s.get (KL_PRES.STATE n) = 2 then (s.port n).presTo.map (·.1) else none

/-- Change bits of Dn as the host reads them. -/
def changeBits (s : State) (n : Nat) : Nat :=
  let p := s.port n
  p.cConn.toNat + 2 * p.cEnable.toNat + 4 * p.cSuspend.toNat + 16 * p.cReset.toNat + 32 * p.cBhReset.toNat + 64 * p.cLink.toNat

/-- PORT_ST of Dn to its presenter (R419). -/
def portStatus (s : State) (n : Nat) : State :=
  match s.presenter n with
  | some c => s.portOp c [opPortSt, n, s.get (P_PORTST.STATE n), s.get (P_PORTST.SPEED n), s.get (P_PORTST.SS_LINK n),
      s.changeBits n, s.get (P_LPST.LAST_WAKE n)]
  | none => s

/-- Write a field; if it changed, post the port change event of port k, and report a presented port's change (R326, R419). -/
def setPort (s : State) (k : Nat) (f : Fld) (v : Nat) : State :=
  if s.get f = v % 2 ^ f.wid then s else ((s.set f v).postPort k).portStatus k

/-! ### Fault levels (R513, R516, R517) -/

/-- Floor of a source's reaction class (R513). -/
def faultFloor (i : Nat) : Nat :=
  if i = 0 ∨ i = 1 ∨ i = 3 then 3 else if i = 23 then 2
  else if i = 6 ∨ i = 7 ∨ i = 8 ∨ i = 9 ∨ i = 12 ∨ i = 14 ∨ i = 35 ∨ i = 36 ∨ i = 40 then 1 else 0

/-- The source is asserted (R513, R520). [log 46: DEDUCED] -/
def fltOn (s : State) (i : Nat) : Bool := s.flt.levels.any (fun l => l.1 == i) || s.flt.events.contains i

/-- Reaction class in use: FC_REACT, never below the floor (R516). -/
def fltClass (s : State) (i : Nat) : Nat :=
  max (faultFloor i) (s.get (FC_REACT.CLASS (i / 16)) / 4 ^ (i % 16) % 4)

/-- Some source of class STOP or SAFE is asserted and not held back (R517). -/
def stopAsserted (s : State) : Bool :=
  (List.range 64).any fun i => s.fltOn i && decide (2 ≤ s.fltClass i) && !(s.flt.heldBack.contains i)

/-- A source's instance leaves its condition. With VENT_AUTO = 1, the fall of the last stop source starts the 1.0 s wait
(R517). [log 11: DEDUCED; log 51: DEDUCED] -/
def fltFall (s : State) (i inst : Nat) : State :=
  let s1 := s.modFlt fun f => { f with levels := f.levels.filter (fun l => !(l == (i, inst))) }
  if s.stopAsserted && !s1.stopAsserted && s.on FC_CFG.VENT_AUTO then s1.modFlt fun f => { f with ventWait := true } else s1

/-- ENUM_STALL of Dn clears, and with it the instance of F44 (R59, R513). -/
def stallClear (s : State) (n : Nat) : State := (s.setPort n (P_PORTST.ENUM_STALL n) 0).fltFall 44 n

/-! ### Modes (R32, R35) -/

/-- The part executes commands: not in OFF or HOLD, where everything is held in reset (R441, R452). [log 7: DEDUCED] -/
def alive (s : State) : Bool :=
  match s.mode with
  | .off => false
  | .hold => false
  | _ => true

/-- The data path runs (R452): links are up in RISE and in RUN with its conditions. -/
def dataOn (s : State) : Bool :=
  match s.mode with
  | .rise => true
  | .run => true
  | _ => false

/-- The SERVICE condition: a service session holds a port (R452). -/
def cService (s : State) : Bool :=
  s.on (SV_HOLD.HOLD 0) || s.on (SV_HOLD.HOLD 1) || s.on (SV_HOLD.HOLD 2)

/-- The RELAY condition: every present upstream port is a KCL link in UP (R452). -/
def cRelay (s : State) : Bool :=
  hasKcl s.variant && (List.range (usPorts s.variant)).all fun u => s.get (KL_LST.STATE u) == 5

/-- G_MODE as it reads (R35, R36). -/
def modeWord (s : State) : Nat :=
  match s.mode with
  | .off => 0
  | .hold => 1
  | .strap => 2
  | .rise => 3
  | .selftest => 0xA
  | .safe => 0xB
  | .run =>
    let shed := s.on BSN_SHED_ST.LEVEL
    let upd := s.on G_UPD_ST.ACTIVE
    (if upd then 9 else if s.cService then 8 else if shed then 5 else if s.dormant then 6
      else if s.cRelay then 7 else 4) +
    upd.toNat * 2 ^ 12 + s.cService.toNat * 2 ^ 11 + s.cRelay.toNat * 2 ^ 10 + s.dormant.toNat * 2 ^ 9 +
      shed.toNat * 2 ^ 8

/-- After a change that may move G_MODE: its event and its record (R325, R512). -/
def modeNote (s old : State) : State :=
  if s.modeWord = old.modeWord then s
  else (s.logRec 0x0B 0x02 0 s.modeWord).postRouted 11

end State

/-- Run an effect where the part executes commands; in OFF and HOLD nothing happens. [log 4: DESIGN CHOICE; log 7: DEDUCED] -/
def act (s : State) (f : State → State) : Res State := .next (if s.alive then f s else s)

end Machine

end Sys2Proof
end

