-- ==== Sys2Proof/Machine/Wake.lean ====
section
/-!
DEFINITION. Wakes and port changes of sleeping ports, as other blocks raise them (R159, R173, R177).
-/

namespace Sys2Proof.Machine

/-! Codes of U_LPST.HS_STATE (R179), P_LPST.SUSP_KIND, LAST_WAKE and SS_LS (R178). -/

namespace Hs
abbrev active : Nat := 0
abbrev l1 : Nat := 1
abbrev suspended : Nat := 2
abbrev resuming : Nat := 3
abbrev driving : Nat := 4
end Hs

namespace Susp
abbrev none : Nat := 0
abbrev selective : Nat := 1
abbrev tree : Nat := 2
abbrev hub : Nat := 3
abbrev l1 : Nat := 4
abbrev u3 : Nat := 5
end Susp

namespace WakeBy
abbrev host : Nat := 1
abbrev device : Nat := 2
abbrev collided : Nat := 3
abbrev portChange : Nat := 4
abbrev reset : Nat := 5
end WakeBy

namespace Ls
abbrev u0 : Nat := 0
abbrev u1 : Nat := 1
abbrev u2 : Nat := 2
abbrev u3 : Nat := 3
abbrev disabled : Nat := 4
abbrev rxDetect : Nat := 5
abbrev inactive : Nat := 6
abbrev polling : Nat := 7
abbrev recovery : Nat := 8
end Ls

namespace State

/-- The USB 2.0 side of tree u is suspended; the part's own upstream drive does not end that (R160). -/
def hsAsleep (s : State) (u : Nat) : Bool :=
  decide (s.get (U_LPST.HS_STATE u) = Hs.suspended) || decide (s.get (U_LPST.HS_STATE u) = Hs.driving)

/-- Uu runs as a cascade link. -/
def isKcl (s : State) (u : Nat) : Bool := decide (s.get (U_TREEST.LINK u) = 4)

/-! ### Sleep (R172, R175, R176) -/

/-- Tree u is asleep. It stays so while the part drives its own K, after which the host may not resume it (R160). [log 47: DEDUCED] -/
def asleepNow (s : State) (u : Nat) : Bool :=
  (decide (s.get (U_TREEST.LINK u) = 0) || s.hsAsleep u ||
      decide (s.get (U_LPST.HS_STATE u) = Hs.l1)) &&
    decide (s.get (U_LPST.SS_LS u) = Ls.u3 ∨ s.get (U_LPST.SS_LS u) = Ls.disabled ∨ s.get (U_LPST.SS_LS u) = Ls.rxDetect)

/-- ASLEEP follows; a tree that wakes lets the part go dormant again later (R175). -/
def sleepRefresh (s : State) (u : Nat) : State :=
  let a := s.asleepNow u
  let s1 := s.set (U_LPST.ASLEEP u) a.toNat
  if a then s1 else s1.modFlow fun d => { d with barred := false }

/-- Host-facing upstream ports (R33, R175). -/
def hostFacing (s : State) : List Nat := (List.range (usPorts s.variant)).filter fun u => !(s.isKcl u)

/-- The part leaves DORMANT (R176). -/
def dormantExit (s : State) : State :=
  if s.dormant then
    ((s.setDormant false).modFlow fun d => { d with barred := s.hostFacing.all s.asleepNow }).modeNote s
  else s

/-- Back hub b of tree u is asleep by itself (R157). -/
def bhAsleep (s : State) (u b : Nat) : Bool := (Tbl.get (s.up u).lports {} (15 - b)).susp

/-- The hub chain of a port on hub h of tree u is asleep. -/
def chainAsleep (s : State) (u h : Nat) : Bool := s.hsAsleep u || (decide (h ≠ 0) && s.bhAsleep u h)

/-- Every asleep hub between hub h and Uu allows wake (R159). -/
def chainAllows (s : State) (u h : Nat) : Bool :=
  (decide (h = 0) || (s.get (U_LPST.RWE_BH u)).testBit (h - 1)) && (!(s.hsAsleep u) || s.on (U_LPST.RWE_FRONT u))

/-- Every port on back hub b of tree u. -/
def portsOfHub (s : State) (u b : Nat) : List Nat :=
  s.ports.filterMap fun e => match e.2.slot with
    | some (u', h, _) => if u' = u ∧ h = b then some e.1 else none
    | none => none

/-- Remote slots on back hub b of tree u. -/
def slotsOfHub (s : State) (u b : Nat) : List Nat :=
  s.kcl.slots.filterMap fun e => if e.2.valid && e.2.tree == u && e.2.hub == b then some e.1 else none

/-- Send PORT_CMD about remote slot i to its owner (R419). [log 20: DESIGN CHOICE] -/
def slotCmd (s : State) (i code val : Nat) : State :=
  s.portOp (Tbl.get s.kcl.slots {} i).chip [opPortCmd, (Tbl.get s.kcl.slots {} i).port, code, val]

/-- Dn is asleep: by itself, or with its hub chain (R159). -/
def portAsleep (s : State) (n : Nat) : Bool :=
  decide (s.get (P_LPST.SUSP_KIND n) ≠ Susp.none) ||
    match (s.port n).slot with
    | some (u, h, _) => s.chainAsleep u h
    | none => false

/-- A wake of sleeping port n is counted and recorded, whether or not it propagates (R159, R174). -/
def wakeNote (s : State) (n cause : Nat) : State :=
  ((s.inc (R.P_WAKE_CNT n)).set (P_LPST.LAST_WAKE n) cause).portStatus n

/-- A selectively suspended back hub wakes its front logical port by itself (R159): the ports behind it are awake again, here and in
remote slots (code 17, log 20). -/
def bhWake (s : State) (u b : Nat) : State :=
  let s1 := s.modUp u fun x =>
    { x with lports := Tbl.set x.lports {} (15 - b) { Tbl.get x.lports {} (15 - b) with susp := false, cSuspend := true } }
  (s1.portsOfHub u b).foldl
    (fun s n => if s.get (P_LPST.SUSP_KIND n) = Susp.hub then s.set (P_LPST.SUSP_KIND n) Susp.none else s)
    ((s1.slotsOfHub u b).foldl (fun s i => s.slotCmd i 17 0) s1)

/-- A wake, or a port change, on sleeping port n of tree u, hub h (R159): counted, recorded, and propagated where every asleep
hub allows it. `cause` is a LAST_WAKE code. A host resume already recognised overtakes it, and one upstream drive serves every
wake (R177). -/
def wakeAt (s : State) (u h n cause : Nat) : State :=
  if s.get (U_LPST.HS_STATE u) = Hs.resuming ∧ s.get (P_LPST.SUSP_KIND n) = Susp.tree then
    ((((s.inc (R.P_WAKE_CNT n)).inc (R.P_WAKE_COLL_CNT n)).logOpen 0x02 0x03 n).set (P_LPST.LAST_WAKE n) WakeBy.collided).modPort
      n fun p => { p with woke := true }
  else if s.chainAsleep u h then
    let s1 := (s.wakeNote n cause).modPort n fun p => { p with woke := true }
    if s.chainAllows u h then
      if s.hsAsleep u then
        (if s.get (U_LPST.HS_STATE u) = Hs.driving then s1 else s1.modUp u fun x => { x with wakePend := true })
      else s1.bhWake u h
    else s1
  else s

/-- Uu begins its exit from U3 for a wake, which ends DORMANT (R173, R176). -/
def u3Wake (s : State) (u : Nat) : State :=
  if s.get (U_LPST.SS_LS u) = Ls.u3 then (s.emit (.ss (96 + u) .exitLfps 0)).dormantExit else s

/-- A port change on Dn while it sleeps, counted wherever Dn is presented (R174): USB 2.0 under R159; SuperSpeed only where the host set
bit `bit` of PORT_REMOTE_WAKE_MASK (R173), and then Uu begins its exit from U3. The presenter of a remote port judges by its own copy
of that mask. -/
def portChangeWake (s : State) (n bit : Nat) (ss : Bool) : State :=
  match (s.port n).slot with
  | none => if s.portAsleep n then s.wakeNote n WakeBy.portChange else s
  | some (u, h, _) =>
    if ss then
      let s1 := if s.portAsleep n || decide (s.get (U_LPST.SS_LS u) = Ls.u3) then s.wakeNote n WakeBy.portChange else s
      if (s.port n).wakeMask.testBit bit then s1.u3Wake u else s1
    else if s.portAsleep n && !(s.chainAsleep u h) then s.wakeNote n WakeBy.portChange
    else s.wakeAt u h n WakeBy.portChange

/-- Downstream links in U0 or Recovery (R170). -/
def u0Count (s : State) : Nat :=
  ((List.range (dsPorts s.variant)).filter fun n =>
    s.get (P_LPST.SS_LS n) = 0 || s.get (P_LPST.SS_LS n) = 8).length

/-- Write SS_LS of Dn, with its port change event; ADMIT and COUNT follow, and OVER falls with COUNT (R170, R171, R178). -/
def setSs (s : State) (n v : Nat) : State :=
  let s1 := (s.setPort n (P_LPST.SS_LS n) v).set (P_LPST.ADMIT n) (decide (v = 0 ∨ v = 8)).toNat
  let s2 := s1.set G_U0_ADMIT.COUNT s1.u0Count
  if s2.u0Count ≤ s2.get G_U0_ADMIT.LIMIT then (s2.set G_U0_ADMIT.OVER 0).watch 4 0 false 0 else s2

/-- A packet for the SuperSpeed link of Dn is queued in either direction (R164). -/
def linkQueued (s : State) (n : Nat) : Bool :=
  s.queues.any fun e => e.2.pkts.any fun p => !p.gone && (p.src == n || p.egress == n)

/-- A demotion candidate (R170). -/
def demotable (s : State) (n : Nat) : Bool :=
  decide (s.get (P_LPST.SS_LS n) = 0) && s.on (P_LPTO.DEMOTE_EN n) &&
    decide (1 ≤ s.get (P_LPTO.U2_TIMEOUT n)) &&
    decide (s.get G_LP_CFG.ADMIT_IDLE ≤ s.timeUs - (s.port n).idleSince) && !(s.linkQueued n)

/-- The candidate idle longest; the lower port number wins a tie (R170). [log 26: DEDUCED] -/
def demoteNext (s : State) : Option Nat :=
  ((List.range (dsPorts s.variant)).filter s.demotable).foldl
    (fun best n => match best with
      | none => some n
      | some b => if (s.port n).idleSince < (s.port b).idleSince then some n else some b) none


end State

end Sys2Proof.Machine
end

