-- ==== Sys2Proof/Machine/Caldera.lean ====
section
/-!
DEFINITION. Caldera queues as buffers: pointers and occupancy (R101, R111), admission and back-pressure (R97, R100, R102), and the
release of words.
-/

namespace Sys2Proof.Machine

namespace State

/-! ### Pointers and occupancy (R101, R111) -/

/-- Size S of queue q in words. -/
def qSize (s : State) (q : Nat) : Nat := 64 * 2 ^ s.get (CD_QCFG.SIZE q)

/-- Words held. -/
def qOcc (s : State) (q : Nat) : Nat := ((s.queue q).wr + 2 * s.qSize q - (s.queue q).rd) % (2 * s.qSize q)

/-- Words free. -/
def qFree (s : State) (q : Nat) : Nat := s.qSize q - s.qOcc q

/-- Bank of queue q. -/
def qBank (s : State) (q : Nat) : Nat := s.get (CD_QCFG.BANK q)

/-- LO as used: HI − 1 when LO is not below HI (R111). -/
def qLow (s : State) (q : Nat) : Nat := min (s.get (CD_QWM.LO q)) (s.get (CD_QWM.HI q) - 1)

/-- ABOVE_HI for the present occupancy. -/
def qAbove (s : State) (q : Nat) : Bool :=
  decide (s.get (CD_QWM.HI q) ≠ 0) &&
    (decide (s.get (CD_QWM.HI q) ≤ s.qOcc q) || (s.on (CD_QST.ABOVE_HI q) && decide (s.qLow q < s.qOcc q)))

/-- A TT whose start-split found no room stalls on the queue until that room is there (R102): a list of ports and words. -/
def ttStalls (s : State) (q : Nat) : List (Nat × Nat) :=
  (s.queue q).nak.filter fun e => !(s.on (CD_QST.EN_ACT q) && decide (e.2 ≤ s.qFree q))

/-- Queues that hold words of an old code, in bank b (R108). -/
def oldInBank (s : State) (b : Nat) : Bool := s.queues.any fun e => decide (e.2.oldWords ≠ 0) && decide (s.qBank e.1 = b)

/-- CD_QST[q] follows the queue: OCC, EMPTY, ABOVE_HI and FULL with their counts and episodes (R102, R111, R112), PROT_OLD and
CD_PROT_PEND (R108). -/
def qRefresh (s : State) (q : Nat) : State :=
  let occ := s.qOcc q
  let above := s.qAbove q
  let full := !(s.queue q).wait.isEmpty || !(s.ttStalls q).isEmpty
  let s0 := s.modQueue q fun x => { x with nak := s.ttStalls q }
  let s1 := (s0.set (CD_QST.OCC q) occ).set (CD_QST.EMPTY q) (decide (occ = 0)).toNat
  let s2 := if above && !(s.on (CD_QST.ABOVE_HI q)) then s1.inc (R.CD_QWM_CNT q) else s1
  let s3 := (s2.set (CD_QST.ABOVE_HI q) above.toNat).watch 1 q above occ
  let s4 := if full && !(s.on (CD_QST.FULL q)) then s3.inc (R.CD_QFULL_CNT q) else s3
  let s5 := (s4.set (CD_QST.FULL q) full.toNat).watch 2 q full 0
  let old := decide ((s.queue q).oldWords ≠ 0)
  let s6 := s5.set (CD_QST.PROT_OLD q) old.toNat
  let b := s.qBank q
  if s.on (CD_QST.PROT_OLD q) && !old && !(s6.oldInBank b) then
    s6.set CD_PROT_PEND.PEND (s6.get CD_PROT_PEND.PEND ^^^ (s6.get CD_PROT_PEND.PEND &&& 2 ^ b))
  else s6

/-! ### What a packet's words hold (R84, R93) -/

/-- Little-endian bytes of a 32-bit word. -/
def wordBytes (w : Nat) : List Byte := [w, w / 256, w / 65536, w / 16777216].map fun b => BitVec.ofNat 8 b

/-- The first eight bytes of the header packet, by the fields the commands carry, where USB 3.2 places them: type, route string and device
address; then sequence number, direction, endpoint number and length for data, or subtype ACK, direction, endpoint number, NumP and
sequence number for an ACK. [log 61: PRESUMED] -/
def headBytes (p : Packet) : List Byte :=
  let d := if p.dirIn then 128 else 0
  if p.kind = 2 then
    wordBytes (8 + p.route % 2 ^ 20 * 32 + p.addr * 2 ^ 25) ++ wordBytes (p.seq + d + p.epn * 256 + p.len * 65536)
  else if p.kind = 1 then
    wordBytes (4 + p.route % 2 ^ 20 * 32 + p.addr * 2 ^ 25) ++ wordBytes (1 + d + p.epn * 256 + p.numP * 65536 + p.seq * 2 ^ 21)
  else []

/-- Byte i of a stored packet, counted from its header. -/
def packetByte (p : Packet) (i : Nat) : Byte :=
  let known := if p.data.isEmpty then headBytes p else p.data
  match known[i]? with
  | some b => b
  | none => Config.content p.body i

/-- What a word of Caldera holds: a packet's metadata word, or eight bytes of its header or payload, and the code of its check bits. The
spec lays out neither the metadata word nor the codes' check bits. [log 57: DESIGN CHOICE] -/
inductive BankWord where
  | tag (src entry : Nat) (colour : Colour) (poison : Bool) (len : Nat) (secded : Bool)
  | bytes (b : List Byte) (secded : Bool)
deriving DecidableEq, Repr

/-- Word j of a stored packet (R84). -/
def packetWord (p : Packet) (j : Nat) : BankWord :=
  if j = 0 then .tag p.src p.entry p.colour p.poison p.len p.secded
  else .bytes ((List.range 8).map fun i => packetByte p (8 * (j - 1) + i)) p.secded

/-- Word j from the front of some packets, oldest first: none where it is not written. -/
def wordAt (l : List Packet) (j : Nat) : Option BankWord :=
  match l with
  | [] => none
  | p :: r => if j < p.w then (if j < p.written then some (packetWord p j) else none) else wordAt r (j - p.w)

/-- Word address a of bank b (R93, R96): the word that an enabled queue of the bank keeps there. The words that no packet occupies are
read by nothing. -/
def bankWord (s : State) (b a : Nat) : Option BankWord :=
  match s.queues.find? fun e => s.on (CD_QST.EN_ACT e.1) && decide (s.qBank e.1 = b) && decide (s.get (CD_QCFG.BASE e.1) ≤ a) &&
      decide (a < s.get (CD_QCFG.BASE e.1) + s.qSize e.1) with
  | some e => wordAt e.2.pkts ((a - s.get (CD_QCFG.BASE e.1) + 2 * s.qSize e.1 - e.2.rd) % s.qSize e.1)
  | none => none

/-! ### Admission (R97, R100, R102) -/

/-- The write handshake completes: words reserved under the bank's code, order taken (R102, R108). [log 24: DEDUCED] -/
def qAdmit (s : State) (q : Nat) (p : Packet) : State :=
  let o := s.flow.next
  let s1 := (s.modQueue q fun x =>
    { x with
      wr := (x.wr + p.w) % (2 * s.qSize q)
      pkts := x.pkts ++ [{ p with order := o, body := s.freeCtr, secded := (s.get CD_PROT.SECDED).testBit (s.qBank q) }] }).modFlow
        fun d => { d with next := o + 1 }
  s1.freeNext.qRefresh q

/-- Outcome of a write request: admitted with its order, stalled, or discarded as oversize. -/
inductive Adm where
  | admitted (order : Nat) | stalled | oversize
deriving DecidableEq, Repr

/-- A producer asks queue q for the words of packet p. Several that stall on one queue are served in the order they came: the spec gives
none, and a packet that would fit waits behind an earlier one. [log 57: DESIGN CHOICE] -/
def qRequest (s : State) (q : Nat) (p : Packet) : State × Adm :=
  if s.on (CD_QST.EN_ACT q) && decide (s.qSize q < p.w) then (s.inc (R.CD_OVERSIZE_CNT q), .oversize)
  else if s.on (CD_QST.EN_ACT q) && (s.queue q).wait.isEmpty && decide (p.w ≤ s.qFree q) then
    (s.qAdmit q p, .admitted s.flow.next)
  else ((s.modQueue q fun x => { x with wait := x.wait ++ [p] }).qRefresh q, .stalled)

/-- The TT of Dn stalls on queue q for w words (R102). -/
def qStallTt (s : State) (q n w : Nat) : State :=
  (s.modQueue q fun x => { x with nak := (x.nak.filter fun e => !(e.1 == n)) ++ [(n, w)] }).qRefresh q

/-- Room for w words in an enabled queue with no producer before. -/
def qRoom (s : State) (q w : Nat) : Bool :=
  s.on (CD_QST.EN_ACT q) && (s.queue q).wait.isEmpty && decide (w ≤ s.qFree q)

/-- The first stalled producer is served when its words have become free, or turned away where its packet can never fit (R97, R102):
answers with the packet and its outcome. -/
def qGrant (s : State) (q : Nat) : State × Option (Packet × Adm) :=
  match (s.queue q).wait with
  | [] => (s, none)
  | p :: r =>
    if s.on (CD_QST.EN_ACT q) && decide (s.qSize q < p.w) then
      (((s.modQueue q fun x => { x with wait := r }).inc (R.CD_OVERSIZE_CNT q)).qRefresh q, some (p, .oversize))
    else if s.on (CD_QST.EN_ACT q) && decide (p.w ≤ s.qFree q) then
      ((s.modQueue q fun x => { x with wait := r }).qAdmit q p, some (p, .admitted s.flow.next))
    else (s, none)

/-! ### Reading and release -/

/-- Packets that are gone at the front of the queue free their words (R101, R109). [log 24: DEDUCED] -/
def freeFront (l : List Packet) : Nat × List Packet :=
  match l with
  | [] => (0, [])
  | p :: r => if p.gone then let x := freeFront r; (x.1 + p.w, x.2) else (0, p :: r)

/-- RD passes the packets that have gone. -/
def qRelease (s : State) (q : Nat) : State :=
  let f := freeFront (s.queue q).pkts
  (s.modQueue q fun x =>
    { x with rd := (x.rd + f.1) % (2 * s.qSize q), pkts := f.2, oldWords := x.oldWords - f.1 }).qRefresh q

/-- Change one packet. -/
def modPkt (s : State) (q o : Nat) (f : Packet → Packet) : State :=
  s.modQueue q fun x => { x with pkts := x.pkts.map fun p => if p.order = o then f p else p }

/-- A packet of the queue by its order. -/
def pktAt (s : State) (q o : Nat) : Option Packet := (s.queue q).pkts.find? fun p => p.order == o

/-- A packet leaves the queue. -/
def qDrop (s : State) (q o : Nat) : State := (s.modPkt q o fun p => { p with gone := true }).qRelease q

/-! ### Ends of red holds (R133) -/

/-- Packets of entry e that a hold kept are kept no longer: with no entry they are at most yellow (R119). [log 62: DEDUCED] -/
def freeHeld (s : State) (e : Nat) : State :=
  let free := fun (p : Packet) => if p.held && decide (p.entry = e + 1) then { p with held := false, colour := .yellow } else p
  { s with queues := s.queues.map fun x => (x.1, { x.2 with pkts := x.2.pkts.map free }) }

/-- Some holds end without ACK or ERDY (R133). -/
def holdsEnd (s : State) (out : Hold → Bool) : State :=
  (s.flow.holds.filter out).foldl (fun s h => s.freeHeld h.entry)
    (s.modFlow fun d => { d with holds := d.holds.filter fun h => !(out h) })

/-- The head of a queue: its first packet that has not left. -/
def qHead (s : State) (q : Nat) : Option Packet := (s.queue q).pkts.find? fun p => !p.gone

end State

end Sys2Proof.Machine
end

