-- ==== Sys2Proof/Machine/Svc.lean ====
section
/-!
DEFINITION. What the service engine prints and records (R537, R540, R559), held ports (R544), and the end of a line passed to Torik
(R547).
-/

namespace Sys2Proof.Machine

/-- Names of the status line (R537). -/
def RC.name (r : RC) : String :=
  match r with
  | .ok => "OK" | .wrongState => "WRONG_STATE" | .range => "RANGE" | .badWidth => "BAD_WIDTH" | .badAlign => "BAD_ALIGN"
  | .locked => "LOCKED" | .priv => "PRIV" | .pend => "PEND" | .guard => "GUARD" | .unmapped => "UNMAPPED"

/-- Upper-case hexadecimal digit. -/
def hexDigit (v : Nat) : Char := Char.ofNat (if v % 16 < 10 then 48 + v % 16 else 55 + v % 16)

/-- n hexadecimal digits of a value. -/
def hexText (v n : Nat) : String := String.ofList ((List.range n).reverse.map fun i => hexDigit (v / 16 ^ i))

/-- A 32-bit value as the console writes it. -/
def hexWord (v : Nat) : String := "0x" ++ hexText (v / 65536) 4 ++ "_" ++ hexText v 4

/-- XOR of a line's bytes (R540). -/
def lineXor (l : List Nat) : Nat := l.foldl (fun x c => x ^^^ c % 256) 0

/-- Numbers in decimal, with a space between each. -/
def numText (l : List Nat) : String :=
  match l with
  | [] => ""
  | [n] => toString n
  | n :: r => toString n ++ " " ++ numText r

namespace State

/-- A line of text, with its checksum under OSP 1.1 (R540). -/
def conLine (s : State) (text : String) : State :=
  s.emit (.con (if s.get SV_ST.OSP = 0x11 then text ++ "*" ++ hexText (lineXor (text.toList.map (·.toNat))) 2 else text))

/-- A line of numbers. [log 40: DESIGN CHOICE] -/
def conNums (s : State) (l : List Nat) : State := s.conLine (numText l)

/-- The prompt (R537). -/
def conPrompt (s : State) : State := s.emit (.con "kln> ")

/-- Status OK, and the prompt. -/
def conOk (s : State) : State := (s.conLine "OK").conPrompt

/-- Status ERR with its name, and the prompt; the command counts as ended with ERR (R558). -/
def conErr (s : State) (name : String) : State := (s.conLine ("ERR " ++ name)).conPrompt.inc R.SV_CMD_REJ_CNT

/-- The status line of a result code. -/
def conRc (s : State) (r : RC) : State := if r = .ok then s.conOk else s.conErr r.name

/-- A SERVICE record (R559). [log 43: DEDUCED] -/
def svcRec (s : State) (code arg1 : Nat) : State := s.logRec 0x0C code s.svc.opened arg1

/-! ### Lines passed to Torik (R547) -/

/-- A passed line is ended by its thread: ACK prints OK, STALL prints ERR WRONG_STATE. -/
def passedEnd (s : State) (tag : Nat) (stall : Bool) : State :=
  if s.svc.passed = some tag then
    let s1 := s.modSvc fun v => { v with passed := none }
    if stall then s1.conErr "WRONG_STATE" else s1.conOk
  else s

/-- The passed line that runs is given up: its entry leaves mailbox 4, and it is answered ERR. -/
def passedDrop (s : State) (name : String) : State :=
  match s.svc.passed with
  | some tag =>
    ((s.modSvc fun v => { v with passed := none }).modTk fun k =>
      { k with mbox := Tbl.set k.mbox [] 4 ((Tbl.get k.mbox [] 4).filter fun m => !(m.tag == tag)) }).conErr name
  | none => s

/-! ### Held ports (R544) -/

/-- The session holds Dn. -/
def held (s : State) (n : Nat) : Bool := (s.get (SV_HOLD.HOLD (n / 32))).testBit (n % 32)

/-- Held ports. -/
def heldPorts (s : State) : List Nat := (List.range 96).filter s.held

/-- SV_HOLD's bit of Dn, and SV_ST.HELD. -/
def setHeld (s : State) (n : Nat) (on : Bool) : State :=
  let w := s.get (SV_HOLD.HOLD (n / 32))
  let clr := if w.testBit (n % 32) then w - 2 ^ (n % 32) else w
  let s1 := s.set (SV_HOLD.HOLD (n / 32)) (if on then clr + 2 ^ (n % 32) else clr)
  s1.set SV_ST.HELD s1.heldPorts.length

/-- Dn is freed with a FREE record; `refused` says that its restoring ON was. -/
def freeHold (s : State) (n : Nat) (refused : Bool) : State :=
  ((s.setHeld n false).modSvc fun v => { v with wasOff := v.wasOff.filter fun m => !(m == n) }).svcRec 0x04 (n + refused.toNat * 2 ^ 31)

/-- Dn is to receive ON when it is freed: not commanded off when it was held, and commanded off now. [log 41: DEDUCED] -/
def freeRestores (s : State) (n : Nat) : Bool := !(s.svc.wasOff.contains n) && s.on (PP_ST.CMD_OFF n)

/-- SAFE entry ends a command in progress with ERR ABORTED and frees every port; the session stays open (R544, R546, R555).
[log 41: DEDUCED] -/
def svcSafe (s : State) : State :=
  s.heldPorts.foldl (fun s n =>
    (if s.freeRestores n then s.set (PP_ST.CMD_OFF n) 0 else s).freeHold n false) (s.passedDrop "ABORTED")

end State

end Sys2Proof.Machine
end

