-- ==== Sys2Proof/Machine/Path.lean ====
section
/-!
DEFINITION. Power-path operations other blocks start: dropping a contract (R602), the soft and hard off (R272, R273), the
end of a discharge, and the port state that follows a path (R66, R69).
-/

namespace Sys2Proof.Machine

/-! Codes of P_PORTST.STATE (R66), PP_ST.STATE and PP_ST.CAUSE (R281), P_TCST.TC_STATE (R208). -/

namespace Ps
abbrev notReady : Nat := 0
abbrev poweredOff : Nat := 1
abbrev disconnected : Nat := 2
abbrev disabled : Nat := 3
abbrev resetting : Nat := 4
abbrev enabled : Nat := 5
abbrev suspended : Nat := 6
abbrev hidden : Nat := 7
abbrev paLost : Nat := 8
end Ps

namespace Pp
abbrev off : Nat := 0
abbrev precheck : Nat := 1
abbrev slope : Nat := 2
abbrev enhance : Nat := 3
abbrev on : Nat := 4
abbrev slew : Nat := 5
abbrev discharge : Nat := 6
abbrev retryWait : Nat := 7
abbrev latched : Nat := 8
abbrev stuck : Nat := 9
abbrev sink : Nat := 10
end Pp

namespace Trip
abbrev fast : Nat := 1
abbrev oc : Nat := 2
abbrev ov : Nat := 3
abbrev uv : Nat := 4
abbrev gateStuck : Nat := 5
abbrev fetShort : Nat := 6
end Trip

namespace State

/-- The PA die of port k: 0 or 1 (R14). -/
def dieOf (k : Nat) : Nat :=
  if k < 48 then 0 else if k < 96 then 1 else if k < 98 then 0 else 1

/-- The supply group of port k (R21). -/
def groupOf (k : Nat) : Nat := if k < 96 then k / 8 else 12

/-- The die of port k drives its pins: its enable line is high, and it is neither lost nor without supply. -/
def dieUp (s : State) (k : Nat) : Bool :=
  s.pins.paEnable.getD (dieOf k) false && !(s.pins.paLost.getD (dieOf k) false)

/-- STATE of power path k. -/
def ppState (s : State) (k : Nat) : Nat := s.get (PP_ST.STATE k)

/-- Write PP_ST[k].STATE, with its port change event (R326). -/
def setPp (s : State) (k v : Nat) : State := s.setPort k (PP_ST.STATE k) v

/-- VBUS at the connector reads below vSafe0V, 0.8 V (R261). -/
def vbusLow (s : State) (k : Nat) : Bool := decide (s.get (PP_MEAS.VBUS k) < 80)

/-- Dk is powered off by SHED step 4 (R302). -/
def shedOff (s : State) (k : Nat) : Bool := s.bsn.offOrder.contains k

/-- A Hard Reset sequence holds the path off (R261). -/
def hrHolds (s : State) (k : Nat) : Bool :=
  match (s.eng k).hr with
  | .discharge => true
  | .srcRecover => true
  | _ => false

/-- CAUSE of a DISCONNECTED port (R69). DEDUCED: a held Hard Reset sequence shows first, then steam hold, seating, a
latched path and a command off (R237, R186, R269, R68). [log 19: DEDUCED] -/
def portCause (s : State) (n : Nat) : Nat :=
  if s.hrHolds n then 9
  else if (s.port n).steam then 1
  else if s.get (P_TCST.TC_STATE n) = 5 then 2
  else if s.ppState n = Pp.latched then 3
  else if s.on (PP_ST.CMD_OFF n) || s.shedOff n then 4
  else 0

/-- CAUSE follows its conditions while the port is DISCONNECTED. -/
def refreshCause (s : State) (n : Nat) : State :=
  if n < 96 ∧ s.get (P_PORTST.STATE n) = Ps.disconnected then s.set (P_PORTST.CAUSE n) (s.portCause n) else s

/-- Write P_PORTST[n].STATE, with its port change event; CAUSE follows. -/
def setPs (s : State) (n v : Nat) : State :=
  let s1 := s.setPort n (P_PORTST.STATE n) v
  if v = Ps.disconnected then s1.refreshCause n
  else if v = Ps.hidden then s1 else s1.set (P_PORTST.CAUSE n) 0

/-- Remove Dn's entries from every tree's address-routing table, and its address-0 target (R51, R70). -/
def dropRoutes (s : State) (n : Nat) : State :=
  { s with ups := s.ups.map fun e =>
      (e.1, { e.2 with
        routes := e.2.routes.filter (fun r => !(r.2 == Target.port n))
        target0 := if e.2.target0 = some (Target.port n) then none else e.2.target0 }) }

/-- Endpoint entries in use, found among the stored fields. -/
def validEps (s : State) : List Nat :=
  s.flds.filterMap fun e =>
    let a := e.1 / 32
    if e.1 % 32 = 31 ∧ 0xC0000 ≤ a ∧ a < 0xC4000 ∧ a % 8 = 0 ∧ e.2 = 1 then some ((a - 0xC0000) / 8) else none

/-- VALID is cleared in every endpoint entry of Dn (R118); what was captured of its devices is forgotten. -/
def dropEps (s : State) (n : Nat) : State :=
  (s.validEps.foldl (fun s e => if s.get (EP_KEY.PORT e) = n then s.set (EP_KEY.VALID e) 0 else s) s).modPort n fun p => { p with devs := [] }

/-- Holds of the endpoint entries of Dn end without ACK or ERDY (R133). -/
def dropHolds (s : State) (n : Nat) : State :=
  s.holdsEnd fun h => s.get (EP_KEY.PORT h.entry) == n

/-- Splits leave Dn's TT, and their packets leave its queue. -/
def ttDrop (s : State) (n : Nat) (out : Split → Bool) : State :=
  let q := s.get (P_QSEL.TTQ n)
  let t := s.tt n
  let gone := (t.per ++ t.np).filter out
  let s1 := s.modTt n fun t => { t with per := t.per.filter fun x => !(out x), np := t.np.filter fun x => !(out x) }
  gone.foldl (fun s x => s.qDrop q x.order) s1

/-- The TT transactions of Dn go with its device. -/
def dropSplits (s : State) (n : Nat) : State :=
  let q := s.get (P_QSEL.TTQ n)
  let s1 := s.ttDrop n fun _ => true
  if (s1.queue q).nak.any fun e => e.1 == n then
    (s1.modQueue q fun x => { x with nak := x.nak.filter fun e => !(e.1 == n) }).qRefresh q
  else s1

/-- The device on Dn is gone: DISCONNECTED with C_PORT_CONNECTION; its address, routing entry, endpoint entries, holds and held
signalling removed (R66, R71, R118, R133); a sleeping port's change wakes its tree where that is allowed (R159, R173). -/
def portGone (s : State) (n : Nat) : State :=
  if decide (Ps.disabled ≤ s.get (P_PORTST.STATE n)) && decide (s.get (P_PORTST.STATE n) ≤ Ps.suspended) then
    let s0 := s.portChangeWake n 1 (s.on (P_PORTST.SS_LINK n))
    let s1 := ((s0.set (P_PORTST.SPEED n) 0).set (P_PORTST.SS_LINK n) 0).set (P_PORTST.ADDR_VALID n) 0
    let s2 := ((s1.set (P_PORTST.ADDR n) 0).stallClear n).set (P_LPST.SUSP_KIND n) 0
    let s3 := if s.on (P_PORTST.SS_LINK n) then s2.setSs n Ls.rxDetect else s2
    (((s3.modPort n fun p => { p with cConn := true, rst := 0, warm := false, resume := 0, l1Ask := none, devK := false,
                                      exiting := false, fnWake := false, deferred := [], gen := 0, prefetch := [] }).dropRoutes
      n).dropHolds n |>.dropEps n |>.dropSplits n).setPs n Ps.disconnected
  else s.refreshCause n

/-- Ports presented in tree u. -/
def portsIn (s : State) (u : Nat) : List Nat :=
  s.ports.filterMap fun e => match e.2.slot with
    | some (u', _, _) => if u' = u then some e.1 else none
    | none => none

/-- The USB 3 hubs of tree u disappear (R44, R82): every downstream SuperSpeed link of the tree goes to SS.Disabled with its
terminations off, and what was connected through them is gone. -/
def usb3Off (s : State) (u : Nat) : State :=
  let s1 := (s.set (U_TREEST.USB3_HUB u) 0).modUp u fun x =>
    { x with depth := 0, bhDepth := [], u1En := false, u2En := false, ssRoutes := [] }
  if hasSs s.variant then
    (s.portsIn u).foldl (fun s n =>
      ((if s.on (P_PORTST.SS_LINK n) then s.portGone n else s).setSs n Ls.disabled).emit (.ss n .termOff 0)) s1
  else s1

/-- The port loses its USB terminations with PGOOD (R264); upstream ports have none here. -/
def termsOff (s : State) (k : Nat) : State := if k < 96 then (s.portGone k).modPort k fun p => { p with on2 := false } else s

/-! ### Contracts (R602) -/

/-- Discard a staged PD_NEXT[k] (R484). -/
def dropNext (s : State) (k : Nat) : State :=
  ((s.unstage (PD_NEXT.KIND k)).unstage (PD_NEXT.VOLT k)).unstage (PD_NEXT.CURR k)

/-- The contract of port k is dropped, and collision avoidance ends with it (R217, R602). [log 19: DEDUCED] -/
def dropContract (s : State) (k : Nat) : State :=
  let s1 := ((((s.set (PD_ST.CONTRACT k) 0).set (PD_ST.KIND k) 0).set (PD_ST.EPR_MODE k) 0).set (PD_ST.PDO_IDX k) 0).set (PD_ST.SINKTX k) 0
  (((s1.set (PD_CONTRACT.KIND k) 0).set (PD_CONTRACT.VOLT k) 0).set (PD_CONTRACT.CURR k) 0).dropNext k

/-- Put an entry the engine posts itself into the receive FIFO, or hold it (R216); its event is posted when it enters. An engine that is
not enabled posts none (R245). -/
def pdPostEntry (s : State) (k kind cause : Nat) : State :=
  let e := [kind * 2 ^ 29 + cause, 0, 0, 0, 0, 0, 0, 0]
  let g := s.eng k
  if !(s.on (PD_CFG.EN k)) then s
  else if g.rx.length < 4 && g.held.isEmpty then
    ((s.modEng k fun g => { g with rx := g.rx ++ [e] }).set (PD_ST.RX_CNT k) (g.rx.length + 1)).postPd k
  else if g.held.any (fun h => h.headD 0 / 2 ^ 29 == kind) then
    (s.modEng k fun g =>
      { g with held := g.held.map fun h => if h.headD 0 / 2 ^ 29 = kind then e else h }).inc (R.PD_RX_OVF_CNT k)
  else s.modEng k fun g => { g with held := g.held ++ [e] }

/-- A running transition ends aborted, with its kind 6 entry (R268, R272): reason 2 TRIP, 3 OFF. -/
def abortTransition (s : State) (k reason : Nat) : State :=
  if s.on (PD_ST.IN_TRANS k) then
    ((((s.set (PD_ST.IN_TRANS k) 0).set (PD_ST.ABORTED k) 1).modEng k fun g => { g with trans := .none })).pdPostEntry
      k 6 reason
  else s

/-! ### Turning off (R272, R273) -/

/-- The path's timers and ramp end (R264, R268). -/
def pathQuiet (s : State) (k : Nat) : State :=
  (((s.modPath k fun p =>
    { p with rampDone := false, oc := false, uv := false, ov := false, ocGood := 0, uvGood := 0, ovGood := 0,
             trim := 0, retrying := false }).set (PP_ST.FTIMER k) 0).set (PP_ST.TRIM_LIM k) 0).set (PP_ST.PGOOD k) 0

/-- Step 1 of a hard off: GATE falls, the code becomes 0, STATE reads DISCHARGE (R273). -/
def hardOff (s : State) (k : Nat) (fin : DisEnd) : State :=
  ((((s.pathQuiet k).modPath k fun p => { p with gate := .isp, soft := false, disEnd := fin, target := 0, nominal := 0 }).set
    (PP_ST.VSET_CODE k) 0).setPp k Pp.discharge).termsOff k

/-- A path in one of the states that drive its gate or its reference. -/
def pathLive (s : State) (k : Nat) : Bool :=
  decide (Pp.precheck ≤ s.ppState k) && decide (s.ppState k ≤ Pp.slew)

/-- A soft off (R272 step 1): contract dropped, transition aborted, reference slewing to 0 with GATE still high. A path that
is already discharging only changes what it ends in, but for STUCK (R263); one that waits or is off becomes OFF. -/
def softOff (s : State) (k : Nat) : State :=
  let s1 := (s.abortTransition k 3).dropContract k
  if s.pathLive k then
    ((((s1.pathQuiet k).modPath k fun p =>
      { p with soft := true, disEnd := .off, oldTarget := p.target, target := 0, nominal := 0 }).set (PP_ST.FT_LVL k) 1).setPp
        k Pp.discharge).termsOff k
  else if s.ppState k = Pp.discharge then s1.modPath k fun p => { p with disEnd := if p.disEnd = .stuck then .stuck else .off }
  else if s.ppState k = Pp.retryWait then (s1.setPp k Pp.off).refreshCause k
  else s1.refreshCause k

/-- The retry count returns to i = 1 (R270). -/
def retryReset (s : State) (k : Nat) : State := s.set (PP_ST.RETRY_USED k) 0

/-- The path becomes OFF from LATCHED or RETRY_WAIT by a re-seat (R189, R270). -/
def reseat (s : State) (k : Nat) : State :=
  let s1 := s.retryReset k
  if s.ppState k = Pp.latched then ((s1.setPp k Pp.off).fltFall 26 k).refreshCause k else s1

/-- PWR_OK of Dn falls: the path turns off as for a command off, a RETRY_WAIT ends, and a discharge ends in OFF
(R186, R188, R270). -/
def pwrOkFall (s : State) (n : Nat) : State :=
  if s.on (P_TCST.PWR_OK n) then (s.set (P_TCST.PWR_OK n) 0).softOff n else s

/-! ### What the ROM program sets as links train and contracts change (R151, R277) -/

/-- The ROM program's policy serves port k: no image or an extending one runs, and the port is not released (R38, R388). -/
def romServes (s : State) (k : Nat) : Bool := s.boot.rom && !(s.boot.released.contains k)

/-- Line rate of a SuperSpeed link by generation, in 1/256 byte per shaper tick (R151). -/
def romRate (gen : Nat) : Nat := if gen = 1 then 0x026200 else if gen = 3 then 0x097400 else 0x04BA00

/-- The link of egress x trains at a new speed, Gen 2 being the one the program began with: IDLE_SLOPE by its rate and RES by the ceiling,
staged as any write (R151). -/
def romSlope (s : State) (x gen : Nat) : State :=
  if s.boot.rom && decide (Tbl.get s.boot.romGen 2 x ≠ gen) then
    ((s.stage (TM_SH_SLOPE.IDLE_SLOPE x) (romRate gen)).stage (TM_EG_CFG.RES x) 90).modBoot fun b =>
      { b with romGen := Tbl.set b.romGen 2 x gen }
  else s

/-- FT_RUN for a contract current of i mA (R277): twice the current within 4.0 A to 12.0 A, in 0.25 mV of shunt voltage, at most the
field's limit (R279). -/
def romFtRun (s : State) (k i : Nat) : Nat :=
  min 0xF0 ((max 4000 (min 12000 (2 * i)) * max 0x0A (min 0x64 (s.get (PP_STAGE.RSHUNT k))) + 1250) / 2500)

/-- ST_LIMIT for a contract current of i mA (R277). -/
def romStLimit (i : Nat) (pps : Bool) : Nat := if pps then i + 500 else i * 6 / 5

/-- PP_TRIP[k] for a contract current (R277): with `raise`, limits only rise, as at step 1 of R228. -/
def romTrip (s : State) (k i : Nat) (pps raise : Bool) : State :=
  if s.romServes k then
    let ft := s.romFtRun k i; let st := romStLimit i pps
    ((s.set (PP_TRIP.FT_RUN k) (if raise then max ft (s.get (PP_TRIP.FT_RUN k)) else ft)).set (PP_TRIP.ST_LIMIT k)
      (if raise then max st (s.get (PP_TRIP.ST_LIMIT k)) else st)).set (PP_TRIP.FT_RAMP k) 0x50
  else s

/-- Current of the implicit contract in mA (R277). -/
def implicitCurrent (s : State) (k : Nat) : Nat :=
  if k < 96 then (match s.get (P_TC_CFG.RP_ADV k) with | 1 => 1500 | 2 => 3000 | _ => 900) else 3000

end State

end Sys2Proof.Machine
end

