-- ==== Sys2Proof/Machine/Safe.lean ====
section
/-!
DEFINITION. Entry to SAFE (R455, R456, R19, R303) and the beginning of a reset (R440 to R442), as shared operations.
-/

namespace Sys2Proof.Machine

/-! Codes of G_SAFE_ST.ENTRY (R461). -/

namespace Entry
abbrev temp : Nat := 1
abbrev clock : Nat := 2
abbrev fault : Nat := 3
abbrev cmd : Nat := 4
abbrev pll : Nat := 5
abbrev rom : Nat := 6
end Entry

namespace State

/-- Apply an operation to every port k of R502. -/
def allPorts (s : State) (f : State → Nat → State) : State := (List.range 100).foldl f s

/-- The CC pins of Uu fall back to passive Rd: no Rp, no VCONN, no source role (R18); a partner that saw Rp sees a detach. -/
def ccPassive (s : State) (u : Nat) : State :=
  ((s.set (PD_ST.PWR_ROLE (96 + u)) 0).modUp u fun x =>
    { x with rp := false, vconn := false, attached := x.attached && !(s.on (PD_ST.PWR_ROLE (96 + u))) }).modEng (96 + u) fun g =>
      { g with srcDefault := false }

/-- Both enable lines fall: every live path starts a hard off, every CC pin of a downstream port loses Rp and VCONN, and those of an
upstream port fall back to Rd (R17 to R19, R273). [log 19: DEDUCED] -/
def dropEnables (s : State) : State :=
  (s.modPins fun p => { p with paEnable := [false, false] }).allPorts fun s k =>
    let s1 := if s.pathLive k then s.hardOff k .off
      else if s.ppState k = Pp.discharge then s.modPath k fun p => { p with gate := .isp, soft := false } else s
    let s2 := (s1.abortTransition k 2).dropContract k
    if k < 96 then s2.set (P_TCST.VCONN_ON k) 0 else s2.ccPassive (k - 96)

/-- Uu's pull-up and terminations are removed; its host or peer sees a detach or a link loss, and a KCL link goes DOWN
(R441, R456). -/
def upTermsOff (s : State) (u : Nat) : State :=
  let s1 := (s.emit (.usb2 (96 + u) .disconnect)).emit (.ss (96 + u) .termOff 0)
  let s2 := if s.get (U_TREEST.LINK u) = 4 then s1.set (KL_LST.STATE u) 7 else s1
  (((s2.setPort (96 + u) (U_TREEST.LINK u) 0).usb3Off u).setPort (96 + u) (U_LPST.SS_LS u) 5).modUp u fun x => { x with gen := 0 }

/-- Every present upstream port. -/
def allUps (s : State) (f : State → Nat → State) : State := (List.range (usPorts s.variant)).foldl f s

/-- A thread stops at its boundary; one in STALL stops when its operation completes (R314, R315). -/
def haltThread (s : State) (t : Nat) : State :=
  s.modThread t fun h =>
    match h.state with
    | .run => { h with state := .halt }
    | .wait => { h with state := .halt }
    | .stall => { h with after := match h.after with | .stop => .stop | _ => .halt }
    | _ => h

/-- Basin in SAFE: every charge, grant and queue entry goes, and the program level becomes 0 (R303). -/
def basinClear (s : State) : State :=
  ((s.allPorts fun s k => s.set (BSN_CHG.CHARGE k) 0).modBsn fun b => { b with uq := [] }).set BSN_SHED_CTL.LEVEL 0

/-- UPDATE ends without END (R386); a flash operation in progress completes first. [log 30: DEDUCED] -/
def updateAbort (s : State) : State :=
  if s.on G_UPD_ST.ACTIVE then
    if s.on G_UPD_ST.BUSY then s.modBoot fun b => { b with abortAfter := true }
    else (((s.set G_UPD_ST.ACTIVE 0).set G_UPD_ST.ABORTED 1).set G_UPD_ST.OWNER 0).modBoot fun b => { b with owner := none }
  else s

/-- A running SELFTEST is aborted (R554). [log 47: DEDUCED] -/
def selftestAbort (s : State) : State :=
  if s.mode = .selftest then (s.set G_SELFTEST_RES.RESULT 3).set G_SELFTEST_RES.FIRST_FAIL 0 else s

/-- An armed injection ends as EXPIRED when the part leaves SERVICE and SELFTEST (R526). -/
def injExpire (s : State) : State := if s.get FC_INJ_ST.STATE = 1 then s.set FC_INJ_ST.STATE 3 else s

/-- Entry to SAFE by cause `entry`, with source `fsrc` for a FAULT entry (R455, R456). A part already in SAFE stays as it is:
ENTRY records the first cause. -/
def safeEntry (s : State) (entry fsrc : Nat) : State :=
  if s.mode = .safe ∨ s.alive = false then s
  else
    let s1 := ((s.selftestAbort.set G_SAFE_ST.ENTRY entry).set G_SAFE_ST.FSRC fsrc).inc R.G_SAFE_CNT
    let s2 := ((s1.enterMode .safe).setDormant false).dropEnables.allUps upTermsOff
    let s3 := ((List.range 64).foldl haltThread s2).basinClear.updateAbort.injExpire.svcSafe
    ((s3.set FC_VENT_ST.RUN 0).modBoot fun b => { b with confirmWait := false }).modeNote s

/-- Kinds of reset (R440). -/
abbrev rstPor : Nat := 0
abbrev rstPin : Nat := 1
abbrev rstBoot : Nat := 2
abbrev rstCmd : Nat := 3
abbrev rstRelease : Nat := 4
abbrev rstSelftest : Nat := 5

/-- Carry a field over from before the reset. -/
def keep (s old : State) (f : Fld) : State := s.set f (old.get f)

/-- Fuse fields and die ID, which no reset changes (R383, R442). -/
def keepFuses (s old : State) : State :=
  (((((List.range 8).foldl (fun s i => s.keep old (G_FUSE_KEY.HASH i)) s).keep old G_FUSE_CFG.SIG_REQ).keep old
    G_FUSE_RB.COUNT).keep old G_DIE_ID_LO.ID).keep old G_DIE_ID_HI.ID

/-- What the outside world is doing to a downstream port: no reset changes it. -/
def Port.world (p : Port) : Port := { ({} : Port) with dev := p.dev, devSs := p.devSs, seatRaw := p.seatRaw }

/-- Every block at its reset state, in HOLD, with what no reset changes (R441, R442). -/
def resetBase (s : State) : State :=
  { resetOf s.variant with
    mode := .hold
    pins := { s.pins with clockAbsent := false, pllLocked := false, paEnable := [false, false], paLost := [false, false] }
    threads := []
    ports := (s.ports.map fun e => (e.1, Port.world e.2)).filter fun e => decide (e.2 ≠ ({} : Port))
    boot := { ({} : Boot) with flash := s.boot.flash, fuseLock := s.boot.fuseLock }
    jtag := s.jtag
    freeCtr := s.freeCtr
    out := s.out
    pending := s.pending }

/-- Counters and the event log are kept over every reset but a power-on reset (R492, R494). -/
def keepCounts (s old : State) : State :=
  { s with cnts := old.cnts, bytes := old.bytes, log := { old.log with recent := [] } }

/-- A reset of the given kind begins (R440 to R442): every block at its reset state, in HOLD, but for what the kind keeps. -/
def resetBegin (s : State) (kind : Nat) : State :=
  let s1 := s.resetBase.keepFuses s
  let s2 := if kind = rstPor then s1
    else (((s1.keepCounts s).keep s G_SAFE_ST.ENTRY).set G_RST_CAUSE.RST_CNT (min (s.get G_RST_CAUSE.RST_CNT + 1) 255)).set
      G_RST_CAUSE.LAST kind
  let s3 := if kind = rstCmd ∨ kind = rstRelease ∨ kind = rstSelftest then
      (s2.keep s G_SELFTEST_RES.RESULT).keep s G_SELFTEST_RES.FIRST_FAIL else s2
  let s4 := if kind = rstPor ∨ kind = rstPin then s3
    else ((s3.keep s G_BOOT_ST.FAIL_A).keep s G_BOOT_ST.FAIL_B).keep s G_BOOT_ST.BOOT_RST
  (List.range (usPorts s.variant)).foldl
    (fun s u => (s.emit (.usb2 (96 + u) .disconnect)).emit (.ss (96 + u) .termOff 0)) s4

end State

end Sys2Proof.Machine
end

