-- ==== Sys2Proof/Machine/Fault.lean ====
section
/-!
DEFINITION. The onset of a fault source: level, count, record, reaction class, VENT and SAFE (R513 to R521, R527 to R529).
-/

namespace Sys2Proof.Machine

namespace State

/-- Sources whose error is an event (type E of R513); the others are levels. -/
def eventSource (i : Nat) : Bool :=
  [10, 11, 12, 13, 14, 16, 17, 18, 19, 20, 21, 22, 23, 27, 28, 29, 31, 38, 41, 42, 43, 45].contains i

/-- The check of this instance is the armed injection (R525, R527). [log 38: DEDUCED] -/
def injMatches (s : State) (i inst : Nat) : Bool :=
  decide (s.get FC_INJ_ST.STATE = 1) && decide (s.get FC_INJ_ST.SRC = i) && decide (s.flt.injInst = inst)

/-- VENT is stopped by source `i` (R517, R519, R531): a VENT that ran is stopped by it and counted, and the stop is latched unless
VENT_AUTO is 1. -/
def ventStop (s : State) (i : Nat) : State :=
  let s2 := if s.on FC_VENT_ST.RUN then ((s.set FC_VENT_ST.RUN 0).inc R.FC_VENT_STOP_CNT).set FC_VENT_ST.STOP_SRC i else s
  (if s.on FC_CFG.VENT_AUTO then s2 else s2.set FC_VENT_ST.LATCHED 1).modFlt fun f => { f with ventWait := false }

/-- The source is asserted by instance `inst`. -/
def fltAssert (s : State) (i inst : Nat) : State :=
  if eventSource i then s.modFlt fun f => { f with events := if f.events.contains i then f.events else i :: f.events }
  else s.modFlt fun f => { f with levels := if f.levels.contains (i, inst) then f.levels else (i, inst) :: f.levels }

/-- An onset of a level source's instance, or an event of an event source (R513): asserted, counted, recorded, and its
reaction class taken. An injection held back under R529 neither stops VENT nor enters SAFE. F00, F01 and F03 reach SAFE
through their own paths (R516), which their callers take. [log 11: DEDUCED] -/
def faultOnset (s : State) (i inst detail : Nat) : State :=
  if eventSource i = false ∧ s.flt.levels.contains (i, inst) then s
  else
    let inj := s.injMatches i (if i = 10 ∨ i = 12 then detail / 4 else inst)
    let back := inj && !(s.on FC_INJ_PROPAGATE.PROPAGATE)
    let c := s.fltClass i
    let s1 := if inj then (s.set FC_INJ_ST.STATE 2).inc R.FC_INJ_CNT else s
    let s2 := (s1.fltAssert i inst).modFlt fun f =>
      { f with heldBack := if back then (if f.heldBack.contains i || s.fltOn i then f.heldBack else i :: f.heldBack)
                           else f.heldBack.filter (fun j => !(j == i)) }
    let s3 := (s2.inc (R.FC_SRC_CNT i)).logRec 0x0A i inst (inj.toNat * 2 ^ 31 + c * 2 ^ 29 + detail % 2 ^ 28)
    let s4 := if 1 ≤ c then s3.postRouted 12 else s3
    let s5 := if 2 ≤ c && !back then s4.ventStop i else s4
    if 3 ≤ c && !back && decide (i ≠ 0 ∧ i ≠ 1 ∧ i ≠ 3) then s5.safeEntry Entry.fault i else s5

/-- A REGISTER record for an access, with the master code and a peer's chip (R494). -/
def regRec (s : State) (code addr : Nat) (m : Master) (extra : Nat) : State :=
  s.logRec 0x01 code addr (m.code + extra + match m with | .peer c => c % 4096 * 2 ^ 16 | _ => 0)

/-- The same for a check that no master's access caused, whose record has no master code (R480, R481). [log 53: DESIGN CHOICE] -/
def regRecBy (s : State) (code addr : Nat) (m : Option Master) : State :=
  match m with
  | some m => s.regRec code addr m 0
  | none => s.logOpen 0x01 code addr

/-- Count in G_ACC_ERR_CNT or G_UNMAPPED_CNT: F43 (R513), with its record (R494). -/
def accErr (s : State) (cntr code addr : Nat) (m : Master) : State :=
  ((s.inc cntr).regRec code addr m 0).faultOnset 43 m.code 0

/-- Count in G_PRIV_VIOL_CNT or G_GUARD_FAIL_CNT: F42 (R513), with its record (R488). -/
def privViol (s : State) (cntr code addr : Nat) (m : Master) : State :=
  ((s.inc cntr).regRec code addr m 0).faultOnset 42 m.code 0

end State

end Sys2Proof.Machine
end

