-- ==== Sys2Proof/Machine/Queue.lean ====
section
/-!
DEFINITION. Caldera queues (R96 to R114): flush, configuration and protection codes; and the endpoint table (R116 to R119).
-/

namespace Sys2Proof.Machine

namespace State

/-! ### Flush (R109, R110) -/

/-- A flush request: every packet whose egress has not begun is to go. A request during a pending flush shares its boundary. -/
def qFlush (s : State) (q : Nat) : State :=
  if s.on (CD_QST.FLUSH_BUSY q) then s
  else ((s.modQueue q fun x =>
      { x with bound := s.flow.next, pkts := x.pkts.map fun p => if p.started ∨ p.gone then p else { p with doomed := true } }).set
    (CD_QST.FLUSH_BUSY q) 1).set (CD_QST.FLUSH_DONE q) 0

/-- Queues found enabled, with any kind of state. -/
def activeQueues (s : State) : List Nat :=
  s.flds.filterMap fun e =>
    let a := e.1 / 32
    if e.1 % 32 = 31 ∧ 0x80004 ≤ a ∧ a < 0x88004 ∧ (a - 0x80004) % 0x40 = 0 ∧ e.2 = 1 then some ((a - 0x80004) / 0x40) else none

/-- Queues with CFG_ERR. [log 24: DEDUCED] -/
def badQueues (s : State) : List Nat :=
  s.flds.filterMap fun e =>
    let a := e.1 / 32
    if e.1 % 32 = 30 ∧ 0x80004 ≤ a ∧ a < 0x88004 ∧ (a - 0x80004) % 0x40 = 0 ∧ e.2 = 1 then some ((a - 0x80004) / 0x40) else none

/-- The configuration of q keeps R96. -/
def qCfgOk (s : State) (q : Nat) : Bool :=
  let sz := s.qSize q; let b := s.get (CD_QCFG.BASE q)
  decide (s.get (CD_QCFG.SIZE q) ≤ 9) && decide (b % sz = 0) && decide (b + sz ≤ 49152) &&
    s.activeQueues.all fun r => r == q || decide (s.qBank r ≠ s.qBank q) ||
      decide (b + sz ≤ s.get (CD_QCFG.BASE r)) || decide (s.get (CD_QCFG.BASE r) + s.qSize r ≤ b)

/-- EN of q is considered (R99): a valid configuration enables it with both pointers 0, an invalid one sets CFG_ERR. Nothing comes
of it before CALDERA is ready (R449). [log 24: DEDUCED] -/
def qConsider (s : State) (q : Nat) : State :=
  if s.on (CD_QST.EN_ACT q) || !(s.on G_READY.CALDERA) then s
  else if !(s.on (CD_QCFG.EN q)) then s.set (CD_QST.CFG_ERR q) 0
  else if s.qCfgOk q then
    (((s.set (CD_QST.CFG_ERR q) 0).set (CD_QST.EN_ACT q) 1).modQueue q fun x =>
      { x with wr := 0, rd := 0, pkts := [], oldWords := 0 }).qRefresh q
  else s.set (CD_QST.CFG_ERR q) 1

/-- A packet begun before the pending flush's request is still being written (R109): B is its end. -/
def flushWaits (s : State) (q : Nat) : Bool :=
  (s.queue q).pkts.any fun p => decide (p.order < (s.queue q).bound) && !p.gone && decide (p.written < p.w)

/-- Boundary B of a pending flush: the packets that are to go are counted and skipped, their holds end, and a queue whose EN is 0
is disabled (R99, R109, R133). Where EN has been written back to 1 by then the queue stays enabled, with its pointers as they are.
[log 24: DEDUCED; log 57: DESIGN CHOICE] -/
def qFlushEnd (s : State) (q : Nat) : State :=
  if s.on (CD_QST.FLUSH_BUSY q) then
    let out := (s.queue q).pkts.filter fun p => p.doomed && !p.gone
    let s1 := (s.modQueue q fun x =>
      { x with pkts := x.pkts.map fun p => if p.doomed then { p with gone := true, doomed := false } else p }).incBy
        (R.CD_FLUSH_DISC_CNT q) out.length
    let s2 := s1.holdsEnd fun h => out.any fun p => h.pkt == some (q, p.order)
    let s3 := ((s2.qRelease q).set (CD_QST.FLUSH_BUSY q) 0).set (CD_QST.FLUSH_DONE q) 1
    if s.on (CD_QST.EN_ACT q) && !(s.on (CD_QCFG.EN q)) then
      let s4 := s3.set (CD_QST.EN_ACT q) 0
      s4.badQueues.foldl qConsider s4
    else s3
  else s

/-- A write of CD_QCFG[q] (R98, R99): a change of BANK, SIZE or BASE of an active queue is refused; EN = 0 requests a flush. -/
def wrQcfg (s : State) (q v : Nat) : State :=
  let bank := v / 2 ^ 24 % 32; let size := v / 2 ^ 20 % 16; let base := v % 65536
  let changed := decide (bank ≠ s.qBank q) || decide (size ≠ s.get (CD_QCFG.SIZE q)) || decide (base ≠ s.get (CD_QCFG.BASE q))
  let refused := changed && s.on (CD_QST.EN_ACT q)
  let s1 := if refused then s.inc R.CD_CFG_REJ_CNT
    else ((s.set (CD_QCFG.BANK q) bank).set (CD_QCFG.SIZE q) size).set (CD_QCFG.BASE q) base
  let s2 := s1.set (CD_QCFG.EN q) (v / 2 ^ 31)
  let s3 := if s2.on (CD_QST.EN_ACT q) && !(s2.on (CD_QCFG.EN q)) then s2.qFlush q else s2.qConsider q
  s3.answer (if refused then .wrongState else .ok)

/-- Error in the queue descriptor table (F21, R524): flushed at once, pointers 0, the packets held counted. -/
def qParity (s : State) (q : Nat) : State :=
  let out := (s.queue q).pkts.filter fun p => !p.gone
  let s1 := (s.modQueue q fun x => { x with wr := 0, rd := 0, pkts := [], oldWords := 0 }).incBy (R.CD_FLUSH_DISC_CNT q) out.length
  let s2 := s1.holdsEnd fun h => out.any fun p => h.pkt == some (q, p.order)
  ((s2.set (CD_QST.FLUSH_BUSY q) 0).set (CD_QST.FLUSH_DONE q) 1).qRefresh q |>.faultOnset 21 q 0

/-- A use of queue q's descriptor is checked (R524): the armed injection of F21 is found here. [log 24: DEDUCED] -/
def qUse (s : State) (q : Nat) : State := if s.injMatches 21 q then s.qParity q else s

/-! ### Bank protection (R105, R108) -/

/-- One bank of a write of CD_PROT. -/
def protBank (s : State) (b : Nat) : State :=
  let s0 := s.set CD_PROT.SECDED (s.get CD_PROT.SECDED ^^^ 2 ^ b)
  let s1 := if [17, 18, 19].any fun i => s.injMatches i b then s0.set FC_INJ_ST.STATE 3 else s0
  let qs := s1.activeQueues.filter fun q => decide (s.qBank q = b) && decide (s.qOcc q ≠ 0)
  let s2 := qs.foldl (fun s q => (s.modQueue q fun x => { x with oldWords := s.qOcc q }).set (CD_QST.PROT_OLD q) 1) s1
  if qs.isEmpty then s2 else s2.set CD_PROT_PEND.PEND (s2.get CD_PROT_PEND.PEND ||| 2 ^ b)

/-- A write of CD_PROT: a bank whose change is still pending keeps its bit, with WRONG_STATE and one count (R108); each bank that changes
is recorded (R512). [log 53: DESIGN CHOICE] -/
def wrProt (s : State) (v : Nat) : State :=
  let diff := (List.range 32).filter fun b => (s.get CD_PROT.SECDED).testBit b != v.testBit b
  let bad := diff.filter fun b => (s.get CD_PROT_PEND.PEND).testBit b
  let good := diff.filter fun b => !((s.get CD_PROT_PEND.PEND).testBit b)
  let s1 := good.foldl protBank s
  let s2 := good.foldl (fun s b => s.logRec 0x07 0x03 b (s.get CD_PROT.SECDED)) s1
  if bad.isEmpty then s2.answer .ok else (s2.inc R.CD_CFG_REJ_CNT).answer .wrongState

/-- CD_PAR_ERR_CNT of bank b has risen by n (R105): the microframe is kept for the ROM program's recovery (R107). -/
def parityNote (s : State) (b n : Nat) : State :=
  let now := s.timeUs / 125 + 1
  (s.incBy (R.CD_PAR_ERR_CNT b) n).modFlow fun d =>
    let e := Tbl.get d.parErr (0, 0) b
    { d with parErr := if e.2 = now then d.parErr else Tbl.set d.parErr (0, 0) b (e.2, now) }

/-- CD_CORR_CNT of bank b has risen by n. -/
def corrNote (s : State) (b n : Nat) : State :=
  (s.incBy (R.CD_CORR_CNT b) n).modFlow fun d => { d with corrAt := Tbl.set d.corrAt 0 b (s.timeMs + 1) }

/-- Bad words found as packet o of queue q is read: `one` with one bad bit and `two` with two (R105), under the code its words were
written in (R108); an armed injection adds one (R525). -/
def readError (s : State) (q o one two : Nat) : State :=
  let b := s.qBank q
  match s.pktAt q o with
  | none => s
  | some p =>
    if p.secded then
      let e2 := two + (s.injMatches 19 b).toNat
      let e1 := one + (!(s.injMatches 19 b) && s.injMatches 18 b).toNat
      let s1 := if e1 = 0 then s else ((s.corrNote b e1).faultOnset 18 b (s.freeVal 49152)).freeNext
      if e2 = 0 then s1
      else ((((s1.incBy (R.CD_UNCORR_CNT b) e2).logOpen 0x07 0x02 b).faultOnset 19 b (s1.freeVal 49152)).freeNext.modPkt q o
        fun p => { p with poison := true })
    else
      let e := one + two + (s.injMatches 17 b).toNat
      if e = 0 then s
      else ((((s.parityNote b e).logOpen 0x07 0x01 b).faultOnset 17 b (s.freeVal 49152)).freeNext.modPkt q o
        fun p => { p with poison := true })

/-! ### The endpoint table (R116 to R119) -/

/-- The valid entry of an endpoint, if there is one: an exact match, DIR ignored for a control endpoint. -/
def epFind (s : State) (n addr epn : Nat) (dirIn : Bool) : Option Nat :=
  s.validEps.find? fun e =>
    s.get (EP_KEY.PORT e) == n && s.get (EP_KEY.ADDR e) == addr && s.get (EP_KEY.EPNUM e) == epn &&
      (s.get (EP_KEY.TYPE e) == 0 || s.get (EP_KEY.DIR e) == dirIn.toNat)

/-- An error in the endpoint table (F20, R524): the entry's VALID is cleared. -/
def epParity (s : State) (e : Nat) : State :=
  ((s.set (EP_KEY.VALID e) 0).holdsEnd fun h => h.entry == e).faultOnset 20 e 0

/-- Look up an endpoint: the entry plus one, or 0 with the miss counted. The use of the entry is checked (R524). -/
def epLookup (s : State) (n addr epn : Nat) (dirIn : Bool) : State × Nat :=
  match s.epFind n addr epn dirIn with
  | some e => if s.injMatches 20 e then ((s.epParity e).inc R.EP_MISS_CNT, 0) else (s, e + 1)
  | none => (s.inc R.EP_MISS_CNT, 0)

/-- Staged EP_KEY[e] or EP_MAP[e]. -/
def epStaged (s : State) (e : Nat) : Bool :=
  s.staged.any fun x => x.1 / 32 == R.EP_KEY e || x.1 / 32 == R.EP_MAP e

/-- Entries with staged values, by the PORT that stands in the entry (R116). -/
def stagedEps (s : State) : List Nat :=
  ((s.staged.filterMap fun x =>
    let a := x.1 / 32
    if 0xC0000 ≤ a ∧ a < 0xC4000 then some ((a - 0xC0000) / 8) else none)).eraseDups

/-- The port whose tree's boundary an entry waits for: the staged PORT, else the applied one. -/
def epPort (s : State) (e : Nat) : Nat := s.pendingOf (EP_KEY.PORT e)

/-- Apply and check an entry (R117). -/
def epApply (s : State) (e : Nat) : State :=
  let fs := [EP_KEY.VALID e, EP_KEY.TYPE e, EP_KEY.PORT e, EP_KEY.DIR e, EP_KEY.EPNUM e, EP_KEY.ADDR e, EP_MAP.CLASS e,
    EP_MAP.POLICER e, EP_MAP.QUEUE e]
  let s1 := fs.foldl apply s
  let same := fun r => s1.get (EP_KEY.PORT r) == s1.get (EP_KEY.PORT e) && s1.get (EP_KEY.ADDR r) == s1.get (EP_KEY.ADDR e) &&
    s1.get (EP_KEY.EPNUM r) == s1.get (EP_KEY.EPNUM e) &&
    (s1.get (EP_KEY.TYPE e) == 0 || s1.get (EP_KEY.TYPE r) == 0 || s1.get (EP_KEY.DIR r) == s1.get (EP_KEY.DIR e))
  let bad := decide (95 < s1.get (EP_KEY.PORT e)) || decide (199 < s1.get (EP_MAP.POLICER e)) ||
    s1.validEps.any fun r => decide (r ≠ e) && same r
  let s2 := if s.on (EP_KEY.VALID e) && (bad || !(s1.on (EP_KEY.VALID e))) then s1.holdsEnd fun h => h.entry == e else s1
  if s1.on (EP_KEY.VALID e) && bad then (s2.set (EP_KEY.VALID e) 0).inc R.EP_REJ_CNT else s2

end State

end Sys2Proof.Machine
end

