-- ==== Sys2Proof/Machine/Endpoints.lean ====
section
/-!
DEFINITION. How the ROM program fills the endpoint table (R120): descriptors captured from a device's configuration descriptor, and entries
installed at SET_CONFIGURATION and SET_INTERFACE. Descriptor layouts are the USB standard's (PRESUMED, log 61).
-/

namespace Sys2Proof.Machine

/-- Endpoints of a configuration descriptor, read descriptor by descriptor; `here` is the configuration, interface and alternate setting
reached. [log 61: PRESUMED] -/
def epDescs (fuel : Nat) (here : Nat × Nat × Nat) (l : List Byte) : List EpDesc :=
  match fuel, l with
  | n + 1, len :: ty :: rest =>
    if len.toNat < 2 then []
    else
      let b := fun i => (rest.getD (i - 2) 0#8).toNat
      let next := rest.drop (len.toNat - 2)
      match ty.toNat with
      | 2 => epDescs n (b 5, 0, 0) next
      | 4 => epDescs n (here.1, b 2, b 3) next
      | 5 => ⟨here.1, here.2.1, here.2.2, b 2, b 3 % 4⟩ :: epDescs n here next
      | _ => epDescs n here next
  | _, _ => []

namespace State

/-- Entries that hold an endpoint, or are to hold one once applied. -/
def heldEps (s : State) : List Nat := (s.validEps ++ s.stagedEps).filter fun e => decide (s.pendingOf (EP_KEY.VALID e) = 1) || s.on (EP_KEY.VALID e)

/-- The entry that holds, or is to hold, an endpoint of a device of Dn. -/
def epHeld (s : State) (n addr epn : Nat) (dirIn : Bool) : Option Nat :=
  s.heldEps.find? fun e =>
    s.pendingOf (EP_KEY.PORT e) == n && s.pendingOf (EP_KEY.ADDR e) == addr && s.pendingOf (EP_KEY.EPNUM e) == epn &&
      (s.pendingOf (EP_KEY.TYPE e) == 0 || s.pendingOf (EP_KEY.DIR e) == dirIn.toNat)

/-- The lowest free entry. -/
def epFree (s : State) : Option Nat :=
  let l := s.heldEps
  (List.range (min 2048 (l.length + 1))).find? fun e => !(l.contains e)

/-- The port that holds most entries; among equals, the lowest-numbered. [log 59: DESIGN CHOICE] -/
def epFullest (s : State) : Nat :=
  let l := s.heldEps.map fun e => s.pendingOf (EP_KEY.PORT e)
  (List.range 96).foldl (fun a n => if l.count a < l.count n then n else a) 0

/-- The lowest-numbered bulk entry of the port with the most entries (R120). -/
def epVictim (s : State) : Option Nat :=
  ((s.heldEps.filter fun e => s.pendingOf (EP_KEY.PORT e) == s.epFullest && s.pendingOf (EP_KEY.TYPE e) == 2).min?)

/-- The entry a new endpoint of type `ty` takes: its own, a free one, or for an isochronous or interrupt endpoint a bulk one's (R120). -/
def epRoom (s : State) (n addr epn : Nat) (dirIn : Bool) (ty : Nat) : Option Nat :=
  ((s.epHeld n addr epn dirIn).or s.epFree).or (if ty = 1 ∨ ty = 3 then s.epVictim else none)

/-- The ROM program stages the entry of an endpoint: the default queue of its direction, the port's policer, and CLASS equal to TYPE
(R120, R143). -/
def epInstall (s : State) (n addr : Nat) (d : EpDesc) : State :=
  let epn := d.epAddr % 16; let dirIn := decide (128 ≤ d.epAddr)
  match s.epRoom n addr epn dirIn d.ty with
  | some e =>
    let q := if dirIn then s.get (P_QSEL.DEFQ_IN n) else s.get (P_QSEL.DEFQ_OUT n)
    [(EP_KEY.VALID e, 1), (EP_KEY.TYPE e, d.ty), (EP_KEY.PORT e, n), (EP_KEY.DIR e, dirIn.toNat), (EP_KEY.EPNUM e, epn),
      (EP_KEY.ADDR e, addr), (EP_MAP.CLASS e, d.ty), (EP_MAP.POLICER e, 2 * n + (if dirIn then 0 else 1)), (EP_MAP.QUEUE e, q)].foldl
      (fun s w => s.stage w.1 w.2) s
  | none => s

/-- Change what is known of the device at an address behind Dn. -/
def modDev (s : State) (n addr : Nat) (f : DevCfg → DevCfg) : State :=
  s.modPort n fun p => { p with devs := Tbl.set p.devs {} addr (f (Tbl.get p.devs {} addr)) }

/-- The ROM program follows a device's control transfer (R120). [log 59: DESIGN CHOICE] -/
def devSeen (s : State) (n addr : Nat) (x : Seen) : State :=
  if !s.boot.rom then s
  else
    let d := Tbl.get (s.port n).devs {} addr
    match x with
    | .nothing => s
    | .descriptor b =>
      let l := epDescs b.length (0, 0, 0) b
      s.modDev n addr fun d => { d with eps := (d.eps.filter fun z => !(l.any fun y => y.cfg == z.cfg)) ++ l }
    | .setConfig v =>
      (d.eps.filter fun z => z.cfg == v && z.alt == 0).foldl (fun s z => s.epInstall n addr z) (s.modDev n addr fun d => { d with cfg := v })
    | .setInterface i alt =>
      (d.eps.filter fun z => z.cfg == d.cfg && z.iface == i && z.alt == alt).foldl (fun s z => s.epInstall n addr z) s

end State

end Sys2Proof.Machine
end

