-- ==== Sys2Proof/Machine/Basin.lean ====
section
/-!
DEFINITION. Basin (chapter 09): headroom and charges, the credit operations and the upgrade queue, energy buckets, heat,
SHED and U0 admission; and the commands of these.
-/

namespace Sys2Proof.Machine

/-- Result codes of the Torik primitives (R330). -/
inductive Prim where
  | ok | wrongState | range | short | queued
deriving DecidableEq, Repr

/-- The code of R330. -/
def Prim.code (r : Prim) : Nat :=
  match r with
  | .ok => 0 | .wrongState => 1 | .range => 2 | .short => 3 | .queued => 4

/-- A two's complement value of `w` bits. -/
def signed (w v : Nat) : Int := if v % 2 ^ w < 2 ^ (w - 1) then (v % 2 ^ w : Nat) else (v % 2 ^ w : Nat) - (2 ^ w : Nat)

namespace State

/-! ### Charges and headroom (R284 to R286) -/

/-- Upgrade-queue entry of port k. -/
def uqOf (s : State) (k : Nat) : UqEntry := Tbl.get s.bsn.uq {} k

/-- Set the upgrade-queue entry of port k. -/
def setUq (s : State) (k : Nat) (e : UqEntry) : State := s.modBsn fun b => { b with uq := Tbl.set b.uq {} k e }

/-- Implicit charge of port k in mW (R284). -/
def implicitCharge (s : State) (k : Nat) : Nat :=
  if k < 96 then
    match s.get (P_TC_CFG.RP_ADV k) with
    | 1 => 7500
    | 2 => 15000
    | _ => 4500
  else 15000

/-- The port is in STUCK or PA_LOST. -/
def stuckOrLost (s : State) (k : Nat) : Bool :=
  decide (s.ppState k = Pp.stuck) || s.pins.paLost.getD (dieOf k) false

/-- Reserve of port k (R285). -/
def reserve (s : State) (k : Nat) : Nat :=
  if !(s.kHere k) || decide (s.get (BSN_CHG.CHARGE k) ≠ 0) || s.stuckOrLost k then 0
  else if k < 96 then (if s.shedOff k then 0 else s.implicitCharge k)
  else if s.on (PD_CFG.FRS_EN k) && s.on (PD_ST.CONTRACT k) then 15000 else 0

/-- Ports of group g; every port for g = 13, the chip. -/
def portsOf (g : Nat) : List Nat :=
  if g < 12 then (List.range 8).map (· + 8 * g) else if g = 12 then [96, 97, 98, 99] else List.range 100

/-- Cap in W as used (R286). -/
def capOf (s : State) (g : Nat) : Nat :=
  let floor := 15 * ((portsOf g).filter s.kHere).length
  if g = 13 then min (max (s.get BSN_CHIP_CAP.CAP) floor) 12000
  else min (max (s.get (BSN_SG_CAP.CAP g)) floor) (if g = 12 then 400 else 1920)

/-- What port k holds against its caps: charge, unused grant and reserve (R285). -/
def committed (s : State) (k : Nat) : Nat := s.get (BSN_CHG.CHARGE k) + (s.uqOf k).grant + s.reserve k

/-- HEAD of group g, or of the chip for g = 13, in mW (R285). -/
def head (s : State) (g : Nat) : Int :=
  (1000 * s.capOf g : Nat) - (((portsOf g).map s.committed).sum : Nat)

/-- BSN_UQ[k] as it reads (R306). -/
def uqWord (s : State) (k : Nat) : Nat :=
  let e := s.uqOf k
  if e.pend then 2 ^ 31 + (decide (e.grant ≠ 0)).toNat * 2 ^ 30 + min (e.age / 100) 63 * 2 ^ 18 + e.delta % 2 ^ 18 else 0

/-! ### SHED level (R300, R301) -/

/-- Die sensors present (R296). -/
def dieSensors (s : State) : List Nat := List.range (if dsPorts s.variant = 48 then 10 else 12)

/-- Board sensors switched on. -/
def boardOn (s : State) : List Nat :=
  (List.range 4).filter fun j => s.get (BSN_BRD_CFG.SRC j) = 1 || s.get (BSN_BRD_CFG.SRC j) = 2

/-- Board sensors switched on that have a temperature: an invalid reading leaves the last one in place (R297). [log 33: DEDUCED] -/
def boardSeen (s : State) : List Nat := s.boardOn.filter fun j => s.bsn.brdRead.contains j

/-- Die temperature in 0.25 °C. -/
def dieTemp (s : State) (i : Nat) : Int := signed 16 (s.get (BSN_TS.TEMP i))

/-- Board temperature in 0.25 °C. -/
def boardTemp (s : State) (j : Nat) : Int := signed 16 (s.get (BSN_BRD_T.TEMP j))

/-- HYST as used, in 0.25 °C. -/
def hyst (s : State) : Int := 4 * (max 1 (s.get BSN_SHED_CFG.HYST) : Nat)

/-- EMAX of a bucket in mJ; 13 for the chip. -/
def emaxOf (s : State) (g : Nat) : Nat := if g = 13 then s.get BSN_CHIP_CAP.EMAX else s.get (BSN_SG_CAP.EMAX g)

/-- Energy bucket in µJ (R294): full at reset. -/
def bucketOf (s : State) (g : Nat) : Nat := Tbl.get s.bsn.bucket (if g = 13 then 20000000 else 5000000) g

/-- Groups present, and 13 for the chip. -/
def buckets (s : State) : List Nat := (List.range 13).filter s.sgHere ++ [13]

/-- SHED causes present (R300), with the hysteresis each cause clears by. -/
def shedCause (s : State) : Nat :=
  let was := s.get BSN_SHED_ST.CAUSE
  let die := s.dieSensors.any (fun i => decide (500 ≤ s.dieTemp i)) ||
    (was.testBit 0 && s.dieSensors.any (fun i => decide (500 - s.hyst < s.dieTemp i)))
  let lim (j : Nat) : Int := (4 * s.get (BSN_BRD_CFG.LIMIT j) : Nat)
  let brd := s.boardOn.any (fun j => s.on (BSN_BRD_T.FAULT j)) || s.boardSeen.any (fun j => decide (lim j ≤ s.boardTemp j)) ||
    (was.testBit 1 && s.boardSeen.any (fun j => decide (lim j - s.hyst < s.boardTemp j)))
  let energy := s.buckets.any (fun g => decide (s.bucketOf g = 0)) ||
    (was.testBit 2 && s.buckets.any (fun g =>
      decide (s.bucketOf g * 100 < min 100 (s.get BSN_SHED_CFG.E_EXIT) * s.emaxOf g * 1000)))
  let deep := s.buckets.any fun g => decide (s.head g < 0)
  die.toNat + 2 * brd.toNat + 4 * energy.toNat + 8 * deep.toNat + 16 * (s.on BSN_SHED_CTL.LEVEL).toNat

/-- Release an unused grant, with its event and count; the entry stays (R292). -/
def releaseGrant (s : State) (k : Nat) : State :=
  if (s.uqOf k).grant ≠ 0 then
    ((s.setUq k { s.uqOf k with grant := 0 }).inc R.BSN_GRANT_EXP_CNT).postPd k
  else s

/-- Priority of Dn in SHED and the upgrade queue (BSN_PRIO). -/
def prioOf (s : State) (k : Nat) : Nat :=
  if k < 96 then s.get (BSN_PRIO.PRIO (k / 16)) / 4 ^ (k % 16) % 4 else 0

/-- Whether SHED step 4 powers off `a` before `b` (R302): lower priority, then larger charge, then higher number. -/
def offBefore (s : State) (a b : Nat) : Bool :=
  let pa := s.prioOf a; let pb := s.prioOf b
  let ca := s.get (BSN_CHG.CHARGE a); let cb := s.get (BSN_CHG.CHARGE b)
  decide (pa < pb) || (decide (pa = pb) && (decide (cb < ca) || (decide (ca = cb) && decide (b < a))))

/-- The port SHED step 4 powers off next. -/
def nextOff (s : State) : Option Nat :=
  ((List.range 96).filter fun n =>
    decide (s.get (BSN_CHG.CHARGE n) ≠ 0) && !(s.shedOff n) && decide (s.prioOf n ≠ 3)).foldl
    (fun best n => match best with
      | none => some n
      | some b => if s.offBefore n b then some n else some b) none

/-- SHED step 4 powers off one port (R302). -/
def shedPowerOff (s : State) : State :=
  match s.nextOff with
  | none => s
  | some n =>
    (((s.modBsn fun b => { b with offOrder := n :: b.offOrder }).inc R.BSN_SHED_OFF_CNT).softOff n).refreshCause n

/-- One powered-off port is released, the last one first (R303). -/
def shedRelease (s : State) : State :=
  match s.bsn.offOrder with
  | [] => s
  | n :: r => (s.modBsn fun b => { b with offOrder := r }).refreshCause n

/-- BSN_SHED_ST as it reads. -/
def shedWord (s : State) : Nat :=
  s.get BSN_SHED_ST.LEVEL * 2 ^ 28 + s.bsn.offOrder.length % 256 * 2 ^ 16 + s.get BSN_SHED_ST.CAUSE

/-- OVER of every account follows its HEAD (R285), with its episode (R497). -/
def refreshOver (s : State) : State :=
  s.buckets.foldl (fun s g =>
    let o := decide (s.head g < 0)
    if g = 13 then (s.set BSN_CHIP_ST.OVER o.toNat).watch 7 0 o 0
    else (s.set (BSN_SG_ST.OVER g) o.toNat).watch 5 g o 0) s

/-- Causes and effective level follow their conditions, with what a change of either brings (R300 to R303): its record and
event, F32, the release of grants from level 1, and the first power-off or release of step 4. -/
def basinRefresh (s0 : State) : State :=
  let s := s0.refreshOver
  let cause := s.shedCause
  let old := s.get BSN_SHED_ST.LEVEL
  let hw := decide (cause % 16 ≠ 0)
  let lvl := max (min 4 (s.get BSN_SHED_CTL.LEVEL)) (if hw then 2 else 0)
  let s1 := (s.set BSN_SHED_ST.CAUSE cause).set BSN_SHED_ST.LEVEL lvl
  let s2 := if cause = s.get BSN_SHED_ST.CAUSE ∧ lvl = old then s1
    else (s1.logRec 0x06 0x01 0 s1.shedWord).postRouted 10
  let s3 := if hw then s2.faultOnset 32 0 0 else s2.fltFall 32 0
  let s4 := if old = 0 ∧ lvl ≠ 0 then s3.inc R.BSN_SHED_CNT else s3
  let s5 := if lvl ≠ 0 then s4.allPorts releaseGrant else s4
  let s6 := if lvl = 4 ∧ old < 4 ∧ cause ≠ 0 then s5.shedPowerOff
    else if lvl < 4 ∧ old = 4 then s5.shedRelease else s5
  s6.modeNote s0

/-! ### The upgrade queue (R290, R291) -/

/-- AGE_BLOCK as used. -/
def ageBlock (s : State) : Nat := max 100 (s.get BSN_GRANT_CFG.AGE_BLOCK)

/-- Order of a scan: priority, then age, both descending; the lower port number first among equals (DEDUCED). [log 33: DEDUCED] -/
def scanBefore (s : State) (a b : Nat) : Bool :=
  let pa := s.prioOf a; let pb := s.prioOf b
  let ga := (s.uqOf a).age; let gb := (s.uqOf b).age
  decide (pb < pa) || (decide (pa = pb) && (decide (gb < ga) || (decide (ga = gb) && decide (a < b))))

/-- Insert a port into a list ordered for the scan. -/
def scanInsert (s : State) (k : Nat) (l : List Nat) : List Nat :=
  match l with
  | [] => [k]
  | a :: r => if s.scanBefore k a then k :: a :: r else a :: s.scanInsert k r

/-- Queue entries in scan order. [log 33: DEDUCED] -/
def scanOrder (s : State) : List Nat :=
  ((List.range 100).filter fun k => (s.uqOf k).pend).foldl (fun l k => s.scanInsert k l) []

/-- Visit the entries in order; `blocked` are groups whose later entries are not granted in this scan. -/
def scanVisit (s : State) (blocked : List Nat) (l : List Nat) : State :=
  match l with
  | [] => s
  | k :: r =>
    let e := s.uqOf k
    let g := groupOf k
    if e.grant ≠ 0 then s.scanVisit blocked r
    else if blocked.contains g then s.scanVisit blocked r
    else if decide ((e.delta : Int) ≤ s.head g) && decide ((e.delta : Int) ≤ s.head 13) then
      (((s.setUq k { e with grant := e.delta }).inc R.BSN_GRANT_CNT).postPd k).scanVisit blocked r
    else s.scanVisit (if s.ageBlock < e.age then g :: blocked else blocked) r

/-- A scan of the queue; none while the SHED level is not 0 (R291). -/
def scan (s : State) : State :=
  if s.get BSN_SHED_ST.LEVEL = 0 then s.scanVisit [] s.scanOrder else s

/-! ### Credit operations (R287 to R290) -/

/-- Result of a credit operation, counted where R308 counts it. [log 33: DEDUCED] -/
def creditRefuse (s : State) : State × Prim := (s.inc R.BSN_REJ_CNT, .wrongState)

/-- A TAKE is refused outright: absent port, STUCK or PA_LOST, upstream sink, or Basin not ready (R287, R449). -/
def takeBarred (s : State) (k : Nat) : Bool :=
  !(s.kHere k) || s.stuckOrLost k || (decide (96 ≤ k) && !(s.on (PD_ST.PWR_ROLE k))) || !(s.on G_READY.BASIN)

/-- The conditions under which a TAKE without a grant succeeds (R288). -/
def takeFits (s : State) (k d : Nat) : Bool :=
  let g := groupOf k
  decide ((d : Int) ≤ s.head g) && decide ((d : Int) ≤ s.head 13) && decide (s.get BSN_SHED_ST.LEVEL = 0) &&
    !((portsOf g).any fun j =>
        decide (j ≠ k) && (s.uqOf j).pend && decide (s.ageBlock < (s.uqOf j).age) && decide ((s.uqOf j).grant = 0))

/-- Raise the charge of port k by `d`, removing its queue entry and releasing what remains of its grant. -/
def charge (s : State) (k d : Nat) : State :=
  ((s.set (BSN_CHG.CHARGE k) (s.get (BSN_CHG.CHARGE k) + d)).setUq k {}).basinRefresh

/-- TAKE(k, ΔP) (R288): by the port's unused grant, else by headroom. -/
def take (s : State) (k d : Nat) : State × Prim :=
  if s.takeBarred k then s.creditRefuse
  else if (s.uqOf k).grant ≠ 0 ∧ d ≤ (s.uqOf k).grant then (s.charge k d, .ok)
  else if s.takeFits k d then
    (((s.set (BSN_CHG.CHARGE k) (s.get (BSN_CHG.CHARGE k) + d))).basinRefresh, .ok)
  else (s.inc R.BSN_TAKE_SHORT_CNT, .short)

/-- Floor of port k (R290). -/
def floorOf (s : State) (k : Nat) : Nat :=
  if s.get (BSN_CHG.CHARGE k) ≠ 0 then s.implicitCharge k else s.reserve k

/-- ΔP could never be granted in account g (R290). -/
def neverFits (s : State) (k d g : Nat) : Bool :=
  decide ((1000 * s.capOf g : Nat) - ((((portsOf g).filter (fun j => !(j == k))).map s.floorOf).sum : Nat) <
    ((s.get (BSN_CHG.CHARGE k) + d : Nat) : Int))

/-- TAKE_Q(k, ΔP) (R290). [log 33: DEDUCED] -/
def takeQ (s : State) (k d : Nat) : State × Prim :=
  if s.takeBarred k then s.creditRefuse
  else if (s.uqOf k).grant ≠ 0 ∧ d ≤ (s.uqOf k).grant then (s.charge k d, .ok)
  else if s.neverFits k d (groupOf k) || s.neverFits k d 13 then (s.inc R.BSN_RANGE_CNT, .range)
  else
    let s1 := s.setUq k { s.uqOf k with grant := 0 }
    if s1.takeFits k d then
      ((s1.set (BSN_CHG.CHARGE k) (s1.get (BSN_CHG.CHARGE k) + d)).basinRefresh, .ok)
    else
      (((s1.setUq k { s1.uqOf k with pend := true, delta := d }).inc R.BSN_TAKE_SHORT_CNT), .queued)

/-- GIVE(k, ΔP) (R287), followed by a scan. -/
def give (s : State) (k d : Nat) : State × Prim :=
  if !(s.kHere k) || decide (s.get (BSN_CHG.CHARGE k) < d) || !(s.on G_READY.BASIN) then s.creditRefuse
  else ((s.set (BSN_CHG.CHARGE k) (s.get (BSN_CHG.CHARGE k) - d)).basinRefresh.scan, .ok)

/-- CANCEL(k) (R287): the queue entry and any unused grant go. [log 33: DEDUCED] -/
def cancel (s : State) (k : Nat) : State × Prim :=
  if !(s.uqOf k).pend || !(s.on G_READY.BASIN) then s.creditRefuse
  else ((s.setUq k {}).basinRefresh, .ok)

/-- Return: the charge becomes 0, entry and grant go, and the queue is scanned (R287, R291). [log 33: DEDUCED] -/
def creditReturn (s : State) (k : Nat) : State :=
  ((s.set (BSN_CHG.CHARGE k) 0).setUq k {}).basinRefresh.scan

/-- Forced implicit take (R287). -/
def forcedTake (s : State) (k : Nat) : State := (s.set (BSN_CHG.CHARGE k) (s.implicitCharge k)).basinRefresh

/-! ### U0 admission (R170, R171, R299) -/

/-- OVER is 1 while COUNT exceeds LIMIT and no candidate exists; each onset counts (R171). -/
def admitOver (s : State) : State :=
  let ov := decide (s.get G_U0_ADMIT.LIMIT < s.u0Count) && s.demoteNext.isNone
  let s1 := if ov && !(s.on G_U0_ADMIT.OVER) then s.inc R.G_ADMIT_OVER_CNT else s
  (s1.set G_U0_ADMIT.OVER ov.toNat).watch 4 0 ov (if ov then s.u0Count else 0)

/-- One examination of U0 admission: COUNT above LIMIT demotes one candidate by LGO_U2 (R170, R171). -/
def admitOnce (s0 : State) : State :=
  let s := s0.set G_U0_ADMIT.COUNT s0.u0Count
  (if s.u0Count ≤ s.get G_U0_ADMIT.LIMIT then s
    else match s.demoteNext with
      | some n => ((s.emit (.ss n .lgoU2 0)).setSs n Ls.u2).inc R.G_ADMIT_DEMOTE_CNT
      | none => s).admitOver

/-! ### The 1 ms tick (R294 to R299) -/

/-- Average power of port k over the tick in mW (R294): 10 mV × 1 mA is 10 µW. [log 33: DEDUCED] -/
def avgPower (s : State) (k : Nat) : Nat :=
  let p := s.path k
  if p.pCount = 0 then 0 else p.pSum / (100 * p.pCount)

/-- Energy bucket of account g after a tick with power `p` (R294). -/
def bucketNext (s : State) (g p : Nat) : Nat :=
  min (1000 * s.emaxOf g) (s.bucketOf g + 1000 * s.capOf g - p)

/-- Measured power and bucket of one account. -/
def energyOf (s : State) (pw : List Nat) (g : Nat) : State :=
  let p := ((portsOf g).map fun k => pw.getD k 0).sum
  let b := s.bucketNext g p
  let was := decide (s.bucketOf g = 0)
  let s1 := s.modBsn fun x => { x with bucket := Tbl.set x.bucket (if g = 13 then 20000000 else 5000000) g b }
  let s2 := if g = 13 then ((s1.set BSN_CHIP_MEAS.P p).set BSN_CHIP_ST.EMPTY (decide (b = 0)).toNat).watch 8 0 (decide (b = 0)) 0
    else ((s1.set (BSN_SG_MEAS.P g) p).set (BSN_SG_ST.EMPTY g) (decide (b = 0)).toNat).watch 6 g (decide (b = 0)) 0
  if b = 0 ∧ was = false then
    (((s2.inc (if g = 13 then R.BSN_CHIP_EMPTY_CNT else R.BSN_SG_EMPTY_CNT g)).logOpen 0x06 0x02 g)).faultOnset 34 g 0
  else if b ≠ 0 then s2.fltFall 34 g else s2

/-- Every account's power and energy over the tick. -/
def energyTick (s : State) : State :=
  let pw := (List.range 100).map s.avgPower
  (s.buckets.foldl (fun s g => s.energyOf pw g) s).allPorts fun s k => s.modPath k fun p => { p with pSum := 0, pCount := 0 }

/-- Margin of a sensor in 0.25 °C: 0–11 die, 12–15 board (R298). A board sensor in FAULT has margin 0. -/
def sensorMargin (s : State) (i : Nat) : Int :=
  if i < 12 then 500 - s.dieTemp i
  else if s.on (BSN_BRD_T.FAULT (i - 12)) then 0
  else (4 * s.get (BSN_BRD_CFG.LIMIT (i - 12)) : Nat) - s.boardTemp (i - 12)

/-- Sensors that take part: die sensors, and board sensors that have read. -/
def marginSensors (s : State) : List Nat :=
  s.dieSensors ++ ((s.boardOn.filter fun j => s.on (BSN_BRD_T.FAULT j) || s.bsn.brdRead.contains j).map (· + 12))

/-- The limiting sensor (the lowest number among equals). -/
def limitSensor (s : State) : Nat :=
  s.marginSensors.foldl (fun b i => if s.sensorMargin i < s.sensorMargin b then i else b) 0

/-- H_TGT for margin m in 0.25 °C (R298). -/
def heatTarget (s : State) (m : Int) : Nat :=
  let fl := min 256 (s.get BSN_HEAT_CFG.H_FLOOR)
  let span := 4 * max 1 (s.get BSN_HEAT_CFG.SPAN)
  if (span : Int) ≤ m then 256 else if m ≤ 0 then fl else fl + (256 - fl) * m.toNat / span

/-- Heat factor and LIMIT for the tick (R298, R299). -/
def heatTick (s : State) : State :=
  let i := s.limitSensor
  let m := s.sensorMargin i
  let tgt := s.heatTarget m
  let mc : Int := max (-128) (min 127 (m / 4))
  let s1 := ((s.set BSN_HEAT_ST.SRC i).set BSN_HEAT_ST.MARGIN (mc % 256).toNat).set BSN_HEAT_ST.H_TGT tgt
  let shed := decide (2 ≤ s.get BSN_SHED_ST.LEVEL)
  let lim := min (min tgt (s.get BSN_HEAT_CAP.H_CAP)) (if shed then s.get BSN_SHED_CFG.H_SHED else 511)
  let h := s.get TM_HEAT.H
  let h2 := if lim < h then lim else min lim (h + max 1 (s.get BSN_HEAT_CFG.H_STEP))
  let u0 := max (s.get BSN_U0_CFG.U0_MIN) (s.get BSN_U0_CFG.U0_MAX * h2 / 256)
  ((s1.set TM_HEAT.H h2).set G_U0_ADMIT.LIMIT (if shed then min u0 (s.get BSN_U0_CFG.U0_SHED) else u0)).admitOnce

/-- One new reading of die sensor i: F04 out of range (R513), F03 and SAFE at 135 °C (R34). -/
def dieRead (s : State) (i v : Nat) : State :=
  let s1 := (s.set (BSN_TS.TEMP i) v).modBsn fun b =>
    { b with sampled := if b.sampled.contains i then b.sampled else i :: b.sampled }
  let t := s1.dieTemp i
  let s2 := if t < -220 ∨ 600 < t then s1.faultOnset 4 i 0
    else if Tbl.get s1.bsn.stuck 0 i < 10 then s1.fltFall 4 i else s1
  if 540 ≤ t then (s2.faultOnset 3 i 0).safeEntry Entry.temp 0 else s2.fltFall 3 i

/-- The die sensors' readings of one tick, from sensor 0 on. -/
def diesRead (s : State) (i : Nat) (l : List Nat) : State :=
  match l with
  | [] => s
  | v :: r => if s.dieSensors.contains i then (s.dieRead i v).diesRead (i + 1) r else s

/-- Queue entries grow older by one tick. -/
def ageTick (s : State) : State :=
  s.modBsn fun b => { b with uq := b.uq.map fun e => (e.1, { e.2 with age := e.2.age + 1 }) }

/-- A 1 ms Basin tick with the die sensors' readings `temps` (R291, R294 to R299). The check of Basin's accounts is F23's
injection point (R524). -/
def basinTick (s : State) (temps : List Nat) : State :=
  let s1 := if s.injMatches 23 0 then s.faultOnset 23 0 0 else s
  ((((s1.diesRead 0 temps).energyTick.ageTick).basinRefresh).heatTick).scan

end State

/-! ### Commands -/

open State

def execBasinTick (temps : List Nat) (s : State) : Res State :=
  act s fun s => if s.on G_READY.BASIN then s.basinTick temps else s.diesRead 0 temps

def execGrantExpiry (k : Nat) (s : State) : Res State :=
  act s fun s =>
    if (s.uqOf k).grant ≠ 0 then
      (((s.setUq k {}).inc R.BSN_GRANT_EXP_CNT).postPd k).basinRefresh
    else s

/-- A self-test conversion of die sensor i differs from the neighbouring reading by `diff` quarter degrees (R296). -/
def execSensorSelfTest (i diff : Nat) (s : State) : Res State :=
  act s fun s =>
    if !(s.dieSensors.contains i) then s
    else if diff < 60 ∨ 100 < diff then
      let c := Tbl.get s.bsn.stuck 0 i + 1
      let s1 := s.modBsn fun b => { b with stuck := Tbl.set b.stuck 0 i (min c 10) }
      if 10 ≤ c then s1.faultOnset 4 i 0 else s1
    else
      let s1 := s.modBsn fun b => { b with stuck := Tbl.set b.stuck 0 i 0 }
      if -220 ≤ s1.dieTemp i ∧ s1.dieTemp i ≤ 600 then s1.fltFall 4 i else s1

/-- A reading of board sensor j (R297): `valid` as R297 judges it, `temp` in 0.25 °C. -/
def execBoardSensorRead (j : Nat) (valid : Bool) (temp : Nat) (s : State) : Res State :=
  act s fun s =>
    if !(s.boardOn.contains j) then s
    else if valid then
      ((((s.set (BSN_BRD_T.VALID j) 1).set (BSN_BRD_T.FAULT j) 0).set (BSN_BRD_T.TEMP j) temp).modBsn fun b =>
        { b with invalid := Tbl.set b.invalid 0 j 0, brdRead := if b.brdRead.contains j then b.brdRead else j :: b.brdRead }).fltFall
          33 j |>.basinRefresh
    else
      let c := Tbl.get s.bsn.invalid 0 j + 1
      let s1 := (s.set (BSN_BRD_T.VALID j) 0).modBsn fun b => { b with invalid := Tbl.set b.invalid 0 j (min c 3) }
      if 3 ≤ c ∧ s1.get (BSN_BRD_T.FAULT j) = 0 then
        ((((s1.set (BSN_BRD_T.FAULT j) 1).inc (R.BSN_BRD_FAULT_CNT j)).logOpen 0x06 0x03 j).faultOnset 33 j 0).basinRefresh
      else s1

namespace State

/-- A write of BSN_BRD_CFG[j] (R297): switching off clears VALID and FAULT; switching on starts with both 0. -/
def wrBoardCfg (s : State) (j v : Nat) : State :=
  let was := s.boardOn.contains j
  let s1 := (((s.set (BSN_BRD_CFG.SRC j) (v / 2 ^ 30)).set (BSN_BRD_CFG.ADDR j) (v / 2 ^ 22)).set (BSN_BRD_CFG.REG j)
    (v / 2 ^ 14)).set (BSN_BRD_CFG.LIMIT j) v
  if was = s1.boardOn.contains j then s1.basinRefresh
  else
    (((s1.set (BSN_BRD_T.VALID j) 0).set (BSN_BRD_T.FAULT j) 0).modBsn fun b =>
      { b with invalid := Tbl.set b.invalid 0 j 0, brdRead := b.brdRead.filter fun i => !(i == j) }).fltFall 33 j |>.basinRefresh

/-- A write of BSN_SHED_CTL.LEVEL (R301). -/
def wrShedLevel (s : State) (v : Nat) : State := (s.set BSN_SHED_CTL.LEVEL v).basinRefresh

/-- A write of a cap register (R286, R291): group g, or 13 for the chip. -/
def wrCap (s : State) (g v : Nat) : State :=
  let s1 := if g = 13 then (s.set BSN_CHIP_CAP.EMAX (v / 65536)).set BSN_CHIP_CAP.CAP v
    else (s.set (BSN_SG_CAP.EMAX g) (v / 65536)).set (BSN_SG_CAP.CAP g) v
  s1.basinRefresh.scan

end State

def execBoardSensorConfigWrite (j v : Nat) (s : State) : Res State := act s fun s => (s.wrBoardCfg j v).answer .ok

/-- Every OFF_GAP while the level is 4 and a cause is present (R302). -/
def execShedPowerOff (s : State) : Res State :=
  act s fun s => if s.get BSN_SHED_ST.LEVEL = 4 ∧ s.on BSN_SHED_ST.CAUSE then s.shedPowerOff else s

/-- Every OFF_GAP below level 4 while a port is powered off by step 4 (R303). -/
def execShedPortRelease (s : State) : Res State :=
  act s fun s => if s.get BSN_SHED_ST.LEVEL < 4 then s.shedRelease else s

def execShedLevelWrite (v : Nat) (s : State) : Res State := act s fun s => (s.wrShedLevel v).answer .ok

def execCapWrite (g v : Nat) (s : State) : Res State :=
  act s fun s => if s.sgHere g || decide (g = 13) then (s.wrCap g v).answer .ok
    else (s.inc R.G_ABSENT_WR_CNT).answer .ok

end Sys2Proof.Machine
end

