-- ==== Sys2Proof/Machine/PowerPath.lean ====
section
/-!
DEFINITION. The power path (chapter 08): ramp, PGOOD, trips, retries, discharge, VSET reference and commands.
-/

namespace Sys2Proof.Machine

/-- A value used as the nearest limit when it lies outside its range. -/
def clamp (lo hi v : Nat) : Nat := max lo (min hi v)

namespace State

/-! ### The VSET reference (R258 to R260) -/

/-- Nominal code for T mV (R259), with GAIN in 1/256 as used (R279); halves round up. -/
def vsetCode (s : State) (k t : Nat) : Nat :=
  let g := clamp 0x0A00 0x1E00 (s.get (PP_STAGE.GAIN k))
  min 4095 ((2 * t * 4096 * 256 + g * 2500) / (2 * g * 2500))

/-- Set the target and nominal code at once, trim 0. -/
def setTarget (s : State) (k t : Nat) : State :=
  ((s.modPath k fun p => { p with target := t, oldTarget := t, nominal := s.vsetCode k t, trim := 0 }).set
    (PP_ST.VSET_CODE k) (s.vsetCode k t)).set (PP_ST.TRIM_LIM k) 0

/-- A new target in mV: the reference slews from ON or SLEW; in any other state it is not applied (R260). -/
def newTarget (s : State) (k t : Nat) : State :=
  if s.ppState k = Pp.on ∨ s.ppState k = Pp.slew then
    ((s.modPath k fun p => { p with oldTarget := p.target, target := t, nominal := s.vsetCode k t, trim := 0 }).set
      (PP_ST.TRIM_LIM k) 0).setPp k Pp.slew
  else s

/-! ### The ramp (R261 to R264) -/

/-- The port is ready: P_READY[n].READY, or Uu's bit of G_READY. -/
def kReady (s : State) (k : Nat) : Bool :=
  if k < 96 then s.on (P_READY.READY k) else (s.get G_READY.US).testBit (k - 96)

/-- The path's port may source: PWR_OK on Dn, the source role on Uu. -/
def mayPower (s : State) (k : Nat) : Bool :=
  if k < 96 then s.on (P_TCST.PWR_OK k) else s.on (PD_ST.PWR_ROLE k)

/-- The path is commanded off, by any of the sources of R261. -/
def commandedOff (s : State) (k : Nat) : Bool := s.on (PP_ST.CMD_OFF k) || s.shedOff k

/-- Every condition of R261 but Basin's charge, which the ramp takes itself. -/
def rampReady (s : State) (k : Nat) : Bool :=
  s.kHere k && s.dieUp k && s.mayPower k && !(s.commandedOff k) && decide (s.ppState k = Pp.off) && !(s.hrHolds k) &&
    s.vbusLow k && s.kReady k && (decide (s.mode = .rise) || decide (s.mode = .run))

/-- Step 1 of a ramp (R262), with the forced implicit take (R261) and the implicit contract (R602). -/
def rampStart (s : State) (k : Nat) : State :=
  if s.rampReady k then
    let p := s.path k
    let s1 := if p.retrying then
        (s.inc (R.PP_RETRY_CNT k)).set (PP_ST.RETRY_USED k) (min 7 (s.get (PP_ST.RETRY_USED k) + 1)) else s
    let s2 := ((s1.forcedTake k).modPath k fun p => { p with gate := .isp, retrying := false, rampDone := false }).setTarget k 5000
    let s3 := (((s2.set (PP_ST.FT_LVL k) 0).set (PP_ST.DIS_SLOW k) 0).fltFall 25 k).romTrip k (s.implicitCurrent k) false false
    (s3.set (PD_ST.CONTRACT k) 1).setPp k Pp.precheck
  else s

/-- GATE_STUCK or FET_SHORT (R263). [log 11: DEDUCED; log 34: DEDUCED] -/
def stuckOff (s : State) (k cause : Nat) : State :=
  ((((s.set (PP_ST.CAUSE k) cause).hardOff k .stuck).inc (R.PP_STUCK_CNT k)).logRec 0x05 0x03 k cause)

/-- VBUS in mV as last sampled. -/
def vbusMv (s : State) (k : Nat) : Nat := 10 * s.get (PP_MEAS.VBUS k)

/-- PGOOD rises (R264): FT_RUN is armed, STATE becomes ON, and step 4 of a Hard Reset sequence ends (R237). -/
def powerGood (s : State) (k : Nat) : State :=
  let s1 := ((s.set (PP_ST.PGOOD k) 1).set (PP_ST.FT_LVL k) 1).modPath k fun p =>
    { p with gate := .full, rampDone := true, pgoodMs := s.timeMs }
  let s2 := if (s.eng k).hr = .turnOn then
      ((s1.modEng k fun g => { g with hr := .none }).set (PD_ST.HR_SEQ k) 0).set (PD_ST.ABORTED k) 0 else s1
  (s2.setPp k Pp.on).refreshCause k

/-- The ramp is complete: PGOOD rises, or a running fault timer keeps it low (R264). -/
def rampComplete (s : State) (k : Nat) : State :=
  if s.on (PP_ST.FTIMER k) then s.modPath k fun p => { p with rampDone := true } else s.powerGood k

/-! ### Trips (R265 to R269) -/

/-- Word of PP_LAST. -/
def lastWord (s : State) (k : Nat) : Nat := s.get (PP_LAST.VBUS k) * 65536 + s.get (PP_LAST.IBUS k)

/-- Two or more ports of one group trip with cause UV within 10 ms (F45 of R513). -/
def groupUv (s : State) (k : Nat) : State :=
  let g := groupOf k
  let s1 := s.modPath k fun p => { p with uvTripMs := s.timeMs + 1 }
  if (portsOf g).any (fun j => decide (j ≠ k) && decide ((s.path j).uvTripMs ≠ 0) &&
      decide (s.timeMs + 1 ≤ (s.path j).uvTripMs + 10)) then s1.faultOnset 45 g 0 else s1

/-- Any trip (R268), and what its discharge ends in (R269, R275). [log 34: DEDUCED] -/
def trip (s : State) (k cause : Nat) : State :=
  let soft := decide (s.ppState k = Pp.discharge)
  let fin : DisEnd := if soft || !(s.mayPower k) || s.commandedOff k then .off
    else if s.get (PP_ST.RETRY_USED k) < s.get (PP_CFG.RETRIES k) then .retryWait else .latched
  let s1 := (s.set (PP_LAST.VBUS k) (s.get (PP_MEAS.VBUS k))).set (PP_LAST.IBUS k) (s.get (PP_MEAS.IBUS k))
  let s2 := ((s1.set (PP_ST.CAUSE k) cause).abortTransition k 2).dropContract k
  let s3 := s2.inc (if cause = Trip.fast then R.PP_FT_CNT k else R.PP_ST_CNT k)
  let s4 := (s3.logRec 0x05 0x01 k (s3.lastWord k)).hardOff k fin
  let s5 := if cause = Trip.fast then s4.faultOnset 27 k cause else if cause = Trip.uv then s4.groupUv k else s4
  if (s5.eng k).hr = .turnOn then (s5.modEng k fun g => { g with hr := .none }).set (PD_ST.HR_SEQ k) 0 else s5

/-- Step 3 of R272 and R273: the path takes its final state, the charge is returned, and step 2 of a Hard Reset sequence
ends (R237). -/
def dischargeEnd (s : State) (k : Nat) : State :=
  let s1 := (s.modPath k fun p => { p with gate := .isp, soft := false }).set (PP_ST.VSET_CODE k) 0
  let s2 := match (s.path k).disEnd with
    | .off => s1.setPp k Pp.off
    | .retryWait => s1.setPp k (if s.mayPower k && !(s.commandedOff k) then Pp.retryWait else Pp.off)
    | .latched =>
      (((s1.setPp k Pp.latched).inc (R.PP_LATCH_CNT k)).logOpen 0x05 0x02 k).faultOnset 26 k (s.get (PP_ST.CAUSE k))
    | .stuck => (s1.setPp k Pp.stuck).faultOnset 24 k (s.get (PP_ST.CAUSE k))
  let s3 := s2.creditReturn k
  let s4 := if (s3.eng k).hr = .discharge then s3.modEng k fun g => { g with hr := .srcRecover } else s3
  s4.refreshCause k

/-- VBUS is below vSafe0V in a Hard Reset sequence whose path does not discharge: what remains of the contract is dropped and the charge
returned (R237 step 2, R238 step 3). -/
def hrSafe0V (s : State) (k : Nat) : State := ((s.modEng k fun g => { g with hr := .srcRecover }).dropContract k).creditReturn k

/-- A Hard Reset sequence of Uu as sink ends with the partner's vSafe5V (R238 steps 4 and 5). -/
def hrSinkEnd (s : State) (k : Nat) : State :=
  if (s.eng k).hr = .turnOn ∧ s.mayPower k = false ∧ 96 ≤ k ∧ 4750 ≤ s.vbusMv k then
    ((s.modEng k fun g => { g with hr := .none }).set (PD_ST.HR_SEQ k) 0).set (PD_ST.ABORTED k) 0
  else s

/-! ### Samples (R267) -/

/-- OC and UV judge the path. -/
def ocActive (s : State) (k : Nat) : Bool := decide (Pp.slope ≤ s.ppState k) && decide (s.ppState k ≤ Pp.slew)

/-- FTIMER follows the timers. [log 34: DEDUCED] -/
def refreshTimer (s : State) (k : Nat) : State :=
  let p := s.path k
  s.set (PP_ST.FTIMER k) (p.oc || p.uv || p.ov).toNat

/-- One condition's start and stop rules on one sample: whether it runs, and its good samples. -/
def slowRule (run : Bool) (good : Nat) (bad : Bool) : Bool × Nat :=
  if bad then (true, 0) else if run then (if 4 ≤ good + 1 then (false, 0) else (true, good + 1)) else (false, 0)

/-- A current sample in mA, two's complement. -/
def currentSample (s : State) (k i : Nat) : State :=
  let s1 := s.set (PP_MEAS.IBUS k) i
  if s.ocActive k then
    let p := s.path k
    let bad := decide (((max 100 (s.get (PP_TRIP.ST_LIMIT k)) : Nat) : Int) < signed 16 i)
    let r := slowRule p.oc p.ocGood bad
    (s1.modPath k fun q => { q with oc := r.1, ocGood := r.2, first := if r.1 && !p.oc && !p.uv then Trip.oc else q.first }).refreshTimer k
  else s1

/-- PPS current limiting (R229): a sample more than 150 mA above the operating current takes the code down, one more than 150 mA below lets
it rise again, to its nominal value and trim at most. By how much the spec does not say: a free value. [log 34: DEDUCED] -/
def ppsLimit (s : State) (k i : Nat) : State :=
  if s.get (PD_ST.KIND k) = 1 ∧ s.get (PD_ST.CONTRACT k) = 2 ∧ s.on (PP_ST.PGOOD k) = true then
    let code := s.get (PP_ST.VSET_CODE k)
    let top := min 4095 (((s.path k).nominal : Int) + (s.path k).trim).toNat
    let op : Int := (10 * s.get (PD_CONTRACT.CURR k) : Nat)
    if op + 150 < signed 16 i ∧ 0 < code then s.freeNext.set (PP_ST.VSET_CODE k) (code - 1 - s.freeVal code)
    else if signed 16 i < op - 150 ∧ code < top then s.freeNext.set (PP_ST.VSET_CODE k) (code + 1 + s.freeVal (top - code))
    else s
  else s

/-- UV is masked while PPS current limiting lowers VSET (R229, R267): the code lies below its nominal value less trim. -/
def ppsLimiting (s : State) (k : Nat) : Bool :=
  decide (s.get (PD_ST.KIND k) = 1) && decide (s.get (PD_ST.CONTRACT k) = 2) &&
    decide ((s.get (PP_ST.VSET_CODE k) : Int) < ((s.path k).nominal : Int) + (s.path k).trim)

/-- A VBUS sample in 10 mV units. -/
def vbusSample (s : State) (k v : Nat) : State :=
  let i := signed 16 (s.get (PP_MEAS.IBUS k))
  let s1 := (s.set (PP_MEAS.VBUS k) v).modPath k fun p =>
    { p with pSum := p.pSum + v * i.toNat, pCount := p.pCount + 1 }
  if s.on (PP_ST.PGOOD k) then
    let p := s.path k
    let slewing := decide (s.ppState k = Pp.slew)
    let hi := if slewing then max p.target p.oldTarget else p.target
    let lo := if slewing then min p.target p.oldTarget else p.target
    let ovBad := decide (max (11 * hi) (10 * hi + 5000) < 100 * v)
    let uvBad := decide (1000 * v < 85 * lo) && !(s.ppsLimiting k)
    let ro := slowRule p.ov p.ovGood ovBad
    let ru := slowRule p.uv p.uvGood uvBad
    (s1.modPath k fun q => { q with
      ov := ro.1, ovGood := ro.2, uv := ru.1, uvGood := ru.2
      first := if ru.1 && !p.uv && !p.oc then Trip.uv else q.first }).refreshTimer k
  else s1

/-- Cause of an expired shared fault timer (R267). -/
def slowCause (s : State) (k : Nat) : Nat :=
  let p := s.path k
  if p.oc && !p.uv then Trip.oc else if p.uv && !p.oc then Trip.uv else p.first

/-! ### Commands of PP_CMD (R276) -/

/-- Refuse a PP_CMD command: RESULT, PP_REJ_CNT, no effect. -/
def ppRefuse (s : State) (k : Nat) : State :=
  ((s.set (PP_CMD.RESULT k) 1).inc (R.PP_REJ_CNT k)).answer .wrongState

/-- A PP_CMD command carried out. -/
def ppDone (s : State) (k : Nat) : State := ((s.set (PP_CMD.RESULT k) 0).refreshCause k).answer .ok

/-- ON (R276). A port that SHED powered off stays off until its release (R302). -/
def ppOn (s : State) (k : Nat) : State :=
  if s.kReady k && s.commandedOff k then (s.set (PP_ST.CMD_OFF k) 0).ppDone k else s.ppRefuse k

/-- A command off: soft off, RETRY_WAIT cancelled, retry count reset (R276, R68). -/
def commandOff (s : State) (k : Nat) : State := ((s.set (PP_ST.CMD_OFF k) 1).softOff k).retryReset k

/-- OFF (R276). -/
def ppOff (s : State) (k : Nat) : State :=
  if s.kReady k && !(s.commandedOff k) && decide (s.ppState k ≠ Pp.latched) && decide (s.ppState k ≠ Pp.stuck)
  then (s.commandOff k).ppDone k else s.ppRefuse k

/-- RELEASE (R276, R270). -/
def ppRelease (s : State) (k : Nat) : State :=
  if s.kReady k && decide (s.ppState k = Pp.latched)
  then (((s.setPp k Pp.off).retryReset k).fltFall 26 k).ppDone k else s.ppRefuse k

/-- CLEAR_STUCK (R276). -/
def ppClear (s : State) (k : Nat) : State :=
  if s.kReady k && decide (s.ppState k = Pp.stuck)
  then (((s.setPp k Pp.off).retryReset k).fltFall 24 k).ppDone k else s.ppRefuse k

/-- Run a port operation where port k is present; a write to an absent port is ignored and counted (R6).
[log 7: DEDUCED; log 8: DEDUCED] -/
def atPort (s : State) (k : Nat) (f : State → State) : State :=
  if s.kHere k then f s else (s.inc R.G_ABSENT_WR_CNT).answer .ok

end State

open State

def execRampStart (k : Nat) (s : State) : Res State := act s fun s => s.rampStart k

def execPrecheckEnd (k : Nat) (s : State) : Res State :=
  act s fun s =>
    if s.ppState k = Pp.precheck then
      if s.vbusLow k then (s.modPath k fun p => { p with gate := .slope }).setPp k Pp.slope
      else s.stuckOff k Trip.fetShort
    else s

/-- VBUS reads `v`, in 10 mV, during PRECHECK. -/
def execFetShort (k v : Nat) (s : State) : Res State :=
  act s fun s =>
    if s.ppState k = Pp.precheck ∧ 80 ≤ v then (s.set (PP_MEAS.VBUS k) v).stuckOff k Trip.fetShort else s

def execSlopeEnd (k : Nat) (s : State) : Res State :=
  act s fun s =>
    if s.ppState k = Pp.slope then (s.modPath k fun p => { p with gate := .full }).setPp k Pp.enhance else s

/-- GATE_RISE passes: `gateOk` says GATE stands at ISP + 4 V or more; VBUS is as last sampled. -/
def execGateRiseEnd (k : Nat) (gateOk : Bool) (s : State) : Res State :=
  act s fun s =>
    if s.ppState k = Pp.enhance then
      if !gateOk then s.stuckOff k Trip.gateStuck
      else if s.vbusMv k < 4750 then s.trip k Trip.uv
      else s.rampComplete k
    else s

/-- The ramp is complete: GATE ≥ ISP + 4 V and VBUS ≥ 4.75 V. A running fault timer keeps PGOOD low (R264). -/
def execPowerGood (k : Nat) (s : State) : Res State :=
  act s fun s =>
    if s.ppState k = Pp.enhance then s.rampComplete k else s

/-- The shunt voltage has exceeded the armed threshold for 100 ns. It acts in every mode in which the die drives the gate. -/
def execFastTrip (k : Nat) (s : State) : Res State :=
  act s fun s =>
    if s.pathLive k || (decide (s.ppState k = Pp.discharge) && (s.path k).soft) then s.trip k Trip.fast else s

def execSlowTrip (k : Nat) (s : State) : Res State :=
  act s fun s =>
    if s.pathLive k && ((s.path k).oc || (s.path k).uv) then s.trip k (s.slowCause k) else s

def execOvTrip (k : Nat) (s : State) : Res State :=
  act s fun s => if s.pathLive k && (s.path k).ov then s.trip k Trip.ov else s

def execRetryWaitEnd (k : Nat) (s : State) : Res State :=
  act s fun s =>
    if s.ppState k = Pp.retryWait then
      ((s.setPp k Pp.off).modPath k fun p => { p with retrying := true }).rampStart k
    else s

def execRetryCountReset (k : Nat) (s : State) : Res State :=
  act s fun s => if s.on (PP_ST.PGOOD k) then s.retryReset k else s

/-- Every 1 ms with PGOOD and no slew (R259); PPS current limiting has the code while it lasts (R229). A code above 12 bits is the highest
one. [log 34: DEDUCED] -/
def execVsetTrim (k : Nat) (s : State) : Res State :=
  act s fun s =>
    if s.on (PP_ST.PGOOD k) && decide (s.ppState k = Pp.on) && !(s.ppsLimiting k) then
      let p := s.path k
      let lim : Int := (max 4 (5 * p.nominal / 100) : Nat)
      let v := s.vbusMv k
      let t := if 1005 * p.target < 1000 * v then max (-lim) (p.trim - 1)
        else if 1000 * v < 995 * p.target then min lim (p.trim + 1) else p.trim
      ((s.modPath k fun p => { p with trim := t }).set (PP_ST.VSET_CODE k) (min 4095 ((p.nominal : Int) + t).toNat)).set
        (PP_ST.TRIM_LIM k) (decide (t = lim ∨ t = -lim)).toNat
    else s

def execVsetSlewDone (k : Nat) (s : State) : Res State :=
  act s fun s =>
    if s.ppState k = Pp.slew then
      ((s.set (PP_ST.VSET_CODE k) (s.path k).nominal).modPath k fun p => { p with oldTarget := p.target }).setPp k Pp.on
    else s

def execVsetPwmPeriod (k : Nat) (s : State) : Res State :=
  act s fun s => (((s.apply (PP_CFG.SLOPE k)).apply (PP_CFG.VSLEW k)).apply (PP_CFG.RETRIES k)).apply (PP_CFG.FAULT_T k)

/-- 60 ms into a soft off with VBUS still high (R272 step 2). -/
def execDischargeGateTimeout (k : Nat) (s : State) : Res State :=
  act s fun s =>
    if decide (s.ppState k = Pp.discharge) && (s.path k).soft then
      (s.modPath k fun p => { p with gate := .isp, soft := false }).set (PP_ST.VSET_CODE k) 0
    else s

/-- VBUS reads `v` below 0.8 V. -/
def execVbusDischarged (k v : Nat) (s : State) : Res State :=
  act s fun s =>
    let s1 := s.set (PP_MEAS.VBUS k) v
    if s.ppState k = Pp.discharge then s1.dischargeEnd k
    else if (s.eng k).hr = .discharge then s1.hrSafe0V k
    else s1

def execDischargeSlow (k : Nat) (s : State) : Res State :=
  act s fun s =>
    if s.ppState k = Pp.discharge ∧ s.vbusLow k = false then
      ((((s.set (PP_ST.DIS_SLOW k) 1).inc (R.PP_DIS_SLOW_CNT k)).logOpen 0x05 0x04 k).faultOnset 25 k
        (s.get (PP_ST.CAUSE k))).dischargeEnd k
    else s

def execPpOn (k : Nat) (s : State) : Res State := act s fun s => s.atPort k fun s => s.ppOn k

def execPpOff (k : Nat) (s : State) : Res State := act s fun s => s.atPort k fun s => s.ppOff k

def execPpRelease (k : Nat) (s : State) : Res State := act s fun s => s.atPort k fun s => s.ppRelease k

def execClearStuck (k : Nat) (s : State) : Res State := act s fun s => s.atPort k fun s => s.ppClear k

/-- One converter sample: VBUS in 10 mV (`isVbus`), or current in mA, two's complement. A VBUS sample at or above 0.8 V during PRECHECK is
FET_SHORT (R262). [log 34: DEDUCED] -/
def execSlowTripSample (k : Nat) (isVbus : Bool) (v : Nat) (s : State) : Res State :=
  act s fun s =>
    if s.kHere k then
      let s1 := if isVbus then (s.vbusSample k v).hrSinkEnd k else (s.currentSample k v).ppsLimit k v
      if isVbus && decide (s1.ppState k = Pp.precheck) && decide (80 ≤ v) then s1.stuckOff k Trip.fetShort
      else if (s1.path k).rampDone && decide (s1.ppState k = Pp.enhance) && !(s1.on (PP_ST.FTIMER k)) then s1.powerGood k
      else s1
    else s

end Sys2Proof.Machine
end

