-- ==== Sys2Proof/Machine/Bridge.lean ====
section
/-!
DEFINITION. Serial bridge channels (R15, R199 to R205).
-/

namespace Sys2Proof.Machine

namespace State

/-- Channel c reaches the SBU switch of Dn (R15). -/
def sbReach (c n : Nat) : Bool := decide (c < 8 ↔ n < 48)

/-- Channels present. -/
def channels (s : State) : List Nat := List.range (sbChannels s.variant)

/-- Dn needs a channel: a debug accessory, or vendor mode (R199). -/
def needsChannel (s : State) (n : Nat) : Bool := s.get (P_TCST.TC_STATE n) = 7 || s.on (P_TCST.VMODE n)

/-- No port is assigned channel c. -/
def chFree (s : State) (c : Nat) : Bool := (s.chan c).port.isNone

/-- The channel assigned to Dn. -/
def chanOf (s : State) (n : Nat) : Option Nat := s.channels.find? fun c => (s.chan c).port == some n

/-- Channel c is presented in tree u (R61, R62). -/
def chShown (s : State) (u c : Nat) : Bool := (s.up u).mgmtNow && (s.up u).chNow.testBit c

/-- A free FIXED channel that serves Dn (R202). -/
def fixedFor (s : State) (n c : Nat) : Bool :=
  decide (s.get (G_SB_CFG.MODE c) = 2) && decide (s.get (G_SB_CFG.PORT c) = n) && sbReach c n && s.chFree c

/-- A free AUTO channel that serves Dn, presented in the tree of its map entry (R202). -/
def autoFor (s : State) (n c : Nat) : Bool :=
  decide (s.get (G_SB_CFG.MODE c) = 1) && sbReach c n && s.chFree c && decide (s.get (P_MAP.KIND n) = 1) &&
    s.chShown (s.get (P_MAP.UP n)) c

/-- The channel Dn receives: a FIXED one naming it, else the lowest AUTO one. -/
def channelFor (s : State) (n : Nat) : Option Nat :=
  match s.channels.find? (s.fixedFor n) with
  | some c => some c
  | none => s.channels.find? (s.autoFor n)

/-- Dn waits for a channel no longer. -/
def stopWaiting (s : State) (n : Nat) : State := s.modBrg fun b => { b with wait := b.wait.filter (fun m => !(m == n)) }

/-- Close the switch of Dn to channel c; a console that held it on that channel keeps it. -/
def connectChannel (s : State) (n c : Nat) : State :=
  (((((s.set (P_TCST.SBU_ST n) 1).set (P_TCST.SB_CH n) c).set (G_SB_CFG.ACTIVE c) 1).set (G_SB_CFG.CUR_PORT c) n).modChan c
    fun h => { h with port := some n }).stopWaiting n

/-- Give Dn a channel, or have it wait, counted once (R202). -/
def assignChannel (s : State) (n : Nat) : State :=
  if s.get (P_TCST.SBU_ST n) = 1 ∨ s.get (P_TCST.SBU_ST n) = 3 then s
  else
    match s.channelFor n with
    | some c => s.connectChannel n c
    | none =>
      if s.brg.wait.contains n then s
      else ((s.set (P_TCST.SBU_ST n) 2).inc (R.P_SB_NOCH_CNT n)).modBrg fun b => { b with wait := b.wait ++ [n] }

/-- Waiting ports receive what has become free, in the order they began waiting. [log 29: DEDUCED] -/
def serveWaiting (s : State) : State :=
  s.brg.wait.foldl (fun s n => match s.channelFor n with
    | some c => s.connectChannel n c
    | none => s) s

/-- The switch of Dn opens and its channel is released (R199); OV goes on reading OV until detach (R200). -/
def releaseChannel (s : State) (n : Nat) : State :=
  let s1 := (if s.get (P_TCST.SBU_ST n) = 3 then s else s.set (P_TCST.SBU_ST n) 0).stopWaiting n
  match s.chanOf n with
  | some c => ((s1.modChan c fun h => { h with port := none }).set (G_SB_CFG.ACTIVE c) 0).serveWaiting
  | none => s1

/-- The switch of Dn opens for overvoltage (R200): its channel stays assigned and carries nothing. -/
def overvoltOpen (s : State) (n : Nat) : State :=
  let s1 := (s.set (P_TCST.SBU_ST n) 3).stopWaiting n
  match s.chanOf n with
  | some c => s1.set (G_SB_CFG.ACTIVE c) 0
  | none => s1

/-- The rules of R202 are applied to Dn again, which an AUTO channel served or which waits, because its map entry has changed (R206). -/
def channelMoved (s : State) (n : Nat) : State :=
  match s.chanOf n with
  | some c =>
    if s.get (G_SB_CFG.MODE c) = 1 then
      let s1 := s.releaseChannel n
      if s1.needsChannel n then s1.assignChannel n else s1
    else s
  | none => s.serveWaiting

/-- The SBU pins of Dn's bridge (R199): RX by orientation, exchanged with TX by SBU_SWAP. -/
def rxPin (s : State) (n : Nat) : Nat := if s.on (P_TCST.ORIENT n) = s.on (P_TC_CFG.SBU_SWAP n) then 1 else 2

/-- The pin data to the device leaves on. -/
def txPin (s : State) (n : Nat) : Nat := 3 - s.rxPin n

/-- Channel c carries data: its switch is closed to the port it serves. -/
def chCarries (s : State) (c : Nat) : Bool :=
  s.on (G_SB_CFG.ACTIVE c) && decide (s.get (P_TCST.SBU_ST (s.get (G_SB_CFG.CUR_PORT c))) = 1)

/-- A write of G_SB_CFG[c]: MODE, LEVEL, PORT. A change of MODE or PORT of an active channel releases it and reapplies the rules
(R202). -/
def wrSbCfg (s : State) (c v : Nat) : State :=
  let m := v / 2 ^ 30 % 4; let p := v / 65536 % 128
  let moved := decide (m ≠ s.get (G_SB_CFG.MODE c)) || decide (p ≠ s.get (G_SB_CFG.PORT c))
  let s1 := ((s.set (G_SB_CFG.MODE c) m).set (G_SB_CFG.LEVEL c) (v / 2 ^ 29)).set (G_SB_CFG.PORT c) p
  if moved then
    match (s.chan c).port with
    | some n =>
      let s2 := s1.releaseChannel n
      (if s2.needsChannel n then s2.assignChannel n else s2).serveWaiting
    | none => s1.serveWaiting
  else s1

end State

open State

def execSbConfigWrite (c v : Nat) (s : State) : Res State :=
  act s fun s => if c < sbChannels s.variant then (s.wrSbCfg c v).answer .ok else (s.inc R.G_ABSENT_WR_CNT).answer .ok

/-- A CDC SET_LINE_CODING on channel c from the host of tree u (R201): parity 0 none, 1 odd, 2 even; stop bits 1 or 2. -/
def execSetLineCoding (u c rate bits parity stopBits : Nat) (s : State) : Res State :=
  act s fun s =>
    if !(s.usHere u) || !(decide (c < sbChannels s.variant)) then s
    else if (s.up u).chNow.testBit c && decide (1200 ≤ rate ∧ rate ≤ 3000000) &&
        decide (bits = 7 ∨ bits = 8) && decide (parity ≤ 2) && decide (stopBits = 1 ∨ stopBits = 2) then
      (s.modChan c fun h => { h with rate := rate, bits := bits, parity := parity, stop := stopBits }).emit (.ctl u true [])
    else s.emit (.ctl u false [])

/-- Data from the device that channel c serves, on pin SBU`pin` (R199, R203, R204): what arrives on the RX pin is held for the bulk IN
endpoint, up to 4 KiB with the oldest bytes dropped, and goes to an attached console too. [log 58: DESIGN CHOICE] -/
def execBridgeRxData (line : BridgePin) (bytes : List Byte) (s : State) : Res State :=
  act s fun s =>
    if s.chCarries line.c && decide (line.pin = s.rxPin (s.get (G_SB_CFG.CUR_PORT line.c))) then
      let all := (s.chan line.c).rx ++ bytes
      let extra := all.length - 4096
      let s1 := s.modChan line.c fun h => { h with rx := all.drop extra, overrun := h.overrun || decide (0 < extra) }
      if s.on (G_SB_CFG.CONSOLE line.c) then s1.emit (.bridge line.c true line.pin bytes) else s1
    else s

/-- Data for the device of channel c: bulk OUT data of the host of tree u, answered NAK while the channel is inactive or held by the
console (R203), or what is typed at the console, which alone transmits while it is attached (R204).
[log 58: DESIGN CHOICE] -/
def execBridgeTxData (src : BridgeFrom) (c : Nat) (bytes : List Byte) (s : State) : Res State :=
  act s fun s =>
    let sent := s.emit (.bridge c false (s.txPin (s.get (G_SB_CFG.CUR_PORT c))) bytes)
    match src with
    | .console => if s.chCarries c && s.on (G_SB_CFG.CONSOLE c) then sent else s
    | .host u =>
      if s.chCarries c && !(s.on (G_SB_CFG.CONSOLE c)) && s.chShown u c then sent.emit (.usb2 (96 + u) .ack)
      else s.emit (.usb2 (96 + u) .nak)

end Sys2Proof.Machine
end

