-- ==== Sys2Proof/Machine/Meter.lean ====
section
/-!
DEFINITION. Policers and red holds (R123 to R135).
-/

namespace Sys2Proof.Machine

/-- The worse of two colours (R129). -/
def Colour.worse (a b : Colour) : Colour :=
  match a, b with
  | .red, _ => .red
  | _, .red => .red
  | .yellow, _ => .yellow
  | _, .yellow => .yellow
  | .none, c => c
  | c, _ => c

namespace State

/-- MODE of policer p: 0 OFF, 1 BLIND, 2 AWARE. -/
def plMode (s : State) (p : Nat) : Nat := s.get (TM_PL_CFG.MODE p)

/-- Policer p is OFF; MODE 3 is never applied (R135). -/
def plOff (s : State) (p : Nat) : Bool := decide (s.plMode p = 0) || decide (3 ≤ s.plMode p)

/-- The metering rule of R127 for a policer that is not OFF: the colour and the new counts. -/
def meter (x : Policer) (b : Nat) (pre : Colour) : Colour × Policer :=
  if pre = .red ∨ x.tp < b then (.red, x)
  else if pre = .yellow ∨ x.tc < b then (.yellow, { x with tp := x.tp - b })
  else (.green, { x with tp := x.tp - b, tc := x.tc - b })

/-- The metering rule of R127 on the counts of policer p. -/
def meterAt (s : State) (p b : Nat) (pre : Colour) : Colour × Policer :=
  if s.plOff p then (.green, s.pol p) else meter (s.pol p) b pre

/-- An error in policer state (F22, R524): the counts are filled and its holds end. -/
def plParity (s : State) (p : Nat) : State :=
  ((s.modPol p fun x => { x with tc := s.get (TM_PL_CBS.CBS p), tp := s.get (TM_PL_PBS.PBS p) }).holdsEnd fun h =>
    h.pol == p).faultOnset 22 p 0

/-- A use of the policer's state is checked (R524). [log 25: DEDUCED] -/
def plUse (s : State) (p : Nat) : State := if s.injMatches 22 p then s.plParity p else s

/-- Byte counters of a policer (R154). [log 25: DEDUCED] -/
def plCount (s : State) (p b : Nat) (c : Colour) : State :=
  match c with
  | .green => s.addBytes (R.TM_PL_GRN_LO p) b
  | .yellow => s.addBytes (R.TM_PL_YEL_LO p) b
  | .red => s.addBytes (R.TM_PL_RED_LO p) b
  | .none => s

/-- One metering stage for a packet of b bytes (R125, R127, R128): `safe` packets, isochronous or missed or received over KCL,
are promoted from red to yellow. An OFF policer answers green, debits nothing and counts nothing. [log 37: DEDUCED] -/
def stageMeter (s0 : State) (p b : Nat) (pre : Colour) (safe : Bool) : State × Colour :=
  if s0.plOff p then (s0, .green)
  else
    let s := s0.plUse p
    let r := meter (s.pol p) b (if s.plMode p = 2 then pre else .green)
    let s1 := s.modPol p fun _ => r.2
    if r.1 = .red ∧ safe = true then
      (((s1.modPol p fun x => { x with tp := x.tp - b }).inc (R.TM_PL_PROMOTE_CNT p)).plCount p b .yellow, .yellow)
    else (s1.plCount p b r.1, r.1)

/-- Both stages (R125, R129): the packet's colour, and the policer of the first stage that answered red. One policer that is both
stages meters once. [log 37: DEDUCED] -/
def meterBoth (s : State) (a b len : Nat) (pre : Colour) (safe : Bool) : State × Colour × Nat :=
  let ra := s.stageMeter a len pre safe
  if a = b then (ra.1, ra.2, a)
  else
    let rb := ra.1.stageMeter b len ra.2 safe
    (rb.1, Colour.worse ra.2 rb.2, if ra.2 = .red then a else b)

/-- Policer of stage A on Dn, by direction (R125, R119). -/
def stageA (s : State) (e1 n : Nat) (up : Bool) : Nat :=
  if e1 = 0 then 2 * n + (if up then 0 else 1) else s.get (EP_MAP.POLICER (e1 - 1))

/-- The packet's colour can never be red (R128). -/
def neverRed (s : State) (e1 : Nat) : Bool := e1 == 0 || decide (s.get (EP_KEY.TYPE (e1 - 1)) = 1)

/-- Scheduling class of an entry; a miss is BULK (R119, R143). -/
def epClass (s : State) (e1 : Nat) : Nat :=
  if e1 = 0 then 2 else if 4 ≤ s.get (EP_MAP.CLASS (e1 - 1)) then 2 else s.get (EP_MAP.CLASS (e1 - 1))

/-- The red hold of an endpoint entry. -/
def holdOf (s : State) (e1 : Nat) : Option Hold :=
  if e1 = 0 then none else s.flow.holds.find? fun h => h.entry == e1 - 1

/-- A red mark places the endpoint in red hold (R130, R131). -/
def holdBegin (s : State) (p e1 len path : Nat) (pkt : Option (Nat × Nat)) : State :=
  if (s.holdOf e1).isSome then s
  else (s.modFlow fun d => { d with holds := d.holds ++ [⟨p, e1 - 1, len, 0, pkt, path, 0, 0⟩] }).inc (R.TM_PL_HOLD_CNT p)

/-- Replace the hold of an entry. -/
def modHold (s : State) (e : Nat) (f : Hold → Hold) : State :=
  s.modFlow fun d => { d with holds := d.holds.map fun h => if h.entry = e then f h else h }

/-- Drop the hold of an entry. -/
def dropHold (s : State) (e : Nat) : State := s.modFlow fun d => { d with holds := d.holds.filter fun h => !(h.entry == e) }

/-- Flow is restored when a hold ends (R131): ACK to the device with the kept sequence number and NumP, or ERDY to the host. -/
def holdAnswer (s : State) (h : Hold) : State :=
  let n := s.get (EP_KEY.PORT h.entry)
  match h.path with
  | 0 => s.emit (.ss n .packet (h.seq * 32 + h.numP))
  | 1 => match (s.port n).slot with
    | some (u, _, _) => s.emit (.ss (96 + u) .erdy (s.get (EP_KEY.EPNUM h.entry)))
    | none => s
  | _ => s

/-- A packet that a policer has released: not held, with its colour; the hold it had of its own ends (R131). -/
def releasePkt (s : State) (q o : Nat) (c : Colour) : State :=
  let s1 := s.modPkt q o fun k => { k with colour := c, held := false }
  match s.flow.holds.find? fun h => h.pkt == some (q, o) with
  | some h => (s1.dropHold h.entry).holdAnswer h
  | none => s1

/-- The red packets directly behind a released head are metered in order until one stays red (R131). The one that stays red
begins a hold of its own. [log 25: DEDUCED] -/
def releaseBehind (s : State) (p q : Nat) (l : List Packet) : State :=
  match l with
  | [] => s
  | k :: r =>
    if k.gone then s.releaseBehind p q r
    else if !k.held then s
    else
      let m := s.meterAt p k.len .green
      if m.1 = .red then s.holdBegin p k.entry k.len 0 (some (q, k.order))
      else ((s.modPol p fun _ => m.2).releasePkt q k.order m.1).releaseBehind p q r

/-- Packets of a queue after the one of order o. -/
def behind (s : State) (q o : Nat) : List Packet := (s.queue q).pkts.filter fun k => decide (o < k.order)

/-- One hold of policer p at a boundary (R131): released, or older by one. -/
def holdTry (s : State) (h : Hold) : State :=
  match h.pkt with
  | some (q, o) =>
    let m := s.meterAt h.pol h.len .green
    if m.1 = .red then s.modHold h.entry fun x => { x with age := x.age + 1 }
    else
      let s1 := (s.modPol h.pol fun _ => m.2).releasePkt q o m.1
      s1.releaseBehind h.pol q (s1.behind q o)
  | none =>
    if s.plOff h.pol = true ∨ h.len ≤ (s.pol h.pol).tp then (s.dropHold h.entry).holdAnswer h
    else s.modHold h.entry fun x => { x with age := x.age + 1 }

/-- Every hold of policer p, oldest first, but for those that the release of an earlier one has ended. -/
def holdsTry (s : State) (p : Nat) : State :=
  (s.flow.holds.filter fun h => h.pol == p).foldl (fun s h => if s.flow.holds.contains h then s.holdTry h else s) s

/-- A hold that has lasted RED_MAX boundaries ends at the next (R132): its packet is released yellow. [log 25: DEDUCED] -/
def holdForce (s : State) (h : Hold) : State :=
  let s1 := s.inc (R.TM_PL_RED_FORCE_CNT h.pol)
  match h.pkt with
  | some (q, o) =>
    let s2 := (s1.modPol h.pol fun x => { x with tp := x.tp - h.len }).releasePkt q o .yellow
    s2.releaseBehind h.pol q (s2.behind q o)
  | none => (s1.dropHold h.entry).holdAnswer h

/-- RED_MAX as used (R134). -/
def redMax (s : State) (p : Nat) : Nat := max 1 (s.get (TM_PL_CFG.RED_MAX p))

/-- Fields of a policer's apply group (R134). -/
def plGroup (p : Nat) : List Fld :=
  [TM_PL_CFG.RED_MAX p, TM_PL_CFG.MODE p, TM_PL_CIR.CIR p, TM_PL_PIR.PIR p, TM_PL_CBS.CBS p, TM_PL_PBS.PBS p]

/-- Apply a policer's group, refuse it as a whole (R135), and clamp the token counts. -/
def plApply (s : State) (p : Nat) : State :=
  if (plGroup p).any s.isStaged then
    if s.pendingOf (TM_PL_PIR.PIR p) < s.pendingOf (TM_PL_CIR.CIR p) ∨ s.pendingOf (TM_PL_CFG.MODE p) = 3 then
      ((plGroup p).foldl unstage s).inc R.TM_CFG_REJ_CNT
    else
      let s1 := (plGroup p).foldl apply s
      s1.modPol p fun x => { x with tc := min x.tc (s1.get (TM_PL_CBS.CBS p)), tp := min x.tp (s1.get (TM_PL_PBS.PBS p)) }
  else s

/-- The boundary of policer p (R126, R131, R152): apply, refill or fill on leaving OFF, then its holds. -/
def plBoundary (s : State) (p : Nat) : State :=
  let s1 := (s.plUse p).plApply p
  let cbs := s1.get (TM_PL_CBS.CBS p); let pbs := s1.get (TM_PL_PBS.PBS p)
  let left := decide ((s1.pol p).mode = 0) && decide (s1.plMode p ≠ 0)
  let s2 := s1.modPol p fun x =>
    { mode := s1.plMode p
      tc := if left then cbs else min cbs (x.tc + s1.get (TM_PL_CIR.CIR p))
      tp := if left then pbs else min pbs (x.tp + s1.get (TM_PL_PIR.PIR p)) }
  s2.holdsTry p

end State

end Sys2Proof.Machine
end

