-- ==== Sys2Proof/Machine/Tree.lean ====
section
/-!
DEFINITION. The logical hub tree: what a logical port carries, the port map and port moves (R47 to R53), connection, sleep of a
tree (R172, R175, R176), and the effects of an upstream reset (R75).
-/

namespace Sys2Proof.Machine

namespace State

/-! ### The port map (R47 to R50) -/

/-- Back hub b is presented in tree u. -/
def bhHere (s : State) (u b : Nat) : Bool := decide (1 ≤ b) && (s.up u).bhNow.testBit b

/-- Where a map entry places a port. -/
inductive Place where
  | unmapped | invalid
  | here (u h l : Nat)
  | there (chip u h l : Nat)
deriving DecidableEq, Repr

/-- The hub and logical port are valid in a tree, but for the hub's presence (R49). -/
def slotForm (h l : Nat) : Bool := decide (1 ≤ l) && !(decide (h = 0) && decide (l = 15))

/-- Tree u has that slot (R49). -/
def slotOk (s : State) (u h l : Nat) : Bool :=
  slotForm h l && s.usHere u && !(s.isKcl u) &&
    (if h = 0 then !(decide (8 ≤ l) && s.bhHere u (15 - l)) else s.bhHere u h)

/-- The place P_MAP[n] names. -/
def placeOf (s : State) (n : Nat) : Place :=
  let u := s.get (P_MAP.UP n); let h := s.get (P_MAP.HUB n); let l := s.get (P_MAP.LPORT n)
  match s.get (P_MAP.KIND n) with
  | 0 => .unmapped
  | 1 => if s.slotOk u h l then .here u h l else .invalid
  | 2 => if hasKcl s.variant && slotForm h l then .there (s.get (P_MAP.CHIP n)) u h l else .invalid
  | _ => .invalid

/-- The tree whose boundary Dn's registers follow: that of its map entry; none for an unmapped or remotely presented port, which
follow the TB tick (R116, R484). -/
def treeOf (s : State) (n : Nat) : Option Nat :=
  if s.get (P_MAP.KIND n) = 1 && s.usHere (s.get (P_MAP.UP n)) then some (s.get (P_MAP.UP n)) else none

/-- The port presented in a slot of tree u. -/
def portIn (s : State) (u h l : Nat) : Option Nat :=
  (s.ports.find? fun e => e.2.slot == some (u, h, l)).map (·.1)

/-- The remote slot of tree u, hub h, logical port l. -/
def slotIn (s : State) (u h l : Nat) : Option Nat :=
  (s.kcl.slots.find? fun e => e.2.valid && e.2.tree == u && e.2.hub == h && e.2.lport == l).map (·.1)

/-- Slot i reports its port: shown, and not suspended (R416, R427). -/
def slotShown (s : State) (i : Nat) : Bool :=
  (Tbl.get s.kcl.slots {} i).shown && decide ((Tbl.get s.kcl.slots {} i).susp = 0)

/-- What logical port l of hub h of tree u carries on its USB 2.0 side, or on its SuperSpeed side (R41 to R43, R53): the management
function is on the USB 2.0 front hub alone, and a hub that is not presented carries nothing. -/
def carrier (s : State) (u h l : Nat) (ss : Bool) : Option Target :=
  if h = 0 ∧ l = 15 then (if (s.up u).mgmtNow && !ss then some .mgmt else none)
  else if h ≠ 0 ∧ s.bhHere u h = false then none
  else if h = 0 ∧ 8 ≤ l ∧ s.bhHere u (15 - l) = true then some (.backHub (15 - l))
  else match s.portIn u h l with
    | some n => some (.port n)
    | none => match s.slotIn u h l with
      | some i => if s.slotShown i then some (.remote i) else none
      | none => none

/-- Ports of the part whose map entry follows tree u. -/
def portsFollowing (s : State) (u : Nat) : List Nat :=
  (List.range (dsPorts s.variant)).filter fun n => s.treeOf n == some u

/-- Remote slots in tree u. -/
def slotsIn (s : State) (u : Nat) : List Nat :=
  s.kcl.slots.filterMap fun e => if e.2.valid && e.2.tree == u then some e.1 else none

/-! ### Connection (R66, R81) -/

/-- SuperSpeed terminations are enabled at Dn's slot (R81, R82), but not in DEBUG_ACC (R187). No frame tells an owner of its presenter's
upstream link: a remotely presented port has them while it is presented. [log 56: DESIGN CHOICE] -/
def ssSlot (s : State) (n : Nat) : Bool :=
  hasSs s.variant && decide (s.get (P_TCST.TC_STATE n) ≠ 7) && match (s.port n).slot with
    | some (u, _, _) => s.on (U_TREEST.USB3_HUB u)
    | none => decide (s.get (KL_PRES.STATE n) = 2)

/-- Dn is presented, here or remotely. -/
def presented (s : State) (n : Nat) : Bool := (s.port n).slot.isSome || decide (s.get (KL_PRES.STATE n) = 2)

/-- Dn's tree has a high-speed host whose SuperSpeed link neither is in U0 nor counts as absent yet (R81): a SuperSpeed-capable
device waits for it. [log 55: DEDUCED] -/
def ssAwaited (s : State) (n : Nat) : Bool :=
  match (s.port n).slot with
  | some (u, _, _) => hasSs s.variant && decide (s.get (U_TREEST.LINK u) = 2) && !(s.up u).ssAbsent
  | none => false

/-- Dn is shown to a host: a tree with one, or a remote one. -/
def underHost (s : State) (n : Nat) : Bool :=
  match (s.port n).slot with
  | some (u, _, _) => s.on (U_TREEST.LINK u)
  | none => true

/-- A device present on Dn connects: DISABLED with C_PORT_CONNECTION (R66), on SuperSpeed where its terminations are on and it has
not connected on USB 2.0 before (R81, R82). -/
def connectPort (s : State) (n : Nat) : State :=
  let p := s.port n
  let ss := p.devSs && !p.on2 && s.ssSlot n
  if decide (s.get (P_PORTST.STATE n) = Ps.disconnected) && s.on (PP_ST.PGOOD n) && s.presented n &&
      (ss || (decide (p.dev ≠ 0) && !(p.devSs && !p.on2 && s.ssAwaited n))) then
    let s0 := s.portChangeWake n 0 ss
    let s1 := ((s0.set (P_PORTST.SPEED n) (if ss then 0 else p.dev)).set (P_PORTST.SS_LINK n) ss.toNat).modPort n fun p =>
      { p with cConn := true, on2 := !ss && s.underHost n }
    (if ss then s1.setSs n Ls.polling else s1).setPs n Ps.disabled
  else s

/-- Tree u holds a port with a SuperSpeed PHY, here or in a remote slot (R44). -/
def ssTree (s : State) (u : Nat) : Bool :=
  (hasSs s.variant && !(s.portsIn u).isEmpty) || (s.slotsIn u).any fun i => (Tbl.get s.kcl.slots {} i).ssPhy

/-- The USB 3 hubs of tree u appear: downstream SuperSpeed terminations are enabled on every port of the tree (R82). -/
def usb3On (s : State) (u : Nat) : State :=
  (s.portsIn u).foldl (fun s n => (if s.ssSlot n then s.emit (.ss n .termOn 0) else s).connectPort n)
    (s.set (U_TREEST.USB3_HUB u) 1)

/-- The USB 3 hubs of tree u follow its upstream link and its ports (R44). -/
def usb3Refresh (s : State) (u : Nat) : State :=
  let want := decide (s.get (U_TREEST.LINK u) = 3) && s.ssTree u
  if want = s.on (U_TREEST.USB3_HUB u) then s else if want then s.usb3On u else s.usb3Off u

/-- A port with a SuperSpeed PHY has entered tree u, or left it: the USB 3 hubs follow, and a part without SuperSpeed downstream ports
turns Uu's SuperSpeed terminations on or off (R44). -/
def ssTreeNote (s old : State) (u : Nat) : State :=
  let s1 := s.usb3Refresh u
  if hasSs s.variant || decide (s.ssTree u = old.ssTree u) then s1
  else s1.emit (.ss (96 + u) (if s.ssTree u then .termOn else .termOff) 0)

/-- The state in which a presented, ready port rests: POWERED_OFF while the host has not set PORT_POWER under HOST_PWR = 1, else
DISCONNECTED, with a present device connecting (R66). -/
def restPort (s : State) (n : Nat) : State :=
  let hp := match (s.port n).slot with
    | some (u, _, _) => s.on (U_TREE.HOST_PWR u)
    | none => false
  if hp && !(s.port n).hostPower then s.setPs n Ps.poweredOff
  else (s.setPs n Ps.disconnected).connectPort n

/-- Dn may change its state: it is ready and not lost. -/
def portLives (s : State) (n : Nat) : Bool :=
  decide (s.get (P_PORTST.STATE n) ≠ Ps.paLost) && decide (s.get (P_PORTST.STATE n) ≠ Ps.notReady)

/-- Dn leaves its logical port, which keeps C_PORT_CONNECTION (R51); its tree may lose its USB 3 hubs (R44). -/
def leaveSlot (s : State) (n : Nat) : State :=
  match (s.port n).slot with
  | some (u, h, l) =>
    let s1 := (s.modPort n fun p => { p with slot := none, on2 := false }).modUp u fun x =>
      { x with vacated := (h, l) :: x.vacated.filter fun v => !(v == (h, l)) }
    s1.ssTreeNote s u
  | none => s.modPort n fun p => { p with on2 := false }

/-- Dn takes logical port l of hub h of tree u, with the change bit that stands there; its tree may gain USB 3 hubs (R44, R51). -/
def enterSlot (s : State) (n u h l : Nat) : State :=
  let s1 := (s.modPort n fun p => { p with move := .none, slot := some (u, h, l), cConn := (s.up u).vacated.contains (h, l) }).modUp u
    fun x => { x with vacated := x.vacated.filter fun v => !(v == (h, l)) }
  let s2 := s1.ssTreeNote s u
  if s.on (U_TREEST.USB3_HUB u) && s2.ssSlot n then s2.emit (.ss n .termOn 0) else s2

/-- Dn is presented nowhere, with its cause (R49 to R51). -/
def hidePort (s : State) (n cause : Nat) : State :=
  let s1 := ((((s.portGone n).dropRoutes n).dropHolds n).dropEps n).leaveSlot n
  let s2 := ((s1.set (P_LPTO.U1_TIMEOUT n) 0).set (P_LPTO.U2_TIMEOUT n) 0).set (P_LPST.SUSP_KIND n) 0
  if s.portLives n then (s2.setPs n Ps.hidden).set (P_PORTST.CAUSE n) cause else s2

/-- Flush requests to Dn's queues and to its TT (R51, R75): the queues of P_QSEL and of its entries that are enabled. A TT whose
queue is not enabled has nothing to wait for. -/
def flushPort (s : State) (n : Nat) (tt data : Bool) : State :=
  let ttq := s.get (P_QSEL.TTQ n)
  let s1 := if tt then
      (if s.on (CD_QST.EN_ACT ttq) then (s.modTt n fun t => { t with flush := true }).qFlush ttq
       else s.dropSplits n)
    else s
  let eps := (s.validEps.filter fun e => s.get (EP_KEY.PORT e) == n).map fun e => s.get (EP_MAP.QUEUE e)
  if data then
    ((s.get (P_QSEL.DEFQ_OUT n) :: s.get (P_QSEL.DEFQ_IN n) :: eps).eraseDups.filter fun q => s.on (CD_QST.EN_ACT q)).foldl
      qFlush s1
  else s1

/-- Ask the presenter for Dn's slot (R416 step 1). -/
def presAsk (s : State) (n : Nat) : State :=
  match s.placeOf n with
  | .there c u h l =>
    let s1 := s.modPort n fun p => { p with presAck := false, presTo := some (c, u, h, l) }
    if s.get KL_ID.STATE ≠ 1 then (s1.set (KL_PRES.STATE n) 4).set (KL_PRES.CAUSE n) 2
    else
      match s.reach c with
      | none => (s1.set (KL_PRES.STATE n) 4).set (KL_PRES.CAUSE n) 1
      | some r => (((s1.set (KL_PRES.STATE n) 1).set (KL_PRES.CAUSE n) 0).portOp c [opPresReq, n, u, h, l, r.lat])
  | _ => s

/-- The presentation with the old presenter ends (R416, R432). -/
def presDrop (s : State) (n : Nat) : State :=
  let s1 := match (s.port n).presTo with
    | some (c, u, h, l) =>
      if s.get (KL_PRES.STATE n) = 2 ∨ s.get (KL_PRES.STATE n) = 3 ∨ (s.port n).presAck = true then s.portOp c [opPresEnd, n, u, h, l] else s
    | none => s
  (((s1.set (KL_PRES.STATE n) 0).set (KL_PRES.CAUSE n) 0).set (KL_PRES.LAT n) 0).modPort n fun p =>
    { p with presAck := false, presTo := none }

/-- Step 4 of R51 and of R416: Dn is presented where its map entry says at this moment (R52). -/
def presentPort (s : State) (n : Nat) : State :=
  match s.placeOf n with
  | .unmapped => (s.modPort n fun p => { p with move := .none }).hidePort n 5
  | .invalid => (s.modPort n fun p => { p with move := .none }).hidePort n 6
  | .here u h l =>
    if (s.portIn u h l).isSome || (s.slotIn u h l).isSome then (s.modPort n fun p => { p with move := .none }).hidePort n 7
    else
      let s1 := s.enterSlot n u h l
      if s.portLives n then (s1.setPs n Ps.disconnected).connectPort n else s1
  | .there _ _ _ _ =>
    if (s.port n).presAck then
      let s1 := (s.modPort n fun p => { p with move := .none, cConn := false }).set (KL_PRES.STATE n) 2
      if s.portLives n then (s1.setPs n Ps.disconnected |>.connectPort n).portStatus n else s1
    else s

/-- Steps 1 and 2 of R51: the old slot reports disconnected, queues and TT are flushed, SE0 is driven. An unmapped or invalid new
value hides the port at once (R52). [log 27: DEDUCED] -/
def moveStart (s : State) (n : Nat) : State :=
  let was := s.get (P_LPST.SUSP_KIND n)
  let s0 := (s.flushPort n true true).channelMoved n
  let s1 := (s0.presDrop n).hidePort n 8
  let s2 := if was ≠ 0 then s1.set (P_LPST.LAST_WAKE n) WakeBy.reset else s1
  let s3 := (s2.emit (.usb2 n .se0))
  let s4 := if s.on (P_PORTST.SS_LINK n) then s3.emit (.ss n .termOff 0) else s3
  match s.placeOf n with
  | .unmapped => (s4.modPort n fun p => { p with move := .none }).hidePort n 5
  | .invalid => (s4.modPort n fun p => { p with move := .none }).hidePort n 6
  | .here _ _ _ => s4.modPort n fun p => { p with move := .se0 }
  | .there _ _ _ _ => (s4.modPort n fun p => { p with move := .se0 }).presAsk n

/-- Dn's place under the present map entry is where it is presented. -/
def inPlace (s : State) (n : Nat) : Bool :=
  match s.placeOf n with
  | .here u h l => (s.port n).slot == some (u, h, l)
  | .there c u h l => (s.port n).presTo == some (c, u, h, l) && decide (s.get (KL_PRES.STATE n) ≠ 0)
  | _ => false

/-- STATE of Dn. -/
def ps (s : State) (n : Nat) : Nat := s.get (P_PORTST.STATE n)

/-- A write of P_MAP[n] (R47, R51, R52): one that leaves the presentation unchanged has no effect. -/
def wrPMap (s : State) (n v : Nat) : State :=
  let s1 := ((((s.set (P_MAP.KIND n) (v / 2 ^ 30)).set (P_MAP.CHIP n) (v / 65536)).set (P_MAP.UP n) (v / 4096)).set
    (P_MAP.HUB n) (v / 256)).set (P_MAP.LPORT n) (v / 16)
  match (s.port n).move with
  | .oldBoundary => s1
  | .none =>
    if s1.inPlace n then s1
    else if s1.placeOf n = s.placeOf n ∧ s.ps n = Ps.hidden ∧ s.get (P_PORTST.CAUSE n) ≠ 8 then s1
    else if s.presented n || (s.port n).presTo.isSome then s1.modPort n fun p => { p with move := .oldBoundary }
    else
      let s2 := s1.channelMoved n
      match s2.placeOf n with
      | .unmapped => s2.hidePort n 5
      | .invalid => s2.hidePort n 6
      | .here _ _ _ => (s2.hidePort n 8).modPort n fun p => { p with move := .newBoundary }
      | .there _ _ _ _ => ((s2.hidePort n 8).modPort n fun p => { p with move := .newBoundary }).presAsk n
  | _ =>
    let s1 := s1.channelMoved n
    match s1.placeOf n with
    | .unmapped => ((s1.presDrop n).modPort n fun p => { p with move := .none }).hidePort n 5
    | .invalid => ((s1.presDrop n).modPort n fun p => { p with move := .none }).hidePort n 6
    | .here _ _ _ => s1.presDrop n
    | .there _ _ _ _ => if s1.inPlace n then s1 else (s1.presDrop n).presAsk n

/-- The tree at whose boundary the old slot of Dn is left: none for a remote one, which is left at the TB tick. -/
def leavesAt (s : State) (n : Nat) : Option Nat := (s.port n).slot.map (·.1)

/-- Send TREE_EVT to every owner chip with slots in tree u (R420): 1 suspend, 2 resume start, 3 resume end, 4 bus reset on the USB 2.0 side, 5 U3 entry,
6 U3 exit, 7 reset on the SuperSpeed side. [log 20: DESIGN CHOICE] -/
def treeEvt (s : State) (u ev : Nat) : State :=
  let chips := ((s.slotsIn u).map fun i => (Tbl.get s.kcl.slots {} i).chip).eraseDups
  chips.foldl (fun s c => s.portOp c [opTreeEvt, s.get KL_ID.ID, u, ev]) s

/-! ### Upstream reset (R75) -/

/-- ENABLED high-speed ports of tree u. In a full-speed tree no port runs at high speed (R81), so a token to an address with no entry goes
nowhere there. [log 55: DEDUCED] -/
def hsPorts (s : State) (u : Nat) : List Nat :=
  (s.portsIn u).filter fun n => s.ps n = Ps.enabled && s.get (P_PORTST.SPEED n) = 3

/-- Ports of tree u on the side a reset acts on. -/
def sidePorts (s : State) (u : Nat) (ss : Bool) : List Nat :=
  (s.portsIn u).filter fun n => s.on (P_PORTST.SS_LINK n) == ss

/-- Requests of tree u that a reset of one side drops (R75 step 3): KIND 0 on the USB 2.0 side, 1 on the SuperSpeed side.
[log 48: DEDUCED] -/
def dropRequests (s : State) (u : Nat) (ss : Bool) : State :=
  let all := Tbl.get s.tk.mbox [] u
  let out := all.filter fun m => m.kind == ss.toNat
  let s1 := s.modTk fun t => { t with mbox := Tbl.set t.mbox [] u (all.filter fun m => !(m.kind == ss.toNat)) }
  out.foldl (fun s m => (s.logRec 0x02 0x02 (96 + u) ((m.payload.getD 1 0).toNat)).inc (R.U_MGMT_DROP_CNT u)) s1

/-- A device asleep on the affected side is reset: LAST_WAKE becomes RESET and driven resume stops (R177). -/
def resetSleep (s : State) (n : Nat) : State :=
  let s1 := if s.get (P_LPST.SUSP_KIND n) ≠ 0 then (s.set (P_LPST.LAST_WAKE n) WakeBy.reset).set (P_LPST.SUSP_KIND n) 0 else s
  s1.modPort n fun p => { p with resume := 0, l1Ask := none, devK := false, woke := false }

/-- The host that owns an UPDATE is reset (R386). -/
def updateReset (s : State) (u : Nat) : State := if s.boot.owner = some (.host u) then s.updateAbort else s

/-- Control splits that Dn's TT holds are aborted at once (R75 step 1). -/
def dropControl (s : State) (n : Nat) : State := s.ttDrop n fun x => (s.tt n).np.contains x && x.epn == 0

/-- Steps 1 to 4 of R75 on one side of tree u, with the end of holds and of round-robin deficits (R152), of proxies (R425), and
TREE_EVT (R420). -/
def resetSide (s : State) (u : Nat) (ss : Bool) : State :=
  let ps := s.sidePorts u ss
  let s1 := if ss then s else s.modUp u fun x => { x with heldWrite := none, wakePend := false, hostK := false, tokenTo := [] }
  let s2 := s1.dropRequests u ss
  let s3 := ps.foldl (fun s n => (((if ss then s else s.dropControl n).flushPort n (!ss) true).dropHolds n).resetSleep n) s2
  let s4 := if ss then
      ([s.get (U_QSEL.HUBQ u), s.get (U_QSEL.ITPQ u)].filter fun q => s.on (CD_QST.EN_ACT q)).foldl qFlush s3
    else s3
  let s5 := s4.modEgress (96 + u) fun e => { e with cur := 0, deficit := [], topped := [] }
  let s6 := if ss then s5
    else (s5.modKcl fun k => { k with proxies := k.proxies.filter fun p => !((Tbl.get k.slots {} p.slot).tree == u) }).set
      (U_LPST.HS_STATE u) Hs.active
  (((s6.updateReset u).treeEvt u (if ss then 7 else 4)).sleepRefresh u).dormantExit

/-- Step 5 of R75: routing cleared, hubs and management function at address 0 and unconfigured; the front hub becomes the
address-0 target (R70). [log 27: DEDUCED] -/
def resetHubs (s : State) (u : Nat) (ss : Bool) : State :=
  if ss then s.modUp u fun x => { x with depth := 0, bhDepth := [], u1En := false, u2En := false, ssRoutes := []
                                         cfgs := x.cfgs.filter fun e => e.1 % 2 == 0
                                         lports := x.lports.map fun e => (e.1, { e.2 with u3 := false, u1 := 0, u2 := 0 }) }
  else
    ((s.modUp u fun x => { x with
      routes := [], target0 := some .frontHub, cfgs := x.cfgs.filter (fun e => e.1 % 2 == 1), alts := [], hostPwr := s.on (U_TREE.HOST_PWR u)
      lports := x.lports.map fun e =>
        (e.1, { e.2 with en := false, susp := false, cConn := e.2.conn, cReset := false, cSuspend := false }) }).set
      (U_LPST.RWE_FRONT u) 0).set (U_LPST.RWE_BH u) 0

/-- Step 6 of R75: the ports of the affected side become DISCONNECTED, and DISABLED where a device is still present. -/
def resetPorts (s : State) (u : Nat) (ss : Bool) : State :=
  (s.sidePorts u ss).foldl (fun s n => (s.portGone n).connectPort n) s

/-- Steps 1 to 5 of R75 on both sides, as a Hard Reset on Uu brings them (R238). -/
def treeResetBegin (s : State) (u : Nat) : State := (((s.resetSide u false).resetSide u true).resetHubs u false).resetHubs u true

end State

end Sys2Proof.Machine
end

