-- ==== Sys2Proof/Machine/PortReq.lean ====
section
/-!
DEFINITION. What a host request does to a downstream port (R66 to R68, R92, R158, R161, R164, R166), to a front logical port that
carries a back hub or the management function (R157, R168), and to a remote slot (R419). The local tree and PORT_CMD share these.
-/

namespace Sys2Proof.Machine

/-- A host request on a logical port, with its argument. -/
inductive Req where
  | reset (ss : Bool)
  | bhReset
  | clearEnable
  | setPower
  | clearPower
  | suspend
  | clearSuspend
  | testL1 (addr besl : Nat) (rwe : Bool)
  | u1Timeout (v : Nat)
  | u2Timeout (v : Nat)
  | linkU3
  | linkU0
  | clearTt (addr epn : Nat)
  | resetTt
  | address (a : Nat)
  | hubSuspend
  | hubResume
  | clearChange (f : Nat)
deriving DecidableEq, Repr

/-- Codes the model gives the requests inside PORT_CMD, whose body the spec does not lay out (DESIGN CHOICE, log 20).
[log 20: DESIGN CHOICE] -/
def Req.code (r : Req) : Nat × Nat :=
  match r with
  | .reset ss => (1, ss.toNat)
  | .bhReset => (2, 0)
  | .clearEnable => (3, 0)
  | .setPower => (4, 0)
  | .clearPower => (5, 0)
  | .suspend => (6, 0)
  | .clearSuspend => (7, 0)
  | .testL1 a b w => (8, a + 128 * (b + 16 * w.toNat))
  | .u1Timeout v => (9, v)
  | .u2Timeout v => (10, v)
  | .linkU3 => (11, 0)
  | .linkU0 => (12, 0)
  | .clearTt a e => (13, a + 128 * e)
  | .resetTt => (14, 0)
  | .address a => (15, a)
  | .hubSuspend => (16, 0)
  | .hubResume => (17, 0)
  | .clearChange f => (18, f)

/-- The request goes to the USB 3 hub. -/
def Req.ss (r : Req) : Bool :=
  match r with
  | .reset ss => ss
  | .bhReset => true
  | .u1Timeout _ => true
  | .u2Timeout _ => true
  | .linkU3 => true
  | .linkU0 => true
  | _ => false

/-- The request a PORT_CMD code stands for. [log 20: DESIGN CHOICE] -/
def Req.ofCode (c v : Nat) : Option Req :=
  match c with
  | 1 => some (.reset (decide (v = 1)))
  | 2 => some .bhReset
  | 3 => some .clearEnable
  | 4 => some .setPower
  | 5 => some .clearPower
  | 6 => some .suspend
  | 7 => some .clearSuspend
  | 8 => some (.testL1 (v % 128) (v / 128 % 16) (decide (v / 2048 = 1)))
  | 9 => some (.u1Timeout v)
  | 10 => some (.u2Timeout v)
  | 11 => some .linkU3
  | 12 => some .linkU0
  | 13 => some (.clearTt (v % 128) (v / 128))
  | 14 => some .resetTt
  | 15 => some (.address v)
  | 16 => some .hubSuspend
  | 17 => some .hubResume
  | 18 => some (.clearChange v)
  | _ => none

namespace State

/-- The tree that presents Dn here. -/
def treeAt (s : State) (n : Nat) : Option Nat := (s.port n).slot.map (·.1)

/-- Answer the host of Dn's tree. -/
def answerHost (s : State) (n : Nat) (ack : Bool) (data : List Nat) : State :=
  match s.treeAt n with
  | some u => s.emit (.ctl u ack data)
  | none => s

/-- A downstream link that must leave U1, U2 or U3 starts its exit (R165, R166). -/
def exitStart (s : State) (n : Nat) : State :=
  if (s.port n).exiting then s else (s.emit (.ss n .exitLfps 0)).modPort n fun p => { p with exiting := true }

/-- The part takes over a device's K and drives resume on Dn (R158, R162). -/
def takeOver (s : State) (n : Nat) : State :=
  (s.emit (.usb2 n .driveK)).modPort n fun p => { p with resume := if p.resume = 0 then 2 else p.resume, devK := false }

/-- A port reset begins (R66, R67, R70, R71, R92, R118, R164): RESETTING; routing and endpoint entries go; on USB 2.0 the port becomes
the address-0 target. -/
def resetPort (s : State) (n : Nat) (ss : Bool) : State :=
  if s.on (P_PORTST.SS_LINK n) = ss ∧ (s.ps n = Ps.disabled ∨ s.ps n = Ps.enabled ∨ s.ps n = Ps.suspended) then
    let s1 := ((((s.dropRoutes n).dropHolds n).dropEps n).set (P_PORTST.ADDR_VALID n) 0).stallClear n
    let s2 := ((s1.set (P_LPTO.U1_TIMEOUT n) 0).set (P_LPTO.U2_TIMEOUT n) 0).set (P_LPST.SUSP_KIND n) 0
    let s3 := (s2.setPs n Ps.resetting).modPort n fun p =>
      { p with rst := if ss then 2 else 1, warm := false, resume := 0, l1Ask := none, devK := false }
    if ss then (s3.emit (.ss n .hotReset 0)).setSs n Ls.recovery
    else
      let s4 := s3.emit (.usb2 n .busReset)
      match s.treeAt n with
      | some u => s4.modUp u fun x => { x with target0 := some (.port n) }
      | none => s4
  else s

/-- A warm reset begins: LFPS reset signalling (R92 step 4). -/
def warmReset (s : State) (n : Nat) : State :=
  ((s.emit (.ss n .warmResetLfps 0)).setSs n 9).modPort n fun p => { p with rst := 3, warm := true }

/-- ClearPortFeature of a change bit by its feature number: 16 C_PORT_CONNECTION, 17 ENABLE, 18 SUSPEND, 20 RESET, 25 LINK_STATE,
29 C_BH_PORT_RESET. [log 61: PRESUMED] -/
def clearChange (s : State) (n f : Nat) : State :=
  s.modPort n fun p =>
    match f with
    | 16 => { p with cConn := false }
    | 17 => { p with cEnable := false }
    | 18 => { p with cSuspend := false }
    | 20 => { p with cReset := false }
    | 25 => { p with cLink := false }
    | 29 => { p with cBhReset := false }
    | _ => p

/-- K from the device on Dn is repeated to its host as bus activity (R177). -/
def repeatUp (s : State) (n : Nat) : State :=
  match s.treeAt n with
  | some u => s.emit (.usb2 (96 + u) .driveK)
  | none => s

/-- A test of L1 is refused (R161): not sent, and the request fails with STALL. -/
def l1Refuse (s : State) (n : Nat) : State := (s.set (P_LPST.L1_RESULT n) 5).answerHost n false []

/-- Carry out a request on Dn; true where the host is answered ACK by the part at once or needs no answer of its own. [log 27: DEDUCED] -/
def portReq (s : State) (n : Nat) (r : Req) : State :=
  match r with
  | .reset ss => s.resetPort n ss
  | .bhReset =>
    if s.on (P_PORTST.SS_LINK n) && decide (Ps.disabled ≤ s.ps n) && decide (s.ps n ≤ Ps.suspended) then
      let s1 := ((((s.dropRoutes n).dropHolds n).dropEps n).set (P_PORTST.ADDR_VALID n) 0).stallClear n
      ((((s1.set (P_LPTO.U1_TIMEOUT n) 0).set (P_LPTO.U2_TIMEOUT n) 0).set (P_LPST.SUSP_KIND n) 0).setPs n Ps.resetting).warmReset n
    else s
  | .clearEnable =>
    if (s.ps n = Ps.enabled ∨ s.ps n = Ps.suspended) ∧ s.on (P_PORTST.SS_LINK n) = false then
      ((s.stallClear n).set (P_LPST.SUSP_KIND n) 0).setPs n Ps.disabled
    else s
  | .setPower =>
    let s1 := (s.modPort n fun p => { p with hostPower := true }).set (PP_ST.CMD_OFF n) 0
    if s.ps n = Ps.poweredOff then (s1.setPs n Ps.disconnected).connectPort n else s1.refreshCause n
  | .clearPower =>
    let s1 := ((s.portGone n).modPort n fun p => { p with hostPower := false }).commandOff n
    if s.portLives n && decide (s.ps n ≠ Ps.hidden) then s1.setPs n Ps.poweredOff else s1
  | .suspend =>
    if s.ps n = Ps.enabled ∧ s.on (P_PORTST.SS_LINK n) = false then
      let s1 := ((s.stallClear n).set (P_LPST.SUSP_KIND n) Susp.selective).setPs n Ps.suspended
      if (s.port n).devK then s1.takeOver n else s1
    else s
  | .clearSuspend =>
    if s.ps n = Ps.suspended ∧ (s.get (P_LPST.SUSP_KIND n) = Susp.selective ∨ s.get (P_LPST.SUSP_KIND n) = Susp.l1) then
      (s.emit (.usb2 n .driveK)).modPort n fun p => { p with resume := if p.resume = 0 then 1 else p.resume }
    else s
  | .testL1 addr besl rwe =>
    if s.ps n ≠ Ps.enabled ∨ s.get (P_PORTST.SPEED n) < 2 ∨ s.on (P_PORTST.ADDR_VALID n) = false ∨
        s.get (P_PORTST.ADDR n) ≠ addr then s.l1Refuse n
    else if (s.port n).devK then ((s.l1Refuse n).repeatUp n).modPort n fun p => { p with devK := false }
    else s.modPort n fun p => { p with l1Ask := some (besl, rwe) }
  | .u1Timeout v => s.set (P_LPTO.U1_TIMEOUT n) v
  | .u2Timeout v =>
    let s1 := s.set (P_LPTO.U2_TIMEOUT n) v
    if 1 ≤ v ∧ v ≤ 0xFE then s1.emit (.ss n .u2Timeout v) else s1
  | .linkU3 =>
    if s.on (P_PORTST.SS_LINK n) && decide (s.get (P_LPST.SS_LS n) ≤ Ls.u2) then
      (((((s.stallClear n).emit (.ss n .lgoU3 0)).setSs n Ls.u3).set (P_LPST.SUSP_KIND n) Susp.u3).modPort n fun p =>
        { p with exiting := false }).setPs n Ps.suspended
    else s
  | .linkU0 =>
    if s.on (P_PORTST.SS_LINK n) && decide (1 ≤ s.get (P_LPST.SS_LS n)) && decide (s.get (P_LPST.SS_LS n) ≤ Ls.u3) then
      s.exitStart n
    else s
  | .clearTt addr epn =>
    s.ttDrop n fun x => (s.tt n).np.contains x && x.addr == addr && x.epn == epn
  | .resetTt => (s.dropSplits n).modTt n fun t => { t with flush := false }
  | .address a => ((s.set (P_PORTST.ADDR n) a).set (P_PORTST.ADDR_VALID n) 1).stallClear n
  | .hubSuspend =>
    if s.ps n = Ps.enabled ∧ s.get (P_LPST.SUSP_KIND n) = Susp.none ∧ s.on (P_PORTST.SS_LINK n) = false then
      s.set (P_LPST.SUSP_KIND n) Susp.hub
    else s
  | .hubResume =>
    if s.get (P_LPST.SUSP_KIND n) = Susp.hub then
      let s1 := s.set (P_LPST.SUSP_KIND n) Susp.none
      if (s.port n).woke then s1.modPort n fun p => { p with woke := false } else s1.set (P_LPST.LAST_WAKE n) WakeBy.host
    else s
  | .clearChange f => s.clearChange n f

/-- Change a front logical port that carries a hub or the management function. -/
def modLport (s : State) (u l : Nat) (f : LPort → LPort) : State :=
  s.modUp u fun x => { x with lports := Tbl.set x.lports {} l (f (Tbl.get x.lports {} l)) }

/-- The front logical port of the tree's own function. -/
def lportOf (t : Target) : Nat :=
  match t with
  | .backHub b => 15 - b
  | _ => 15

/-- A request to every port behind a back hub, here and in remote slots (R157, R168). -/
def hubReq (s : State) (u : Nat) (t : Target) (r : Req) : State :=
  match t with
  | .backHub b =>
    (s.slotsOfHub u b).foldl (fun s i => s.slotCmd i r.code.1 r.code.2) ((s.portsOfHub u b).foldl (fun s n => s.portReq n r) s)
  | _ => s

/-- A request on a logical port that carries a back hub or the management function; it has no L1 to test. Its reset completes within the request, since no
line is driven; the function becomes the address-0 target and leaves the routing table (R70, R71). -/
def ownReq (s : State) (u : Nat) (t : Target) (r : Req) : State :=
  let l := lportOf t
  match r with
  | .reset ss =>
    if ss then s.modLport u l fun x => { x with cReset := true, u3 := false, u1 := 0, u2 := 0 }
    else (s.modUp u fun x => { x with target0 := some t, routes := x.routes.filter fun e => !(e.2 == t) }).modLport u l fun x =>
      { x with en := true, susp := false, cReset := true }
  | .bhReset => s.modLport u l fun x => { x with cReset := true, u3 := false, u1 := 0, u2 := 0 }
  | .clearEnable => s.modLport u l fun x => { x with en := false }
  | .suspend => (s.modLport u l fun x => { x with susp := true }).hubReq u t .hubSuspend
  | .clearSuspend => (s.modLport u l fun x => { x with susp := false, cSuspend := x.cSuspend || x.susp }).hubReq u t .hubResume
  | .u1Timeout v => s.modLport u l fun x => { x with u1 := v }
  | .u2Timeout v => s.modLport u l fun x => { x with u2 := v }
  | .linkU3 =>
    match t with
    | .backHub _ => (s.modLport u l fun x => { x with u3 := true }).hubReq u t .linkU3
    | _ => s
  | .linkU0 => s.modLport u l fun x => { x with u3 := false }
  | .testL1 _ _ _ => s.emit (.ctl u false [])
  | .clearChange f => s.modLport u l fun x =>
      match f with
      | 16 => { x with cConn := false }
      | 18 => { x with cSuspend := false }
      | 20 => { x with cReset := false }
      | _ => x
  | _ => s

/-- Send a request for a remote slot to its owner (R419). A reset on the USB 2.0 side makes the slot the address-0 target (R70, R71). -/
def slotReq (s : State) (u i : Nat) (r : Req) : State :=
  let s1 := (s.slotCmd i r.code.1 r.code.2).modKcl fun k => { k with ops := k.ops ++ [(i, u)] }
  match r with
  | .reset false => s1.modUp u fun x =>
      { x with target0 := some (.remote i), routes := x.routes.filter fun e => !(e.2 == Target.remote i) }
  | _ => s1

/-- A request on a logical port that carries nothing: a test of L1 fails with STALL; its C_PORT_CONNECTION can be cleared (R51). -/
def emptyReq (s : State) (u h l : Nat) (r : Req) : State :=
  match r with
  | .testL1 _ _ _ => s.emit (.ctl u false [])
  | .clearChange 16 => s.modUp u fun x => { x with vacated := x.vacated.filter fun v => !(v == (h, l)) }
  | _ => s

/-- A host request of tree u on logical port l of hub h: on the port, function or remote slot it carries on that side. -/
def hostReq (s : State) (u h l : Nat) (r : Req) : State :=
  if s.usHere u && !(s.isKcl u) && s.dataOn then
    match s.carrier u h l r.ss with
    | some (.port n) => s.portReq n r
    | some (.remote i) => s.slotReq u i r
    | some t => s.ownReq u t r
    | none => s.emptyReq u h l r
  else s

/-- A host request the part answers itself: ACK at once, but for a remote slot, whose owner answers (R419). -/
def hostReqAck (s : State) (u h l : Nat) (r : Req) : State :=
  let s1 := s.hostReq u h l r
  match s.carrier u h l r.ss with
  | some (.remote _) => s1
  | _ => s1.emit (.ctl u true [])

end State

end Sys2Proof.Machine
end

