-- ==== Sys2Proof/Machine/Hub.lean ====
section
/-!
DEFINITION. The logical hub tree and the USB 2.0 path (chapter 02): the port map, port states, host requests on ports, upstream
attach and reset, and routed repeating of high-speed tokens.
-/

namespace Sys2Proof.Machine

namespace State

/-- Dn is present and the data path runs. -/
def atD (s : State) (n : Nat) (f : State → State) : State := if s.dsHere n && s.dataOn then f s else s

/-- Uu is present and host-facing, and the data path runs. -/
def atU (s : State) (u : Nat) (f : State → State) : State :=
  if s.usHere u && !(s.isKcl u) && s.dataOn then f s else s

/-- Channels tree u presents (R61, R62): of the seven lowest it selects, those that no lower tree selects. -/
def channelsOf (s : State) (u : Nat) : List Nat :=
  (((List.range 16).filter fun c => (s.get (U_MGMT.CH_MASK u)).testBit c).take 7).filter fun c =>
    (List.range u).all fun v => !((s.get (U_MGMT.CH_MASK v)).testBit c)

/-- Channels the management function of tree u presents, in rising order. -/
def channelsNow (s : State) (u : Nat) : List Nat := (List.range 16).filter fun c => (s.up u).chNow.testBit c

/-- A request of the host on pipe TARGET of tree u, KIND 0, is not ended: its data and status stages are answered NAK (R338). -/
def pipeBusy (s : State) (u target : Nat) : Bool :=
  (Tbl.get s.tk.mbox [] u).any fun m => m.kind == 0 && m.target == target

/-- The management function answers a token (R60, R65): endpoint 0 while its request runs, notices on EP1 IN, channel data and
notifications. -/
def mgmtToken (s : State) (u epn : Nat) (dirIn : Bool) : State :=
  if epn = 0 then (if s.pipeBusy u 8 then s.emit (.usb2 (96 + u) .nak) else s)
  else if epn = 1 ∧ dirIn = true then
    let l := (s.up u).notices
    if l.isEmpty then s.emit (.usb2 (96 + u) .nak)
    else
      let sent := (l.take 4).map fun r => [r.time, r.kind, r.code, r.arg0, r.arg1]
      (s.modUp u fun x => { x with notices := x.notices.drop 4 }).emit (.ctl u true sent.flatten)
  else if 2 ≤ epn ∧ epn ≤ 8 ∧ dirIn = true then
    match (s.channelsNow u)[epn - 2]? with
    | some c =>
      let carrier := if s.on (G_SB_CFG.ACTIVE c) then 3 else 0
      if (s.chan c).overrun || decide ((s.chan c).told ≠ carrier) then
        (s.modChan c fun h => { h with overrun := false, told := carrier }).emit (.ctl u true [carrier + 0x40 * (s.chan c).overrun.toNat])
      else s.emit (.usb2 (96 + u) .nak)
    | none => s
  else if 9 ≤ epn ∧ dirIn = true then
    match (s.channelsNow u)[epn - 9]? with
    | some c =>
      let m := if s.get (U_TREEST.LINK u) = 1 then 64 else 512
      let d := (s.chan c).rx.take m
      if d.isEmpty then s.emit (.usb2 (96 + u) .nak)
      else (s.modChan c fun h => { h with rx := h.rx.drop m }).emit (.bridge c true 0 d)
    | none => s
  else s

/-- A transaction goes to some ports of tree u (R72), and packets of theirs alone are repeated upstream (R73). -/
def repeatTo (s : State) (u : Nat) (l : List Nat) : State :=
  let s1 := l.foldl (fun s n => s.emit (.usb2 n .forward)) (s.modUp u fun x => { x with tokenTo := l })
  if l.isEmpty then s1 else s1.emit (.usb2 (96 + u) .forward)

/-- Front logical port l's hub or function answers: it is not suspended by itself (R157). -/
def lportAwake (s : State) (u l : Nat) : Bool := !(Tbl.get (s.up u).lports {} l).susp

/-- A token and its packets go to Dn (R72, R73), with data metered for counting (R24, R124, R125). -/
def portToken (s : State) (u n addr epn : Nat) (dirIn : Bool) (len : Nat) : State :=
  if s.ps n = Ps.enabled ∧ s.on (P_PORTST.SS_LINK n) = false ∧ s.get (P_LPST.SUSP_KIND n) = Susp.none ∧
      (s.get (P_PORTST.SPEED n) = 3 ∨ s.get (U_TREEST.LINK u) = 1) then
    let s1 := s.repeatTo u [n]
    if len = 0 then s1
    else
      let l := s1.epLookup n addr epn dirIn
      (l.1.meterBoth (l.1.stageA l.2 n dirIn) (192 + 2 * u + dirIn.toNat) len .green (l.1.neverRed l.2)).1
  else s

/-- A partner attaches on Uu's CC pins in the role it meets (R184): a sink where Uu presents Rp, which makes Uu source and DFP with
vSafe5V on its path; else a source. The orientation multiplexer is set (R187) to the pin the partner is on, which no command tells: a
free value. [log 58: DESIGN CHOICE] -/
def upPartner (s : State) (u : Nat) : State :=
  if (s.up u).attached then s
  else
    let src := (s.up u).rp
    let s1 := s.freeNext.modUp u fun x => { x with attached := true, mux := some (decide (s.freeVal 2 = 1)) }
    let s2 := ((s1.set (PD_ST.PWR_ROLE (96 + u)) src.toNat).set (PD_ST.DATA_ROLE (96 + u)) src.toNat).modEng (96 + u) fun g =>
      { g with srcDefault := src, pol := {} }
    if src then s2.rampStart (96 + u) else s2

/-- The partner of Uu leaves its CC pins: roles, contract and VCONN end, and a path it sourced turns off. -/
def upPartnerGone (s : State) (u : Nat) : State :=
  let s1 := ((s.softOff (96 + u)).set (PD_ST.PWR_ROLE (96 + u)) 0).set (PD_ST.DATA_ROLE (96 + u)) 0
  (s1.modUp u fun x => { x with attached := false, mux := none, vconn := false }).modEng (96 + u) fun g =>
    { g with srcDefault := false, pol := {}, request := none, swapAsked := 0, asked := 0 }

/-- The host of Uu is gone (R75, R82, R172): LINK falls to 0, the USB 3 hubs go, and the tree counts as asleep. The routing table and
the address-0 target stay as they are. [log 56: DESIGN CHOICE] -/
def hostGone (s : State) (u : Nat) : State :=
  let s1 := ((s.usb3Off u).setPort (96 + u) (U_TREEST.LINK u) 0).setPort (96 + u) (U_LPST.SS_LS u) Ls.rxDetect
  let s2 := (s1.modUp u fun x => { x with gen := 0, wakeFwd := [] }).upPartnerGone u
  ((s2.portsIn u).foldl connectPort s2).sleepRefresh u

end State

open State

def execPortMapWrite (n v : Nat) (s : State) : Res State := act s fun s => s.atPort n fun s => (s.wrPMap n v).answer .ok

/-- The 10 ms SE0 ends on Dk, or on the management function of tree k − 96 (R51, R62): a local place waits for its tree's boundary; a
remote one is presented when the presenter has answered (R416). -/
def execMoveSe0End (k : Nat) (s : State) : Res State :=
  act s fun s =>
    if k < 96 then
      if (s.port k).move = .se0 then
        let s1 := s.modPort k fun p => { p with move := .newBoundary }
        match s1.placeOf k with
        | .there _ _ _ _ => s1.presentPort k
        | _ => s1
      else s
    else if (s.up (k - 96)).mgmtMove = .se0 then s.modUp (k - 96) fun x => { x with mgmtMove := .newBoundary }
    else s

/-- Dn has waited ENUM_TO for an address (R59). No frame gives an owner its presenter's ENUM_TO: a remotely presented port's wait is
the one this command reports. [log 56: DESIGN CHOICE] -/
def execEnumStall (n : Nat) (s : State) : Res State :=
  act s fun s =>
    let waits := match s.treeAt n with
      | some u => s.on (U_TREEST.LINK u) && s.on (U_TREE.ENUM_TO u)
      | none => (s.presenter n).isSome
    if waits && !(s.on (P_PORTST.ENUM_STALL n)) &&
        (decide (s.ps n = Ps.disabled) || (decide (s.ps n = Ps.enabled) && !(s.on (P_PORTST.ADDR_VALID n)))) then
      (((s.setPort n (P_PORTST.ENUM_STALL n) 1).inc (R.P_ENUM_STALL_CNT n)).logOpen 0x02 0x01 n).faultOnset 44 n 0
    else s

/-- What a SET_ADDRESS on the SuperSpeed side reaches: logical port l of hub h, or with l = 0 the hub itself (R85). -/
def ssNamed (s : State) (u h l : Nat) : Option Target :=
  if l ≠ 0 then s.carrier u h l true
  else if h = 0 then some .frontHub
  else if s.bhHere u h then some (.backHub h) else none

/-- A function takes address a: a port records it, and the owner of a remote slot records it on its own port (R58, R70, R422). -/
def takeAddress (s : State) (t : Target) (a : Nat) : State :=
  match t with
  | .port n => s.portReq n (.address a)
  | .remote i => s.slotCmd i 15 a
  | _ => s

/-- A SET_ADDRESS(a) completes its status stage: on USB 2.0 for the address-0 target (R70); on SuperSpeed for the hub or device that its
route names (R58). -/
def execSetAddressComplete (u a : Nat) (ss : Bool) (h l : Nat) (s : State) : Res State :=
  act s fun s => s.atU u fun s =>
    if ss then
      if s.on (U_TREEST.USB3_HUB u) then
        match ssNamed s u h l with
        | some (.port n) => if s.on (P_PORTST.SS_LINK n) then takeAddress s (.port n) a else s
        | some (.remote i) => takeAddress s (.remote i) a
        | some t => s.modUp u fun x => { x with ssRoutes := Tbl.ins (Tbl.erase (x.ssRoutes.filter fun e => !(e.2 == t)) a) a t }
        | none => s
      else s
    else
      match (s.up u).target0 with
      | some t =>
        takeAddress (s.modUp u fun x => { x with routes := Tbl.ins (Tbl.erase x.routes a) a t, target0 := none }) t a
      | none => s

def execSetPortReset (u h l : Nat) (ss : Bool) (s : State) : Res State := act s fun s => s.hostReq u h l (.reset ss)

/-- The 15 ms reset of Dn ends (R66, R67): high speed where the chirp handshake succeeded and the tree runs at high speed (R81). -/
def execUsb2PortResetEnd (n : Nat) (chirp : Bool) (s : State) : Res State :=
  act s fun s =>
    if (s.port n).rst = 1 ∧ s.ps n = Ps.resetting then
      if (s.port n).dev = 0 then s.portGone n
      else
        let full := match s.treeAt n with
          | some u => decide (s.get (U_TREEST.LINK u) = 1)
          | none => false
        let sp := if chirp && decide ((s.port n).dev = 2) && !full then 3 else (s.port n).dev
        ((s.modPort n fun p => { p with rst := 0, cReset := true }).set (P_PORTST.SPEED n) sp).setPs n Ps.enabled
    else s

def execBhPortReset (u h l : Nat) (s : State) : Res State := act s fun s => s.hostReq u h l .bhReset

/-- A hot reset has not reached U0 at its maximum (R92 step 3). -/
def execHotResetEscalation (n : Nat) (s : State) : Res State :=
  act s fun s => if (s.port n).rst = 2 then s.warmReset n else s

/-- LFPS reset signalling ends (R92 step 5): Rx.Detect and Polling. -/
def execWarmResetLfpsEnd (n : Nat) (s : State) : Res State :=
  act s fun s => if (s.port n).rst = 3 then (s.setSs n Ls.polling).modPort n fun p => { p with rst := 4 } else s

/-- U0 is not reached (R92 step 6). -/
def execWarmResetFail (n : Nat) (s : State) : Res State :=
  act s fun s =>
    if (s.port n).rst = 4 then ((s.portGone n).setSs n Ls.rxDetect).inc (R.P_SS_RST_FAIL_CNT n) else s

/-- A device appears on Dn (R66): a pull-up of low (1) or full (2) speed, or none, and a SuperSpeed receiver or none. -/
def execDeviceConnect (n sp : Nat) (ss : Bool) (s : State) : Res State :=
  act s fun s => s.atD n fun s =>
    (s.modPort n fun p => { p with dev := sp, devSs := ss && hasSs s.variant }).connectPort n

/-- The device of Dn is gone (R66, R71, R118, R177). -/
def execDeviceDisconnect (n : Nat) (s : State) : Res State :=
  act s fun s => s.atD n fun s => ((s.modPort n fun p => { p with dev := 0, devSs := false }).portGone n).modPort n fun p => { p with on2 := false }

/-- Babble or loss of activity on Dn (R66). -/
def execPortEnableError (n : Nat) (s : State) : Res State :=
  act s fun s =>
    if s.ps n = Ps.enabled then
      ((s.modPort n fun p => { p with cEnable := true }).stallClear n).setPs n Ps.disabled
    else s

def execClearPortEnable (u h l : Nat) (s : State) : Res State := act s fun s => s.hostReq u h l .clearEnable

/-- SetPortFeature(PORT_POWER), answered with STALL when HOST_PWR = 0 (R68). -/
def execSetPortPower (u h l : Nat) (s : State) : Res State :=
  act s fun s => s.atU u fun s =>
    if s.on (U_TREE.HOST_PWR u) then s.hostReqAck u h l .setPower else s.emit (.ctl u false [])

/-- ClearPortFeature(PORT_POWER), answered with STALL when HOST_PWR = 0 (R68). -/
def execClearPortPower (u h l : Nat) (s : State) : Res State :=
  act s fun s => s.atU u fun s =>
    if s.on (U_TREE.HOST_PWR u) then s.hostReqAck u h l .clearPower else s.emit (.ctl u false [])

/-- A reset on Uu is recognised: on its USB 2.0 side, or a hot or warm reset on its SuperSpeed side (R75 steps 1 to 4). -/
def execUpstreamBusReset (u : Nat) (ss : Bool) (s : State) : Res State :=
  act s fun s => s.atU u fun s => (s.resetSide u ss).modUp u fun x =>
    { x with rstHs := x.rstHs || !ss, rstSs := x.rstSs || ss }

/-- The reset on one side of Uu ends (R75 steps 5 and 6). -/
def execBusResetEnd (side : BusSide) (s : State) : Res State :=
  act s fun s => s.atU side.u fun s =>
    if (if side.ss then (s.up side.u).rstSs else (s.up side.u).rstHs) then
      ((s.resetHubs side.u side.ss).resetPorts side.u side.ss).modUp side.u fun x => { x with rstHs := x.rstHs && side.ss, rstSs := x.rstSs && !side.ss }
    else s

/-- A high-speed token of the host of tree u and the packets that follow it, with `len` data bytes (R72, R73). -/
def execHsDownstreamToken (u addr epn : Nat) (dirIn : Bool) (pay : Payload) (s : State) : Res State :=
  act s fun s => s.atU u fun s =>
    if (s.up u).rstHs = true ∨ s.get (U_TREEST.LINK u) = 0 ∨ s.get (U_LPST.HS_STATE u) ≠ Hs.active then s
    else
      let x := s.up u
      let t := if addr = 0 then x.target0 else (x.routes.find? fun e => e.1 == addr).map (·.2)
      let quiet := s.repeatTo u []
      match t with
      | some (.port n) =>
        let s1 := quiet.portToken u n addr epn dirIn pay.len
        if epn = 0 then s1.devSeen n addr pay.seen else s1
      | some .mgmt => if s.lportAwake u 15 then quiet.mgmtToken u epn dirIn else quiet
      | some .frontHub => if epn = 0 ∧ s.pipeBusy u 0 = true then quiet.emit (.usb2 (96 + u) .nak) else quiet
      | some (.backHub b) =>
        if epn = 0 ∧ s.pipeBusy u b = true ∧ s.lportAwake u (15 - b) = true then quiet.emit (.usb2 (96 + u) .nak) else quiet
      | some (.remote _) => quiet
      | none => if addr = 0 then quiet else (s.inc (R.U_BCAST_CNT u)).repeatTo u (s.hsPorts u)

/-- SET_HUB_DEPTH: front hub (h = 0) or back hub h of tree u at depth d (R85). -/
def execSetHubDepth (u h d : Nat) (s : State) : Res State :=
  act s fun s => s.atU u fun s =>
    if h = 0 then s.modUp u fun x => { x with depth := d }
    else s.modUp u fun x => { x with bhDepth := Tbl.set x.bhDepth 0 h d }

/-- A device that connected on USB 2.0 while the tree had no host begins anew with it (R81): one that can run at SuperSpeed under a
high-speed host waits for that link. [log 55: DEDUCED] -/
def hostMeets (s : State) (hs : Bool) (n : Nat) : State :=
  let p := s.port n
  if p.on2 || s.on (P_PORTST.SS_LINK n) || decide (s.ps n ≠ Ps.disabled) then s
  else if hs && p.devSs then (s.portGone n).connectPort n
  else s.modPort n fun p => { p with on2 := true }

/-- A host's USB 2.0 link on Uu, at high or full speed (R81, R176). The routing table and the address-0 target stay as they are until the
host's bus reset. [log 56: DESIGN CHOICE] -/
def State.hostLink (s : State) (u : Nat) (hs : Bool) : State :=
  let s1 := (s.emit (.usb2 (96 + u) .connect)).modUp u fun x =>
    { x with ssAbsent := false, lports := x.lports.map fun e => (e.1, { e.2 with cConn := e.2.conn }) }
  let link := if hs then (if (s.up u).gen = 0 then 2 else 3) else 1
  let s2 := (s1.setPort (96 + u) (U_TREEST.LINK u) link).set (U_LPST.HS_STATE u) Hs.active
  let s3 := ((s2.portsIn u).foldl (hostMeets · hs) s2).usb3Refresh u
  (s3.sleepRefresh u).dormantExit

/-- A host attaches on Uu: it has a data link where Uu is UFP, and none as DFP (R234). -/
def execUpstreamHostAttach (u : Nat) (hs : Bool) (s : State) : Res State :=
  act s fun s => s.atU u fun s =>
    let s1 := s.upPartner u
    if s1.on (PD_ST.DATA_ROLE (96 + u)) then s1 else s1.hostLink u hs

/-- 360 ms after attach Uu's SuperSpeed link is not in U0 (R81): the devices that waited for it connect on USB 2.0. -/
def execSsUpstreamAbsent (u : Nat) (s : State) : Res State :=
  act s fun s => s.atU u fun s =>
    if s.get (U_TREEST.LINK u) = 2 ∨ s.get (U_TREEST.LINK u) = 1 then
      (s.portsIn u).foldl connectPort (s.modUp u fun x => { x with ssAbsent := true })
    else s

/-- Uu's SuperSpeed link trains and reaches U0 at generation `gen`: 1 Gen 1, 2 Gen 2, 3 Gen 2x2 (R44, R82), before or after the host's
USB 2.0 attach. Without SuperSpeed downstream ports its terminations are on only while the tree holds a remote one. -/
def execSsUpstreamU0 (u gen : Nat) (s : State) : Res State :=
  act s fun s => s.atU u fun s =>
    if hasSs s.variant || s.ssTree u then
      let s1 := if s.get (U_TREEST.LINK u) = 2 then s.setPort (96 + u) (U_TREEST.LINK u) 3 else s
      let s2 := (s1.setPort (96 + u) (U_LPST.SS_LS u) Ls.u0).modUp u fun x =>
        { x with gen := max 1 gen, ssAbsent := false, idleSince := s.timeUs }
      (((s2.usb3Refresh u).sleepRefresh u).dormantExit).romSlope (96 + u) gen
    else s

/-- Uu's SuperSpeed link is lost (R81, R82): the USB 3 hubs disappear, links go to SS.Disabled, devices may reconnect on USB 2.0. What
this does to remote slots no frame tells: they and their owners stay as they are. [log 56: DESIGN CHOICE] -/
def execSsUpstreamLoss (u : Nat) (s : State) : Res State :=
  act s fun s => s.atU u fun s =>
    if (s.up u).gen = 0 then s
    else
      let s1 := if s.get (U_TREEST.LINK u) = 3 then s.setPort (96 + u) (U_TREEST.LINK u) 2 else s
      let s2 := ((s1.setPort (96 + u) (U_LPST.SS_LS u) Ls.disabled).usb3Off u).modUp u fun x =>
        { x with gen := 0, ssAbsent := true, wakeFwd := [] }
      ((s2.portsIn u).foldl connectPort s2).sleepRefresh u

/-- The host of Uu detaches. -/
def execUpstreamHostDetach (u : Nat) (s : State) : Res State :=
  act s fun s => s.atU u fun s => s.hostGone u

end Sys2Proof.Machine
end

