-- ==== Sys2Proof/Machine/Split.lean ====
section
/-!
DEFINITION. Transaction translators (R76 to R79): start-splits, complete-splits and the transactions a TT runs.
-/

namespace Sys2Proof.Machine

namespace State

/-- Dn's TT serves it: a full- or low-speed device in ENABLED, in a tree that runs at high speed or in a remote one. -/
def ttServes (s : State) (n : Nat) : Bool :=
  s.dsHere n && s.dataOn && decide (s.ps n = Ps.enabled) && !(s.on (P_PORTST.SS_LINK n)) &&
    (decide (s.get (P_PORTST.SPEED n) = 1) || decide (s.get (P_PORTST.SPEED n) = 2)) &&
    match s.treeAt n with
    | some u => decide (2 ≤ s.get (U_TREEST.LINK u))
    | none => true

/-- The microframe the tree of Dn is in, as TT stages count it. -/
def ttNow (s : State) (n : Nat) : Nat :=
  match s.treeAt n with
  | some u => (s.up u).mfCount
  | none => s.timeUs / 125

/-- Answer on the upstream port of Dn's tree. -/
def ttAnswer (s : State) (n : Nat) (sig : Usb2) : State :=
  match s.treeAt n with
  | some u => s.emit (.usb2 (96 + u) sig)
  | none => s

/-- A complete-split answered ERR (R77, R83). -/
def ttErr (s : State) (n : Nat) : State := (s.inc (R.P_TT_ERR_CNT n)).ttAnswer n .err

/-- Words of a packet of L bytes in Caldera (R84). [log 28: DEDUCED] -/
def wordsOf (len : Nat) : Nat := 3 + (len + 7) / 8

/-- Policers of a transfer of Dn, and whether it came over KCL: stage A by direction, stage B the aggregate of its tree's upstream port
(R125). A remotely presented port's IN leaves by the aggregate of its exit link, and its OUT came by the one it arrived on (R418). -/
def ttStages (s : State) (n e1 : Nat) (dirIn : Bool) : Nat × Nat × Bool :=
  let own := s.stageA e1 n dirIn
  match s.treeAt n with
  | some u => (own, 192 + 2 * u + dirIn.toNat, false)
  | none => match (s.presenter n).bind fun c => s.linkFor c 0 with
    | some v => if dirIn then (own, 193 + 2 * v, false) else (192 + 2 * v, own, true)
    | none => (own, own, false)

/-- Meter TT data; a red mark begins a hold of the endpoint (R130). Answers with the colour. -/
def ttMeter (s : State) (n e1 : Nat) (dirIn : Bool) (len : Nat) : State × Colour :=
  if len = 0 then (s, .green)
  else
    let st := s.ttStages n e1 dirIn
    let r := s.meterBoth st.1 st.2.1 len .green (s.neverRed e1 || st.2.2)
    if r.2.1 = .red then (r.1.holdBegin r.2.2 e1 len 2 none, .red) else (r.1, r.2.1)

/-- The packet of a split in the TT's queue: an OUT's data, or room reserved for an IN's. [log 28: DEDUCED] -/
def ttPacket (s : State) (n e1 addr epn : Nat) (dirIn : Bool) (len : Nat) (c : Colour) : Packet :=
  { src := if dirIn then n else 104, egress := 100, port := n, kind := 4, entry := e1, cls := s.epClass e1
    addr := addr, epn := epn, dirIn := dirIn, colour := c, len := len, w := wordsOf len, written := wordsOf len }

/-- The TT accepts a start-split's data: it is looked up, checked against holds and red marks, metered, and given room in its queue. A
packet larger than the queue is discarded (R97); for want of room the TT stalls on the queue and answers NAK (R102). None when nothing
is held. [log 28: DEDUCED] -/
def ttAccept (s : State) (n addr epn : Nat) (dirIn : Bool) (len : Nat) : State × Option Nat :=
  let q := s.get (P_QSEL.TTQ n)
  let l := s.epLookup n addr epn dirIn
  if (l.1.holdOf l.2).isSome then (l.1, none)
  else if s.on (CD_QST.EN_ACT q) && decide (s.qSize q < wordsOf len) then (l.1.inc (R.CD_OVERSIZE_CNT q), none)
  else if !(l.1.qRoom q (wordsOf len)) then (l.1.qStallTt q n (wordsOf len), none)
  else
    let m := if dirIn then (l.1, Colour.green) else l.1.ttMeter n l.2 false len
    if m.2 = .red then (m.1, none)
    else
      let o := m.1.flow.next
      (m.1.qAdmit q (m.1.ttPacket n l.2 addr epn dirIn len m.2), some o)

/-- A split of this endpoint. -/
def splitIs (addr epn : Nat) (dirIn : Bool) (x : Split) : Bool := x.addr == addr && x.epn == epn && x.dirIn == dirIn

/-- A periodic split of an endpoint whose complete-splits are answered now (R77): the oldest in its window Y + 1 to Y + 3. -/
def ttDue (s : State) (n addr epn : Nat) (dirIn : Bool) : Option Split :=
  (s.tt n).per.find? fun x => splitIs addr epn dirIn x && decide (x.y + 1 ≤ s.ttNow n) && decide (s.ttNow n ≤ x.y + 3)

/-- The periodic transaction Dn's TT runs: the first in arrival order that is not done, not before its microframe Y (R77). -/
def ttRunning (s : State) (n : Nat) : Option Split :=
  (s.tt n).per.find? fun x => decide (x.st = .pending) && decide (x.y ≤ s.ttNow n)

/-- A full table of 64 entries gives up the oldest of a stage that is no longer in flight (R76). [log 55: DEDUCED] -/
def ttMakeRoom (s : State) (n : Nat) : State :=
  if (s.tt n).per.length < 64 then s
  else match (s.tt n).per.find? fun x => decide (x.y + 3 ≤ s.ttNow n) with
    | some x => s.ttDrop n fun z => z == x
    | none => s

/-- State of a split by the result of its transaction: 0 done, 1 NAK, 2 STALL, 3 failed, 4 not started before the end of the frame. -/
def splitResult (res : Nat) : SplitSt :=
  match res with
  | 0 => .done
  | 1 => .nak
  | 2 => .stall
  | _ => .failed

/-- The result of a finished IN or OUT is delivered (R77, R78): data, ACK, NAK, STALL or ERR; its words are freed. A bad word read for an
IN poisons it (R106). -/
def ttDeliver (s : State) (n : Nat) (x : Split) (one two : Nat) : State :=
  let q := s.get (P_QSEL.TTQ n)
  let s1 := if x.dirIn then s.readError q x.order one two else s
  let bad := x.poison || (match s1.pktAt q x.order with | some p => p.poison | none => false)
  let s2 := s1.qDrop q x.order
  match x.st with
  | .failed => s2.ttErr n
  | .nak => s2.ttAnswer n .nak
  | .stall => s2.ttAnswer n .stall
  | _ => if x.dirIn && bad then s2.ttErr n else s2.ttAnswer n (if x.dirIn then .data else .ack)

end State

open State

/-- A periodic start-split for Dn received in microframe Y − 1, with `len` data bytes, or room for them (R77). -/
def execPeriodicStartSplit (n addr epn : Nat) (dirIn : Bool) (len : Nat) (s : State) : Res State :=
  act s fun s =>
    if !(s.ttServes n) then s
    else if (s.tt n).flush then s.ttAnswer n .nak
    else
      let y := s.ttNow n + 1
      if 16 ≤ ((s.tt n).per.filter fun x => x.y == y).length then s
      else
        let r := (s.ttMakeRoom n).ttAccept n addr epn dirIn len
        match r.2 with
        | none => r.1.ttAnswer n .nak
        | some o => r.1.modTt n fun t => { t with per := t.per ++ [⟨addr, epn, dirIn, y, len, .pending, o, false⟩] }

/-- A periodic complete-split (R77); `one` and `two` count bad words found in the result's data. One that comes before microframe Y + 1 is answered
NYET, which the spec does not say. [log 56: DESIGN CHOICE] -/
def execPeriodicCompleteSplit (n addr epn : Nat) (dirIn : Bool) (errs : WordErrs) (s : State) : Res State :=
  act s fun s =>
    if !(s.ttServes n) then s
    else
      match s.ttDue n addr epn dirIn with
      | some x =>
        if x.st ≠ .pending then (s.modTt n fun t => { t with per := t.per.filter fun z => !(z == x) }).ttDeliver n x errs.one errs.two
        else if s.ttRunning n = some x then s.ttAnswer n .nyet
        else s.ttErr n
      | none =>
        if (s.tt n).per.any fun x => splitIs addr epn dirIn x && decide (s.ttNow n < x.y + 1) then s.ttAnswer n .nyet
        else s.ttErr n

/-- A non-periodic start-split for Dn (R78). -/
def execNonperiodicStartSplit (n addr epn : Nat) (dirIn : Bool) (len : Nat) (s : State) : Res State :=
  act s fun s =>
    if !(s.ttServes n) then s
    else if (s.tt n).flush || decide (4 ≤ (s.tt n).np.length) then s.ttAnswer n .nak
    else
      let r := s.ttAccept n addr epn dirIn len
      match r.2 with
      | none => r.1.ttAnswer n .nak
      | some o =>
        (r.1.modTt n fun t => { t with np := t.np ++ [⟨addr, epn, dirIn, 0, len, .pending, o, false⟩] }).ttAnswer n .ack

/-- A non-periodic complete-split (R78). A buffer is freed when its result has been delivered. One for which no buffer is held is answered
ERR and counted as one, which the spec does not say. [log 56: DESIGN CHOICE] -/
def execNonperiodicCompleteSplit (n addr epn : Nat) (dirIn : Bool) (fin : SplitEnd) (s : State) : Res State :=
  act s fun s =>
    if !(s.ttServes n) then s
    else
      match (s.tt n).np.find? (splitIs addr epn dirIn) with
      | none => s.ttErr n
      | some x =>
        if x.st = .pending then s.ttAnswer n .nyet
        else
          let s1 := (s.modTt n fun t => { t with np := t.np.filter fun z => !(z == x) }).ttDeliver n x fin.errs.one fin.errs.two
          if epn = 0 then s1.devSeen n addr fin.seen else s1

/-- A full- or low-speed transaction of Dn's TT ends, with `len` bytes of IN data and a result of `splitResult`; bad words in OUT data poison
it, which goes out with a bit-stuff violation and so fails (R106). Periodic transactions run in the order of their start-splits (R77). -/
def execTtTransactionDone (n addr epn : Nat) (dirIn : Bool) (res len : Nat) (errs : WordErrs) (s : State) : Res State :=
  act s fun s =>
    if !(s.ttServes n) then s
    else
      let q := s.get (P_QSEL.TTQ n)
      let per := (s.ttRunning n).filter (splitIs addr epn dirIn)
      let np := (s.tt n).np.find? fun x => splitIs addr epn dirIn x && decide (x.st = .pending)
      match per.or np with
      | none => s
      | some x =>
        let s1 := if dirIn then s else s.readError q x.order errs.one errs.two
        let bad := !dirIn && (match s1.pktAt q x.order with | some p => p.poison | none => false)
        let st := if bad then .failed else splitResult res
        let done := fun (l : List Split) => l.map fun z =>
          if z = x then { z with st := st, len := if dirIn then len else z.len } else z
        let s2 := (if bad then s1.emit (.usb2 n .badPacket) else s1).modTt n fun t => { t with per := done t.per, np := done t.np }
        if dirIn && decide (st = .done) then
          let l := s2.epLookup n addr epn true
          (l.1.ttMeter n l.2 true len).1
        else s2

/-- CLEAR_TT_BUFFER on logical port l of hub h (R78, R79). -/
def execClearTtBuffer (u h l addr epn : Nat) (s : State) : Res State :=
  act s fun s => s.hostReqAck u h l (.clearTt addr epn)

/-- RESET_TT on logical port l of hub h; in alternate setting 0 it resets every TT under the hub (R46, R79). -/
def execResetTt (u h l _value : Nat) (s : State) : Res State :=
  act s fun s =>
    if Tbl.get (s.up u).alts 0 h = 1 then s.hostReqAck u h l .resetTt
    else ((List.range 16).foldl (fun s i => s.hostReq u h i .resetTt) s).emit (.ctl u true [])

/-- GET_TT_STATE is answered with STALL (R79). -/
def execGetTtState (u : Nat) (s : State) : Res State := act s fun s => s.emit (.ctl u false [])

/-- STOP_TT is answered with STALL (R79). -/
def execStopTt (u : Nat) (s : State) : Res State := act s fun s => s.emit (.ctl u false [])

end Sys2Proof.Machine
end

