-- ==== Sys2Proof/Machine/Sched.lean ====
section
/-!
DEFINITION. Shapers (R137 to R142) and the scheduler of an egress (R143 to R149).
-/

namespace Sys2Proof.Machine

/-- A 32-bit field in two's complement. -/
def toInt32 (v : Nat) : Int := if v < 2 ^ 31 then v else (v : Int) - 2 ^ 32

/-- Periodic traffic, which the fabric carries on VC1 (R400). -/
def Packet.periodic (p : Packet) : Bool :=
  decide (p.kind = 3) || decide (p.kind = 6) || decide (p.cls = 1) || decide (p.cls = 3)

namespace State

/-! ### Links and windows (R144) -/

/-- Window size W of egress x in wire bytes. -/
def windowOf (s : State) (x : Nat) : Nat :=
  if x < 96 then
    (if s.on (P_PORTST.SS_LINK x) then (if (s.port x).gen = 1 then 76250 else 151250) else 7500)
  else if s.isKcl (x - 96) then 302500
  else match (s.up (x - 96)).gen with
    | 0 => 7500
    | 1 => 76250
    | 2 => 151250
    | _ => 302500

/-- Egress x sends at high speed or below: its port is not connected on SuperSpeed, or Uu has no SuperSpeed link. -/
def hsEgress (s : State) (x : Nat) : Bool :=
  if x < 96 then !(s.on (P_PORTST.SS_LINK x)) else !(s.isKcl (x - 96)) && decide ((s.up (x - 96)).gen = 0)

/-- Periodic ceiling in percent. -/
def ceilingOf (s : State) (x : Nat) : Nat := if s.hsEgress x then 80 else 90

/-- per_limit of egress x (R148). -/
def perLimit (s : State) (x : Nat) : Nat := s.windowOf x * min (s.get (TM_EG_CFG.RES x)) (s.ceilingOf x) / 100

/-- Wire bytes of a packet on egress x. -/
def wireOf (s : State) (x : Nat) (p : Packet) : Nat := 16 + p.len + s.get (TM_EG_CFG.OVH x)

/-- The link of egress x can send: at SuperSpeed in U0, at high speed while it is awake. -/
def canSend (s : State) (x : Nat) : Bool :=
  if s.hsEgress x then
    (if x < 96 then decide (s.ps x = Ps.enabled) && decide (s.get (P_PORTST.SPEED x) = 3) && decide (s.get (P_LPST.SUSP_KIND x) = Susp.none)
     else decide (s.get (U_TREEST.LINK (x - 96)) = 2) && decide (s.get (U_LPST.HS_STATE (x - 96)) = Hs.active))
  else if x < 96 then decide (s.get (P_LPST.SS_LS x) = Ls.u0)
  else if s.isKcl (x - 96) then s.linkUp (x - 96) else decide (s.get (U_LPST.SS_LS (x - 96)) = Ls.u0)

/-! ### Shapers -/

/-- The heat factor the egress's tree has latched (R141). -/
def heatOf (s : State) (x : Nat) : Nat :=
  if x < 96 then (match s.treeOf x with | some u => (s.up u).heat | none => s.get TM_HEAT.H) else (s.up (x - 96)).heat

/-- The shaper is closed (R139). -/
def shClosed (s : State) (x : Nat) : Bool :=
  decide (s.get (TM_SH_SLOPE.IDLE_SLOPE x) = 0) || (s.on (TM_SH_SLOPE.HEAT_EN x) && decide (s.heatOf x = 0))

/-- Class a head is scheduled in: SIGNAL 4, else R143. -/
def classOf (p : Packet) : Nat := if p.kind = 2 ∨ p.kind = 5 ∨ p.kind = 6 then p.cls else 4

/-- A bulk packet for the egress waits and is not red-held (R137). -/
def backlog (s : State) (x : Nat) : Bool :=
  s.queues.any fun e => e.2.pkts.any fun p => p.egress == x && decide (classOf p = 2) && !p.held && !p.gone && !p.started && !p.doomed

/-- BULK_GATED follows its level, with its count and its episode (R150, R153, R497). -/
def gateRefresh (s : State) (x : Nat) : State :=
  let g := s.backlog x && (s.shClosed x || decide ((s.egress x).credit < 0))
  let s1 := if g && !(s.on (TM_EG_ST.BULK_GATED x)) then s.inc (R.TM_SH_GATE_CNT x) else s
  (s1.set (TM_EG_ST.BULK_GATED x) g.toNat).watch 3 x g 0

/-- Egresses that a packet waits for, or that are gated. -/
def busyEgresses (s : State) : List Nat :=
  (((s.queues.map fun e => e.2.pkts.map fun p => p.egress).flatten.filter fun x => decide (x < 100)) ++
    s.egresses.keys).eraseDups

/-- Every gate level follows. -/
def gatesRefresh (s : State) : State := s.busyEgresses.foldl gateRefresh s

/-- An error in shaper state (F22, R524): credit and fraction are cleared. -/
def shParity (s : State) (x : Nat) : State :=
  (s.modEgress x fun e => { e with credit := 0, frac := 0 }).faultOnset 22 (256 + x) 0

/-- A use of the shaper's state is checked (R524). -/
def shUse (s : State) (x : Nat) : State := if s.injMatches 22 (256 + x) then s.shParity x else s

/-- Clamp a credit between LO and HI. -/
def shClamp (s : State) (x : Nat) (c : Int) : Int :=
  max (toInt32 (s.get (TM_SH_LO.LO x))) (min (s.get (TM_SH_HI.HI x) : Int) c)

/-- The tick update of R137, and FORGIVE after it (R140). -/
def shTick (s0 : State) (x : Nat) : State :=
  let s := s0.shUse x
  let e := s.egress x
  let heff := if s.on (TM_SH_SLOPE.HEAT_EN x) then s.heatOf x else 256
  let acc := e.frac + s.get (TM_SH_SLOPE.IDLE_SLOPE x) * heff / 256
  let gain : Int := (acc / 256 : Nat)
  let up : Int × Nat :=
    if s.shClosed x then (e.credit, e.frac)
    else
      let r : Int × Nat :=
        if s.backlog x || decide (0 < e.sent) then (e.credit + gain, acc % 256)
        else if e.credit < 0 then (min (e.credit + gain) 0, acc % 256)
        else (0, 0)
      (s.shClamp x (r.1 - e.sent), r.2)
  let fin : Int × Nat := if e.forgive then (max up.1 0, 0) else up
  (s.modEgress x fun e => { e with credit := fin.1, frac := fin.2, sent := 0, forgive := false }).gateRefresh x

/-- Fields of a shaper's apply group (R142). -/
def shGroup (x : Nat) : List Fld := [TM_SH_SLOPE.HEAT_EN x, TM_SH_SLOPE.IDLE_SLOPE x, TM_SH_HI.HI x, TM_SH_LO.LO x]

/-- Apply a shaper's group, or refuse it as a whole (R142); the credit is clamped. -/
def shApply (s : State) (x : Nat) : State :=
  if (shGroup x).any s.isStaged then
    if 0 < toInt32 (s.pendingOf (TM_SH_LO.LO x)) then ((shGroup x).foldl unstage s).inc R.TM_CFG_REJ_CNT
    else
      let s1 := (shGroup x).foldl apply s
      s1.modEgress x fun e => { e with credit := s1.shClamp x e.credit }
  else s

/-! ### The scheduler (R145 to R149) -/

/-- Payload rate of an ingress or egress link, in units of 10 MB/s (R95). -/
def rateOf (s : State) (k : Nat) : Nat :=
  if k < 96 then (if (s.port k).gen = 1 then 61 else 121)
  else if k < 100 then (match (s.up (k - 96)).gen with | 1 => 61 | 2 => 121 | _ => 242)
  else 242

/-- Words at which a packet may start by cut-through (R103). -/
def ctStart (s : State) (q : Nat) (p : Packet) : Nat :=
  let rin := s.rateOf p.src; let rout := s.rateOf p.egress
  max (s.get (CD_QTHR.CT_WORDS q)) ((p.w * (rout - rin) + rout - 1) / rout + 4)

/-- The packet may start before it is wholly written (R103). -/
def ctReady (s : State) (q : Nat) (p : Packet) : Bool :=
  decide (s.get (CD_QTHR.CT_WORDS q) ≠ 0) && !(s.hsEgress p.egress) && decide (p.kind ≠ 3) && decide (p.kind ≠ 4) && decide (s.ctStart q p < p.w) &&
    decide (s.ctStart q p ≤ p.written)

/-- The head of a queue is one that egress x may still start: not begun, or a timestamp that x has yet to read and has not chosen (R90). -/
def unread (s : State) (x q : Nat) (p : Packet) : Bool :=
  if p.kind = 3 then p.readers.contains x && !((s.egress x).stage.contains (q, p.order)) else p.egress == x && !p.started

/-- Heads of queues that egress x could start: whole or ready for cut-through, not begun, not to be flushed. Red-held ones are
among them. -/
def headsFor (s : State) (x : Nat) : List (Nat × Packet) :=
  s.queues.filterMap fun e =>
    match s.qHead e.1 with
    | some p =>
      if s.unread x e.1 p && !p.doomed &&
          (decide (p.written = p.w) || s.ctReady e.1 p) then
        some (e.1, p) else none
    | none => none

/-- The earliest admitted. -/
def earliest (l : List (Nat × Packet)) : Option (Nat × Packet) :=
  l.foldl (fun best c => match best with
    | none => some c
    | some b => if c.2.order < b.2.order then some c else some b) none

/-- A packet is deferred in this window, counted once (R147, R148). -/
def deferOnce (s : State) (x cntr : Nat) (p : Packet) : State :=
  if (s.egress x).deferred.contains p.order then s
  else ((s.modEgress x fun e => { e with deferred := p.order :: e.deferred }).inc cntr).set (TM_EG_ST.DEFERRED x) 1

/-- oldest() of R145 for one class, with the deferral of the heads that do not fit. `per` is the periodic room, for ISOCH and
INTERRUPT. -/
def pickClass (s : State) (x cls left : Nat) (per : Option Nat) : State × Option (Nat × Packet) :=
  let hs := (s.headsFor x).filter fun c => classOf c.2 == cls && !c.2.held
  let room := match per with | some r => r | none => left
  let s1 := hs.foldl (fun s c =>
    if room < s.wireOf x c.2 then s.deferOnce x (R.TM_RES_CNT x) c.2
    else if left < s.wireOf x c.2 then s.deferOnce x (R.TM_DEFER_CNT x) c.2 else s) s
  let s2 := if per.isNone then hs.foldl (fun s c =>
      if left < s.wireOf x c.2 then s.deferOnce x (R.TM_DEFER_CNT x) c.2 else s) s else s1
  (s2, earliest (hs.filter fun c => decide (s.wireOf x c.2 ≤ left) && decide (s.wireOf x c.2 ≤ room)))

/-- The group of an owner chip in a tree (R417). -/
def groupIdx (s : State) (chip u : Nat) : Option Nat :=
  (s.kcl.grps.find? fun e => e.2.used && e.2.chip == chip && e.2.tree == u).map (·.1)

/-- The round-robin member a bulk head of egress x belongs to (R146, R149, R417): port n, 100 + g for group g, 200 for a link's AQ,
1000 + q for a downstream egress's queue. -/
def memberOf (s : State) (x : Nat) (c : Nat × Packet) : Nat :=
  if x < 96 then 1000 + c.1
  else if s.isKcl (x - 96) then (if c.2.src < 96 then c.2.src else 200)
  else if c.2.chip ≠ 0 then (match s.groupIdx (c.2.chip - 1) (x - 96) with | some g => 100 + g | none => 100)
  else c.2.src

/-- Members of egress x, in rising order; of a downstream egress, its queues that hold a bulk packet or a deficit (R149). -/
def membersOf (s : State) (x : Nat) : List Nat :=
  if x < 96 then
    ((List.range 512).filter fun q => (Tbl.get (s.egress x).deficit 0 (1000 + q) != 0) ||
      (s.queue q).pkts.any fun p => !p.gone && p.egress == x && decide (classOf p = 2)).map fun q => 1000 + q
  else if s.isKcl (x - 96) then
    ((List.range (dsPorts s.variant)).filter fun n => match s.presenter n with
      | some c => s.linkFor c 0 == some (x - 96)
      | none => false) ++ [200]
  else s.portsIn (x - 96) ++ (s.kcl.grps.filterMap fun e => if e.2.used && e.2.tree == x - 96 then some (100 + e.1) else none)

/-- Quantum of a member (R150, R417); values below 64 are used as 64. -/
def quantumOf (s : State) (x m : Nat) : Nat :=
  max 64 (if 1000 ≤ m then s.get (TM_DRR_Q.QUANTUM x) else if m = 200 then s.get (KL_LQ_QNT.QUANTUM (x - 96))
    else if 100 ≤ m then s.get (KL_GRP_QNT.QUANTUM (m - 100)) else s.get (TM_DRR_Q.QUANTUM m))

/-- The member after m in the round. [log 25: DEDUCED] -/
def nextMember (l : List Nat) (m : Nat) : Nat :=
  match l.find? fun j => decide (m < j) with
  | some j => j
  | none => l.headD 0

/-- The current member: m, or the next one where m is no member. -/
def curMember (l : List Nat) (m : Nat) : Nat := if l.contains m then m else nextMember l m

/-- drr() of R146 in one colour, with `fuel` turns left. [log 25: DEDUCED] -/
def drr (s : State) (x : Nat) (green : Bool) (left : Nat) (ms : List Nat) (heads : List (Nat × Packet)) (fuel : Nat) :
    State × Option (Nat × Packet) :=
  match fuel with
  | 0 => (s, none)
  | fuel + 1 =>
    let m := curMember ms (s.egress x).cur
    let head := earliest (heads.filter fun c => s.memberOf x c == m)
    let fits := match head with
      | some c => (if green then decide (c.2.colour ≠ .yellow) && decide (c.2.colour ≠ .red) else decide (c.2.colour = .yellow)) &&
          !c.2.held && decide (s.wireOf x c.2 ≤ left)
      | none => false
    let d := Tbl.get (s.egress x).deficit 0 m
    match head, fits with
    | some c, true =>
      if s.wireOf x c.2 ≤ d then
        (s.modEgress x fun e => { e with cur := m, deficit := Tbl.set e.deficit 0 m (d - s.wireOf x c.2) }, some c)
      else if !((s.egress x).topped.contains m) then
        (s.modEgress x fun e =>
          { e with cur := m, deficit := Tbl.set e.deficit 0 m (d + s.quantumOf x m), topped := m :: e.topped }).drr
            x green left ms heads fuel
      else
        (s.modEgress x fun e => { e with cur := nextMember ms m, topped := e.topped.filter fun j => !(j == m) }).drr
          x green left ms heads fuel
    | _, _ =>
      let has := s.queues.any fun q => q.2.pkts.any fun p =>
        !p.gone && !p.started && p.egress == x && classOf p == 2 && s.memberOf x (q.1, p) == m
      (s.modEgress x fun e => { e with
        cur := nextMember ms m
        topped := e.topped.filter fun j => !(j == m)
        deficit := if has then e.deficit else Tbl.set e.deficit 0 m 0 }).drr x green left ms heads fuel

/-- The current member's packet does not fit in the window (R147). -/
def curDeferred (s : State) (x left : Nat) (ms : List Nat) (heads : List (Nat × Packet)) : Bool :=
  match earliest (heads.filter fun c => s.memberOf x c == curMember ms (s.egress x).cur) with
  | some c => !c.2.held && decide (left < s.wireOf x c.2)
  | none => false

/-- The round-robin pointer keeps its position at member m, topped up in its turn as it was (R147). -/
def keepCur (s : State) (x m : Nat) (topped : List Nat) : State :=
  s.modEgress x fun e =>
    { e with cur := m, topped := (if topped.contains m then [m] else []) ++ e.topped.filter fun j => !(j == m) }

/-- The bulk pick: gated as a whole, then the green and the yellow pass (R138, R145); a current member whose packet waits for the next
window keeps the pointer, which reads R147 beside the loop of R146. [log 25: DEDUCED] -/
def pickBulk (s : State) (x left : Nat) : State × Option (Nat × Packet) :=
  if s.shClosed x || decide ((s.egress x).credit < 0) then (s, none)
  else
    let heads := (s.headsFor x).filter fun c => classOf c.2 == 2
    let s1 := heads.foldl (fun s c => if left < s.wireOf x c.2 ∧ c.2.held = false then s.deferOnce x (R.TM_DEFER_CNT x) c.2 else s) s
    let ms := s.membersOf x
    let g := s1.drr x true left ms heads (2 * ms.length + 1)
    let r := match g.2 with
      | some c => (g.1, some c)
      | none => g.1.drr x false left ms heads (2 * ms.length + 1)
    (if s.curDeferred x left ms heads then r.1.keepCur x (curMember ms (s.egress x).cur) (s.egress x).topped else r.1, r.2)

/-- The first choice that finds a packet. -/
def orPick (r : State × Option (Nat × Packet)) (f : State → State × Option (Nat × Packet)) : State × Option (Nat × Packet) :=
  match r.2 with
  | some c => (r.1, some c)
  | none => f r.1

/-- pick() of R145. -/
def pick (s : State) (x left : Nat) : State × Option (Nat × Packet) :=
  let per := s.perLimit x - s.get (TM_EG_ST.PER_USED x)
  orPick (orPick (orPick (orPick (s.pickClass x 4 left none) fun s => s.pickClass x 1 left (some per)) fun s =>
    s.pickClass x 3 left (some per)) fun s => s.pickClass x 0 left none) fun s => s.pickBulk x left

/-- A packet starts on egress x (R144, R148, R154) and enters its staging buffer (R95). -/
def startPkt (s : State) (x q : Nat) (p : Packet) : State :=
  let w := s.wireOf x p
  let s1 := s.modPkt q p.order fun k => { k with started := true, cut := decide (k.written ≠ k.w) }
  let s2 := (s1.modEgress x fun e => { e with sent := e.sent + w, stage := e.stage ++ [(q, p.order)] }).addBytes (R.TM_EG_BYTES_LO x) w
  if classOf p = 1 ∨ classOf p = 3 then s2.set (TM_EG_ST.PER_USED x) (s2.get (TM_EG_ST.PER_USED x) + w) else s2

/-- What a packet that leaves on egress x sends (R106): a poisoned data packet ends with EDB, a poisoned transaction packet or
timestamp is not sent; on a KCL link the packet goes as a frame with its colour, unless the link runs KCL 1.0, and its poison tag
(R397, R399, R400). At high speed a poisoned packet ends as a TT's does. [log 62: DEDUCED] -/
def sendOut (s : State) (x : Nat) (p : Packet) : State :=
  if 96 ≤ x ∧ s.isKcl (x - 96) = true then
    let colour := if s.on (KL_LST.VER (x - 96)) then (match p.colour with | .yellow => 1 | .red => 2 | _ => 0) else 0
    let owner := if p.owner = 0 then (if p.toHost then s.get KL_ID.ID else p.chip - 1) else p.owner - 1
    let ty := if p.kind = 5 then 2 else if p.kind = 6 then 3 else 1
    s.kSend (x - 96) ⟨ty, if p.periodic then 1 else 2, p.chip - 1, 16 + p.len,
      [owner, p.port, p.epn, p.dirIn.toNat, colour, p.poison.toNat, p.toHost.toNat, p.kind, p.len] ++ p.args⟩
  else if s.hsEgress x then s.emit (.usb2 x (if p.poison then .badPacket else .data))
  else if p.poison then (if p.kind = 2 then s.emit (.ss x .edb p.len) else s)
  else s.emit (.ss x .packet (if p.kind = 1 then p.numP else p.len))

end State

end Sys2Proof.Machine
end

