-- ==== Sys2Proof/Machine/Super.lean ====
section
/-!
DEFINITION. SuperSpeed packets through Caldera (R84 to R90, R96 to R110), the choice and the end of a packet on an egress (R145, R95,
R103, R104), forced releases of red holds (R132) and FORGIVE (R140).
-/

namespace Sys2Proof.Machine

namespace State

/-! ### Where a downstream packet goes (R85, R86) -/

/-- Nibble j of a route string. -/
def nibble (route j : Nat) : Nat := route / 16 ^ j % 16

/-- What a route string names in tree u: one of the part's hubs, or what a logical port carries. -/
def routeOf (s : State) (u route : Nat) : Option Target :=
  let d := (s.up u).depth
  if nibble route d = 0 then some .frontHub
  else match s.carrier u 0 (nibble route d) true with
    | some (.backHub b) =>
      if nibble route (d + 1) = 0 then some (.backHub b) else s.carrier u b (nibble route (d + 1)) true
    | t => t

/-- Dn is connected on SuperSpeed. -/
def ssConnected (s : State) (n : Nat) : Bool :=
  s.on (P_PORTST.SS_LINK n) && decide (Ps.disabled ≤ s.ps n) && decide (s.ps n ≤ Ps.suspended)

/-! ### Admission -/

/-- VC a stored packet came by. -/
def vcOf (p : Packet) : Nat := if p.periodic then 1 else 2

/-- Credits to return to the peer of link v for a frame of `len` body bytes on a VC (R402). -/
def kOwe (s : State) (v vc len : Nat) : State :=
  s.modKlink v fun l => { l with owed := Tbl.set l.owed 0 vc (Tbl.get l.owed 0 vc + (8 + len + 63) / 64) }

/-- What follows the admission of packet p to queue q with order o: a red-marked packet from a device begins its hold (R130), a
packet for the part's hubs posts event 13 (R325), and one from a KCL link frees its VC buffer (R402). -/
def admitted (s : State) (q o : Nat) (p : Packet) : State :=
  if p.held then s.holdBegin p.pol p.entry p.len 0 (some (q, o))
  else if 100 ≤ p.src ∧ p.src < 104 then s.kOwe (p.src - 100) (vcOf p) (16 + p.len)
  else if p.egress = 100 ∧ p.kind ≤ 2 then s.postRouted 13
  else s

/-- What follows the outcome of a write request of ingress k: an oversize packet is answered as a corrupted one (R97). -/
def afterRequest (s : State) (k q : Nat) (p : Packet) (r : Adm) : State :=
  match r with
  | .admitted o => s.admitted q o p
  | .stalled => s
  | .oversize => if k < 100 then s.emit (.ss k .retry 0) else s.kOwe (k - 100) (vcOf p) (16 + p.len)

/-- A packet from ingress k asks queue q for its words (R97, R102). -/
def ingest (s : State) (k q : Nat) (p : Packet) : State :=
  let r := s.qRequest q p
  r.1.afterRequest k q p r.2

/-- A packet that leaves on KCL link v by its link queues (R414). -/
def toLinkQueue (s : State) (k v : Nat) (p : Packet) : State :=
  if s.on (KL_LQ.EN v) then
    s.ingest k (s.get (if p.periodic then KL_LQ.PQ v else KL_LQ.AQ v)) { p with egress := 96 + v }
  else s.inc (R.KL_NOROUTE_CNT v)

/-- A packet of link v waits at the head of its VC for its queue. -/
def kclWaiting (s : State) (v vc : Nat) : Bool :=
  s.queues.any fun e => e.2.wait.any fun p => p.src == 100 + v && vcOf p == vc

/-- A packet of link v asks its queue, or waits behind the packet at the head of its VC (R402). [log 37: DEDUCED] -/
def kIngest (s : State) (v q : Nat) (p : Packet) : State :=
  if s.kclWaiting v (vcOf p) then s.modKlink v fun l => { l with stalled := l.stalled ++ [(vcOf p, q, p)] }
  else s.ingest (100 + v) q p

/-- The VC's head has left: those behind it follow until one stalls. -/
def kPump (s : State) (v vc : Nat) : State :=
  ((s.klink v).stalled.filter fun e => e.1 == vc).foldl (fun s e =>
    if s.kclWaiting v vc then s
    else (s.modKlink v fun l => { l with stalled := l.stalled.erase e }).ingest (100 + v) e.2.1 e.2.2) s

/-- A packet in either direction on Dn's link, for its idle times (R164). -/
def touchPort (s : State) (n : Nat) : State := s.modPort n fun p => { p with idleSince := s.timeUs }

/-- A packet in either direction on Uu. -/
def touchUp (s : State) (u : Nat) : State := s.modUp u fun x => { x with idleSince := s.timeUs }

/-- Kind of a packet by its type operand: 0 transaction packet, 1 ACK transaction packet, 2 data packet. -/
def ssPacket (src addr epn : Nat) (dirIn : Bool) (ty len seq numP : Nat) (whole : Bool) : Packet :=
  let l := if ty = 2 then len else 0
  let w := if ty = 2 then wordsOf len else 3
  { src := src, kind := ty, addr := addr, epn := epn, dirIn := dirIn, len := l, w := w
    written := if whole then w else 3, seq := seq, numP := numP }

/-- A notice of Dn's link toward its host: sent on Uu here, or carried as a transaction packet to the presenter. -/
def upNotice (s : State) (n : Nat) (sig : SsSig) (epn : Nat) : State :=
  match s.treeAt n with
  | some u => s.emit (.ss (96 + u) sig epn)
  | none => match s.presenter n with
    | some c => match s.linkFor c 0 with
      | some v => s.toLinkQueue n v { src := n, kind := 0, chip := c + 1, port := n, epn := epn, toHost := true }
      | none => s
    | none => s

/-- The entry of an endpoint is for a control endpoint, which has both directions. -/
def isControl (s : State) (e1 : Nat) : Bool := decide (e1 ≠ 0) && decide (s.get (EP_KEY.TYPE (e1 - 1)) = 0)

/-- The queue of a packet of Dn's endpoint e1 that travels up or down: the entry's for what travels in the endpoint's own direction, data
or not, so that its order is kept (R88); the port's default queue of that direction otherwise (R119). [log 28: DEDUCED] -/
def queueFor (s : State) (e1 n : Nat) (up : Bool) (p : Packet) : Nat :=
  if e1 ≠ 0 ∧ (p.kind = 2 ∨ s.isControl e1 = true ∨ p.dirIn = up) then s.get (EP_MAP.QUEUE (e1 - 1))
  else s.get (if up then P_QSEL.DEFQ_IN n else P_QSEL.DEFQ_OUT n)

/-- Queue a downstream packet toward Dn, from Uu (`link` none) or from a KCL link: an ACK for an IN endpoint in hold keeps its NumP
and goes with 0; data for an OUT endpoint in hold, or marked red, is answered NRDY (R130). Data from a link is metered by the arrival
link's policer and the endpoint's, and never marked red (R125, R418); it waits behind what its VC holds back. [log 28: DEDUCED] -/
def queueDown (s : State) (k : Nat) (link : Option Nat) (n : Nat) (p : Packet) (seq : Nat) : State :=
  let l := s.epLookup n p.addr p.epn p.dirIn
  let s1 := l.1
  let p1 := { p with egress := n, port := n, entry := l.2, cls := if p.kind = 2 then s1.epClass l.2 else p.cls, toHost := false }
  let q := s1.queueFor l.2 n false p
  let put := fun (s : State) (p : Packet) => match link with
    | some v => s.kIngest v q p
    | none => s.ingest k q p
  if p.kind = 2 then
    if (s1.holdOf l.2).isSome && link.isNone then s1.upNotice n .nrdy p.epn
    else
      let m := match link with
        | some v => s1.meterBoth (192 + 2 * v) (s1.stageA l.2 n false) p.len p.colour true
        | none => s1.meterBoth (s1.stageA l.2 n false) (192 + 2 * (k - 96)) p.len .green (s1.neverRed l.2)
      if m.2.1 = .red then (m.1.holdBegin m.2.2 l.2 p.len 1 none).upNotice n .nrdy p.epn
      else put m.1 { p1 with colour := m.2.1 }
  else
    match s1.holdOf l.2 with
    | some h =>
      if p.kind = 1 ∧ h.path = 0 then
        put (s1.modHold h.entry fun x => { x with seq := seq, numP := p.numP }) { p1 with numP := 0 }
      else put s1 p1
    | none => put s1 p1

/-- Return a header to the host with the Deferred flag; ERDY follows at U0 (R89). -/
def deferPkt (s : State) (n : Nat) (p : Packet) : State :=
  (s.upNotice n .deferred p.epn).modPort n fun x =>
    { x with deferred := if x.deferred.contains (p.epn, p.dirIn) then x.deferred else x.deferred ++ [(p.epn, p.dirIn)] }

/-- A downstream packet for Dn, connected on SuperSpeed (R89): queued in U0; held while its link leaves U1 or U2, and while it is in
Recovery within the hub allowance; deferred otherwise. The spec gives the allowance no length, so a free value says whether it has
passed. [log 57: DESIGN CHOICE] -/
def deliverDown (s : State) (k : Nat) (link : Option Nat) (n : Nat) (p : Packet) (seq : Nat) : State :=
  let ls := s.get (P_LPST.SS_LS n)
  if ls = Ls.u0 then (s.touchPort n).queueDown k link n p seq
  else if ls = Ls.u1 ∨ ls = Ls.u2 then (s.exitStart n).queueDown k link n p seq
  else if ls = Ls.recovery then
    (if s.freeVal 2 = 0 then s.freeNext.queueDown k link n p seq else s.freeNext.deferPkt n p)
  else s.deferPkt n p

/-- A downstream packet for Dn (R86): discarded and counted where Dn is not connected on SuperSpeed. -/
def toPort (s : State) (u n : Nat) (p : Packet) (seq : Nat) : State :=
  if s.ssConnected n then s.deliverDown (96 + u) none n p seq else s.inc (R.U_ROUTE_ERR_CNT u)

/-- The port of slot i is connected on SuperSpeed, as its owner last reported it. -/
def slotSs (s : State) (i : Nat) : Bool :=
  let st := (Tbl.get s.kcl.slots {} i).st
  decide (st.2.2.1 ≠ 0) && decide (Ps.disabled ≤ st.1) && decide (st.1 ≤ Ps.suspended)

/-- A downstream packet for a remote slot (R86, R422): metered where it enters the fabric, by the aggregates of Uu and of the link it
leaves by, and carried toward the owner (R87, R123, R412, R414, R418). An endpoint of another part has no entry here, so it is never
marked red (R128). -/
def toSlot (s : State) (u i : Nat) (p : Packet) : State :=
  let e := Tbl.get s.kcl.slots {} i
  if !(s.slotSs i) then s.inc (R.U_ROUTE_ERR_CNT u)
  else match s.linkFor e.chip 0 with
  | none => s
  | some v =>
    let p1 := { p with chip := e.chip + 1, port := e.port, cls := 2 }
    if p.kind = 2 then
      let m := s.meterBoth (192 + 2 * u) (193 + 2 * v) p.len .green true
      m.1.toLinkQueue (96 + u) v { p1 with colour := m.2.1 }
    else s.toLinkQueue (96 + u) v p1

/-- A packet for one of the part's own USB 3 hubs (R86): its data is metered as data received on Uu (R124, R125). -/
def toHub (s : State) (u : Nat) (p : Packet) : State :=
  let m := if p.kind = 2 then s.meterBoth (192 + 2 * u) (192 + 2 * u) p.len .green true else (s, p.colour, 0)
  m.1.ingest (96 + u) (s.get (U_QSEL.HUBQ u)) { p with egress := 100, colour := m.2.1 }

/-- Queue a packet received on Dn (R87, R119, R125): toward the upstream of its tree, or toward the presenter. [log 28: DEDUCED] -/
def queueUp (s : State) (n x : Nat) (p : Packet) : State :=
  let l := s.epLookup n p.addr p.epn p.dirIn
  let s1 := l.1
  let chip := match (s1.port n).slot with
    | some _ => 0
    | none => match (s1.port n).presTo with
      | some (c, _, _, _) => c + 1
      | none => 0
  let p1 := { p with egress := x, port := n, chip := chip, entry := l.2, toHost := true
                     cls := if p.kind = 2 then s1.epClass l.2 else p.cls }
  let q := s1.queueFor l.2 n true p
  if p.kind = 2 then
    let m := s1.meterBoth (s1.stageA l.2 n true) (193 + 2 * (x - 96)) p.len .green (s1.neverRed l.2)
    let red := decide (m.2.1 = .red)
    m.1.ingest n q { p1 with colour := m.2.1, held := red, pol := if red then m.2.2 else 0 }
  else
    match s1.holdOf l.2 with
    | some h => s1.ingest n q (if p.kind = 1 ∧ h.path = 1 then { p1 with numP := 0 } else p1)
    | none => s1.ingest n q p1

/-! ### Egress -/

/-- Egress x has room for one more packet in its staging buffer, and its link can send (R95). -/
def egressRoom (s : State) (x : Nat) : Bool := decide ((s.egress x).stage.length < 2) && s.canSend x

/-- Egress x is idle (R103). -/
def egressIdle (s : State) (x : Nat) : Bool := (s.egress x).stage.isEmpty && s.canSend x

/-- The egress chooses and starts a packet (R145). -/
def egressStart (s : State) (x left : Nat) : State :=
  if s.egressRoom x then
    let r := s.pick x left
    match r.2 with
    | some (q, p) => r.1.startPkt x q p
    | none => r.1
  else s

/-- Egress x has finished with packet o of queue q: a timestamp goes with its last reader (R90). -/
def egressEnd (s : State) (x q o : Nat) : State :=
  let s1 := (s.modEgress x fun e => { e with stage := e.stage.filter fun c => !(c == (q, o)) }).modPkt q o fun k =>
    { k with readers := k.readers.filter fun j => !(j == x) }
  match s1.pktAt q o with
  | some p => if p.kind = 3 ∧ p.readers ≠ [] then s1 else s1.qDrop q o
  | none => s1

/-- A packet that a queue keeps is not wholly written. -/
def unfinished (s : State) (q : Nat) : Option Packet := (s.queue q).pkts.find? fun p => !p.gone && decide (p.written < p.w)

/-- A cut-through packet has been wholly written and read: it ends on its egress, with EDB where a bad word poisoned it (R104, R105). -/
def cutEnd (s : State) (q o one two : Nat) : State :=
  match s.pktAt q o with
  | some p =>
    if p.started && p.cut && decide (p.written = p.w) then
      let s1 := s.readError q o one two
      let bad := match s1.pktAt q o with
        | some k => k.poison
        | none => p.poison
      let s2 := if bad && !p.poison then s1.inc (R.CD_CT_ABORT_CNT q) else s1
      (s2.sendOut p.egress { p with poison := bad }).egressEnd p.egress q o
    else s
  | none => s

/-- The packet being written to q is ended as aborted: EDB where its egress had begun (R104), else it goes. -/
def abortWrite (s : State) (q : Nat) : State :=
  match s.unfinished q with
  | some p =>
    if p.started then
      ((s.emit (.ss p.egress .edb p.len)).inc (R.CD_CT_ABORT_CNT q)).egressEnd p.egress q p.order
    else s.qDrop q p.order
  | none => s

/-- Boundary B of queue q's flush, with what waits for it: TTs whose queue it is (R75), and the threads that asked (R333). -/
def flushDone (s : State) (q : Nat) : State :=
  if s.on (CD_QST.FLUSH_BUSY q) then
    let ask := (s.queue q).askers
    let s1 := (s.qFlushEnd q).modQueue q fun x => { x with askers := [] }
    let s2 := ((s1.tts.filter fun e => e.2.flush && s1.get (P_QSEL.TTQ e.1) == q).map (·.1)).foldl
      (fun s n => (s.dropSplits n).modTt n fun t => { t with flush := false }) s1
    ask.foldl (fun s t => s.post t 14) s2
  else s

/-- A write of 1 to CD_QCTL[q].FLUSH, refused before CALDERA is ready (R449). -/
def wrFlush (s : State) (q : Nat) : State :=
  if s.on G_READY.CALDERA then (s.qFlush q).answer .ok else (s.inc R.CD_CFG_REJ_CNT).answer .wrongState

/-- A write of 1 to bit j of TM_SH_FORGIVE[i] (R140). -/
def forgive (s : State) (x : Nat) : State := s.modEgress x fun e => { e with forgive := true }

/-- ERDY to the host for what was deferred, now that Dn's link is in U0 (R89). -/
def erdyDeferred (s : State) (n : Nat) : State :=
  let l := (s.port n).deferred
  l.foldl (fun s e => s.upNotice n .erdy e.1) (s.modPort n fun p => { p with deferred := [] })

/-- Forward a Function Wake of Dn: Uu leaves U1, U2 or U3 first where it must (R166, R173, R176); a remotely presented port's goes to its
presenter (R174). -/
def forwardWake (s : State) (n : Nat) : State :=
  match s.treeAt n with
  | some u =>
    if s.get (U_LPST.SS_LS u) = Ls.u0 then s.emit (.ss (96 + u) .packet 0)
    else
      let s1 := s.modUp u fun x => { x with wakeFwd := x.wakeFwd ++ [n] }
      if s.get (U_LPST.SS_LS u) = Ls.u1 ∨ s.get (U_LPST.SS_LS u) = Ls.u2 then s1.emit (.ss (96 + u) .exitLfps 0) else s1.u3Wake u
  | none => s.upNotice n .packet 0

/-- Uu is in U0: the Function Wakes that waited for it are forwarded (R166, R173). -/
def flushWakes (s : State) (u : Nat) : State :=
  ((s.up u).wakeFwd).foldl (fun s _ => s.emit (.ss (96 + u) .packet 0)) (s.modUp u fun x => { x with wakeFwd := [] })

end State

open State

/-- A downstream SuperSpeed packet of the host of tree u: `ty` 0 transaction packet, 1 ACK transaction packet, 2 data packet;
`whole` is false while only its header has arrived (R85, R86, R89). -/
def execSsDownstreamPacket (u route addr epn : Nat) (dirIn : Bool) (ty : Nat) (pay : Payload) (seq numP : Nat) (whole : Bool)
    (s : State) : Res State :=
  act s fun s => s.atU u fun s =>
    if s.get (U_LPST.SS_LS u) = Ls.u0 ∧ s.on (U_TREEST.USB3_HUB u) = true then
      let p := { ssPacket (96 + u) addr epn dirIn ty pay.len seq numP whole with route := route }
      let s0 := s.touchUp u
      (match s0.routeOf u route with
        | some (.port n) => if epn = 0 then (s0.toPort u n p seq).devSeen n addr pay.seen else s0.toPort u n p seq
        | some (.remote i) => s0.toSlot u i p
        | some .frontHub => s0.toHub u p
        | some (.backHub _) => s0.toHub u p
        | _ => s0.inc (R.U_ROUTE_ERR_CNT u)).gatesRefresh
    else s

/-- A SuperSpeed packet received on Dn (R87, R130). -/
def execSsUpstreamPacket (n addr epn : Nat) (dirIn : Bool) (ty len numP : Nat) (whole : Bool) (s : State) : Res State :=
  act s fun s => s.atD n fun s =>
    if s.ssConnected n && decide (s.get (P_LPST.SS_LS n) = Ls.u0) then
      let p := ssPacket n addr epn dirIn ty len 0 numP whole
      let s0 := s.touchPort n
      match s0.treeAt n with
      | some u => ((s0.touchUp u).queueUp n (96 + u) p).gatesRefresh
      | none =>
        match s0.presenter n with
        | some c => match s0.linkFor c 0 with
          | some v => (s0.queueUp n (96 + v) p).gatesRefresh
          | none => s0
        | none => s0
    else s

/-- A timestamp packet of the host of tree u is written once for every port of the tree in U0 (R90); owner chips of remote slots get
their copies by their links. [log 49: DEDUCED] -/
def execItpReceived (u : Nat) (s : State) : Res State :=
  act s fun s => s.atU u fun s =>
    if s.get (U_LPST.SS_LS u) = Ls.u0 ∧ s.on (U_TREEST.USB3_HUB u) = true then
      let readers := (s.portsIn u).filter fun n => s.ssConnected n && decide (s.get (P_LPST.SS_LS n) = Ls.u0)
      let itp : Packet := { src := 96 + u, egress := 100, kind := 3, readers := readers }
      let s1 := if readers.isEmpty then s.touchUp u else (s.touchUp u).ingest (96 + u) (s.get (U_QSEL.ITPQ u)) itp
      let chips := ((s1.slotsIn u).map fun i => (Tbl.get s1.kcl.slots {} i).chip).eraseDups
      chips.foldl (fun s c => match s.linkFor c 0 with
        | some v => s.toLinkQueue (96 + u) v { itp with chip := c + 1, readers := [] }
        | none => s) s1
    else s

/-- 125 µs after its write, the oldest timestamp of the tree's queue goes, read or not (R90). -/
def execItpReleaseTimeout (u : Nat) (s : State) : Res State :=
  act s fun s =>
    let q := s.get (U_QSEL.ITPQ u)
    match (s.queue q).pkts.find? fun p => !p.gone && p.kind == 3 with
    | some p => s.qDrop q p.order
    | none => s

/-- A producer asks queue q for the words of a data packet (R97, R100, R102): `src` as the metadata word names an ingress, egress x. -/
def execQueueWriteRequest (q src x cls len : Nat) (s : State) : Res State :=
  act s fun s =>
    (s.ingest src q { src := src, egress := x, kind := 2, cls := if cls < 4 then cls else 2, len := len, w := wordsOf len, written := wordsOf len
                      colour := .green }).gatesRefresh

/-- Words have become free: the first stalled producer is served (R102). -/
def execQueueSpaceGranted (q : Nat) (s : State) : Res State :=
  act s fun s =>
    let r := s.qGrant q
    match r.2 with
    | none => s
    | some (p, a) =>
      let s1 := r.1.afterRequest p.src q p a
      (if 100 ≤ p.src ∧ p.src < 104 then s1.kPump (p.src - 100) (vcOf p) else s1).gatesRefresh

def execQueueConfigWrite (q v : Nat) (s : State) : Res State := act s fun s => s.wrQcfg q v

/-- The packet being written to q has `words` words by now, and `left` wire bytes remain in its egress's window: it may start by
cut-through, and ends on its egress once it is whole, with `one` and `two` bad words read by then (R103, R105). -/
def execCutThroughStart (rd : QueueRead) (words left : Nat) (s : State) : Res State :=
  act s fun s =>
    match s.unfinished rd.q with
    | some p =>
      let s1 := s.modPkt rd.q p.order fun k => { k with written := max k.written (min words k.w) }
      let s2 := match s1.pktAt rd.q p.order with
        | some k => if !k.started && s1.ctReady rd.q k && decide (k.egress < 100) && s1.egressIdle k.egress then
            s1.egressStart k.egress left else s1
        | none => s1
      (s2.cutEnd rd.q p.order rd.errs.one rd.errs.two).gatesRefresh
    | none => s

/-- The CRC of a cut-through packet fails, poison is found in it, or its ingress stalls for 100 µs (R104); bad words read by then count
(R105). -/
def execCutThroughAbort (rd : QueueRead) (s : State) : Res State :=
  act s fun s =>
    match (s.queue rd.q).pkts.find? fun p => !p.gone && p.started && p.cut with
    | some p =>
      ((((s.readError rd.q p.order rd.errs.one rd.errs.two).emit (.ss p.egress .edb p.len)).inc (R.CD_CT_ABORT_CNT rd.q)).egressEnd p.egress rd.q p.order).gatesRefresh
    | none => s

/-- Egress x is free, with `left` wire bytes before its next boundary (R144, R145). -/
def execEgressPick (x left : Nat) (s : State) : Res State := act s fun s => (s.egressStart x left).gatesRefresh

/-- The chosen packet is wholly staged and sent (R95, R105, R106); `one` and `two` count the bad words read. -/
def execPacketStaged (x : Nat) (errs : WordErrs) (s : State) : Res State :=
  act s fun s =>
    match (s.egress x).stage with
    | (q, o) :: rest =>
      match s.pktAt q o with
      | some p =>
        if p.written < p.w then s
        else
          let s1 := s.readError q o errs.one errs.two
          let p1 := { p with poison := p.poison || (match s1.pktAt q o with | some k => k.poison | none => false) }
          ((s1.sendOut x p1).egressEnd x q o).gatesRefresh
      | none => s.modEgress x fun e => { e with stage := rest }
    | [] => s

/-- A master reads CD_QST[q] (R112, R524). -/
def execEpisodeSeenRead (q : Nat) (s : State) : Res State :=
  act s fun s => (((s.watchSeen 1 q).watchSeen 2 q).qUse q)

def execProtectionWrite (v : Nat) (s : State) : Res State := act s fun s => s.wrProt v

def execQueueFlush (q : Nat) (s : State) : Res State := act s fun s => s.wrFlush q

/-- Boundary B is reached (R109): not while a packet begun before the request is still being written. -/
def execFlushBoundary (q : Nat) (s : State) : Res State :=
  act s fun s =>
    if s.flushWaits q then s else (s.flushDone q).gatesRefresh

/-- No word for 100 µs while a flush waits (R110): the packet ends as aborted and B is reached. -/
def execFlushProducerTimeout (q : Nat) (s : State) : Res State :=
  act s fun s =>
    if s.on (CD_QST.FLUSH_BUSY q) then
      match s.unfinished q with
      | some p =>
        if p.started then ((s.abortWrite q).flushDone q).gatesRefresh
        else ((s.modPkt q p.order fun k => { k with written := k.w, doomed := true }).flushDone q).gatesRefresh
      | none => (s.flushDone q).gatesRefresh
    else s

/-- The oldest hold of policer p that has lasted past RED_MAX boundaries ends (R132). -/
def execRedHoldForced (p : Nat) (s : State) : Res State :=
  act s fun s =>
    match s.flow.holds.find? fun h => h.pol == p && decide (s.redMax p < h.age) with
    | some h => (s.holdForce h).gatesRefresh
    | none => s

def execForgive (x : Nat) (s : State) : Res State := act s fun s => (s.forgive x).answer .ok

/-- The link of Dn reaches U0 at generation `gen` (R66, R89, R92, R165, R166, R170): a reset completes, a resumed port is ENABLED, a
deferred endpoint's host receives ERDY. -/
def execSsLinkU0 (n gen : Nat) (s : State) : Res State :=
  act s fun s => s.atD n fun s =>
    let ls := s.get (P_LPST.SS_LS n)
    if s.on (P_PORTST.SS_LINK n) && (decide (ls = Ls.polling) || decide (ls = Ls.recovery) || (s.port n).exiting) then
      let p := s.port n
      let s1 := ((s.setSs n Ls.u0).modPort n fun x => { x with gen := gen, exiting := false, fnWake := false }).touchPort n
      let s2 := if p.rst = 2 ∨ p.rst = 4 then
          ((s1.modPort n fun x => { x with rst := 0, cReset := true, cBhReset := x.cBhReset || x.warm, warm := false }).setPs
            n Ps.enabled)
        else if ls = Ls.u3 then
          let s2 := (s1.set (P_LPST.SUSP_KIND n) Susp.none).set (P_LPST.LAST_WAKE n)
            (if p.fnWake then WakeBy.device else WakeBy.host)
          if s.ps n = Ps.suspended then s2.setPs n Ps.enabled else s2
        else s1
      let s3 := if p.fnWake then (s2.modPort n fun x => { x with cLink := true }).forwardWake n else s2
      let s4 := if ls = Ls.polling then s3.romSlope n gen else s3
      (s4.erdyDeferred n).admitOnce
    else s

end Sys2Proof.Machine
end

