-- ==== Sys2Proof/Machine/LinkPower.lean ====
section
/-!
DEFINITION. Suspend, resume and link power states (chapter 05): USB 2.0 suspend, resume and remote wake, L1, U1 to U3 on downstream
and upstream links, and entry to DORMANT.
-/

namespace Sys2Proof.Machine

namespace State

/-- USB 2.0 ports of tree u that sleep with it: ENABLED with SUSP_KIND = TREE (R156, R158). -/
def treeKind (s : State) (u : Nat) : List Nat :=
  (s.sidePorts u false).filter fun n => decide (s.get (P_LPST.SUSP_KIND n) = Susp.tree)

/-- The host's K is repeated downstream (R158). -/
def repeatK (s : State) (u : Nat) : State :=
  ((s.treeKind u).foldl (fun s n => s.emit (.usb2 n .driveK)) (s.set (U_LPST.HS_STATE u) Hs.resuming)).treeEvt u 2

/-- A wake not yet driven upstream is overtaken by the host's resume (R177). -/
def collide (s : State) (u n : Nat) : State :=
  match (s.port n).slot with
  | some (_, h, _) =>
    if (s.port n).woke && s.chainAllows u h then
      ((s.inc (R.P_WAKE_COLL_CNT n)).logOpen 0x02 0x03 n).set (P_LPST.LAST_WAKE n) WakeBy.collided
    else s
  | none => s

/-- Dn's USB 2.0 sleep with its tree ends (R158, R159, R178): a port that woke keeps its own cause. -/
def treeWake (s : State) (n : Nat) : State :=
  let s1 := (s.emit (.usb2 n .eop)).set (P_LPST.SUSP_KIND n) Susp.none
  let s2 := if (s.port n).woke then s1 else s1.set (P_LPST.LAST_WAKE n) WakeBy.host
  s2.modPort n fun p => { p with woke := false }

/-- A port behind a selectively suspended back hub has woken (R159): the back hub resumes once the front hub is awake. -/
def lateWake (s : State) (u n : Nat) : State :=
  match (s.port n).slot with
  | some (_, h, _) =>
    if (s.port n).woke && decide (s.get (P_LPST.SUSP_KIND n) = Susp.hub) && s.chainAllows u h then
      (s.bhWake u h).modPort n fun p => { p with woke := false }
    else s
  | none => s

/-- The outcome of a test of L1 on Dn (R161): recorded, and returned to the host here or at the presenter. The token leaves with it, for
a K before the ACK means that the part sends none (R177). [log 56: DESIGN CHOICE] -/
def l1Done (s : State) (n code : Nat) : State :=
  let s0 := if code = 5 then s else match (s.port n).l1Ask with
    | some (besl, rwe) => s.emit (.usb2 n (.lpmToken besl rwe))
    | none => s
  let s1 := ((s0.set (P_LPST.L1_RESULT n) code).modPort n fun p => { p with l1Ask := none }).answerHost n (decide (code ≠ 5)) [code]
  match s1.presenter n with
  | some c => s1.portOp c [opPortRsp, n, code]
  | none => s1

/-- A packet is queued for Uu's egress. -/
def egressQueued (s : State) (x : Nat) : Bool := s.queues.any fun e => e.2.pkts.any fun p => !p.gone && p.egress == x

/-- Every SuperSpeed port of tree u is in U1, U2, U3 or has no link (R167). PORT_ST tells of a remote slot only whether it is SUSPENDED,
in U3: any other with a SuperSpeed link counts as in U0. [log 62: DEDUCED] -/
def linksLow (s : State) (u : Nat) : Bool :=
  ((s.sidePorts u true).all fun n =>
    let ls := s.get (P_LPST.SS_LS n)
    decide (1 ≤ ls) && decide (ls ≤ 6)) && (s.slotsIn u).all fun i =>
      let st := (Tbl.get s.kcl.slots {} i).st
      decide (st.2.2.1 = 0) || decide (st.1 = Ps.suspended)

/-- Uu initiates U1 or U2 (R167). -/
def upInitiate (s : State) (u : Nat) (en : Bool) (ls : Nat) (sig : SsSig) : State :=
  if en && s.on (U_LP_CFG.US_INIT_EN u) && decide (s.get (U_LPST.SS_LS u) = Ls.u0) && s.on (U_TREEST.USB3_HUB u) &&
      !(s.egressQueued (96 + u)) && s.linksLow u then
    (s.emit (.ss (96 + u) sig 0)).setPort (96 + u) (U_LPST.SS_LS u) ls
  else s

/-- Every port of tree u lets Uu enter L1 (R163): none is ENABLED, here or in a remote slot. -/
def l1Allowed (s : State) (u : Nat) : Bool :=
  s.on (U_LP_CFG.L1_EN u) && (s.portsIn u).all (fun n => decide (s.ps n ≠ Ps.enabled)) &&
    (s.slotsIn u).all fun i => decide ((Tbl.get s.kcl.slots {} i).st.1 ≠ Ps.enabled)

/-- An active SuperSpeed link of a tree whose Uu enters U3 is sent to U3 (R172). -/
def sendU3 (s : State) (n : Nat) : State :=
  if s.get (P_LPST.SS_LS n) ≤ Ls.u2 then
    (((s.emit (.ss n .lgoU3 0)).setSs n Ls.u3).set (P_LPST.SUSP_KIND n) Susp.tree).modPort n fun p => { p with exiting := false }
  else s

/-- Packets held for Dn whose link has failed are deferred (R165). -/
def deferHeld (s : State) (n : Nat) : State :=
  let held := (s.queues.map fun e => (e.2.pkts.filter fun p => !p.gone && !p.started && p.egress == n).map fun p => (e.1, p)).flatten
  held.foldl (fun s c => (s.deferPkt n c.2).qDrop c.1 c.2.order) s

end State

open State

/-! ### USB 2.0 suspend and resume -/

/-- Uu's USB 2.0 lines have idled in J for 3.0 ms (R155, R156). -/
def execTreeSuspend (u : Nat) (s : State) : Res State :=
  act s fun s => s.atU u fun s =>
    if s.get (U_LPST.HS_STATE u) = Hs.active ∧ s.on (U_TREEST.LINK u) = true then
      let s1 := (s.sidePorts u false).foldl (fun s n =>
        if s.ps n = Ps.enabled ∧ s.get (P_LPST.SUSP_KIND n) = Susp.none then
          (s.set (P_LPST.SUSP_KIND n) Susp.tree).modPort n fun p => { p with woke := false } else s)
        (s.set (U_LPST.HS_STATE u) Hs.suspended)
      (s1.treeEvt u 1).sleepRefresh u
    else s

def execSetPortSuspend (u h l : Nat) (s : State) : Res State := act s fun s => s.hostReq u h l .suspend

def execClearPortSuspend (u h l : Nat) (s : State) : Res State := act s fun s => s.hostReq u h l .clearSuspend

/-- The resume signalling the part drives on Dn ends with a low-speed EOP (R158, R162). -/
def execPortResumeEnd (n : Nat) (s : State) : Res State :=
  act s fun s =>
    let r := (s.port n).resume
    if r ≠ 0 ∧ s.ps n = Ps.suspended then
      let s1 := ((s.emit (.usb2 n .eop)).modPort n fun p => { p with resume := 0, cSuspend := true }).set
        (P_LPST.SUSP_KIND n) Susp.none
      (s1.set (P_LPST.LAST_WAKE n) (if r = 2 then WakeBy.device else WakeBy.host)).setPs n Ps.enabled
    else s

/-- K from the host on Uu, seen for 2.5 µs (R158, R177): repeated at once, or after the part's own drive (R160). -/
def execHostResume (u : Nat) (s : State) : Res State :=
  act s fun s => s.atU u fun s =>
    let st := s.get (U_LPST.HS_STATE u)
    if st = Hs.driving then (s.modUp u fun x => { x with hostK := true }).dormantExit
    else if st = Hs.suspended then
      let s1 := if (s.up u).wakePend then (s.portsIn u).foldl (fun s n => s.collide u n) s else s
      let s2 := (s1.modUp u fun x => { x with wakePend := false }).repeatK u
      (s2.sleepRefresh u).dormantExit
    else s

/-- The host's low-speed EOP ends global resume (R158). -/
def execHostResumeEnd (u : Nat) (s : State) : Res State :=
  act s fun s => s.atU u fun s =>
    if s.get (U_LPST.HS_STATE u) = Hs.resuming then
      let s1 := (s.treeKind u).foldl treeWake (s.set (U_LPST.HS_STATE u) Hs.active)
      (((s.portsIn u).foldl (fun s n => s.lateWake u n) s1).treeEvt u 3).sleepRefresh u
    else s

/-- K from the device on Dn, seen for 2.5 µs, where Dn's hubs are awake (R158, R162, R177). -/
def execDeviceResume (n : Nat) (s : State) : Res State :=
  act s fun s => s.atD n fun s =>
    let k := s.get (P_LPST.SUSP_KIND n)
    let l1 := match s.treeAt n with
      | some u => decide (s.get (U_LPST.HS_STATE u) = Hs.l1)
      | none => false
    let asleep := match (s.port n).slot with
      | some (u, h, _) => s.chainAsleep u h
      | none => false
    if s.on (P_PORTST.SS_LINK n) || asleep then s
    else if s.ps n = Ps.suspended ∧ (k = Susp.selective ∨ (k = Susp.l1 ∧ s.on (P_LPST.L1_RWE n) = true)) then
      let s1 := if l1 then
          match s.treeAt n with
          | some u => ((((s.emit (.usb2 (96 + u) .driveK)).set (U_LPST.HS_STATE u) Hs.active).sleepRefresh u).dormantExit)
          | none => s
        else s
      (s1.wakeNote n WakeBy.device).takeOver n
    else if s.ps n = Ps.enabled ∧ k = Susp.none then
      if (s.port n).l1Ask.isSome then (s.l1Done n 5).repeatUp n else s.modPort n fun p => { p with devK := true }
    else s

/-- A wake on Dn whose hub chain is asleep (R159, R174, R177). [log 27: DEDUCED] -/
def execDeviceWake (n : Nat) (s : State) : Res State :=
  act s fun s => s.atD n fun s =>
    match (s.port n).slot with
    | some (u, h, _) => s.wakeAt u h n WakeBy.device
    | none =>
      if (s.get (P_LPST.SUSP_KIND n) = Susp.tree ∨ s.get (P_LPST.SUSP_KIND n) = Susp.hub) ∧ (s.presenter n).isSome = true then
        s.wakeNote n WakeBy.device
      else s

/-- The part begins its upstream drive for a wake (R158, R160). -/
def execUpstreamWakeDriveStart (u : Nat) (s : State) : Res State :=
  act s fun s => s.atU u fun s =>
    if (s.up u).wakePend && decide (s.get (U_LPST.HS_STATE u) = Hs.suspended) then
      (((((s.modUp u fun x => { x with wakePend := false, hostK := false }).set (U_LPST.HS_STATE u) Hs.driving).emit
        (.usb2 (96 + u) .driveK)).inc (R.U_WAKE_UP_CNT u)).sleepRefresh u).dormantExit
    else s

/-- The part releases Uu, and repeats the host's K where it is present (R158, R160). -/
def execUpstreamWakeDriveEnd (u : Nat) (s : State) : Res State :=
  act s fun s => s.atU u fun s =>
    if s.get (U_LPST.HS_STATE u) = Hs.driving then
      if (s.up u).hostK then ((s.modUp u fun x => { x with hostK := false }).repeatK u).sleepRefresh u
      else (s.set (U_LPST.HS_STATE u) Hs.suspended).sleepRefresh u
    else s

/-- No K from the host within 1 ms of the release (R160): the tree stays suspended, and only a new wake drives Uu again. A wake that a hub
holds stays held (R159). -/
def execWakeNoHostResume (u : Nat) (s : State) : Res State :=
  act s fun s => s.atU u fun s =>
    if s.get (U_LPST.HS_STATE u) = Hs.suspended ∧ (s.up u).wakePend = false then
      (s.portsIn u).foldl (fun s n => match (s.port n).slot with
        | some (_, h, _) => if s.chainAllows u h then s.modPort n fun p => { p with woke := false } else s
        | none => s) s
    else s

/-! ### L1 -/

def execSetAndTestPortL1 (u h l addr besl : Nat) (rwe : Bool) (s : State) : Res State :=
  act s fun s => s.hostReq u h l (.testL1 addr besl rwe)

/-- The device answers the LPM token: 0 ACK, 1 NYET, 2 STALL (R161). -/
def execL1TokenResponse (n resp : Nat) (s : State) : Res State :=
  act s fun s =>
    match (s.port n).l1Ask with
    | some (besl, rwe) =>
      let s1 := s.l1Done n (resp + 1)
      if resp = 0 then
        ((((s1.stallClear n).set (P_LPST.BESL n) besl).set (P_LPST.L1_RWE n) rwe.toNat).set (P_LPST.SUSP_KIND n) Susp.l1).setPs n Ps.suspended
      else s1
    | none => s

/-- No response within 16 bit times (R161). -/
def execL1TokenTimeout (n : Nat) (s : State) : Res State :=
  act s fun s => if (s.port n).l1Ask.isSome then s.l1Done n 4 else s

/-- An LPM token addressed to the front hub of tree u (R163). -/
def execUpstreamLpmToken (u : Nat) (s : State) : Res State :=
  act s fun s => s.atU u fun s =>
    if s.get (U_LPST.HS_STATE u) = Hs.active ∧ s.l1Allowed u = true then
      ((s.emit (.usb2 (96 + u) .ack)).set (U_LPST.HS_STATE u) Hs.l1).sleepRefresh u
    else s.emit (.usb2 (96 + u) .nyet)

/-- Resume signalling on Uu ends L1; no port in L1 is resumed (R163). -/
def execUpstreamL1Exit (u : Nat) (s : State) : Res State :=
  act s fun s => s.atU u fun s =>
    if s.get (U_LPST.HS_STATE u) = Hs.l1 then ((s.set (U_LPST.HS_STATE u) Hs.active).sleepRefresh u).dormantExit else s

/-! ### U1, U2 and U3 -/

def execSetPortU1Timeout (u h l v : Nat) (s : State) : Res State := act s fun s => s.hostReq u h l (.u1Timeout v)

def execSetPortU2Timeout (u h l v : Nat) (s : State) : Res State := act s fun s => s.hostReq u h l (.u2Timeout v)

/-- Dn's link has been idle for U1_TIMEOUT (R164). -/
def execU1IdleTimeout (n : Nat) (s : State) : Res State :=
  act s fun s => s.atD n fun s =>
    let t := s.get (P_LPTO.U1_TIMEOUT n)
    if s.get (P_LPST.SS_LS n) = Ls.u0 ∧ 1 ≤ t ∧ t ≤ 0xFE ∧ s.linkQueued n = false then
      (s.emit (.ss n .lgoU1 0)).setSs n Ls.u1
    else s

/-- The U2 inactivity time of Dn expires (R164). -/
def execU2InactivityTimeout (n : Nat) (s : State) : Res State :=
  act s fun s => s.atD n fun s =>
    let t := s.get (P_LPTO.U2_TIMEOUT n)
    if 1 ≤ t ∧ t ≤ 0xFE ∧ (s.port n).exiting = false then
      if s.get (P_LPST.SS_LS n) = Ls.u1 then s.setSs n Ls.u2
      else if s.get (P_LPST.SS_LS n) = Ls.u0 ∧ s.linkQueued n = false then (s.emit (.ss n .lgoU2 0)).setSs n Ls.u2
      else s
    else s

/-- The device of Dn asks for U1 (k = 1) or U2 (k = 2) (R164). -/
def execDeviceLgo (n k : Nat) (s : State) : Res State :=
  act s fun s => s.atD n fun s =>
    if s.get (P_LPST.SS_LS n) = Ls.u0 ∧ (k = 1 ∨ k = 2) then
      if s.on (if k = 1 then P_LPTO.U1_TIMEOUT n else P_LPTO.U2_TIMEOUT n) then (s.emit (.ss n .lau 0)).setSs n k
      else s.emit (.ss n .lxu 0)
    else s

/-- LFPS of the device, or a held packet, starts the exit of Dn's link from U1 or U2 (R165). -/
def execUxExit (n : Nat) (s : State) : Res State :=
  act s fun s => s.atD n fun s =>
    if s.get (P_LPST.SS_LS n) = Ls.u1 ∨ s.get (P_LPST.SS_LS n) = Ls.u2 then s.exitStart n else s

/-- U0 is not reached within 2 ms of the start of the exit (R165). -/
def execUxExitTimeout (n : Nat) (s : State) : Res State :=
  act s fun s => s.atD n fun s =>
    if (s.port n).exiting = true ∧ (s.get (P_LPST.SS_LS n) = Ls.u1 ∨ s.get (P_LPST.SS_LS n) = Ls.u2) then
      (s.setSs n Ls.recovery).admitOnce
    else s

/-- Recovery fails after an exit (R165): SS.Inactive, counted; held packets are deferred. [log 26: DEDUCED] -/
def execRecoveryFail (n : Nat) (s : State) : Res State :=
  act s fun s => s.atD n fun s =>
    if (s.port n).exiting = true ∧ s.get (P_LPST.SS_LS n) = Ls.recovery then
      ((((s.setSs n Ls.inactive).inc (R.P_UX_EXIT_FAIL_CNT n)).modPort n fun p => { p with exiting := false, cLink := true }).deferHeld
        n).gatesRefresh
    else s

def execSetPortLinkStateU3 (u h l : Nat) (s : State) : Res State := act s fun s => s.hostReq u h l .linkU3

def execSetPortLinkStateU0 (u h l : Nat) (s : State) : Res State := act s fun s => s.hostReq u h l .linkU0

/-- LFPS of the device of Dn, whose link is in U3 (R159, R166, R173). [log 26: DEDUCED] -/
def execDeviceU3Exit (n : Nat) (s : State) : Res State :=
  act s fun s => s.atD n fun s =>
    if s.get (P_LPST.SS_LS n) = Ls.u3 then
      ((s.wakeNote n WakeBy.device).exitStart n).modPort n fun p => { p with fnWake := true }
    else s

/-- LGO_U1 to LGO_U3 from the host on Uu (R167). After LGO_U3 the link enters U3 as UPSTREAM_U3_ENTRY says. [log 26: DEDUCED] -/
def execUpstreamLgo (u k : Nat) (s : State) : Res State :=
  act s fun s => s.atU u fun s =>
    if s.get (U_LPST.SS_LS u) ≠ Ls.u0 ∨ s.on (U_TREEST.USB3_HUB u) = false then s
    else if k = 3 then s.emit (.ss (96 + u) .lau 0)
    else if k = 1 ∨ k = 2 then
      if s.egressQueued (96 + u) then s.emit (.ss (96 + u) .lxu 0)
      else (s.emit (.ss (96 + u) .lau 0)).setPort (96 + u) (U_LPST.SS_LS u) k
    else s

def execUpstreamU1Initiate (u : Nat) (s : State) : Res State :=
  act s fun s => s.atU u fun s => s.upInitiate u (s.up u).u1En Ls.u1 .lgoU1

def execUpstreamU2Initiate (u : Nat) (s : State) : Res State :=
  act s fun s => s.atU u fun s => s.upInitiate u (s.up u).u2En Ls.u2 .lgoU2

/-- Uu leaves U1 or U2 on LFPS of the host or for a packet of its own; waiting Function Wakes are forwarded (R166). -/
def execUpstreamUxExit (u : Nat) (s : State) : Res State :=
  act s fun s => s.atU u fun s =>
    if s.get (U_LPST.SS_LS u) = Ls.u1 ∨ s.get (U_LPST.SS_LS u) = Ls.u2 then
      ((s.setPort (96 + u) (U_LPST.SS_LS u) Ls.u0).touchUp u).flushWakes u
    else s

/-- Uu's SuperSpeed link enters U3 (R172). [log 26: DEDUCED] -/
def execUpstreamU3Entry (u : Nat) (s : State) : Res State :=
  act s fun s => s.atU u fun s =>
    if s.get (U_LPST.SS_LS u) ≤ Ls.u2 ∧ s.on (U_TREEST.USB3_HUB u) = true then
      (((s.sidePorts u true).foldl sendU3 (s.setPort (96 + u) (U_LPST.SS_LS u) Ls.u3)).treeEvt u 5).sleepRefresh u
    else s

/-- Uu's SuperSpeed link leaves U3 (R172, R173, R176): downstream links stay in U3; waiting Function Wakes are forwarded. -/
def execUpstreamU3Exit (u : Nat) (s : State) : Res State :=
  act s fun s => s.atU u fun s =>
    if s.get (U_LPST.SS_LS u) = Ls.u3 then
      let s1 := ((s.setPort (96 + u) (U_LPST.SS_LS u) Ls.u0).touchUp u).flushWakes u
      ((s1.treeEvt u 6).sleepRefresh u).dormantExit
    else s

/-! ### DORMANT -/

/-- DORM_DLY has passed since the last host-facing tree fell asleep (R175). [log 26: DEDUCED] -/
def execDormantEntry (s : State) : Res State :=
  act s fun s =>
    if decide (s.mode = .run) && !s.dormant && !s.hostFacing.isEmpty && s.hostFacing.all s.asleepNow && !s.flow.barred then
      ((s.setDormant true).inc R.G_DORMANT_CNT).modeNote s
    else s

end Sys2Proof.Machine
end

