-- ==== Sys2Proof/Machine/Pd.lean ====
section
/-!
DEFINITION. The PD engine (chapter 07): messages and FIFOs, contracts and transitions, Hard Reset, watchdogs, and the
commands of PD_CMD and PD_NEXT.

Message type codes follow spec/11 (Request 2, Accept 3, Reject 4, PS_RDY 6, Wait 0xC) and, PRESUMED, the USB PD standard
the engine implements (R211) for those the spec only names.
-/

namespace Sys2Proof.Machine

/-- Type of a message header. [log 18: PRESUMED] -/
def pdType (h : Nat) : Nat := h % 32

/-- Number of data objects of a header. [log 18: PRESUMED] -/
def pdNdo (h : Nat) : Nat := h / 4096 % 8

/-- The header is of an extended message. [log 18: PRESUMED] -/
def pdExt (h : Nat) : Bool := h.testBit 15

/-- MessageID of a header. [log 18: PRESUMED] -/
def pdMsgId (h : Nat) : Nat := h / 512 % 8

/-- A control message of the given type. [log 18: PRESUMED] -/
def pdControl (h ty : Nat) : Bool := !pdExt h && decide (pdNdo h = 0) && decide (pdType h = ty)

/-- A data message of the given type. [log 18: PRESUMED] -/
def pdData (h ty : Nat) : Bool := !pdExt h && decide (pdNdo h ≠ 0) && decide (pdType h = ty)

/-! TX_ST codes (R246). -/
namespace TxSt
abbrev busy : Nat := 1
abbrev ok : Nat := 2
abbrev discarded : Nat := 3
abbrev failed : Nat := 4
end TxSt

namespace State

/-- A partner is attached at port k, whose TC_STATE a RECHECK may hide (R196). -/
def partner (s : State) (k : Nat) : Bool :=
  if k < 96 then
    let t := if s.get (P_TCST.TC_STATE k) = 3 ∧ (s.port k).check = .recheck then (s.port k).checkRet else s.get (P_TCST.TC_STATE k)
    t = 6 || t = 7
  else (s.up (k - 96)).attached

/-- VCONN is on at port k. -/
def vconnOn (s : State) (k : Nat) : Bool := if k < 96 then s.on (P_TCST.VCONN_ON k) else (s.up (k - 96)).vconn

/-- Word i of the transmit buffer. -/
def txWord (s : State) (k i : Nat) : Nat :=
  match i with
  | 0 => s.get (PD_TXW0.WORD k)
  | 1 => s.get (PD_TXW1.WORD k)
  | 2 => s.get (PD_TXW2.WORD k)
  | 3 => s.get (PD_TXW3.WORD k)
  | 4 => s.get (PD_TXW4.WORD k)
  | 5 => s.get (PD_TXW5.WORD k)
  | 6 => s.get (PD_TXW6.WORD k)
  | _ => s.get (PD_TXW7.WORD k)

/-- The eight words of the transmit buffer. -/
def txEntry (s : State) (k : Nat) : List Nat := (List.range 8).map (s.txWord k)

/-- Write the transmit buffer. -/
def setTxEntry (s : State) (k : Nat) (l : List Nat) : State :=
  let w := fun i => l.getD i 0
  (((((((s.set (PD_TXW0.WORD k) (w 0)).set (PD_TXW1.WORD k) (w 1)).set (PD_TXW2.WORD k) (w 2)).set
    (PD_TXW3.WORD k) (w 3)).set (PD_TXW4.WORD k) (w 4)).set (PD_TXW5.WORD k) (w 5)).set (PD_TXW6.WORD k) (w 6)).set
    (PD_TXW7.WORD k) (w 7)

/-- Note a message in the port's log of 16 (R248). -/
def pdNote (s : State) (k : Nat) (sent : Bool) (h : Nat) : State :=
  s.modEng k fun g => { g with msgs := ((s.timeUs, sent, h) :: g.msgs).take 16 }

/-- A refused PD request (R242): counted, no effect. -/
def pdRefuse (s : State) (k : Nat) (r : RC) : State :=
  ((s.set (PD_CMD.RESULT k) r.code).inc (R.PD_REJ_CNT k)).answer r

/-- A PD_CMD command carried out. -/
def pdDone (s : State) (k : Nat) : State := (s.set (PD_CMD.RESULT k) 0).answer .ok

/-- Rp between AMSs (R217): SinkTxOk under an explicit Revision 3.x contract as source, else the level of RP_ADV (R181, R213). -/
def sinkTxRefresh (s : State) (k : Nat) : State :=
  s.set (PD_ST.SINKTX k) (decide (s.get (PD_ST.CONTRACT k) = 2) && decide (s.get (PD_ST.REV k) = 2) && s.on (PD_ST.PWR_ROLE k) &&
    !(s.eng k).ams).toNat

/-- A transmission completes: TX_ST and its event (R219); a failure is counted (R214). An AMS whose first message is not sent has not begun
(R217). [log 19: DEDUCED] -/
def txComplete (s : State) (k st : Nat) : State :=
  let lost := decide (st ≠ TxSt.ok) && ((s.eng k).txWords.headD 0).testBit 23
  let s1 := (s.modEng k fun g => { g with tx := .idle, retries := 0, ams := g.ams && !lost }).set (PD_ST.TX_ST k) st
  ((if st = TxSt.failed then s1.inc (R.PD_TX_FAIL_CNT k) else s1).postPd k).sinkTxRefresh k

/-- A transmission not yet on the wire is abandoned by an arriving message (R215, R243). -/
def txAbandon (s : State) (k : Nat) : State :=
  match (s.eng k).tx with
  | .waitIdle => s.txComplete k TxSt.discarded
  | .sinkTx => s.txComplete k TxSt.discarded
  | _ => s

/-- Hard Reset signalling discards a transmission in any state (R215). -/
def txDiscard (s : State) (k : Nat) : State :=
  match (s.eng k).tx with
  | .idle => s
  | _ => s.txComplete k TxSt.discarded

/-- RX_POP: the head entry goes, and held engine entries follow into the room, each with its event (R216, R221). -/
def rxPop (s : State) (k : Nat) : State :=
  let g := s.eng k
  match g.rx with
  | [] => s
  | _ :: r =>
    match g.held with
    | [] => (s.modEng k fun g => { g with rx := r }).set (PD_ST.RX_CNT k) r.length
    | h :: hs =>
      ((s.modEng k fun g => { g with rx := r ++ [h], held := hs }).set (PD_ST.RX_CNT k) (r.length + 1)).postPd k

/-! ### Hard Reset (R237, R238) -/

/-- Hard Reset signalling starts, sent or received: transmissions are discarded, a transition and the held revision end, HR_SEQ rises
(R212, R237). On an upstream port the data link is torn down, with steps 1 to 5 of R75 on its tree (R238 step 1). [log 19: DEDUCED] -/
def hrStart (s : State) (k : Nat) (sent : Bool) : State :=
  let s1 := ((s.txDiscard k).inc (R.PD_HR_CNT k)).logRec 0x04 0x01 k sent.toNat
  let s2 := ((s1.set (PD_ST.IN_TRANS k) 0).set (PD_ST.HR_SEQ k) 1).modEng k fun g =>
    { g with trans := .none, hr := .psHardReset, vconnBefore := s.vconnOn k, ams := false, request := none, swapAsked := 0
             asked := 0, rxId := [], txId := []
             pol := { hrs := min 2 (g.pol.hrs + 1), lim := if g.pol.lim = 1 then 0 else g.pol.lim, parked := g.pol.parked
                      cable := g.pol.cable, shed := g.pol.shed } }
  let s3 := (((s2.dropNext k).set (PD_ST.SINKTX k) 0).set (PD_ST.REV k) 0).faultOnset 31 k 0
  let s4 := if sent then s3.emit (.pd k 3 []) else s3
  if 96 ≤ k then ((s4.set (PD_ST.SWAP k) 0).upTermsOff (k - 96)).treeResetBegin (k - 96) else s4

/-- The engine sends Hard Reset by itself. -/
def hrSend (s : State) (k : Nat) : State :=
  if s.partner k && !(s.on (PD_ST.HR_SEQ k)) then s.hrStart k true else s

/-! ### Contracts (R227 to R230) -/

/-- VOLT range of a KIND (R227). -/
def kindRange (kind : Nat) : Option (Nat × Nat) :=
  match kind with
  | 0 => some (250, 1000)
  | 1 => some (165, 1050)
  | 2 => some (1400, 2400)
  | 3 => some (750, 2400)
  | 4 => some (250, 250)
  | _ => none

/-- MAX_PWR as used, in W (R245). -/
def maxPwr (s : State) (k : Nat) : Nat := min (if k < 96 then 0xF0 else 0x64) (s.get (PD_CFG.MAX_PWR k))

/-- The values may be staged in PD_NEXT[k] (R227): 20 mV × 10 mA is 0.2 mW. -/
def nextOk (s : State) (k kind volt curr : Nat) : Bool :=
  match kindRange kind with
  | none => false
  | some (lo, hi) =>
    decide (lo ≤ volt ∧ volt ≤ hi) && decide (2 * volt * curr ≤ 10000 * s.maxPwr k) &&
      (decide (curr ≤ 300) || s.on (PD_ST.CABLE_5A k)) &&
      !((decide (kind = 2) || decide (kind = 3)) && !(s.on (PD_ST.EPR_MODE k))) &&
      !(decide (kind = 3) && decide (volt % 5 ≠ 0))

/-- A write of PD_NEXT[k] (R227, R242). -/
def wrPdNext (s : State) (k v : Nat) : State :=
  let kind := v / 2 ^ 29 % 8; let volt := v / 65536 % 8192; let curr := v % 512
  if s.on (PD_ST.IN_TRANS k) || !(s.on (PD_CFG.EN k)) then (s.inc (R.PD_REJ_CNT k)).answer .wrongState
  else if s.nextOk k kind volt curr then
    (((s.stage (PD_NEXT.KIND k) kind).stage (PD_NEXT.VOLT k) volt).stage (PD_NEXT.CURR k) curr).answer .ok
  else (s.inc (R.PD_REJ_CNT k)).answer .range

/-- PD_NEXT equals PD_CONTRACT, so that steps 2 and 3 of the transition take 0 (R228). -/
def sameContract (s : State) (k : Nat) : Bool :=
  decide (s.get (PD_NEXT.KIND k) = s.get (PD_CONTRACT.KIND k)) && decide (s.get (PD_NEXT.VOLT k) = s.get (PD_CONTRACT.VOLT k)) &&
    decide (s.get (PD_NEXT.CURR k) = s.get (PD_CONTRACT.CURR k)) && decide (s.get (PD_ST.CONTRACT k) = 2)

/-- VBUS settles at the target: a kind 5 entry (R228 step 3). -/
def transDone (s : State) (k : Nat) : State := (s.modEng k fun g => { g with trans := .settled }).pdPostEntry k 5 0

/-- The GoodCRC of the Accept that answers a Request: PD_NEXT applies and the transition starts (R228 step 1), with REV as the
Request set it (R212). PDO_IDX follows with the contract. -/
def transStart (s : State) (k pos : Nat) : State :=
  let s0 := ((s.apply (PD_NEXT.KIND k)).apply (PD_NEXT.VOLT k)).apply (PD_NEXT.CURR k)
  let s1 := s0.romTrip k (10 * s0.get (PD_NEXT.CURR k)) (s0.get (PD_NEXT.KIND k) == 1) true
  let s2 := (s1.set (PD_ST.IN_TRANS k) 1).set (PD_ST.ABORTED k) 0
  let s3 := s2.modEng k fun g => { g with trans := .srcTransition, request := none, pos := pos }
  if s3.sameContract k then s3.transDone k else s3

/-- The GoodCRC of PS_RDY after step 3: the contract takes its new values (R228 step 4). -/
def transEnd (s : State) (k : Nat) : State :=
  if (s.eng k).trans = .settled ∧ s.on (PD_ST.IN_TRANS k) then
    let s1 := ((s.set (PD_CONTRACT.KIND k) (s.get (PD_NEXT.KIND k))).set (PD_CONTRACT.VOLT k) (s.get (PD_NEXT.VOLT k))).set
      (PD_CONTRACT.CURR k) (s.get (PD_NEXT.CURR k))
    ((((((s1.set (PD_ST.CONTRACT k) 2).set (PD_ST.KIND k) (s.get (PD_NEXT.KIND k))).set (PD_ST.PDO_IDX k) (s.eng k).pos).set (PD_ST.IN_TRANS k) 0).modEng k fun g =>
      { g with trans := .none }).romTrip k (10 * s.get (PD_NEXT.CURR k)) (s.get (PD_NEXT.KIND k) == 1) false).sinkTxRefresh k
  else s

/-- VCONN of port k goes on or off; a trip keeps it off for the attachment (R197, R198, R235). -/
def setVconn (s : State) (k : Nat) (on : Bool) : State :=
  if k < 96 then s.set (P_TCST.VCONN_ON k) (on && !(s.port k).vconnTripped).toNat
  else s.modUp (k - 96) fun u => { u with vconn := on }

/-- A swap the part has accepted begins (R233, R235): DR_Swap changes the data role at once; a VCONN_Swap that takes VCONN turns it on; in
a PR_Swap a source discharges its path. [log 63: DEDUCED] -/
def swapBegin (s : State) (k sw : Nat) : State :=
  let s1 := s.modEng k fun g => { g with swapAsked := 0 }
  if sw = 4 then s1.set (PD_ST.DATA_ROLE k) (1 - s.get (PD_ST.DATA_ROLE k))
  else
    let s2 := s1.set (PD_ST.SWAP k) sw
    if sw = 3 ∧ s.vconnOn k = false then s2.setVconn k true
    else if sw = 1 ∧ s.on (PD_ST.PWR_ROLE k) = true then s2.softOff k else s2

/-- PS_RDY ends an accepted swap's step (R233, R235): in a VCONN_Swap VCONN goes off where the partner sends it; in a PR_Swap the former
sink becomes source on the partner's PS_RDY and takes its credit, the former source becomes sink. [log 63: DEDUCED] -/
def swapReady (s : State) (k : Nat) (sent : Bool) : State :=
  match s.get (PD_ST.SWAP k) with
  | 3 => if sent then s.set (PD_ST.SWAP k) 0 else (s.set (PD_ST.SWAP k) 0).setVconn k false
  | 1 =>
    if sent then (if s.on (PD_ST.PWR_ROLE k) && decide (s.ppState k ≠ Pp.off) then s.set (PD_ST.SWAP k) 0 else s)
    else if s.on (PD_ST.PWR_ROLE k) then (s.set (PD_ST.SWAP k) 0).set (PD_ST.PWR_ROLE k) 0
    else (s.set (PD_ST.PWR_ROLE k) 1).rampStart k
  | _ => s

/-! ### Sending (R215, R221, R242) -/

/-- What the GoodCRC of a message the part sent brings (R225, R228, R235, R230). -/
def txEffect (s : State) (k h : Nat) (w1 : Nat) : State :=
  if pdControl h 0x03 then
    match (s.eng k).request with
    | some pos => s.transStart k pos
    | none =>
      let sw := (s.eng k).swapAsked
      if sw ≠ 0 then s.swapBegin k sw else s
  else if pdControl h 0x0C then
    let s1 := if (s.eng k).request.isSome then s.inc (R.PD_WAIT_CNT k) else s
    s1.modEng k fun g => { g with request := none, swapAsked := 0 }
  else if pdControl h 0x04 then s.modEng k fun g => { g with request := none, swapAsked := 0 }
  else if pdControl h 0x06 then
    (s.transEnd k).swapReady k true
  else if pdControl h 0x09 then s.modEng k fun g => { g with asked := 1 }
  else if pdData h 0x02 then s.modEng k fun g => { g with asked := 2 }
  else if pdData h 0x0A then
    match w1 / 2 ^ 24 with
    | 3 => if s.get (PD_ST.REV k) = 1 then s else s.set (PD_ST.EPR_MODE k) 1
    | 5 => s.set (PD_ST.EPR_MODE k) 0
    | _ => s
  else s

/-- The transmit entry carries an extended message, which the engine sends and accepts only under Revision 3.x (R213). -/
def extBarred (s : State) (k h : Nat) : Bool := pdExt h && decide (s.get (PD_ST.REV k) = 1)

/-- A message as the engine sends it: with its own MessageID (R214), and, in the header of an extended message, the report that unchunked
messages are not supported (R211). [log 18: PRESUMED] -/
def outWords (s : State) (k : Nat) (w : List Nat) : List Nat :=
  let w0 := w.headD 0
  let id := Tbl.get (s.eng k).txId 0 (w0 / 2 ^ 29 % 8)
  let w0' := w0 - pdMsgId w0 * 2 ^ 9 + id % 8 * 2 ^ 9
  match w.tail with
  | [] => [w0']
  | w1 :: r => w0' :: (if pdExt w0 && !(w1.testBit 15) then w1 + 2 ^ 15 else w1) :: r

/-- Start the transmit buffer (TX_GO or the send primitive), refused under R221 and R242. -/
def txGo (s : State) (k : Nat) : State × RC :=
  let w0 := s.txWord k 0
  let kind := w0 / 2 ^ 29 % 8
  let cnt := w0 / 2 ^ 24 % 32
  if !(s.on (PD_CFG.EN k)) || !(s.kReady k) || decide ((s.eng k).tx ≠ .idle) || !(s.partner k) || s.on (PD_ST.HR_SEQ k) ||
      ((decide (kind = 1) || decide (kind = 2)) && !(s.vconnOn k)) || (decide (kind ≤ 2) && s.extBarred k w0) then
    (s.pdRefuse k .wrongState, .wrongState)
  else if 5 ≤ kind ∨ (kind ≤ 2 ∧ (cnt < 2 ∨ 30 < cnt)) then (s.pdRefuse k .range, .range)
  else
    let s1 := (s.set (PD_ST.TX_ST k) TxSt.busy).modEng k fun g =>
      { g with tx := .waitIdle, txWords := s.txEntry k, retries := 0, ams := g.ams || w0.testBit 23 }
    ((if w0.testBit 23 && decide (s.get (PD_ST.CONTRACT k) = 2) && decide (s.get (PD_ST.REV k) = 2) && s.on (PD_ST.PWR_ROLE k) then
        (s1.set (PD_ST.SINKTX k) 0).modEng k fun g => { g with tx := .sinkTx } else s1).pdDone k, .ok)

/-- A watchdog expires: Hard Reset, a kind 7 entry and its counts (R226). -/
def pdWatchdog (s : State) (k which : Nat) : State :=
  ((((s.inc (R.PD_WD_CNT k)).logOpen 0x04 0x03 k).faultOnset 31 k 0).hrSend k).pdPostEntry k 7 which

/-- The engine hears port k: present, enabled. -/
def pdHears (s : State) (k : Nat) : Bool := s.kHere k && s.on (PD_CFG.EN k)

/-- A Vendor_Defined answer of the partner (R199, R222): an ACK to Enter Mode of SVID 0x3B6A mode 1 raises VMODE and connects the
bridge channel; an ACK to Exit Mode opens the switch. The header's layout is the PD standard's (PRESUMED, log 18). [log 18: PRESUMED] -/
def vdmEffect (s : State) (k w1 : Nat) : State :=
  if k < 96 ∧ w1 / 2 ^ 16 = 0x3B6A ∧ w1.testBit 15 = true ∧ w1 / 64 % 4 = 1 ∧ w1 / 256 % 8 = 1 then
    if w1 % 32 = 4 ∧ s.on (P_TC_CFG.VMODE_EN k) = true then (s.set (P_TCST.VMODE k) 1).assignChannel k
    else if w1 % 32 = 5 ∧ s.on (P_TCST.VMODE k) = true then (s.set (P_TCST.VMODE k) 0).releaseChannel k
    else s
  else s

/-- The e-marker's answer to Discover Identity on SOP' (R224): CABLE_5A and CABLE_EPR by the cable's data object, whose layout is the
PD standard's (PRESUMED, log 18); none while VCONN is off or has tripped (R198). [log 18: PRESUMED] -/
def cableEffect (s : State) (k w1 cable : Nat) : State :=
  if w1 / 2 ^ 16 = 0xFF00 ∧ w1 / 64 % 4 = 1 ∧ w1 % 32 = 1 ∧ s.vconnOn k = true ∧ (s.port k).vconnTripped = false then
    let five := decide (cable / 32 % 4 = 2)
    (s.set (PD_ST.CABLE_5A k) five.toNat).set (PD_ST.CABLE_EPR k) (five && decide (cable / 512 % 4 = 3) && cable.testBit 17).toNat
  else s

/-- The lower of a header's Specification Revision and REV_MAX, Revision 1.0 being taken as 2.0 (R212). -/
def revOf (s : State) (k h : Nat) : Nat := if 2 ≤ h / 64 % 4 ∧ s.get (PD_CFG.REV_MAX k) ≠ 1 then 2 else 1

/-- The partner's answer to an own DR_Swap or Request (R230, R234): a swap accepted changes the data role; a Request accepted forms the
sink's contract at the partner's PS_RDY. [log 63: DEDUCED] -/
def answerEffect (s : State) (k : Nat) (yes : Bool) : State :=
  let a := (s.eng k).asked
  let s1 := s.modEng k fun g => { g with asked := if yes && decide (a = 2) then 3 else 0 }
  if yes && decide (a = 1) then s1.set (PD_ST.DATA_ROLE k) (1 - s.get (PD_ST.DATA_ROLE k)) else s1

/-- The contract of a sink (R227): 5 V at 0.9 A, KIND 4. [log 63: DEDUCED] -/
def sinkContract (s : State) (k : Nat) : State :=
  let s1 := ((s.set (PD_CONTRACT.KIND k) 4).set (PD_CONTRACT.VOLT k) 250).set (PD_CONTRACT.CURR k) 90
  (((s1.set (PD_ST.CONTRACT k) 2).set (PD_ST.KIND k) 4).set (PD_ST.PDO_IDX k) 1).modEng k fun g => { g with asked := 0 }

/-- What a received control message changes: which swap it asks for, Accept and Reject of what was asked, PS_RDY, Soft_Reset (R212, R227,
R233, R235). -/
def controlEffect (s : State) (k h : Nat) : State :=
  if pdControl h 0x0A then s.modEng k fun g => { g with swapAsked := 1 }
  else if pdControl h 0x0B then s.modEng k fun g => { g with swapAsked := 3 }
  else if pdControl h 0x13 then s.modEng k fun g => { g with swapAsked := 2 }
  else if pdControl h 0x09 then s.modEng k fun g => { g with swapAsked := 4 }
  else if pdControl h 0x03 then s.answerEffect k true
  else if pdControl h 0x04 then s.answerEffect k false
  else if pdControl h 0x06 then (if (s.eng k).asked = 3 then s.sinkContract k else s.swapReady k false)
  else if !pdExt h && decide (pdType h = 0x0D) && decide (pdNdo h = 0) then s.modEng k fun g => { g with rxId := [], txId := [] }
  else s

/-- What receipt of a message on SOP brings in hardware (R212, R225, R226, R233). [log 19: DEDUCED] -/
def rxEffect (s : State) (k h w1 : Nat) : State :=
  if pdData h 0x02 || pdData h 0x09 then
    let rev := s.revOf k h
    (s.set (PD_ST.REV k) rev).modEng k fun g => { g with request := some (w1 / 2 ^ 28 % 16) }
  else if pdData h 0x01 then (if s.on (PD_ST.PWR_ROLE k) then s else s.set (PD_ST.REV k) (s.revOf k h))
  else if pdData h 0x0A ∧ w1 / 2 ^ 24 = 5 then
    if 1000 < s.get (PD_CONTRACT.VOLT k) ∧ s.get (PD_ST.CONTRACT k) = 2 then s.hrSend k else s.set (PD_ST.EPR_MODE k) 0
  else if pdData h 0x0F then s.vdmEffect k w1
  else s.controlEffect k h

end State

open State

/-- A valid message of kind `kind` (0 SOP, 1 SOP', 2 SOP'') arrives: `bytes` of header and data, header `h`, data words. -/
def execPdMessageReceived (k kind bytes h : Nat) (objs : List Nat) (s : State) : Res State :=
  act s fun s =>
    if !(s.pdHears k) then s
    else
      let s0 := s.txAbandon k
      let g := s0.eng k
      if 4 ≤ g.rx.length ∨ g.held ≠ [] then s0.inc (R.PD_RX_OVF_CNT k)
      else
        let s1 := s0.emit (.pd k kind [0x01])
        if decide (Tbl.get g.rxId 0 kind = pdMsgId h + 1) || s0.extBarred k h then s1
        else
          let e := (kind * 2 ^ 29 + bytes * 2 ^ 24 + h) :: ((objs ++ [0, 0, 0, 0, 0, 0, 0]).take 7)
          let s2 := (s1.modEng k fun g =>
            { g with rx := g.rx ++ [e], rxId := Tbl.set g.rxId 0 kind (pdMsgId h + 1) }).set (PD_ST.RX_CNT k) (g.rx.length + 1)
          let s3 := (s2.pdNote k false h).postPd k
          if kind = 0 then s3.rxEffect k h (objs.headD 0)
          else if kind = 1 ∧ pdData h 0x0F = true then s3.cableEffect k (objs.headD 0) (objs.getD 4 0)
          else s3

/-- tReceive expires without GoodCRC (R214): retried up to nRetryCount (R213), then FAILED. -/
def execPdRetryTimeout (k : Nat) (s : State) : Res State :=
  act s fun s =>
    let g := s.eng k
    if g.tx = .wire then
      if g.retries < (if s.get (PD_ST.REV k) = 1 then 3 else 2) then
        s.modEng k fun g => { g with tx := .retryWait, retries := g.retries + 1 }
      else s.txComplete k TxSt.failed
    else s

/-- CC has been idle for 25 µs, and tSinkTx has passed where an AMS starts (R215, R217). Hard Reset and Cable Reset signalling await no
GoodCRC. -/
def execPdTxStart (k : Nat) (s : State) : Res State :=
  act s fun s =>
    match (s.eng k).tx with
    | .idle => s
    | .wire => s
    | _ =>
      let w := (s.eng k).txWords
      let kind := w.headD 0 / 2 ^ 29 % 8
      if kind = 3 then (s.modEng k fun g => { g with tx := .idle }).hrSend k |>.txComplete k TxSt.ok
      else if kind = 4 then (s.emit (.pd k 4 [])).txComplete k TxSt.ok
      else
        let o := s.outWords k w
        ((s.emit (.pd k kind o)).pdNote k true (o.headD 0 % 65536)).modEng k fun g => { g with tx := .wire, txWords := o }

/-- GoodCRC arrives for the message on the wire (R214, R219); the last message of an own AMS restores SinkTxOk (R217). -/
def execPdTxComplete (k : Nat) (s : State) : Res State :=
  act s fun s =>
    let g := s.eng k
    if g.tx = .wire then
      let w0 := g.txWords.headD 0
      let kind := w0 / 2 ^ 29 % 8
      let s1 := (s.modEng k fun g => { g with txId := Tbl.set g.txId 0 kind ((Tbl.get g.txId 0 kind + 1) % 8) }).txComplete k TxSt.ok
      let s2 := if w0.testBit 22 then (s1.modEng k fun g => { g with ams := false }).sinkTxRefresh k else s1
      if kind = 0 then s2.txEffect k (w0 % 65536) (g.txWords.getD 1 0) else s2
    else s

namespace State

/-- PD_CMD TX_GO. -/
def pdTxGo (s : State) (k : Nat) : State := (s.txGo k).1

/-- PD_CMD RX_POP (R221, R242). -/
def pdRxPop (s : State) (k : Nat) : State :=
  if (s.eng k).rx = [] then s.pdRefuse k .wrongState else (s.rxPop k).pdDone k

/-- PD_CMD HARD_RESET (R242). -/
def pdHardReset (s : State) (k : Nat) : State :=
  if !(s.on (PD_CFG.EN k)) || !(s.partner k) || s.on (PD_ST.HR_SEQ k) || !(s.kReady k) then s.pdRefuse k .wrongState
  else (s.hrStart k true).pdDone k

/-- PD_CMD CABLE_RESET (R242). -/
def pdCableReset (s : State) (k : Nat) : State :=
  if !(s.on (PD_CFG.EN k)) || !(s.vconnOn k) || !(s.kReady k) then s.pdRefuse k .wrongState
  else (s.emit (.pd k 4 [])).pdDone k

end State

def execTxGo (k : Nat) (s : State) : Res State := act s fun s => s.atPort k fun s => s.pdTxGo k

def execRxPop (k : Nat) (s : State) : Res State := act s fun s => s.atPort k fun s => s.pdRxPop k

def execHardReset (k : Nat) (s : State) : Res State := act s fun s => s.atPort k fun s => s.pdHardReset k

def execCableReset (k : Nat) (s : State) : Res State := act s fun s => s.atPort k fun s => s.pdCableReset k

/-- Hard Reset signalling from the partner (R237, R238), with a kind 3 entry. -/
def execHardResetReceived (k : Nat) (s : State) : Res State :=
  act s fun s =>
    if s.pdHears k && s.partner k then
      (if s.on (PD_ST.HR_SEQ k) then s else s.hrStart k false).pdPostEntry k 3 0
    else s

def execCableResetReceived (k : Nat) (s : State) : Res State :=
  act s fun s => if s.pdHears k then s.pdPostEntry k 4 0 else s

/-- tPSHardReset ends (R237 step 1, R238 step 2): contract dropped, path discharging, VCONN off, bridge channel released. An upstream
port returns to its roles of the attach, and a sink keeps its contract until VBUS is below vSafe0V. -/
def execTpshardresetEnd (k : Nat) (s : State) : Res State :=
  act s fun s =>
    if (s.eng k).hr = .psHardReset then
      let s0 := s.modEng k fun g => { g with hr := .discharge }
      if k < 96 then
        let s1 := ((((s0.softOff k).set (P_TCST.VCONN_ON k) 0).releaseChannel k).portGone k).refreshCause k
        if s1.ppState k = Pp.discharge then s1 else s1.hrSafe0V k
      else
        let src := (s0.eng k).srcDefault
        let s1 := if s0.pathLive k then s0.softOff k else s0
        let s2 := (s1.set (PD_ST.PWR_ROLE k) src.toNat).set (PD_ST.DATA_ROLE k) src.toNat
        if s2.ppState k ≠ Pp.discharge ∧ s2.vbusLow k = true then s2.hrSafe0V k else s2
    else s

/-- tSrcRecover ends (R237 step 3): VCONN on if it was on before, unless the partner has left or VCONN has tripped (R198), and the path may ramp. -/
def execTsrcrecoverEnd (k : Nat) (s : State) : Res State :=
  act s fun s =>
    let g := s.eng k
    if g.hr = .srcRecover then
      let s1 := s.modEng k fun g => { g with hr := .turnOn }
      let s2 := if g.vconnBefore && s.partner k then s1.setVconn k true else s1
      (s2.refreshCause k).rampStart k
    else s

/-- VBUS not at vSafe5V at step 4's maximum (R237). -/
def execHrVsafe5vTimeout (k : Nat) (s : State) : Res State :=
  act s fun s =>
    if (s.eng k).hr = .turnOn then
      (((s.modEng k fun g => { g with hr := .none }).set (PD_ST.HR_SEQ k) 0).set (PD_ST.ABORTED k) 0).dropContract k
    else s

def execPdNextWrite (k v : Nat) (s : State) : Res State := act s fun s => s.atPort k fun s => s.wrPdNext k v

/-- tSrcTransition ends (R228 step 2): VSET moves toward the new voltage. -/
def execTsrctransitionEnd (k : Nat) (s : State) : Res State :=
  act s fun s =>
    if (s.eng k).trans = .srcTransition then
      (s.modEng k fun g => { g with trans := .slew }).newTarget k (20 * s.get (PD_NEXT.VOLT k))
    else s

/-- VBUS lies within its band of the target (R228 step 3): ±5 % of a fixed target, ±100 mV of a PPS or AVS target. -/
def execTransitionDone (k : Nat) (s : State) : Res State :=
  act s fun s =>
    let t := 20 * s.get (PD_NEXT.VOLT k)
    let v := s.vbusMv k
    let kind := s.get (PD_NEXT.KIND k)
    let near := if kind = 1 ∨ kind = 3 then t ≤ v + 100 ∧ v ≤ t + 100 else 95 * t ≤ 100 * v ∧ 100 * v ≤ 105 * t
    if (s.eng k).trans = .slew ∧ near then s.transDone k else s

def execTransitionTimeout (k : Nat) (s : State) : Res State :=
  act s fun s => if (s.eng k).trans = .slew then s.hrSend k else s

/-- EPR keep-alive: runs in EPR mode. -/
def execEprKeepaliveExpiry (k : Nat) (s : State) : Res State :=
  act s fun s => if s.on (PD_ST.EPR_MODE k) && s.on (PD_CFG.EN k) then s.pdWatchdog k 1 else s

/-- PPS timeout: runs under a PPS contract. -/
def execPpsTimeout (k : Nat) (s : State) : Res State :=
  act s fun s =>
    if decide (s.get (PD_ST.CONTRACT k) = 2) && decide (s.get (PD_ST.KIND k) = 1) && s.on (PD_CFG.EN k) then s.pdWatchdog k 2
    else s

/-- FR_Swap on an upstream sink with a contract and FRS_EN (R236): vSafe5V is sourced, on the credit reserved for it. -/
def execFrSwapSignal (u : Nat) (s : State) : Res State :=
  act s fun s =>
    let k := 96 + u
    if s.usHere u && s.on (PD_CFG.FRS_EN k) && s.on (PD_CFG.EN k) && !(s.on (PD_ST.PWR_ROLE k)) && s.on (PD_ST.CONTRACT k) then
      let s1 := (((s.set (PD_ST.SWAP k) 2).set (PD_ST.PWR_ROLE k) 1).forcedTake k).setTarget k 5000
      (((s1.set (PP_ST.PGOOD k) 1).set (PP_ST.FT_LVL k) 1).modPath k fun p => { p with gate := .full, rampDone := true }).setPp
        k Pp.on
    else s

end Sys2Proof.Machine
end

