-- ==== Sys2Proof/Machine/TypeC.lean ====
section
/-!
DEFINITION. Type-C ports (chapter 06): attach, seating, moisture and steam hold, detach, VCONN, and the writes of P_TC_CFG and
P_TC_CMD.
-/

namespace Sys2Proof.Machine

/-! TC_STATE codes (R208). -/

namespace Tc
abbrev disabled : Nat := 0
abbrev unattached : Nat := 1
abbrev attachWait : Nat := 2
abbrev checking : Nat := 3
abbrev steamHold : Nat := 4
abbrev seatWait : Nat := 5
abbrev attached : Nat := 6
abbrev debugAcc : Nat := 7
abbrev unsupported : Nat := 8
abbrev errorRecovery : Nat := 9
abbrev detaching : Nat := 10
end Tc

namespace State

/-- TC_STATE of Dn. -/
def tc (s : State) (n : Nat) : Nat := s.get (P_TCST.TC_STATE n)

/-- Write TC_STATE, with its port change event; CAUSE follows (R186). -/
def setTc (s : State) (n v : Nat) : State := (s.setPort n (P_TCST.TC_STATE n) v).refreshCause n

/-- The CC classes name a sink or a debug accessory: some pin reads Rd (R182). [log 29: DEDUCED] -/
def ccRd (s : State) (n : Nat) : Bool := decide (s.get (P_TCST.CC1 n) = 2) || decide (s.get (P_TCST.CC2 n) = 2)

/-- The CC classes name a partner of either kind: a sink, a debug accessory, or an audio adapter accessory (R182). [log 29: DEDUCED] -/
def ccPartner (s : State) (n : Nat) : Bool :=
  s.ccRd n || (decide (s.get (P_TCST.CC1 n) = 1) && decide (s.get (P_TCST.CC2 n) = 1))

/-- The partner the CC classes name is not supported: an audio adapter accessory, or a debug accessory with DAM_EN = 0 (R182). -/
def ccUnsupported (s : State) (n : Nat) : Bool :=
  let c1 := s.get (P_TCST.CC1 n); let c2 := s.get (P_TCST.CC2 n)
  (decide (c1 = 1) && decide (c2 = 1)) || (decide (c1 = 2) && decide (c2 = 2) && !(s.on (P_TC_CFG.DAM_EN n)))

/-- Dn's Type-C logic acts: the port is ready and its die drives the pins (R17, R183). -/
def tcLive (s : State) (n : Nat) : Bool := s.on (P_READY.READY n) && s.dieUp n

/-- CRADLE = 1 and seating is not confirmed: power waits (R186). -/
def seatHolds (s : State) (n : Nat) : Bool := s.on (P_TC_CFG.CRADLE n) && !(s.on (P_TCST.SEAT_IN n))

/-- Step 5 and 6 of R185: multiplexer, VCONN, ATTACHED or DEBUG_ACC, PWR_OK; the port takes the source and DFP roles (R246), and
the path ramps if it may. -/
def attachDone (s : State) (n : Nat) : State :=
  let c1 := s.get (P_TCST.CC1 n); let c2 := s.get (P_TCST.CC2 n)
  let dbg := decide (c1 = 2) && decide (c2 = 2)
  let s1 := (s.set (P_TCST.ORIENT n) (!dbg && decide (c2 = 2)).toNat).set (P_TCST.MUX_SET n) 1
  let vc := !dbg && s.on (P_TC_CFG.VCONN_EN n) && (decide (c1 = 1) || decide (c2 = 1)) && !(s.port n).vconnTripped
  let s2 := (s1.set (P_TCST.VCONN_ON n) vc.toNat).setTc n (if dbg then Tc.debugAcc else Tc.attached)
  let s3 := (((s2.set (PD_ST.PWR_ROLE n) 1).set (PD_ST.DATA_ROLE n) 1).set (PD_ST.ABORTED n) 0).set (P_TCST.PWR_OK n) 1
  let s4 := if dbg then s3.assignChannel n else s3
  s4.rampStart n

/-- Step 4 of R185: a cradle port waits for seating. -/
def attachGate (s : State) (n : Nat) : State :=
  if s.seatHolds n then s.setTc n Tc.seatWait else s.attachDone n

/-- The attachment goes on in TC_STATE `ret`, with PWR_OK as it was, after a passing RECHECK or a cancelled detach (R188, R196): a port
whose seating is not confirmed waits for it, one that waited has step 4 before it again, and a channel is assigned again where one is
needed (R186, R199). [log 29: DEDUCED] -/
def resumeTc (s : State) (n ret : Nat) (pwr : Bool) : State :=
  if ret = Tc.seatWait then s.attachGate n
  else if pwr && s.seatHolds n then (s.set (P_TCST.PWR_OK n) 0).setTc n Tc.seatWait
  else
    let s1 := (s.set (P_TCST.PWR_OK n) pwr.toNat).setTc n ret
    if s1.needsChannel n then s1.assignChannel n else s1

/-- A moisture check starts (R185 step 3, R195, R196), with the SBU switch open throughout (R192). [log 29: DEDUCED] -/
def checkStart (s : State) (n : Nat) (c : Check) : State :=
  let s1 := if s.get (P_TCST.SBU_ST n) = 3 then s else s.releaseChannel n
  (s1.modPort n fun p => { p with check := c, checkRet := s.tc n, checkPwr := s.on (P_TCST.PWR_OK n) }).setTc n Tc.checking

/-- Steam hold ends: F30 and PARTNER fall (R195, R208). -/
def steamEnd (s : State) (n : Nat) : State :=
  ((s.modPort n fun p => { p with steam := false, check := .none }).set (P_TCST.PARTNER n) 0).fltFall 30 n

/-- Leave steam hold by a passing check or an override: with a partner at step 4, unless it is unsupported (R182); else to UNATTACHED,
where a detach may still be to be reported (R188, R195, R196). -/
def steamLeave (s : State) (n : Nat) : State :=
  let s1 := s.steamEnd n
  if s.on (P_TCST.PARTNER n) && s.tcLive n then (if s.ccUnsupported n then s1.setTc n Tc.unsupported else s1.attachGate n)
  else s1.setTc n (if (s.port n).det = 0 then Tc.unattached else Tc.detaching)

/-- A failed check (R195): steam hold, counted, recorded on entry, F30. -/
def steamEnter (s : State) (n : Nat) : State :=
  let first := !(s.port n).steam
  let s1 := (s.modPort n fun p => { p with steam := true, check := .none }).inc (R.P_MOIST_FAIL_CNT n)
  let s2 := if first then
      ((((s1.inc (R.P_STEAM_CNT n)).set (P_TCST.PARTNER n) (s.ccPartner n).toNat).logRec 0x03 0x02 n (s.get (P_TCST.MOIST_FAIL n))).pwrOkFall n).faultOnset
        30 n 0
    else s1
  s2.setTc n Tc.steamHold

/-- One pin of the check passes (R193): class 0 open, 1 Ra, 2 Rd, 3 for an SBU pin; readings in 10 Ω. -/
def pinPass (s : State) (cls r : Nat) : Bool :=
  match cls with
  | 2 => decide (390 ≤ r ∧ r ≤ 640)
  | 1 => decide (70 ≤ r ∧ r ≤ 135)
  | 0 => decide (1000 * min 0x1E (s.get G_MOIST_CFG.CC_OPEN) ≤ r)
  | _ => decide (1000 * min 0x1E (s.get G_MOIST_CFG.SBU_OPEN) ≤ r)

/-- MOIST_FAIL for four readings. -/
def moistFail (s : State) (n cc1 cc2 sbu1 sbu2 : Nat) : Nat :=
  (!s.pinPass (s.get (P_TCST.CC1 n)) cc1).toNat + 2 * (!s.pinPass (s.get (P_TCST.CC2 n)) cc2).toNat +
    4 * (!s.pinPass 3 sbu1).toNat + 8 * (!s.pinPass 3 sbu2).toNat

/-- What lasts for one attachment of Dn ends with it (R188, R191, R196, R198 to R200, R212): override, vendor mode, check, multiplexer,
channel and OV, revision and cable ratings, a VCONN trip, and a Hard Reset sequence that still runs. [log 62: DEDUCED] -/
def attachOver (s : State) (n : Nat) : State :=
  let s1 := ((((s.set (P_TCST.OVR n) 0).set (P_TCST.VMODE n) 0).set (P_TCST.MOIST_VALID n) 0).set (P_TCST.MUX_SET n) 0).releaseChannel n
  let s2 := ((((s1.set (P_TCST.SBU_ST n) 0).set (PD_ST.REV n) 0).set (PD_ST.CABLE_5A n) 0).set (PD_ST.CABLE_EPR n) 0).set (PD_ST.PWR_ROLE n) 0
  let s3 := (s2.set (PD_ST.HR_SEQ n) 0).modEng n fun g =>
    { g with hr := .none, vconnBefore := false, ams := false, request := none, swapAsked := 0, asked := 0, rxId := [], txId := []
             pol := { shed := g.pol.shed } }
  s3.modPort n fun p => { p with vconnTripped := false, det := 0, detAbort := false, errRec := false }

/-- The detach of Dn is reported (R188 step 3, R191 step 4): DISCONNECTED and a DETACH record. -/
def detachNote (s : State) (n : Nat) : State :=
  (((s.attachOver n).modPort n fun p => { p with reDet := true }).portGone n).logOpen 0x03 0x01 n

/-- The detach of Dn is reported outside steam hold: UNATTACHED, or a new attach where Rd has returned. -/
def detachReport (s : State) (n : Nat) : State :=
  ((s.detachNote n).modPort n fun p => { p with check := .none }).setTc n (if s.ccRd n then Tc.attachWait else Tc.unattached)

/-- OVERRIDE (R196): it lasts for the present attachment, and with no partner there is none. -/
def tcOverride (s : State) (n : Nat) : State :=
  if s.kReady n && (s.port n).steam then
    ((((if s.on (P_TCST.PARTNER n) then s.set (P_TCST.OVR n) 1 else s).logOpen 0x03 0x05 n)).steamLeave n).answer .ok
  else (s.inc (R.P_TC_REJ_CNT n)).answer .wrongState

/-- A re-seat by detach takes effect at the end of the new attach debounce (R189). -/
def reseatDet (s : State) (n : Nat) : State :=
  if (s.port n).reDet then (s.reseat n).modPort n fun p => { p with reDet := false } else s

/-- RECHECK (R196). [log 29: DEDUCED] -/
def tcRecheck (s : State) (n : Nat) : State :=
  let t := s.tc n
  let okState := decide (t = Tc.unattached ∨ t = Tc.seatWait ∨ t = Tc.steamHold ∨ t = Tc.unsupported ∨ t = Tc.attached ∨ t = Tc.debugAcc)
  let noRamp := !(s.on (P_TCST.PWR_OK n)) || (s.on (PP_ST.CMD_OFF n) && decide (s.ppState n = Pp.off))
  if s.tcLive n && s.vbusLow n && okState && noRamp then
    ((s.checkStart n .recheck).set (P_TCST.PWR_OK n) 0).answer .ok
  else (s.inc (R.P_TC_REJ_CNT n)).answer .wrongState

/-- A write of P_TC_CMD[n] (R196, R209). [log 29: DEDUCED] -/
def wrTcCmd (s : State) (n v : Nat) : State :=
  if v % 4 = 3 then (s.inc (R.P_TC_REJ_CNT n)).answer .range
  else if v % 2 = 1 then s.tcOverride n
  else if v % 4 = 2 then s.tcRecheck n
  else s.answer .ok

/-- CRADLE changes (R186). -/
def wrCradle (s : State) (n v : Nat) : State :=
  let was := s.on (P_TC_CFG.CRADLE n)
  let s1 := s.set (P_TC_CFG.CRADLE n) v
  let now := s1.on (P_TC_CFG.CRADLE n)
  if !was && now && !(s.on (P_TCST.SEAT_IN n)) && s.on (P_TCST.PWR_OK n) then
    (if s.tc n = Tc.detaching then (s1.pwrOkFall n).modPort n fun p => { p with checkRet := Tc.seatWait }
     else (s1.pwrOkFall n).setTc n Tc.seatWait)
  else if was && !now && decide (s.tc n = Tc.seatWait) && s.tcLive n then s1.attachDone n
  else s1

end State

open State

/-- A command of Dn's Type-C logic: the port is ready and its die drives the pins (R183). -/
def tcAct (s : State) (n : Nat) (f : State → State) : Res State :=
  act s fun s => if s.dsHere n && s.tcLive n then f s else s

/-- The CC pins of Dn classify as `cc1`, `cc2` (0 open, 1 Ra, 2 Rd) (R182, R185 step 1, R188, R195, R206): a partner is debounced, and
one of another class in SEAT_WAIT is debounced anew. [log 29: DEDUCED] -/
def execCcAttach (n cc1 cc2 : Nat) (s : State) : Res State :=
  tcAct s n fun s =>
    let s1 := (s.set (P_TCST.CC1 n) cc1).set (P_TCST.CC2 n) cc2
    let t := s.tc n
    let same := decide (s.get (P_TCST.CC1 n) = cc1 ∧ s.get (P_TCST.CC2 n) = cc2)
    if !(s1.ccPartner n) then
      if t = Tc.attachWait then s1.setTc n Tc.unattached else s1
    else if (s.port n).steam then s1.set (P_TCST.PARTNER n) 1
    else if t = Tc.unattached ∨ t = Tc.attachWait ∨ (t = Tc.seatWait ∧ same = false) then s1.setTc n Tc.attachWait
    else s1

/-- The classes have held for ATTACH_DB (R185 step 2, R182, R189), in steam hold too, where only the re-seat takes effect. -/
def execAttachDebounceEnd (n : Nat) (s : State) : Res State :=
  tcAct s n fun s =>
    if s.tc n = Tc.attachWait then
      let s1 := (s.reseatDet n).set (P_TCST.MOIST_VALID n) 0
      if s.ccUnsupported n then (s1.logOpen 0x03 0x03 n).setTc n Tc.unsupported
      else if !(s.ccRd n) then s1.setTc n Tc.unattached
      else if s.on (P_TC_CFG.MOIST_EN n) then s1.checkStart n .attach
      else s1.attachGate n
    else if (s.port n).steam && s.on (P_TCST.PARTNER n) then s.reseatDet n
    else s

/-- The check of Dn ends with four readings in 10 Ω, 0xFFFF over range (R192, R193, R195, R196). -/
def execMoistureCheckDone (n cc1 cc2 sbu1 sbu2 : Nat) (s : State) : Res State :=
  tcAct s n fun s =>
    if s.tc n = Tc.checking then
      let f := s.moistFail n cc1 cc2 sbu1 sbu2
      let s1 := (((s.set (P_MOIST_CC.CC1 n) cc1).set (P_MOIST_CC.CC2 n) cc2).set (P_MOIST_SBU.SBU1 n) sbu1).set (P_MOIST_SBU.SBU2 n) sbu2
      let s2 := (s1.set (P_TCST.MOIST_VALID n) 1).set (P_TCST.MOIST_FAIL n) f
      if f ≠ 0 then s2.steamEnter n
      else if (s.port n).steam then s2.steamLeave n
      else
        match (s.port n).check with
        | .recheck => (s2.modPort n fun p => { p with check := .none }).resumeTc n (s.port n).checkRet (s.port n).checkPwr
        | _ => (s2.modPort n fun p => { p with check := .none }).attachGate n
    else s

/-- SEAT of Dn has been low for SEAT_DB (R190, R185 step 4, R189). -/
def execSeatConfirmed (n : Nat) (s : State) : Res State :=
  act s fun s =>
    if s.dsHere n then
      let s1 := (s.set (P_TCST.SEAT_IN n) 1).modPort n fun p => { p with seatRaw := true, seatGone := false }
      let s2 := if s.on (P_TC_CFG.CRADLE n) && (s.port n).seatGone then s1.reseat n else s1
      if decide (s.tc n = Tc.seatWait) && s.tcLive n then s2.attachDone n else s2
    else s

/-- SEAT of Dn has been high for 1 ms (R191 steps 1 to 3). -/
def execSeatLoss (n : Nat) (s : State) : Res State :=
  act s fun s =>
    if s.dsHere n then
      let s1 := (s.set (P_TCST.SEAT_IN n) 0).modPort n fun p =>
        { p with seatRaw := false, seatGone := p.seatGone || s.on (P_TC_CFG.CRADLE n) }
      if s.on (P_TC_CFG.CRADLE n) && s.on (P_TCST.PWR_OK n) then
        let s2 := s1.set (P_TCST.PWR_OK n) 0
        let s3 := if s2.pathLive n || decide (s2.ppState n = Pp.discharge) then (s2.abortTransition n 3).hardOff n .off
          else if s2.ppState n = Pp.retryWait then (s2.setPp n Pp.off).refreshCause n else s2
        ((((s3.dropContract n).set (P_TCST.VCONN_ON n) 0).attachOver n).modPort n fun p => { p with errRec := true }).setTc n
          Tc.errorRecovery
      else s1
    else s

/-- 25 ms after a seating loss Rp is restored, the pins classify as `cc1`, `cc2`, and the loss is counted and recorded (R191 steps 4 and 5). -/
def execErrorRecoveryEnd (n cc1 cc2 : Nat) (s : State) : Res State :=
  tcAct s n fun s =>
    if s.tc n = Tc.errorRecovery then
      let s1 := ((s.set (P_TCST.CC1 n) cc1).set (P_TCST.CC2 n) cc2).modPort n fun p => { p with errRec := false }
      ((if s1.ccRd n then s1.setTc n Tc.attachWait else s1.detachReport n).inc (R.P_SEAT_LOSS_CNT n)).logOpen 0x03 0x04 n
    else s

/-- The pins that named the partner read open: the one with Rd, or both of an audio adapter accessory (R188 step 1, R182). -/
def pinsOpen (s : State) (n : Nat) : State :=
  let s0 := if s.get (P_TCST.CC1 n) = 2 ∨ s.ccRd n = false then s.set (P_TCST.CC1 n) 0 else s
  if s.get (P_TCST.CC2 n) = 2 ∨ s.ccRd n = false then s0.set (P_TCST.CC2 n) 0 else s0

/-- A cable pull aborts the running transition (R239 step 1). -/
def pullAbort (s : State) (n : Nat) : State :=
  if s.on (PD_ST.IN_TRANS n) then
    (((((((s.set (PD_ST.IN_TRANS n) 0).set (PD_ST.ABORTED n) 1).modEng n fun g => { g with trans := .none }).newTarget n 5000).modPort n fun p =>
      { p with detAbort := true }).pdPostEntry n 6 1).inc (R.PD_ABORT_CNT n)).logOpen 0x04 0x02 n
  else s

/-- TC_STATE in which the attachment of Dn would go on if its detach were cancelled: a RECHECK is over with the detach, and the check of
an attach runs again (R206). [log 62: DEDUCED] -/
def detReturn (s : State) (n : Nat) : Nat × Bool :=
  if s.tc n = Tc.checking then
    (if (s.port n).check = .recheck then ((s.port n).checkRet, (s.port n).checkPwr) else (Tc.checking, false))
  else (s.tc n, s.on (P_TCST.PWR_OK n))

/-- The pin that carried Rd reads open (R188 step 1); a running transition is aborted (R239 step 1), and a running check stops (R206).
Steam hold stays (R195). -/
def execCcOpen (n : Nat) (s : State) : Res State :=
  tcAct s n fun s =>
    let t := s.tc n
    let s1 := pinsOpen s n
    if !(s.ccPartner n) || decide (t = Tc.detaching) then s1
    else if (s.port n).steam then
      let s2 := ((s1.set (P_TCST.PARTNER n) 0).modPort n fun p => { p with det := 1, detAbort := false, check := .none })
      if t = Tc.checking then s2.setTc n Tc.steamHold else s2
    else if t = Tc.attachWait then s1.setTc n Tc.unattached
    else if t = Tc.attached ∨ t = Tc.debugAcc ∨ t = Tc.seatWait ∨ t = Tc.checking ∨ t = Tc.unsupported then
      let r := detReturn s n
      ((pullAbort (s1.modPort n fun p => { p with det := 1, detAbort := false, check := .none, checkRet := r.1, checkPwr := r.2 }) n).setTc n
        Tc.detaching)
    else s1

/-- Rd returns before tPDDebounce (R188), on the pins as `cc1`, `cc2`: the attachment continues unchanged. After an aborted transition the
engine sends Hard Reset (R240). -/
def execDetachCancelled (n cc1 cc2 : Nat) (s : State) : Res State :=
  tcAct s n fun s =>
    if (s.port n).det = 1 then
      let p := s.port n
      let s1 := (((s.set (P_TCST.CC1 n) cc1).set (P_TCST.CC2 n) cc2).inc (R.P_CC_GLITCH_CNT n)).modPort n fun p =>
        { p with det := 0, detAbort := false }
      if p.steam then s1.set (P_TCST.PARTNER n) 1
      else if p.checkRet = Tc.checking then s1.checkStart n .attach
      else
        let s2 := s1.resumeTc n p.checkRet p.checkPwr
        if p.detAbort then s2.hrSend n else s2
    else s

/-- The pin has read open for tPDDebounce (R188 step 2, R239 step 2). -/
def execTpddebounceEnd (n : Nat) (s : State) : Res State :=
  tcAct s n fun s =>
    if (s.port n).det = 1 then
      (((((s.modPort n fun p => { p with det := 2 }).modEng n fun g => { g with vconnBefore := false }).pwrOkFall n).set
        (P_TCST.VCONN_ON n) 0).releaseChannel n).refreshCause n
    else s

/-- The pin has read open for ATTACH_DB (R188 step 3). -/
def execDetachReported (n : Nat) (s : State) : Res State :=
  tcAct s n fun s =>
    if (s.port n).det = 2 then (if (s.port n).steam then s.detachNote n else s.detachReport n) else s

/-- RETEST after the previous check ended (R195). -/
def execMoistureRetest (n : Nat) (s : State) : Res State :=
  tcAct s n fun s => if s.tc n = Tc.steamHold then s.checkStart n .retest else s

def execOverride (n : Nat) (s : State) : Res State := act s fun s => s.atPort n fun s => s.tcOverride n

def execRecheck (n : Nat) (s : State) : Res State := act s fun s => s.atPort n fun s => s.tcRecheck n

/-- A write of CRADLE = `v` that takes effect (R186). -/
def execCradleWrite (n v : Nat) (s : State) : Res State := act s fun s => s.atPort n fun s => (s.wrCradle n v).answer .ok

/-- VCONN overcurrent on Dn (R198): off for the attachment, counted, F28; the cable ratings are lost (R224). -/
def execVconnTrip (n : Nat) (s : State) : Res State :=
  tcAct s n fun s =>
    if s.on (P_TCST.VCONN_ON n) then
      ((((s.set (P_TCST.VCONN_ON n) 0).modPort n fun p => { p with vconnTripped := true }).set (PD_ST.CABLE_5A n) 0).set
        (PD_ST.CABLE_EPR n) 0).inc (R.P_VCONN_TRIP_CNT n) |>.faultOnset 28 n 0
    else s

/-- An SBU pin of Dn rises above 4.0 V (R200). -/
def execSbuOvervoltage (n : Nat) (s : State) : Res State :=
  tcAct s n fun s => ((s.overvoltOpen n).inc (R.P_SBU_OV_CNT n)).faultOnset 29 n 0

/-- A half period of DRP toggling ends on Uu (R184): the pins change between Rp and Rd while nothing is attached. -/
def execDrpToggle (u : Nat) (s : State) : Res State :=
  act s fun s =>
    if s.usHere u && s.on (U_TC_CFG.DRP u) && !(s.up u).attached && s.dieUp (96 + u) then s.modUp u fun x => { x with rp := !x.rp }
    else s.modUp u fun x => { x with rp := x.rp && x.attached && s.dieUp (96 + u) }

end Sys2Proof.Machine
end

