-- ==== Sys2Proof/Machine/Clock.lean ====
section
/-!
DEFINITION. Time and clocks: loss of a PA die, the root clock and the PLL (R17, R27, R513); microframe boundaries of the trees and the
125 µs, 1 µs and 1 ms ticks of TB (R29, R30, R116, R137, R325, R484).
-/

namespace Sys2Proof.Machine

namespace State

/-! ### Loss of a PA die (R17, R18, R183, R241) -/

/-- A port of a lost die: gate low, Rp and VCONN off, contract dropped and charge returned; a downstream port reads PA_LOST, with
channel, steam hold and override gone. -/
def portLost (s : State) (k : Nat) : State :=
  let s1 := if s.pathLive k then s.hardOff k .off
    else if s.ppState k = Pp.discharge then s.modPath k fun p => { p with gate := .isp, soft := false } else s
  let s2 := (((s1.abortTransition k 2).dropContract k).modEng k fun g => { g with hr := .none, tx := .idle })
  let s3 := if k < 96 then
      let s4 := (((s2.set (P_TCST.VCONN_ON k) 0).set (P_TCST.PWR_OK k) 0).steamEnd k).attachOver k
      ((s4.setTc k Tc.disabled).portGone k).setPs k Ps.paLost
    else s2.ccPassive (k - 96)
  s3.creditReturn k

/-- Die d is lost: its ports go, and they return only after a reset (R17, R439). [log 12: DEDUCED] -/
def dieLost (s : State) (d : Nat) : State :=
  let s1 := s.modPins fun p => { p with paLost := p.paLost.set d true }
  ((List.range 100).filter fun k => dieOf k == d && s.kHere k).foldl portLost s1

/-! ### Boundaries of a tree (R53, R62, R484) -/

/-- A front logical port starts or stops reporting the tree's own function (R53). -/
def presentOwn (s : State) (u l : Nat) (here : Bool) : State :=
  let s1 := s.modLport u l fun _ => { conn := here, cConn := true }
  if here then s1
  else
    let t : Target := if l = 15 then .mgmt else .backHub (15 - l)
    s1.modUp u fun x =>
      { x with routes := x.routes.filter (fun e => !(e.2 == t)), target0 := if x.target0 = some t then none else x.target0 }

/-- A port that a conflict hides and whose entry has become invalid reads MAP_INVALID (R49). -/
def recauseHidden (s : State) (n : Nat) : State :=
  if s.ps n = Ps.hidden ∧ s.get (P_PORTST.CAUSE n) = 7 ∧ s.placeOf n = .invalid then s.set (P_PORTST.CAUSE n) 6 else s

/-- Ports of tree u whose slot is no longer valid become HIDDEN with CAUSE MAP_INVALID, and so do those that a conflict hid there
(R49, R53). -/
def hideInvalid (s : State) (u : Nat) : State :=
  (s.portsFollowing u).foldl recauseHidden ((s.portsIn u).foldl (fun s n =>
    match (s.port n).slot with
    | some (_, h, l) => if s.slotOk u h l then s else s.hidePort n 6
    | none => s) s)

/-- BH_EN takes effect (R53). -/
def applyHubs (s : State) (u : Nat) : State :=
  let now := 2 * s.get (U_TREE.BH_EN u)
  let was := (s.up u).bhNow
  let s1 := s.modUp u fun x => { x with bhNow := now }
  let s2 := (List.range 8).foldl (fun s b =>
    if now.testBit b = was.testBit b then s else s.presentOwn u (15 - b) (now.testBit b)) s1
  if now = was then s2 else s2.hideInvalid u

/-- MGMT_EN and CH_MASK take effect (R53, R62): a change of the channels detaches the function for 10 ms of SE0. -/
def applyMgmt (s : State) (u : Nat) : State :=
  let en := s.on (U_TREE.MGMT_EN u)
  let chs := (s.channelsOf u).foldl (fun a c => a + 2 ^ c) 0
  let x := s.up u
  if en && !x.mgmtNow then
    ((s.modUp u fun x => { x with mgmtNow := true, chNow := chs, mgmtMove := .none }).presentOwn u 15 true).serveWaiting
  else if !en && x.mgmtNow then (s.modUp u fun x => { x with mgmtNow := false, mgmtMove := .none }).presentOwn u 15 false
  else if !en then s.modUp u fun x => { x with chNow := chs }
  else if x.mgmtMove = .newBoundary then
    ((s.modUp u fun x => { x with mgmtMove := .none, chNow := chs }).presentOwn u 15 true).serveWaiting
  else if x.mgmtMove = .none ∧ x.chNow ≠ chs then
    (s.modUp u fun x => { x with mgmtMove := .se0 }).presentOwn u 15 false
  else s

/-- A port that waits for its slot, or whose invalid entry has become valid, is presented (R50, R53, R66). -/
def retryHidden (s : State) (n : Nat) : State :=
  if (s.port n).move = .none ∧ (s.port n).slot = none ∧ s.ps n = Ps.hidden ∧
      (s.get (P_PORTST.CAUSE n) = 6 ∨ s.get (P_PORTST.CAUSE n) = 7) then
    match s.placeOf n with
    | .here u h l =>
      if (s.portIn u h l).isSome || (s.slotIn u h l).isSome then s.set (P_PORTST.CAUSE n) 7 else s.presentPort n
    | _ => s
  else s

/-- Moves that reach the boundary of tree u (R50 to R52): ports leave it first; then ports enter it, and hidden ones take what is free,
in rising order of their numbers. -/
def applyMoves (s : State) (u : Nat) : State :=
  let all := List.range (dsPorts s.variant)
  let s1 := all.foldl (fun s n =>
    if (s.port n).move = .oldBoundary ∧ s.leavesAt n = some u then s.moveStart n else s) s
  all.foldl (fun s n =>
    if s.treeOf n = some u then (if (s.port n).move = .newBoundary then s.presentPort n else s.retryHidden n) else s) s1

/-- The registers of Dn's boundary domain are applied, its policers refilled, its shaper's window begun (R115, R126, R134, R142,
R150). [log 25: DEDUCED] -/
def applyEgress (s : State) (x : Nat) : State :=
  let s1 := (((s.shApply x).apply (TM_EG_CFG.OVH x)).apply (TM_EG_CFG.RES x))
  let s2 := if x < 96 then s1.apply (TM_DRR_Q.QUANTUM x) else s1
  let s3 := ((s2.set (TM_EG_ST.PER_USED x) 0).set (TM_EG_ST.DEFERRED x) 0).modEgress x fun e => { e with deferred := [] }
  s3.watchTick 3 x

/-- P_QSEL, policers and egress of Dn at its boundary. [log 25: DEDUCED] -/
def applyPort (s : State) (n : Nat) : State :=
  let s1 := ((s.apply (P_QSEL.TTQ n)).apply (P_QSEL.DEFQ_OUT n)).apply (P_QSEL.DEFQ_IN n)
  ((s1.plBoundary (2 * n)).plBoundary (2 * n + 1)).applyEgress n

/-- Endpoint entries whose boundary is that of `t` (R116). -/
def applyEps (s : State) (t : Option Nat) : State :=
  s.stagedEps.foldl (fun s e => if s.treeOf (s.epPort e) = t then s.epApply e else s) s

/-- Policers of Uu (R126). -/
def applyUpPolicers (s : State) (u : Nat) : State := (s.plBoundary (192 + 2 * u)).plBoundary (193 + 2 * u)

/-- Groups of tree u, or not in use, take their quantum (R417). -/
def applyGroups (s : State) (here : Grp → Bool) : State :=
  (List.range 64).foldl (fun s g => if here (Tbl.get s.kcl.grps {} g) then s.apply (KL_GRP_QNT.QUANTUM g) else s) s

/-- SOF to full-speed ports and keep-alives to low-speed ports of tree u at the start of a frame (R80, R155, R158). With no host (LINK 0)
they end at once, though the ports stay ENABLED and the timer runs on; SOF_SYNC to owners goes on. [log 56: DESIGN CHOICE] -/
def frameStart (s : State) (u : Nat) : State :=
  if s.get (U_LPST.HS_STATE u) = Hs.active ∧ s.on (U_TREEST.LINK u) = true then
    (s.sidePorts u false).foldl (fun s n =>
      if s.ps n = Ps.enabled ∧ s.get (P_LPST.SUSP_KIND n) = Susp.none then
        (match s.get (P_PORTST.SPEED n) with
          | 1 => s.emit (.usb2 n .eop)
          | 2 => s.emit (.usb2 n .sof)
          | _ => s)
      else s) s
  else s

/-- Remote slots of tree u report or withdraw their ports at its boundary (R416, R427). -/
def applySlots (s : State) (u : Nat) : State :=
  s.modKcl fun k => { k with slots := k.slots.map fun e =>
    (e.1, if e.2.valid ∧ e.2.tree = u then { e.2 with shown := decide (e.2.susp = 0) } else e.2) }

/-- TTs at the boundary into microframe `now` (R76, R77): stages whose complete-splits are over leave their table with their packets, and
at the start of a frame what has not completed before its end has failed. [log 55: DEDUCED] -/
def ttBoundary (s : State) (n now : Nat) (frame : Bool) : State :=
  let s1 := s.ttDrop n fun x => (s.tt n).per.contains x && decide (x.y + 3 < now)
  if frame then s1.modTt n fun t => { t with per := t.per.map fun x =>
      if x.st = .pending ∧ x.y < now then { x with st := .failed } else x }
  else s1

/-- Uu's timer steps to its next microframe (R30). -/
def mfStep (s : State) (u : Nat) : State :=
  s.modUp u fun x =>
    { x with mf := (x.mf + 1) % 8, mfCount := x.mfCount + 1, frame := if x.mf = 7 then (x.frame + 1) % 2048 else x.frame }

/-- The boundary of Uu's microframe timer (R484): apply, refill and holds before anything of the new microframe (R131, R152). -/
def boundary (s : State) (u : Nat) : State :=
  let s1 := (s.mfStep u).modUp u fun x => { x with heat := s.get TM_HEAT.H }
  let s2 := if s.isKcl u then s1 else (((s1.applyHubs u).applyMgmt u).applyMoves u).applySlots u
  let s3 := ((s2.apply (U_QSEL.HUBQ u)).apply (U_QSEL.ITPQ u)).applyEps (some u)
  let s4 := (s3.portsFollowing u).foldl applyPort s3
  let s5 := if s.isKcl u then s4.apply (KL_LQ_QNT.QUANTUM u) else s4.applyUpPolicers u
  let s6 := (s5.applyEgress (96 + u)).applyGroups fun g => g.used && g.tree == u
  let s7 := (s6.portsIn u).foldl (fun s n => s.ttBoundary n (s6.up u).mfCount (decide ((s6.up u).mf = 0))) s6
  let s8 := if (s7.up u).mf = 0 then s7.frameStart u else s7
  s8.gatesRefresh

/-- What follows a 125 µs tick of TB: ports, entries and policers that belong to no tree, unused groups, watched levels but
BULK_GATED, moves from a remote slot, and U0 admission (R116, R126, R171, R417, R497). -/
def tbTick (s : State) : State :=
  let all := List.range (dsPorts s.variant)
  let s1 := all.foldl (fun s n => if (s.port n).move = .oldBoundary ∧ s.leavesAt n = none then s.moveStart n else s) s
  let s2 := s1.applyEps none
  let s3 := (all.filter fun n => s2.treeOf n == none).foldl applyPort s2
  let s4 := ((List.range (usPorts s.variant)).filter s.isKcl).foldl applyUpPolicers s3
  let s5 := s4.applyGroups fun g => !g.used
  let s6 := (all.filter fun n => (s5.port n).slot.isNone).foldl (fun s n =>
    s.ttBoundary n (s5.timeUs / 125) (decide (s5.timeUs / 125 % 8 = 0))) s5
  s6.admitOnce.gatesRefresh

/-- Episodes of levels that belong to no tree grow by one boundary (R497). -/
def levelsTick (s : State) : State :=
  s.eps.foldl (fun s e => if e.1 / 4096 = 3 then s else s.watchTick (e.1 / 4096) (e.1 % 4096)) s

/-- The root is lost: it counts as absent, and the service engine and the fault collector run from the RC oscillator until the next
reset (R27, R28, R458, R530). -/
def rootGone (s : State) : State :=
  (s.modPins fun p => { p with clockAbsent := true, pllLocked := false }).set SV_UART.RC 1

end State

open State

/-- Die d's link carries no valid frame for 5 µs (R17): a loss only while its enable line is driven high. -/
def execPaLinkLoss (d : Nat) (s : State) : Res State :=
  act s fun s =>
    if s.pins.paEnable.getD d false then
      (if s.pins.paLost.getD d false then s else s.dieLost d).faultOnset (6 + d) 0 0
    else s

/-- The RC monitor finds the root clock absent (R27, R513, R516). A loss already asserted is the same loss. -/
def execRootClockLoss (s : State) : Res State :=
  act s fun s => if s.fltOn 0 then s else (s.rootGone.faultOnset 0 0 0).safeEntry Entry.clock 0

/-- The root PLL loses lock after STRAP (F01, R516, R530). -/
def execPllUnlock (s : State) : Res State :=
  act s fun s =>
    if s.pins.pllLocked && decide (s.mode ≠ .strap) then
      (s.rootGone.faultOnset 1 0 0).safeEntry Entry.clock 0
    else s

/-- An SOF, or a bus interval, on Uu (R30): the timer realigns, the frame number follows the host's, and the SOF goes to every ENABLED
high-speed port of the tree (R72). -/
def execSofReceived (u frame : Nat) (s : State) : Res State :=
  act s fun s => s.atU u fun s =>
    let s1 := s.modUp u fun x => { x with frame := frame, mf := if x.frame = frame then x.mf else 0 }
    if 2 ≤ s.get (U_TREEST.LINK u) ∧ s.get (U_LPST.HS_STATE u) = Hs.active then
      (s1.hsPorts u).foldl (fun s n => if s.get (P_LPST.SUSP_KIND n) = Susp.none then s.emit (.usb2 n .sof) else s) s1
    else s1

/-- A boundary of Uu's timer: outside RISE and RUN the timer alone steps, freely from TB (R30). -/
def execMicroframeBoundary (u : Nat) (s : State) : Res State :=
  act s fun s =>
    if !(s.usHere u) || decide (s.mode = .strap) || s.pins.clockAbsent then s
    else if s.dataOn then s.boundary u else s.mfStep u

def execTbTick125us (s : State) : Res State :=
  act s fun s =>
    if s.mode = .strap ∨ s.pins.clockAbsent = true then s
    else if s.dataOn then s.tbTick.levelsTick else s.levelsTick

/-- The end of a 1 µs tick (R29, R137): TB advances by 480 cycles; every shaper updates. [log 4: DESIGN CHOICE] -/
def execShaperTickUpdate (s : State) : Res State :=
  act s fun s =>
    if s.mode = .strap ∨ s.pins.clockAbsent = true then s
    else
      let s1 := s.setTb (s.tb + 480)
      if s1.dataOn then
        (List.range 100).foldl (fun s x => if s.kHere x then s.shTick x else s) s1
      else s1

/-- A 1 ms tick of TB (R325). -/
def execOneMsTick (s : State) : Res State :=
  act s fun s => if s.mode = .strap ∨ s.pins.clockAbsent = true then s else s.postRouted 15

end Sys2Proof.Machine
end

