-- ==== Sys2Proof/Machine/KclLink.lean ====
section
/-!
DEFINITION. The cascade link engine: training (R392 to R397), link frames, sequence numbers and credits (R401 to R403), chip IDs (R404
to R408), hop latency and routes (R410 to R413), and the latency budget (R427).
-/

namespace Sys2Proof.Machine

/-! Codes of KL_LST.STATE and MCODE (R434, R428). -/

namespace Kl
abbrev off : Nat := 0
abbrev detect : Nat := 1
abbrev poll : Nat := 2
abbrev config : Nat := 3
abbrev numbering : Nat := 4
abbrev up : Nat := 5
abbrev unnumbered : Nat := 6
abbrev down : Nat := 7
end Kl

namespace Mc
abbrev regRd : Nat := 0
abbrev regWr : Nat := 1
abbrev regRsp : Nat := 2
abbrev mbx : Nat := 3
abbrev mbxRsp : Nat := 4
abbrev route : Nat := 5
abbrev root : Nat := 6
abbrev idReq : Nat := 7
abbrev idGrant : Nat := 8
abbrev idClaim : Nat := 9
abbrev idRefuse : Nat := 0xA
abbrev routeLoss : Nat := 0xB
end Mc

/-! LCODE of LINK frames (R399). -/

namespace Lc
abbrev lack : Nat := 0
abbrev lnak : Nat := 1
abbrev credit : Nat := 2
abbrev keepalive : Nat := 3
abbrev probe : Nat := 4
abbrev probeEcho : Nat := 5
end Lc

namespace State

/-! ### The engine and its links -/

/-- The engine is present and enabled. -/
def kOn (s : State) : Bool := hasKcl s.variant && s.on KL_CFG.EN && s.dataOn

/-- STATE of link u. -/
def lst (s : State) (u : Nat) : Nat := s.get (KL_LST.STATE u)

/-- Frames may be sent on link u. -/
def linkLive (s : State) (u : Nat) : Bool :=
  s.usHere u && s.isKcl u && decide (Kl.numbering ≤ s.lst u) && decide (s.lst u ≤ Kl.unnumbered)

/-- Uu is a KCL link of a running engine. -/
def atK (s : State) (u : Nat) (f : State → State) : State := if s.kOn && s.usHere u && s.isKcl u then f s else s

/-- Write the STATE of link u; RELAY may begin or end (R430). -/
def setLst (s : State) (u v : Nat) : State := (s.set (KL_LST.STATE u) v).modeNote s

/-- KL_ID.STATE is NUMBERED. -/
def numbered (s : State) : Bool := decide (s.get KL_ID.STATE = 1)

/-- G_DIE_ID. -/
def dieId (s : State) : Nat := s.get G_DIE_ID_HI.ID * 2 ^ 32 + s.get G_DIE_ID_LO.ID

/-- The frame is for this part. -/
def toMe (s : State) (dest : Nat) : Bool := s.numbered && decide (dest = s.get KL_ID.ID)

/-- A LINK frame leaves on link u: LCODE and arguments (R399). It takes no SEQ and no credit. -/
def linkFrame (s : State) (u lcode : Nat) (args : List Nat) : State := s.emit (.kcl u 0xF lcode 0 args)

/-- A link carries a MGMT frame (R406, R407): everything in UP; ROOT and ID frames in NUMBERING; ID frames in UNNUMBERED. -/
def linkCarries (s : State) (u mcode : Nat) : Bool :=
  s.linkLive u && match s.lst u with
    | 5 => true
    | 4 => decide (mcode = Mc.root ∨ mcode = Mc.idReq ∨ mcode = Mc.idGrant)
    | _ => decide (mcode = Mc.idReq ∨ mcode = Mc.idGrant ∨ mcode = Mc.idRefuse)

/-- A MGMT frame (R399, R428): SRC is the chip ID, 0 before numbering. -/
def mgmtFrame (s : State) (mcode dest hops : Nat) (body : List Nat) : KFrame :=
  ⟨8, 0, dest, 4 * body.length, [if s.numbered then s.get KL_ID.ID else 0, hops, mcode] ++ body⟩

/-- Send a MGMT frame on one link. -/
def mgmtOn (s : State) (u mcode dest hops : Nat) (body : List Nat) : State :=
  if s.linkCarries u mcode then s.kSend u (s.mgmtFrame mcode dest hops body) else s

/-- Flood a MGMT frame on every link but the one it arrived on; `except_` is that link plus one, 0 for none. -/
def mgmtFlood (s : State) (except_ mcode hops : Nat) (body : List Nat) : State :=
  (List.range (usPorts s.variant)).foldl (fun s u => if u + 1 = except_ then s else s.mgmtOn u mcode 0 hops body) s

/-- Frames that waited for room leave in order (R401, R402). -/
def kPumpTx (s : State) (u fuel : Nat) : State :=
  match fuel with
  | 0 => s
  | fuel + 1 =>
    match (s.klink u).txq with
    | [] => s
    | f :: r => if s.kRoom u f then ((s.modKlink u fun l => { l with txq := r }).kTransmit u f).kPumpTx u fuel else s

/-- Let waiting frames of link u leave. -/
def kFlush (s : State) (u : Nat) : State := s.kPumpTx u (s.klink u).txq.length

/-- A frame in transit goes on by route, never back out of its arrival link (R412). -/
def kForward (s : State) (u : Nat) (f : KFrame) : State :=
  match s.linkFor f.dest (u + 1) with
  | some v => s.kSend v f
  | none => s.inc (R.KL_NOROUTE_CNT u)

/-! ### Receiving (R401, R402) -/

/-- A frame with SEQ `seq` arrives on link u. In sequence it is accepted: LACK after every 16, and credit for its VC is owed, for a
VC0 frame at once. Out of sequence it is refused with LNAK and counted, and what follows is discarded until the expected SEQ. -/
def kAccept (s : State) (u seq vc len : Nat) (f : State → State) : State :=
  if !(s.linkLive u && s.kOn) then s
  else
    let l := s.klink u
    if seq = l.rxSeq then
      let n := l.rxCount + 1
      let s1 := s.modKlink u fun l =>
        { l with rxSeq := (seq + 1) % 128, discarding := false, rxCount := if n = 16 then 0 else n }
      let s2 := if n = 16 then s1.linkFrame u Lc.lack [seq] else s1
      f (if vc = 0 then s2.kOwe u 0 len else s2)
    else if l.discarding then s
    else ((s.inc (R.KL_CRC_ERR_CNT u)).modKlink u fun l => { l with discarding := true }).linkFrame u Lc.lnak [l.rxSeq]

/-! ### Routes (R412, R413) -/

/-- The routes of the engine change. -/
def modRoutes (s : State) (f : List RouteE → List RouteE) : State := s.modKcl fun k => { k with routes := f k.routes }

/-- Flood an own ROUTE (R412). -/
def routeFlood (s : State) : State :=
  if s.numbered then
    (s.modKcl fun k => { k with mySeq := (k.mySeq + 1) % 65536 }).mgmtFlood 0 Mc.route 0 [s.get KL_ID.ID, (s.kcl.mySeq + 1) % 65536, 0]
  else s

/-- KL_BUDGET as used, in 10 ns (R427, R434). -/
def budget (s : State) (u : Nat) : Nat := 10 * max 10 (min 500 (s.get (KL_BUDGET.BUDGET u)))

/-- KL_PRES[n] as a word. -/
def presWord (s : State) (n : Nat) : Nat :=
  s.get (KL_PRES.STATE n) * 2 ^ 28 + s.get (KL_PRES.CAUSE n) * 2 ^ 24 + s.get (KL_PRES.LAT n)

/-- The presentation of Dn is suspended (R427). -/
def presSuspend (s : State) (n cause : Nat) : State :=
  let s1 := ((s.set (KL_PRES.STATE n) 3).set (KL_PRES.CAUSE n) cause).hidePort n 8
  if s.get (KL_PRES.STATE n) = 3 then s1 else s1.logRec 0x09 0x04 n (s1.presWord n)

/-- A suspended presentation returns as a new connect (R427). -/
def presReturn (s : State) (n : Nat) : State :=
  let s1 := (((s.set (KL_PRES.STATE n) 2).set (KL_PRES.CAUSE n) 0).modPort n fun p => { p with cConn := true })
  if s1.portLives n then (((s1.setPs n Ps.disconnected).connectPort n).portStatus n) else s1

/-- The owner's side of the budget for Dn (R427). [log 36: DEDUCED] -/
def ownerBudget (s : State) (n : Nat) : State :=
  match (s.port n).presTo with
  | some (c, u, _, _) =>
    if s.get (KL_PRES.STATE n) = 2 ∨ s.get (KL_PRES.STATE n) = 3 then
      match s.reach c with
      | none => s.presSuspend n 1
      | some r =>
        let s1 := s.set (KL_PRES.LAT n) (min 8191 (max r.lat (s.port n).presLat))
        if s.budget u < max r.lat (s.port n).presLat then s1.presSuspend n 8
        else if s.get (KL_PRES.STATE n) = 3 ∧ (s.port n).move = .none then s1.presReturn n else s1
    else s
  | none => s

/-- The presenter's side of the budget for slot i. [log 36: DEDUCED] -/
def slotBudget (s : State) (i : Nat) : State :=
  let e := Tbl.get s.kcl.slots {} i
  let c := match s.reach e.chip with
    | none => 1
    | some r => if s.budget e.tree < max r.lat e.lat then 8 else 0
  s.modKcl fun k => { k with slots := Tbl.set k.slots {} i { e with susp := c } }

/-- The budget is checked at every route change and refresh (R427). -/
def budgetCheck (s : State) : State :=
  let s1 := (List.range (min 96 (dsPorts s.variant))).foldl ownerBudget s
  (s1.kcl.slots.map (·.1)).foldl (fun s i => if (Tbl.get s.kcl.slots {} i).valid then s.slotBudget i else s) s1

/-- Origins whose PRIMARY is link u. -/
def primaryBy (s : State) (u : Nat) : List Nat :=
  (s.kcl.routes.map fun r => r.origin).eraseDups.filter fun c => match s.primary c with
    | some r => r.link == u
    | none => false

/-- ROUTE_LOSS frames for a list of origins on one link, 520 origins a frame (R413). [log 35: DEDUCED] -/
def lossFrames (s : State) (u : Nat) (l : List Nat) (fuel : Nat) : State :=
  match fuel with
  | 0 => s
  | fuel + 1 => if l.isEmpty then s else (s.mgmtOn u Mc.routeLoss 0 0 (l.take 520)).lossFrames u (l.drop 520) fuel

/-- ROUTE_LOSS on every link in UP but one (R413). -/
def sendLoss (s : State) (except_ : Nat) (l : List Nat) : State :=
  (List.range (usPorts s.variant)).foldl (fun s u =>
    if u = except_ ∨ s.linkUp u = false then s else s.lossFrames u l (l.length / 520 + 1)) s

/-- Link u leaves UP: its neighbours hear which origins are lost (R413). [log 35: DEDUCED] -/
def leaveUp (s : State) (u v : Nat) : State :=
  let l := s.primaryBy u
  let s1 := s.setLst u v
  if s.lst u = Kl.up then (s1.sendLoss u l).budgetCheck else s1

/-- Restart of training from step 1 with the unacknowledged frames kept (R401). -/
def retrain (s : State) (u : Nat) : State :=
  ((s.leaveUp u Kl.poll).inc (R.KL_RETRAIN_CNT u)).modKlink u fun l => { l with lnak := (0, 0), probe := none }

/-! ### Chip IDs (R404 to R408) -/

/-- Every KCL link that may carry frames takes a STATE. -/
def allLinks (s : State) (v : Nat) : State :=
  (List.range (usPorts s.variant)).foldl (fun s u => if s.linkLive u then s.setLst u v else s) s

/-- KL_ID as a word. -/
def idWord (s : State) : Nat :=
  s.get KL_ID.STATE * 2 ^ 30 + s.get KL_ID.ROOT * 2 ^ 29 + s.get KL_ID.CAUSE * 2 ^ 25 + s.get KL_ID.ROOT_ID * 2 ^ 12 + s.get KL_ID.ID

/-- An ID_CHANGE record where KL_ID has changed (R512). [log 53: DESIGN CHOICE] -/
def idNote (s old : State) : State :=
  if s.idWord = old.idWord then s else s.freeNext.logRec 0x09 0x03 (s.freeVal 4) s.idWord

/-- The part takes chip ID `id` (R404): its links go UP, and ROUTE is flooded. -/
def takeId (s : State) (id : Nat) : State :=
  let s1 := (((s.set KL_ID.STATE 1).set KL_ID.ID id).set KL_ID.CAUSE 0).fltFall 39 0
  (((s1.allLinks Kl.up).idNote s).routeFlood)

/-- Ask every link peer for an ID (R406). -/
def askId (s : State) : State :=
  s.mgmtFlood 0 Mc.idReq 0 [s.dieId, s.get KL_CFG.ID_MODE, s.get KL_CFG.FIXED_ID]

/-- The part loses or cannot get an ID (R407, R408): UNNUMBERED with a cause. Every presentation through the fabric ends as if its
route had been lost. -/
def noId (s : State) (st cause : Nat) : State :=
  let s1 := ((s.set KL_ID.STATE st).set KL_ID.CAUSE cause).set KL_ID.ROOT 0
  let s2 := ((s1.allLinks (if st = 2 then Kl.unnumbered else Kl.numbering)).modRoutes fun _ => []).idNote s
  let s3 := if s.numbered then s2.budgetCheck else s2
  if st = 2 then s3.faultOnset 39 0 0 else s3

/-- The ID the root's table gives a die (R406): the free one it held before, else the lowest free one. -/
def idFor (s : State) (die : Nat) : Option Nat :=
  match s.kcl.ids.find? fun e => e.2.die == die && (e.2.held || decide (die ≠ 0)) with
  | some e => some e.1
  | none => (List.range 4096).find? fun i => !(Tbl.get s.kcl.ids {} i).held

/-- The root's table records a claim. -/
def holdId (s : State) (id die : Nat) : State := s.modKcl fun k => { k with ids := Tbl.set k.ids {} id ⟨true, die⟩ }

/-- An ID may be claimed by a die: free, or held by it. -/
def idFreeFor (s : State) (id die : Nat) : Bool := !(Tbl.get s.kcl.ids {} id).held || decide ((Tbl.get s.kcl.ids {} id).die = die)

/-- The part is root and takes its own ID: the one its table holds for it, or 0; its FIXED one (R404, R405). -/
def becomeRoot (s : State) : State :=
  let s1 := s.set KL_ID.ROOT 1
  let want := if s.numbered then s.get KL_ID.ID
    else if s.on KL_CFG.ID_MODE then s.get KL_CFG.FIXED_ID
    else match s.kcl.ids.find? fun e => e.2.die == s.dieId with
      | some e => e.1
      | none => 0
  let s2 := (s1.holdId want s.dieId).set KL_ID.ROOT_ID want
  if s.numbered then s2.idNote s else s2.takeId want

/-- Lowest die ID the part knows (R405). [log 35: DEDUCED] -/
def bestDie (s : State) : Option Nat :=
  match s.kcl.root, s.on KL_CFG.ROOT_EN with
  | some d, true => some (min d s.dieId)
  | some d, false => some d
  | none, true => some s.dieId
  | none, false => none

/-- Announce the root (R405). [log 20: DESIGN CHOICE] -/
def announce (s : State) (except_ : Nat) : State :=
  match s.bestDie with
  | some d => s.mgmtFlood except_ Mc.root 0 [d, s.get KL_ID.ROOT_ID]
  | none => s

/-! ### A change of KL_UCFG (R392) -/

/-- Uu starts to look for a peer as a KCL link: no host, no tree, no D+ pull-up (R393, R430). Without a host-facing port left the part is not
DORMANT (R33). [log 35: DEDUCED] -/
def becomeLink (s : State) (u v : Nat) : State :=
  let s1 := ((s.usb3Off u).setPort (96 + u) (U_TREEST.LINK u) 4).emit (.usb2 (96 + u) .disconnect)
  let s2 := ((s1.setLst u v).modKlink u fun _ => {}).hideInvalid u
  if s2.hostFacing.isEmpty then s2.dormantExit else s2

/-- Uu starts as a USB upstream port (R44, R446): without SuperSpeed downstream ports its terminations wait for a remote one. -/
def usbStart (s : State) (u : Nat) : State :=
  let s1 := s.emit (.usb2 (96 + u) .connect)
  if hasSs s.variant || s.ssTree u then s1.emit (.ss (96 + u) .termOn 0) else s1

/-- A write of KL_UCFG[u] (R392, R413): MODE KCL makes Uu look for a peer, and a host there is lost; USB ends a link. [log 35: DEDUCED] -/
def wrUcfg (s : State) (u v : Nat) : State :=
  let m := v / 16 % 4
  let s1 := (s.set (KL_UCFG.MODE u) m).set (KL_UCFG.VER11 u) v
  if (m = 0 ∨ m = 3) ∧ s.isKcl u = true then ((s1.leaveUp u Kl.off).setPort (96 + u) (U_TREEST.LINK u) 0).usbStart u
  else if m = 1 ∧ s.isKcl u = false ∧ s.kOn = true ∧ (s.get G_READY.US).testBit u = true then
    (if s.get (U_TREEST.LINK u) = 0 then s1 else s1.hostGone u).becomeLink u Kl.detect
  else s1

end State

open State

/-! ### Training -/

/-- In AUTO, terminations on both lane pairs and 100 ms without Rp make Uu a KCL link, which trains from step 1 (R392, R395). -/
def execKclAutoDetect (u : Nat) (s : State) : Res State :=
  act s fun s =>
    if s.kOn && s.usHere u && decide (s.get (KL_UCFG.MODE u) = 2) && !(s.on (U_TC_CFG.DRP u)) &&
        decide (s.get (U_TREEST.LINK u) = 0) && (s.get G_READY.US).testBit u then s.becomeLink u Kl.poll
    else s

/-- Far-end terminations on both lane pairs of a KCL link start step 1 (R395). -/
def execKclTerminationDetect (u : Nat) (s : State) : Res State :=
  act s fun s => s.atK u fun s =>
    if s.lst u = Kl.detect ∨ (s.lst u = Kl.down ∧ (s.klink u).retryWait = false) then s.setLst u Kl.poll else s

def execKclPollLock (u : Nat) (s : State) : Res State :=
  act s fun s => s.atK u fun s => if s.lst u = Kl.poll then s.setLst u Kl.config else s

/-- Eight identical KTS2 on each lane (R395 to R397): lane order, the peer's VER_MAX, upstream index, chip ID and die ID. HOP_LAT keeps its
last value over a retrain (R432). [log 35: DEDUCED] -/
def execKclConfigDone (u : Nat) (swap : Bool) (ver peerLink : Nat) (hasId : Bool) (peerChip peerDie : Nat) (s : State) :
    Res State :=
  act s fun s => s.atK u fun s =>
    if s.lst u ≠ Kl.config then s
    else if ver < 0x10 then
      (((s.set (KL_LST.FAIL u) 3).inc (R.KL_TRAIN_FAIL_CNT u)).setLst u Kl.down).modKlink u fun l => { l with retryWait := true }
    else
      let same := decide ((s.klink u).peerDie = peerDie)
      let old := s.klink u
      let s1 := ((((s.set (KL_LST.VER u) (decide (0x11 ≤ ver) && s.on (KL_UCFG.VER11 u)).toNat).set (KL_LST.LANE_SWAP u)
        swap.toNat).set (KL_LST.PEER_LINK u) peerLink).set (KL_LST.PEER_CHIP u) (if hasId then peerChip else 0))
      let s2 := (if same && s1.on (KL_LST.VER u) then s1 else (s1.set (KL_LST.HOP_LAT u) 200).set (KL_LST.LAT_HI u) 0).modKlink u fun _ =>
        if same then { old with used := [], owed := [], probe := none, discarding := false, retryWait := false }
        else { stalled := old.stalled, peerDie := peerDie }
      let s3 := s2.setLst u (match s.get KL_ID.STATE with | 1 => Kl.up | 2 => Kl.unnumbered | _ => Kl.numbering)
      let s4 := s3.logOpen 0x09 0x01 u
      let s5 := if same then old.unacked.foldl (fun s f => s.emit (.kcl u f.2.ty f.2.vc f.2.dest (f.1 :: f.2.args))) s4 else s4
      let s6 := s5.romSlope (96 + u) 3
      if s.numbered then s6.routeFlood.budgetCheck
      else s6.mgmtOn u Mc.idReq 0 0 [s.dieId, s.get KL_CFG.ID_MODE, s.get KL_CFG.FIXED_ID]

/-- Step 2 or step 3 has not completed at its maximum; `oneLane` when one lane alone answered (R393, R395). -/
def execKclTrainTimeout (u : Nat) (oneLane : Bool) (s : State) : Res State :=
  act s fun s => s.atK u fun s =>
    if s.lst u = Kl.poll ∨ s.lst u = Kl.config then
      (((s.set (KL_LST.FAIL u) (if oneLane then 2 else 1)).inc (R.KL_TRAIN_FAIL_CNT u)).setLst u Kl.down).modKlink u fun l =>
        { l with retryWait := true }
    else s

def execKclTrainRetry (u : Nat) (s : State) : Res State :=
  act s fun s => s.atK u fun s =>
    if s.lst u = Kl.down then (s.setLst u Kl.detect).modKlink u fun l => { l with retryWait := false } else s

/-! ### Link frames -/

/-- LACK with SEQ `seq`: frames up to it are released (R401). -/
def execLack (u seq : Nat) (s : State) : Res State :=
  act s fun s => s.atK u fun s =>
    match (s.klink u).unacked.findIdx? fun f => f.1 == seq with
    | some i => (s.modKlink u fun l => { l with unacked := l.unacked.drop (i + 1), lnak := (0, 0) }).kFlush u
    | none => s

/-- LNAK with the SEQ the peer expects (R401): frames from it on are sent again; a fourth one for the same SEQ retrains the link. -/
def execLnak (u seq : Nat) (s : State) : Res State :=
  act s fun s => s.atK u fun s =>
    if !(s.linkLive u) then s
    else
      let l := s.klink u
      let n := if l.lnak.1 = seq + 1 then l.lnak.2 + 1 else 1
      if 4 ≤ n then s.retrain u
      else
        let rest := match l.unacked.findIdx? fun f => f.1 == seq with
          | some i => l.unacked.drop i
          | none => if seq = l.txSeq then [] else l.unacked
        rest.foldl (fun s f => s.emit (.kcl u f.2.ty f.2.vc f.2.dest (f.1 :: f.2.args)))
          (s.modKlink u fun l => { l with unacked := rest, lnak := (seq + 1, n) }) |>.kFlush u

/-- CREDIT: `n` credits of a VC return (R402). -/
def execCredit (u vc n : Nat) (s : State) : Res State :=
  act s fun s => s.atK u fun s =>
    (s.modKlink u fun l => { l with used := Tbl.set l.used 0 vc (Tbl.get l.used 0 vc - n) }).kFlush u

/-- KEEPALIVE: a valid frame that carries nothing (R403). -/
def execKeepalive (_u : Nat) (s : State) : Res State := act s fun s => s

/-- PROBE with the sender's TB: echoed at once (R410). -/
def execProbe (u tb : Nat) (s : State) : Res State :=
  act s fun s => s.atK u fun s => if s.linkLive u then s.linkFrame u Lc.probeEcho [tb] else s

/-- The echo of the PROBE in flight, `rtt` CLK_HS cycles after it left (R410): half the round trip, rounded up to 10 ns, plus
0.90 µs, at most 2.00 µs. [log 35: DEDUCED] -/
def execProbeEcho (u tb rtt : Nat) (s : State) : Res State :=
  act s fun s => s.atK u fun s =>
    if (s.klink u).probe = some tb ∧ s.on (KL_LST.VER u) = true then
      let lat := (rtt * 5 + 47) / 48 + 90
      ((s.set (KL_LST.HOP_LAT u) (min 200 lat)).set (KL_LST.LAT_HI u) (decide (200 < lat)).toNat).modKlink u fun l =>
        { l with probe := none }
    else s

/-- A frame with a bad CRC or LEN (`unknown` false) is refused with LNAK; a good frame of an unknown TYPE or MCODE is discarded and
counted (R400, R401, R428). -/
def execFrameError (u : Nat) (unknown : Bool) (seq vc len : Nat) (s : State) : Res State :=
  act s fun s => s.atK u fun s =>
    if unknown then s.kAccept u seq vc len fun s =>
      let s1 := s.inc (R.KL_BAD_FRAME_CNT u)
      if vc = 0 then s1 else s1.kOwe u vc len
    else if s.linkLive u then
      ((s.inc (R.KL_CRC_ERR_CNT u)).modKlink u fun l => { l with discarding := true }).linkFrame u Lc.lnak [(s.klink u).rxSeq]
    else s

def execLackTimer (u : Nat) (s : State) : Res State :=
  act s fun s => s.atK u fun s =>
    if s.linkLive u && decide (0 < (s.klink u).rxCount) then
      (s.linkFrame u Lc.lack [((s.klink u).rxSeq + 127) % 128]).modKlink u fun l => { l with rxCount := 0 }
    else s

def execCreditTimer (u : Nat) (s : State) : Res State :=
  act s fun s => s.atK u fun s =>
    if s.linkLive u then
      (s.klink u).owed.foldl (fun s e => s.linkFrame u Lc.credit [e.1, e.2]) (s.modKlink u fun l => { l with owed := [] })
    else s

def execKeepaliveTimer (u : Nat) (s : State) : Res State :=
  act s fun s => s.atK u fun s => if s.linkLive u then s.linkFrame u Lc.keepalive [] else s

/-- No valid frame for 100 µs (R403): DOWN; unacknowledged frames are lost and counted; waiting ones take another link. -/
def execKclLinkLoss (u : Nat) (s : State) : Res State :=
  act s fun s => s.atK u fun s =>
    if s.linkLive u then
      let l := s.klink u
      let s1 := s.leaveUp u Kl.down
      let s2 := ((s1.incBy (R.KL_LOST_CNT u) l.unacked.length).inc (R.KL_LINK_LOSS_CNT u)).modKlink u fun l =>
        { stalled := l.stalled, peerDie := 0 }
      let s3 := (s2.logOpen 0x09 0x02 u).faultOnset 38 u 0
      let s4 := l.txq.foldl (fun s f => s.kRoute f) s3
      s4.routeFlood.budgetCheck
    else s

def execProbeTimer (u : Nat) (s : State) : Res State :=
  act s fun s => s.atK u fun s =>
    if s.linkLive u && s.on (KL_LST.VER u) then
      (s.linkFrame u Lc.probe [s.tb % 2 ^ 32]).modKlink u fun l => { l with probe := some (s.tb % 2 ^ 32) }
    else s

/-! ### Routes -/

/-- A ROUTE of `origin` arrives on link u with its sequence, HOPS and LAT (R412, R428): recorded, forwarded once, budgets checked. -/
def execRouteFrame (u seq origin rseq hops lat : Nat) (s : State) : Res State :=
  act s fun s => s.kAccept u seq 0 12 fun s =>
    if !(s.linkUp u) ∨ s.toMe origin = true then s
    else
      let total := lat + s.get (KL_LST.HOP_LAT u)
      let s1 := s.modRoutes fun l =>
        (l.filter fun r => !(r.origin == origin && r.link == u)) ++ [⟨origin, u, total, hops + 1⟩]
      let first := decide (Tbl.get s.kcl.seqs 0 origin ≠ rseq + 1)
      let s2 := if first then
          if hops = 4095 then s1.inc R.KL_MGMT_HOP_CNT
          else (s1.modKcl fun k => { k with seqs := Tbl.set k.seqs 0 origin (rseq + 1) }).mgmtFlood (u + 1) Mc.route (hops + 1)
            [origin, rseq, total]
        else s1
      s2.budgetCheck

/-- A ROUTE_LOSS on link u names origins (R413). -/
def execRouteLoss (u seq : Nat) (origins : List Nat) (s : State) : Res State :=
  act s fun s => s.kAccept u seq 0 (2 * origins.length) fun s =>
    let mine := s.primaryBy u
    let s1 := s.modRoutes fun l => l.filter fun r => !(r.link == u && origins.contains r.origin)
    (s1.sendLoss u (origins.filter mine.contains)).budgetCheck

def execRouteFloodTimer (s : State) : Res State := act s fun s => if s.kOn then s.routeFlood else s

/-- A route entry has not been refreshed for 350 ms (R412). -/
def execRouteEntryExpiry (origin u : Nat) (s : State) : Res State :=
  act s fun s => if s.kOn then (s.modRoutes fun l => l.filter fun r => !(r.origin == origin && r.link == u)).budgetCheck else s

/-! ### The root and the IDs -/

/-- A ROOT announcement of die ID `die`, whose part has chip ID `rid`, arrives on link u (R405, R408): a lower one is adopted and
flooded; a root that has lost claims its ID again. -/
def execRootFrame (u seq die rid : Nat) (s : State) : Res State :=
  act s fun s => s.kAccept u seq 0 12 fun s =>
    let lower := match s.bestDie with
      | some d => decide (die < d)
      | none => true
    if lower then
      let s1 := (((s.modKcl fun k => { k with root := some die }).set KL_ID.ROOT 0).set KL_ID.ROOT_ID rid)
      let s2 := (s1.idNote s).announce (u + 1)
      if s.numbered then s2.mgmtOn u Mc.idClaim rid 0 [s.dieId, s.get KL_ID.ID]
      else s2.mgmtOn u Mc.idReq 0 0 [s.dieId, s.get KL_CFG.ID_MODE, s.get KL_CFG.FIXED_ID]
    else if s.kcl.root = some die then s.set KL_ID.ROOT_ID rid
    else s

/-- Every 100 ms the lowest die ID is announced; the part itself is root where it knows no lower one (R405). -/
def execRootAnnounceTimer (s : State) : Res State :=
  act s fun s =>
    if s.kOn then
      let s1 := if s.bestDie = some s.dieId ∧ s.on KL_ID.ROOT = false ∧ s.on KL_CFG.ROOT_EN = true then s.becomeRoot else s
      s1.announce 0
    else s

/-- The root has not been heard for 500 ms (R405). -/
def execRootLost (s : State) : Res State :=
  act s fun s =>
    if s.kOn && s.kcl.root.isSome then
      let s1 := s.modKcl fun k => { k with root := none }
      if s.on KL_CFG.ROOT_EN then s1.becomeRoot.announce 0 else s1
    else s

/-- An ID_REQ of a die arrives on link u, for any ID or, under FIXED, for `want` (R406, R407): the root answers it, a numbered part
relays it. -/
def execIdReq (u seq die : Nat) (fixed : Bool) (want : Nat) (s : State) : Res State :=
  act s fun s => s.kAccept u seq 0 16 fun s =>
    if s.on KL_ID.ROOT then
      if fixed then
        if s.idFreeFor want die then (s.holdId want die).mgmtOn u Mc.idGrant 0 0 [die, want]
        else s.mgmtOn u Mc.idRefuse 0 0 [die, 2]
      else
        match s.idFor die with
        | some id => (s.holdId id die).mgmtOn u Mc.idGrant 0 0 [die, id]
        | none => s.mgmtOn u Mc.idRefuse 0 0 [die, 1]
    else if s.numbered then
      (s.modKcl fun k => { k with relays := (k.relays.filter fun r => !(r.1 == die)) ++ [(die, u)] }).kRoute
        (s.mgmtFrame Mc.idReq (s.get KL_ID.ROOT_ID) 1 [die, fixed.toNat, want])
    else s

/-- An answer about a die's ID goes back to the link its request came from. -/
def relayBack (s : State) (die mcode arg : Nat) : State :=
  match s.kcl.relays.find? fun r => r.1 == die with
  | some r => (s.modKcl fun k => { k with relays := k.relays.filter fun x => !(x.1 == die) }).mgmtOn r.2 mcode 0 1 [die, arg]
  | none => s

/-- An ID_GRANT arrives (R406). -/
def execIdGrant (u seq die id : Nat) (s : State) : Res State :=
  act s fun s => s.kAccept u seq 0 12 fun s =>
    if die = s.dieId then (if s.numbered then s else s.takeId id) else relayBack s die Mc.idGrant id

/-- An ID_CLAIM of a die arrives, addressed to chip `dest` (R406, R408): the root refreshes its table; of two dies that claim one ID
the lower keeps it. -/
def execIdClaim (u seq dest die id : Nat) (s : State) : Res State :=
  act s fun s => s.kAccept u seq 0 12 fun s =>
    if s.on KL_ID.ROOT then
      let e := Tbl.get s.kcl.ids {} id
      if s.idFreeFor id die then s.holdId id die
      else if die < e.die then
        let s1 := s.holdId id die
        if e.die = s.dieId then s1.noId 0 2 else s1.kRoute (s.mgmtFrame Mc.idRefuse id 0 [e.die, 2])
      else s.mgmtOn u Mc.idRefuse 0 0 [die, 2]
    else
      let s1 := s.modKcl fun k => { k with relays := (k.relays.filter fun r => !(r.1 == die)) ++ [(die, u)] }
      s1.kForward u (s.mgmtFrame Mc.idClaim dest 1 [die, id])

/-- An ID_REFUSE arrives with a cause: 1 FULL, 2 CONFLICT (R407, R408). -/
def execIdRefuse (u seq die cause : Nat) (s : State) : Res State :=
  act s fun s => s.kAccept u seq 0 12 fun s =>
    if die ≠ s.dieId then relayBack s die Mc.idRefuse cause
    else if cause = 2 ∧ s.on KL_CFG.ID_MODE = false then (s.noId 0 2).askId
    else s.noId 2 cause

/-- Every 10 s a numbered part claims its ID (R406). -/
def execIdClaimTimer (s : State) : Res State :=
  act s fun s =>
    if s.kOn && s.numbered then
      if s.on KL_ID.ROOT then s.holdId (s.get KL_ID.ID) s.dieId
      else s.kRoute (s.mgmtFrame Mc.idClaim (s.get KL_ID.ROOT_ID) 0 [s.dieId, s.get KL_ID.ID])
    else s

/-- Nobody has claimed ID `id` for 60 s: the root frees it and keeps the die it was held for (R406). -/
def execIdFreeTimeout (id : Nat) (s : State) : Res State :=
  act s fun s =>
    if s.kOn && s.on KL_ID.ROOT && decide (id ≠ s.get KL_ID.ID) then
      let e := Tbl.get s.kcl.ids {} id
      s.modKcl fun k => { k with ids := Tbl.set k.ids {} id { e with held := false } }
    else s

/-- An UNNUMBERED part asks again every 10 s (R407). -/
def execIdReqRetry (s : State) : Res State :=
  act s fun s => if s.kOn && decide (s.get KL_ID.STATE = 2) then s.askId else s

end Sys2Proof.Machine
end

