-- ==== Sys2Proof/Machine/Torik.lean ====
section
/-!
DEFINITION. Torik (chapter 10): thread states and their commands, exceptions, events and timers, request mailboxes.
-/

namespace Sys2Proof.Machine

/-! Exception causes (R339). -/

namespace Ex
abbrev illegal : Nat := 1
abbrev priv : Nat := 2
abbrev ifetch : Nat := 3
abbrev dalign : Nat := 4
abbrev daccess : Nat := 5
abbrev regerr : Nat := 6
abbrev memerr : Nat := 7
abbrev trap : Nat := 8
end Ex

/-- STATE code of TK_TST (R313). -/
def TState.code (x : TState) : Nat :=
  match x with
  | .off => 0 | .run => 1 | .wait => 2 | .stall => 3 | .halt => 4 | .faulted => 5

namespace State

/-- A general register; g0 reads 0 (R351). -/
def g (s : State) (t r : Nat) : Word := if r = 0 then 0 else Tbl.get (s.thread t).gpr 0 r

/-- Write a general register; a write to g0 is discarded (R351). -/
def setG (s : State) (t r : Nat) (v : Word) : State :=
  if r = 0 then s else s.modThread t fun h => { h with gpr := Tbl.set h.gpr 0 r v }

/-- TK_TST[t] as it reads (R345). -/
def tstWord (s : State) (t : Nat) : Nat :=
  let h := s.thread t
  h.state.code * 2 ^ 28 + h.priv.toNat * 2 ^ 27 + h.exc.toNat * 2 ^ 26 + h.lres.code * 2 ^ 22 + h.pc.toNat % 2 ^ 19

/-- TK_TEXC[t] as it reads. -/
def texcWord (s : State) (t : Nat) : Nat :=
  s.get (TK_TEXC.TCODE t) * 2 ^ 24 + s.get (TK_TEXC.EPRIV t) * 2 ^ 8 + s.get (TK_TEXC.ECAUSE t)

/-- Bytes into a memory from address a. -/
def loadBytes (m : Tbl Byte) (a : Nat) (l : List Byte) : Tbl Byte :=
  (List.range l.length).foldl (fun m i => Tbl.set m 0 (a + i) (l.getD i 0)) m

/-! ### Commands (R314) -/

/-- A refused thread command. -/
def tRefuse (s : State) (t : Nat) : State := ((s.inc (R.TK_PRIM_REJ_CNT t)).set (TK_TCTL.RESULT t) 1).answer .wrongState

/-- A thread command carried out. -/
def tDone (s : State) (t : Nat) : State := (s.set (TK_TCTL.RESULT t) 0).answer .ok

/-- The thread is OFF: timers stop, pending events go (R313, R314), and its FAULTED condition ends. -/
def threadOff (s : State) (t : Nat) : State :=
  (s.modThread t fun h => { h with state := .off, evp := 0, timers := [], after := .continue, put := none }).fltFall 15 t

/-- START (R314). In SAFE every thread stays in HALT or OFF (R315). [log 16: DEDUCED; log 47: DEDUCED] -/
def tStart (s : State) (t : Nat) : State :=
  if (s.thread t).state = .off ∧ s.mode ≠ .safe then
    (s.modThread t fun h => { h with
      state := .run, gpr := [], evp := 0, eve := 0, timers := [], exc := false
      priv := s.on (TK_TCFG.START_PRIV t), pc := BitVec.ofNat 32 (4 * s.get (TK_TPC.PC t)) }).tDone t
  else s.tRefuse t

/-- HALT (R314). -/
def tHalt (s : State) (t : Nat) : State :=
  match (s.thread t).state with
  | .run => (s.haltThread t).tDone t
  | .wait => (s.haltThread t).tDone t
  | .stall => (s.haltThread t).tDone t
  | _ => s.tRefuse t

/-- RESUME (R314): the thread continues from its PC, where an interrupted WAIT is issued again. [log 47: DEDUCED] -/
def tResume (s : State) (t : Nat) : State :=
  if (s.thread t).state = .halt ∧ s.mode ≠ .safe then (s.modThread t fun h => { h with state := .run }).tDone t
  else s.tRefuse t

/-- STOP (R314): an operation in STALL completes first. -/
def tStop (s : State) (t : Nat) : State :=
  match (s.thread t).state with
  | .off => s.tRefuse t
  | .stall => (s.modThread t fun h => { h with after := .stop }).tDone t
  | _ => (s.threadOff t).tDone t

/-- A write of TK_TCTL[t].CMD; other codes are ignored (R345). -/
def wrTctl (s : State) (t c : Nat) : State :=
  match c with
  | 1 => s.tStart t
  | 2 => s.tHalt t
  | 3 => s.tResume t
  | 4 => s.tStop t
  | _ => s.answer .ok

/-- The queue put of thread t still waits for room (R102, R334). -/
def putWaits (s : State) (t : Nat) : Bool :=
  match (s.thread t).put with
  | some q => (s.queue q).wait.any fun p => p.src == 104 && p.args == [t]
  | none => false

/-- The operation of a thread in STALL completes (R311), unless its queue put still waits. [log 16: DEDUCED] -/
def opComplete (s : State) (t : Nat) : State :=
  let h := s.thread t
  if h.state = .stall ∧ s.putWaits t = false then
    match h.after with
    | .continue => s.modThread t fun h => { h with state := .run, put := none }
    | .halt => s.modThread t fun h => { h with state := .halt, put := none, after := .continue }
    | .stop => s.threadOff t
  else s

/-! ### Exceptions (R339 to R343) -/

/-- Exception entry (R340), or FAULTED where one is being handled (R343). A thread that a HALT or STOP awaits takes the exception
first (R344). [log 13: DEDUCED] -/
def exception (s : State) (t cause : Nat) (epc : Word) (eaddr : Nat) : State :=
  let h := s.thread t
  let s1 := if cause = Ex.regerr then s.logRec 0x08 0x01 t epc.toNat
    else if cause = Ex.memerr then s.logRec 0x08 0x02 t epc.toNat else s
  if h.exc then
    ((s1.modThread t fun h => { h with state := .faulted }).logRec 0x08 0x03 t (s1.texcWord t)).faultOnset 15 t 0
  else
    let s2 := ((((s1.set (TK_TEPC.EPC t) epc.toNat).set (TK_TEXC.EPRIV t) h.priv.toNat).set (TK_TEXC.ECAUSE t) cause).set
      (TK_TEADDR.EADDR t) eaddr).inc (R.TK_EXC_CNT t)
    s2.modThread t fun h => { h with
      exc := true, priv := true, state := if h.after = .continue then .run else .stall, pc := BitVec.ofNat 32 (4 * s.get (TK_TVEC.VEC t)) }

/-! ### Waiting (R324) -/

/-- Lowest enabled pending event. -/
def nextEvent (s : State) (t : Nat) : Option Nat :=
  let h := s.thread t
  (List.range 256).find? fun e => (h.evp &&& h.eve).getLsbD e

/-- Take event e: its pending bit falls. -/
def takeEvent (s : State) (t e : Nat) : State := s.modThread t fun h => { h with evp := h.evp &&& ~~~(1#256 <<< e) }

/-- WAIT ends: the lowest enabled pending event goes to gd, and the thread goes on after the WAIT. -/
def waitEnd (s : State) (t rd : Nat) : State :=
  match s.nextEvent t with
  | some e => ((s.takeEvent t e).setG t rd (BitVec.ofNat 32 e)).modThread t fun h => { h with state := .run, pc := h.pc + 4 }
  | none => s

/-- Timer j of thread t. -/
def timer (s : State) (t j : Nat) : Timer := Tbl.get (s.thread t).timers {} j

/-! ### Mailboxes (R335 to R338) -/

/-- Entries of source i, oldest first. -/
def mbox (s : State) (i : Nat) : List MboxEntry := Tbl.get s.tk.mbox [] i

/-- Set the entries of source i. -/
def setMbox (s : State) (i : Nat) (l : List MboxEntry) : State := s.modTk fun k => { k with mbox := Tbl.set k.mbox [] i l }

/-- TAG the next entry of source i takes. [log 19: DEDUCED] -/
def nextTag (s : State) (i : Nat) : Nat := Tbl.get s.tk.tags 0 i

/-- A new entry enters the mailbox of source i. [log 48: DEDUCED] -/
def mboxAdd (s : State) (i kind target : Nat) (payload : List Byte) : State :=
  (s.setMbox i (s.mbox i ++ [⟨kind, target, s.nextTag i, payload, false⟩])).modTk fun k =>
    { k with tags := Tbl.set k.tags 0 i ((Tbl.get k.tags 0 i + 1) % 256) }

/-- Word 0 of an entry (R335). -/
def mboxWord (i : Nat) (m : MboxEntry) : Nat :=
  i * 2 ^ 28 + m.kind * 2 ^ 24 + m.target * 2 ^ 16 + m.tag * 2 ^ 8 + m.payload.length

/-- The sixteen words of an entry, as bytes. -/
def mboxBytes (i : Nat) (m : MboxEntry) : List Byte :=
  let w := mboxWord i m
  ([w, w / 256, w / 65536, w / 16777216].map fun b => BitVec.ofNat 8 b) ++
    m.payload ++ List.replicate (60 - m.payload.length) 0

/-- Little-endian bytes of a word. -/
def leBytes (w : Nat) : List Byte := [w, w / 256, w / 65536, w / 16777216].map fun b => BitVec.ofNat 8 b

/-- SET_FEATURE (`on`) or CLEAR_FEATURE of a device feature: U1 and U2 enables of the front hub (R167), remote wake of a hub (R159). -/
def snoopFeature (s : State) (u target : Nat) (ss on : Bool) (val : Nat) : State :=
  if ss then
    if target ≠ 0 then s
    else if val = 48 then s.modUp u fun x => { x with u1En := on }
    else if val = 49 then s.modUp u fun x => { x with u2En := on }
    else s
  else if val = 1 then
    if target = 0 then s.set (U_LPST.RWE_FRONT u) on.toNat
    else if target ≤ 7 then
      let old := s.get (U_LPST.RWE_BH u)
      let clr := old ^^^ (old &&& 2 ^ (target - 1))
      s.set (U_LPST.RWE_BH u) (if on then clr + 2 ^ (target - 1) else clr)
    else s
  else s

/-- SET_FEATURE or CLEAR_FEATURE of a port of a hub: PORT_REMOTE_WAKE_MASK of a port or a remote slot (R173), and change bits. -/
def snoopPort (s : State) (u target : Nat) (ss : Bool) (req val idx : Nat) : State :=
  let l := idx % 256 % 16
  if req = 1 ∧ 16 ≤ val ∧ val ≤ 29 then s.hostReq u target l (.clearChange val)
  else if req = 3 ∧ val = 27 ∧ ss = true then
    match s.carrier u target l true with
    | some (.port n) => s.modPort n fun p => { p with wakeMask := idx / 256 % 8 }
    | some (.remote i) => s.modKcl fun k =>
        { k with slots := Tbl.set k.slots {} i { Tbl.get k.slots {} i with wakeMask := idx / 256 % 8 } }
    | _ => s
  else s

/-- What the part's hubs keep of a standard or hub-class request that a hub program answers: configuration, the alternate setting (R46),
remote wake of a hub (R159), U1 and U2 enables (R167), PORT_REMOTE_WAKE_MASK of a port or a remote slot (R173), and change bits the host
clears. [log 27: DEDUCED; log 48: DEDUCED; log 61: PRESUMED] -/
def snoop (s : State) (u target : Nat) (ss : Bool) (w1 w2 : Nat) : State :=
  let ty := w1 % 256; let req := w1 / 256 % 256; let val := w1 / 65536; let idx := w2 % 65536
  if ty = 0x00 ∧ req = 9 then
    let s1 := if ss || decide (7 < target) then s else s.modUp u fun x => { x with alts := Tbl.set x.alts 0 target 0 }
    s1.modUp u fun x => { x with cfgs := Tbl.set x.cfgs 0 (2 * target + ss.toNat) val }
  else if ty = 0x01 ∧ req = 11 then
    (if !ss && decide (target ≤ 7) && decide (val ≤ 1) && decide (idx % 256 = 0) then
      s.modUp u fun x => { x with alts := Tbl.set x.alts 0 target val }
     else s)
  else if ty = 0x00 ∧ (req = 1 ∨ req = 3) then s.snoopFeature u target ss (decide (req = 3)) val
  else if ty = 0x23 ∧ target ≤ 7 then s.snoopPort u target ss req val idx
  else s

/-- First vendor bRequest in use (R336). -/
def vndFirst (s : State) : Nat := max 0x80 (s.get TK_REQ_CFG.VND_FIRST)

/-- The tree has the hub or function a host request names: 0 the front hub, 1 to 7 a back hub, 8 the management function. -/
def targetHere (s : State) (u target : Nat) : Bool :=
  if target = 0 then true else if target ≤ 7 then s.bhHere u target else (s.up u).mgmtNow

end State

open State

/-- A thread command is a write of TK_TCTL[t].CMD by a privileged master. -/
def execStart (t : Nat) (s : State) : Res State := act s fun s => s.tStart t

def execHalt (t : Nat) (s : State) : Res State := act s fun s => s.tHalt t

def execResume (t : Nat) (s : State) : Res State := act s fun s => s.tResume t

def execStop (t : Nat) (s : State) : Res State := act s fun s => s.tStop t

def execOperationComplete (t : Nat) (s : State) : Res State := act s fun s => s.opComplete t

/-- Timer j of thread t has reached its time (R329). [log 4: DESIGN CHOICE] -/
def execThreadTimerExpiry (t j : Nat) (s : State) : Res State :=
  act s fun s =>
    let m := s.timer t j
    if m.on && decide (m.due ≤ s.timeUs) && decide ((s.thread t).state ≠ .off ∧ (s.thread t).state ≠ .faulted) then
      let m1 : Timer := if m.reload = 0 then {} else { m with due := m.due + m.reload }
      (s.modThread t fun h => { h with timers := Tbl.set h.timers {} j m1 }).post t j
    else s

/-- A control request of the host of tree u to one of its hubs or its management function (R336): the setup packet in two words,
and its OUT data. -/
def execHostRequestEntry (u target : Nat) (ss : Bool) (w1 w2 : Nat) (data : List Byte) (s : State) : Res State :=
  act s fun s => s.atU u fun s =>
    let side := ss && decide (target ≠ 8)
    let req := w1 / 256 % 256
    let vendor := decide (w1 / 32 % 4 = 2)
    if !(s.targetHere u target) then s
    else if vendor && decide (target = 8) && decide (1 ≤ req ∧ req ≤ 4) then s
    else if vendor && !(decide (s.vndFirst ≤ req) && decide (req ≤ s.get TK_REQ_CFG.VND_LAST)) then s.emit (.ctl u false [])
    else if 52 < data.length then s.emit (.ctl u false [])
    else
      let old := (s.mbox u).filter fun m => m.kind == side.toNat && m.target == target
      let rest := (s.mbox u).filter fun m => !(m.kind == side.toNat && m.target == target)
      let s1 := if old.isEmpty then s else (s.setMbox u rest).inc (R.TK_REQ_REPL_CNT u)
      (((s1.mboxAdd u side.toNat target (leBytes w1 ++ leBytes w2 ++ data)).snoop u target side w1 w2)).postRouted (4 + u)

/-- The request with this TAG has waited HOST_TO (R338). -/
def execHostRequestTimeout (u tag : Nat) (s : State) : Res State :=
  act s fun s => s.atU u fun s =>
    if (s.mbox u).any (fun m => m.tag == tag) then
      ((s.setMbox u ((s.mbox u).filter fun m => !(m.tag == tag))).inc (R.TK_REQ_TO_CNT u)).emit (.ctl u false [])
    else s

end Sys2Proof.Machine
end

