-- ==== Sys2Proof/Machine/Modes.lean ====
section
/-!
DEFINITION. Supplies, RESET_N, resets, readiness and the mode commands (chapter 14).
-/

namespace Sys2Proof.Machine

namespace State

/-! ### Resets (R436 to R442) -/

/-- VDD_CORE, VDD_SRAM, VDD_IO and VDD_SVC are above threshold. -/
def logicUp (s : State) : Bool := (s.pins.supply.take 4).all id

/-- VDD_PA and the VPUMP of die d are above threshold. -/
def dieSupplied (s : State) (d : Nat) : Bool := s.pins.supply.getD 4 true && s.pins.supply.getD (5 + d) true

/-- The part is beyond STRAP (R439). -/
def beyondStrap (s : State) : Bool :=
  match s.mode with
  | .rise => true
  | .run => true
  | .selftest => true
  | .safe => true
  | _ => false

/-- PA die d is present (R509). -/
def dieHere (s : State) (d : Nat) : Bool := decide (d = 0) || decide (s.variant ≠ .klh4800)

/-- A supply of die d is below its threshold: F08 or F09, and the die acts as a lost one (R437, R439). [log 12: DEDUCED] -/
def dieStarved (s : State) (d : Nat) : State :=
  if s.dieHere d then (s.dieLost d).faultOnset (8 + d) 0 0 else s

/-! ### Readiness (R444 to R448) -/

/-- Unit i of G_READY, an upstream port at 20 + u, is present. -/
def unitHere (s : State) (i : Nat) : Bool :=
  if i = 9 then s.dieHere 1 else if i = 10 then hasKcl s.variant else decide (i ≤ 8) || (decide (20 ≤ i) && s.usHere (i - 20))

/-- Bit i of G_READY. -/
def unitReady (s : State) (i : Nat) : Bool :=
  if i < 16 then s.on ⟨R.G_READY, i, 1, 0⟩ else (s.get G_READY.US).testBit (i - 20)

/-- Bit i of G_READY_FAIL. -/
def unitFailed (s : State) (i : Nat) : Bool :=
  if i < 16 then s.on ⟨R.G_READY_FAIL, i, 1, 0⟩ else (s.get G_READY_FAIL.US).testBit (i - 20)

/-- Set bit i of G_READY. -/
def setUnit (s : State) (i : Nat) : State :=
  if i < 16 then s.set ⟨R.G_READY, i, 1, 0⟩ 1 else s.set G_READY.US (s.get G_READY.US ||| 2 ^ (i - 20))

/-- Set bit i of G_READY_FAIL. -/
def setFailed (s : State) (i : Nat) : State :=
  if i < 16 then s.set ⟨R.G_READY_FAIL, i, 1, 0⟩ 1 else s.set G_READY_FAIL.US (s.get G_READY_FAIL.US ||| 2 ^ (i - 20))

/-- G_READY_FAIL as it reads. -/
def failWord (s : State) : Nat :=
  ((List.range 11).map fun i => if s.unitFailed i then 2 ^ i else 0).sum + s.get G_READY_FAIL.US * 2 ^ 20

/-- The units every port waits for are ready. -/
def coreReady (s : State) : Bool := [3, 4, 5, 7].all s.unitReady

/-- Every condition of R445 holds on Dn. -/
def portPrepared (s : State) (n : Nat) : Bool :=
  s.coreReady && !(s.pins.paLost.getD (dieOf n) false) && s.unitReady 6 && s.unitReady (8 + dieOf n) && s.on (P_READY.USB2_OK n) &&
    (s.on (P_READY.SS_OK n) || !(hasSs s.variant)) && s.on (P_READY.CC_OK n) && s.on (P_READY.SENSE_OK n) &&
    !(s.on (P_READY.FAIL n))

/-- READY of Dn rises: the port leaves NOT_READY for the state its place gives it, and presents Rp (R66, R183, R445). -/
def portReady (s : State) (n : Nat) : State :=
  if s.portPrepared n && !(s.on (P_READY.READY n)) then
    let s1 := (s.set (P_READY.READY n) 1).setTc n Tc.unattached
    if s1.presented n then (s1.setPs n Ps.disconnected).restPort n
    else
      let s2 := s1.setPs n Ps.hidden
      match s2.placeOf n with
      | .unmapped => s2.hidePort n 5
      | .invalid => s2.hidePort n 6
      | _ => s2.hidePort n 8
  else s

/-- Present ports, units and upstream ports are each ready or failed (R447). -/
def allSettled (s : State) : Bool :=
  ((List.range 24).filter s.unitHere).all (fun i => s.unitReady i || s.unitFailed i) &&
    ((List.range (dsPorts s.variant)).all fun n => s.on (P_READY.READY n) || s.on (P_READY.FAIL n))

/-- What follows from a change of readiness: ports become READY, and RISE ends in RUN (R445, R447, R453), where a tree without a host
counts as asleep (R175). -/
def readyRefresh (s : State) : State :=
  let s1 := (List.range (dsPorts s.variant)).foldl portReady s
  if s1.mode = .rise ∧ s1.allSettled = true then
    ((s1.hostFacing.foldl sleepRefresh (s1.set G_READY.ALL 1)).enterMode .run).modeNote s
  else s1

/-- Dn fails readiness (R448): FCAUSE 1 calibration, 2 its PA die, 3 timeout. -/
def markPort (s : State) (n cause : Nat) : State := (s.set (P_READY.FAIL n) 1).set (P_READY.FCAUSE n) cause

/-- A failure's record and F05 (R448, R513). -/
def failNote (s : State) (idx : Nat) : State := (s.logRec 0x0B 0x03 0 s.failWord).faultOnset 5 idx 0

/-- A unit fails readiness (R448): a PA die takes its ports to PA_LOST, a core unit brings SAFE. [log 12: DEDUCED] -/
def unitFail (s : State) (i : Nat) : State :=
  let s1 := (s.setFailed i).failNote i
  if i = 8 ∨ i = 9 then
    ((List.range (dsPorts s.variant)).filter fun n => decide (dieOf n = i - 8)).foldl (fun s n => s.markPort n 2)
      (s1.dieLost (i - 8))
  else if i = 3 ∨ i = 4 ∨ i = 5 ∨ i = 6 ∨ i = 7 then s1.safeEntry Entry.fault 5
  else s1

/-- Item i (a unit, or 64 + n for Dn) is still awaited in RISE. -/
def awaited (s : State) (i : Nat) : Bool :=
  decide (s.mode = .rise) &&
    if 64 ≤ i then s.dsHere (i - 64) && !(s.on (P_READY.READY (i - 64))) && !(s.on (P_READY.FAIL (i - 64)))
    else s.unitHere i && !(s.unitReady i) && !(s.unitFailed i)

/-- Item i fails readiness. -/
def readyFail (s : State) (i cause : Nat) : State :=
  if s.awaited i then
    (if 64 ≤ i then (s.markPort (i - 64) cause).failNote i else s.unitFail i).readyRefresh
  else s

/-- A unit may become ready now: its die is supplied, its sensors are sampled, what it waits for is ready (R444). -/
def unitMay (s : State) (i : Nat) : Bool :=
  if i = 8 ∨ i = 9 then s.dieSupplied (i - 8)
  else if i = 6 then
    s.dieSensors.all s.bsn.sampled.contains && ([8, 9].filter s.unitHere).all fun d => s.unitReady d || s.unitFailed d
  else if 20 ≤ i then s.coreReady
  else decide (i ≠ 0 ∧ i ≠ 7)

/-- What readiness of a unit starts: EN of the queues for CALDERA (R449), and Uu's port by KL_UCFG[u].MODE (R446). -/
def unitStart (s : State) (i : Nat) : State :=
  if i = 3 then (List.range 512).foldl (fun s q => if s.on (CD_QCFG.EN q) then s.qConsider q else s) s
  else if 20 ≤ i then
    let u := i - 20
    if s.get (KL_UCFG.MODE u) = 1 ∧ s.kOn = true then s.becomeLink u Kl.detect
    else s.usbStart u
  else s

/-! ### SAFE and the mode commands (R454 to R461) -/

/-- A die sensor reads 125 °C or more. -/
def hotDie (s : State) : Bool := s.dieSensors.any fun i => decide (500 ≤ s.dieTemp i)

/-- The source in FSRC is asserted (R461). -/
def safeFault (s : State) : Bool := decide (s.get G_SAFE_ST.ENTRY = Entry.fault) && s.fltOn (s.get G_SAFE_ST.FSRC)

/-- G_SAFE_ST.CLEAR (R457). -/
def safeClear (s : State) : Bool := decide (s.mode = .safe) && !s.hotDie && !s.pins.clockAbsent && !s.safeFault

/-- G_SAFE_ST as it reads (R461). -/
def safeWord (s : State) : Nat :=
  (decide (s.mode = .safe)).toNat * 2 ^ 31 + s.safeClear.toNat * 2 ^ 30 + s.hotDie.toNat * 2 ^ 26 +
    s.pins.clockAbsent.toNat * 2 ^ 25 + s.safeFault.toNat * 2 ^ 24 + s.get G_SAFE_ST.FSRC * 2 ^ 16 + s.get G_SAFE_ST.ENTRY

/-- A refused mode command. -/
def modeRefuse (s : State) : State := ((s.set G_MODE_CTL.RESULT 1).inc R.G_MODE_REJ_CNT).answer .wrongState

/-- A mode command carried out. -/
def modeDone (s : State) : State := (s.set G_MODE_CTL.RESULT 0).answer .ok

/-- CMD = SAFE (R455). -/
def cmdSafe (s : State) : State :=
  if s.mode = .safe then s.modeRefuse else s.modeDone.safeEntry Entry.cmd 0

/-- A completed release (R457). [log 51: DEDUCED] -/
def cmdRelease (s : State) : State := if s.safeClear then s.resetBegin rstRelease else s.modeRefuse

/-- CMD = SELFTEST (R454). [log 47: DEDUCED] -/
def cmdSelftest (s : State) : State :=
  if s.mode ≠ .run ∨ s.on G_UPD_ST.ACTIVE = true then s.modeRefuse
  else
    let s1 := (s.allPorts softOff).allUps upTermsOff
    let s2 := s1.wrProt 0xFFFFFFFF
    let s3 := (List.range 64).foldl (fun s t =>
      if t = 0 ∨ (s.thread t).state = .off then s
      else if (s.thread t).state = .stall then s.modThread t fun h => { h with after := .stop }
      else s.threadOff t) s2
    (((s3.enterMode .selftest).setDormant false).modeDone).modeNote s

/-- CMD = RESET (R440): a flash operation in progress completes first (R459). [log 47: DEDUCED] -/
def cmdReset (s : State) : State :=
  if s.on G_UPD_ST.BUSY then (s.modBoot fun b => { b with resetAfter := some rstCmd }).modeDone
  else s.modeDone.selftestAbort.resetBegin rstCmd

/-- CMD = WAKE (R460). [log 47: DEDUCED] -/
def cmdWake (s : State) : State := if s.dormant then s.dormantExit.modeDone else s.modeRefuse

/-- A privileged write of G_MODE_CTL.CMD other than RELEASE; other codes are ignored (R460). -/
def wrModeCtl (s : State) (c : Nat) : State :=
  match c with
  | 1 => s.cmdSafe
  | 3 => s.cmdSelftest
  | 4 => s.cmdReset
  | 5 => s.cmdWake
  | _ => s.answer .ok

end State

open State

/-! ### Supplies and RESET_N -/

/-- Supply i of R437 falls below its threshold. [log 12: DEDUCED] -/
def execSupplyFall (i : Nat) (s : State) : Res State :=
  let s1 := s.modPins fun p => { p with supply := p.supply.set i false }
  .next (
    if i = 0 then (s1.resetBegin rstPor).enterMode .off
    else if i < 4 then (if s.mode = .off then s1 else s1.resetBegin rstPor)
    else if s.beyondStrap then
      (if i = 4 then (s1.dieStarved 0).dieStarved 1 else s1.dieStarved (i - 5))
    else s1)

/-- Supply i rises above its threshold: the first four end OFF (R452); F08 and F09 fall. -/
def execSupplyRise (i : Nat) (s : State) : Res State :=
  let s1 := s.modPins fun p => { p with supply := p.supply.set i true }
  let s2 := if s1.mode = .off ∧ s1.logicUp = true then s1.enterMode .hold else s1
  .next ([0, 1].foldl (fun s d => if s.dieSupplied d then s.fltFall (8 + d) 0 else s) s2)

/-- RESET_N has been low for 10 µs (R438, R440). A part already in HOLD stays there for the reset it is in. [log 12: DEDUCED] -/
def execResetNLow (s : State) : Res State :=
  let s1 := s.modPins fun p => { p with resetN := false }
  .next (if s.alive then s1.selftestAbort.resetBegin rstPin else s1)

def execResetNHigh (s : State) : Res State := .next (s.modPins fun p => { p with resetN := true })

/-- The HOLD time of R440 has passed: STRAP, with the straps latched and T0 at the ROM entry (R315, R371, R443). -/
def execHoldEnd (s : State) : Res State :=
  .next (
    if s.mode = .hold ∧ s.pins.resetN = true ∧ s.logicUp = true then
      ((s.enterMode .strap).set G_STRAP.STRAPS s.pins.strapPins).modThread 0 fun _ =>
        { state := .run, priv := true, pc := 0x40000 }
    else s)

/-! ### STRAP and RISE -/

def execPllLock (s : State) : Res State :=
  act s fun s =>
    if s.mode = .strap ∧ s.pins.pllLocked = false then (s.modPins fun p => { p with pllLocked := true }).set G_READY.CLK 1
    else s

/-- No lock within 500 µs (R443): the root clock counts as absent, and the service engine runs from the RC oscillator. -/
def execPllLockTimeout (s : State) : Res State :=
  act s fun s =>
    if s.mode = .strap ∧ s.pins.pllLocked = false then
      ((s.modPins fun p => { p with clockAbsent := true }).set SV_UART.RC 1).safeEntry Entry.pll 0
    else s

/-- The ROM checks of STRAP end (R443, R444): memories of Torik are written with 0, TB starts, VENT runs, both dies are enabled,
and the first record gives the reset kind (R495); a failed ROM CRC enters SAFE. -/
def execRiseEntry (romOk : Bool) (s : State) : Res State :=
  act s fun s =>
    if s.mode = .strap ∧ s.pins.pllLocked = true then
      let s0 := s.set SV_UART.RATE (s.get G_STRAP.STRAPS / 8)
      if !romOk then s0.safeEntry Entry.rom 0
      else
        let s1 := (((s0.setTb 0).enterMode .rise).logRec 0x0B 0x01 0 (s.get G_RST_CAUSE.LAST)).modTk fun k =>
          { k with imem := [], dmem := [] }
        let s2 := ((s1.modThread 0 fun h => { h with loc := [] }).set FC_VENT_ST.RUN 1).modPins fun p =>
          { p with paEnable := [s.dieSupplied 0, s.dieHere 1 && s.dieSupplied 1] }
        (([0, 1].filter fun d => s.dieHere d && !(s.dieSupplied d)).foldl
          (fun s d => (s.faultOnset (8 + d) 0 0).unitFail (8 + d)) s2).modeNote s
    else s

/-- Item i becomes ready: a unit of G_READY, 20 + u for Uu, or 64 + n when Dn's PHYs and trims are done (R444 to R446). CLK follows the
PLL, and TORIK step 6 of R381. [log 12: DEDUCED] -/
def execUnitReady (i : Nat) (s : State) : Res State :=
  act s fun s =>
    if 64 ≤ i then
      let n := i - 64
      if decide (s.mode = .rise) && s.dsHere n && !(s.on (P_READY.FAIL n)) then
        ((((s.set (P_READY.USB2_OK n) 1).set (P_READY.SS_OK n) (hasSs s.variant).toNat).set (P_READY.CC_OK n) 1).set
          (P_READY.SENSE_OK n) 1).readyRefresh
      else s
    else if s.awaited i && s.unitMay i then ((s.setUnit i).unitStart i).readyRefresh
    else s

/-- Calibration of item i fails (R448). -/
def execCalibrationFail (i : Nat) (s : State) : Res State := act s fun s => s.readyFail i 1

/-- The maximum time of item i, or the limit of RISE, passes (R447, R448). -/
def execReadinessTimeout (i : Nat) (s : State) : Res State := act s fun s => s.readyFail i 3

/-! ### Mode commands -/

def execModeSafe (s : State) : Res State := act s fun s => s.cmdSafe

/-- A release that its complement write has completed. -/
def execRelease (s : State) : Res State := act s fun s => s.cmdRelease

def execSelftest (s : State) : Res State := act s fun s => s.cmdSelftest

/-- The test run ends (R454, R554): `first` is the lowest failing test, 0 where all passed. -/
def execSelftestEnd (first : Nat) (s : State) : Res State :=
  act s fun s =>
    if s.mode = .selftest then
      ((s.set G_SELFTEST_RES.RESULT (if first = 0 then 1 else 2)).set G_SELFTEST_RES.FIRST_FAIL first).resetBegin rstSelftest
    else s

def execModeReset (s : State) : Res State := act s fun s => s.cmdReset

def execWake (s : State) : Res State := act s fun s => s.cmdWake

end Sys2Proof.Machine
end

