-- ==== Sys2Proof/Machine/Atb.lean ====
section
/-!
DEFINITION. The analog test pins: routes of SV_ATB (R548, R549).
-/

namespace Sys2Proof.Machine

namespace State

/-- The route exists and its index is present on the variant (R549). -/
def atbOk (s : State) (route i : Nat) : Bool :=
  match route with
  | 0x01 => decide (i < 2) || (decide (i = 2) && s.dieHere 1)
  | 0x10 => decide (i < 9) || (decide (i = 9) && s.dieHere 1)
  | 0x11 => s.dieSensors.contains i || decide (i = 12)
  | 0x12 => decide (i < 4)
  | _ => decide (2 ≤ route) && decide (route ≤ 7) && decide (i < 100) && s.kHere i

/-- The PA die that holds the tap of a route; none for the core die (R548). VDD_PA is taken at PA0. [log 44: DEDUCED] -/
def atbDie (route i : Nat) : Option Nat :=
  match route with
  | 0x01 => if i = 0 then none else some (i - 1)
  | 0x10 => if i = 6 ∨ i = 8 then some 0 else if i = 9 then some 1 else none
  | 0x11 => none
  | 0x12 => none
  | _ => some (dieOf i)

/-- A PA die cannot serve a route: it is lost, its link has no clock, or it has no supplies. [log 44: DEDUCED] -/
def atbDead (s : State) (d : Nat) : Bool := s.pins.paLost.getD d false || s.pins.clockAbsent || !(s.dieSupplied d)

/-- A refused write of SV_ATB: counted, and the route in force stays. -/
def atbRefuse (s : State) (r : RC) : State := (s.inc R.SV_CMD_REJ_CNT).answer r

/-- A write of SV_ATB (R548, R549). With EN = 0, ATB0 is high-impedance and no route is in force. [log 44: DEDUCED] -/
def wrAtb (s : State) (v : Nat) : State :=
  let en := v / 2 ^ 31 % 2; let route := v / 65536 % 256; let i := v % 256
  let store := fun s : State => ((s.set SV_ATB.EN en).set SV_ATB.ROUTE route).set SV_ATB.INDEX i
  if en = 0 then ((((store s).set SV_ATB_ST.SETTLED 0).set SV_ATB_ST.ROUTE 0).set SV_ATB_ST.INDEX 0).answer .ok
  else
    let dead := match atbDie route i with | some d => s.dieHere d && s.atbDead d | none => false
    if s.atbOk route i && dead then s.atbRefuse .wrongState
    else if !(s.atbOk route i) then s.atbRefuse .range
    else if s.get SV_ATB_ST.ROUTE = route ∧ s.get SV_ATB_ST.INDEX = i ∧ s.on SV_ATB.EN = true then (store s).answer .ok
    else ((((store s).set SV_ATB_ST.SETTLED 0).set SV_ATB_ST.ROUTE route).set SV_ATB_ST.INDEX i).answer .ok

end State

open State

def execAtbRouteWrite (v : Nat) (s : State) : Res State := act s fun s => s.wrAtb v

/-- 1 ms after a new route (R548). [log 44: DEDUCED] -/
def execAtbSettled (s : State) : Res State :=
  act s fun s => if s.on SV_ATB.EN then s.set SV_ATB_ST.SETTLED 1 else s

end Sys2Proof.Machine
end

