-- ==== Sys2Proof/Machine/Crypto.lean ====
section
/-!
DEFINITION. The checks an image passes: CRC-32 (R373), SHA-256 and ECDSA over P-256 (R374).

R373 gives the CRC in full. R374 names SHA-256 and ECDSA over curve P-256 without writing them out; they are written here from
the public standards that define those names (PRESUMED, log 31).
-/

namespace Sys2Proof.Machine

/-! ### CRC-32 (R373) -/

/-- One bit of the reflected division. -/
def crcBit (c : Nat) : Nat := if c % 2 = 1 then (c / 2) ^^^ 0xEDB88320 else c / 2

/-- One byte. -/
def crcByte (c : Nat) (b : Byte) : Nat :=
  crcBit (crcBit (crcBit (crcBit (crcBit (crcBit (crcBit (crcBit (c ^^^ b.toNat))))))))

/-- CRC-32 of a sequence of bytes. -/
def crc32 (l : List Byte) : Nat := l.foldl crcByte 0xFFFFFFFF ^^^ 0xFFFFFFFF

/-! ### SHA-256 -/

/-- The primes below 312, of which there are 64: no smaller prime up to 17 divides them. -/
def shaPrimes : List Nat :=
  (List.range 312).filter fun n => decide (2 ≤ n) && [2, 3, 5, 7, 11, 13, 17].all fun d => decide (n ≤ d) || decide (n % d ≠ 0)

/-- The largest number of at most `bits` more bits than x whose power e does not exceed m. -/
def rootBits (e m bits x : Nat) : Nat :=
  match bits with
  | 0 => x
  | k + 1 => rootBits e m k (if (x + 2 ^ k) ^ e ≤ m then x + 2 ^ k else x)

/-- The first 32 bits of the fraction of the e-th root of q, for q below 512. -/
def rootFraction (e q : Nat) : Word := BitVec.ofNat 32 (rootBits e (q * 2 ^ (32 * e)) 40 0)

/-- Round constants: fractions of the cube roots of the first 64 primes. [log 31: PRESUMED] -/
def shaK : List Word := shaPrimes.map (rootFraction 3)

/-- Initial hash: fractions of the square roots of the first 8 primes. [log 31: PRESUMED] -/
def shaInit : List Word := (shaPrimes.take 8).map (rootFraction 2)

/-- Rotate right. -/
def ror (x : Word) (n : Nat) : Word := (x >>> n) ||| (x <<< (32 - n))

/-- Big-endian word of up to four bytes. -/
def beNat (l : List Byte) : Nat := l.foldl (fun a b => a * 256 + b.toNat) 0

/-- The first `n` chunks of `w` bytes. -/
def chunks (l : List Byte) (w n : Nat) : List (List Byte) :=
  match n with
  | 0 => []
  | n + 1 => l.take w :: chunks (l.drop w) w n

/-- The message with its padding. -/
def shaPad (l : List Byte) : List Byte :=
  let z := (55 + 64 - l.length % 64) % 64
  l ++ [0x80#8] ++ List.replicate z 0#8 ++ ((List.range 8).map fun i => BitVec.ofNat 8 (8 * l.length / 256 ^ (7 - i)))

/-- The message schedule, newest word first, extended by `n` words. -/
def shaExtend (w : List Word) (n : Nat) : List Word :=
  match n with
  | 0 => w
  | n + 1 =>
    let a := w.getD 14 0; let b := w.getD 1 0
    let s0 := ror a 7 ^^^ ror a 18 ^^^ (a >>> 3)
    let s1 := ror b 17 ^^^ ror b 19 ^^^ (b >>> 10)
    shaExtend ((w.getD 15 0 + s0 + w.getD 6 0 + s1) :: w) n

/-- One round on the eight working words. -/
def shaRound (h : List Word) (kw : Word × Word) : List Word :=
  match h with
  | [a, b, c, d, e, f, g, x] =>
    let s1 := ror e 6 ^^^ ror e 11 ^^^ ror e 25
    let ch := (e &&& f) ^^^ (~~~e &&& g)
    let t1 := x + s1 + ch + kw.1 + kw.2
    let s0 := ror a 2 ^^^ ror a 13 ^^^ ror a 22
    let mj := (a &&& b) ^^^ (a &&& c) ^^^ (b &&& c)
    [t1 + s0 + mj, a, b, c, d + t1, e, f, g]
  | _ => h

/-- One block of 64 bytes, with the round constants `k`. -/
def shaBlock (k h : List Word) (b : List Byte) : List Word :=
  let w := (shaExtend ((chunks b 4 16).map fun c => BitVec.ofNat 32 (beNat c)).reverse 48).reverse
  ((k.zip w).foldl shaRound h).zipWith (· + ·) h

/-- SHA-256 as eight words, the most significant first. [log 31: PRESUMED] -/
def sha256 (l : List Byte) : List Word :=
  let p := shaPad l; let k := shaK
  (chunks p 64 (p.length / 64)).foldl (shaBlock k) shaInit

/-- The digest as one number. -/
def sha256Nat (l : List Byte) : Nat := (sha256 l).foldl (fun a w => a * 2 ^ 32 + w.toNat) 0

/-! ### ECDSA over P-256 -/

namespace P256
/-- The prime of the field. -/
abbrev p : Nat := 0xffffffff00000001000000000000000000000000ffffffffffffffffffffffff
/-- The order of the group. -/
abbrev n : Nat := 0xffffffff00000000ffffffffffffffffbce6faada7179e84f3b9cac2fc632551
/-- The constant of the curve y² = x³ − 3x + b. -/
abbrev b : Nat := 0x5ac635d8aa3a93e7b3ebbd55769886bc651d06b0cc53b0f63bce3c3e27d2604b
/-- The base point. -/
abbrev base : Nat × Nat :=
  (0x6b17d1f2e12c4247f8bce6e563a440f277037d812deb33a0f4a13945d898c296,
   0x4fe342e2fe1a7f9b8ee7eb4a7c0f9e162bce33576b315ececbb6406837bf51f5)
end P256

/-- x to the power e modulo m, with `fuel` bits of e. -/
def powMod (m x e fuel : Nat) : Nat :=
  match fuel with
  | 0 => 1 % m
  | k + 1 =>
    let r := powMod m (x * x % m) (e / 2) k
    if e % 2 = 1 then r * x % m else r

/-- Inverse modulo a prime below 2²⁵⁶. -/
def invMod (m x : Nat) : Nat := powMod m (x % m) (m - 2) 256

/-- Sum of two points of the curve; none is the point at infinity. [log 31: PRESUMED] -/
def ecAdd (a b : Option (Nat × Nat)) : Option (Nat × Nat) :=
  match a, b with
  | none, b => b
  | a, none => a
  | some (x1, y1), some (x2, y2) =>
    let p := P256.p
    if x1 = x2 ∧ (y1 + y2) % p = 0 then none
    else
      let l := if x1 = x2 then (3 * x1 * x1 + (p - 3)) * invMod p (2 * y1) % p
        else (y2 + (p - y1)) * invMod p (x2 + (p - x1)) % p
      let x := (l * l + (p - x1) + (p - x2)) % p
      some (x, (l * (x1 + (p - x)) + (p - y1)) % p)

/-- k times a point, with `fuel` bits of k. [log 31: PRESUMED] -/
def ecMul (k : Nat) (a : Option (Nat × Nat)) (fuel : Nat) : Option (Nat × Nat) :=
  match fuel with
  | 0 => none
  | f + 1 =>
    let r := ecMul (k / 2) (ecAdd a a) f
    if k % 2 = 1 then ecAdd r a else r

/-- The signature (r, s) of digest z under the public key (x, y) verifies. [log 31: PRESUMED] -/
def ecdsaOk (z x y r s : Nat) : Bool :=
  let p := P256.p; let n := P256.n
  let onCurve := decide (x < p) && decide (y < p) && decide (y * y % p = (x * x * x + (p - 3) * x + P256.b) % p)
  let w := invMod n s
  onCurve && decide (1 ≤ r) && decide (r < n) && decide (1 ≤ s) && decide (s < n) &&
    match ecAdd (ecMul (z * w % n) (some P256.base) 256) (ecMul (r * w % n) (some (x, y)) 256) with
    | some (rx, _) => decide (rx % n = r)
    | none => false

end Sys2Proof.Machine
end

