-- ==== Sys2Proof/Machine/Boot.lean ====
section
/-!
DEFINITION. Flash banks and their checks, UPDATE, confirmation and fuses (chapter 12).
-/

namespace Sys2Proof.Machine

/-! Check codes of R377. -/

namespace Chk
abbrev ok : Nat := 0
abbrev noMagic : Nat := 1
abbrev format : Nat := 2
abbrev length : Nat := 3
abbrev variant : Nat := 4
abbrev isa : Nat := 5
abbrev layout : Nat := 6
abbrev crc : Nat := 7
abbrev rollback : Nat := 8
abbrev sig : Nat := 9
abbrev bootFail : Nat := 0xA
abbrev notRead : Nat := 0xF
end Chk

/-- An image header (R372). -/
structure Header where
  /-- MAGIC. -/
  magic : Nat
  /-- FMT_MAJOR. -/
  fmt : Nat
  /-- FLAGS. -/
  flags : Nat
  /-- IMG_VER. -/
  ver : Nat
  /-- LENGTH. -/
  len : Nat
  /-- ISA_MAJOR. -/
  isaMaj : Nat
  /-- ISA_MINOR. -/
  isaMin : Nat
  /-- VARIANTS. -/
  variants : Nat
  /-- SVN. -/
  svn : Nat
  /-- IMEM_LOAD. -/
  iLoad : Nat
  /-- IMEM_SIZE. -/
  iSize : Nat
  /-- DMEM_LOAD. -/
  dLoad : Nat
  /-- DMEM_SIZE. -/
  dSize : Nat
  /-- CFG_SIZE. -/
  cSize : Nat
  /-- USBD_SIZE. -/
  uSize : Nat
  /-- ENTRY. -/
  entry : Nat
  /-- THREADS. -/
  threads : Nat
  /-- Every reserved byte of the header is 0. -/
  zeros : Bool
  /-- CRC. -/
  crc : Nat
deriving DecidableEq, Repr

/-- FLAGS.MODE: the image extends the ROM program. -/
def Header.extend (h : Header) : Bool := h.flags.testBit 0

/-- FLAGS.SIGNED. -/
def Header.signed (h : Header) : Bool := h.flags.testBit 1

/-- FLAGS.ADV_RB. -/
def Header.advRb (h : Header) : Bool := h.flags.testBit 2

/-- The master of an update is the same one, whatever privilege its thread has now. [log 51: DEDUCED] -/
def sameMaster (a b : Master) : Bool :=
  match a, b with
  | .thread s _, .thread t _ => s == t
  | .boot, .boot => true
  | .host u, .host v => u == v
  | .console, .console => true
  | .peer c, .peer d => c == d
  | _, _ => false

/-- OWNER code of G_UPD_ST (R390). -/
def ownerCode (m : Master) : Nat :=
  match m with
  | .thread _ _ => 1
  | .boot => 1
  | .host _ => 2
  | .console => 3
  | .peer _ => 4

namespace State

/-! ### Flash and image checks (R369 to R378) -/

/-- Byte `o` of bank b; an erased byte is 0xFF. [log 5: DESIGN CHOICE] -/
def flashByte (s : State) (b o : Nat) : Byte := Tbl.get s.boot.flash 0xFF (b * 0x80000 + o)

/-- `n` bytes of bank b from offset o. -/
def flashBytes (s : State) (b o n : Nat) : List Byte := (List.range n).map fun i => s.flashByte b (o + i)

/-- Little-endian number of `n` bytes of bank b at offset o. -/
def flashLe (s : State) (b o n : Nat) : Nat :=
  (List.range n).foldl (fun a i => a + (s.flashByte b (o + i)).toNat * 256 ^ i) 0

/-- The header at the start of bank b (R372). -/
def header (s : State) (b : Nat) : Header where
  magic := s.flashLe b 0x00 4
  fmt := s.flashLe b 0x04 1
  flags := s.flashLe b 0x06 2
  ver := s.flashLe b 0x08 4
  len := s.flashLe b 0x0C 4
  isaMaj := s.flashLe b 0x10 1
  isaMin := s.flashLe b 0x11 1
  variants := s.flashLe b 0x12 1
  svn := s.flashLe b 0x13 1
  iLoad := s.flashLe b 0x14 4
  iSize := s.flashLe b 0x18 4
  dLoad := s.flashLe b 0x1C 4
  dSize := s.flashLe b 0x20 4
  cSize := s.flashLe b 0x24 4
  uSize := s.flashLe b 0x28 4
  entry := s.flashLe b 0x2C 4
  threads := s.flashLe b 0x30 8
  zeros := (s.flashBytes b 0x38 0x44).all (· == 0#8)
  crc := s.flashLe b 0x7C 4

/-- Sections lie in their memories, aligned, and the extend rules of R378 hold (code 0x6). [log 32: DEDUCED] -/
def layoutOk (h : Header) : Bool :=
  decide (h.iLoad + h.iSize ≤ 0x40000) && decide (h.dLoad + h.dSize ≤ 0x20000) &&
    [h.iLoad, h.iSize, h.dLoad, h.dSize].all (· % 4 == 0) && decide (h.cSize ≤ 8192) && decide (h.uSize ≤ 4096) &&
    decide (h.iLoad ≤ h.entry) && decide (h.entry < h.iLoad + h.iSize) &&
    (!h.extend || (decide (h.threads % 65536 = 0) && decide (0x8000 ≤ h.dLoad)))

/-- The key hash in fuses as one number, digest byte 0 most significant (R383). [log 31: PRESUMED] -/
def fuseHash (s : State) : Nat :=
  (List.range 32).foldl (fun a j => a * 256 + s.get (G_FUSE_KEY.HASH (j / 4)) / 256 ^ (j % 4) % 256) 0

/-- Key and signature of bank b (R374). [log 31: PRESUMED] -/
def sigOk (s : State) (b len : Nat) : Bool :=
  let o := 0x80 + len
  let x := s.flashBytes b o 32; let y := s.flashBytes b (o + 32) 32
  decide (sha256Nat (x ++ y) = s.fuseHash) &&
    ecdsaOk (sha256Nat (s.flashBytes b 0 o)) (beNat x) (beNat y) (beNat (s.flashBytes b (o + 64) 32))
      (beNat (s.flashBytes b (o + 96) 32))

/-- The checks of R377 in their order, without BOOT_FAIL. [log 32: DEDUCED] -/
def bankCheck (s : State) (b : Nat) : Nat :=
  let h := s.header b
  if h.magic ≠ 0x464E4C4B then Chk.noMagic
  else if h.fmt ≠ 1 ∨ h.flags / 8 ≠ 0 ∨ h.zeros = false then Chk.format
  else if h.len ≠ h.iSize + h.dSize + h.cSize + h.uSize ∨ 524032 < h.len ∨ h.len % 4 ≠ 0 then Chk.length
  else if h.variants.testBit (variantCode s.variant) = false then Chk.variant
  else if h.isaMaj ≠ s.get TK_VERSION.ISA_MAJOR ∨ s.get TK_VERSION.ISA_MINOR < h.isaMin then Chk.isa
  else if layoutOk h = false then Chk.layout
  else if crc32 (s.flashBytes b 0 0x7C ++ s.flashBytes b 0x80 h.len) ≠ h.crc then Chk.crc
  else if h.svn < s.get G_FUSE_RB.COUNT then Chk.rollback
  else if s.on G_FUSE_CFG.SIG_REQ ∧ (h.signed = false ∨ s.sigOk b h.len = false) then Chk.sig
  else Chk.ok

/-- The failure mark of bank b (R382). -/
def failMark (b : Nat) : Fld := if b = 0 then G_BOOT_ST.FAIL_A else G_BOOT_ST.FAIL_B

/-- The code of bank b at boot (R379). -/
def bootCode (s : State) (b : Nat) : Nat :=
  let c := s.bankCheck b
  if c = Chk.ok ∧ s.on (failMark b) = true then Chk.bootFail else c

/-- The bank that boots, by BANK_PREF and the codes of both banks (R379). -/
def bankChoice (pref codeA codeB verA verB : Nat) : Option Nat :=
  let a := decide (codeA = Chk.ok); let b := decide (codeB = Chk.ok)
  match pref with
  | 1 => if a then some 0 else if b then some 1 else none
  | 2 => if b then some 1 else if a then some 0 else none
  | _ => if a && b then (if verA < verB then some 1 else some 0) else if a then some 0 else if b then some 1 else none

/-! ### UPDATE (R384 to R386) -/

/-- A refused update, boot or fuse command (R385, R391). -/
def fwRefuse (s : State) (r : RC) : State := (s.inc R.G_FW_REJ_CNT).answer r

/-- A refused command of G_UPD_CTL. -/
def updRefuse (s : State) (r : RC) : State := (s.set G_UPD_CTL.RESULT r.code).fwRefuse r

/-- A command of G_UPD_CTL carried out. [log 30: DEDUCED] -/
def updDone (s : State) : State := (s.set G_UPD_CTL.RESULT 0).answer .ok

/-- G_UPD_ADDR names the running bank. -/
def runningBank (s : State) : Bool := decide (s.get G_BOOT_ST.SOURCE = s.get G_UPD_ADDR.BANK + 1)

/-- Address in flash that G_UPD_ADDR names. -/
def updAt (s : State) : Nat := s.get G_UPD_ADDR.BANK * 0x80000 + s.get G_UPD_ADDR.OFFSET

/-- Master m may not give the command now (R385). [log 51: DEDUCED] -/
def updForeign (s : State) (m : Master) : Bool :=
  !(s.on G_UPD_ST.ACTIVE) || s.on G_UPD_ST.BUSY || !(match s.boot.owner with | some o => sameMaster o m | none => false)

/-- BEGIN. Before TORIK is ready it is refused, as is the boot loader's table, because no boot has completed (R389, R449).
[log 30: DEDUCED] -/
def updBegin (s : State) (m : Master) : State :=
  if s.on G_UPD_ST.ACTIVE = true ∨ s.mode = .selftest ∨ s.mode = .safe ∨ m = .boot ∨ s.on G_READY.TORIK = false then s.updRefuse .wrongState
  else
    (((((s.set G_UPD_ST.ACTIVE 1).set G_UPD_ST.ABORTED 0).set G_UPD_ST.OWNER (ownerCode m)).modBoot fun b =>
      { b with owner := some m }).updDone).modeNote s

/-- Remove the bytes of a sector: erased. [log 30: DEDUCED] -/
def eraseAt (s : State) (a : Nat) : State :=
  s.modBoot fun b => { b with flash := b.flash.filter fun e => decide (e.1 < a) || decide (a + 4096 ≤ e.1) }

/-- ERASE. -/
def updErase (s : State) (m : Master) : State :=
  if s.updForeign m || s.runningBank then s.updRefuse .wrongState
  else if s.get G_UPD_ADDR.OFFSET % 4096 ≠ 0 then s.updRefuse .range
  else ((((s.eraseAt s.updAt).modBoot fun b => { b with op := .erase }).set G_UPD_ST.BUSY 1).emit (.flash 0x20 s.updAt)).updDone

/-- Byte i of the page buffer. -/
def updByte (s : State) (i : Nat) : Byte := BitVec.ofNat 8 (s.get (G_UPD_BUF.DATA (i / 4)) / 256 ^ (i % 4))

/-- Write the page at flash address a: a program operation can only clear bits. [log 30: DEDUCED] -/
def programAt (s : State) (a : Nat) : State :=
  s.modBoot fun b => { b with
    flash := (List.range 256).foldl (fun f i => Tbl.set f 0xFF (a + i) (Tbl.get f 0xFF (a + i) &&& s.updByte i)) b.flash
    lastProg := s.get G_UPD_ADDR.BANK * 2 ^ 20 + s.get G_UPD_ADDR.OFFSET }

/-- PROGRAM. -/
def updProgram (s : State) (m : Master) : State :=
  if s.updForeign m || s.runningBank then s.updRefuse .wrongState
  else if s.get G_UPD_ADDR.OFFSET % 256 ≠ 0 then s.updRefuse .range
  else ((((s.programAt s.updAt).modBoot fun b => { b with op := .program }).set G_UPD_ST.BUSY 1).emit (.flash 0x02 s.updAt)).updDone

/-- VERIFY. -/
def updVerify (s : State) (m : Master) : State :=
  if s.updForeign m then s.updRefuse .wrongState
  else ((s.modBoot fun b => { b with op := .verify (s.get G_UPD_ADDR.BANK) }).set G_UPD_ST.BUSY 1).updDone

/-- END. -/
def updEnd (s : State) (m : Master) : State :=
  if s.updForeign m then s.updRefuse .wrongState
  else ((((s.set G_UPD_ST.ACTIVE 0).set G_UPD_ST.OWNER 0).modBoot fun b => { b with owner := none }).updDone).modeNote s

/-- A write of G_UPD_CTL.CMD; other codes are ignored (R390), and the boot loader's table is refused whatever it writes (R389). -/
def wrUpdCtl (s : State) (m : Master) (c : Nat) : State :=
  if m = .boot then s.updRefuse .wrongState
  else match c with
  | 1 => s.updBegin m
  | 2 => s.updErase m
  | 3 => s.updProgram m
  | 4 => s.updVerify m
  | 5 => s.updEnd m
  | _ => s.answer .ok

/-- The flash reports ready: BUSY falls, VERIFY gives its code, and what waited for the operation follows (R385, R386, R459).
[log 30: DEDUCED] -/
def flashReady (s : State) : State :=
  if s.on G_UPD_ST.BUSY then
    let s1 := match s.boot.op with
      | .verify b => s.set G_UPD_ST.VERIFY (s.bankCheck b)
      | _ => s
    let s2 := (s1.set G_UPD_ST.BUSY 0).modBoot fun b => { b with op := .none, abortAfter := false, resetAfter := none }
    let s3 := if s.boot.abortAfter then s2.updateAbort.modeNote s2 else s2
    match s.boot.resetAfter with
    | some k => s3.resetBegin k
    | none => s3
  else s

/-! ### Confirmation (R382) -/

/-- A write of CONFIRM: the image is confirmed, and the rollback counter advances when the image asks for it. [log 30: DEDUCED] -/
def confirm (s : State) : State :=
  if s.boot.confirmWait then
    let s1 := (s.set G_BOOT_ST.CONFIRMED 1).modBoot fun b => { b with confirmWait := false }
    (s1.set G_FUSE_RB.COUNT (max (s1.get G_FUSE_RB.COUNT) s.boot.advSvn)).answer .ok
  else s.fwRefuse .wrongState

/-- A boot reset (R382): the bank is marked and the resets are counted. -/
def bootReset (s : State) : State :=
  let s1 := if s.get G_BOOT_ST.SOURCE = 0 then s else s.set (failMark (s.get G_BOOT_ST.SOURCE - 1)) 1
  (s1.set G_BOOT_ST.BOOT_RST (min (s.get G_BOOT_ST.BOOT_RST + 1) 255)).resetBegin rstBoot

/-! ### Fuses (R383) -/

/-- Fuse field i: 0 to 7 a word of the key hash, 8 SIG_REQ. -/
def fuseFld (i : Nat) : Fld := if i = 8 then G_FUSE_CFG.SIG_REQ else G_FUSE_KEY.HASH i

/-- All key words read 0. -/
def noKey (s : State) : Bool := (List.range 8).all fun i => s.get (G_FUSE_KEY.HASH i) == 0

/-- A write of a fuse field (R383, R489, R490). SIG_REQ = 1 with no key is refused with WRONG_STATE and counted as R383 gives, though SIG_REQ be
locked too, for which R490 gives LOCKED: the spec does not say which comes first. [log 60: DESIGN CHOICE] -/
def wrFuse (s : State) (m : Master) (i v : Nat) : State :=
  let f := fuseFld i
  if !m.privileged then (s.privViol R.G_PRIV_VIOL_CNT 1 f.addr m).answer .priv
  else if decide (i = 8) && v.testBit 0 && s.noKey then s.fwRefuse .wrongState
  else if s.boot.fuseLock.contains i then ((s.inc R.G_LOCK_VIOL_CNT).regRec 3 f.addr m 0).answer .locked
  else ((s.set f (s.get f ||| v % 2 ^ f.wid)).modBoot fun b => { b with fuseLock := b.fuseLock ++ [i] }).answer .ok

end State

open State

/-- A write of CONFIRM as it takes effect: a privileged write, or a completed guard write. -/
def execConfirm (s : State) : Res State := act s fun s => s.confirm

def execConfirmTimeout (s : State) : Res State := act s fun s => if s.boot.confirmWait then s.bootReset else s

def execFuseWrite (m : Master) (i v : Nat) (s : State) : Res State := act s fun s => s.wrFuse m i v

/-- G_UPD_CTL.CMD as it takes effect: a privileged write, or a completed guard write (R384). -/
def execUpdBegin (m : Master) (s : State) : Res State := act s fun s => s.updBegin m

def execErase (m : Master) (s : State) : Res State := act s fun s => s.updErase m

def execProgram (m : Master) (s : State) : Res State := act s fun s => s.updProgram m

def execVerify (m : Master) (s : State) : Res State := act s fun s => s.updVerify m

def execUpdEnd (m : Master) (s : State) : Res State := act s fun s => s.updEnd m

def execFlashOpComplete (s : State) : Res State := act s fun s => s.flashReady

/-- 60 s without a command of the owner (R386). -/
def execUpdateTimeout (s : State) : Res State := act s fun s => if s.on G_UPD_ST.ACTIVE then s.updateAbort.modeNote s else s

end Sys2Proof.Machine
end

