-- ==== Sys2Proof/Machine/FaultCmd.lean ====
section
/-!
DEFINITION. Commands of the fault collector: reaction classes, VENT, the watchdog, software sources and injection (chapter 17).
-/

namespace Sys2Proof.Machine

namespace State

/-- The collector is asked to stop VENT no longer: with VENT_AUTO = 1, the last stop source's fall starts the 1.0 s wait (R517).
[log 11: DEDUCED] -/
def stopEnd (s old : State) : State :=
  if old.stopAsserted && !s.stopAsserted && s.on FC_CFG.VENT_AUTO then s.modFlt fun f => { f with ventWait := true } else s

/-- VENT may run in this mode (R518). -/
def ventMode (s : State) : Bool :=
  match s.mode with
  | .rise => true
  | .run => true
  | .selftest => true
  | _ => false

/-! ### Reaction classes (R516) -/

/-- Class c of source i is stored, never below its floor; a raise of an asserted source acts as an onset without count and
record, a lowering may end its stop. -/
def setClass (s : State) (i c : Nat) : State :=
  let old := s.fltClass i
  let new := max (faultFloor i) c
  let w := s.get (FC_REACT.CLASS (i / 16))
  let s1 := s.set (FC_REACT.CLASS (i / 16)) (w - w / 4 ^ (i % 16) % 4 * 4 ^ (i % 16) + new * 4 ^ (i % 16))
  if s.fltOn i && decide (old < new) then
    let back := s.flt.heldBack.contains i
    let s2 := if old = 0 then s1.postRouted 12 else s1
    let s3 := if decide (old < 2) && decide (2 ≤ new) && !back then s2.ventStop i else s2
    if decide (3 ≤ new) && !back then s3.safeEntry Entry.fault i else s3
  else s1.stopEnd s

/-- A write of FC_REACT[j]. -/
def wrReact (s : State) (j v : Nat) : State :=
  ((List.range 16).foldl (fun s i => s.setClass (16 * j + i) (v / 4 ^ i % 4)) s).answer .ok

/-! ### VENT (R517, R519) -/

/-- A refused command of the collector (R534). -/
def fcRefuse (s : State) : State := (s.inc R.FC_REJ_CNT).answer .wrongState

/-- RESTART: LATCHED falls, and VENT runs again where the mode lets it. -/
def ventRestart (s : State) : State :=
  if !(s.on FC_VENT_ST.LATCHED) || s.stopAsserted then (s.set FC_CMD.RESULT 1).fcRefuse
  else
    (((s.set FC_VENT_ST.LATCHED 0).set FC_VENT_ST.RUN s.ventMode.toNat).set FC_CMD.RESULT 0).answer .ok

/-- A write of FC_CMD.CMD. -/
def wrFcCmd (s : State) (c : Nat) : State := if c = 1 then s.ventRestart else s.answer .ok

/-- A kick restarts the watchdog's period and ends F40 (R523). -/
def kick (s : State) : State := s.fltFall 40 0

/-! ### Software sources (R513) -/

/-- A write of FC_SW.SET: bit j asserts F(56 + j) while it is 1. -/
def wrSw (s : State) (v : Nat) : State :=
  let s1 := s.set FC_SW.SET v
  (List.range 8).foldl (fun s j =>
    if v.testBit j then s.faultOnset (56 + j) 0 0 else s.fltFall (56 + j) 0) s1

/-! ### Injection (R525 to R527) -/

/-- A register with stored writable fields, or the command-off state behind PP_CMD (R476, R477). [log 38: DEDUCED] -/
def covered (a : Nat) : Bool :=
  match regAt a with
  | some (r, _) => decide (r.base = R.PP_CMD 0) || r.fields.any fun f =>
      match f.acc with
      | .rw => true
      | .rwa => true
      | .rwp => true
      | _ => false
  | none => false

/-- The instance lies within the Inject entry of source i, and there is one (R513, R526). [log 38: DEDUCED] -/
def injRange (i inst : Nat) : Bool :=
  match i with
  | 10 => covered (4 * inst)
  | 12 => covered (4 * inst)
  | 13 => decide (inst < 3)
  | 14 => decide (inst < 3)
  | 16 => decide (inst < 64)
  | 17 => decide (inst < 32)
  | 18 => decide (inst < 32)
  | 19 => decide (inst < 32)
  | 20 => decide (inst < 2048)
  | 21 => decide (inst < 512)
  | 22 => decide (inst < 200) || (decide (256 ≤ inst) && decide (inst < 356))
  | 23 => decide (inst = 0)
  | _ => false

/-- The part is in SERVICE or SELFTEST. -/
def injMode (s : State) : Bool := decide (s.mode = .selftest) || (decide (s.mode = .run) && s.cService)

/-- A Caldera injection on a bank under the other code, or whose change is pending. -/
def injBankBar (s : State) (i inst : Nat) : Bool :=
  let sec := (s.get CD_PROT.SECDED).testBit inst
  decide (17 ≤ i) && decide (i ≤ 19) && decide (inst < 32) && ((s.get CD_PROT_PEND.PEND).testBit inst || (if i = 17 then sec else !sec))

/-- A refused injection command. -/
def injRefuse (s : State) (r : RC) : State := ((s.set FC_INJ.RESULT r.code).inc R.FC_REJ_CNT).answer r

/-- ARM of source i on an instance. [log 38: DEDUCED] -/
def injArm (s : State) (i inst : Nat) : State :=
  if !s.injMode || decide (s.get FC_INJ_ST.STATE = 1) || s.injBankBar i inst then s.injRefuse .wrongState
  else if !(injRange i inst) then s.injRefuse .range
  else ((((s.set FC_INJ_ST.STATE 1).set FC_INJ_ST.SRC i).set FC_INJ.RESULT 0).modFlt fun f => { f with injInst := inst }).answer .ok

/-- DISARM. -/
def injDisarm (s : State) : State :=
  if s.get FC_INJ_ST.STATE = 1 then ((s.set FC_INJ_ST.STATE 3).set FC_INJ.RESULT 0).answer .ok else s.injRefuse .wrongState

/-- A write of FC_INJ's RWP part: SRC and INST stand, and CMD runs. -/
def wrInj (s : State) (v : Nat) : State :=
  let s1 := (s.set FC_INJ.INST (v / 2 ^ 8)).set FC_INJ.SRC (v / 4)
  match v % 4 with
  | 1 => s1.injArm (v / 4 % 64) (v / 2 ^ 8 % 2 ^ 20)
  | 2 => s1.injDisarm
  | _ => s1.answer .ok

/-! ### Onsets by source (R513, R524) -/

/-- A parity error of thread t's local memory (R321, R347): counted, and MEMERR in the thread where it is running. -/
def threadMemErr (s : State) (t detail : Nat) : State :=
  let s1 := s.inc R.TK_MEM_UNCORR_CNT
  if (s.thread t).state = .run then s1.exception t Ex.memerr (s.thread t).pc detail else s1

/-- An error a block's checker reports, with the block's own action: memory counts (R321), tables (R524), the ways to SAFE of
F00, F01 and F03 (R27, R34); every other source only reaches the collector. Reserved sources never assert. -/
def sourceOnset (s : State) (i inst detail : Nat) : State :=
  match i with
  | 0 => (s.faultOnset 0 0 0).safeEntry Entry.clock 0
  | 1 => (s.faultOnset 1 0 0).safeEntry Entry.clock 0
  | 3 => (s.faultOnset 3 inst 0).safeEntry Entry.temp 0
  | 6 => if s.dieHere 0 then s.dieLost 0 |>.faultOnset 6 0 0 else s
  | 7 => if s.dieHere 1 then s.dieLost 1 |>.faultOnset 7 0 0 else s
  | 8 => s.dieStarved 0
  | 9 => s.dieStarved 1
  | 13 => (s.inc R.TK_MEM_CORR_CNT).faultOnset 13 inst detail
  | 14 => (s.inc R.TK_MEM_UNCORR_CNT).faultOnset 14 inst detail
  | 16 => (s.threadMemErr inst detail).faultOnset 16 inst detail
  | 20 => s.epParity inst
  | 21 => s.qParity inst
  | 22 => if inst < 200 then s.plParity inst else s.shParity (inst - 256)
  | _ => if 46 ≤ i ∧ i ≤ 55 then s else s.faultOnset i inst detail

end State

open State

def execFaultOnset (i inst detail : Nat) (s : State) : Res State := act s fun s => s.sourceOnset i inst detail

/-- HOLD has passed since the last event of source i (R513). -/
def execFaultHoldExpiry (i : Nat) (s : State) : Res State :=
  act s fun s =>
    (s.modFlt fun f => { f with events := f.events.filter (fun j => !(j == i)), heldBack := f.heldBack.filter (fun j => !(j == i)) }).stopEnd s

def execReactionClassWrite (j v : Nat) (s : State) : Res State := act s fun s => s.wrReact j v

def execRestart (s : State) : Res State := act s fun s => s.ventRestart

/-- 1.0 s after the last stop source fell (R517). -/
def execVentAutoRestart (s : State) : Res State :=
  act s fun s =>
    if s.flt.ventWait && s.on FC_CFG.VENT_AUTO && !s.stopAsserted && !(s.on FC_VENT_ST.LATCHED) then
      (s.set FC_VENT_ST.RUN s.ventMode.toNat).modFlt fun f => { f with ventWait := false }
    else s

def execKick (s : State) : Res State := act s fun s => s.kick.answer .ok

def execWatchdogExpiry (s : State) : Res State :=
  act s fun s => if s.on FC_WDOG.PERIOD then s.faultOnset 40 0 0 else s

/-- The reference check of converter i of die d (R522). -/
def execConverterCheck (d i : Nat) (ok : Bool) (s : State) : Res State :=
  act s fun s => if s.dieHere d then (if ok then s.fltFall (35 + d) i else s.faultOnset (35 + d) i 0) else s

def execSoftwareSourceWrite (v : Nat) (s : State) : Res State := act s fun s => (s.wrSw v).answer .ok

def execArm (i inst : Nat) (s : State) : Res State :=
  act s fun s => s.wrInj (1 + 4 * i + 2 ^ 8 * inst)

def execDisarm (s : State) : Res State := act s fun s => s.injDisarm

def execInjectionExpiry (s : State) : Res State := act s fun s => s.injExpire

end Sys2Proof.Machine
end

