-- ==== Sys2Proof/Machine/Kcl.lean ====
section
/-!
DEFINITION. Remote presentation: PORTOP frames between owner and presenter (R415 to R421), SuperSpeed packets across the fabric (R418,
R423), proxied high-speed transactions and isochronous prefetch (R424 to R426).
-/

namespace Sys2Proof.Machine

namespace State

/-! ### Slots and groups of the presenter -/

/-- Remote slot i. -/
def slot (s : State) (i : Nat) : Slot := Tbl.get s.kcl.slots {} i

/-- Change remote slot i. -/
def modSlot (s : State) (i : Nat) (f : Slot → Slot) : State :=
  s.modKcl fun k => { k with slots := Tbl.set k.slots {} i (f (Tbl.get k.slots {} i)) }

/-- The slot that presents port `port` of chip c. -/
def slotFor (s : State) (c port : Nat) : Option Nat :=
  (s.kcl.slots.find? fun e => e.2.valid && e.2.chip == c && e.2.port == port).map (·.1)

/-- The group for owner chip c in tree u: the one in use, else the lowest free one that may be used (R415). -/
def groupFor (s : State) (c u : Nat) : Option Nat :=
  match s.groupIdx c u with
  | some g => some g
  | none => (List.range 64).find? fun g => !(Tbl.get s.kcl.grps {} g).used && s.on (KL_GRP.EN g)

/-- What the host's routing and proxies hold for slot i goes, as for a disconnected port (R71, R425). -/
def slotGone (s : State) (i : Nat) : State :=
  let s1 : State := { s with ups := s.ups.map fun e =>
    (e.1, { e.2 with
      routes := e.2.routes.filter (fun r => !(r.2 == Target.remote i))
      target0 := if e.2.target0 = some (Target.remote i) then none else e.2.target0 }) }
  s1.modKcl fun k => { k with proxies := k.proxies.filter fun p => !(p.slot == i) }

/-- Slot i is freed, and its group with its last slot (R416); the tree's USB 3 hubs follow (R44). -/
def freeSlot (s : State) (i : Nat) : State :=
  let e := s.slot i
  let s1 := (s.slotGone i).modKcl fun k => { k with slots := Tbl.erase k.slots i, ops := k.ops.filter fun o => !(o.1 == i) }
  let s2 := if s1.kcl.slots.any fun x => x.2.valid && x.2.chip == e.chip && x.2.tree == e.tree then s1
    else match s1.groupIdx e.chip e.tree with
      | some g => s1.modKcl fun k => { k with grps := Tbl.set k.grps {} g {} }
      | none => s1
  if e.valid then s2.ssTreeNote s e.tree else s2

/-- A local port is on its way to this slot (R415, R432). -/
def localComing (s : State) (u h l : Nat) : Bool :=
  s.ports.any fun e => decide (e.2.move ≠ .none) && s.placeOf e.1 == .here u h l

/-- The slot is held against chip c, port: by a local port, or by a remote one that is shown or of a lower chip ID. [log 36: DEDUCED] -/
def slotTaken (s : State) (c port u h l : Nat) : Bool :=
  (s.portIn u h l).isSome || s.localComing u h l ||
    match s.slotIn u h l with
    | some i => !(decide ((s.slot i).chip = c) && decide ((s.slot i).port = port)) &&
        ((s.slot i).shown || decide ((s.slot i).chip ≤ c))
    | none => false

/-- Cause of a refusal of R415, 0 where the request is accepted. -/
def presCause (s : State) (c port u h l lat : Nat) : Nat :=
  if !(s.usHere u) || s.isKcl u then 3
  else if !(s.slotOk u h l) then 4
  else if s.slotTaken c port u h l then 5
  else if ((List.range 448).all fun i => (s.slot i).valid) && (s.slotFor c port).isNone then 6
  else if (s.groupFor c u).isNone then 7
  else match s.reach c with
    | none => 1
    | some r => if s.budget u < max r.lat lat then 8 else 0

/-- Send a PORTOP frame about the owner's port to its chip. [log 36: DEDUCED] -/
def presReply (s : State) (c op port arg : Nat) : State := s.portOp c [op, port, arg]

/-- The request is accepted (R415, R417): slot and group taken, PRES_ACK with this part's LAT. [log 36: DEDUCED] -/
def presAccept (s : State) (c port u h l lat : Nat) (ss : Bool) : State :=
  let s1 := match s.slotFor c port with
    | some i => s.freeSlot i
    | none => s
  let s2 := match s1.slotIn u h l with
    | some j => (s1.freeSlot j).presReply (s1.slot j).chip opPresNak (s1.slot j).port 5
    | none => s1
  match (List.range 448).find? fun i => !(s2.slot i).valid, s2.groupFor c u, s2.reach c with
  | some i, some g, some r =>
    let s3 := s2.modSlot i fun _ =>
      { valid := true, tree := u, hub := h, lport := l, port := port, chip := c, lat := lat, ssPhy := ss }
    let s4 := s3.modKcl fun k => { k with grps := Tbl.set k.grps {} g ⟨true, u, c⟩ }
    (s4.ssTreeNote s2 u).presReply c opPresAck port r.lat
  | _, _, _ => s2

/-- A PORTOP frame on link u: for this part, or in transit (R412). -/
def portopIn (s : State) (u seq dest : Nat) (args : List Nat) (f : State → State) : State :=
  s.kAccept u seq 0 args.length fun s =>
    if s.toMe dest then f s else s.kForward u ⟨4, 0, dest, args.length, args⟩

/-- Dn is presented by chip c in its tree u. -/
def presentedBy (s : State) (n c u : Nat) : Bool :=
  match (s.port n).presTo with
  | some (c', u', _, _) => decide (c' = c) && decide (u' = u) && decide (s.get (KL_PRES.STATE n) = 2)
  | none => false

/-- The owner's ports in tree u of chip c. -/
def portsOfChip (s : State) (c u : Nat) : List Nat := (List.range (min 96 (dsPorts s.variant))).filter fun n => s.presentedBy n c u

/-- A tree event on one presented port (R420). -/
def treeEvtPort (s : State) (ev n : Nat) : State :=
  let ss := s.on (P_PORTST.SS_LINK n)
  let tree := decide (s.get (P_LPST.SUSP_KIND n) = Susp.tree)
  match ev with
  | 1 => if s.ps n = Ps.enabled ∧ s.get (P_LPST.SUSP_KIND n) = Susp.none ∧ ss = false then s.set (P_LPST.SUSP_KIND n) Susp.tree else s
  | 2 => if tree && !ss then s.emit (.usb2 n .driveK) else s
  | 3 => if tree && !ss then s.treeWake n else s
  | 4 => if ss then s else ((((s.flushPort n true true).dropHolds n).resetSleep n).portGone n).connectPort n
  | 5 => if ss then s.sendU3 n else s
  | 7 => if ss then ((((s.flushPort n false true).dropHolds n).resetSleep n).portGone n).connectPort n else s
  | _ => s

/-! ### Data (R418, R423) -/

/-- A frame that has no place to go is dropped; its buffer's credits return. -/
def kDrop (s : State) (u : Nat) (p : Packet) : State := s.kOwe u (vcOf p) (16 + p.len)

/-- A packet of link u goes on by link v (R414, R417). -/
def kToLink (s : State) (u v : Nat) (p : Packet) : State :=
  if s.on (KL_LQ.EN v) then
    s.kIngest u (s.get (if p.periodic then KL_LQ.PQ v else KL_LQ.AQ v)) { p with egress := 96 + v }
  else (s.inc (R.KL_NOROUTE_CNT v)).kDrop u p

/-- Data received on link u is metered by the link's aggregate and by the policer of its exit (R124, R418); the packet's colour. -/
def kMeter (s : State) (u exit : Nat) (p : Packet) : State × Colour :=
  if p.kind = 2 ∨ (5 ≤ p.kind ∧ 0 < p.len) then
    let m := s.meterBoth (192 + 2 * u) exit p.len p.colour true
    (m.1, m.2.1)
  else (s, p.colour)

/-- A packet in transit to chip `dest` (R412, R414, R418). -/
def kTransit (s : State) (u dest : Nat) (p : Packet) : State :=
  match s.linkFor dest (u + 1) with
  | none => (s.inc (R.KL_NOROUTE_CNT u)).kDrop u p
  | some v =>
    let p1 := { p with chip := dest + 1 }
    let m := s.kMeter u (193 + 2 * v) p
    m.1.kToLink u v { p1 with colour := m.2 }

/-- A packet from an owned port of chip c reaches its presenter: metered and queued to its group (R417, R418). -/
def toGroup (s : State) (u c : Nat) (p : Packet) : State :=
  match s.slotFor c p.port with
  | none => s.kDrop u p
  | some i =>
    let t := (s.slot i).tree
    match s.groupIdx c t with
    | none => s.kDrop u p
    | some g =>
      let p1 := { p with egress := 96 + t, chip := c + 1, owner := 0 }
      let q := s.get (if p.periodic then KL_GRP.PQ g else KL_GRP.AQ g)
      let m := s.kMeter u (193 + 2 * t) p
      m.1.kIngest u q { p1 with colour := m.2 }

/-- A timestamp for this part's ports whose presenter is reached by link u (R90, R420). [log 37: DEDUCED] -/
def itpFromLink (s : State) (u : Nat) (p : Packet) : State :=
  let readers := (List.range (min 96 (dsPorts s.variant))).filter fun n =>
    match s.presenter n with
    | some c => s.linkFor c 0 == some u && s.ssConnected n && decide (s.get (P_LPST.SS_LS n) = Ls.u0)
    | none => false
  if readers.isEmpty then s.kDrop u p
  else s.kIngest u (s.get (U_QSEL.ITPQ u)) { p with egress := 100, chip := 0, owner := 0, readers := readers }

/-- A packet for port n of this part (R89, R423). -/
def toOwned (s : State) (u n : Nat) (p : Packet) (pseq : Nat) : State :=
  if s.dsHere n && (s.presenter n).isSome && s.ssConnected n then
    s.deliverDown (100 + u) (some u) n { p with owner := 0, chip := 0 } pseq
  else s.kDrop u p

/-! ### Proxied transactions (R424, R425) -/

/-- Index of the proxy entry of a slot's endpoint and kind. -/
def proxyIdx (s : State) (i epn kind : Nat) : Option Nat :=
  s.kcl.proxies.findIdx? fun p => p.slot == i && p.epn == epn && p.kind == kind

/-- Change proxy entry j. -/
def modProxy (s : State) (j : Nat) (f : Proxy → Proxy) : State :=
  s.modKcl fun k => { k with proxies := k.proxies.modify j f }

/-- Free proxy entry j. -/
def freeProxy (s : State) (j : Nat) : State := s.modKcl fun k => { k with proxies := k.proxies.eraseIdx j }

/-- Send a PROXY (kind 5) or ISOPF (kind 6) frame for slot i, with its data metered by the aggregates of the host's port and of the link it
leaves by (R125). -/
def proxySend (s : State) (u i pk epn : Nat) (dirIn : Bool) (len : Nat) (args : List Nat) : State :=
  let e := s.slot i
  match s.linkFor e.chip 0 with
  | none => s
  | some v =>
    let m := if len = 0 then (s, Colour.none, 0) else s.meterBoth (192 + 2 * u) (193 + 2 * v) len .green true
    m.1.toLinkQueue (96 + u) v
      { src := 96 + u, kind := pk, cls := if pk = 6 then 1 else 2, chip := e.chip + 1, port := e.port, epn := epn, dirIn := dirIn
        len := len, w := wordsOf len, written := wordsOf len, colour := m.2.1, args := args }

/-- Take a proxy entry and send its request; none free is counted (R424, R425). Answers whether an entry was taken. -/
def proxyOpen (s : State) (u : Nat) (p : Proxy) (dirIn : Bool) (len : Nat) : State × Bool :=
  if 256 ≤ s.kcl.proxies.length then (s.inc R.KL_PROXY_FULL_CNT, false)
  else
    ((s.modKcl fun k => { k with proxies := k.proxies ++ [p] }).proxySend u p.slot (if p.kind = 3 then 6 else 5) p.epn dirIn len
      [p.kind, p.pid, p.y], true)

/-- Answer on Uu. -/
def upAnswer (s : State) (u : Nat) (sig : Usb2) : State := s.emit (.usb2 (96 + u) sig)

/-- A SETUP that was refused, or failed, answers the endpoint's next token (R424): STALL, or no handshake; else `f` answers it. -/
def afterSetup (s : State) (u i epn : Nat) (f : State → State) : State :=
  match s.proxyIdx i epn 2 with
  | none => f s
  | some j =>
    match (s.kcl.proxies[j]?).map Proxy.st with
    | some .stall => (s.freeProxy j).upAnswer u .stall
    | some .error => s.freeProxy j
    | _ => f s

/-- An IN token to slot i (R424); `ack` when the host acknowledges the data. -/
def proxyInToken (s : State) (u i addr epn : Nat) (ack : Bool) : State :=
  match s.proxyIdx i epn 0 with
  | none => (s.proxyOpen u ⟨i, addr, epn, 0, 0, .asked, 0, 0⟩ true 0).1.upAnswer u .nak
  | some j =>
    match (s.kcl.proxies.getD j ⟨i, addr, epn, 0, 0, .asked, 0, 0⟩).st with
    | .data =>
      let s1 := s.upAnswer u .data
      if ack then s1.freeProxy j else s1
    | .nak => ((s.modProxy j fun p => { p with st := .asked }).proxySend u i 5 epn true 0 [0, 0, 0]).upAnswer u .nak
    | .stall => (s.freeProxy j).upAnswer u .stall
    | .error => s.freeProxy j
    | _ => s.upAnswer u .nak

/-- An OUT (`ping` false) or PING token to slot i with data PID `pid` (R424). [log 37: DEDUCED] -/
def proxyOutToken (s : State) (u i addr epn pid len : Nat) (ping : Bool) : State :=
  let ask := fun (s : State) =>
    if ping then s.upAnswer u .nak
    else (s.proxyOpen u ⟨i, addr, epn, 1, pid, .asked, len, 0⟩ false len).1.upAnswer u .nak
  match s.proxyIdx i epn 1 with
  | none => ask s
  | some j =>
    let p := s.kcl.proxies.getD j ⟨i, addr, epn, 1, pid, .asked, len, 0⟩
    let same := ping || decide (p.pid = pid)
    match p.st with
    | .ack => if same then (s.freeProxy j).upAnswer u .ack else ask (s.freeProxy j)
    | .nyet => if same then (s.freeProxy j).upAnswer u .nyet else ask (s.freeProxy j)
    | .nak => ((s.modProxy j fun p => { p with st := .asked }).proxySend u i 5 epn false p.len [1, p.pid, 0]).upAnswer u .nak
    | .stall => (s.freeProxy j).upAnswer u .stall
    | .error => s.freeProxy j
    | _ => s.upAnswer u .nak

/-- A SETUP to slot i (R424): it replaces what the endpoint holds. -/
def proxySetup (s : State) (u i addr epn len : Nat) : State :=
  let s1 := s.modKcl fun k => { k with proxies := k.proxies.filter fun p => !(p.slot == i && p.epn == epn) }
  let r := s1.proxyOpen u ⟨i, addr, epn, 2, 0, .asked, len, 0⟩ false len
  if r.2 then r.1.upAnswer u .ack else r.1

/-- An isochronous IN to slot i (R426). [log 37: DEDUCED] -/
def proxyIsoIn (s : State) (u i addr epn : Nat) : State :=
  match s.proxyIdx i epn 3 with
  | none => (s.proxyOpen u ⟨i, addr, epn, 3, 0, .asked, 0, 0⟩ true 0).1.upAnswer u .data
  | some j =>
    let s1 := s.proxySend u i 6 epn true 0 [3, 0, 0]
    match (s.kcl.proxies.getD j ⟨i, addr, epn, 3, 0, .asked, 0, 0⟩).st with
    | .data => (s1.modProxy j fun p => { p with st := .asked, len := 0 }).upAnswer u .data
    | _ => (s1.inc R.KL_ISO_LATE_CNT).upAnswer u .data

/-- A start-split (`per` for a periodic one) to slot i (R425). -/
def proxyStart (s : State) (u i addr epn : Nat) (dirIn : Bool) (len : Nat) (per : Bool) : State :=
  let y := if per then (s.up u).mfCount + 2 else 0
  let r := s.proxyOpen u ⟨i, addr, epn, 4, dirIn.toNat, .asked, len, y⟩ dirIn (if dirIn then 0 else len)
  if per then r.1 else r.1.upAnswer u (if r.2 then .ack else .nak)

/-- A complete-split to slot i (R425): NYET until a result is held. -/
def proxyComplete (s : State) (u i epn : Nat) : State :=
  match s.proxyIdx i epn 4 with
  | none => s.upAnswer u .err
  | some j =>
    match s.kcl.proxies[j]? with
    | none => s
    | some p =>
      match p.st with
      | .asked => s.upAnswer u .nyet
      | .data => (s.freeProxy j).upAnswer u .data
      | .ack => (s.freeProxy j).upAnswer u .ack
      | .nak => (s.freeProxy j).upAnswer u .nak
      | .stall => (s.freeProxy j).upAnswer u .stall
      | .nyet => s.upAnswer u .nyet
      | .error => (s.freeProxy j).upAnswer u .err

/-- Codes of a result: 1 data, 2 NAK, 3 STALL, 4 ACK, 5 NYET, 6 ERROR. -/
def resultOf (r : Nat) : ProxySt :=
  match r with
  | 1 => .data
  | 2 => .nak
  | 3 => .stall
  | 4 => .ack
  | 5 => .nyet
  | _ => .error

/-- The owner has carried out a request on Dn and returns its result (R424): IN data is metered where it enters (R124), carried with its
colour, and a red mark holds the endpoint here, where its device is (R130, R418). [log 36: DEDUCED] -/
def proxyResult (s : State) (n kind epn : Nat) (dirIn : Bool) (pid res len : Nat) : State :=
  match s.presenter n with
  | none => s
  | some c =>
    match s.linkFor c 0 with
    | none => s
    | some v =>
      let l := if res = 1 ∧ dirIn = true then len else 0
      let e := if l = 0 then (s, 0) else s.epLookup n (s.get (P_PORTST.ADDR n)) epn dirIn
      let m := if l = 0 then (e.1, Colour.none, 0) else e.1.meterBoth (e.1.stageA e.2 n true) (193 + 2 * v) l .green (e.1.neverRed e.2)
      let s1 := if m.2.1 = .red then m.1.holdBegin m.2.2 e.2 l 2 none else m.1
      s1.toLinkQueue n v
        { src := n, kind := if kind = 3 then 6 else 5, cls := if kind = 3 then 1 else 2, chip := c + 1, port := n, epn := epn
          dirIn := dirIn, len := l, w := wordsOf l, written := wordsOf l, colour := m.2.1, toHost := true, args := [kind, pid, res] }

/-- An endpoint of Dn is in red hold: what a host asks of it meanwhile is answered NAK (R130). [log 62: DEDUCED] -/
def proxyHeld (s : State) (n epn : Nat) (dirIn : Bool) : Bool :=
  match s.epFind n (s.get (P_PORTST.ADDR n)) epn dirIn with
  | some e => (s.holdOf (e + 1)).isSome
  | none => false

/-- A request or a result of a PROXY frame reaches its part. At the owner `res` is what Dn's device answers after up to three
attempts; at the presenter it is the result carried. Late results are discarded (R432). -/
def proxyArrive (s : State) (gchip port epn : Nat) (dirIn toHost : Bool) (kind pid res len : Nat) : State :=
  if toHost then
    match s.slotFor gchip port with
    | none => s
    | some i =>
      match s.proxyIdx i epn kind with
      | none => s
      | some j =>
        if kind = 2 ∧ res ≠ 3 ∧ res ≠ 6 then s.freeProxy j
        else s.modProxy j fun p =>
          if p.st = .asked then
            let late := decide (0 < p.y) && decide (p.y + 2 < (s.up (s.slot i).tree).mfCount)
            { p with st := if late then .error else resultOf res, pid := if kind = 0 then pid else p.pid, len := len }
          else p
  else if s.dsHere port then
    if s.proxyHeld port epn dirIn then s.proxyResult port kind epn dirIn pid 2 0
    else if s.ps port = Ps.enabled ∧ s.on (P_PORTST.SS_LINK port) = false then
      (s.emit (.usb2 port .forward)).proxyResult port kind epn dirIn pid res len
    else s.proxyResult port kind epn dirIn pid 6 0
  else s

end State

open State

/-! ### PORTOP frames -/

/-- PRES_REQ of the owner `gchip` for its port, naming tree t, hub h, logical port l and the owner's LAT (R415), and whether the port has
a SuperSpeed PHY (R44, log 20). -/
def execPresReq (u seq dest gchip port t h l : Nat) (own : OwnerPort) (s : State) : Res State :=
  act s fun s => s.portopIn u seq dest [opPresReq, gchip, port, t, h, l, own.lat, own.ss.toNat] fun s =>
    let c := s.presCause gchip port t h l own.lat
    if c = 0 then s.presAccept gchip port t h l own.lat own.ss
    else (s.inc R.KL_PRES_REJ_CNT).presReply gchip opPresNak port c

/-- PRES_ACK for port n, with the presenter's LAT (R416). -/
def execPresAck (u seq dest n lat : Nat) (s : State) : Res State :=
  act s fun s => s.portopIn u seq dest [opPresAck, n, lat] fun s =>
    match (s.port n).presTo with
    | some (c, _, _, _) =>
      if s.get (KL_PRES.STATE n) = 1 then
        let own := match s.reach c with | some r => r.lat | none => 0
        let s1 := (s.modPort n fun p => { p with presAck := true, presLat := lat }).set (KL_PRES.LAT n) (min 8191 (max own lat))
        if (s.port n).move = .newBoundary then s1.presentPort n else s1
      else s
    | none => s

/-- PRES_NAK for port n with a cause (R416). -/
def execPresNak (u seq dest n cause : Nat) (s : State) : Res State :=
  act s fun s => s.portopIn u seq dest [opPresNak, n, cause] fun s =>
    if (s.port n).presTo.isSome ∧ s.get (KL_PRES.STATE n) ≠ 0 then
      let s1 := if s.get (KL_PRES.STATE n) = 2 then s.hidePort n 8 else s
      ((s1.set (KL_PRES.STATE n) 4).set (KL_PRES.CAUSE n) cause).modPort n fun p => { p with presAck := false }
    else s

/-- PRES_END of the owner `gchip` for its port (R416). -/
def execPresEnd (u seq dest gchip port : Nat) (s : State) : Res State :=
  act s fun s => s.portopIn u seq dest [opPresEnd, gchip, port] fun s =>
    match s.slotFor gchip port with
    | some i => s.freeSlot i
    | none => s

/-- PORT_ST of the owner `gchip` (R419, R421): the slot shows the port as it is; a wake is handled as one of a local port, on SuperSpeed
with a connect or disconnect judged by the slot's PORT_REMOTE_WAKE_MASK (R173). A WAKE_COLLIDED record names the tree's upstream port,
for the waking port is not of this part. [log 62: DEDUCED] -/
def execPortSt (u seq dest gchip port st speed ss chg : Nat) (wake : Bool) (s : State) : Res State :=
  act s fun s => s.portopIn u seq dest [opPortSt, gchip, port, st, speed, ss, chg, wake.toNat] fun s =>
    match s.slotFor gchip port with
    | none => s
    | some i =>
      let e := s.slot i
      let s1 := s.modSlot i fun x => { x with st := (st, speed, ss, chg) }
      let here := decide (Ps.disabled ≤ st) && decide (st ≤ Ps.suspended)
      let was := decide (Ps.disabled ≤ e.st.1) && decide (e.st.1 ≤ Ps.suspended)
      let s2 := if here then s1 else s1.slotGone i
      if !wake then s2
      else if ss = 1 ∨ e.st.2.2.1 = 1 then
        if here = was ∨ e.wakeMask.testBit (if here then 0 else 1) = true then s2.u3Wake e.tree else s2
      else if s2.get (U_LPST.HS_STATE e.tree) = Hs.resuming then s2.logOpen 0x02 0x03 (96 + e.tree)
      else if s2.chainAsleep e.tree e.hub && s2.chainAllows e.tree e.hub then
        (if s2.get (U_LPST.HS_STATE e.tree) = Hs.driving then s2
         else if s2.hsAsleep e.tree then s2.modUp e.tree fun x => { x with wakePend := true } else s2.bhWake e.tree e.hub)
      else s2

/-- PORT_CMD for port n of this part (R419): carried out as if it came from its own tree, and answered; a test of L1 is answered
when the device has responded. -/
def execPortCmd (u seq dest n code val : Nat) (s : State) : Res State :=
  act s fun s => s.portopIn u seq dest [opPortCmd, n, code, val] fun s =>
    match s.presenter n, Req.ofCode code val with
    | some c, some r =>
      let s1 := s.portReq n r
      if code = 8 then
        (if (s1.port n).l1Ask.isSome then s1 else s1.portOp c [opPortRsp, n, s1.get (P_LPST.L1_RESULT n)])
      else s1.portOp c [opPortRsp, n, 0]
    | _, _ => s

/-- PORT_RSP of the owner `gchip` for its port (R419): the host's request completes; a refused test of L1 with STALL. -/
def execPortRsp (u seq dest gchip port res : Nat) (s : State) : Res State :=
  act s fun s => s.portopIn u seq dest [opPortRsp, gchip, port, res] fun s =>
    match s.slotFor gchip port with
    | none => s
    | some i =>
      match s.kcl.ops.find? fun o => o.1 == i with
      | none => s
      | some o => (s.modKcl fun k => { k with ops := k.ops.erase o }).emit (.ctl o.2 (decide (res ≠ 5)) [res])

/-- TREE_EVT of chip `c` about its tree t (R420). -/
def execTreeEvt (u seq dest c t ev : Nat) (s : State) : Res State :=
  act s fun s => s.portopIn u seq dest [opTreeEvt, c, t, ev] fun s =>
    (s.portsOfChip c t).foldl (fun s n => s.treeEvtPort ev n) s

/-- SOF_SYNC of chip `c` for its tree t (R420): presented ports take the frame number, and their SOF and keep-alives follow. -/
def execSofSync (u seq dest c t frame : Nat) (s : State) : Res State :=
  act s fun s => s.portopIn u seq dest [opSofSync, c, t, frame] fun s =>
    (s.portsOfChip c t).foldl (fun s n =>
      let s1 := s.modPort n fun p => { p with frame := frame }
      if s.ps n = Ps.enabled ∧ s.get (P_LPST.SUSP_KIND n) = Susp.none ∧ s.on (P_PORTST.SS_LINK n) = false then
        s1.emit (.usb2 n (if s.get (P_PORTST.SPEED n) = 1 then .eop else .sof))
      else s1) s

/-- Every 1 ms SOF_SYNC goes to each owner chip with slots in a tree (R420). -/
def execSofSyncSend (s : State) : Res State :=
  act s fun s =>
    if s.kOn then
      s.hostFacing.foldl (fun s u =>
        let chips := ((s.slotsIn u).map fun i => (s.slot i).chip).eraseDups
        chips.foldl (fun s c => s.portOp c [opSofSync, s.get KL_ID.ID, u, (s.up u).frame]) s) s
    else s

/-- No answer to a PRES_REQ within 10 ms + 2 × LAT (R416). -/
def execPresNoAnswer (n : Nat) (s : State) : Res State :=
  act s fun s =>
    if s.get (KL_PRES.STATE n) = 1 ∧ (s.port n).presAck = false then (s.set (KL_PRES.STATE n) 4).set (KL_PRES.CAUSE n) 9 else s

/-- A refused presentation asks again every 1 s (R416). -/
def execPresReqRetry (n : Nat) (s : State) : Res State :=
  act s fun s => if s.kOn && decide (s.get (KL_PRES.STATE n) = 4) then s.presAsk n else s

/-- No PORT_RSP within 20 ms for a request on slot i (R419). -/
def execPortopTimeout (i : Nat) (s : State) : Res State :=
  act s fun s =>
    match s.kcl.ops.find? fun o => o.1 == i with
    | none => s
    | some o =>
      ((s.modKcl fun k => { k with ops := k.ops.erase o }).emit (.ctl o.2 false [])).inc R.KL_PORTOP_TO_CNT

/-! ### Data -/

/-- Colour of a frame's header (R399): 3 is reserved; a link that runs KCL 1.0 carries none. -/
def frameColour (s : State) (u colour : Nat) : Colour :=
  if s.on (KL_LST.VER u) then (match colour with | 1 => .yellow | 2 => .red | _ => .green) else .green

/-- A DATA frame on link u for chip `dest`: GEID of chip `gchip`, its port, endpoint and direction; colour, poison tag and DIRN; the
packet's kind (0 transaction packet, 1 ACK, 2 data, 3 timestamp), VC1 or not, device address, length, sequence number and NumP
(R399, R400, R418, R423). -/
def execDataFrame (u seq dest gchip port epn : Nat) (dirIn : Bool) (colour : Nat) (poison toHost : Bool) (kind : Nat) (per : Bool)
    (addr len pseq numP : Nat) (s : State) : Res State :=
  act s fun s =>
    let l := if kind = 2 then len else 0
    (s.kAccept u seq (if per || decide (kind = 3) then 1 else 2) (16 + l) fun s =>
      let p : Packet :=
        { src := 100 + u, kind := kind, port := port, addr := addr, epn := epn, dirIn := dirIn, len := l, poison := poison
          w := if kind = 2 then wordsOf l else 3, written := if kind = 2 then wordsOf l else 3, numP := numP
          colour := if kind = 2 then frameColour s u colour else .none, seq := pseq, cls := if per then 1 else if kind = 2 then (if epn = 0 then 0 else 2) else 4
          owner := gchip + 1, toHost := toHost }
      if s.toMe dest then
        if toHost then s.toGroup u gchip p
        else if kind = 3 then s.itpFromLink u p
        else s.toOwned u port p pseq
      else s.kTransit u dest p).gatesRefresh

/-- Policer of the exit of proxied data at this part (R125, R418): the aggregate of the host's port, or the endpoint's on Dn. -/
def proxyExit (s : State) (u gchip port epn : Nat) (dirIn toHost : Bool) : Nat :=
  if toHost then
    match s.slotFor gchip port with
    | some i => 193 + 2 * (s.slot i).tree
    | none => 192 + 2 * u
  else
    match s.epFind port (s.get (P_PORTST.ADDR port)) epn dirIn with
    | some e => s.stageA (e + 1) port false
    | none => s.stageA 0 port false

/-- A PROXY frame on link u (R424, R425): a request to the owner (`toHost` false), or a result to the presenter; `kind` 0 IN,
1 OUT or PING, 2 SETUP, 4 split; colour and poison tag of its header. A poisoned request or result counts as one that failed.
[log 36: DEDUCED; log 62: DEDUCED] -/
def execProxyFrame (u seq dest gchip port epn : Nat) (dirIn toHost : Bool) (kind pid res : Nat) (body : FrameData) (s : State) :
    Res State :=
  act s fun s =>
    (s.kAccept u seq 2 (16 + body.len) fun s =>
      let p : Packet :=
        { src := 100 + u, kind := 5, cls := 2, port := port, epn := epn, dirIn := dirIn, len := body.len, w := wordsOf body.len
          written := wordsOf body.len, owner := gchip + 1, toHost := toHost, args := [kind, pid, res], colour := frameColour s u body.colour
          poison := body.poison }
      if s.toMe dest then
        ((s.kMeter u (proxyExit s u gchip port epn dirIn toHost) p).1.kDrop u p).proxyArrive gchip port epn dirIn toHost kind pid
          (if body.poison then 6 else res) body.len
      else s.kTransit u dest p).gatesRefresh

/-- An ISOPF frame on link u (R426): a prefetch request or OUT data to the owner, or data to the presenter, which poison spoils. -/
def execIsopfFrame (u seq dest gchip port epn : Nat) (dirIn toHost : Bool) (body : FrameData) (s : State) : Res State :=
  act s fun s =>
    (s.kAccept u seq 1 (16 + body.len) fun s =>
      let p : Packet :=
        { src := 100 + u, kind := 6, cls := 1, port := port, epn := epn, dirIn := dirIn, len := body.len, w := wordsOf body.len
          written := wordsOf body.len, owner := gchip + 1, toHost := toHost, args := [3, 0, 1], colour := frameColour s u body.colour
          poison := body.poison }
      if s.toMe dest then
        let s1 := (s.kMeter u (proxyExit s u gchip port epn dirIn toHost) p).1.kDrop u p
        if body.poison then s1
        else if toHost then
          match s1.slotFor gchip port with
          | none => s1
          | some i => match s1.proxyIdx i epn 3 with
            | some j => s1.modProxy j fun x => { x with st := .data, len := body.len }
            | none => s1
        else if s1.dsHere port && (s1.presenter port).isSome then
          if dirIn then s1.modPort port fun x => { x with prefetch := (x.prefetch.filter fun e => !(e.1 == epn)) ++ [(epn, 0)] }
          else s1.emit (.usb2 port .forward)
        else s1
      else s.kTransit u dest p).gatesRefresh

/-- A high-speed token of the host of tree u to address `addr` that names a remote slot (R424 to R426). `kind`: 0 IN, 1 OUT,
2 SETUP, 3 isochronous IN, 4 isochronous OUT, 5 PING, 6 start-split, 7 periodic start-split, 8 complete-split; `ack` when the host
acknowledges IN data. -/
def execProxyHostToken (u addr epn kind pid len : Nat) (dirIn ack : Bool) (s : State) : Res State :=
  act s fun s => s.atU u fun s =>
    let t := if addr = 0 then (s.up u).target0 else ((s.up u).routes.find? fun e => e.1 == addr).map (·.2)
    match t with
    | some (.remote i) =>
      if !(s.slotShown i) then s
      else (match kind with
        | 0 => s.afterSetup u i epn fun s => s.proxyInToken u i addr epn ack
        | 1 => s.afterSetup u i epn fun s => s.proxyOutToken u i addr epn pid len false
        | 2 => s.proxySetup u i addr epn len
        | 3 => s.proxyIsoIn u i addr epn
        | 4 => s.proxySend u i 6 epn false len [3, pid, 0]
        | 5 => s.afterSetup u i epn fun s => s.proxyOutToken u i addr epn pid 0 true
        | 6 => s.proxyStart u i addr epn dirIn len false
        | 7 => s.proxyStart u i addr epn dirIn len true
        | 8 => s.proxyComplete u i epn
        | _ => s).gatesRefresh
    | _ => s

/-- An interval of a prefetched endpoint of Dn (R426): the IN is performed and its `len` bytes sent, unless 8 intervals have passed
without a host token. -/
def execIsoPrefetchPoll (n epn len : Nat) (s : State) : Res State :=
  act s fun s =>
    match (s.port n).prefetch.find? fun e => e.1 == epn with
    | none => s
    | some e =>
      if 8 ≤ e.2 then s.modPort n fun p => { p with prefetch := p.prefetch.filter fun x => !(x.1 == epn) }
      else
        let s1 := s.modPort n fun p => { p with prefetch := p.prefetch.map fun x => if x.1 = epn then (epn, x.2 + 1) else x }
        ((s1.emit (.usb2 n .forward)).proxyResult n 3 epn true 0 1 len).gatesRefresh

/-- Proxy entry j has seen no token of the host for 100 ms (R425). -/
def execProxyEntryTimeout (j : Nat) (s : State) : Res State :=
  act s fun s => if j < s.kcl.proxies.length then s.freeProxy j else s

end Sys2Proof.Machine
end

