-- ==== Sys2Proof/Machine/Fabric.lean ====
section
/-!
DEFINITION. The register fabric (chapter 15): what a register reads, who may write which field, and the guard.

An address is a 24-bit register byte address (R465). Every access answers in `fab.rc` and, for a read, in `fab.data`.
-/

namespace Sys2Proof.Machine

/-- A signed value as a 32-bit word. -/
def word32 (x : Int) : Nat := (x % 2 ^ 32).toNat

/-- The first of two results in the order of R471. -/
def RC.worse (a b : RC) : RC :=
  let rank : RC → Nat := fun
    | .badAlign => 0 | .badWidth => 1 | .unmapped => 2 | .wrongState => 3 | .range => 4 | .locked => 5
    | .guard => 6 | .priv => 7 | .pend => 8 | .ok => 9
  if rank a ≤ rank b then a else b

/-- a[21:0]: the register address (R465). [log 21: DEDUCED] -/
def regOf (a : Nat) : Nat := a % 2 ^ 22

/-- a[22]: the guard image. -/
def isGuard (a : Nat) : Bool := a.testBit 22

/-- The `_LO` of a marked pair (R510): TB, the fault summary, and the byte counters. -/
def pairLo (a : Nat) : Bool :=
  decide (a = R.G_TB_LO) || decide (a = R.FC_SUMMARY_LO) || match regAt a with
    | some (r, _) => decide (r.kind = 2)
    | none => false

/-- The registers that stay reachable while the root clock is absent (R458). -/
def clockless (a : Nat) : Bool :=
  (decide (0x4000 ≤ a) && decide (a < 0xC000)) ||
    [R.G_MODE, R.G_MODE_CTL, R.G_SAFE_ST, R.G_RST_CAUSE, R.G_LOG_HEAD, R.G_LOG_IDX, R.G_LOG_REC 0, R.G_LOG_REC 1, R.G_LOG_REC 2,
      R.G_LOG_REC 3].contains a

namespace State

/-! ### Absent units (R6, R502, R509) -/

/-- The register at address a belongs to an absent unit or port. -/
def absent (s : State) (a : Nat) : Bool :=
  if 0x100000 ≤ a then !(s.kHere ((a - 0x100000) / 0x400))
  else
    decide (s.variant = .klh4800) && (
      (decide (0x30000 ≤ a) && decide (a < 0x40000)) ||
      (decide (R.G_SB_CFG 8 ≤ a) && decide (a ≤ R.G_SB_CFG 15)) ||
      (decide (R.BSN_SG_CAP 6 ≤ a) && decide (a < R.BSN_SG_CAP 12)) ||
      (decide (R.BSN_SG_EMPTY_CNT 6 ≤ a) && decide (a < R.BSN_SG_EMPTY_CNT 12)) ||
      (decide (R.BSN_TS 10 ≤ a) && decide (a ≤ R.BSN_TS 11)) ||
      (decide (R.TM_DRR_Q 48 ≤ a) && decide (a ≤ R.TM_DRR_Q 95)) ||
      (decide (R.TM_PL_CFG 96 ≤ a) && decide (a < R.TM_PL_CFG 192)) ||
      (decide (R.TM_PL_CFG 196 ≤ a) && decide (a < R.TM_PL_CFG 200)) ||
      (decide (R.TM_SH_SLOPE 48 ≤ a) && decide (a < R.TM_SH_SLOPE 96)) ||
      (decide (R.TM_SH_SLOPE 98 ≤ a) && decide (a < R.TM_SH_SLOPE 100)))

/-! ### Registers whose value is computed (R491) -/

/-- Domain of R484 in which a staged field waits. -/
def domainOf (s : State) (a : Nat) : Nat :=
  let tree := fun (t : Option Nat) => match t with | some u => 200 + u | none => 204
  let ofX := fun (x : Nat) => if x < 96 then tree (s.treeOf x) else 200 + (x - 96)
  if 0x100000 ≤ a then
    let k := (a - 0x100000) / 0x400; let o := (a - 0x100000) % 0x400
    if 0x200 ≤ o then k else if 0x100 ≤ o then 100 + k else ofX k
  else if 0xC0000 ≤ a then tree (s.treeOf (s.epPort ((a - 0xC0000) / 8)))
  else if 0x46000 ≤ a then tree (s.treeOf ((a - 0x46000) / 4))
  else if 0x44000 ≤ a then ofX ((a - 0x44000) / 0x40)
  else if 0x40000 ≤ a then
    let p := (a - 0x40000) / 0x40
    if p < 192 then tree (s.treeOf (p / 2)) else 200 + (p - 192) / 2
  else if 0x30400 ≤ a then
    let g := Tbl.get s.kcl.grps {} ((a - 0x30400) / 0x10)
    if g.used then 200 + g.tree else 204
  else 200 + (a - 0x30100) / 0x40

/-- G_APPLY_PEND[i] (R484). -/
def applyPend (s : State) (i : Nat) : Nat :=
  let ds := (s.staged.map fun e => s.domainOf (e.1 / 32)).eraseDups
  ((List.range 32).map fun j => if ds.contains (32 * i + j) then 2 ^ j else 0).sum

/-- Word j of the record in slot c (R494). -/
def logWord (s : State) (c j : Nat) : Nat :=
  let r := Tbl.get s.log.slots {} c
  match j with
  | 0 => r.time % 2 ^ 32
  | 1 => r.kind * 2 ^ 24 + r.code * 2 ^ 16 + r.time / 2 ^ 32 % 65536
  | 2 => r.arg0 % 2 ^ 32
  | _ => r.arg1 % 2 ^ 32

/-- FC_SUMMARY as 64 bits (R520). -/
def summary (s : State) : Nat := ((List.range 64).map fun i => if s.fltOn i then 2 ^ i else 0).sum

/-- P_CAP[n], 0 for an absent port (R5). -/
def pCap (s : State) (n : Nat) : Nat :=
  if !(s.kHere n) then 0 else if hasSs s.variant then 0xFF else 0xFB

/-- KL_RT_DATA for the chip in KL_RT_IDX (R433). -/
def rtData (s : State) : Nat :=
  match s.primary (s.get KL_RT_IDX.CHIP) with
  | none => 0
  | some p =>
    2 ^ 31 + p.link * 2 ^ 29 + min p.lat 8191 * 2 ^ 13 + p.hops % 4096 +
      match s.spare (s.get KL_RT_IDX.CHIP) with
      | some q => 2 ^ 28 + q.link * 2 ^ 26
      | none => 0

/-- KL_RPT_DATA for the entry in KL_RPT_IDX (R433). -/
def rptData (s : State) : Nat :=
  let e := Tbl.get s.kcl.slots {} (s.get KL_RPT_IDX.ENTRY)
  if e.valid then
    2 ^ 31 + e.tree * 2 ^ 29 + e.hub * 2 ^ 26 + e.lport * 2 ^ 22 + e.port * 2 ^ 15 + e.chip * 8
  else 0

/-- KL_GRP_ST[g] (R434). -/
def grpSt (s : State) (g : Nat) : Nat :=
  let e := Tbl.get s.kcl.grps {} g
  if e.used then
    2 ^ 31 + e.tree * 2 ^ 29 + e.chip * 2 ^ 17 +
      min 127 (s.kcl.slots.filter fun x => x.2.valid && x.2.tree == e.tree && x.2.chip == e.chip).length
  else 0

/-- TK_MBX_ST (R346). -/
def mbxSt (s : State) : Nat :=
  (s.mbox 5).length * 2 ^ 23 + (s.mbox 4).length * 2 ^ 20 +
    ((List.range 4).map fun u => (s.mbox u).length * 2 ^ (5 * u)).sum

/-- Energy of a bucket in mJ. -/
def bucketMj (s : State) (g : Nat) : Nat := min 65535 (s.bucketOf g / 1000)

/-- Free entries of the endpoint table (R122). -/
def epStat (s : State) : Nat :=
  let free := 2048 - s.validEps.length
  (decide (free = 0)).toNat * 2 ^ 12 + free

/-- Ports READY (R450). -/
def readyCount (s : State) : Nat := ((List.range (dsPorts s.variant)).filter fun n => s.on (P_READY.READY n)).length

/-- The present value of BSN_OFF[i]. -/
def offWord (s : State) (i : Nat) : Nat := ((List.range 32).map fun j => if s.shedOff (32 * i + j) then 2 ^ j else 0).sum

/-- Address entries and tiers of tree u (R55): two tiers where it presents a back hub. -/
def treeExtra (s : State) (u : Nat) : Nat :=
  let x := s.up u
  (x.routes.length % 256) * 2 ^ 16 +
    (if s.get (U_TREEST.LINK u) = 0 ∨ s.isKcl u = true then 0 else if x.bhNow = 0 then 1 else 2) * 2 ^ 8

/-- OVER and CH_COUNT of U_MGMT[u] (R61). -/
def mgmtExtra (s : State) (u : Nat) : Nat :=
  let sel := ((List.range 16).filter fun c => (s.get (U_MGMT.CH_MASK u)).testBit c).length
  (decide (7 < sel)).toNat * 2 ^ 19 + (if (s.up u).mgmtNow then (s.channelsNow u).length % 8 else 0) * 2 ^ 16

/-- Word j of the head receive entry (R218). -/
def rxWord (s : State) (k j : Nat) : Nat := match (s.eng k).rx with | [] => 0 | e :: _ => e.getD j 0

/-- Registers, or parts of registers, that hold no stored field: address of index 0 and the value by index. -/
def computed : List (Nat × (State → Nat → Nat)) := [
  (R.G_CAP_UNITS, fun s _ => capUnits s.variant),
  (R.P_CAP 0, fun s n => s.pCap n),
  (R.G_MODE, fun s _ => s.modeWord),
  (R.G_TB_LO, fun s _ => s.tb % 2 ^ 32),
  (R.G_TB_HI, fun s _ => s.tb / 2 ^ 32 % 2 ^ 32),
  (R.G_APPLY_PEND 0, fun s i => s.applyPend i),
  (R.G_LOG_HEAD, fun s _ => s.log.count % 2 ^ 32),
  (R.G_LOG_REC 0, fun s i => s.logWord (s.get G_LOG_IDX.SLOT) i),
  (R.G_SAFE_ST, fun s _ => s.safeWord),
  (R.CD_QPTR 0, fun s q => (s.queue q).wr % (2 * s.qSize q) * 2 ^ 16 + (s.queue q).rd % (2 * s.qSize q)),
  (R.TK_TST 0, fun s t => s.tstWord t),
  (R.TK_MBX_ST, fun s _ => s.mbxSt),
  (R.BSN_CHIP_HEAD, fun s _ => word32 (s.head 13)),
  (R.BSN_SG_HEAD 0, fun s g => word32 (s.head g)),
  (R.BSN_UQ 0, fun s k => s.uqWord k),
  (R.BSN_OFF 0, fun s i => s.offWord i),
  (R.KL_RT_DATA, fun s _ => s.rtData),
  (R.KL_RPT_DATA, fun s _ => s.rptData),
  (R.KL_PROXY_ST, fun s _ => min 256 s.kcl.proxies.length),
  (R.KL_GRP_ST 0, fun s g => s.grpSt g),
  (R.FC_SUMMARY_LO, fun s _ => s.summary % 2 ^ 32),
  (R.FC_SUMMARY_HI, fun s _ => s.summary / 2 ^ 32),
  (R.TM_PL_TC 0, fun s p => (s.pol p).tc % 2 ^ 24),
  (R.TM_PL_TP 0, fun s p => min 255 (s.flow.holds.filter fun h => h.pol == p).length * 2 ^ 24 + (s.pol p).tp % 2 ^ 24),
  (R.TM_SH_CREDIT 0, fun s x => word32 (s.egress x).credit),
  (R.PD_RXW0 0, fun s k => s.rxWord k 0), (R.PD_RXW1 0, fun s k => s.rxWord k 1),
  (R.PD_RXW2 0, fun s k => s.rxWord k 2), (R.PD_RXW3 0, fun s k => s.rxWord k 3),
  (R.PD_RXW4 0, fun s k => s.rxWord k 4), (R.PD_RXW5 0, fun s k => s.rxWord k 5),
  (R.PD_RXW6 0, fun s k => s.rxWord k 6), (R.PD_RXW7 0, fun s k => s.rxWord k 7),
  (R.EP_STAT, fun s _ => s.epStat)]

/-- KL_MTX_CTL.BUSY: the last frame has not left (R433). -/
def mtxBusy (s : State) : Bool :=
  match s.kcl.mtx with
  | some f => s.klinks.any fun l => l.2.txq.contains f
  | none => false

/-- PP_ST.STATE of an idle upstream port in the sink role reads SINK once the part has left STRAP (R281); CMD_OFF reads 1 on a port that SHED
powered off (R261). [log 54: DEDUCED] -/
def ppExtra (s : State) (k : Nat) : Nat :=
  if 96 ≤ k ∧ s.mode ≠ .off ∧ s.mode ≠ .hold ∧ s.mode ≠ .strap ∧ s.dieUp k = true ∧ s.ppState k = Pp.off ∧ s.on (PD_ST.PWR_ROLE k) = false then Pp.sink * 2 ^ 28
  else if s.shedOff k && !(s.on (PP_ST.CMD_OFF k)) then 2 ^ 15 else 0

/-- Computed fields that stand beside stored ones. [log 54: DEDUCED] -/
def computedPart : List (Nat × (State → Nat → Nat)) := [
  (R.G_READY, fun s _ => s.readyCount * 2 ^ 24),
  (R.BSN_CHIP_ST, fun s _ => s.bucketMj 13),
  (R.BSN_SG_ST 0, fun s g => s.bucketMj g),
  (R.BSN_SHED_ST, fun s _ => (s.bsn.offOrder.length % 256) * 2 ^ 16),
  (R.U_TREEST 0, fun s u => s.treeExtra u),
  (R.U_MGMT 0, fun s u => s.mgmtExtra u),
  (R.PP_ST 0, fun s k => s.ppExtra k),
  (R.KL_MTX_CTL, fun s _ => s.mtxBusy.toNat * 2 ^ 27)]

/-- The entry for a base address. -/
def byBase {α : Type} (l : List (Nat × α)) (b : Nat) : Option α := (l.find? fun e => e.1 == b).map (·.2)

/-- A field whose value a master sees; command fields read 0, and RWP fields read 0 to unprivileged masters (R471). -/
def fieldSeen (priv : Bool) (f : FieldRow) : Bool :=
  match f.acc with
  | .cmd => false
  | .cmdp => false
  | .rwp => priv
  | _ => true

/-- The register r[i] at address a, as a master reads it. -/
def regWord (s : State) (r : RegRow) (i a : Nat) (priv : Bool) : Nat :=
  match r.kind with
  | 1 => s.cnt a
  | 2 => Tbl.get s.bytes 0 a % 2 ^ 32
  | 3 => Tbl.get s.bytes 0 (a - 4) / 2 ^ 32
  | _ =>
    match byBase computed r.base with
    | some f => f s i
    | none =>
      ((r.fields.filter (fieldSeen priv)).map fun f => s.get (f.fld a i) * 2 ^ f.lo).sum +
        match byBase computedPart r.base with
        | some f => f s i
        | none => 0

/-! ### Protection of configuration (R476 to R481) -/

/-- Critical fields (R477): base address and lowest bits. -/
def critical : List (Nat × List Nat) := [
  (R.P_MAP 0, [30, 16, 12, 8, 4]),
  (R.P_TC_CFG 0, [(P_TC_CFG.CRADLE 0).lo, (P_TC_CFG.MOIST_EN 0).lo]),
  (R.PP_TRIP 0, [(PP_TRIP.FT_RUN 0).lo, (PP_TRIP.FT_RAMP 0).lo, (PP_TRIP.ST_LIMIT 0).lo]),
  (R.PP_STAGE 0, [(PP_STAGE.RSHUNT 0).lo, (PP_STAGE.GATE_RISE 0).lo, (PP_STAGE.GAIN 0).lo]),
  (R.PP_CFG 0, [(PP_CFG.RETRIES 0).lo, (PP_CFG.FAULT_T 0).lo]),
  (R.PD_CFG 0, [(PD_CFG.EN 0).lo, (PD_CFG.EPR_EN 0).lo, (PD_CFG.MAX_PWR 0).lo]),
  (R.BSN_CHIP_CAP, [0, 16]),
  (R.BSN_SG_CAP 0, [0, 16]),
  (R.BSN_SHED_CTL, [0]),
  (R.G_PROT, [0])]

/-- The field is stored in three copies now (R476). -/
def votedFld (s : State) (r : RegRow) (f : FieldRow) : Bool :=
  (s.on G_PROT.PROT_SEL || decide (r.base = R.G_PROT)) && ((byBase critical r.base).getD []).contains f.lo

/-- A stored writable field. -/
def storedFld (f : FieldRow) : Bool :=
  match f.acc with
  | .rw => true
  | .rwa => true
  | .rwp => true
  | _ => false

/-- Fields of a register that a check covers: voted ones, or those under parity. -/
def checkedFields (s : State) (r : RegRow) (voted : Bool) : List FieldRow :=
  r.fields.filter fun f => storedFld f && s.votedFld r f == voted

/-- PP_CMD[k] at address a carries the command-off state: voted, or under parity (R477). -/
def cmdOffAt (s : State) (r : RegRow) (voted : Bool) : Bool := decide (r.base = R.PP_CMD 0) && s.on G_PROT.PROT_SEL == voted

/-- Some field of the register is covered by this kind of check. -/
def covers (s : State) (r : RegRow) (voted : Bool) : Bool := !(s.checkedFields r voted).isEmpty || s.cmdOffAt r voted

/-- One copy differed (R478): rewritten, counted, recorded, F10. -/
def voteFix (s : State) (a : Nat) (m : Option Master) : State :=
  ((s.inc R.G_VOTE_CORR_CNT).regRecBy 5 a m).faultOnset 10 0 a

/-! ### Writing fields -/

/-- A value written into a field under its access code: RWA is staged (R482). -/
def putField (s : State) (f : FieldRow) (a i v : Nat) : State :=
  match f.acc with
  | .rwa => s.stage (f.fld a i) (v / 2 ^ f.lo)
  | _ => s.set (f.fld a i) (v / 2 ^ f.lo)

/-- The fields any master writes: RW and RWA. -/
def openFields (r : RegRow) : List FieldRow :=
  r.fields.filter fun f =>
    match f.acc with
    | .rw => true
    | .rwa => true
    | _ => false

/-- The RWP fields. -/
def privFields (r : RegRow) : List FieldRow := r.fields.filter fun f => decide (f.acc = .rwp)

/-- The register has a part that only privileged masters write (R486). -/
def hasPriv (r : RegRow) : Bool :=
  r.fields.any fun f =>
    match f.acc with
    | .rwp => true
    | .cmdp => true
    | _ => false

/-- Write a list of fields. -/
def putFields (s : State) (l : List FieldRow) (a i v : Nat) : State := l.foldl (fun s f => s.putField f a i v) s

/-- What follows from new settings of a queue or of Basin. [log 21: DEDUCED] -/
def settle (s : State) (r : RegRow) (i : Nat) : State :=
  if r.base = R.CD_QTHR 0 ∨ r.base = R.CD_QWM 0 then s.qRefresh i
  else if 0x20000 ≤ r.base ∧ r.base < 0x30000 then s.basinRefresh
  else s

/-- Bits [31:4] of TM_SH_FORGIVE[3] name no shaper. -/
def wrForgive (s : State) (i v : Nat) : State :=
  ((List.range 32).filter fun j => v.testBit j && decide (32 * i + j < 100)).foldl (fun s j => s.forgive (32 * i + j)) s

/-- Registers whose RW part is more than storage: base address and meaning. -/
def openWrites : List (Nat × (State → Master → Nat → Nat → State)) := [
  (R.CD_QCTL 0, fun s _ q v => if v % 2 = 1 then s.wrFlush q else s.answer .ok),
  (R.TM_SH_FORGIVE 0, fun s _ i v => (s.wrForgive i v).answer .ok),
  (R.G_SB_CFG 0, fun s _ c v => (s.wrSbCfg c v).answer .ok),
  (R.PD_NEXT 0, fun s _ k v => s.wrPdNext k v),
  (R.KL_UCFG 0, fun s _ u v => (s.wrUcfg u (16 * s.get (KL_UCFG.MODE u) + v % 2)).answer .ok),
  (R.FC_WDOG, fun s _ _ v => (if v / 2 ^ 31 % 2 = 1 then s.kick else s).answer .ok),
  (R.SV_ATB, fun s _ _ v => s.wrAtb v),
  (R.G_FUSE_KEY 0, fun s m i v => s.wrFuse m i v),
  (R.G_FUSE_CFG, fun s m _ v => s.wrFuse m 8 v)]

/-- The part of a write that acts at once for every master (R486, R487). -/
def writeOpen (s : State) (m : Master) (r : RegRow) (i a v : Nat) : State :=
  match byBase openWrites r.base with
  | some f => f s m i v
  | none => if openFields r = [] then s.answer .ok else ((s.putFields (openFields r) a i v).settle r i).answer .ok

/-- A session holds Dn, and another master writes its commands (R544). -/
def heldAgainst (s : State) (k : Nat) (m : Master) : Bool :=
  decide (k < 96) && (s.get (SV_HOLD.HOLD (k / 32))).testBit (k % 32) && decide (m ≠ .console)

/-- A write of PP_CMD[k] (R276, R544). -/
def wrPpCmd (s : State) (m : Master) (k v : Nat) : State :=
  let c := v % 8
  if c = 0 ∨ 4 < c then s.answer .ok
  else if s.heldAgainst k m then s.ppRefuse k
  else match c with
    | 1 => s.ppOn k
    | 2 => s.ppOff k
    | 3 => s.ppRelease k
    | _ => s.ppClear k

/-- A write of PD_CMD[k] (R242). -/
def wrPdCmd (s : State) (k v : Nat) : State :=
  match v % 8 with
  | 1 => s.pdHardReset k
  | 2 => s.pdCableReset k
  | 3 => s.pdTxGo k
  | 4 => s.pdRxPop k
  | _ => s.answer .ok

/-- Events whose TK_EVROUTE byte exists (R346). -/
def routedEvent (e : Nat) : Bool := !(decide (e < 4) || decide (e = 14) || (decide (16 ≤ e) && decide (e < 116)) || decide (216 ≤ e))

/-- A write of TK_EVROUTE[i]; reserved bytes stay 0. -/
def wrEvRoute (s : State) (i v : Nat) : State :=
  (List.range 4).foldl (fun s j =>
    if routedEvent (4 * i + j) then
      (s.set (TK_EVROUTE.EN i j) (v / 2 ^ (8 * j + 7))).set (TK_EVROUTE.THREAD i j) (v / 2 ^ (8 * j))
    else s) s

/-- A write of the RWP part of KL_CFG: an engine switched off leaves its links, one switched on looks for peers again. [log 35: DEDUCED] -/
def wrKlCfg (s : State) (v : Nat) : State :=
  let was := s.on KL_CFG.EN
  let s1 := ((s.set KL_CFG.EN (v / 2 ^ 31)).set KL_CFG.ID_MODE (v / 2 ^ 29)).set KL_CFG.FIXED_ID v
  let us := List.range (usPorts s.variant)
  if was && !(s1.on KL_CFG.EN) then
    us.foldl (fun s u => if s.isKcl u then (s.leaveUp u Kl.off).setPort (96 + u) (U_TREEST.LINK u) 0 else s) s1
  else if !was && s1.on KL_CFG.EN then
    us.foldl (fun s u => s.wrUcfg u (16 * s.get (KL_UCFG.MODE u) + s.get (KL_UCFG.VER11 u))) s1
  else s1

/-! ### Management frames a master sends (R429, R433) -/

/-- Body bytes in KL_MTX_W. [log 20: DESIGN CHOICE] -/
def mtxBody (s : State) (len : Nat) : List Nat :=
  (List.range len).map fun i => s.get (KL_MTX_W.DATA (i / 4)) / 256 ^ (i % 4) % 256

/-- A write of KL_MTX_CTL sends the frame: refused while BUSY, out of range above MCODE 4 or 60 bytes. REG_RD, REG_WR and MBX wait
for an answer. [log 20: DESIGN CHOICE] -/
def mgmtSend (s : State) (v : Nat) : State :=
  let dest := v / 2 ^ 12 % 4096; let mc := v / 2 ^ 8 % 16; let len := v % 64
  if s.mtxBusy then (s.set KL_MTX_CTL.RESULT 1).answer .wrongState
  else if 4 < mc ∨ 60 < len then (s.set KL_MTX_CTL.RESULT 2).answer .range
  else
    let s1 := (((s.set KL_MTX_CTL.DEST dest).set KL_MTX_CTL.MCODE mc).set KL_MTX_CTL.LEN len).set KL_MTX_CTL.RESULT 0
    let f : KFrame := ⟨8, 0, dest, len, [if s.numbered then s.get KL_ID.ID else 0, 0, mc] ++ s.mtxBody len⟩
    let s2 := s1.modKcl fun k =>
      { k with mtx := some f, reqs := if mc = 0 ∨ mc = 1 ∨ mc = 3 then k.reqs ++ [(dest, mc)] else k.reqs }
    let s3 := if mc = 3 then s2.modKcl fun k =>
      { k with mbxBusy := (k.mbxBusy.filter fun b => !(b.1 == dest)) ++ [(dest, s.mtxBody len, false)] } else s2
    (s3.kRoute f).answer .ok

/-! ### Counter reset (R493) -/

/-- The log record of a counter reset (R494). -/
def cntRec (s : State) (m : Master) (a cmd pre : Nat) : State := s.regRec 9 a m (cmd * 2 ^ 8 + pre * 2 ^ 12)

/-- The counter at a, or the byte counter pair at a, becomes 0. -/
def clearAt (s : State) (kind a : Nat) : State :=
  { s with cnts := if kind = 1 then Tbl.set s.cnts 0 a 0 else s.cnts
           bytes := if kind = 2 then Tbl.set s.bytes 0 a 0 else s.bytes }

/-- Every counter whose address p holds of becomes 0. -/
def clearWhere (s : State) (p : Nat → Bool) : State :=
  { s with cnts := s.cnts.filter fun e => !(p e.1)
           bytes := s.bytes.filter fun e => !(p e.1) }

/-- CLEAR_ONE. -/
def clearOne (s : State) (m : Master) : State :=
  let a := 4 * s.get G_CNT_ADDR.ADDR
  match regAt a with
  | some (r, _) =>
    if r.kind = 1 ∨ r.kind = 2 then
      (((s.clearAt r.kind a).set G_CNT_CTL.RESULT 0).cntRec m a 1 0).answer .ok
    else (s.set G_CNT_CTL.RESULT 2).answer .range
  | none => (s.set G_CNT_CTL.RESULT 2).answer .range

/-- The counter at address a carries prefix p. -/
def hasPrefix (p a : Nat) : Bool := match regAt a with | some (r, _) => r.prefixCode == p | none => false

/-- CLEAR_PREFIX. -/
def clearPrefix (s : State) (m : Master) (p : Nat) : State :=
  if 12 < p then (s.set G_CNT_CTL.RESULT 2).answer .range
  else
    (((s.clearWhere (hasPrefix p)).set G_CNT_CTL.RESULT 0).cntRec m R.G_CNT_CTL 2 p).answer .ok

/-- CLEAR_ALL. -/
def clearAll (s : State) (m : Master) : State :=
  (((s.clearWhere fun _ => true).set G_CNT_CTL.RESULT 0).cntRec m R.G_CNT_CTL 3 0).answer .ok

/-- A write of G_CNT_CTL. -/
def wrCntCtl (s : State) (m : Master) (v : Nat) : State :=
  let s1 := s.set G_CNT_CTL.PREFIX (v / 2 ^ 8)
  match v % 8 with
  | 1 => s1.clearOne m
  | 2 => s1.clearPrefix m (v / 2 ^ 8 % 16)
  | 3 => s1.clearAll m
  | _ => s1.answer .ok

/-- Registers whose RWP part is more than storage. -/
def privWrites : List (Nat × (State → Master → Nat → Nat → State)) := [
  (R.P_MAP 0, fun s _ n v => (s.wrPMap n v).answer .ok),
  (R.CD_QCFG 0, fun s _ q v => s.wrQcfg q v),
  (R.CD_PROT, fun s _ _ v => s.wrProt v),
  (R.P_TC_CFG 0, fun s _ n v => ((s.set (P_TC_CFG.MOIST_EN n) (v / 2 ^ 6)).wrCradle n (v / 2 ^ 7 % 2)).answer .ok),
  (R.P_TC_CMD 0, fun s m n v =>
    if v % 4 = 0 then s.answer .ok
    else if s.heldAgainst n m then (s.inc (R.P_TC_REJ_CNT n)).answer .wrongState else s.wrTcCmd n v),
  (R.PD_CMD 0, fun s _ k v => s.wrPdCmd k v),
  (R.PP_CMD 0, fun s m k v => s.wrPpCmd m k v),
  (R.BSN_CHIP_CAP, fun s _ _ v => (s.wrCap 13 v).answer .ok),
  (R.BSN_SG_CAP 0, fun s _ g v => (s.wrCap g v).answer .ok),
  (R.BSN_BRD_CFG 0, fun s _ j v => (s.wrBoardCfg j v).answer .ok),
  (R.BSN_SHED_CTL, fun s _ _ v => (s.wrShedLevel (v % 8)).answer .ok),
  (R.TK_TCTL 0, fun s _ t v => s.wrTctl t (v % 8)),
  (R.TK_EVROUTE 0, fun s _ i v => (s.wrEvRoute i v).answer .ok),
  (R.G_BOOT_CTL, fun s m _ v => if v % 2 = 1 ∨ m = .boot then s.confirm else s.answer .ok),
  (R.G_UPD_CTL, fun s m _ v => s.wrUpdCtl m (v % 8)),
  (R.KL_CFG, fun s _ _ v => (s.wrKlCfg v).answer .ok),
  (R.KL_MTX_CTL, fun s _ _ v => s.mgmtSend v),
  (R.KL_UCFG 0, fun s _ u v => (s.wrUcfg u (16 * (v / 16 % 4) + s.get (KL_UCFG.VER11 u))).answer .ok),
  (R.G_MODE_CTL, fun s _ _ v => if v % 8 = 2 then s.cmdRelease else s.wrModeCtl (v % 8)),
  (R.G_CNT_CTL, fun s m _ v => s.wrCntCtl m v),
  (R.FC_REACT 0, fun s _ j v => s.wrReact j v),
  (R.FC_CMD, fun s _ _ v => s.wrFcCmd (v % 8)),
  (R.FC_SW, fun s _ _ v => (s.wrSw (v % 256)).answer .ok),
  (R.FC_INJ, fun s _ _ v => s.wrInj v)]

/-- The RWP part of a write, as a privileged write makes it (R486). -/
def writePriv (s : State) (m : Master) (r : RegRow) (i a v : Nat) : State :=
  match byBase privWrites r.base with
  | some f => f s m i v
  | none => ((s.putFields (privFields r) a i v).settle r i).answer .ok

/-! ### Parity (R479) -/

/-- The register's fields of `l` return to their reset values and lose what is staged, as if that value had been written; F12, its
record and its count follow. -/
def parReset (s : State) (r : RegRow) (i a : Nat) (voted : Bool) (m : Option Master) : State :=
  let l := s.checkedFields r voted
  let v := (r.fields.map fun f => (if l.any (fun g => g.lo == f.lo) then f.rst i else s.get (f.fld a i)) * 2 ^ f.lo).sum
  let s1 := if (openFields r).any fun f => l.any fun g => g.lo == f.lo then s.writeOpen .boot r i a v else s
  let s2 := if (privFields r).any fun f => l.any fun g => g.lo == f.lo then s1.writePriv .boot r i a v else s1
  let s3 := l.foldl (fun s f => (s.set (f.fld a i) (f.rst i)).unstage (f.fld a i)) s2
  let s4 := if s.cmdOffAt r voted then (s3.set (PP_ST.CMD_OFF i) 0).refreshCause i else s3
  ((((s4.set G_PROT.LAST_ADDR (a / 4)).inc R.G_PAR_RST_CNT).regRecBy 4 a m).faultOnset 12 0 a).answer s.fab.rc

/-- The check of a configuration register on a read or by the scrub (R480): `found` is what it finds without an injection: 0 nothing,
1 one copy of three, 2 a parity mismatch, 3 three different copies. [log 21: DEDUCED] -/
def cfgCheck (s : State) (r : RegRow) (i a found : Nat) (m : Option Master) : State :=
  let one := decide (found = 1) || s.injMatches 10 (a / 4)
  let par := decide (found = 2) || s.injMatches 12 (a / 4)
  let s1 := if one && s.covers r true then s.voteFix a m else s
  let s2 := if par && s.covers r false then s1.parReset r i a false m else s1
  if decide (found = 3) && s.covers r true then s2.parReset r i a true m else s2

/-- Registers whose read shows a checked table, or a watched level (R112, R480, R497, R524): base address and effect. -/
def readEffects : List (Nat × (State → Nat → State)) := [
  (R.EP_KEY 0, fun s e => if s.injMatches 20 e then s.epParity e else s),
  (R.EP_MAP 0, fun s e => if s.injMatches 20 e then s.epParity e else s),
  (R.CD_QCFG 0, fun s q => s.qUse q),
  (R.CD_QST 0, fun s q => ((s.qUse q).watchSeen 1 q).watchSeen 2 q),
  (R.CD_QPTR 0, fun s q => s.qUse q),
  (R.CD_QTHR 0, fun s q => s.qUse q),
  (R.CD_QWM 0, fun s q => s.qUse q),
  (R.TM_PL_TC 0, fun s p => s.plUse p),
  (R.TM_PL_TP 0, fun s p => s.plUse p),
  (R.TM_SH_CREDIT 0, fun s x => s.shUse x),
  (R.TM_EG_ST 0, fun s x => s.watchSeen 3 x),
  (R.G_U0_ADMIT, fun s _ => s.watchSeen 4 0),
  (R.BSN_SG_ST 0, fun s g => (s.watchSeen 5 g).watchSeen 6 g),
  (R.BSN_CHIP_ST, fun s _ => (s.watchSeen 7 0).watchSeen 8 0),
  (R.PP_ST 0, fun s k => match regAt (R.PP_CMD k) with
    | some (r, i) => s.cfgCheck r i (R.PP_CMD k) 0 none
    | none => s)]

/-- Basin's accounts are checked on a read that shows them (F23, R524). -/
def accountsRead (s : State) (r : RegRow) : State :=
  if [R.BSN_CHIP_HEAD, R.BSN_SG_HEAD 0, R.BSN_CHIP_ST, R.BSN_SG_ST 0, R.BSN_CHG 0, R.BSN_UQ 0].contains r.base && s.injMatches 23 0
  then s.faultOnset 23 0 0 else s

/-- What a master's read of register r[i] does besides reading. -/
def readEffect (s : State) (r : RegRow) (i a : Nat) (m : Master) : State :=
  let s1 := (s.cfgCheck r i a 0 (some m)).accountsRead r
  match byBase readEffects r.base with
  | some f => f s1 i
  | none => s1

/-! ### Reads (R465 to R469) -/

/-- The privilege by which a master sees RWP fields. -/
def seesPriv (m : Master) : Bool := m.privileged

/-- An access to an address that names no register (R466). -/
def unmapped (s : State) (m : Master) (a : Nat) : State := ((s.accErr R.G_UNMAPPED_CNT 6 a m).answerData 0).answer .unmapped

/-- A misaligned access, or a byte or halfword write (R467). -/
def badAccess (s : State) (m : Master) (a : Nat) (r : RC) : State := ((s.accErr R.G_ACC_ERR_CNT 7 a m).answerData 0).answer r

/-- Same master, for snapshots and guard slots. -/
def dropSnap (s : State) (m : Master) (lo : Nat) : State :=
  s.modFab fun f => { f with snaps := f.snaps.filter fun x => !(sameMaster x.m m && x.lo == lo) }

/-- A `_LO` read keeps `_HI` for the master, in its one snapshot (R468). -/
def takeSnap (s : State) (m : Master) (lo hi : Nat) : State :=
  s.modFab fun f => { f with snaps := (f.snaps.filter fun x => !(sameMaster x.m m)) ++ [⟨m, lo, hi⟩] }

/-- The snapshot a master holds of the pair at lo. -/
def snapOf (s : State) (m : Master) (lo : Nat) : Option Nat :=
  (s.fab.snaps.find? fun x => sameMaster x.m m && x.lo == lo).map (·.hi)

/-- Present value of the register at a mapped address. -/
def valueAt (s : State) (a : Nat) (priv : Bool) : Nat :=
  match regAt a with
  | some (r, i) => s.regWord r i a priv
  | none => 0

/-- The 32-bit register at address a (alias resolved) as read by master m, with snapshots of pairs when `snap` (R468). -/
def readReg (s : State) (m : Master) (a : Nat) (snap : Bool) : State :=
  match regAt a with
  | none => s.unmapped m a
  | some (r, i) =>
    if s.pins.clockAbsent && !(clockless a) then (s.answerData 0).answer .wrongState
    else if s.absent a then s.answerData 0
    else
      let s1 := s.readEffect r i a m
      let v := s1.valueAt a (seesPriv m)
      if snap && pairLo a then (s1.takeSnap m a (s1.valueAt (a + 4) (seesPriv m))).answerData v
      else if snap && decide (4 ≤ a) && pairLo (a - 4) then
        (match s1.snapOf m (a - 4) with
          | some h => (s1.dropSnap m (a - 4)).answerData h
          | none => s1.answerData v)
      else (if pairLo a then s1.dropSnap m a else if decide (4 ≤ a) && pairLo (a - 4) then s1.dropSnap m (a - 4) else s1).answerData v

/-- A read of the guard address of register a: 0 (R465), with WRONG_STATE where the root clock is absent and R458 shuts the register out. -/
def readGuard (s : State) (a : Nat) : State :=
  if s.pins.clockAbsent && !(clockless a) then (s.answerData 0).answer .wrongState else s.answerData 0

/-- A 32-bit read (R465, R467). -/
def read32 (s : State) (m : Master) (a : Nat) : State :=
  if a % 4 ≠ 0 then s.badAccess m a .badAlign
  else if isGuard a then s.readGuard (regOf a)
  else s.readReg m (regOf a) true

/-- A byte or halfword read of width w: the lanes of the register, with no snapshot (R467, R468). -/
def readLane (s : State) (m : Master) (a w : Nat) : State :=
  if a % w ≠ 0 then s.badAccess m a .badAlign
  else if isGuard a then s.readGuard (regOf a - a % 4)
  else
    let s1 := s.readReg m (regOf a - a % 4) false
    if s1.fab.rc = .ok then s1.answerData (s1.fab.data / 256 ^ (a % 4) % 256 ^ w) else s1

/-- A 64-bit read (R468, R469): a marked pair at once, anything else as two reads with the first result other than OK. The data is the
lower word plus 2³² times the upper. -/
def read64 (s : State) (m : Master) (a : Nat) : State :=
  if a % 8 ≠ 0 then s.badAccess m a .badAlign
  else
    let s1 := s.read32 m a
    let hi := s1.valueAt (regOf a + 4) (seesPriv m)
    if pairLo (regOf a) && !(isGuard a) then
      (if s1.fab.rc = .ok then (s1.dropSnap m (regOf a)).answerData (s1.fab.data + 2 ^ 32 * hi) else s1)
    else
      let s2 := s1.read32 m (a + 4)
      (s2.answerData (s1.fab.data + 2 ^ 32 * s2.fab.data)).answer (if s1.fab.rc = .ok then s2.fab.rc else s1.fab.rc)

/-! ### Guard slots (R487 to R489) -/

/-- The slot a master holds. [log 22: DEDUCED] -/
def slotOf (s : State) (m : Master) : Option GuardSlot := s.fab.guards.find? fun g => sameMaster g.m m

/-- Empty a master's slot. -/
def slotDrop (s : State) (m : Master) : State :=
  s.modFab fun f => { f with guards := f.guards.filter fun g => !(sameMaster g.m m) }

/-- The slot holds a RELEASE (R489). -/
def isRelease (g : GuardSlot) : Bool := decide (g.addr = R.G_MODE_CTL) && decide (g.val % 8 = 2)

/-- A slot that was not completed: emptied, counted, recorded (R488). -/
def slotExpire (s : State) (g : GuardSlot) : State :=
  let s1 := s.slotDrop g.m
  if isRelease g then (s1.inc R.G_MODE_REJ_CNT).regRec 1 g.addr g.m 0
  else s1.privViol R.G_PRIV_VIOL_CNT 1 g.addr g.m

/-- Peers hold all eight slots of their pool, and this one has none. [log 22: DEDUCED] -/
def poolFull (s : State) (m : Master) : Bool :=
  match m with
  | .peer _ => (s.slotOf m).isNone && decide (8 ≤ (s.fab.guards.filter fun g => match g.m with | .peer _ => true | _ => false).length)
  | _ => false

/-- Step 1 of the guard: the RWP part is held, and a held slot of the same master is replaced. A
peer's write that finds its pool full is ignored with WRONG_STATE and counted nowhere, which the spec does not say.
[log 22: DEDUCED; log 60: DESIGN CHOICE] -/
def slotHold (s : State) (m : Master) (a v : Nat) : State :=
  if s.poolFull m then s.answer .wrongState
  else
    let s1 := match s.slotOf m with
      | some g => s.slotExpire g
      | none => s
    (s1.modFab fun f => { f with guards := f.guards ++ [⟨m, a, v⟩] }).answer .pend

/-- A user thread: it has no slot (R489). [log 22: DEDUCED] -/
def userThread (m : Master) : Bool :=
  match m with
  | .thread _ p => !p
  | _ => false

/-- The RWP part of a write by master m (R486, R487, R489). [log 22: DEDUCED] -/
def writeGuarded (s : State) (m : Master) (r : RegRow) (i a v : Nat) : State :=
  if !(hasPriv r) then s.answer .ok
  else if userThread m then (s.privViol R.G_PRIV_VIOL_CNT 1 a m).answer .priv
  else if decide (a = R.G_MODE_CTL) && decide (v % 8 = 2) then s.slotHold m a v
  else if m.privileged then s.writePriv m r i a v
  else s.slotHold m a v

/-- A write of the register is a command: the registers that carry a RESULT field (R470), flushes and FORGIVE. [log 47: DEDUCED] -/
def cmdReg (r : RegRow) : Bool :=
  [R.P_TC_CMD 0, R.PD_CMD 0, R.PP_CMD 0, R.TK_TCTL 0, R.G_UPD_CTL, R.KL_MTX_CTL, R.G_MODE_CTL, R.FC_CMD, R.FC_INJ, R.G_CNT_CTL,
    R.CD_QCTL 0, R.TM_SH_FORGIVE 0].contains r.base

/-- A write to a word of a marked pair is another access by the master: its snapshot of the pair goes (R468). -/
def writeSnap (s : State) (m : Master) (a : Nat) : State :=
  if pairLo a then s.dropSnap m a else if decide (4 ≤ a) && pairLo (a - 4) then s.dropSnap m (a - 4) else s

/-- A 32-bit write to a register address (R471): the open part at once, then the RWP part. A command of a
privileged master ends DORMANT (R176). [log 21: DEDUCED] -/
def writeReg (s : State) (m : Master) (a v : Nat) : State :=
  match regAt a with
  | none => s.unmapped m a
  | some (r, i) =>
    if s.pins.clockAbsent && !(clockless a) then s.answer .wrongState
    else if s.absent a then (s.inc R.G_ABSENT_WR_CNT).answer .ok
    else
      let s1 := (s.writeSnap m a).writeOpen m r i a v
      let s2 := s1.writeGuarded m r i a v
      let s3 := s2.answer (s1.fab.rc.worse s2.fab.rc)
      if m.privileged && cmdReg r && decide (s3.fab.rc = .ok) then s3.dormantExit else s3

/-- A write at the guard address of register a (R487, R488). -/
def writeComplement (s : State) (m : Master) (a v : Nat) : State :=
  match regAt a with
  | none => s.unmapped m a
  | some (r, i) =>
    if s.pins.clockAbsent && !(clockless a) then s.answer .wrongState
    else match s.slotOf m with
    | some g =>
      if g.addr = a ∧ v = 2 ^ 32 - 1 - g.val then ((s.slotDrop m).writePriv m r i a g.val)
      else ((s.slotDrop m).privViol R.G_GUARD_FAIL_CNT 2 a m).answer .guard
    | none => (s.privViol R.G_GUARD_FAIL_CNT 2 a m).answer .guard

/-- A 32-bit write (R465): the guard image, or the register. -/
def write32 (s : State) (m : Master) (a v : Nat) : State :=
  if a % 4 ≠ 0 then s.badAccess m a .badAlign
  else if isGuard a then s.writeComplement m (regOf a) v
  else s.writeReg m (regOf a) v

end State

end Sys2Proof.Machine
end

