-- ==== Sys2Proof/Machine/Registers.lean ====
section
/-!
DEFINITION. Register accesses as commands, the configuration scrub, counter resets and the writing of the event log (chapter 15,
R6), and the vendor requests of the hosts (R63, R64).
-/

namespace Sys2Proof.Machine

namespace State

/-! ### The event log (R495) -/

/-- The record has the kind, code and index of one written less than 100 µs ago, and may be coalesced. [log 23: DEDUCED] -/
def coalesces (s : State) (r : LogRec) : Bool :=
  decide (r.kind ≠ 0x0B) && decide (r.kind ≠ 0x0F) &&
    s.log.recent.any fun x => x.kind == r.kind && x.code == r.code && x.arg0 == r.arg0 && decide (s.timeUs < x.time + 100)

/-- The record is of interest to tree u: global, or about a port of the tree (R65). Records of kinds USB, TYPEC, PD and POWER are
about port ARG0, and so is PRES_SUSPEND. [log 23: DEDUCED] -/
def noticeFor (s : State) (r : LogRec) (u : Nat) : Bool :=
  if 0x02 ≤ r.kind ∧ r.kind ≤ 0x05 then
    (if 96 ≤ r.arg0 then decide (r.arg0 = 96 + u) else decide (s.treeOf r.arg0 = some u))
  else if r.kind = 0x09 ∧ r.code = 0x04 then decide (s.treeOf r.arg0 = some u)
  else true

/-- Copy a record to the notice path of tree u: at most 64 wait, the oldest gives way (R65). [log 23: DEDUCED] -/
def notice (s : State) (r : LogRec) (u : Nat) : State :=
  if (s.up u).mgmtNow && s.noticeFor r u then
    let l := (s.up u).notices ++ [r]
    if 64 < l.length then (s.modUp u fun x => { x with notices := l.drop 1 }).inc (R.U_NOTICE_DROP_CNT u)
    else s.modUp u fun x => { x with notices := l }
  else s

/-- The oldest waiting record is written, or coalesced; the LOG_DROP record follows once there is room. [log 23: DEDUCED] -/
def logStep (s : State) : State :=
  match s.log.wait with
  | [] => s
  | r :: rest =>
    let s1 := s.modLog fun l => { l with wait := rest }
    let s2 := if s.coalesces r then s1.inc R.G_LOG_COAL_CNT
      else
        (s1.modLog fun l => { l with
          slots := Tbl.set l.slots {} (l.count % 4096) r
          count := l.count + 1
          recent := { r with time := s.timeUs } :: l.recent.filter fun x => decide (s.timeUs < x.time + 100) }).allUps
            fun s u => s.notice r u
    if 0 < s2.log.dropped then
      ((s2.modLog fun l => { l with dropped := 0 }).logOpen 0x01 0x08 s2.log.dropped).faultOnset 11 0 0
    else s2

/-! ### Accesses that end in an error -/

/-- An access of width w (bytes) at address a that R467 refuses. -/
def accessCheck (s : State) (m : Master) (a w : Nat) (write : Bool) : State :=
  if a % w ≠ 0 then s.badAccess m a .badAlign
  else if write && decide (w < 4) then s.badAccess m a .badWidth
  else s

/-- A write of G_PROT.PROT_SEL (R481): mismatches found at the addresses of `bad` are handled under the old setting. -/
def wrProtSel (s : State) (v : Nat) (bad : List Nat) : State :=
  let s1 := bad.foldl (fun s a => match regAt a with
    | some (r, i) => s.cfgCheck r i a 2 none
    | none => s) s
  (s1.set G_PROT.PROT_SEL v).answer .ok

/-! ### Vendor requests of a host (R63, R64) -/

/-- Registers from address a, read in order; answers the words, and the first result other than OK with its index. -/
def hostReads (s : State) (u a n : Nat) : State × List Nat × (RC × Nat) :=
  (List.range n).foldl (fun (x : State × List Nat × (RC × Nat)) i =>
    let s1 := x.1.read32 (.host u) (a + 4 * i)
    (s1, x.2.1 ++ [s1.fab.data], if x.2.2.1 = .ok ∧ s1.fab.rc ≠ .ok then (s1.fab.rc, i) else x.2.2)) (s, [], (.ok, 0))

/-- Registers from address a, written in order. -/
def hostWrites (s : State) (u a : Nat) (l : List Nat) : State × (RC × Nat) :=
  (List.range l.length).foldl (fun (x : State × (RC × Nat)) i =>
    let s1 := x.1.write32 (.host u) (a + 4 * i) (l.getD i 0 % 2 ^ 32)
    (s1, if x.2.1 = .ok ∧ s1.fab.rc ≠ .ok then (s1.fab.rc, i) else x.2)) (s, (.ok, 0))

/-- wLength of a register request. -/
def regLen (len : Nat) : Bool := decide (4 ≤ len) && decide (len ≤ 64) && decide (len % 4 = 0)

/-- The management function of tree u takes the request. -/
def atMgmt (s : State) (u : Nat) (f : State → State) : State := s.atU u fun s => if (s.up u).mgmtNow then f s else s

end State

open State

/-- A write to a register of an absent unit or port (R6). -/
def execAbsentWrite (m : Master) (a v : Nat) (s : State) : Res State :=
  act s fun s => if s.absent (regOf a) && (regAt (regOf a)).isSome then s.write32 m a v else s

/-- A 32-bit write by any master at any address. -/
def execRegisterWrite (m : Master) (a v : Nat) (s : State) : Res State := act s fun s => s.write32 m a v

/-- A write at the guard address of register a. -/
def execGuardWrite (m : Master) (a v : Nat) (s : State) : Res State := act s fun s => s.write32 m (2 ^ 22 + regOf a) v

/-- 1 ms after step 1 (R488). -/
def execGuardExpiry (m : Master) (s : State) : Res State :=
  act s fun s => match s.slotOf m with
    | some g => s.slotExpire g
    | none => s

/-- A 32-bit read of the `_LO` of a marked pair. -/
def execPairLoRead (m : Master) (a : Nat) (s : State) : Res State :=
  act s fun s => if pairLo (regOf a) then s.read32 m a else s

/-- A 32-bit read at the synchronous alias of register a (R465, R474). -/
def execSyncAliasRead (m : Master) (a : Nat) (s : State) : Res State := act s fun s => s.read32 m (2 ^ 23 + regOf a)

/-- A 32-bit access to an address that names no register. -/
def execUnmappedAccess (m : Master) (a : Nat) (s : State) : Res State :=
  act s fun s => if (regAt (regOf a)).isNone then s.unmapped m (regOf a) else s

/-- An access of width w bytes that is misaligned, or a write narrower than a register. -/
def execAccessError (m : Master) (a w : Nat) (write : Bool) (s : State) : Res State :=
  act s fun s => s.accessCheck m a w write

/-- The scrub visits the register at address a (R480). -/
def execConfigScrub (a found : Nat) (s : State) : Res State :=
  act s fun s => match regAt a with
    | some (r, i) => if s.absent a then s else s.cfgCheck r i a found none
    | none => s

def execProtSelWrite (v : Nat) (bad : List Nat) (s : State) : Res State := act s fun s => s.wrProtSel v bad

def execClearOne (m : Master) (s : State) : Res State := act s fun s => s.clearOne m

def execClearPrefix (m : Master) (p : Nat) (s : State) : Res State :=
  act s fun s => (s.set G_CNT_CTL.PREFIX p).clearPrefix m p

def execClearAll (m : Master) (s : State) : Res State := act s fun s => s.clearAll m

def execLogRecordWrite (s : State) : Res State := act s logStep

/-- REG_READ of `len` bytes from address a. -/
def execRegRead (u a len : Nat) (s : State) : Res State :=
  act s fun s => s.atMgmt u fun s =>
    if regLen len then
      let (s1, d, e) := s.hostReads u a (len / 4)
      (s1.modUp u fun x => { x with last := e }).emit (.ctl u true d)
    else s.emit (.ctl u false [])

/-- REG_WRITE: the data stage is held, and the status stage issues the writes. [log 21: DEDUCED] -/
def execRegWrite (u a : Nat) (data : List Nat) (status : Bool) (s : State) : Res State :=
  act s fun s => s.atMgmt u fun s =>
    if regLen (4 * data.length) then
      if status then
        let w := ((s.up u).heldWrite).getD (a, data)
        let (s1, e) := (s.modUp u fun x => { x with heldWrite := none }).hostWrites u w.1 w.2
        (s1.modUp u fun x => { x with last := e }).emit (.ctl u true [])
      else s.modUp u fun x => { x with heldWrite := some (a, data) }
    else s.emit (.ctl u false [])

/-- GET_RESULT: the code in bytes 0 to 3, the index in bytes 4 to 7; with code OK no register is named, and the index is a free value.
[log 21: DEDUCED] -/
def execGetResult (u len : Nat) (s : State) : Res State :=
  act s fun s => s.atMgmt u fun s =>
    if len = 8 then
      if (s.up u).last.1 = .ok then s.freeNext.emit (.ctl u true [0, s.freeVal (2 ^ 32)])
      else s.emit (.ctl u true [(s.up u).last.1.code, (s.up u).last.2])
    else s.emit (.ctl u false [])

/-- LOG_READ from slot `slot` (R496). -/
def execLogRead (u slot len : Nat) (s : State) : Res State :=
  act s fun s => s.atMgmt u fun s =>
    if 16 ≤ len ∧ len ≤ 64 ∧ len % 16 = 0 then
      s.emit (.ctl u true ((List.range (len / 4)).map fun i => s.logWord ((slot + i / 4) % 4096) (i % 4)))
    else s.emit (.ctl u false [])

/-- A vendor request to the management function with an unknown bRequest, or with a wLength that its request does not take (R64). A
bRequest that TK_REQ_CFG places in the mailbox is not unknown (R336). -/
def execVendorRequestUnknown (u req len : Nat) (s : State) : Res State :=
  act s fun s => s.atMgmt u fun s =>
    let known := if req = 1 ∨ req = 2 then regLen len else if req = 3 then decide (len = 8)
      else if req = 4 then decide (16 ≤ len ∧ len ≤ 64 ∧ len % 16 = 0)
      else decide (s.vndFirst ≤ req) && decide (req ≤ s.get TK_REQ_CFG.VND_LAST)
    if known then s else s.emit (.ctl u false [])

end Sys2Proof.Machine
end

