-- ==== Sys2Proof/Machine/Mgmt.lean ====
section
/-!
DEFINITION. Management frames between parts: register access and mailboxes (R428, R429).

The layout of a frame's body is the model's own (log 20): REG_RD carries addresses, REG_WR address and value pairs, REG_RSP the
result codes and then the data, MBX its bytes, MBX_RSP 0 for OK and 1 for BUSY.
-/

namespace Sys2Proof.Machine

namespace State

/-- An own management frame, by route. -/
def mgmtTo (s : State) (mcode dest len : Nat) (body : List Nat) : State :=
  s.kRoute ⟨8, 0, dest, len, [if s.numbered then s.get KL_ID.ID else 0, 0, mcode] ++ body⟩

/-- A management frame of MCODE `mcode` arrives on link u: it is served here, or forwarded with one hop more; one that has
travelled 4,095 hops goes no further (R428). -/
def mgmtIn (s : State) (u seq dest src hops mcode len : Nat) (body : List Nat) (f : State → State) : State :=
  s.kAccept u seq 0 len fun s =>
    if s.toMe dest then f s
    else if hops = 4095 then s.inc R.KL_MGMT_HOP_CNT
    else s.kForward u ⟨8, 0, dest, len, [src, hops + 1, mcode] ++ body⟩

/-- Reads for a peer, in order: result codes and data. -/
def peerReads (s : State) (src : Nat) (addrs : List Nat) : State × List Nat × List Nat :=
  addrs.foldl (fun (x : State × List Nat × List Nat) a =>
    let s1 := x.1.read32 (.peer src) a
    (s1, x.2.1 ++ [s1.fab.rc.code], x.2.2 ++ [s1.fab.data])) (s, [], [])

/-- Writes for a peer, in order: result codes. -/
def peerWrites (s : State) (src : Nat) (pairs : List (Nat × Nat)) : State × List Nat :=
  pairs.foldl (fun (x : State × List Nat) p =>
    let s1 := x.1.write32 (.peer src) p.1 (p.2 % 2 ^ 32)
    (s1, x.2 ++ [s1.fab.rc.code])) (s, [])

/-- A frame's payload enters mailbox 5 with KIND 3, and event 9 is posted (R325, R429). [log 48: DEDUCED] -/
def mboxKcl (s : State) (data : List Byte) : State := (s.mboxAdd 5 3 0 (data.take 60)).postRouted 9

/-- Mailbox 5 holds its 16 entries. [log 48: DEDUCED] -/
def mboxFull (s : State) : Bool := decide (16 ≤ (s.mbox 5).length)

/-- A request toward chip c with one of these MCODEs is answered. -/
def reqDone (s : State) (c : Nat) (mcs : List Nat) : State :=
  match s.kcl.reqs.find? fun r => r.1 == c && mcs.contains r.2 with
  | some r => s.modKcl fun k => { k with reqs := k.reqs.erase r }
  | none => s

end State

open State

def execRegRd (u seq dest src hops : Nat) (addrs : List Nat) (s : State) : Res State :=
  act s fun s => s.mgmtIn u seq dest src hops Mc.regRd (4 * addrs.length) addrs fun s =>
    let (s1, codes, data) := s.peerReads src (addrs.take 15)
    s1.mgmtTo Mc.regRsp src (4 * (codes.length + data.length)) (codes ++ data)

def execRegWr (u seq dest src hops : Nat) (pairs : List (Nat × Nat)) (s : State) : Res State :=
  act s fun s => s.mgmtIn u seq dest src hops Mc.regWr (8 * pairs.length) (pairs.map (·.1) ++ pairs.map (·.2)) fun s =>
    let (s1, codes) := s.peerWrites src (pairs.take 7)
    s1.mgmtTo Mc.regRsp src (4 * codes.length) codes

/-- An answer to a REG_RD or REG_WR of this part: it waits for no one, so a full mailbox loses it. -/
def execRegRsp (u seq dest src hops : Nat) (data : List Byte) (s : State) : Res State :=
  act s fun s => s.mgmtIn u seq dest src hops Mc.regRsp data.length (data.map (·.toNat)) fun s =>
    let s1 := s.reqDone src [0, 1]
    if s1.mboxFull then s1 else s1.mboxKcl data

def execMbx (u seq dest src hops : Nat) (data : List Byte) (s : State) : Res State :=
  act s fun s => s.mgmtIn u seq dest src hops Mc.mbx data.length (data.map (·.toNat)) fun s =>
    if s.mboxFull then s.mgmtTo Mc.mbxRsp src 4 [1] else (s.mboxKcl data).mgmtTo Mc.mbxRsp src 4 [0]

/-- OK ends the request and arrives in mailbox 5; BUSY lets the MBX be sent again. -/
def execMbxRsp (u seq dest src hops : Nat) (busy : Bool) (s : State) : Res State :=
  act s fun s => s.mgmtIn u seq dest src hops Mc.mbxRsp 4 [busy.toNat] fun s =>
    if busy then
      s.modKcl fun k => { k with mbxBusy := k.mbxBusy.map fun b => if b.1 == src then (b.1, b.2.1, true) else b }
    else
      let s1 := (s.reqDone src [3]).modKcl fun k => { k with mbxBusy := k.mbxBusy.filter fun b => !(b.1 == src) }
      if s1.mboxFull then s1 else s1.mboxKcl (leBytes 0)

/-- 1 ms after BUSY from chip `dest`. -/
def execMbxRetry (dest : Nat) (s : State) : Res State :=
  act s fun s =>
    match s.kcl.mbxBusy.find? fun b => b.1 == dest && b.2.2 with
    | some b =>
      (s.modKcl fun k => { k with mbxBusy := k.mbxBusy.map fun x => if x.1 == dest then (x.1, x.2.1, false) else x }).mgmtTo Mc.mbx dest
        b.2.1.length b.2.1
    | none => s

/-- A privileged write of KL_MTX_CTL. -/
def execMgmtSend (v : Nat) (s : State) : Res State :=
  act s fun s => if hasKcl s.variant then s.mgmtSend v else (s.inc R.G_ABSENT_WR_CNT).answer .ok

/-- 10 ms + 2 × LAT without an answer of chip `dest` to a request of this MCODE. -/
def execMgmtRequestTimeout (dest mcode : Nat) (s : State) : Res State :=
  act s fun s =>
    if s.kcl.reqs.contains (dest, mcode) then
      (s.modKcl fun k => { k with
        reqs := k.reqs.erase (dest, mcode)
        mbxBusy := if mcode = 3 then k.mbxBusy.filter fun b => !(b.1 == dest) else k.mbxBusy }).inc R.KL_MGMT_TO_CNT
    else s

end Sys2Proof.Machine
end

