-- ==== Sys2Proof/Machine/Issue.lean ====
section
/-!
DEFINITION. How a thread issues an instruction: instruction words (R349 to R352), fetch (R319, R339), data memories and register
space (R317 to R321, R355), and what R311 makes a thread wait for.

An ISA command names the thread and the fields of its instruction. It acts where the thread is in RUN and its PC holds that very
word; in instruction ROM, whose content the spec does not give, the command stands for what the ROM holds there.
-/

namespace Sys2Proof.Machine

/-! ### Instruction words (R349) -/

/-- R format. -/
def wR (fn rd ra rb sh : Nat) : Nat := rd * 2 ^ 21 + ra * 2 ^ 16 + rb * 2 ^ 11 + sh * 2 ^ 6 + fn

/-- I and M formats; B format for a compare. -/
def wI (op r1 r2 imm : Nat) : Nat := op * 2 ^ 26 + r1 * 2 ^ 21 + r2 * 2 ^ 16 + imm

/-- B format for a jump. -/
def wJ (op rd off : Nat) : Nat := op * 2 ^ 26 + rd * 2 ^ 21 + off

/-- P format. -/
def wP (fn rd ra rb rc : Nat) : Nat := 0x3C * 2 ^ 26 + rd * 2 ^ 21 + ra * 2 ^ 16 + rb * 2 ^ 11 + rc * 2 ^ 6 + fn

/-- E format. -/
def wE (sub rd ra imm : Nat) : Nat := 0x3D * 2 ^ 26 + rd * 2 ^ 21 + ra * 2 ^ 16 + sub * 2 ^ 11 + imm

/-- The word is an R-format instruction of R353. -/
def legalR (fn rb sh : Nat) : Bool :=
  if [0x01, 0x02, 0x03, 0x04, 0x05, 0x08, 0x09, 0x0A, 0x10, 0x11, 0x14, 0x15].contains fn then decide (sh = 0)
  else if [0x0C, 0x0D, 0x0E].contains fn then decide (rb = 0)
  else if fn = 0x18 ∨ fn = 0x19 then true
  else decide (fn = 0x1C) && decide (rb = 0) && decide (sh = 0)

/-- The word is a primitive of R360. -/
def legalP (fn rb rc : Nat) : Bool :=
  if [0x01, 0x02, 0x03, 0x19, 0x21, 0x22, 0x29].contains fn then true
  else if [0x08, 0x09, 0x10, 0x11, 0x12, 0x18, 0x1C, 0x28].contains fn then decide (rc = 0)
  else decide (fn = 0x13 ∨ fn = 0x20) && decide (rb = 0) && decide (rc = 0)

/-- The word is an E-format instruction of R364. -/
def legalE (sub rd ra imm : Nat) : Bool :=
  match sub with
  | 0x01 => decide (ra = 0 ∧ imm = 0)
  | 0x02 => decide (ra = 0 ∧ imm = 0)
  | 0x04 => decide (rd = 0 ∧ imm < 8)
  | 0x05 => decide (rd = 0 ∧ imm < 8)
  | 0x06 => decide (ra = 0 ∧ imm < 8)
  | 0x07 => decide (ra = 0 ∧ imm < 8)
  | 0x08 => decide (rd = 0 ∧ imm < 8)
  | 0x09 => decide (ra = 0 ∧ imm < 4)
  | 0x10 => decide (rd = 0 ∧ ra = 0 ∧ imm < 256)
  | 0x11 => decide (rd = 0 ∧ ra = 0 ∧ imm = 0)
  | 0x12 => decide (ra = 0 ∧ imm = 0)
  | _ => false

/-- The word encodes an instruction; every other word raises ILLEGAL (R348, R350, R352, R357). [log 15: DEDUCED] -/
def legalWord (w : Nat) : Bool :=
  let op := w / 2 ^ 26 % 64; let rd := w / 2 ^ 21 % 32; let ra := w / 2 ^ 16 % 32
  let rb := w / 2 ^ 11 % 32; let rc := w / 2 ^ 6 % 32; let fn := w % 64
  if op = 0 then legalR fn rb rc
  else if op = 7 then decide (ra = 0)
  else if op ≤ 8 then true
  else if 0x10 ≤ op ∧ op ≤ 0x14 then true
  else if op = 0x15 then decide (rd % 2 = 0)
  else if 0x18 ≤ op ∧ op ≤ 0x1A then true
  else if 0x20 ≤ op ∧ op ≤ 0x25 then true
  else if op = 0x28 then true
  else if op = 0x3C then legalP fn rb rc
  else if op = 0x3D then legalE rb rd ra (w % 2 ^ 11)
  else false

/-! ### Values -/

/-- sext16. -/
def sext16 (v : Nat) : Word := (BitVec.ofNat 16 v).signExtend 32

/-- zext16. -/
def zext16 (v : Nat) : Word := BitVec.ofNat 32 (v % 65536)

/-- sext8. -/
def sext8 (v : Nat) : Word := (BitVec.ofNat 8 v).signExtend 32

/-- sext21. -/
def sext21 (v : Nat) : Word := (BitVec.ofNat 21 v).signExtend 32

/-- A number as a register holds it. -/
def w32 (v : Nat) : Word := BitVec.ofNat 32 v

/-- Little-endian value of n bytes from offset a. [log 5: DESIGN CHOICE] -/
def bytesAt (m : Tbl Byte) (a n : Nat) : Nat :=
  ((List.range n).map fun i => (Tbl.get m 0 (a + i)).toNat * 256 ^ i).sum

/-- n little-endian bytes of a value. -/
def valBytes (v n : Nat) : List Byte := (List.range n).map fun i => BitVec.ofNat 8 (v / 256 ^ i)

/-- Part of the memory map an access of w bytes lies in (R319); an access that leaves its region lies outside the map. -/
inductive Region where
  | imem | rom | data | loc | regs | none
deriving DecidableEq, Repr

/-- Region of a data access. [log 13: DEDUCED] -/
def regionAt (a w : Nat) : Region :=
  if a + w ≤ 0x40000 then .imem
  else if 0x40000 ≤ a ∧ a + w ≤ 0x50000 then .rom
  else if 0x10000000 ≤ a ∧ a + w ≤ 0x10020000 then .data
  else if 0x20000000 ≤ a ∧ a + w ≤ 0x20000400 then .loc
  else if 0x40000000 ≤ a ∧ a + w ≤ 0x41000000 then .regs
  else .none

namespace State

/-- The PC moves to the next instruction. -/
def nextPc (s : State) (t : Nat) : State := s.modThread t fun h => { h with pc := h.pc + 4 }

/-- A result and the next instruction. -/
def result (s : State) (t rd : Nat) (v : Word) : State := (s.setG t rd v).nextPc t

/-- The operation takes more than its issuing slot: the thread is in STALL until OPERATION_COMPLETE (R311). [log 16: DEDUCED] -/
def stallT (s : State) (t : Nat) : State := s.modThread t fun h => { h with state := .stall }

/-- The operation still runs: no reset or STOP of the operation's own making has taken the thread away. -/
def stalled (s : State) (t : Nat) : Bool := decide ((s.thread t).state = .stall)

/-- A use of Torik memory i at address a is checked (R321, R525): 0 instruction memory, 1 instruction ROM, 2 shared data.
[log 15: DEDUCED] -/
def checked (s : State) (t i a : Nat) (f : State → State) : State :=
  if s.injMatches 14 i then
    ((s.exception t Ex.memerr (s.thread t).pc a).inc R.TK_MEM_UNCORR_CNT).faultOnset 14 i (a / 4)
  else if s.injMatches 13 i then
    let s1 := (s.inc R.TK_MEM_CORR_CNT).faultOnset 13 i (a / 4)
    if (s1.thread t).state = .run then f s1 else s1
  else f s

/-- A read of thread t's local memory is checked: parity (R321, F16). -/
def checkedLoc (s : State) (t a : Nat) (f : State → State) : State :=
  if s.injMatches 16 t then (s.threadMemErr t a).faultOnset 16 t (a / 4) else f s

/-- Thread t fetches at its PC and issues the instruction whose word is w (R339, R351, R367). [log 14: DESIGN CHOICE; log 15: DEDUCED] -/
def issue (s : State) (t w : Nat) (f : State → State) : State :=
  let h := s.thread t; let a := h.pc.toNat
  if h.state ≠ .run then s
  else if a % 4 ≠ 0 then s.exception t Ex.ifetch h.pc a
  else match regionAt a 4 with
    | .imem => if bytesAt s.tk.imem a 4 = w then s.checked t 0 a f else s
    | .rom => if h.priv then s.checked t 1 a f else s.exception t Ex.ifetch h.pc a
    | _ => s.exception t Ex.ifetch h.pc a

/-- The thread as a bus master. -/
def tMaster (s : State) (t : Nat) : Master := .thread t (s.thread t).priv

/-- The result of the thread's register access is noted (R320). -/
def setLres (s : State) (t : Nat) : State :=
  if s.stalled t then s.modThread t fun h => { h with lres := s.fab.rc } else s

/-- An access of w bytes lies in the user window (R318, R345). -/
def inWindow (s : State) (t a w : Nat) : Bool :=
  let size := 2 ^ (min (s.get (TK_UWIN.SIZE t)) 9 + 8)
  let base := s.get (TK_UWIN.BASE t) / size * size
  (s.thread t).priv || (decide (0x10000000 + base ≤ a) && decide (a + w ≤ 0x10000000 + base + size))

/-- Read `n` values below 256 that the spec leaves open. [log 6: DESIGN CHOICE; log 14: DESIGN CHOICE] -/
def freeBytes (s : State) (n : Nat) : List Byte := (List.range n).map fun i => BitVec.ofNat 8 (Config.free (s.freeCtr + i))

/-- Take n free values. [log 6: DESIGN CHOICE] -/
def freeTake (s : State) (n : Nat) : State := { s with freeCtr := s.freeCtr + n }

/-- A register access by a thread: `acc` makes it, BAD_WIDTH and BAD_ALIGN raise REGERR, and any other result completes (R320). -/
def regAccess (s : State) (t a : Nat) (acc : State → State) (k : State → State) : State :=
  let pc := (s.thread t).pc
  let s1 := acc (s.stallT t)
  let s2 := s1.setLres t
  if s1.fab.rc = .badWidth ∨ s1.fab.rc = .badAlign then s2.exception t Ex.regerr pc a
  else if s2.stalled t then k s2 else s2

/-- Read from register space at offset a: one register, lanes of one, or a pair (R356, R357). -/
def regLoad (s : State) (m : Master) (a w : Nat) : State :=
  match w with
  | 8 => s.read64 m a
  | 4 => s.read32 m a
  | _ => s.readLane m a w

/-- Write to register space at offset a (R356): 32 bits, else BAD_WIDTH or BAD_ALIGN. -/
def regStore (s : State) (m : Master) (a w v : Nat) : State :=
  if w = 4 then s.write32 m a v else s.accessCheck m a w true

/-- A load of w bytes at address a; `k` takes the little-endian value and finishes (R317 to R321, R356, R367).
[log 13: DEDUCED; log 14: DESIGN CHOICE] -/
def load (s : State) (t a w : Nat) (k : State → Nat → State) : State :=
  let h := s.thread t
  if !h.priv && decide (a < 0x50000) then s.exception t Ex.priv h.pc a
  else match regionAt a w with
    | .none => s.exception t Ex.daccess h.pc a
    | .regs =>
      s.regAccess t a (fun s => s.regLoad (s.tMaster t) (a - 0x40000000) w) fun s => k s s.fab.data
    | .imem =>
      if a % w ≠ 0 then s.exception t Ex.dalign h.pc a
      else s.checked t 0 a fun s => k (s.stallT t) (bytesAt s.tk.imem a w)
    | .rom =>
      if a % w ≠ 0 then s.exception t Ex.dalign h.pc a
      else s.checked t 1 a fun s =>
        k ((s.freeTake w).stallT t) (((List.range w).map fun i => Config.free (s.freeCtr + i) % 256 * 256 ^ i).sum)
    | .data =>
      if !(s.inWindow t a w) then s.exception t Ex.daccess h.pc a
      else if a % w ≠ 0 then s.exception t Ex.dalign h.pc a
      else s.checked t 2 a fun s => k s (bytesAt s.tk.dmem (a - 0x10000000) w)
    | .loc =>
      if a % w ≠ 0 then s.exception t Ex.dalign h.pc a
      else s.checkedLoc t a fun s => k s (bytesAt (s.thread t).loc (a - 0x20000000) w)

/-- Bytes into shared data memory or thread t's local memory. -/
def putBytes (s : State) (t a : Nat) (l : List Byte) : State :=
  if a < 0x20000000 then s.modTk fun x => { x with dmem := loadBytes x.dmem (a - 0x10000000) l }
  else s.modThread t fun h => { h with loc := loadBytes h.loc (a - 0x20000000) l }

/-- Bytes of shared data memory or thread t's local memory. -/
def getBytes (s : State) (t a n : Nat) : List Byte :=
  (List.range n).map fun i =>
    if a < 0x20000000 then Tbl.get s.tk.dmem 0 (a - 0x10000000 + i) else Tbl.get (s.thread t).loc 0 (a - 0x20000000 + i)

/-- A store of the low w bytes of v at address a (R317 to R320, R356, R357). [log 13: DEDUCED] -/
def store (s : State) (t a w v : Nat) : State :=
  let h := s.thread t
  if !h.priv && decide (a < 0x40000) then s.exception t Ex.priv h.pc a
  else match regionAt a w with
    | .none => s.exception t Ex.daccess h.pc a
    | .rom => s.exception t Ex.daccess h.pc a
    | .regs => s.regAccess t a (fun s => s.regStore (s.tMaster t) (a - 0x40000000) w v) fun s => s.nextPc t
    | .imem =>
      if !(s.on TK_CTL.IMEM_WE) then s.exception t Ex.daccess h.pc a
      else if a % w ≠ 0 then s.exception t Ex.dalign h.pc a
      else (s.modTk fun x => { x with imem := loadBytes x.imem a (valBytes v w) }).nextPc t
    | .data =>
      if !(s.inWindow t a w) then s.exception t Ex.daccess h.pc a
      else if a % w ≠ 0 then s.exception t Ex.dalign h.pc a
      else (s.putBytes t a (valBytes v w)).nextPc t
    | .loc =>
      if a % w ≠ 0 then s.exception t Ex.dalign h.pc a
      else (s.putBytes t a (valBytes v w)).nextPc t

/-- Address of an M-format instruction (R355). [log 13: DEDUCED] -/
def mAddr (s : State) (t ra off : Nat) : Nat := ((if ra = 0 then 0x20000000#32 else s.g t ra) + sext16 off).toNat

/-- An atomic operation on the word at address a: `f` gives its new value, and the old one goes to rd (R320, R330, R366). -/
def atomic (s : State) (t rd a : Nat) (f : Word → Word) : State :=
  let h := s.thread t
  let done := fun s : State =>
    let old := s.getBytes t a 4
    let v := BitVec.ofNat 32 ((List.range 4).map fun i => (old.getD i 0).toNat * 256 ^ i).sum
    (((s.stallT t).putBytes t a (valBytes (f v).toNat 4)).setG t rd v).nextPc t
  match regionAt a 4 with
  | .data =>
    if !(s.inWindow t a 4) then s.exception t Ex.daccess h.pc a
    else if a % 4 ≠ 0 then s.exception t Ex.dalign h.pc a
    else s.checked t 2 a done
  | .loc => if a % 4 ≠ 0 then s.exception t Ex.dalign h.pc a else s.checkedLoc t a done
  | _ => s.exception t Ex.daccess h.pc a

/-! ### Primitives (R330, R359) -/

/-- A primitive: its result goes to rd, and the thread is in STALL until it completes. A privileged one raises PRIV in user mode. -/
def prim (s : State) (t w rd : Nat) (sys : Bool) (f : State → State × Nat) : State :=
  s.issue t w fun s =>
    if sys && !(s.thread t).priv then s.exception t Ex.priv (s.thread t).pc 0
    else
      let r := f (s.stallT t)
      if r.1.stalled t then r.1.result t rd (w32 r.2) else r.1

/-- A refusal counted in TK_PRIM_REJ_CNT[t] (R330, R347). [log 17: DEDUCED] -/
def primRefuse (s : State) (t code : Nat) : State × Nat := (s.inc (R.TK_PRIM_REJ_CNT t), code)

/-- Local memory, 4-byte aligned, with room for n bytes (R363). -/
def localOk (a n : Nat) : Bool := decide (regionAt a n = .loc) && decide (a % 4 = 0)

/-- Shared data or local memory, 4-byte aligned, with room for n bytes (R363). -/
def memOk (a n : Nat) : Bool := decide (regionAt a n = .loc ∨ regionAt a n = .data) && decide (a % 4 = 0)

end State

end Sys2Proof.Machine
end

