-- ==== Sys2Proof/Machine/Alu.lean ====
section
/-!
DEFINITION. Torik's arithmetic, loads, stores, branches and jumps (R353 to R358).
-/

namespace Sys2Proof.Machine

/-! ### Pure operations -/

/-- Field of width w1 + 1 from bit sh, zero-extended (EXTU). -/
def extuW (a : Word) (sh w1 : Nat) : Word := BitVec.ofNat 32 (a.toNat / 2 ^ sh % 2 ^ (w1 + 1))

/-- Field of width w1 + 1 inserted at bit sh, in 64 bits and truncated (INS). -/
def insW (d a : Word) (sh w1 : Nat) : Word :=
  let m : BitVec 64 := BitVec.ofNat 64 (2 ^ (w1 + 1) - 1)
  (((d.setWidth 64) &&& ~~~(m <<< sh)) ||| (((a.setWidth 64) &&& m) <<< sh)).setWidth 32

/-- Leading zero bits (CLZ). -/
def clzW (a : Word) : Word := BitVec.ofNat 32 (((List.range 32).find? fun i => a.getLsbD (31 - i)).getD 32)

/-- 1 when the condition holds. -/
def flag (b : Bool) : Word := if b then 1 else 0

namespace State

/-- An instruction that writes one register from its sources. -/
def alu (s : State) (t w rd : Nat) (f : State → Word) : State := s.issue t w fun s => s.result t rd (f s)

/-- A branch: taken to PC + 4 + 4 × sext16(off16). -/
def branch (s : State) (t w off : Nat) (c : State → Bool) : State :=
  s.issue t w fun s =>
    if c s then s.modThread t fun h => { h with pc := h.pc + 4 + 4 * sext16 off } else s.nextPc t

/-- A jump: the link is written after the target is formed. -/
def jump (s : State) (t w rd : Nat) (target : State → Word) : State :=
  s.issue t w fun s =>
    let a := target s
    (s.setG t rd ((s.thread t).pc + 4)).modThread t fun h => { h with pc := a }

/-- A load of w bytes into rt through `ext`. -/
def loadTo (s : State) (t word rt ra off w : Nat) (ext : Nat → Word) : State :=
  s.issue t word fun s => s.load t (s.mAddr t ra off) w fun s v => s.result t rt (ext v)

/-- A store of w bytes of gs. -/
def storeFrom (s : State) (t word rt ra off w : Nat) : State :=
  s.issue t word fun s => s.store t (s.mAddr t ra off) w (s.g t rt).toNat

end State

open State

/-! ### ALU group (R353) -/

def execAdd (t rd ra rb : Nat) (s : State) : Res State :=
  act s fun s => s.alu t (wR 0x01 rd ra rb 0) rd fun s => s.g t ra + s.g t rb

def execSub (t rd ra rb : Nat) (s : State) : Res State :=
  act s fun s => s.alu t (wR 0x02 rd ra rb 0) rd fun s => s.g t ra - s.g t rb

def execAnd (t rd ra rb : Nat) (s : State) : Res State :=
  act s fun s => s.alu t (wR 0x03 rd ra rb 0) rd fun s => s.g t ra &&& s.g t rb

def execOr (t rd ra rb : Nat) (s : State) : Res State :=
  act s fun s => s.alu t (wR 0x04 rd ra rb 0) rd fun s => s.g t ra ||| s.g t rb

def execXor (t rd ra rb : Nat) (s : State) : Res State :=
  act s fun s => s.alu t (wR 0x05 rd ra rb 0) rd fun s => s.g t ra ^^^ s.g t rb

def execSll (t rd ra rb : Nat) (s : State) : Res State :=
  act s fun s => s.alu t (wR 0x08 rd ra rb 0) rd fun s => s.g t ra <<< ((s.g t rb).toNat % 32)

def execSrl (t rd ra rb : Nat) (s : State) : Res State :=
  act s fun s => s.alu t (wR 0x09 rd ra rb 0) rd fun s => s.g t ra >>> ((s.g t rb).toNat % 32)

def execSra (t rd ra rb : Nat) (s : State) : Res State :=
  act s fun s => s.alu t (wR 0x0A rd ra rb 0) rd fun s => (s.g t ra).sshiftRight ((s.g t rb).toNat % 32)

def execSlli (t rd ra sh : Nat) (s : State) : Res State :=
  act s fun s => s.alu t (wR 0x0C rd ra 0 sh) rd fun s => s.g t ra <<< sh

def execSrli (t rd ra sh : Nat) (s : State) : Res State :=
  act s fun s => s.alu t (wR 0x0D rd ra 0 sh) rd fun s => s.g t ra >>> sh

def execSrai (t rd ra sh : Nat) (s : State) : Res State :=
  act s fun s => s.alu t (wR 0x0E rd ra 0 sh) rd fun s => (s.g t ra).sshiftRight sh

def execSlt (t rd ra rb : Nat) (s : State) : Res State :=
  act s fun s => s.alu t (wR 0x10 rd ra rb 0) rd fun s => flag ((s.g t ra).slt (s.g t rb))

def execSltu (t rd ra rb : Nat) (s : State) : Res State :=
  act s fun s => s.alu t (wR 0x11 rd ra rb 0) rd fun s => flag ((s.g t ra).ult (s.g t rb))

def execMul (t rd ra rb : Nat) (s : State) : Res State :=
  act s fun s => s.alu t (wR 0x14 rd ra rb 0) rd fun s => s.g t ra * s.g t rb

def execMulhu (t rd ra rb : Nat) (s : State) : Res State :=
  act s fun s => s.alu t (wR 0x15 rd ra rb 0) rd fun s => w32 ((s.g t ra).toNat * (s.g t rb).toNat / 2 ^ 32)

def execExtu (t rd ra sh w1 : Nat) (s : State) : Res State :=
  act s fun s => s.alu t (wR 0x18 rd ra w1 sh) rd fun s => extuW (s.g t ra) sh w1

def execIns (t rd ra sh w1 : Nat) (s : State) : Res State :=
  act s fun s => s.alu t (wR 0x19 rd ra w1 sh) rd fun s => insW (s.g t rd) (s.g t ra) sh w1

def execClz (t rd ra : Nat) (s : State) : Res State :=
  act s fun s => s.alu t (wR 0x1C rd ra 0 0) rd fun s => clzW (s.g t ra)

/-! ### I format (R354) -/

def execAddi (t rd ra imm : Nat) (s : State) : Res State :=
  act s fun s => s.alu t (wI 0x01 rd ra imm) rd fun s => s.g t ra + sext16 imm

def execAndi (t rd ra imm : Nat) (s : State) : Res State :=
  act s fun s => s.alu t (wI 0x02 rd ra imm) rd fun s => s.g t ra &&& zext16 imm

def execOri (t rd ra imm : Nat) (s : State) : Res State :=
  act s fun s => s.alu t (wI 0x03 rd ra imm) rd fun s => s.g t ra ||| zext16 imm

def execXori (t rd ra imm : Nat) (s : State) : Res State :=
  act s fun s => s.alu t (wI 0x04 rd ra imm) rd fun s => s.g t ra ^^^ zext16 imm

def execSlti (t rd ra imm : Nat) (s : State) : Res State :=
  act s fun s => s.alu t (wI 0x05 rd ra imm) rd fun s => flag ((s.g t ra).slt (sext16 imm))

def execSltiu (t rd ra imm : Nat) (s : State) : Res State :=
  act s fun s => s.alu t (wI 0x06 rd ra imm) rd fun s => flag ((s.g t ra).ult (sext16 imm))

def execLui (t rd imm : Nat) (s : State) : Res State :=
  act s fun s => s.alu t (wI 0x07 rd 0 imm) rd fun _ => w32 (imm * 65536)

def execJalr (t rd ra imm : Nat) (s : State) : Res State :=
  act s fun s => s.jump t (wI 0x08 rd ra imm) rd fun s => s.g t ra + sext16 imm

/-! ### Loads and stores (R356, R357) -/

def execLb (t rt ra off : Nat) (s : State) : Res State := act s fun s => s.loadTo t (wI 0x10 rt ra off) rt ra off 1 sext8

def execLbu (t rt ra off : Nat) (s : State) : Res State := act s fun s => s.loadTo t (wI 0x11 rt ra off) rt ra off 1 w32

def execLh (t rt ra off : Nat) (s : State) : Res State := act s fun s => s.loadTo t (wI 0x12 rt ra off) rt ra off 2 sext16

def execLhu (t rt ra off : Nat) (s : State) : Res State := act s fun s => s.loadTo t (wI 0x13 rt ra off) rt ra off 2 w32

def execLw (t rt ra off : Nat) (s : State) : Res State := act s fun s => s.loadTo t (wI 0x14 rt ra off) rt ra off 4 w32

/-- LWP: an odd rt raises ILLEGAL; both words are written once the address is formed (R357). -/
def execLwp (t rt ra off : Nat) (s : State) : Res State :=
  act s fun s => s.issue t (wI 0x15 rt ra off) fun s =>
    if rt % 2 = 1 then s.exception t Ex.illegal (s.thread t).pc 0
    else s.load t (s.mAddr t ra off) 8 fun s v => (s.setG t rt (w32 v)).result t (rt + 1) (w32 (v / 2 ^ 32))

def execSb (t rt ra off : Nat) (s : State) : Res State := act s fun s => s.storeFrom t (wI 0x18 rt ra off) rt ra off 1

def execSh (t rt ra off : Nat) (s : State) : Res State := act s fun s => s.storeFrom t (wI 0x19 rt ra off) rt ra off 2

def execSw (t rt ra off : Nat) (s : State) : Res State := act s fun s => s.storeFrom t (wI 0x1A rt ra off) rt ra off 4

/-! ### Branches and jumps (R358) -/

def execBeq (t ra rb off : Nat) (s : State) : Res State :=
  act s fun s => s.branch t (wI 0x20 ra rb off) off fun s => s.g t ra == s.g t rb

def execBne (t ra rb off : Nat) (s : State) : Res State :=
  act s fun s => s.branch t (wI 0x21 ra rb off) off fun s => !(s.g t ra == s.g t rb)

def execBlt (t ra rb off : Nat) (s : State) : Res State :=
  act s fun s => s.branch t (wI 0x22 ra rb off) off fun s => (s.g t ra).slt (s.g t rb)

def execBge (t ra rb off : Nat) (s : State) : Res State :=
  act s fun s => s.branch t (wI 0x23 ra rb off) off fun s => !((s.g t ra).slt (s.g t rb))

def execBltu (t ra rb off : Nat) (s : State) : Res State :=
  act s fun s => s.branch t (wI 0x24 ra rb off) off fun s => (s.g t ra).ult (s.g t rb)

def execBgeu (t ra rb off : Nat) (s : State) : Res State :=
  act s fun s => s.branch t (wI 0x25 ra rb off) off fun s => !((s.g t ra).ult (s.g t rb))

def execJal (t rd off : Nat) (s : State) : Res State :=
  act s fun s => s.jump t (wJ 0x28 rd off) rd fun s => (s.thread t).pc + 4 + 4 * sext21 off

/-- A word that encodes no instruction raises ILLEGAL (R350). -/
def execIllegalEncoding (t w : Nat) (s : State) : Res State :=
  act s fun s => if legalWord w then s else s.issue t w fun s => s.exception t Ex.illegal (s.thread t).pc 0

end Sys2Proof.Machine
end

