-- ==== Sys2Proof/Machine/Prim.lean ====
section
/-!
DEFINITION. Torik's primitives (R330 to R338, R359 to R363).
-/

namespace Sys2Proof.Machine

namespace State

/-! ### Port resources (R330, R362) -/

/-- Register address of offset `off` in port k's block (R502). -/
def portAddr (k off : Nat) : Nat := 0x100000 + 0x400 * k + off

/-- The operands name a register of a port block. -/
def portOk (k off : Nat) : Bool := decide (k ≤ 99) && decide (off % 4 = 0) && decide (off < 0x400)

/-- Result of a port access: OK, or WRONG_STATE for every other answer of the fabric. -/
def portRes (s : State) : Nat := if s.fab.rc = .ok then 0 else 1

/-- Port read: the value goes to gv, which wins over the result where both name one register. [log 17: DEDUCED] -/
def primPrd (s : State) (t rd k off rc : Nat) : State × Nat :=
  if portOk k off then
    let s1 := (s.read32 (s.tMaster t) (portAddr k off)).setLres t
    let r := s1.portRes
    let s2 := if r = 0 then s1 else s1.inc (R.TK_PRIM_REJ_CNT t)
    if s2.stalled t then
      let s3 := (s2.setG t rd (w32 r)).setG t rc (w32 s1.fab.data)
      (s3, if rc = rd then s1.fab.data else r)
    else (s2, r)
  else s.primRefuse t 2

/-- Port write: the bits of the mask take the value, in one read-merge-write. [log 17: DEDUCED] -/
def primPwr (s : State) (t k off v mask : Nat) : State × Nat :=
  if portOk k off then
    let a := portAddr k off
    let old := s.valueAt a (s.tMaster t).privileged
    let s1 := (s.write32 (s.tMaster t) a ((v &&& mask) ||| (old &&& (2 ^ 32 - 1 - mask)))).setLres t
    (s1, s1.portRes)
  else s.primRefuse t 2

/-! ### Power Delivery (R218, R330) -/

/-- A PD primitive leaves PD_CMD[k].RESULT, which tells of the last command, as it was. [log 17: DEDUCED] -/
def keepPdRes (s old : State) (k : Nat) : State := s.set (PD_CMD.RESULT k) (old.get (PD_CMD.RESULT k))

/-- A refused PD primitive (R242). [log 17: DEDUCED] -/
def pdPrimRefuse (s : State) (k code : Nat) : State × Nat := (s.inc (R.PD_REJ_CNT k), code)

/-- PD send: all eight words, or none. [log 17: DEDUCED] -/
def primPsnd (s : State) (t k a : Nat) : State × Nat :=
  if 99 < k then s.primRefuse t 2
  else if localOk a 32 then
    let b := s.getBytes t a 32
    let l := (List.range 8).map fun i => ((List.range 4).map fun j => (b.getD (4 * i + j) 0).toNat * 256 ^ j).sum
    let r := (s.setTxEntry k l).txGo k
    if r.2 = .ok then (r.1.keepPdRes s k, 0) else s.pdPrimRefuse k r.2.code
  else s.pdPrimRefuse k 2

/-- PD receive: the head entry moves to local memory. -/
def primPrcv (s : State) (t k a : Nat) : State × Nat :=
  if 99 < k then s.primRefuse t 2
  else if localOk a 32 then
    match (s.eng k).rx with
    | [] => s.pdPrimRefuse k 1
    | e :: _ => (((s.putBytes t a ((List.range 8).map fun i => leBytes (e.getD i 0)).flatten).rxPop k), 0)
  else s.pdPrimRefuse k 2

/-! ### Credit (R287, R288, R330) -/

/-- Basin's accounts are checked at every credit operation (R524). -/
def acctUse (s : State) : State := if s.injMatches 23 0 then s.faultOnset 23 0 0 else s

/-- A credit primitive on port k. -/
def primCredit (s : State) (k : Nat) (f : State → State × Prim) : State × Nat :=
  if 99 < k then (s.inc R.BSN_REJ_CNT, 2)
  else
    let r := f s.acctUse
    (r.1, r.2.code)

/-! ### Queues (R333, R334, R363) -/

/-- Queue flush: event 14 goes to the thread when FLUSH_DONE rises. [log 17: DEDUCED] -/
def primQflush (s : State) (t q : Nat) : State × Nat :=
  if 511 < q then s.primRefuse t 2
  else
    let s1 := s.wrFlush q
    if s.on G_READY.CALDERA then
      (s1.modQueue q fun x => { x with askers := if x.askers.contains t then x.askers else x.askers ++ [t] }, 0)
    else s1.primRefuse t 1

/-- The bytes a get moves: the packet without its metadata word (R334). -/
def getData (p : Packet) : List Byte := (List.range (8 * (p.w - 1))).map (packetByte p)

/-- Queue get: word count and poison tag go to gc. Where gd and gc name one register, what it holds afterwards is not stated.
[log 17: DEDUCED] -/
def primQget (s : State) (t rd q a rc : Nat) : State × Nat :=
  if 511 < q ∨ memOk a 0 = false then s.primRefuse t 2
  else match s.qHead q with
    | none => s.primRefuse t 1
    | some p =>
      if p.started ∨ p.written < p.w then s.primRefuse t 1
      else if !(memOk a (8 * (p.w - 1))) then s.primRefuse t 2
      else
        let s1 := s.readError q p.order 0 0
        let poison := ((s1.pktAt q p.order).map (·.poison)).getD p.poison
        let s2 := ((s1.putBytes t a (getData ((s1.pktAt q p.order).getD p))).qDrop q p.order).setG t rc (w32 (poison.toNat * 2 ^ 31 + p.w))
        if rc = rd then (s2.freeNext, s2.freeVal (2 ^ 32)) else (s2, 0)

/-- Queue put: a packet marked as Torik's, for egress x in the class given. It stalls under back-pressure as any producer does.
[log 17: DEDUCED] -/
def primQput (s : State) (t q a c : Nat) : State × Nat :=
  let w := c % 256; let cls := c / 256 % 8; let x := c / 2 ^ 16 % 128
  if 511 < q ∨ w < 3 ∨ 131 < w ∨ 99 < x ∨ c ≠ w + cls * 256 + x * 2 ^ 16 ∨ memOk a (8 * (w - 1)) = false then s.primRefuse t 2
  else
    let p : Packet := { src := 104, egress := x, port := x, kind := 2, cls := cls, len := 8 * (w - 3), w := w, written := w
                        data := s.getBytes t a (8 * (w - 1)), args := [t] }
    let r := s.qRequest q p
    match r.2 with
    | .stalled => (r.1.modThread t fun h => { h with put := some q }, 0)
    | _ => (r.1, 0)

/-! ### Requests (R337, R338) -/

/-- Request get: the oldest entry not yet taken. -/
def primRget (s : State) (t i a : Nat) : State × Nat :=
  if 5 < i ∨ localOk a 64 = false then s.primRefuse t 2
  else match (s.mbox i).find? fun m => !m.taken with
    | none => s.primRefuse t 1
    | some m =>
      ((s.setMbox i ((s.mbox i).map fun x => if x.tag = m.tag then { x with taken := true } else x)).putBytes t a (mboxBytes i m), 0)

/-- Request done: tag in [7:0], STALL in bit 8, length in [26:16]. [log 17: DEDUCED] -/
def primRdone (s : State) (t i a c : Nat) : State × Nat :=
  let tag := c % 256; let stall := c.testBit 8; let len := c / 2 ^ 16 % 2 ^ 11
  if 5 < i ∨ 1024 < len ∨ (len ≠ 0 ∧ memOk a len = false) then s.primRefuse t 2
  else if (s.mbox i).any fun m => m.tag == tag then
    let s1 := s.setMbox i ((s.mbox i).filter fun m => !(m.tag == tag))
    if i < 4 then (s1.emit (.ctl i (!stall) (if stall then [] else (s.getBytes t a len).map (·.toNat))), 0)
    else if i = 4 then (s1.passedEnd tag stall, 0)
    else (s1, 0)
  else s.primRefuse t 1

end State

open State

def execPrd (t rd ra rb rc : Nat) (s : State) : Res State :=
  act s fun s => s.prim t (wP 0x01 rd ra rb rc) rd false fun s => s.primPrd t rd (s.g t ra).toNat (s.g t rb).toNat rc

def execPwr (t rd ra rb rc : Nat) (s : State) : Res State :=
  act s fun s => s.prim t (wP 0x02 rd ra rb rc) rd false fun s =>
    s.primPwr t (s.g t ra).toNat (s.g t rb).toNat (s.g t rc).toNat (2 ^ 32 - 1)

def execPwrm (t rd ra rb rc : Nat) (s : State) : Res State :=
  act s fun s => s.prim t (wP 0x03 rd ra rb rc) rd false fun s =>
    s.primPwr t (s.g t ra).toNat (s.g t rb).toNat (s.g t rc).toNat (s.g t rd).toNat

def execPsnd (t rd ra rb : Nat) (s : State) : Res State :=
  act s fun s => s.prim t (wP 0x08 rd ra rb 0) rd true fun s => s.primPsnd t (s.g t ra).toNat (s.g t rb).toNat

def execPrcv (t rd ra rb : Nat) (s : State) : Res State :=
  act s fun s => s.prim t (wP 0x09 rd ra rb 0) rd true fun s => s.primPrcv t (s.g t ra).toNat (s.g t rb).toNat

def execTake (t rd ra rb : Nat) (s : State) : Res State :=
  act s fun s => s.prim t (wP 0x10 rd ra rb 0) rd true fun s =>
    s.primCredit (s.g t ra).toNat fun x => x.take (s.g t ra).toNat (s.g t rb).toNat

def execTakeq (t rd ra rb : Nat) (s : State) : Res State :=
  act s fun s => s.prim t (wP 0x11 rd ra rb 0) rd true fun s =>
    s.primCredit (s.g t ra).toNat fun x => x.takeQ (s.g t ra).toNat (s.g t rb).toNat

def execGive (t rd ra rb : Nat) (s : State) : Res State :=
  act s fun s => s.prim t (wP 0x12 rd ra rb 0) rd true fun s =>
    s.primCredit (s.g t ra).toNat fun x => x.give (s.g t ra).toNat (s.g t rb).toNat

def execCancel (t rd ra : Nat) (s : State) : Res State :=
  act s fun s => s.prim t (wP 0x13 rd ra 0 0) rd true fun s => s.primCredit (s.g t ra).toNat fun x => x.cancel (s.g t ra).toNat

def execAadd (t rd ra rb : Nat) (s : State) : Res State :=
  act s fun s => s.issue t (wP 0x18 rd ra rb 0) fun s => s.atomic t rd (s.g t ra).toNat fun old => old + s.g t rb

def execCas (t rd ra rb rc : Nat) (s : State) : Res State :=
  act s fun s => s.issue t (wP 0x19 rd ra rb rc) fun s =>
    s.atomic t rd (s.g t ra).toNat fun old => if old = s.g t rb then s.g t rc else old

/-- Event post (R327, R361). -/
def execEpost (t rd ra rb : Nat) (s : State) : Res State :=
  act s fun s => s.issue t (wP 0x1C rd ra rb 0) fun s =>
    let i := (s.g t ra).toNat; let n := (s.g t rb).toNat
    if n < 4 ∨ 255 < n ∨ 63 < i then (s.inc (R.TK_PRIM_REJ_CNT t)).result t rd 2
    else if n ≤ 223 ∧ (s.thread t).priv = false then s.exception t Ex.priv (s.thread t).pc 0
    else (s.post i n).result t rd 0

def execQflush (t rd ra : Nat) (s : State) : Res State :=
  act s fun s => s.prim t (wP 0x20 rd ra 0 0) rd true fun s => s.primQflush t (s.g t ra).toNat

def execQget (t rd ra rb rc : Nat) (s : State) : Res State :=
  act s fun s => s.prim t (wP 0x21 rd ra rb rc) rd true fun s => s.primQget t rd (s.g t ra).toNat (s.g t rb).toNat rc

def execQput (t rd ra rb rc : Nat) (s : State) : Res State :=
  act s fun s => s.prim t (wP 0x22 rd ra rb rc) rd true fun s =>
    s.primQput t (s.g t ra).toNat (s.g t rb).toNat (s.g t rc).toNat

def execRget (t rd ra rb : Nat) (s : State) : Res State :=
  act s fun s => s.prim t (wP 0x28 rd ra rb 0) rd true fun s => s.primRget t (s.g t ra).toNat (s.g t rb).toNat

def execRdone (t rd ra rb rc : Nat) (s : State) : Res State :=
  act s fun s => s.prim t (wP 0x29 rd ra rb rc) rd true fun s =>
    s.primRdone t (s.g t ra).toNat (s.g t rb).toNat (s.g t rc).toNat

end Sys2Proof.Machine
end

