-- ==== Sys2Proof/Machine/RomHost.lean ====
section
/-!
DEFINITION. What the ROM program answers to a control request in the mailbox of a tree (R45, R46, R163, R169, R336 to R338): the
descriptors of the hubs and of the management function, port and hub status, and the standard requests. Layouts are the USB standard's
(PRESUMED, log 61).
-/

namespace Sys2Proof.Machine

/-! ### Strings (R376, R387) -/

/-- A 16-bit value as two bytes. -/
def word2 (n : Nat) : List Nat := [n % 256, n / 256 % 256]

/-- "Skovim Microsystems". -/
def strMaker : List Nat := [0x53, 0x6B, 0x6F, 0x76, 0x69, 0x6D, 0x20, 0x4D, 0x69, 0x63, 0x72, 0x6F, 0x73, 0x79, 0x73, 0x74, 0x65, 0x6D, 0x73]

/-- "Kilunith KLH9600", "KLH9610" or "KLH4800". -/
def strProduct (v : Variant) : List Nat :=
  [0x4B, 0x69, 0x6C, 0x75, 0x6E, 0x69, 0x74, 0x68, 0x20, 0x4B, 0x4C, 0x48] ++
    match v with
    | .klh9600 => [0x39, 0x36, 0x30, 0x30]
    | .klh9610 => [0x39, 0x36, 0x31, 0x30]
    | .klh4800 => [0x34, 0x38, 0x30, 0x30]

/-- A hexadecimal digit. -/
def hexChar (d : Nat) : Nat := if d < 10 then 0x30 + d else 0x37 + d

/-- Characters as UTF-16LE bytes. -/
def utf16 (l : List Nat) : List Nat := (l.map fun c => [c % 256, c / 256]).flatten

/-- A descriptor of this type: its length, its type and its body. [log 61: PRESUMED] -/
def descOf (ty : Nat) (body : List Nat) : List Nat := [body.length + 2, ty] ++ body

/-! ### Configuration descriptors -/

/-- A configuration descriptor over its interfaces: self-powered, with remote wake. [log 61: PRESUMED] -/
def configDesc (ifaces : Nat) (body : List Nat) : List Nat :=
  descOf 2 (word2 (9 + body.length) ++ [ifaces, 1, 0, 0xE0, 0]) ++ body

/-- An interface descriptor. [log 61: PRESUMED] -/
def ifaceDesc (i alt eps cls sub proto : Nat) : List Nat := descOf 4 [i, alt, eps, cls, sub, proto, 0]

/-- An endpoint descriptor. [log 61: PRESUMED] -/
def endpointDesc (addr attr size interval : Nat) : List Nat := descOf 5 ([addr, attr] ++ word2 size ++ [interval])

/-- Configuration of a USB 2.0 hub (R46): alternate setting 0 with protocol 0x01 and 1 with protocol 0x02; at full speed one setting.
[log 61: PRESUMED] -/
def hubConfig2 (full : Bool) : List Nat :=
  if full then configDesc 1 (ifaceDesc 0 0 1 9 0 0 ++ endpointDesc 0x81 3 2 255)
  else configDesc 1 (ifaceDesc 0 0 1 9 0 1 ++ endpointDesc 0x81 3 2 12 ++ ifaceDesc 0 1 1 9 0 2 ++ endpointDesc 0x81 3 2 12)

/-- Configuration of a USB 3 hub. [log 61: PRESUMED] -/
def hubConfig3 : List Nat := configDesc 1 (ifaceDesc 0 0 1 9 0 0 ++ endpointDesc 0x81 0x13 2 8 ++ descOf 0x30 [0, 0, 2, 0])

/-- The two interfaces of channel i of the management function (R60). [log 61: PRESUMED] -/
def channelConfig (i size : Nat) : List Nat :=
  let c := 1 + 2 * i
  descOf 0x0B [c, 2, 2, 2, 1, 0] ++ ifaceDesc c 0 1 2 2 1 ++ descOf 0x24 [0, 0x10, 1] ++ descOf 0x24 [1, 0, c + 1] ++ descOf 0x24 [2, 2] ++
    descOf 0x24 [6, c, c + 1] ++ endpointDesc (0x80 + 2 + i) 3 16 8 ++
    ifaceDesc (c + 1) 0 2 0x0A 0 0 ++ endpointDesc (0x80 + 9 + i) 2 size 0 ++ endpointDesc (9 + i) 2 size 0

/-- Configuration of the management function with n channels (R60). [log 61: PRESUMED] -/
def mgmtConfig (n size : Nat) : List Nat :=
  configDesc (1 + 2 * n) (ifaceDesc 0 0 1 0xFF 0 0 ++ endpointDesc 0x81 3 64 4 ++ ((List.range n).map fun i => channelConfig i size).flatten)

/-- BOS descriptor of a hub: LPM with BESL and no baseline BESL (R163); a USB 3 hub also reports exit latencies of 4 µs from U1 and 100 µs
from U2 (R169). [log 61: PRESUMED] -/
def bosDesc (ss : Bool) : List Nat :=
  let caps := descOf 0x10 [2, 0x06, 0, 0, 0] ++ (if ss then descOf 0x10 ([3, 0, 0x0E, 0, 1, 0x04] ++ word2 0x0064) else [])
  descOf 0x0F (word2 (5 + caps.length) ++ [if ss then 2 else 1]) ++ caps

namespace State

/-- Data of the image's descriptor record of a type (R376). -/
def descRec (s : State) (ty : Nat) : Option (List Nat) :=
  (s.boot.desc.find? fun d => d.1 == ty).map fun d => d.2.map (·.toNat)

/-- idVendor (R45, R376). -/
def idVendor (s : State) : List Nat := ((s.descRec 1).getD (word2 0x3B6A)).take 2

/-- idProduct of column c of R45. -/
def idProduct (s : State) (c : Nat) : List Nat := (s.descRec 2).elim (word2 (0x9600 + c)) fun l => (l.drop (2 * c)).take 2

/-- String i: 1 manufacturer, 2 product, 3 serial number (R376, R387). -/
def strDesc (s : State) (i : Nat) : Option (List Nat) :=
  match i with
  | 0 => some (descOf 3 (word2 0x0409))
  | 1 => some (descOf 3 ((s.descRec 3).getD (utf16 strMaker)))
  | 2 => some (descOf 3 ((s.descRec 4).getD (utf16 (strProduct s.variant))))
  | 3 => some (descOf 3 ((s.descRec 5).getD (utf16 ((List.range 16).map fun j => hexChar (s.dieId / 16 ^ (15 - j) % 16)))))
  | _ => none

/-- Tree u runs at full speed. -/
def fullTree (s : State) (u : Nat) : Bool := decide (s.get (U_TREEST.LINK u) = 1)

/-- Column of R45 of hub or function `target`: 0 to 7 a hub, 8 the management function. -/
def descColumn (target : Nat) (ss : Bool) : Nat := if target = 8 then 4 else 2 * (decide (target ≠ 0)).toNat + ss.toNat

/-- Device descriptor (R45). [log 61: PRESUMED] -/
def deviceDesc (s : State) (u target : Nat) (ss : Bool) : List Nat :=
  let cls := if target = 8 then [0xEF, 2, 1]
    else if ss then [9, 0, 3]
    else [9, 0, if target = 0 ∧ s.fullTree u = true then 0 else 2]
  descOf 1 (word2 (if ss then 0x0320 else 0x0210) ++ cls ++ [if ss then 9 else 64] ++ s.idVendor ++ s.idProduct (descColumn target ss) ++
    word2 0x0B10 ++ [1, 2, 3, 1])

/-- Front logical ports that carry back hubs, as a mask by logical port (R41). -/
def backMask (s : State) (u : Nat) : Nat := ((List.range 8).map fun b => if s.bhHere u b then 2 ^ (15 - b) else 0).sum

/-- wHubCharacteristics (R45): power switching, and whether the hub is part of a compound device; each port has its own over-current
protection. [log 61: PRESUMED] -/
def hubChars (s : State) (u target : Nat) (ss : Bool) : Nat :=
  (if (s.up u).hostPwr then 1 else 2) +
    (if target ≠ 0 ∨ s.backMask u ≠ 0 ∨ (ss = false ∧ (s.up u).mgmtNow = true) then 4 else 0) + 8

/-- DeviceRemovable (R45): bit l is 1 where logical port l is non-removable. -/
def hubFixed (s : State) (u target : Nat) (ss : Bool) : Nat :=
  if target ≠ 0 then 0 else s.backMask u + (if ss then 0 else 2 ^ 15)

/-- Hub descriptor (R45): fifteen ports, and bPwrOn2PwrGood 0. [log 61: PRESUMED] -/
def hubDesc (s : State) (u target : Nat) (ss : Bool) : List Nat :=
  let c := word2 (s.hubChars u target ss); let f := word2 (s.hubFixed u target ss)
  if ss then descOf 0x2A ([15] ++ c ++ [0, 0, 0, 0, 0] ++ f) else descOf 0x29 ([15] ++ c ++ [0, 0] ++ f ++ [0xFF, 0xFF])

/-- A descriptor of type ty and index i, where the hub or function has it. -/
def descriptor (s : State) (u target : Nat) (ss : Bool) (ty i : Nat) : Option (List Nat) :=
  match ty with
  | 1 => some (s.deviceDesc u target ss)
  | 2 => if target = 8 then some (mgmtConfig (s.channelsNow u).length (if s.fullTree u then 64 else 512))
         else if ss then some hubConfig3 else some (hubConfig2 (s.fullTree u))
  | 3 => s.strDesc i
  | 0x0F => if target = 8 then none else some (bosDesc ss)
  | 0x29 => if target = 8 ∨ ss = true then none else some (s.hubDesc u target false)
  | 0x2A => if target = 8 ∨ ss = false then none else some (s.hubDesc u target true)
  | _ => none

/-! ### Port status (R66, R92) -/

/-- wPortStatus and wPortChange from a port's STATE, SPEED, link state and change bits; on a side the port is not on, it is powered and
disconnected. [log 61: PRESUMED] -/
def statusWords (ss : Bool) (st speed link chg : Nat) : List Nat :=
  let conn := decide (Ps.disabled ≤ st) && decide (st ≤ Ps.suspended)
  let en := decide (st = Ps.enabled) || decide (st = Ps.suspended)
  let power := decide (st ≠ Ps.poweredOff)
  let base := conn.toNat + 2 * en.toNat + 16 * (decide (st = Ps.resetting)).toNat
  if ss then word2 (base + 32 * (if conn then link else 5) + 2 ^ 9 * power.toNat) ++ word2 (chg &&& 0x71)
  else word2 (base + 4 * (decide (st = Ps.suspended)).toNat + 2 ^ 8 * power.toNat + 2 ^ 9 * (decide (conn = true ∧ speed = 1)).toNat +
    2 ^ 10 * (decide (conn = true ∧ speed = 3)).toNat) ++ word2 (chg &&& 0x17)

/-- Status of a front logical port with a hub or the management function. -/
def ownStatus (s : State) (u l : Nat) (ss : Bool) : List Nat :=
  let x := Tbl.get (s.up u).lports {} l
  let chg := x.cConn.toNat + 4 * x.cSuspend.toNat + 16 * x.cReset.toNat
  if ss then statusWords true Ps.enabled 0 (if x.u3 then Ls.u3 else Ls.u0) chg
  else statusWords false (if !x.conn then Ps.disconnected else if x.susp then Ps.suspended else if x.en then Ps.enabled else Ps.disabled)
    (if s.fullTree u then 2 else 3) 0 chg

/-- GET_STATUS of logical port l of hub h. -/
def logicalStatus (s : State) (u h l : Nat) (ss : Bool) : List Nat :=
  match s.carrier u h l ss with
  | some (.port n) =>
    if s.on (P_PORTST.SS_LINK n) = ss then
      statusWords ss (s.ps n) (s.get (P_PORTST.SPEED n)) (s.get (P_LPST.SS_LS n)) (s.changeBits n)
    else statusWords ss Ps.disconnected 0 0 0
  | some (.remote i) =>
    let st := (Tbl.get s.kcl.slots {} i).st
    if decide (st.2.2.1 = 1) = ss then statusWords ss st.1 st.2.1 (if st.1 = Ps.suspended then Ls.u3 else Ls.u0) st.2.2.2
    else statusWords ss Ps.disconnected 0 0 0
  | some (.backHub b) => s.ownStatus u (15 - b) ss
  | some _ => s.ownStatus u l ss
  | none => statusWords ss Ps.disconnected 0 0 (if (s.up u).vacated.contains (h, l) then 1 else 0)

/-! ### Requests -/

/-- What the ROM program answers to a request: data with ACK, or `none` for STALL. [log 61: PRESUMED] -/
def romReply (s : State) (u target : Nat) (ss : Bool) (ty req val idx : Nat) : Option (List Nat) :=
  let hub := decide (target ≠ 8)
  match ty, req with
  | 0x80, 6 => s.descriptor u target ss (val / 256) (val % 256)
  | 0xA0, 6 => if hub then s.descriptor u target ss (if ss then 0x2A else 0x29) 0 else none
  | 0x80, 0 => some (word2 (1 + 2 * (if ss ∨ target = 8 then 0
      else if target = 0 then s.get (U_LPST.RWE_FRONT u) else s.get (U_LPST.RWE_BH u) / 2 ^ (target - 1) % 2)))
  | 0x81, 0 => some [0, 0]
  | 0x82, 0 => some [0, 0]
  | 0x80, 8 => some [Tbl.get (s.up u).cfgs 0 (2 * target + ss.toNat)]
  | 0x81, 10 => some [if hub && !ss then Tbl.get (s.up u).alts 0 target else 0]
  | 0xA0, 0 => if hub then some [0, 0, 0, 0] else none
  | 0xA3, 0 => if hub && decide (1 ≤ idx % 256) && decide (idx % 256 ≤ 15) then some (s.logicalStatus u target (idx % 256) ss) else none
  | 0x00, 5 => some []
  | 0x00, 9 => if val ≤ 1 then some [] else none
  | 0x01, 11 => if idx = 0 ∧ val ≤ (if hub && !ss then 1 else 0) then some [] else none
  | 0x00, 1 => some []
  | 0x00, 3 => some []
  | 0x20, 12 => if hub && ss then some [] else none
  | 0x20, 1 => if hub then some [] else none
  | 0x20, 3 => if hub then some [] else none
  | 0x23, 1 => if hub && decide (1 ≤ idx % 256) && decide (idx % 256 ≤ 15) then some [] else none
  | 0x23, 3 => if hub && decide (1 ≤ idx % 256) && decide (idx % 256 ≤ 15) then some [] else none
  | 0x23, 8 => if hub && !ss then some [] else none
  | 0x23, 9 => if hub && !ss then some [] else none
  | _, _ => none

/-- A little-endian half word of a request. -/
def half (l : List Byte) (i : Nat) : Nat := (l.getD i 0#8).toNat + 256 * (l.getD (i + 1) 0#8).toNat

/-- The ROM program takes the oldest request of tree u and ends it, with at most wLength bytes (R337, R338). [log 59: DESIGN CHOICE] -/
def romAnswer (s : State) (u : Nat) : State :=
  match (s.mbox u).find? fun m => !m.taken with
  | none => s
  | some m =>
    let p := m.payload
    let r := s.romReply u m.target (m.kind == 1) (p.getD 0 0#8).toNat (p.getD 1 0#8).toNat (half p 2) (half p 4)
    (s.setMbox u ((s.mbox u).filter fun x => !(x.tag == m.tag))).emit (.ctl u r.isSome ((r.getD []).take (half p 6)))

/-- Event 4 + u (R328): the ROM program serves mailbox u until the tree is released (R388). -/
def romTree (s : State) (u : Nat) : State :=
  if s.boot.released.contains (128 + u) then s else (List.range 17).foldl (fun s _ => s.romAnswer u) s

end State

end Sys2Proof.Machine
end

