-- ==== Sys2Proof/Machine/PdPolicy.lean ====
section
/-!
DEFINITION. The ROM program's PD policy (R38, R222 to R235, R237, R293): what a port offers, how a message in its receive FIFO is answered, and
what the port sends next. It works when its thread takes an event of the port. Message layouts are the USB PD standard's (PRESUMED, log 18).
-/

namespace Sys2Proof.Machine

/-! What the policy sends: codes of `PdPolicy.todo`. -/

namespace Pm
abbrev caps : Nat := 1
abbrev accept : Nat := 2
abbrev reject : Nat := 3
abbrev wait : Nat := 4
abbrev psRdy : Nat := 5
abbrev notSupported : Nat := 6
abbrev sinkCaps : Nat := 7
abbrev drSwap : Nat := 8
abbrev eprAck : Nat := 9
abbrev eprOk : Nat := 10
abbrev eprFail : Nat := 11
abbrev eprExit : Nat := 12
abbrev keepAck : Nat := 13
abbrev svids : Nat := 14
abbrev modes : Nat := 15
abbrev enter : Nat := 16
abbrev cable : Nat := 17
abbrev request : Nat := 18
abbrev status : Nat := 19
abbrev ppsStatus : Nat := 20
abbrev capsExt : Nat := 21
abbrev sourceInfo : Nat := 22
abbrev revision : Nat := 23
abbrev identity : Nat := 24
abbrev alert : Nat := 25
abbrev capsNext : Nat := 26
abbrev askIdentity : Nat := 28
/-- No message: what follows when a contract has formed. -/
abbrev formed : Nat := 27
end Pm

/-- A fixed supply object: voltage in 50 mV, current in 10 mA. [log 18: PRESUMED] -/
def fixedPdo (v i : Nat) : Nat := v / 50 * 2 ^ 10 + i

/-- Bytes as the words of a transmit entry. -/
def packWords (l : List Nat) : List Nat :=
  (List.range 7).map fun i => l.getD (4 * i) 0 + l.getD (4 * i + 1) 0 * 2 ^ 8 + l.getD (4 * i + 2) 0 * 2 ^ 16 + l.getD (4 * i + 3) 0 * 2 ^ 24

/-- The charge in mW of VOLT in 20 mV and CURR in 10 mA (R230). -/
def contractMw (v i : Nat) : Nat := v * i / 5

namespace State

/-! ### The offer (R223, R224) -/

/-- Current in 10 mA a port may offer at v mV: its rating, capped by MAX_PWR (R224). -/
def offerCurrent (s : State) (k v top : Nat) : Nat :=
  min top (min (s.get (PD_CFG.MAX_PWR k)) (if k < 96 then 240 else 100) * 100000 / v)

/-- Objects 1 to 5 of the offer: the fixed ones, and PPS. An object below 1.0 A is omitted, except position 1. [log 18: PRESUMED] -/
def sprOffer (s : State) (k : Nat) : List Nat :=
  let top := if s.on (PD_ST.CABLE_5A k) && s.vconnOn k then 500 else 300
  let flags := if k < 96 then (s.get (PD_CFG.EPR_EN k)) * 2 ^ 23 + 2 ^ 26 else 2 ^ 29 + 2 ^ 25
  let fixed := [9000, 15000, 20000].filterMap fun v =>
    let i := s.offerCurrent k v top
    if i < 100 then none else some (fixedPdo v i)
  let pps := if k < 96 ∧ s.on (PD_CFG.PPS_EN k) = true ∧ s.get (PD_ST.REV k) ≠ 1 then
      (let i := s.offerCurrent k 21000 top
       if i < 100 then [] else [3 * 2 ^ 30 + 210 * 2 ^ 17 + 33 * 2 ^ 8 + i / 5]) else []
  [flags + fixedPdo 5000 (min 300 (s.offerCurrent k 5000 300))] ++ fixed ++ pps

/-- Objects 8 to 11, in EPR mode, with an EPR cable and VCONN on (R224). [log 18: PRESUMED] -/
def eprOffer (s : State) (k : Nat) : List Nat :=
  if !(s.on (PD_ST.CABLE_EPR k) && s.vconnOn k) then []
  else ([28000, 36000, 48000].filterMap fun v =>
    let i := s.offerCurrent k v 500
    if i < 100 then none else some (fixedPdo v i)) ++
  (if s.on (PD_CFG.AVS_EN k) then [3 * 2 ^ 30 + 1 * 2 ^ 28 + 480 * 2 ^ 17 + 150 * 2 ^ 8 + min 240 (s.get (PD_CFG.MAX_PWR k))] else [])

/-- The objects of the present offer, by position: all, position 1 alone at the Rp current (R232), or positions 1 to 3 (R304). -/
def offered (s : State) (k : Nat) : List Nat :=
  let spr := s.sprOffer k
  match (s.eng k).pol.lim with
  | 1 => [(spr.headD 0) / 2 ^ 10 * 2 ^ 10 + min (spr.headD 0 % 2 ^ 10) (s.implicitCurrent k / 10)]
  | 2 => spr.take 3
  | _ => if s.on (PD_ST.EPR_MODE k) then (spr ++ List.replicate (7 - spr.length) 0) ++ s.eprOffer k else spr

/-- Specification Revision of a header (R212): REV_MAX in Source_Capabilities, the contract's revision elsewhere. -/
def revCode (s : State) (k : Nat) (caps : Bool) : Nat :=
  let rev := s.get (PD_ST.REV k)
  if caps || decide (rev = 0) then (if s.get (PD_CFG.REV_MAX k) = 1 then 1 else 2) else rev

/-- Message header: type, number of objects, extended, by the port's roles. [log 18: PRESUMED] -/
def msgHeader (s : State) (k ty ndo ext : Nat) (caps : Bool) : Nat :=
  ty + s.get (PD_ST.DATA_ROLE k) * 2 ^ 5 + s.revCode k caps * 2 ^ 6 + s.get (PD_ST.PWR_ROLE k) * 2 ^ 8 + ndo * 2 ^ 12 + ext * 2 ^ 15

/-! ### Transmit entries (R218) -/

/-- A data or control message on SOP; the flags are AMS_START and AMS_END. -/
def msgEntry (s : State) (k ty : Nat) (objs : List Nat) (start fin : Bool) : List Nat :=
  ((2 + 4 * objs.length) * 2 ^ 24 + start.toNat * 2 ^ 23 + fin.toNat * 2 ^ 22 + s.msgHeader k ty objs.length 0 false) :: objs

/-- One chunk of an extended message: chunk c of `bytes`. [log 18: PRESUMED] -/
def extEntry (s : State) (k ty c : Nat) (bytes : List Nat) (caps start fin : Bool) : List Nat :=
  let part := (bytes.drop (26 * c)).take 26
  let h := 2 ^ 15 + c * 2 ^ 11 + bytes.length
  let ndo := (2 + part.length + 3) / 4
  ((4 + part.length) * 2 ^ 24 + start.toNat * 2 ^ 23 + fin.toNat * 2 ^ 22 + s.msgHeader k ty ndo 1 caps) ::
    packWords ([h % 256, h / 256] ++ part)

/-- The transmit entry of the present offer: Source_Capabilities, or in EPR mode chunk c of EPR_Source_Capabilities. [log 18: PRESUMED] -/
def offerEntry (s : State) (k c : Nat) : List Nat :=
  let objs := s.offered k
  if s.on (PD_ST.EPR_MODE k) then
    s.extEntry k 0x11 c (objs.map fun o => [o % 256, o / 2 ^ 8 % 256, o / 2 ^ 16 % 256, o / 2 ^ 24 % 256]).flatten true (decide (c = 0)) false
  else ((2 + 4 * objs.length) * 2 ^ 24 + 2 ^ 23 + s.msgHeader k 1 objs.length 0 true) :: objs

/-- A structured VDM header: SVID, command type (0 request, 1 ACK), command. [log 18: PRESUMED] -/
def vdmHeader (svid pos ct cmd : Nat) : Nat := svid * 2 ^ 16 + 2 ^ 15 + 2 ^ 13 + pos * 2 ^ 8 + ct * 2 ^ 6 + cmd

/-- EPR entry is granted (R225 step 2). -/
def eprGrants (s : State) (k : Nat) : Bool :=
  s.on (PD_ST.CABLE_EPR k) && s.on (PD_CFG.EPR_EN k) && decide (100 < s.get (PD_CFG.MAX_PWR k)) && decide (s.get (PD_ST.REV k) ≠ 1)

/-- Cause of Enter Failed (R225 step 3): the cable is not EPR capable, or the port is not. [log 18: PRESUMED] -/
def eprCause (s : State) (k : Nat) : Nat := if s.on (PD_ST.CABLE_EPR k) then 4 else 1

/-- The object of an own Request as sink: position 1, 0.9 A (R222). [log 18: PRESUMED] -/
def sinkRequest : Nat := 1 * 2 ^ 28 + 2 ^ 25 + 90 * 2 ^ 10 + 90

/-- The transmit entry of policy message c. Contents the spec does not give are free values: `v`. [log 59: DESIGN CHOICE] -/
def pmEntry (s : State) (k c v : Nat) : List Nat :=
  match c with
  | 1 => s.offerEntry k 0
  | 2 => s.msgEntry k 0x03 [] false false
  | 3 => s.msgEntry k 0x04 [] false true
  | 4 => s.msgEntry k 0x0C [] false true
  | 5 => s.msgEntry k 0x06 [] false true
  | 6 => if s.get (PD_ST.REV k) = 1 then s.msgEntry k 0x04 [] false true else s.msgEntry k 0x10 [] false true
  | 7 => s.msgEntry k 0x04 [fixedPdo 5000 90 + s.get (PD_CFG.FRS_EN k) * 2 ^ 23] false true
  | 8 => s.msgEntry k 0x09 [] true true
  | 9 => s.msgEntry k 0x0A [2 * 2 ^ 24] false false
  | 10 => s.msgEntry k 0x0A [3 * 2 ^ 24] false true
  | 11 => s.msgEntry k 0x0A [4 * 2 ^ 24 + s.eprCause k * 2 ^ 16] false true
  | 12 => s.msgEntry k 0x0A [5 * 2 ^ 24] true true
  | 13 => s.extEntry k 0x10 0 [4, 0] false false true
  | 14 => s.msgEntry k 0x0F [vdmHeader 0xFF00 0 0 2] true true
  | 15 => s.msgEntry k 0x0F [vdmHeader 0x3B6A 0 0 3] true true
  | 16 => s.msgEntry k 0x0F [vdmHeader 0x3B6A 1 0 4] true true
  | 17 => (1 * 2 ^ 29 + 6 * 2 ^ 24 + 0x0F + s.revCode k true * 2 ^ 6 + 1 * 2 ^ 12) :: [vdmHeader 0xFF00 0 0 1]
  | 18 => s.msgEntry k 0x02 [sinkRequest] false false
  | 19 => s.extEntry k 0x02 0 [v % 256, v / 2 ^ 8 % 256, v / 2 ^ 16 % 256, v / 2 ^ 24 % 256, v % 256, v / 2 ^ 8 % 256, v / 2 ^ 16 % 256] false false true
  | 20 => s.extEntry k 0x0C 0 [v % 256, v / 2 ^ 8 % 256, v / 2 ^ 16 % 256, v / 2 ^ 24 % 256] false false true
  | 21 => s.extEntry k 0x01 0 ([0x6A, 0x3B] ++ List.replicate 23 (v % 256)) false false true
  | 22 => s.msgEntry k 0x0B [v] false true
  | 23 => s.msgEntry k 0x0C [v] false true
  | 24 => s.msgEntry k 0x0F [vdmHeader 0xFF00 0 1 1, 0x3B6A, v, v] false true
  | 25 => s.msgEntry k 0x06 [2 ^ 27] true true
  | 26 => s.offerEntry k 1
  | 28 => s.msgEntry k 0x0F [vdmHeader 0xFF00 0 0 1] true true
  | _ => []

/-- Start a transmit entry as the send primitive does, with PD_CMD[k].RESULT and, where it is refused, the transmit buffer as they were. -/
def sendEntry (s : State) (k : Nat) (l : List Nat) : State × RC :=
  let r := (s.setTxEntry k l).txGo k
  if r.2 = .ok then (r.1.set (PD_CMD.RESULT k) (s.get (PD_CMD.RESULT k)), .ok) else (s.inc (R.PD_REJ_CNT k), r.2)

/-! ### What is sent next -/

/-- Change what the policy remembers of port k. -/
def modPdPol (s : State) (k : Nat) (f : PdPolicy → PdPolicy) : State := s.modEng k fun g => { g with pol := f g.pol }

/-- The policy is to send `l`, after what it already is to send. -/
def pdPush (s : State) (k : Nat) (l : List Nat) : State := s.modPdPol k fun p => { p with todo := p.todo ++ l }

/-- An explicit contract has formed at PS_RDY: what it lowered is given back (R231); a Uu that attached as source asks for the UFP role, once
(R234); a downstream DFP looks for the Skovim vendor mode, once (R199). -/
def pdFormed (s : State) (k : Nat) : State :=
  if s.get (PD_ST.CONTRACT k) = 2 ∧ s.on (PD_ST.IN_TRANS k) = false then
    let p := (s.eng k).pol
    let s1 := if p.giveBack = 0 then s else ((s.give k p.giveBack).1).modPdPol k fun p => { p with giveBack := 0 }
    if decide (96 ≤ k) && (s.eng k).srcDefault && s.on (PD_ST.DATA_ROLE k) && !p.drSent then
      (s1.pdPush k [Pm.drSwap]).modPdPol k fun p => { p with drSent := true }
    else if decide (k < 96) && s.on (P_TC_CFG.VMODE_EN k) && decide (p.vdm = 0) then
      (s1.pdPush k [Pm.askIdentity]).modPdPol k fun p => { p with vdm := 1 }
    else s1
  else s

/-- The next message leaves, when the transmit buffer is free. -/
def pdSend (s : State) (k : Nat) : State :=
  if decide ((s.eng k).tx ≠ .idle) || !(s.partner k) || s.on (PD_ST.HR_SEQ k) || !(s.on (PD_CFG.EN k)) then s
  else match (s.eng k).pol.todo with
    | [] => s
    | c :: r =>
      let s1 := s.modPdPol k fun p => { p with todo := r }
      if c = Pm.formed then s1.pdFormed k
      else
        let s2 := (s1.freeNext.sendEntry k (s1.pmEntry k c (s.freeVal (2 ^ 32)))).1
        if c = Pm.caps then s2.modPdPol k fun p => { p with capsMs := s.timeMs, capsN := p.capsN + 1 } else s2

/-! ### Requests (R227, R230 to R232) -/

/-- KIND, VOLT and CURR of a Request, where it asks for an object of the present offer within its limits. [log 18: PRESUMED] -/
def rdoTerms (s : State) (k w : Nat) : Option (Nat × Nat × Nat) :=
  let pos := w / 2 ^ 28 % 16
  let o := if pos = 0 then 0 else (s.offered k).getD (pos - 1) 0
  if o = 0 then none
  else if o / 2 ^ 30 % 4 = 0 then
    (let i := w / 2 ^ 10 % 1024
     if i ≤ o % 1024 then some (if pos ≤ 7 then 0 else 2, o / 2 ^ 10 % 1024 * 5 / 2, i) else none)
  else
    let v := w / 2 ^ 9 % 4096; let i := w % 128 * 5
    if o / 2 ^ 28 % 4 = 0 then
      (if o / 2 ^ 8 % 256 * 5 ≤ v ∧ v ≤ o / 2 ^ 17 % 256 * 5 ∧ i ≤ o % 128 * 5 then some (1, v, i) else none)
    else
      (if o / 2 ^ 8 % 256 * 4 ≤ v ∧ v ≤ o / 2 ^ 17 % 512 * 4 ∧ v * i ≤ 4000 * (o % 256) then some (3, v * 5 / 4, i) else none)

/-- Accept a Request: PD_NEXT is staged, and Accept is to be sent. -/
def pdAccept (s : State) (k kind v i back : Nat) : State :=
  ((((s.stage (PD_NEXT.KIND k) kind).stage (PD_NEXT.VOLT k) v).stage (PD_NEXT.CURR k) i).modPdPol k fun p =>
    { p with answered := true, waits := 0, hrs := 0, giveBack := back }).pdPush k [Pm.accept]

/-- Reject a Request; the present contract stands. -/
def pdReject (s : State) (k : Nat) (parked : Bool) : State :=
  (s.modPdPol k fun p => { p with answered := true, waits := 0, hrs := 0, parked := p.parked || parked }).pdPush k [Pm.reject]

/-- Wait, or after WAIT_MAX of them for one Request, Reject (R230). -/
def pdWait (s : State) (k w : Nat) : State :=
  let p := (s.eng k).pol
  let n := if p.lastReq = w then p.waits else 0
  if s.get (PD_CFG.WAIT_MAX k) ≠ 0 ∧ s.get (PD_CFG.WAIT_MAX k) ≤ n then s.pdReject k true
  else (s.modPdPol k fun p => { p with hrs := 0, waits := n + 1, lastReq := w }).pdPush k [Pm.wait]

/-- A Request or EPR_Request (R227, R230 to R232): one that lowers the charge is accepted; one that raises it takes the credit or enters the
upgrade queue. The first after an attach or Hard Reset is never answered Wait; where its take fails it is answered Reject, and position 1
alone is offered until the grant. [log 63: DEDUCED] -/
def pdRequest (s : State) (k w : Nat) : State :=
  match s.rdoTerms k w with
  | none => s.pdReject k false
  | some (kind, v, i) =>
    let now := s.get (BSN_CHG.CHARGE k)
    if !(s.nextOk k kind v i) then s.pdReject k false
    else if contractMw v i ≤ now then
      (if (s.uqOf k).pend then (s.cancel k).1 else s).pdAccept k kind v i (now - contractMw v i)
    else
      let r := s.takeQ k (contractMw v i - now)
      let queued := decide (r.2 = .queued)
      if r.2 = .ok then r.1.pdAccept k kind v i 0
      else if !((s.eng k).pol.answered) then
        ((r.1.pdReject k queued).modPdPol k fun p => { p with lim := 1 }).pdPush k [Pm.caps]
      else if queued then r.1.pdWait k w
      else r.1.pdReject k false

/-! ### Other messages (R222, R225, R233) -/

/-- An AMS or a transition runs: a swap is answered Wait (R233). -/
def swapBusy (s : State) (k : Nat) : Bool := (s.eng k).ams || s.on (PD_ST.IN_TRANS k)

/-- The answer to a swap that may be accepted. -/
def swapAnswer (s : State) (k : Nat) (l : List Nat) : List Nat := if s.swapBusy k then [Pm.wait] else l

/-- The answer to a swap request of type `ty` (R233). -/
def pdSwap (s : State) (k ty : Nat) : List Nat :=
  let src := s.on (PD_ST.PWR_ROLE k)
  if ty = 0x09 then (if 96 ≤ k ∧ s.on (PD_ST.DATA_ROLE k) = true then s.swapAnswer k [Pm.accept] else [Pm.reject])
  else if ty = 0x0B then
    if s.vconnOn k then s.swapAnswer k [Pm.accept]
    else if k < 96 then s.swapAnswer k [Pm.accept, Pm.psRdy] else [Pm.reject]
  else if k < 96 then [Pm.notSupported]
  else if ty = 0x0A then
    if s.on (PD_CFG.PRS_EN k) then
      (if !src && !(decide (15000 ≤ s.head 12) && decide (15000 ≤ s.head 13)) then [Pm.wait] else s.swapAnswer k [Pm.accept])
    else [Pm.reject]
  else if s.on (PD_CFG.FRS_EN k) && !src then s.swapAnswer k [Pm.accept] else [Pm.reject]

/-- The answer to a control message of type `ty` (R222). -/
def pdControlAnswer (s : State) (k ty : Nat) : List Nat :=
  let src := s.on (PD_ST.PWR_ROLE k)
  match ty with
  | 0x03 => [] | 0x04 => [] | 0x06 => [] | 0x0C => [] | 0x10 => []
  | 0x07 => if src || s.on (U_TC_CFG.DRP (k - 96)) then [Pm.caps] else [Pm.notSupported]
  | 0x08 => if k < 96 then [Pm.notSupported] else [Pm.sinkCaps]
  | 0x0D => if src then [Pm.accept, Pm.caps] else [Pm.accept]
  | 0x09 => s.pdSwap k ty
  | 0x0A => s.pdSwap k ty
  | 0x0B => s.pdSwap k ty
  | 0x13 => s.pdSwap k ty
  | 0x11 => [Pm.capsExt]
  | 0x12 => [Pm.status]
  | 0x14 => if src then [Pm.ppsStatus] else [Pm.notSupported]
  | 0x16 => [Pm.sourceInfo]
  | 0x18 => [Pm.revision]
  | _ => [Pm.notSupported]

/-- A Vendor_Defined message: as UFP Discover Identity is answered; as DFP the answers of the partner lead to the Skovim vendor mode, SVID
0x3B6A mode 1 (R199, R222). -/
def pdVdm (s : State) (k : Nat) (objs : List Nat) : State :=
  let w := objs.headD 0; let cmd := w % 32; let ct := w / 2 ^ 6 % 4; let vdm := (s.eng k).pol.vdm
  if ct = 0 then s.pdPush k (if cmd = 1 ∧ s.on (PD_ST.DATA_ROLE k) = false then [Pm.identity] else [Pm.notSupported])
  else if ct = 1 ∧ cmd = 1 ∧ vdm = 1 then (s.pdPush k [Pm.svids]).modPdPol k fun p => { p with vdm := 2 }
  else if ct = 1 ∧ cmd = 2 ∧ vdm = 2 ∧ (objs.tail.any fun o => o % 2 ^ 16 == 0x3B6A || o / 2 ^ 16 == 0x3B6A) = true then
    (s.pdPush k [Pm.modes]).modPdPol k fun p => { p with vdm := 3 }
  else if ct = 1 ∧ cmd = 3 ∧ vdm = 3 ∧ w / 2 ^ 16 = 0x3B6A ∧ objs.length ≥ 2 then (s.pdPush k [Pm.enter]).modPdPol k fun p => { p with vdm := 4 }
  else s

/-- EPR_Mode (R225): Enter is acknowledged and then granted or refused; a received Exit is followed by the offer. -/
def pdEpr (s : State) (k w : Nat) : List Nat :=
  if s.on (PD_ST.PWR_ROLE k) then
    match w / 2 ^ 24 with
    | 1 => if s.eprGrants k then [Pm.eprAck, Pm.eprOk, Pm.caps] else [Pm.eprAck, Pm.eprFail]
    | 5 => [Pm.caps]
    | _ => []
  else [Pm.notSupported]

/-- BIST is accepted at vSafe5V only (R222): Carrier Mode sends the carrier, recorded as kind 5, and Test Data has no answer.
[log 18: PRESUMED] -/
def pdBist (s : State) (k w : Nat) : State :=
  if s.vbusMv k ≤ 5500 ∧ (w / 2 ^ 28 = 5 ∨ w / 2 ^ 28 = 8) then (if w / 2 ^ 28 = 5 then s.emit (.pd k 5 []) else s)
  else s.pdPush k [Pm.notSupported]

/-- A message on SOP is answered (R222). -/
def pdAnswer (s : State) (k h : Nat) (objs : List Nat) : State :=
  let src := s.on (PD_ST.PWR_ROLE k); let ty := pdType h
  if pdExt h then
    if ty = 0x10 ∧ objs.headD 0 / 2 ^ 16 % 256 = 3 ∧ src = true then s.pdPush k [Pm.keepAck]
    else if ty = 0x10 ∧ objs.headD 0 / 2 ^ 16 % 256 = 1 ∧ src = true then s.pdPush k [Pm.caps]
    else if ty = 0x11 ∧ (objs.headD 0).testBit 10 = true then s.pdPush k [Pm.capsNext]
    else s.pdPush k [Pm.notSupported]
  else if pdNdo h = 0 then
    let s1 := s.pdPush k (s.pdControlAnswer k ty)
    if ty = 0x0C ∧ src = false then s1.modPdPol k fun p => { p with reqAt := s.timeMs + 101 } else s1
  else
    match ty with
    | 0x01 => if src then s.pdPush k [Pm.notSupported] else s.pdPush k [Pm.request]
    | 0x02 => if src then s.pdRequest k (objs.headD 0) else s.pdPush k [Pm.notSupported]
    | 0x09 => if src then s.pdRequest k (objs.headD 0) else s.pdPush k [Pm.notSupported]
    | 0x03 => s.pdBist k (objs.headD 0)
    | 0x06 => s
    | 0x0A => s.pdPush k (s.pdEpr k (objs.headD 0))
    | 0x0F => s.pdVdm k objs
    | _ => s.pdPush k [Pm.notSupported]

/-- The head entry of the receive FIFO is taken and answered (R218): a message on SOP, a settled transition with PS_RDY; the cable's answer
lets the offer follow. -/
def pdEntry (s : State) (k : Nat) : State :=
  match (s.eng k).rx with
  | [] => s
  | e :: _ =>
    let s1 := s.rxPop k; let w := e.headD 0
    match w / 2 ^ 29 % 8 with
    | 0 => s1.pdAnswer k (w % 2 ^ 16) ((e.drop 1).take (pdNdo w))
    | 1 => if s.get (PD_ST.CONTRACT k) = 1 then s1.pdPush k [Pm.caps] else s1
    | 5 => s1.pdPush k [Pm.psRdy, Pm.formed]
    | _ => s1

/-! ### Events of the port -/

/-- Source_Capabilities are due (R237, R244): the port is a source on VBUS with the implicit contract alone, and has not given up after two
Hard Resets. -/
def capsDue (s : State) (k : Nat) : Bool :=
  s.romServes k && s.partner k && s.on (PD_ST.PWR_ROLE k) && s.on (PP_ST.PGOOD k) && s.on (PD_CFG.EN k) && !(s.on (PD_ST.HR_SEQ k)) &&
    decide (s.get (PD_ST.CONTRACT k) = 1) && !(s.on (PD_ST.IN_TRANS k)) && decide ((s.eng k).pol.hrs < 2)

/-- PGOOD has risen, or a PR_Swap's path has ended its ramp or its discharge: the first Source_Capabilities of the ramp, after the cable's
identity where VCONN is on (R224), or PS_RDY. -/
def pdPower (s : State) (k : Nat) : State :=
  let p := (s.eng k).pol
  let mark := (s.path k).pgoodMs + 1
  if s.romServes k && decide (s.get (PD_ST.SWAP k) = 1) && s.on (PD_ST.PWR_ROLE k) && (s.on (PP_ST.PGOOD k) || decide (s.ppState k = Pp.off)) then
    (s.pdPush k [Pm.psRdy]).pdSend k
  else if s.capsDue k && decide (p.capsFor ≠ mark) then
    let ask := s.vconnOn k && !p.cable
    ((s.modPdPol k fun p => { p with capsFor := mark, capsN := 0, capsMs := s.timeMs, cable := p.cable || ask }).pdPush k
      [if ask then Pm.cable else Pm.caps]).pdSend k
  else s

/-- A grant of Basin has come for a Request that was answered Reject (R232, R293): the full offer is sent again. -/
def pdGrant (s : State) (k : Nat) : State :=
  if (s.eng k).pol.parked && decide ((s.uqOf k).grant ≠ 0) then
    (s.modPdPol k fun p => { p with parked := false, lim := if p.lim = 1 then 0 else p.lim }).pdPush k [Pm.caps]
  else s

/-- Event 16 + k: an entry has come, a transmission is over, or Basin has granted or released (R219, R291). -/
def pdEvent (s : State) (k : Nat) : State :=
  if s.romServes k then
    let s1 := (List.range 4).foldl (fun s _ => s.pdEntry k) (s.pdGrant k)
    (List.range 3).foldl (fun s _ => s.pdSend k) s1
  else s

/-- The policy's timers of port k at a 1 ms tick (R244): Source_Capabilities every 150 ms, at most 50, until a Request comes; a sink's Request
100 ms after a Wait. -/
def pdTick (s : State) (k : Nat) : State :=
  let p := (s.eng k).pol
  if p.reqAt ≠ 0 ∧ p.reqAt ≤ s.timeMs + 1 ∧ s.romServes k = true then
    ((s.modPdPol k fun p => { p with reqAt := 0 }).pdPush k [Pm.request]).pdSend k
  else if s.capsDue k && decide (p.capsFor = (s.path k).pgoodMs + 1) && !p.answered && decide (p.capsN < 50) && p.todo.isEmpty &&
      decide (p.capsMs + 150 ≤ s.timeMs) then (s.pdPush k [Pm.caps]).pdSend k
  else s

end State

end Sys2Proof.Machine
end

