-- ==== Sys2Proof/Machine/RomPolicy.lean ====
section
/-!
DEFINITION. The ROM program's work at its 1 ms tick: the SHED policy (R304), Alert on overtemperature (R222), and the recovery of a memory
bank (R107).
-/

namespace Sys2Proof.Machine

namespace State

/-- Change what the ROM program keeps for its 1 ms work. -/
def modWork (s : State) (f : RomWork → RomWork) : State := s.modBoot fun b => { b with work := f b.work }

/-- Now, as `RomWork` keeps times. -/
def workNow (s : State) : Nat := s.timeMs + 1

/-! ### SHED (R304) -/

/-- A hardware cause of SHED is present. -/
def shedHot (s : State) : Bool := decide (s.get BSN_SHED_ST.CAUSE % 16 ≠ 0)

/-- Since when a hardware cause has been present, or none has. -/
def shedWatch (s : State) : State :=
  s.modWork fun w =>
    if s.shedHot then { w with hotAt := if w.hotAt = 0 then s.workNow else w.hotAt, calmAt := 0 }
    else { w with calmAt := if w.calmAt = 0 then s.workNow else w.calmAt, hotAt := 0, raised := 0 }

/-- LEVEL is raised to v, and never lowered, once for a lasting cause. -/
def shedRaise (s : State) (v : Nat) : State :=
  let s1 := s.modWork fun w => { w with raised := v }
  if s.get BSN_SHED_CTL.LEVEL < v then (s1.wrShedLevel v).modWork fun w => { w with wrote := v, restore := false } else s1

/-- LEVEL follows how long a cause has lasted: 3 after 2 s, 4 after 5 s more; 0 after 10 s without one, where LEVEL still holds what the ROM
program last wrote. -/
def shedLevel (s : State) : State :=
  let w := s.boot.work; let now := s.workNow
  if w.hotAt ≠ 0 then
    if decide (w.hotAt + 7000 ≤ now) && decide (w.raised < 4) then s.shedRaise 4
    else if decide (w.hotAt + 2000 ≤ now) && decide (w.raised < 3) then s.shedRaise 3
    else s
  else if w.calmAt + 10000 ≤ now ∧ w.wrote ≠ 0 ∧ s.get BSN_SHED_CTL.LEVEL = w.wrote then
    (s.wrShedLevel 0).modWork fun w => { w with wrote := 0, restore := true }
  else s

/-- Downstream ports whose contract SHED lowers: KIND PPS, EPR or AVS, not lowered yet. -/
def shedPorts (s : State) : List Nat :=
  (List.range 96).filter fun n =>
    decide (s.get (PD_ST.CONTRACT n) = 2) && decide (1 ≤ s.get (PD_ST.KIND n)) && decide (s.get (PD_ST.KIND n) ≤ 3) && s.romServes n &&
      decide ((s.eng n).pol.shed = 0)

/-- The port visited next: the largest charge, then the higher number. -/
def shedNext (s : State) : Option Nat :=
  s.shedPorts.foldl (fun a n => match a with
    | none => some n
    | some m =>
      let x := s.get (BSN_CHG.CHARGE m); let y := s.get (BSN_CHG.CHARGE n)
      if x < y ∨ (x = y ∧ m < n) then some n else some m) none

/-- Dn is offered positions 1 to 3 only; an EPR port leaves EPR mode later. -/
def shedLower (s : State) (n : Nat) : State :=
  ((s.modPdPol n fun p => { p with lim := 2, shed := if s.on (PD_ST.EPR_MODE n) then 1 else 2 }).pdPush n [Pm.caps]).pdSend n

/-- A lowered EPR port whose contract is 20 V or less leaves EPR mode, and its SPR offer follows. -/
def shedExit (s : State) : State :=
  s.engs.foldl (fun s e =>
    let n := e.1
    if decide ((s.eng n).pol.shed = 1) && decide (s.get (PD_ST.CONTRACT n) = 2) && decide (s.get (PD_CONTRACT.VOLT n) ≤ 1000) &&
        !(s.on (PD_ST.IN_TRANS n)) then
      ((s.modPdPol n fun p => { p with shed := 2 }).pdPush n (if s.on (PD_ST.EPR_MODE n) then [Pm.eprExit, Pm.caps] else [Pm.caps])).pdSend n
    else s) s

/-- A lowered port receives its full offer again. -/
def shedRestore (s : State) : State :=
  match s.engs.find? fun e => decide (e.2.pol.shed ≠ 0) with
  | some (n, _) =>
    (((s.modPdPol n fun p => { p with shed := 0, lim := if p.lim = 2 then 0 else p.lim }).pdPush n [Pm.caps]).pdSend n).modWork fun w =>
      { w with visitAt := s.workNow }
  | none => s.modWork fun w => { w with restore := false }

/-- One port every 100 ms: lowered while the effective level is 3 or more, restored once LEVEL is 0 again. Which lowered port comes first is
not said: the lowest-numbered. [log 59: DESIGN CHOICE] -/
def shedVisit (s : State) : State :=
  let w := s.boot.work
  if w.visitAt ≠ 0 ∧ s.workNow < w.visitAt + 100 then s
  else if 3 ≤ s.get BSN_SHED_ST.LEVEL then
    match s.shedNext with
    | some n => (s.shedLower n).modWork fun w => { w with visitAt := s.workNow }
    | none => s
  else if w.restore then s.shedRestore
  else s

/-- The SHED policy of the ROM program (R304). -/
def romShed (s : State) : State := s.shedWatch.shedLevel.shedExit.shedVisit

/-- Event 10 (R222, R325): a sink on Uu sends Alert once while a die is over temperature. -/
def romAlert (s : State) : State :=
  let hot := (s.get BSN_SHED_ST.CAUSE).testBit 0
  if hot && !s.boot.work.alerted then
    ((List.range 4).foldl (fun s u =>
      let k := 96 + u
      if s.romServes k && decide (s.get (PD_ST.CONTRACT k) = 2) && !(s.on (PD_ST.PWR_ROLE k)) then (s.pdPush k [Pm.alert]).pdSend k
      else s) s).modWork fun w => { w with alerted := true }
  else if hot then s else s.modWork fun w => { w with alerted := false }

/-! ### Recovery of a bank (R107) -/

/-- CD_PAR_ERR_CNT of bank b has risen in two different microframes within 1 s. -/
def parTwice (s : State) (b : Nat) : Bool :=
  let e := Tbl.get s.flow.parErr (0, 0) b
  decide (e.1 ≠ 0) && decide (e.1 < e.2) && decide (e.2 ≤ e.1 + 8000)

/-- Write CD_PROT as the ROM program: the last result code of the fabric stays another master's. -/
def romProt (s : State) (v : Nat) : State := (s.wrProt v).answer s.fab.rc

/-- Recovery of bank b: its bit is set after errors in two microframes, and cleared after 600 s without a corrected word. -/
def romBank (s : State) (b : Nat) : State :=
  let prot := s.get CD_PROT.SECDED
  if s.parTwice b && !(prot.testBit b) && !((s.get CD_PROT_PEND.PEND).testBit b) then
    (((s.romProt (prot + 2 ^ b)).modFlow fun d =>
      { d with parErr := Tbl.set d.parErr (0, 0) b (0, 0), corrAt := Tbl.set d.corrAt 0 b s.workNow })).modWork fun w =>
        { w with recov := w.recov ||| 2 ^ b }
  else if s.boot.work.recov.testBit b && !((s.get CD_PROT_PEND.PEND).testBit b) &&
      decide (Tbl.get s.flow.corrAt 0 b + 600000 ≤ s.workNow) then
    (if prot.testBit b then s.romProt (prot - 2 ^ b) else s).modWork fun w => { w with recov := w.recov - 2 ^ b }
  else s

/-- The ROM program kicks the watchdog every 100 ms; at which of its ticks is not said: those of a whole 100 ms of TB (R523).
[log 59: DESIGN CHOICE] -/
def romKick (s : State) : State := if s.timeMs % 100 = 0 then s.kick else s

/-- Event 15 (R325, R328): the 1 ms work of the ROM program. -/
def romTick (s : State) : State :=
  let s1 := (List.range 32).foldl romBank s.romShed.romKick
  (s1.engs.map (·.1)).foldl pdTick s1

end State

end Sys2Proof.Machine
end

