-- ==== Sys2Proof/Machine/RomService.lean ====
section
/-!
DEFINITION. What the ROM program does for a thread that traps (R342, R388), and on its own events (R517, R547).
-/

namespace Sys2Proof.Machine

namespace State

/-- The ROM program's handler serves thread t: the ROM program runs and TK_TVEC[t] names its handler (R345, R388). -/
def romHandles (s : State) (t : Nat) : Bool := s.boot.rom && decide (s.get (TK_TVEC.VEC t) = 0x10001)

/-- RELEASE_PORT (R388): the ROM's policy for port k ends, and a queue entry is cancelled. -/
def releasePort (s : State) (k : Nat) : State × Nat :=
  if 99 < k then (s, 2)
  else if s.boot.released.contains k then (s, 1)
  else
    let s1 := s.modBoot fun b => { b with released := k :: b.released }
    ((if (s.uqOf k).pend then (s1.setUq k {}).basinRefresh else s1), 0)

/-- RELEASE_TREE (R388): the ROM program no longer serves mailbox u. -/
def releaseTree (s : State) (u : Nat) : State × Nat :=
  if 3 < u then (s, 2)
  else if s.boot.released.contains (128 + u) then (s, 1)
  else (s.modBoot fun b => { b with released := (128 + u) :: b.released }, 0)

/-- CONSOLE_PUT (R388): 1 to 64 bytes of local memory, when a session is open. -/
def consolePut (s : State) (t a n : Nat) : State × Nat :=
  if s.get SV_ST.SESSION = 0 then (s, 1)
  else if n < 1 ∨ 64 < n ∨ regionAt a n ≠ .loc then (s, 2)
  else (s.conNums ((s.getBytes t a n).map (·.toNat)), 0)

/-- TK_VERSION as it reads (R346). -/
def tkVersion : Nat := 0x01001240

/-- A ROM service for thread t, called at privilege `sys` (R388): the state and the result code.
[log 14: DESIGN CHOICE; log 52: DEDUCED] -/
def service (s : State) (t code : Nat) (sys : Bool) : State × Nat :=
  match code with
  | 0x00 => ((s.setG t 2 (w32 tkVersion)).setG t 3 (w32 (s.get G_BOOT_VER.IMG_VER)), 0)
  | 0x01 => (s.logRec 0x00 t (s.g t 2).toNat (s.g t 3).toNat, 0)
  | 0x02 => if sys then s.releasePort (s.g t 2).toNat else (s, 1)
  | 0x03 => if sys then s.releaseTree (s.g t 2).toNat else (s, 1)
  | 0x04 => s.consolePut t (s.g t 2).toNat (s.g t 3).toNat
  | 0x05 => if sys then (let s1 := s.confirm; (s1, s1.fab.rc.code)) else (s, 1)
  | _ => (s, 2)

/-- Return from the exception being handled (R340). [log 52: DEDUCED] -/
def eretT (s : State) (t : Nat) : State :=
  s.modThread t fun h => { h with pc := w32 (s.get (TK_TEPC.EPC t)), priv := s.on (TK_TEXC.EPRIV t), exc := false }

/-- The ROM's handler: codes 0x00 to 0x3F are its services, with the result in g1; any other code stops the thread (R342). -/
def romHandler (s : State) (t code : Nat) (sys : Bool) : State :=
  if code < 0x40 then
    let r := s.service t code sys
    (r.1.setG t 1 (w32 r.2)).eretT t
  else s.threadOff t

/-- The trap instruction (R340, R342, R343, R365). [log 52: DEDUCED] -/
def trap (s : State) (t code : Nat) : State :=
  let h := s.thread t
  if h.exc then s.exception t Ex.trap (h.pc + 4) 0
  else
    let s1 := (s.set (TK_TEXC.TCODE t) code).exception t Ex.trap (h.pc + 4) 0
    if s.romHandles t then s1.romHandler t code h.priv else s1

/-- ROM threads in FAULTED that the ROM program stops and starts, each at most once in 10 s (R517). [log 52: DEDUCED] -/
def romRestart (s : State) : State :=
  (List.range 16).foldl (fun s t =>
    let last := Tbl.get s.boot.restarted 0 t
    if decide ((s.thread t).state = .faulted) && (decide (last = 0) || decide (last + 10000 ≤ s.timeMs + 1)) then
      ((s.threadOff t).modThread t fun h => { h with
        state := .run, gpr := [], eve := 0, exc := false, priv := s.on (TK_TCFG.START_PRIV t)
        pc := BitVec.ofNat 32 (4 * s.get (TK_TPC.PC t)) }).modBoot fun b =>
          { b with restarted := Tbl.set b.restarted 0 t (s.timeMs + 1) }
    else s) s

/-- The ROM program takes event 12 on T0 (R517): a SOFTWARE record of FC_SUMMARY, printed in an open service session, and the restart
of a faulted ROM thread. -/
def romFaultNotice (s : State) : State :=
  let lo := s.summary % 2 ^ 32; let hi := s.summary / 2 ^ 32
  let s1 := s.logRec 0x00 0 lo hi
  let s2 := if s1.get SV_ST.SESSION = 2 then s1.conNums [lo, hi] else s1
  s2.romRestart

/-- Passed console lines that wait, which the ROM program answers with STALL (R547). [log 52: DEDUCED] -/
def romStall (s : State) : State :=
  ((s.mbox 4).filter fun m => !m.taken).foldl (fun s m =>
    (s.setMbox 4 ((s.mbox 4).filter fun x => !(x.tag == m.tag))).passedEnd m.tag true) s

/-- What the ROM program does with event e that its thread t has taken, where it runs in ROM and the event is routed as R220 and R328
give. [log 14: DESIGN CHOICE; log 52: DEDUCED; log 59: DESIGN CHOICE] -/
def romEvent (s : State) (t e : Nat) : State :=
  if !s.boot.rom then s
  else if t = 0 then
    match e with
    | 8 => s.romStall
    | 10 => s.romAlert
    | 12 => s.romFaultNotice
    | _ => s
  else if t = 3 then (if e = 15 then s.romTick else s)
  else if t < 8 then
    if e = t then s.romTree (t - 4)
    else if decide (116 ≤ e ∧ e < 216) && decide ((e - 116) % 4 = t - 4) then s.pdPower (e - 116)
    else s
  else if decide (16 ≤ e ∧ e < 116) && decide (t = 8 + (e - 16) % 8) then s.pdEvent (e - 16)
  else s

/-- A WAIT of thread t ends with its lowest enabled pending event; a ROM thread in ROM then does its work. [log 52: DEDUCED] -/
def waitTake (s : State) (t rd : Nat) : State :=
  match s.nextEvent t with
  | some e =>
    if decide (regionAt (s.thread t).pc.toNat 4 = .rom) then (s.waitEnd t rd).romEvent t e else s.waitEnd t rd
  | none => s

end State

end Sys2Proof.Machine
end

