-- ==== Sys2Proof/Machine/EventIsa.lean ====
section
/-!
DEFINITION. Torik's event, timer and control instructions (R323, R324, R329, R342, R364, R365).
-/

namespace Sys2Proof.Machine

namespace State

/-- Word i of a 256-bit mask. -/
def maskWord (m : BitVec 256) (i : Nat) : Word := (m >>> (32 * i)).setWidth 32

/-- A word placed at word i of a 256-bit mask. -/
def maskAt (w : Word) (i : Nat) : BitVec 256 := (w.setWidth 256) <<< (32 * i)

/-- First µs tick of TB at or after v µs from now (R329). [log 4: DESIGN CHOICE; log 16: DEDUCED] -/
def timerDue (s : State) (v : Nat) : Nat := (s.tb + 479) / 480 + v

/-- Timer j is set to v µs, or stopped by 0; its pending bit falls. [log 16: DEDUCED] -/
def timerSet (s : State) (t j v : Nat) (p : Bool) : State :=
  let m : Timer := if v = 0 then {} else { on := true, due := s.timerDue v, reload := if p then v else 0 }
  (s.modThread t fun h => { h with timers := Tbl.set h.timers {} j m }).takeEvent t j

/-- µs until the next expiry of timer j; 0 for a stopped timer. -/
def timerLeft (s : State) (t j : Nat) : Nat := if (s.timer t j).on then (s.timer t j).due - s.timeUs else 0

end State

open State

/-- WAIT takes the lowest enabled pending event, or blocks; the PC stays at the WAIT until it ends. -/
def execWait (t rd : Nat) (s : State) : Res State :=
  act s fun s => s.issue t (wE 0x01 rd 0 0) fun s =>
    match s.nextEvent t with
    | some _ => s.waitTake t rd
    | none => s.modThread t fun h => { h with state := .wait, waitRd := rd }

/-- A thread in WAIT issues again once an enabled event is pending (R324). -/
def execWaitWake (t : Nat) (s : State) : Res State :=
  act s fun s => if (s.thread t).state = .wait then s.waitTake t (s.thread t).waitRd else s

def execEtest (t rd : Nat) (s : State) : Res State :=
  act s fun s => s.issue t (wE 0x02 rd 0 0) fun s =>
    match s.nextEvent t with
    | some e => (s.takeEvent t e).result t rd (w32 e)
    | none => s.result t rd 0xFFFFFFFF

def execEvs (t i ra : Nat) (s : State) : Res State :=
  act s fun s => s.issue t (wE 0x04 0 ra i) fun s =>
    (s.modThread t fun h => { h with eve := h.eve ||| maskAt (s.g t ra) i }).nextPc t

def execEvc (t i ra : Nat) (s : State) : Res State :=
  act s fun s => s.issue t (wE 0x05 0 ra i) fun s =>
    (s.modThread t fun h => { h with eve := h.eve &&& ~~~(maskAt (s.g t ra) i) }).nextPc t

def execEvr (t rd i : Nat) (s : State) : Res State :=
  act s fun s => s.issue t (wE 0x06 rd 0 i) fun s => s.result t rd (maskWord (s.thread t).eve i)

def execEvpr (t rd i : Nat) (s : State) : Res State :=
  act s fun s => s.issue t (wE 0x07 rd 0 i) fun s => s.result t rd (maskWord (s.thread t).evp i)

def execTset (t j : Nat) (p : Bool) (ra : Nat) (s : State) : Res State :=
  act s fun s => s.issue t (wE 0x08 0 ra (j + 4 * p.toNat)) fun s => (s.timerSet t j (s.g t ra).toNat p).nextPc t

def execTrd (t rd j : Nat) (s : State) : Res State :=
  act s fun s => s.issue t (wE 0x09 rd 0 j) fun s => s.result t rd (w32 (s.timerLeft t j))

/-- TRAP: its code, and the exception with the next instruction as EPC; where the ROM's handler is in force, its service too. While an
exception is handled, the thread is FAULTED and the saved code stays (R342, R343, R365, R388). -/
def execTrap (t code : Nat) (s : State) : Res State := act s fun s => s.issue t (wE 0x10 0 0 code) fun s => s.trap t code

/-- ERET restores the PC and the privilege and clears EXC; without an exception it raises ILLEGAL (R340, R365). -/
def execEret (t : Nat) (s : State) : Res State :=
  act s fun s => s.issue t (wE 0x11 0 0 0) fun s =>
    let h := s.thread t
    if !h.priv then
      if h.exc then s.exception t Ex.priv h.pc 0 else s.exception t Ex.illegal h.pc 0
    else if !h.exc then s.exception t Ex.illegal h.pc 0
    else s.eretT t

def execTid (t rd : Nat) (s : State) : Res State :=
  act s fun s => s.issue t (wE 0x12 rd 0 0) fun s =>
    s.result t rd (w32 (t + (s.thread t).priv.toNat * 2 ^ 31))

end Sys2Proof.Machine
end

