-- ==== Sys2Proof/Machine/Rom.lean ====
section
/-!
DEFINITION. The end of boot (R379 to R381): choice of bank, loading, the ROM program's start-up writes (R387), the register table
(R375) and the start of the threads.
-/

namespace Sys2Proof.Machine

namespace State

/-! ### The ROM program's start-up writes (R387) -/

/-- Logical place of Dn under the ROM map (R48): P_MAP[n]. -/
def romMap (n : Nat) : Nat :=
  let u := n / 24; let j := n % 24
  2 ^ 30 + u * 2 ^ 12 + (if j ≤ 12 then (j + 1) * 2 ^ 4 else 1 * 2 ^ 8 + (j - 12) * 2 ^ 4)

/-- CD_QCFG word of an enabled queue. -/
def qcfgWord (bank size base : Nat) : Nat := 2 ^ 31 + bank * 2 ^ 24 + size * 2 ^ 20 + base

/-- The three queues of Dn (R387, worked example 5 of chapter 03): IN and TT in bank n / 4, OUT in the two banks of the tree.
[log 24: DEDUCED] -/
def romPortQueues (n : Nat) : List (Nat × Nat) :=
  let u := n / 24; let j := n % 24
  [(R.CD_QTHR n, 32), (R.CD_QWM n, 3072 * 2 ^ 16 + 1024), (R.CD_QCFG n, qcfgWord (n / 4) 6 (4096 * (n % 4))),
   (R.CD_QTHR (96 + n), 32), (R.CD_QWM (96 + n), 3072 * 2 ^ 16 + 1024),
   (R.CD_QCFG (96 + n), qcfgWord (24 + 2 * u + j / 12) 6 (4096 * (j % 12))),
   (R.CD_QTHR (192 + n), 32), (R.CD_QCFG (192 + n), qcfgWord (n / 4) 3 (16384 + 512 * (n % 4))),
   (R.P_QSEL n, (192 + n) * 2 ^ 20 + (96 + n) * 2 ^ 10 + n)]

/-- The two queues of Uu. [log 24: DEDUCED] -/
def romUpQueues (u : Nat) : List (Nat × Nat) :=
  [(R.CD_QTHR (288 + u), 32), (R.CD_QCFG (288 + u), qcfgWord 23 2 (18432 + 256 * u)),
   (R.CD_QTHR (292 + u), 32), (R.CD_QCFG (292 + u), qcfgWord 23 2 (18432 + 256 * (4 + u))),
   (R.U_QSEL u, (288 + u) * 2 ^ 16 + (292 + u))]

/-- Policer p of a downstream port (R151). -/
def romPolicer (p : Nat) : List (Nat × Nat) :=
  [(R.TM_PL_CFG p, 8 * 2 ^ 8 + 1), (R.TM_PL_CIR p, 75625), (R.TM_PL_PIR p, 151250), (R.TM_PL_CBS p, 16384), (R.TM_PL_PBS p, 32768)]

/-- Thread an event is routed to (R328). -/
def romRoute (e : Nat) : Option Nat :=
  if 4 ≤ e ∧ e ≤ 7 then some e
  else if e = 8 ∨ e = 10 ∨ e = 11 ∨ e = 12 then some 0
  else if e = 9 then some 1
  else if e = 13 then some 2
  else if e = 15 then some 3
  else if 116 ≤ e ∧ e < 216 then some (4 + (e - 116) % 4)
  else none

/-- TK_EVROUTE[i] (R328). -/
def romRouteWord (i : Nat) : Nat :=
  ((List.range 4).map fun j => match romRoute (4 * i + j) with
    | some t => (128 + t) * 2 ^ (8 * j)
    | none => 0).sum

/-- Every write of R387, on present units only; TK_EVROUTE is written in full on every variant, events of absent units included, for which R328
makes no exception. [log 60: DESIGN CHOICE] -/
def romWrites (v : Variant) : List (Nat × Nat) :=
  let ds := List.range (dsPorts v); let us := List.range (usPorts v)
  [(R.CD_PROT, 0), (R.FC_WDOG, 1000)] ++
    (ds.map fun n => [(R.P_MAP n, romMap n), (R.P_TC_CFG n, 0x00961479)] ++ romPortQueues n ++ romPolicer (2 * n) ++
      romPolicer (2 * n + 1) ++ [(R.TM_SH_SLOPE n, 2 ^ 31 + 0x04BA00)]).flatten ++
    (us.map fun u => [(R.U_TREE u, 0x32 * 2 ^ 16 + 2 ^ 15 + 2), (R.U_MGMT u, 0xF * 16 ^ u), (R.TM_SH_SLOPE (96 + u), 2 ^ 31 + 0x04BA00)] ++
      romUpQueues u).flatten ++
    ((List.range (sbChannels v)).map fun c => (R.G_SB_CFG c, 1 * 2 ^ 30)) ++
    ((List.range 54).map fun i => (R.TK_EVROUTE i, romRouteWord i))

/-- PD_CFG[k].THREAD (R220, R387): the other fields stay at their reset values. -/
def romPdThreads (s : State) : State :=
  ((List.range 100).filter s.kHere).foldl (fun s k => s.set (PD_CFG.THREAD k) (8 + k % 8)) s

/-- The ROM program's start-up writes. -/
def romStart (s : State) : State := ((romWrites s.variant).foldl (fun s w => s.write32 .boot w.1 w.2) s).romPdThreads

/-! ### The image (R375, R376, R381) -/

/-- A register table entry an extending image may not make (R378): a register of T0 to T15, or one with PD_CFG[k].THREAD.
[log 32: DEDUCED] -/
def extendBars (a : Nat) : Bool :=
  let r := regOf a
  (decide (0x10000 ≤ r) && decide (r < R.TK_TCTL 16)) ||
    (decide (0x100000 ≤ r) && decide ((r - 0x100000) % 0x400 = 0x100))

/-- An entry is skipped: CFG_ERR and a record with its index (R375). -/
def tableSkip (s : State) (i : Nat) : State := (s.set G_BOOT_ST.CFG_ERR 1).logRec 0x0B 0x04 0 i

/-- One entry of the register table. [log 32: DEDUCED] -/
def tableEntry (s : State) (ext : Bool) (i a v : Nat) : State :=
  if ext && extendBars a then s.tableSkip i
  else
    let s1 := s.write32 .boot a v
    if s1.fab.rc = .ok then s1 else s1.tableSkip i

/-- The register table of bank b: at most 1,024 entries of eight bytes from offset o. [log 32: DEDUCED] -/
def applyTable (s : State) (b o n : Nat) (ext : Bool) : State :=
  (List.range n).foldl (fun s i => s.tableEntry ext i (s.flashLe b (o + 8 * i) 4 % 2 ^ 24) (s.flashLe b (o + 8 * i + 4) 4)) s

/-- Descriptor records of defined types (R376). [log 49: DEDUCED] -/
def descRecords (l : List Byte) (fuel : Nat) : List (Nat × List Byte) :=
  match fuel, l with
  | n + 1, t :: len :: rest =>
    let r := descRecords (rest.drop len.toNat) n
    if 1 ≤ t.toNat ∧ t.toNat ≤ 5 then (t.toNat, rest.take len.toNat) :: r else r
  | _, _ => []

/-- Code and data sections go to their memories (R381 step 4). -/
def loadSections (s : State) (b : Nat) (h : Header) : State :=
  s.modTk fun k => { k with
    imem := loadBytes k.imem h.iLoad (s.flashBytes b 0x80 h.iSize)
    dmem := loadBytes k.dmem h.dLoad (s.flashBytes b (0x80 + h.iSize) h.dSize) }

/-- Thread t starts at a byte address, in system mode (R381 step 6). -/
def bootThread (s : State) (t a : Nat) : State :=
  (s.set (TK_TPC.PC t) (a / 4)).modThread t fun _ => { state := .run, priv := true, pc := BitVec.ofNat 32 (a - a % 4) }

/-- The ROM program's threads start. Their entry points in ROM are not given: free values there. [log 14: DESIGN CHOICE] -/
def startRomThreads (s : State) : State :=
  (List.range 15).foldl (fun s i =>
    (s.freeNext.modThread (i + 1) fun _ => { state := .run, priv := true, pc := BitVec.ofNat 32 (0x40000 + 4 * s.freeVal 0x4000) })) s

/-- The threads an image starts. [log 32: DEDUCED] -/
def startImageThreads (s : State) (h : Header) : State :=
  let s1 := ((List.range 64).filter h.threads.testBit).foldl (fun s t => s.bootThread t h.entry) s
  if h.extend || h.threads.testBit 0 then s1 else s1.threadOff 0

/-- Bank b runs (R381 steps 4 to 6, R382). [log 49: DEDUCED] -/
def runBank (s : State) (b : Nat) : State :=
  let h := s.header b
  let s1 := s.loadSections b h
  let s2 := if h.extend then s1.romStart else s1
  let s3 := s2.applyTable b (0x80 + h.iSize + h.dSize) (h.cSize / 8) h.extend
  let s4 := (s3.set G_BOOT_ST.SOURCE (b + 1)).set G_BOOT_VER.IMG_VER h.ver
  let s5 := s4.modBoot fun x => { x with
    desc := descRecords (s.flashBytes b (0x80 + h.iSize + h.dSize + h.cSize) h.uSize) h.uSize
    confirmWait := true, rom := h.extend, advSvn := if h.advRb then h.svn else 0 }
  (if h.extend then s5.startRomThreads else s5).startImageThreads h

/-- The ROM program runs alone. -/
def runRom (s : State) : State := (s.romStart.modBoot fun x => { x with rom := true }).startRomThreads

/-- A bank whose quad read failed and whose single-line read passed (R380): record and F41. -/
def singleLine (s : State) (b : Nat) (quadBad : Bool) : State :=
  let c := s.bankCheck b
  if quadBad && (decide (c = Chk.ok) || decide (Chk.crc < c)) then (s.logRec 0x0B 0x05 0 b).faultOnset 41 b 0 else s

/-- The boot loader on T0 decides what runs (R379). -/
def boot379 (s : State) (quadBadA quadBadB : Bool) : State :=
  let straps := s.get G_STRAP.STRAPS
  if straps.testBit 0 then ((s.set G_BOOT_ST.STAT_A Chk.notRead).set G_BOOT_ST.STAT_B Chk.notRead).runRom
  else
    let a := s.bootCode 0; let b := s.bootCode 1
    let s1 := (((s.set G_BOOT_ST.STAT_A a).set G_BOOT_ST.STAT_B b).singleLine 0 quadBadA).singleLine 1 quadBadB
    match bankChoice (straps / 2 % 4) a b (s.header 0).ver (s.header 1).ver with
    | some x => s1.runBank x
    | none => s1.runRom

end State

open State

/-- The end of boot: `quadBadA`, `quadBadB` say that a bank's payload read badly in quad mode (R380). -/
def execImageLoaded (quadBadA quadBadB : Bool) (s : State) : Res State :=
  act s fun s =>
    if s.mode = .rise ∧ s.unitReady 7 = false ∧ (s.thread 0).state = .run then
      ((s.boot379 quadBadA quadBadB).setUnit 7).readyRefresh
    else s

end Sys2Proof.Machine
end

