-- ==== Sys2Proof/Machine/Console.lean ====
section
/-!
DEFINITION. The service console (R535 to R547): sessions, the commands that print, and the commands that write.

The spec gives what a command prints, and not how: here each prints the registers and counts its chapter names, as numbers (log 40).
-/

namespace Sys2Proof.Machine

namespace State

/-! ### Who may command (R541, R545, R546) -/

/-- The console takes input: from RISE on (R444). -/
def conAlive (s : State) : Bool :=
  match s.mode with
  | .off => false
  | .hold => false
  | .strap => false
  | _ => true

/-- A command of session kind `need` (0 any, 1 view or service, 2 service), allowed in SAFE where `safe`. While another command runs,
input only waits. [log 41: DEDUCED] -/
def conGate (s : State) (need : Nat) (safe : Bool) (f : State → State) : State :=
  if !s.conAlive || s.svc.passed.isSome then s
  else if decide (s.mode = .safe) && !safe then s.conErr "WRONG_STATE"
  else if s.get SV_ST.SESSION < need then s.conErr "SESSION"
  else f s

/-- A service command on port k, which must be held where it is a downstream port. [log 43: DEDUCED] -/
def conHeld (s : State) (k : Nat) (f : State → State) : State :=
  s.conGate 2 false fun s =>
    if 99 < k ∨ s.kHere k = false then s.conErr "RANGE"
    else if decide (k < 96) && !(s.held k) then s.conErr "SESSION"
    else f s

/-! ### Register access (R543) -/

/-- One 32-bit write by the console: a SERVICE record, and the guard's second write where the first answers PEND. [log 43: DEDUCED] -/
def conWrite (s : State) (a v : Nat) : State × RC :=
  let s1 := (s.svcRec 0x06 a).write32 .console a v
  if s1.fab.rc = .pend then
    let s2 := s1.write32 .console (a + 2 ^ 22) (2 ^ 32 - 1 - v)
    (s2, s2.fab.rc)
  else (s1, s1.fab.rc)

/-- Writes in order, up to the first that is not OK. -/
def conWrites (s : State) (l : List (Nat × Nat)) : State × RC :=
  match l with
  | [] => (s, .ok)
  | (a, v) :: r =>
    let x := s.conWrite a v
    if x.2 = .ok then conWrites x.1 r else x

/-- The status line, unless the write has reset the part. -/
def conEnd (x : State × RC) : State := if x.1.conAlive then x.1.conRc x.2 else x.1

/-- A command that is some register writes. -/
def conDo (s : State) (l : List (Nat × Nat)) : State := conEnd (s.conWrites l)

/-- Registers as the console reads them, in order. -/
def conReads (s : State) (l : List Nat) : State × List Nat :=
  l.foldl (fun (x : State × List Nat) a =>
    let s1 := x.1.read32 .console a
    (s1, x.2 ++ [s1.fab.data])) (s, [])

/-- Print registers, then other values, and OK. -/
def conShow (s : State) (l : List Nat) (more : State → List Nat) : State :=
  let x := s.conReads l
  (x.1.conNums (x.2 ++ more x.1)).conOk

/-- A view command that prints registers. -/
def conView (s : State) (safe : Bool) (l : List Nat) (more : State → List Nat) : State :=
  s.conGate 1 safe fun s => s.conShow l more

/-- A view command on an index, out of range above `last`. -/
def conViewAt (s : State) (i last : Nat) (l : List Nat) (more : State → List Nat) : State :=
  s.conGate 1 false fun s => if last < i then s.conErr "RANGE" else s.conShow l more

/-! ### Sessions (R539 to R542) -/

/-- One port freed by the console, with its restoring ON (R544). [log 41: DEDUCED] -/
def conFreeOne (s : State) (n : Nat) : State :=
  if s.freeRestores n then
    let s1 := s.ppOn n
    s1.freeHold n (decide (s1.fab.rc ≠ .ok))
  else s.freeHold n false

/-- After ports were freed: an injection ends with SERVICE (R526), and G_MODE may have moved. -/
def freeAfter (s old : State) : State :=
  (if old.cService && !s.cService && decide (s.mode ≠ .selftest) then s.injExpire else s).modeNote old

/-- Every held port is freed. -/
def conFreeHeld (s : State) : State := (s.heldPorts.foldl conFreeOne s).freeAfter s

/-- The console leaves its bridge channel (R204). -/
def sbDetach (s : State) : State := s.channels.foldl (fun s c => s.set (G_SB_CFG.CONSOLE c) 0) s

/-- A service session ends: its ports are freed and its channel left. [log 41: DEDUCED] -/
def serviceEnd (s : State) : State := if s.get SV_ST.SESSION = 2 then s.conFreeHeld.sbDetach else s

/-- The session closes: 0 `bye`, 1 idle timeout (R541, R559). [log 41: DEDUCED] -/
def sessionClose (s : State) (why : Nat) : State :=
  ((s.serviceEnd.svcRec 0x02 why).set SV_ST.SESSION 0).set SV_ST.OSP 0

/-- The line `hello` answers (R539). -/
def helloLine (s : State) (v : Nat) : String :=
  "OSP " ++ (if v = 0x11 then "1.1" else "1.0") ++
    (match s.variant with | .klh9600 => " KLH9600" | .klh9610 => " KLH9610" | .klh4800 => " KLH4800") ++ " B1 ROM 0x12 IMG " ++
    hexWord (s.get G_BOOT_VER.IMG_VER) ++ " DIE 0x" ++ hexText (s.get G_DIE_ID_HI.ID / 65536) 4 ++ "_" ++ hexText (s.get G_DIE_ID_HI.ID) 4 ++
    "_" ++ hexText (s.get G_DIE_ID_LO.ID / 65536) 4 ++ "_" ++ hexText (s.get G_DIE_ID_LO.ID) 4

/-- `hello`: v is sixteen times the major version plus the minor. [log 41: DEDUCED] -/
def conHello (s : State) (hasV : Bool) (v : Nat) : State :=
  s.conGate 0 true fun s =>
    if hasV && decide (v < 0x10) then s.conErr "RANGE"
    else
      let osp := if hasV && decide (0x11 ≤ v) then 0x11 else 0x10
      let s1 := s.set SV_ST.OSP osp
      let s2 := if s.get SV_ST.SESSION = 0 then
          let s2 := (s1.set SV_ST.SESSION 1).inc R.SV_SESSION_CNT
          (s2.modSvc fun x => { x with opened := s2.cnt R.SV_SESSION_CNT }).svcRec 0x01 (1 * 2 ^ 30 + osp)
        else s1
      (s2.conLine (s2.helloLine osp)).conOk

def conBye (s : State) : State :=
  s.conGate 0 true fun s => if s.get SV_ST.SESSION = 0 then s.conErr "SESSION" else (s.sessionClose 0).conOk

/-- Commands the present state accepts, by session kind. -/
def helpText (s : State) : String :=
  match s.get SV_ST.SESSION with
  | 0 => "hello help"
  | 1 => "hello bye help service view baud echo cap mode ready rst safe boot update status map port tc moist lp pp pd sb bsn temp " ++
      "caldera ept pol shp sched kcl tk fault prot log atb rd"
  | _ => "hello bye help service view baud echo cap mode ready rst safe boot update map port tc moist steam lp pp pd sb bsn temp " ++
      "caldera ept pol shp sched kcl tk fault prot log atb rd wr hold free test cnt selftest reset wake"

def conHelp (s : State) : State := s.conGate 0 true fun s => (s.conLine s.helpText).conOk

/-- A wrong or missing PIN (R542). -/
def pinFail (s : State) : State :=
  let run := s.svc.pinRun + 1
  let s1 := ((s.modSvc fun v => { v with pinRun := if run = 3 then 0 else run }).inc R.SV_PIN_FAIL_CNT).svcRec 0x05 run
  (if run = 3 then s1.set SV_ST.LOCKOUT 1 else s1).conErr "PRIV"

/-- `service [pin]`: pin is four BCD digits. -/
def conService (s : State) (hasPin : Bool) (pin : Nat) : State :=
  s.conGate 1 true fun s =>
    if s.get SV_CFG.SVC_EN = 0 ∨ s.on SV_ST.LOCKOUT = true then s.conErr "WRONG_STATE"
    else if s.get SV_CFG.PIN ≠ 0 ∧ (hasPin = false ∨ pin ≠ s.get SV_CFG.PIN) then s.pinFail
    else ((s.modSvc fun v => { v with pinRun := 0 }).set SV_ST.SESSION 2).conOk

/-- `view`: from service, its ports are freed. -/
def conToView (s : State) : State := s.conGate 1 true fun s => (s.serviceEnd.set SV_ST.SESSION 1).conOk

/-- Code of SV_UART.RATE for a rate (R557). -/
def rateCode (r : Nat) : Option Nat :=
  match r with
  | 115200 => some 0
  | 921600 => some 1
  | 3000000 => some 2
  | 9600 => some 3
  | _ => none

/-- `baud`: the status line is sent at the old rate. -/
def conBaud (s : State) (r : Nat) : State :=
  s.conGate 1 true fun s =>
    if s.on SV_UART.RC then s.conErr "WRONG_STATE"
    else match rateCode r with
      | some c => (s.svcRec 0x06 R.SV_UART).conOk.set SV_UART.RATE c
      | none => s.conErr "RANGE"

/-- `echo on`, `echo off`. -/
def conEcho (s : State) (on : Bool) : State :=
  s.conGate 1 true fun s => ((s.svcRec 0x06 R.SV_CFG).set SV_CFG.ECHO on.toNat).conOk

/-! ### Commands that print (R545) -/

/-- Present downstream ports. -/
def dsList (s : State) : List Nat := List.range (dsPorts s.variant)

/-- Present upstream ports. -/
def usList (s : State) : List Nat := List.range (usPorts s.variant)

def conCap (s : State) : State := s.conView true [R.G_CAP_UNITS, R.G_ABSENT_WR_CNT] fun _ => []

def conMode (s : State) : State := s.conView true [R.G_MODE] fun _ => []

/-- `ready`: G_READY and G_READY_FAIL, then each port whose FAIL bit is set. -/
def conReady (s : State) : State :=
  s.conView true [R.G_READY, R.G_READY_FAIL] fun s => s.dsList.filter fun n => s.on (P_READY.FAIL n)

/-- `rst`, with the result of a SELFTEST (R554). -/
def conRst (s : State) : State := s.conView true [R.G_RST_CAUSE, R.G_SAFE_ST, R.G_SELFTEST_RES] fun _ => []

def conSafe (s : State) : State := s.conView true [R.G_SAFE_ST] fun _ => []

def conBoot (s : State) : State :=
  s.conView false [R.G_STRAP, R.G_BOOT_ST, R.G_BOOT_VER, R.G_FUSE_RB] fun s => [(s.header 0).ver, (s.header 1).ver]

def conUpdateStatus (s : State) : State := s.conView false [R.G_UPD_ST] fun s => [s.boot.lastProg]

/-- `map`: tree, hub, logical port, supply group and die of each port. -/
def conMap (s : State) : State :=
  s.conView false [] fun s => (s.dsList.map fun n =>
    [n, s.get (P_MAP.UP n), s.get (P_MAP.HUB n), s.get (P_MAP.LPORT n), groupOf n, dieOf n]).flatten

def conPort (s : State) (n : Nat) : State := s.conViewAt n 95 [R.P_PORTST n, R.P_LPST n] fun _ => []

def conTc (s : State) (n : Nat) : State :=
  s.conViewAt n 95 [R.P_TCST n, R.P_STEAM_CNT n, R.P_MOIST_FAIL_CNT n, R.P_SEAT_LOSS_CNT n, R.P_CC_GLITCH_CNT n, R.P_VCONN_TRIP_CNT n,
    R.P_SBU_OV_CNT n, R.P_SB_NOCH_CNT n, R.P_TC_REJ_CNT n] fun _ => []

/-- `moist n`: readings, bands, and the time to the next re-test, which the model does not keep. [log 40: DESIGN CHOICE] -/
def conMoist (s : State) (n : Nat) : State :=
  s.conViewAt n 95 [R.P_MOIST_CC n, R.P_MOIST_SBU n, R.G_MOIST_CFG] fun s => [s.freeVal (2 ^ 32)]

/-- Port n before those of a list that have been idle less long. -/
def idleInsert (s : State) (n : Nat) (l : List Nat) : List Nat :=
  match l with
  | [] => [n]
  | m :: r => if (s.port n).idleSince < (s.port m).idleSince then n :: m :: r else m :: idleInsert s n r

/-- `lp`: admission, then the ten links idle longest. -/
def conLp (s : State) : State :=
  s.conView false [R.G_U0_ADMIT] fun s =>
    ((s.dsList.filter fun n => s.on (P_PORTST.SS_LINK n)).foldl (fun l n => s.idleInsert n l) []).take 10

def conLpU (s : State) (u : Nat) : State := s.conViewAt u 3 [R.U_LPST u] fun _ => []

def conLpN (s : State) (n : Nat) : State := s.conViewAt n 95 [R.P_LPST n, R.P_WAKE_CNT n, R.P_WAKE_COLL_CNT n] fun _ => []

def conPp (s : State) (k : Nat) : State := s.conViewAt k 99 [R.PP_ST k, R.PP_LAST k, R.PP_MEAS k] fun _ => []

def conPd (s : State) (k : Nat) : State := s.conViewAt k 99 [R.PD_ST k, R.PD_CONTRACT k, R.PD_WAIT_CNT k] fun _ => []

/-- `pd k log`: time, direction and header of the last 16 messages. -/
def conPdLog (s : State) (k : Nat) : State :=
  s.conViewAt k 99 [] fun s => ((s.eng k).msgs.map fun m => [m.1, m.2.1.toNat, m.2.2]).flatten

/-- `sb`: each channel, and the trees that present it. [log 40: DESIGN CHOICE] -/
def conSb (s : State) : State :=
  s.conView false (s.channels.map R.G_SB_CFG) fun s => s.usList.map fun u => (s.up u).chNow

def conBsn (s : State) : State :=
  s.conView false [R.BSN_CHIP_CAP, R.BSN_CHIP_HEAD, R.BSN_CHIP_MEAS, R.BSN_CHIP_ST, R.BSN_SHED_ST] fun _ => []

/-- `bsn g`: budget, charges, and the queue with ages and grants. -/
def conBsnG (s : State) (g : Nat) : State :=
  s.conViewAt g 12 ([R.BSN_SG_CAP g, R.BSN_SG_HEAD g, R.BSN_SG_MEAS g, R.BSN_SG_ST g] ++
    ((portsOf g).map fun k => [R.BSN_CHG k, R.BSN_UQ k]).flatten) fun _ => []

def conTemp (s : State) : State :=
  s.conView false (s.dieSensors.map R.BSN_TS ++ (List.range 4).map R.BSN_BRD_T ++ [R.BSN_HEAT_ST, R.TM_HEAT, R.G_U0_ADMIT]) fun s =>
    (s.dieSensors ++ s.boardOn.map (12 + ·)).map fun i => (s.sensorMargin i % 65536).toNat

/-- `caldera`: protection and error counts of each bank, the banks in recovery (SEC-R), and the share of write-port cycles lost, which the
model does not keep. -/
def conCaldera (s : State) : State :=
  s.conView false ([R.CD_PROT, R.CD_PROT_PEND] ++
    ((List.range 32).map fun b => [R.CD_PAR_ERR_CNT b, R.CD_CORR_CNT b, R.CD_UNCORR_CNT b]).flatten) fun s =>
      [s.boot.work.recov, s.freeVal 101]

def conEpt (s : State) : State := s.conView false [R.EP_STAT, R.EP_MISS_CNT] fun _ => []

/-- `ept n`: Dn's entries with their queues. -/
def conEptN (s : State) (n : Nat) : State :=
  s.conViewAt n 95 [] fun s => ((s.validEps.filter fun e => s.get (EP_KEY.PORT e) == n).map fun e =>
    [e, s.valueAt (R.EP_KEY e) false, s.valueAt (R.EP_MAP e) false]).flatten

/-- `pol p`: MODE, Tc, Tp, holds, and the byte counts. -/
def conPol (s : State) (p : Nat) : State :=
  s.conViewAt p 199 [R.TM_PL_CFG p, R.TM_PL_TC p, R.TM_PL_TP p] fun s =>
    [(s.flow.holds.filter fun h => h.pol == p).length, Tbl.get s.bytes 0 (R.TM_PL_GRN_LO p), Tbl.get s.bytes 0 (R.TM_PL_YEL_LO p),
      Tbl.get s.bytes 0 (R.TM_PL_RED_LO p)]

/-- `shp s`: credit, slope, slope after heat, and BULK_GATED. -/
def conShp (s : State) (x : Nat) : State :=
  s.conViewAt x 99 [R.TM_SH_CREDIT x, R.TM_SH_SLOPE x, R.TM_EG_ST x] fun s =>
    [s.get (TM_SH_SLOPE.IDLE_SLOPE x) * (if s.on (TM_SH_SLOPE.HEAT_EN x) then s.heatOf x else 256) / 256]

/-- `sched x`: deferrals and PER_USED, and the bytes of the last second, which the model does not keep. -/
def conSched (s : State) (x : Nat) : State :=
  s.conViewAt x 99 [R.TM_DEFER_CNT x, R.TM_RES_CNT x, R.TM_EG_ST x] fun s => [s.freeVal (2 ^ 32)]

def conKcl (s : State) : State :=
  s.conView false (s.usList.map R.KL_LST ++ s.usList.map R.KL_CRC_ERR_CNT) fun _ => []

/-- `kcl route c`: links, hops and latency toward chip c. -/
def conKclRoute (s : State) (c : Nat) : State :=
  s.conViewAt c 4095 [] fun s => ((s.primary c).toList ++ (s.spare c).toList).map (fun r => [r.link, r.hops, r.lat]) |>.flatten

def conKclPres (s : State) (n : Nat) : State := s.conViewAt n 95 [R.KL_PRES n] fun _ => []

def conTk (s : State) : State :=
  s.conView false ((List.range 64).map R.TK_TST ++ (List.range 64).map R.TK_EXC_CNT) fun _ => []

def conTkT (s : State) (t : Nat) : State :=
  s.conViewAt t 63 [R.TK_TST t, R.TK_EXC_CNT t, R.TK_TEXC t, R.TK_TEPC t, R.TK_TEADDR t] fun _ => []

/-- `fault`: the summary, each asserted source's class, VENT and the injection. -/
def conFault (s : State) : State :=
  s.conView true [R.FC_SUMMARY_LO, R.FC_SUMMARY_HI, R.FC_VENT_ST, R.FC_INJ_ST] fun s =>
    (((List.range 64).filter s.fltOn).map fun i => [i, s.fltClass i]).flatten

def conProt (s : State) : State := s.conView false [R.G_PROT, R.G_VOTE_CORR_CNT, R.G_PAR_RST_CNT] fun _ => []

/-- Slots of the event log that hold records, oldest first (R495). -/
def logSlots (s : State) : List Nat :=
  if s.log.count ≤ 4096 then List.range s.log.count else (List.range 4096).map fun i => (s.log.count + i) % 4096

/-- The records of some slots, four words each. -/
def logWords (s : State) (l : List Nat) : List Nat := (l.map fun i => (List.range 4).map (s.logWord i)).flatten

def conLog (s : State) : State := s.conView true [] fun s => s.logWords s.logSlots

def conLogPlume (s : State) : State :=
  s.conView true [] fun s => s.logWords (s.logSlots.filter fun i => (Tbl.get s.log.slots {} i).kind == 0x0F)

/-- Scale of a route: the reading times this, over 1,000, is the value (R549). -/
def atbScale (route i : Nat) : Nat :=
  match route with
  | 0x02 => 20000
  | 0x03 => 50
  | 0x04 => 10000
  | 0x05 => 2000
  | 0x06 => 2000
  | 0x10 => if i ≤ 2 then 1000 else if i ≤ 5 then 2000 else if i ≤ 7 then 4000 else 8000
  | _ => 1000

def conAtb (s : State) : State :=
  s.conView true [R.SV_ATB_ST] fun s => [atbScale (s.get SV_ATB_ST.ROUTE) (s.get SV_ATB_ST.INDEX)]

/-- `rd`: one register and its fields. -/
def conRd (s : State) (a : Nat) : State :=
  s.conGate 1 true fun s =>
    let s1 := s.read32 .console a
    if s1.fab.rc = .ok then
      (s1.conNums (s1.fab.data :: match regAt (regOf a) with
        | some (r, _) => r.fields.map fun f => s1.fab.data / 2 ^ f.lo % 2 ^ f.wid
        | none => [])).conOk
    else s1.conErr s1.fab.rc.name

/-! ### Holding ports (R544) -/

/-- One port held. -/
def holdOne (s : State) (n : Nat) : State :=
  if s.held n then s
  else ((s.setHeld n true).modSvc fun v => { v with wasOff := if s.on (PP_ST.CMD_OFF n) then n :: v.wasOff else v.wasOff }).svcRec 0x03 n

def conHold (s : State) (n : Nat) : State :=
  s.conGate 2 false fun s => if s.dsHere n then ((s.holdOne n).modeNote s).conOk else s.conErr "RANGE"

def conHoldAll (s : State) : State := s.conGate 2 false fun s => ((s.dsList.foldl holdOne s).modeNote s).conOk

def conFree (s : State) (n : Nat) : State :=
  s.conGate 2 false fun s =>
    if !(s.dsHere n) then s.conErr "RANGE"
    else if s.held n then ((s.conFreeOne n).freeAfter s).conOk else s.conErr "SESSION"

def conFreeAll (s : State) : State := s.conGate 2 false fun s => s.conFreeHeld.conOk

/-! ### Commands that write (R545) -/

def conPpCmd (s : State) (k c : Nat) : State := s.conHeld k fun s => s.conDo [(R.PP_CMD k, c)]

/-- `steam n release` is OVERRIDE; `tc n recheck` is RECHECK (R196). [log 43: DEDUCED] -/
def conTcCmd (s : State) (n c : Nat) : State :=
  if 95 < n then s.conGate 2 false fun s => s.conErr "RANGE" else s.conHeld n fun s => s.conDo [(R.P_TC_CMD n, c)]

/-- `pd k caps`: refused as R242 gives. -/
def conPdCaps (s : State) (k : Nat) : State :=
  s.conHeld k fun s =>
    if !(s.partner k) || !(s.on (PD_ST.PWR_ROLE k)) || s.on (PD_ST.IN_TRANS k) || s.on (PD_ST.HR_SEQ k) then
      (s.inc (R.PD_REJ_CNT k)).conErr "WRONG_STATE"
    else conEnd (s.sendEntry k (s.offerEntry k 0))

/-- `pd k epr exit`: EPR_Mode (Exit), refused outside EPR mode (R242). -/
def conPdEprExit (s : State) (k : Nat) : State :=
  s.conHeld k fun s =>
    if !(s.on (PD_ST.EPR_MODE k)) then (s.inc (R.PD_REJ_CNT k)).conErr "WRONG_STATE"
    else conEnd (s.sendEntry k (s.pmEntry k Pm.eprExit 0))

def conPdHardreset (s : State) (k : Nat) : State := s.conHeld k fun s => s.conDo [(R.PD_CMD k, 1)]

/-- `sb c`: the console attaches to channel c, leaving any other (R204). -/
def conSbC (s : State) (c : Nat) : State :=
  s.conGate 2 false fun s =>
    if s.channels.contains c then (s.sbDetach.set (G_SB_CFG.CONSOLE c) 1).conOk else s.conErr "RANGE"

def conSbOff (s : State) : State := s.conGate 2 false fun s => s.sbDetach.conOk

def conWr (s : State) (a v : Nat) : State := s.conGate 2 true fun s => s.conDo [(a, v)]

/-- A write of SV_ATB. -/
def atbWord (route i : Nat) : Nat := 2 ^ 31 + route * 2 ^ 16 + i

def conAtbRoute (s : State) (route i : Nat) : State := s.conGate 2 true fun s => s.conDo [(R.SV_ATB, atbWord route i)]

def conAtbOff (s : State) : State := s.conGate 2 true fun s => s.conDo [(R.SV_ATB, 0)]

def conCnt (s : State) (l : List (Nat × Nat)) : State := s.conGate 2 true fun s => s.conDo l

def conFaultInj (s : State) (i inst : Nat) : State :=
  s.conGate 2 false fun s =>
    let x := s.conWrites [(R.FC_INJ, 1 + 4 * (i % 64) + 2 ^ 8 * (inst % 2 ^ 20))]
    conEnd (x.1.conNums [x.1.get FC_INJ_ST.STATE], x.2)

def conFaultDisarm (s : State) : State :=
  s.conGate 2 false fun s =>
    let x := s.conWrites [(R.FC_INJ, 2)]
    conEnd (x.1.conNums [x.1.get FC_INJ_ST.STATE], x.2)

def conFaultRestart (s : State) : State := s.conGate 2 false fun s => s.conDo [(R.FC_CMD, 1)]

/-- A G_UPD_CTL command. -/
def conUpd (s : State) (l : List (Nat × Nat)) (c : Nat) : State := s.conGate 2 false fun s => s.conDo (l ++ [(R.G_UPD_CTL, c)])

/-- G_UPD_ADDR for offset `off` of bank b. -/
def updAddr (b off : Nat) : Nat × Nat := (R.G_UPD_ADDR, b * 2 ^ 20 + off)

/-- Offsets of a bank. -/
def offOk (s : State) (off : Nat) (f : State → State) : State :=
  if off < 2 ^ 19 then f s else s.conGate 2 false fun s => s.conErr "RANGE"

def conUpdateErase (s : State) (b off : Nat) : State := s.offOk off fun s => s.conUpd [updAddr b off] 2

/-- `update page b off h`: h is 256 bytes, loaded into G_UPD_BUF before PROGRAM. -/
def conUpdatePage (s : State) (b off : Nat) (data : List Byte) : State :=
  if data.length ≠ 256 then s.conGate 2 false fun s => s.conErr "SYNTAX"
  else s.offOk off fun s => s.conUpd (((List.range 64).map fun i =>
    (R.G_UPD_BUF i, ((List.range 4).map fun j => (data.getD (4 * i + j) 0).toNat * 256 ^ j).sum)) ++ [updAddr b off]) 3

def conUpdateVerify (s : State) (b : Nat) : State := s.conUpd [updAddr b 0] 4

/-- A G_MODE_CTL command; in SAFE only RELEASE is accepted. [log 43: DEDUCED] -/
def conModeCtl (s : State) (c : Nat) : State := s.conGate 2 (decide (c = 2)) fun s => s.conDo [(R.G_MODE_CTL, c)]

/-! ### The catalogue (R551, R552) -/

/-- ATB route of a meter test: route and index. -/
def testRoute (s : State) (n k : Nat) : Option (Nat × Nat) :=
  match n with
  | 103 => some (0x01, k)
  | 104 => some (0x10, k)
  | 105 => some (0x11, k)
  | 201 => some (if s.get (P_TCST.ORIENT k) = 1 then 0x06 else 0x05, k)
  | 301 => some (0x07, k)
  | 302 => some (0x02, k)
  | 304 => some (0x04, k)
  | _ => none

/-- Expected reading and tolerance of a meter test, in mV at ATB0. -/
def testExpect (n : Nat) : List Nat :=
  match n with
  | 103 => [1250, 4]
  | 105 => [500, 20]
  | 201 => [460, 60]
  | 301 => [250, 13]
  | 302 => [250, 8]
  | 304 => [880, 1030]
  | 205 => [3300, 170, 400]
  | 102 => [1000]
  | _ => []

/-- Console tests of a port. [log 39: DESIGN CHOICE] -/
def portTests : List Nat := [202, 203, 204, 303, 305, 306, 401]

/-- Whether a console test passes: by the part's state where the catalogue's expectation is one, else by `ok`, the outcome of what it
measures. [log 39: DESIGN CHOICE] -/
def testPass (s : State) (n k v : Nat) (ok : Bool) : Bool :=
  match n with
  | 101 => true
  | 202 => decide (s.get (P_TCST.TC_STATE k) = 6) && s.on (P_TCST.PWR_OK k) && decide (s.get (P_TCST.SBU_ST k) = 0)
  | 204 => decide (s.get (P_TCST.TC_STATE k) = 6) && s.on (P_TCST.OVR k)
  | 303 => decide (480 ≤ v) && decide (v ≤ 520)
  | 305 => decide (8900 ≤ v) && decide (v ≤ 15300)
  | 401 => decide (s.get (PD_ST.CONTRACT k) = 2) && decide (s.get (PD_CONTRACT.VOLT k) = 1000) && decide (s.get (PD_CONTRACT.CURR k) = 300)
  | _ => ok

/-- What a console test does to its port: 203, 305 and 306 switch it off and on again. [log 39: DESIGN CHOICE] -/
def testAct (s : State) (n k : Nat) : State :=
  if n = 203 ∨ n = 305 ∨ n = 306 then
    let s1 := s.ppOff k
    if s1.fab.rc = .ok then s1.ppOn k else s1
  else s

/-- A console test runs: its line, its record and OK (R551, R559). [log 39: DESIGN CHOICE; log 40: DESIGN CHOICE] -/
def testRun (s : State) (n k v : Nat) (ok : Bool) : State :=
  let p := s.testPass n k v ok
  (((s.testAct n k).conNums [n, v, p.toNat]).svcRec 0x07 (n + k / 32 % 4 * 2 ^ 16 + (if p then 1 else 2) * 2 ^ 28)).conOk

/-- `test N [k]`, with what it measures. -/
def conTest (s : State) (n : Nat) (hasK : Bool) (k v : Nat) (ok : Bool) : State :=
  s.conGate 2 false fun s =>
    if [106, 107, 108, 308, 309].contains n then
      (if s.mode = .selftest then (s.conNums [n, ok.toNat]).conOk else s.conErr "WRONG_STATE")
    else if portTests.contains n then
      (if !hasK then s.conErr "SYNTAX"
       else if 99 < k ∨ s.kHere k = false ∨ (96 ≤ k ∧ n < 300) then s.conErr "RANGE"
       else if decide (k < 96) && !(s.held k) then s.conErr "SESSION"
       else s.testRun n k v ok)
    else if n = 101 ∨ n = 601 ∨ n = 701 then s.testRun n k v ok
    else if n = 102 ∨ n = 205 ∨ n = 307 ∨ n = 310 ∨ n = 501 then (s.conNums (n :: testExpect n)).conOk
    else match s.testRoute n k with
      | some (route, i) =>
        if !hasK then s.conErr "SYNTAX"
        else
          let x := s.conWrites [(R.SV_ATB, atbWord route i)]
          if x.2 = .ok then ((x.1.set SV_ATB_ST.SETTLED 1).conNums (route :: i :: testExpect n)).conOk else x.1.conErr x.2.name
      | none => s.conErr "RANGE"

/-! ### Passed lines (R547) and the end of a command -/

/-- Events 8 are routed. -/
def conRouted (s : State) : Bool := s.on (TK_EVROUTE.EN 2 0)

/-- A line whose first word is unknown goes to mailbox 4, KIND 2, at most 60 bytes, with event 8. -/
def conPass (s : State) (text : List Nat) : State :=
  if !s.conAlive || s.svc.passed.isSome then s
  else if s.mode = .safe then s.conErr "WRONG_STATE"
  else if !s.conRouted then s.conErr "UNKNOWN"
  else if 4 ≤ (s.mbox 4).length then s.conErr "BUSY"
  else
    let tag := s.nextTag 4
    (((s.mboxAdd 4 2 0 ((text.take 60).map fun c => BitVec.ofNat 8 c)).modSvc fun v => { v with passed := some tag })).postRouted 8

end State

open State

/-- Ctrl-C aborts a passed line with ERR ABORTED, and a SELFTEST run with RESULT 3, which then ends in its reset (R536, R554). -/
def execCtrlC (s : State) : Res State :=
  act s fun s =>
    if !s.conAlive then s
    else if s.mode = .selftest then s.selftestAbort.resetBegin rstSelftest
    else s.passedDrop "ABORTED"

def execConsoleLinePassed (text : List Nat) (s : State) : Res State := act s fun s => s.conPass text

/-- A thread has not ended the passed line within 5 s. -/
def execConsolePassTimeout (s : State) : Res State :=
  act s fun s => if s.svc.passed.isSome then (s.inc (R.TK_REQ_TO_CNT 4)).passedDrop "TIMEOUT" else s

/-- IDLE_TO has passed with no input and no command running (R541). -/
def execSessionIdleTimeout (s : State) : Res State :=
  act s fun s =>
    if s.get SV_ST.SESSION ≠ 0 ∧ s.get SV_CFG.IDLE_TO ≠ 0 ∧ s.svc.passed = none then
      ((s.conLine "CLOSED").sessionClose 1).conPrompt
    else s

def execPinLockoutEnd (s : State) : Res State := act s fun s => s.set SV_ST.LOCKOUT 0

def execConHello (hasV : Bool) (v : Nat) (s : State) : Res State := act s fun s => s.conHello hasV v
def execConBye (s : State) : Res State := act s conBye
def execConHelp (s : State) : Res State := act s conHelp
def execConService (hasPin : Bool) (pin : Nat) (s : State) : Res State := act s fun s => s.conService hasPin pin
def execConView (s : State) : Res State := act s conToView
def execConBaud (r : Nat) (s : State) : Res State := act s fun s => s.conBaud r
def execConEchoOn (s : State) : Res State := act s fun s => s.conEcho true
def execConEchoOff (s : State) : Res State := act s fun s => s.conEcho false
def execConCap (s : State) : Res State := act s conCap
def execConMode (s : State) : Res State := act s conMode
def execConReady (s : State) : Res State := act s conReady
def execConRst (s : State) : Res State := act s conRst
def execConSafe (s : State) : Res State := act s conSafe
def execConBoot (s : State) : Res State := act s conBoot
def execConUpdateStatus (s : State) : Res State := act s conUpdateStatus
def execConMap (s : State) : Res State := act s conMap
def execConPort (n : Nat) (s : State) : Res State := act s fun s => s.conPort n
def execConTc (n : Nat) (s : State) : Res State := act s fun s => s.conTc n
def execConMoist (n : Nat) (s : State) : Res State := act s fun s => (s.conMoist n).freeNext
def execConLp (s : State) : Res State := act s conLp
def execConLpU (u : Nat) (s : State) : Res State := act s fun s => s.conLpU u
def execConLpN (n : Nat) (s : State) : Res State := act s fun s => s.conLpN n
def execConPp (k : Nat) (s : State) : Res State := act s fun s => s.conPp k
def execConPd (k : Nat) (s : State) : Res State := act s fun s => s.conPd k
def execConPdLog (k : Nat) (s : State) : Res State := act s fun s => s.conPdLog k
def execConSb (s : State) : Res State := act s conSb
def execConBsn (s : State) : Res State := act s conBsn
def execConBsnG (g : Nat) (s : State) : Res State := act s fun s => s.conBsnG g
def execConTemp (s : State) : Res State := act s conTemp
def execConCaldera (s : State) : Res State := act s fun s => s.conCaldera.freeNext
def execConEpt (s : State) : Res State := act s conEpt
def execConEptN (n : Nat) (s : State) : Res State := act s fun s => s.conEptN n
def execConPol (p : Nat) (s : State) : Res State := act s fun s => s.conPol p
def execConShp (x : Nat) (s : State) : Res State := act s fun s => s.conShp x
def execConSched (x : Nat) (s : State) : Res State := act s fun s => (s.conSched x).freeNext
def execConKcl (s : State) : Res State := act s conKcl
def execConKclRoute (c : Nat) (s : State) : Res State := act s fun s => s.conKclRoute c
def execConKclPres (n : Nat) (s : State) : Res State := act s fun s => s.conKclPres n
def execConTk (s : State) : Res State := act s conTk
def execConTkT (t : Nat) (s : State) : Res State := act s fun s => s.conTkT t
def execConFault (s : State) : Res State := act s conFault
def execConProt (s : State) : Res State := act s conProt
def execConLog (s : State) : Res State := act s conLog
def execConLogPlume (s : State) : Res State := act s conLogPlume
def execConAtb (s : State) : Res State := act s conAtb
def execConRd (a : Nat) (s : State) : Res State := act s fun s => s.conRd a
def execConHold (n : Nat) (s : State) : Res State := act s fun s => s.conHold n
def execConHoldAll (s : State) : Res State := act s conHoldAll
def execConFree (n : Nat) (s : State) : Res State := act s fun s => s.conFree n
def execConFreeAll (s : State) : Res State := act s conFreeAll
def execConPpOn (k : Nat) (s : State) : Res State := act s fun s => s.conPpCmd k 1
def execConPpOff (k : Nat) (s : State) : Res State := act s fun s => s.conPpCmd k 2
def execConPpRelease (k : Nat) (s : State) : Res State := act s fun s => s.conPpCmd k 3
def execConPpClear (k : Nat) (s : State) : Res State := act s fun s => s.conPpCmd k 4
def execConSteamRelease (n : Nat) (s : State) : Res State := act s fun s => s.conTcCmd n 1
def execConTcRecheck (n : Nat) (s : State) : Res State := act s fun s => s.conTcCmd n 2
def execConPdCaps (k : Nat) (s : State) : Res State := act s fun s => s.conPdCaps k
def execConPdEprExit (k : Nat) (s : State) : Res State := act s fun s => s.conPdEprExit k
def execConPdHardreset (k : Nat) (s : State) : Res State := act s fun s => s.conPdHardreset k
def execConSbC (c : Nat) (s : State) : Res State := act s fun s => s.conSbC c
def execConSbOff (s : State) : Res State := act s conSbOff
def execConWr (a v : Nat) (s : State) : Res State := act s fun s => s.conWr a v
def execConAtbRoute (route i : Nat) (s : State) : Res State := act s fun s => s.conAtbRoute route i
def execConAtbOff (s : State) : Res State := act s conAtbOff
def execConTest (n : Nat) (hasK : Bool) (k v : Nat) (ok : Bool) (s : State) : Res State := act s fun s => s.conTest n hasK k v ok
def execConCntClearOne (a : Nat) (s : State) : Res State :=
  act s fun s => s.conCnt [(R.G_CNT_ADDR, a), (R.G_CNT_CTL, 1)]
def execConCntClearPrefix (p : Nat) (s : State) : Res State := act s fun s => s.conCnt [(R.G_CNT_CTL, 2 + 2 ^ 8 * p)]
def execConCntClearAll (s : State) : Res State := act s fun s => s.conCnt [(R.G_CNT_CTL, 3)]
def execConFaultInj (i inst : Nat) (s : State) : Res State := act s fun s => s.conFaultInj i inst
def execConFaultDisarm (s : State) : Res State := act s conFaultDisarm
def execConFaultRestart (s : State) : Res State := act s conFaultRestart
def execConUpdate (s : State) : Res State := act s fun s => s.conUpd [] 1
def execConUpdateErase (b off : Nat) (s : State) : Res State := act s fun s => s.conUpdateErase b off
def execConUpdatePage (b off : Nat) (data : List Byte) (s : State) : Res State := act s fun s => s.conUpdatePage b off data
def execConUpdateVerify (b : Nat) (s : State) : Res State := act s fun s => s.conUpdateVerify b
def execConUpdateEnd (s : State) : Res State := act s fun s => s.conUpd [] 5
def execConSelftest (s : State) : Res State := act s fun s => s.conModeCtl 3
def execConReset (s : State) : Res State := act s fun s => s.conModeCtl 4
def execConSafeEnter (s : State) : Res State := act s fun s => s.conModeCtl 1
def execConSafeRelease (s : State) : Res State := act s fun s => s.conModeCtl 2
def execConWake (s : State) : Res State := act s fun s => s.conModeCtl 5

end Sys2Proof.Machine
end

