-- ==== Sys2Proof/Machine/ConsoleLine.lean ====
section
/-!
DEFINITION. A line received on the console (R536 to R540): editing, the OSP 1.1 checksum, and the words of each command of R545.
-/

namespace Sys2Proof.Machine

/-! ### The line -/

/-- The line after BS and DEL (R536). -/
def lineEdit (l : List Nat) : List Nat := l.foldl (fun r c => if c = 8 ∨ c = 127 then r.dropLast else r ++ [c]) []

/-- Value of a hexadecimal digit. -/
def digitVal (c : Char) : Option Nat :=
  let v := c.toNat
  if 48 ≤ v ∧ v ≤ 57 then some (v - 48)
  else if 65 ≤ v ∧ v ≤ 70 then some (v - 55)
  else if 97 ≤ v ∧ v ≤ 102 then some (v - 87)
  else none

/-- Digits in a base; at least one. [log 42: DEDUCED] -/
def digits (base : Nat) (l : List Char) (acc : Option Nat) : Option Nat :=
  match l with
  | [] => acc
  | c :: r => match digitVal c with
    | some d => if d < base then digits base r (some (acc.getD 0 * base + d)) else none
    | none => none

/-- A number: decimal, or hexadecimal with 0x; underscores may stand in it (R538). -/
def number (l : List Char) : Option Nat :=
  match l.filter (· != '_') with
  | '0' :: 'x' :: r => digits 16 r none
  | r => digits 10 r none

/-- A port argument k: 0–95, or u0–u3 for 96–99 (R538). A bare number above 95 names no port. -/
def portArg (l : List Char) : Option Nat :=
  match l with
  | 'u' :: r => (number r).map fun u => if u < 4 then 96 + u else 65535
  | r => (number r).map fun n => if n < 96 then n else 65535

/-- An index argument; one too large for any unit stays too large. -/
def indexArg (l : List Char) : Option Nat := (number l).map fun n => min n 65535

/-- A register's address, or its name with its index in brackets (R538); 2^24 where there is no such index. -/
def regArg (l : List Char) : Option Nat :=
  match number l with
  | some a => some (min a (2 ^ 24))
  | none =>
    let name := l.takeWhile (· != '[')
    match regRows.find? (fun r => r.name.toList == name), l.drop name.length with
    | some r, [] => if r.stride = 0 then some r.base else none
    | some r, '[' :: rest =>
      if r.stride = 0 ∨ rest.getLast? ≠ some ']' then none
      else (number rest.dropLast).map fun i => if i < r.count then r.base + r.stride * i else 2 ^ 24
    | none, _ => none
    | some _, _ :: _ => none

/-- An OSP version M.m, as sixteen times M plus m. [log 42: DEDUCED] -/
def versionArg (l : List Char) : Option Nat :=
  match digits 10 (l.takeWhile (· != '.')) none, l.dropWhile (· != '.') with
  | some M, '.' :: r => (digits 10 r none).map fun m => min M 254 * 16 + min m 15
  | _, _ => none

/-- A four-digit PIN, as BCD. [log 42: DEDUCED] -/
def pinArg (l : List Char) : Option Nat := if l.length = 4 ∧ l.all (fun c => c.isDigit) = true then digits 16 l none else none

/-- A bank's letter (R545). [log 42: DEDUCED] -/
def bankArg (l : List Char) : Option Nat :=
  match l with
  | ['A'] => some 0
  | ['B'] => some 1
  | _ => none

/-- Bytes of a string of hexadecimal digits, two to a byte. [log 42: DEDUCED] -/
def hexBytes (l : List Char) : Option (List Byte) :=
  match l with
  | [] => some []
  | a :: b :: r => match digitVal a, digitVal b, hexBytes r with
    | some x, some y, some t => some (BitVec.ofNat 8 (16 * x + y) :: t)
    | _, _, _ => none
  | [_] => none

/-! ### Commands -/

namespace State

/-- A command whose number is out of range wherever it could mean something. -/
def conOver (s : State) (need : Nat) : State := s.conGate need true fun s => s.conErr "RANGE"

/-- A register access by address: 2^24 stands for a register that does not exist. -/
def conReg (a : Nat) (need : Nat) (f : State → State) (s : State) : State := if a < 2 ^ 24 then f s else s.conOver need

end State

open State

/-- What a line does to the part; none where it does not parse. -/
abbrev LineAct := Option (State → State)

/-- A command with one argument. -/
def arg1 (w : List Char) (p : List Char → Option Nat) (f : State → Nat → State) : LineAct := (p w).map fun n s => f s n

/-- A test from a line: what it measures is not in the line. [log 39: DESIGN CHOICE] -/
def lineTest (n : Nat) (hasK : Bool) (k : Nat) (s : State) : State :=
  (s.conTest n hasK k (s.freeVal (2 ^ 32)) (decide (s.freeVal 2 = 1))).freeNext

/-- ATB routes by name (R549). -/
def atbRoutes : List (String × Nat) :=
  [("ref", 0x01), ("vbus", 0x02), ("ibus", 0x03), ("gate", 0x04), ("cc1", 0x05), ("cc2", 0x06), ("vset", 0x07), ("rail", 0x10),
    ("temp", 0x11), ("brd", 0x12)]

/-- Printing commands of one word. -/
def viewWords : List (String × (State → State)) :=
  [("bye", conBye), ("help", conHelp), ("view", conToView), ("cap", conCap), ("mode", conMode), ("ready", conReady), ("rst", conRst),
    ("boot", conBoot), ("map", conMap), ("temp", conTemp), ("fault", conFault), ("prot", conProt), ("sb", conSb), ("atb", conAtb),
    ("safe", conSafe), ("log", conLog), ("lp", conLp), ("bsn", conBsn), ("ept", conEpt), ("kcl", conKcl), ("tk", conTk),
    ("caldera", fun s => s.conCaldera.freeNext)]

/-- One-word commands that write. -/
def serviceWords : List (String × (State → State)) :=
  [("selftest", fun s => s.conModeCtl 3), ("reset", fun s => s.conModeCtl 4), ("wake", fun s => s.conModeCtl 5),
    ("update", fun s => s.conUpd [] 1)]

/-- Printing commands of one word and one index. -/
def indexWords : List (String × (State → Nat → State)) :=
  [("port", conPort), ("tc", conTc), ("moist", fun s n => (s.conMoist n).freeNext), ("bsn", conBsnG), ("ept", conEptN), ("pol", conPol),
    ("shp", conShp), ("sched", fun s n => (s.conSched n).freeNext), ("tk", conTkT)]

/-- Two words, both of them keywords. -/
def pairWords : List ((String × String) × (State → State)) :=
  [(("echo", "on"), (fun s => s.conEcho true)), (("echo", "off"), (fun s => s.conEcho false)), (("update", "status"), conUpdateStatus),
    (("update", "end"), (fun s => s.conUpd [] 5)), (("log", "plume"), conLogPlume), (("hold", "all"), conHoldAll),
    (("free", "all"), conFreeAll), (("sb", "off"), conSbOff), (("atb", "off"), conAtbOff), (("fault", "disarm"), conFaultDisarm),
    (("fault", "restart"), conFaultRestart), (("safe", "enter"), (fun s => s.conModeCtl 1)), (("safe", "release"), (fun s => s.conModeCtl 2))]

/-- First words the engine knows (R545). -/
def firstWords : List String :=
  viewWords.map (·.1) ++ serviceWords.map (·.1) ++ indexWords.map (·.1) ++ pairWords.map (·.1.1) ++
    ["hello", "service", "baud", "pp", "pd", "steam", "rd", "wr", "test", "cnt"]

/-- The entry of a word. -/
def lookWord {α : Type} [BEq α] {β : Type} (l : List (α × β)) (w : α) : Option β := (l.find? (·.1 == w)).map (·.2)

/-- Commands of one word. -/
def line1 (w : String) : LineAct :=
  match w with
  | "hello" => some fun s => s.conHello false 0
  | "service" => some fun s => s.conService false 0
  | _ => (lookWord viewWords w).or (lookWord serviceWords w)

/-- Commands of two words. -/
def line2 (w : String) (a : List Char) : LineAct :=
  match lookWord pairWords (w, String.ofList a) with
  | some f => some f
  | none =>
    match w with
    | "hello" => (versionArg a).map fun v s => s.conHello true v
    | "service" => (pinArg a).map fun p s => s.conService true p
    | "baud" => arg1 a number conBaud
    | "lp" => match a with
      | 'u' :: r => arg1 r indexArg conLpU
      | _ => arg1 a indexArg conLpN
    | "pp" => arg1 a portArg conPp
    | "pd" => arg1 a portArg conPd
    | "rd" => (regArg a).map fun n => conReg n 1 fun s => s.conRd n
    | "hold" => arg1 a indexArg conHold
    | "free" => arg1 a indexArg conFree
    | "sb" => arg1 a indexArg conSbC
    | "test" => (indexArg a).map fun n => lineTest n false 0
    | _ => (lookWord indexWords w).bind fun f => arg1 a indexArg f

/-- Commands of three words. -/
def line3 (w : String) (a : List Char) (b : List Char) : LineAct :=
  match w, String.ofList b with
  | "pp", "on" => arg1 a portArg fun s k => s.conPpCmd k 1
  | "pp", "off" => arg1 a portArg fun s k => s.conPpCmd k 2
  | "pp", "release" => arg1 a portArg fun s k => s.conPpCmd k 3
  | "pp", "clear" => arg1 a portArg fun s k => s.conPpCmd k 4
  | "pd", "log" => arg1 a portArg conPdLog
  | "pd", "caps" => arg1 a portArg conPdCaps
  | "pd", "hardreset" => arg1 a portArg conPdHardreset
  | "steam", "release" => arg1 a indexArg fun s n => s.conTcCmd n 1
  | "tc", "recheck" => arg1 a indexArg fun s n => s.conTcCmd n 2
  | "cnt", "all" => if a == "clear".toList then some fun s => s.conCnt [(R.G_CNT_CTL, 3)] else none
  | "kcl", _ => match String.ofList a with
    | "route" => arg1 b indexArg conKclRoute
    | "pres" => arg1 b indexArg conKclPres
    | _ => none
  | "wr", _ => match regArg a, number b with
    | some n, some v => some (conReg n 2 fun s => if v < 2 ^ 32 then s.conWr n v else s.conOver 2)
    | _, _ => none
  | "atb", _ => (lookWord atbRoutes (String.ofList a)).bind fun r =>
    (if r = 0x02 ∨ r = 0x03 ∨ r = 0x04 ∨ r = 0x05 ∨ r = 0x06 ∨ r = 0x07 then portArg b else indexArg b).map fun i s =>
      if i < 256 then s.conAtbRoute r i else s.conAtbRoute 0 0
  | "test", _ => match indexArg a, portArg b with
    | some n, some k => some (lineTest n true k)
    | _, _ => none
  | "update", _ => match String.ofList a, bankArg b with
    | "verify", some k => some fun s => s.conUpdateVerify k
    | _, _ => none
  | _, _ => none

/-- Commands of four words. -/
def line4 (w : String) (a b c : List Char) : LineAct :=
  match w, String.ofList a with
  | "pd", _ => if b == "epr".toList && c == "exit".toList then arg1 a portArg conPdEprExit else none
  | "cnt", "clear" => match String.ofList b with
    | "one" => (regArg c).map fun n => conReg n 2 fun s => s.conCnt [(R.G_CNT_ADDR, n), (R.G_CNT_CTL, 1)]
    | "prefix" => arg1 c indexArg fun s p => s.conCnt [(R.G_CNT_CTL, 2 + 2 ^ 8 * min p 15)]
    | _ => none
  | "fault", "inj" => match indexArg b, number c with
    | some i, some inst => some fun s => if i < 64 ∧ inst < 2 ^ 20 then s.conFaultInj i inst else s.conOver 2
    | _, _ => none
  | "update", "erase" => match bankArg b, number c with
    | some k, some off => some fun s => s.conUpdateErase k off
    | _, _ => none
  | _, _ => none

/-- `update page b off h`. -/
def line5 (w : String) (a b c d : List Char) : LineAct :=
  if w == "update" && a == "page".toList then
    match bankArg b, number c, hexBytes d with
    | some k, some off, some data => some fun s => s.conUpdatePage k off data
    | _, _, _ => none
  else none

/-- What the words of a line do; none where they do not parse. [log 42: DEDUCED] -/
def lineAct (ws : List (List Char)) : LineAct :=
  match ws with
  | [w] => line1 (String.ofList w)
  | [w, a] => line2 (String.ofList w) a
  | [w, a, b] => line3 (String.ofList w) a b
  | [w, a, b, c] => line4 (String.ofList w) a b c
  | [w, a, b, c, d] => line5 (String.ofList w) a b c d
  | _ => none

/-- Words of a line. -/
def lineWords (l : List Nat) : List (List Char) := ((l.map Char.ofNat).splitOn ' ').filter (fun w => !w.isEmpty)

/-- The line without a checksum, or none where its digits do not match (R540). [log 42: DEDUCED] -/
def lineCheck (osp : Nat) (l : List Nat) : Option (List Nat) :=
  match l.reverse with
  | y :: x :: 42 :: r =>
    if osp = 0x11 then
      (match digitVal (Char.ofNat x), digitVal (Char.ofNat y) with
       | some a, some b => if 16 * a + b = lineXor r.reverse then some r.reverse else none
       | _, _ => some l)
    else some l
  | _ => some l

namespace State

/-- A line the console answers with an error and counts as a line error. -/
def lineErr (s : State) (name : String) : State := (s.conLine ("ERR " ++ name)).conPrompt.inc R.SV_LINE_ERR_CNT

/-- A line whose words are to run. [log 42: DEDUCED] -/
def conWords (s : State) (text : List Nat) : State :=
  match lineWords text with
  | [] => s.conPrompt
  | w :: ws =>
    if firstWords.contains (String.ofList w) then
      match lineAct (w :: ws) with
      | some f => f s
      | none => s.conErr "SYNTAX"
    else s.conPass text

/-- A received line. -/
def conReceive (s : State) (text : List Nat) (bad : Bool) : State :=
  let l := lineEdit text
  if bad || decide (600 < l.length) then s.lineErr "RANGE"
  else
    let s1 := if s.on SV_CFG.ECHO then s.emit (.con (String.ofList (l.map Char.ofNat))) else s
    match lineCheck (s.get SV_ST.OSP) l with
    | some t => s1.conWords t
    | none => s1.lineErr "CHECKSUM"

end State

/-- CONSOLE_LINE: the console takes a line; `bad` is a framing or overrun error in it. A line that waits behind a running command is taken
when that ends, so this row has no effect until then. -/
def execConsoleLine (text : List Nat) (bad : Bool) (s : State) : Res State :=
  act s fun s => if !s.conAlive || s.svc.passed.isSome then s else s.conReceive text bad

end Sys2Proof.Machine
end

