-- ==== Sys2Proof/Machine/Jtag.lean ====
section
/-!
DEFINITION. The JTAG port (R570, R584). The instructions work in every mode; what the board puts on the pins is a command's operand.
-/

namespace Sys2Proof.Machine

namespace State

/-- IRQ_N is pulled low: a source of class NOTIFY, STOP or SAFE is asserted, outside OFF and HOLD (R568). [log 46: DEDUCED] -/
def irqLow (s : State) : Bool := s.alive && (List.range 64).any fun i => s.fltOn i && decide (1 ≤ s.fltClass i)

/-- Level of Dn_SEAT: low where a device is seated; an absent port's cell samples 1 (R570). [log 45: DEDUCED] -/
def seatLevel (s : State) (n : Nat) : Bool := !(s.dsHere n && (s.port n).seatRaw)

/-- Level captured by boundary cell i, numbered from TDI: 0–7 STRAP, 8 SVC_RX, 9–16 SVC_TX, VENT, SPI_CLK and SPI_CS_N, 17–34 SPI_IO,
I2C_SCL and I2C_SDA, 35–37 IRQ_N, 38–133 SEAT. The operand `cells` gives those the state does not hold. [log 45: DEDUCED] -/
def cellLevel (s : State) (cells i : Nat) : Bool :=
  if i < 8 then s.pins.strapPins.testBit i
  else if i = 35 then !s.irqLow
  else if 38 ≤ i then s.seatLevel (i - 38)
  else cells.testBit i

/-- The 134 cells at Capture-DR. [log 45: DEDUCED] -/
def cellsAt (s : State) (cells : Nat) : Nat :=
  ((List.range 134).map fun i => if s.cellLevel cells i then 2 ^ i else 0).sum

/-- RESET_N is low and the part is in HOLD: a loaded EXTEST controls the pins (R570, R584). [log 45: DEDUCED] -/
def extestEnabled (s : State) : Bool := !s.pins.resetN && decide (s.mode = .hold)

/-- The pins are driven from the update latches. [log 45: DEDUCED] -/
def extestDrives (s : State) : Bool := s.extestEnabled && decide (s.jtag.ir = 0)

end State

/-- EXTEST is loaded, and `pre` shifted in: it reaches the update latches, and so the pins, where compliance is enabled; otherwise
EXTEST acts as BYPASS. [log 45: DEDUCED] -/
def execExtest (pre : Nat) (s : State) : Res State :=
  .next (s.modJtag fun j => { j with ir := 0, latch := if s.extestEnabled then pre else j.latch })

/-- SAMPLE/PRELOAD captures the pins and loads the update latches. [log 45: DEDUCED] -/
def execSamplePreload (cells pre : Nat) (s : State) : Res State :=
  .next (s.modJtag fun _ => { ir := 1, capture := s.cellsAt cells, latch := pre })

/-- BYPASS, or any code that is none of the three. -/
def execBypass (s : State) : Res State := .next (s.modJtag fun j => { j with ir := 15 })

/-- JTAG_TRST_N low, or Test-Logic-Reset. [log 45: DEDUCED] -/
def execTestLogicReset (s : State) : Res State := .next (s.modJtag fun j => { j with ir := 15 })

end Sys2Proof.Machine
end

