-- ==== Sys2Proof/Machine/Dispatch.lean ====
section
/-!
DEFINITION. Dispatch: one arm per command, each a direct call of that command's meaning.
-/

namespace Sys2Proof.Machine

def exec (i : Instr) (s : State) : Host.Outcome State Fault Refusal :=
  match i with
  | .absentWrite m a v => Sys2Proof.Machine.execAbsentWrite m a v s
  | .paLinkLoss d => Sys2Proof.Machine.execPaLinkLoss d s
  | .rootClockLoss => Sys2Proof.Machine.execRootClockLoss s
  | .pllUnlock => Sys2Proof.Machine.execPllUnlock s
  | .sofReceived u frame => Sys2Proof.Machine.execSofReceived u frame s
  | .microframeBoundary u => Sys2Proof.Machine.execMicroframeBoundary u s
  | .tbTick125us => Sys2Proof.Machine.execTbTick125us s
  | .shaperTickUpdate => Sys2Proof.Machine.execShaperTickUpdate s
  | .oneMsTick => Sys2Proof.Machine.execOneMsTick s
  | .portMapWrite n v => Sys2Proof.Machine.execPortMapWrite n v s
  | .moveSe0End k => Sys2Proof.Machine.execMoveSe0End k s
  | .enumStall n => Sys2Proof.Machine.execEnumStall n s
  | .setAddressComplete u a ss h l => Sys2Proof.Machine.execSetAddressComplete u a ss h l s
  | .setPortReset u h l ss => Sys2Proof.Machine.execSetPortReset u h l ss s
  | .usb2PortResetEnd n chirp => Sys2Proof.Machine.execUsb2PortResetEnd n chirp s
  | .bhPortReset u h l => Sys2Proof.Machine.execBhPortReset u h l s
  | .hotResetEscalation n => Sys2Proof.Machine.execHotResetEscalation n s
  | .warmResetLfpsEnd n => Sys2Proof.Machine.execWarmResetLfpsEnd n s
  | .warmResetFail n => Sys2Proof.Machine.execWarmResetFail n s
  | .deviceConnect n sp ss => Sys2Proof.Machine.execDeviceConnect n sp ss s
  | .deviceDisconnect n => Sys2Proof.Machine.execDeviceDisconnect n s
  | .portEnableError n => Sys2Proof.Machine.execPortEnableError n s
  | .clearPortEnable u h l => Sys2Proof.Machine.execClearPortEnable u h l s
  | .setPortPower u h l => Sys2Proof.Machine.execSetPortPower u h l s
  | .clearPortPower u h l => Sys2Proof.Machine.execClearPortPower u h l s
  | .regRead u a len => Sys2Proof.Machine.execRegRead u a len s
  | .regWrite u a data status => Sys2Proof.Machine.execRegWrite u a data status s
  | .getResult u len => Sys2Proof.Machine.execGetResult u len s
  | .logRead u slot len => Sys2Proof.Machine.execLogRead u slot len s
  | .vendorRequestUnknown u req len => Sys2Proof.Machine.execVendorRequestUnknown u req len s
  | .upstreamBusReset u ss => Sys2Proof.Machine.execUpstreamBusReset u ss s
  | .busResetEnd side => Sys2Proof.Machine.execBusResetEnd side s
  | .hsDownstreamToken u addr epn dirIn pay => Sys2Proof.Machine.execHsDownstreamToken u addr epn dirIn pay s
  | .periodicStartSplit n addr epn dirIn len => Sys2Proof.Machine.execPeriodicStartSplit n addr epn dirIn len s
  | .periodicCompleteSplit n addr epn dirIn errs => Sys2Proof.Machine.execPeriodicCompleteSplit n addr epn dirIn errs s
  | .nonperiodicStartSplit n addr epn dirIn len => Sys2Proof.Machine.execNonperiodicStartSplit n addr epn dirIn len s
  | .nonperiodicCompleteSplit n addr epn dirIn fin => Sys2Proof.Machine.execNonperiodicCompleteSplit n addr epn dirIn fin s
  | .ttTransactionDone n addr epn dirIn res len errs => Sys2Proof.Machine.execTtTransactionDone n addr epn dirIn res len errs s
  | .clearTtBuffer u h l addr epn => Sys2Proof.Machine.execClearTtBuffer u h l addr epn s
  | .resetTt u h l value => Sys2Proof.Machine.execResetTt u h l value s
  | .getTtState u => Sys2Proof.Machine.execGetTtState u s
  | .stopTt u => Sys2Proof.Machine.execStopTt u s
  | .setHubDepth u h d => Sys2Proof.Machine.execSetHubDepth u h d s
  | .upstreamHostAttach u hs => Sys2Proof.Machine.execUpstreamHostAttach u hs s
  | .ssUpstreamAbsent u => Sys2Proof.Machine.execSsUpstreamAbsent u s
  | .ssUpstreamU0 u gen => Sys2Proof.Machine.execSsUpstreamU0 u gen s
  | .ssUpstreamLoss u => Sys2Proof.Machine.execSsUpstreamLoss u s
  | .ssDownstreamPacket u route addr epn dirIn ty pay seq numP whole => Sys2Proof.Machine.execSsDownstreamPacket u route addr epn dirIn ty pay seq numP whole s
  | .ssUpstreamPacket n addr epn dirIn ty len numP whole => Sys2Proof.Machine.execSsUpstreamPacket n addr epn dirIn ty len numP whole s
  | .itpReceived u => Sys2Proof.Machine.execItpReceived u s
  | .itpReleaseTimeout u => Sys2Proof.Machine.execItpReleaseTimeout u s
  | .queueWriteRequest q src x cls len => Sys2Proof.Machine.execQueueWriteRequest q src x cls len s
  | .queueSpaceGranted q => Sys2Proof.Machine.execQueueSpaceGranted q s
  | .queueConfigWrite q v => Sys2Proof.Machine.execQueueConfigWrite q v s
  | .cutThroughStart rd words left => Sys2Proof.Machine.execCutThroughStart rd words left s
  | .cutThroughAbort rd => Sys2Proof.Machine.execCutThroughAbort rd s
  | .egressPick x left => Sys2Proof.Machine.execEgressPick x left s
  | .packetStaged x errs => Sys2Proof.Machine.execPacketStaged x errs s
  | .episodeSeenRead q => Sys2Proof.Machine.execEpisodeSeenRead q s
  | .protectionWrite v => Sys2Proof.Machine.execProtectionWrite v s
  | .queueFlush q => Sys2Proof.Machine.execQueueFlush q s
  | .flushBoundary q => Sys2Proof.Machine.execFlushBoundary q s
  | .flushProducerTimeout q => Sys2Proof.Machine.execFlushProducerTimeout q s
  | .redHoldForced p => Sys2Proof.Machine.execRedHoldForced p s
  | .forgive x => Sys2Proof.Machine.execForgive x s
  | .treeSuspend u => Sys2Proof.Machine.execTreeSuspend u s
  | .setPortSuspend u h l => Sys2Proof.Machine.execSetPortSuspend u h l s
  | .clearPortSuspend u h l => Sys2Proof.Machine.execClearPortSuspend u h l s
  | .portResumeEnd n => Sys2Proof.Machine.execPortResumeEnd n s
  | .hostResume u => Sys2Proof.Machine.execHostResume u s
  | .hostResumeEnd u => Sys2Proof.Machine.execHostResumeEnd u s
  | .deviceResume n => Sys2Proof.Machine.execDeviceResume n s
  | .deviceWake n => Sys2Proof.Machine.execDeviceWake n s
  | .upstreamWakeDriveStart u => Sys2Proof.Machine.execUpstreamWakeDriveStart u s
  | .upstreamWakeDriveEnd u => Sys2Proof.Machine.execUpstreamWakeDriveEnd u s
  | .wakeNoHostResume u => Sys2Proof.Machine.execWakeNoHostResume u s
  | .setAndTestPortL1 u h l addr besl rwe => Sys2Proof.Machine.execSetAndTestPortL1 u h l addr besl rwe s
  | .l1TokenResponse n resp => Sys2Proof.Machine.execL1TokenResponse n resp s
  | .l1TokenTimeout n => Sys2Proof.Machine.execL1TokenTimeout n s
  | .upstreamLpmToken u => Sys2Proof.Machine.execUpstreamLpmToken u s
  | .upstreamL1Exit u => Sys2Proof.Machine.execUpstreamL1Exit u s
  | .setPortU1Timeout u h l v => Sys2Proof.Machine.execSetPortU1Timeout u h l v s
  | .setPortU2Timeout u h l v => Sys2Proof.Machine.execSetPortU2Timeout u h l v s
  | .u1IdleTimeout n => Sys2Proof.Machine.execU1IdleTimeout n s
  | .u2InactivityTimeout n => Sys2Proof.Machine.execU2InactivityTimeout n s
  | .deviceLgo n k => Sys2Proof.Machine.execDeviceLgo n k s
  | .uxExit n => Sys2Proof.Machine.execUxExit n s
  | .uxExitTimeout n => Sys2Proof.Machine.execUxExitTimeout n s
  | .recoveryFail n => Sys2Proof.Machine.execRecoveryFail n s
  | .ssLinkU0 n gen => Sys2Proof.Machine.execSsLinkU0 n gen s
  | .setPortLinkStateU3 u h l => Sys2Proof.Machine.execSetPortLinkStateU3 u h l s
  | .setPortLinkStateU0 u h l => Sys2Proof.Machine.execSetPortLinkStateU0 u h l s
  | .deviceU3Exit n => Sys2Proof.Machine.execDeviceU3Exit n s
  | .upstreamLgo u k => Sys2Proof.Machine.execUpstreamLgo u k s
  | .upstreamU1Initiate u => Sys2Proof.Machine.execUpstreamU1Initiate u s
  | .upstreamU2Initiate u => Sys2Proof.Machine.execUpstreamU2Initiate u s
  | .upstreamU3Entry u => Sys2Proof.Machine.execUpstreamU3Entry u s
  | .upstreamU3Exit u => Sys2Proof.Machine.execUpstreamU3Exit u s
  | .dormantEntry => Sys2Proof.Machine.execDormantEntry s
  | .ccAttach n cc1 cc2 => Sys2Proof.Machine.execCcAttach n cc1 cc2 s
  | .attachDebounceEnd n => Sys2Proof.Machine.execAttachDebounceEnd n s
  | .moistureCheckDone n cc1 cc2 sbu1 sbu2 => Sys2Proof.Machine.execMoistureCheckDone n cc1 cc2 sbu1 sbu2 s
  | .seatConfirmed n => Sys2Proof.Machine.execSeatConfirmed n s
  | .seatLoss n => Sys2Proof.Machine.execSeatLoss n s
  | .errorRecoveryEnd n cc1 cc2 => Sys2Proof.Machine.execErrorRecoveryEnd n cc1 cc2 s
  | .ccOpen n => Sys2Proof.Machine.execCcOpen n s
  | .detachCancelled n cc1 cc2 => Sys2Proof.Machine.execDetachCancelled n cc1 cc2 s
  | .tpddebounceEnd n => Sys2Proof.Machine.execTpddebounceEnd n s
  | .detachReported n => Sys2Proof.Machine.execDetachReported n s
  | .moistureRetest n => Sys2Proof.Machine.execMoistureRetest n s
  | .override n => Sys2Proof.Machine.execOverride n s
  | .recheck n => Sys2Proof.Machine.execRecheck n s
  | .cradleWrite n v => Sys2Proof.Machine.execCradleWrite n v s
  | .vconnTrip n => Sys2Proof.Machine.execVconnTrip n s
  | .sbuOvervoltage n => Sys2Proof.Machine.execSbuOvervoltage n s
  | .sbConfigWrite c v => Sys2Proof.Machine.execSbConfigWrite c v s
  | .setLineCoding u c rate bits parity stopBits => Sys2Proof.Machine.execSetLineCoding u c rate bits parity stopBits s
  | .bridgeRxData line bytes => Sys2Proof.Machine.execBridgeRxData line bytes s
  | .bridgeTxData src c bytes => Sys2Proof.Machine.execBridgeTxData src c bytes s
  | .drpToggle u => Sys2Proof.Machine.execDrpToggle u s
  | .pdMessageReceived k kind bytes h objs => Sys2Proof.Machine.execPdMessageReceived k kind bytes h objs s
  | .pdRetryTimeout k => Sys2Proof.Machine.execPdRetryTimeout k s
  | .pdTxStart k => Sys2Proof.Machine.execPdTxStart k s
  | .pdTxComplete k => Sys2Proof.Machine.execPdTxComplete k s
  | .txGo k => Sys2Proof.Machine.execTxGo k s
  | .rxPop k => Sys2Proof.Machine.execRxPop k s
  | .hardReset k => Sys2Proof.Machine.execHardReset k s
  | .cableReset k => Sys2Proof.Machine.execCableReset k s
  | .hardResetReceived k => Sys2Proof.Machine.execHardResetReceived k s
  | .cableResetReceived k => Sys2Proof.Machine.execCableResetReceived k s
  | .tpshardresetEnd k => Sys2Proof.Machine.execTpshardresetEnd k s
  | .tsrcrecoverEnd k => Sys2Proof.Machine.execTsrcrecoverEnd k s
  | .hrVsafe5vTimeout k => Sys2Proof.Machine.execHrVsafe5vTimeout k s
  | .pdNextWrite k v => Sys2Proof.Machine.execPdNextWrite k v s
  | .tsrctransitionEnd k => Sys2Proof.Machine.execTsrctransitionEnd k s
  | .transitionDone k => Sys2Proof.Machine.execTransitionDone k s
  | .transitionTimeout k => Sys2Proof.Machine.execTransitionTimeout k s
  | .eprKeepaliveExpiry k => Sys2Proof.Machine.execEprKeepaliveExpiry k s
  | .ppsTimeout k => Sys2Proof.Machine.execPpsTimeout k s
  | .frSwapSignal u => Sys2Proof.Machine.execFrSwapSignal u s
  | .rampStart k => Sys2Proof.Machine.execRampStart k s
  | .precheckEnd k => Sys2Proof.Machine.execPrecheckEnd k s
  | .fetShort k v => Sys2Proof.Machine.execFetShort k v s
  | .slopeEnd k => Sys2Proof.Machine.execSlopeEnd k s
  | .gateRiseEnd k gateOk => Sys2Proof.Machine.execGateRiseEnd k gateOk s
  | .powerGood k => Sys2Proof.Machine.execPowerGood k s
  | .fastTrip k => Sys2Proof.Machine.execFastTrip k s
  | .slowTrip k => Sys2Proof.Machine.execSlowTrip k s
  | .ovTrip k => Sys2Proof.Machine.execOvTrip k s
  | .retryWaitEnd k => Sys2Proof.Machine.execRetryWaitEnd k s
  | .retryCountReset k => Sys2Proof.Machine.execRetryCountReset k s
  | .vsetTrim k => Sys2Proof.Machine.execVsetTrim k s
  | .vsetSlewDone k => Sys2Proof.Machine.execVsetSlewDone k s
  | .vsetPwmPeriod k => Sys2Proof.Machine.execVsetPwmPeriod k s
  | .dischargeGateTimeout k => Sys2Proof.Machine.execDischargeGateTimeout k s
  | .vbusDischarged k v => Sys2Proof.Machine.execVbusDischarged k v s
  | .dischargeSlow k => Sys2Proof.Machine.execDischargeSlow k s
  | .ppOn k => Sys2Proof.Machine.execPpOn k s
  | .ppOff k => Sys2Proof.Machine.execPpOff k s
  | .ppRelease k => Sys2Proof.Machine.execPpRelease k s
  | .clearStuck k => Sys2Proof.Machine.execClearStuck k s
  | .basinTick temps => Sys2Proof.Machine.execBasinTick temps s
  | .grantExpiry k => Sys2Proof.Machine.execGrantExpiry k s
  | .sensorSelfTest idx diff => Sys2Proof.Machine.execSensorSelfTest idx diff s
  | .boardSensorRead j valid temp => Sys2Proof.Machine.execBoardSensorRead j valid temp s
  | .boardSensorConfigWrite j v => Sys2Proof.Machine.execBoardSensorConfigWrite j v s
  | .shedPowerOff => Sys2Proof.Machine.execShedPowerOff s
  | .shedPortRelease => Sys2Proof.Machine.execShedPortRelease s
  | .shedLevelWrite v => Sys2Proof.Machine.execShedLevelWrite v s
  | .capWrite g v => Sys2Proof.Machine.execCapWrite g v s
  | .start t => Sys2Proof.Machine.execStart t s
  | .halt t => Sys2Proof.Machine.execHalt t s
  | .resume t => Sys2Proof.Machine.execResume t s
  | .stop t => Sys2Proof.Machine.execStop t s
  | .waitWake t => Sys2Proof.Machine.execWaitWake t s
  | .operationComplete t => Sys2Proof.Machine.execOperationComplete t s
  | .threadTimerExpiry t j => Sys2Proof.Machine.execThreadTimerExpiry t j s
  | .hostRequestEntry u target ss w1 w2 data => Sys2Proof.Machine.execHostRequestEntry u target ss w1 w2 data s
  | .hostRequestTimeout u tag => Sys2Proof.Machine.execHostRequestTimeout u tag s
  | .add t rd ra rb => Sys2Proof.Machine.execAdd t rd ra rb s
  | .sub t rd ra rb => Sys2Proof.Machine.execSub t rd ra rb s
  | .and t rd ra rb => Sys2Proof.Machine.execAnd t rd ra rb s
  | .or t rd ra rb => Sys2Proof.Machine.execOr t rd ra rb s
  | .xor t rd ra rb => Sys2Proof.Machine.execXor t rd ra rb s
  | .sll t rd ra rb => Sys2Proof.Machine.execSll t rd ra rb s
  | .srl t rd ra rb => Sys2Proof.Machine.execSrl t rd ra rb s
  | .sra t rd ra rb => Sys2Proof.Machine.execSra t rd ra rb s
  | .slli t rd ra amt => Sys2Proof.Machine.execSlli t rd ra amt s
  | .srli t rd ra amt => Sys2Proof.Machine.execSrli t rd ra amt s
  | .srai t rd ra amt => Sys2Proof.Machine.execSrai t rd ra amt s
  | .slt t rd ra rb => Sys2Proof.Machine.execSlt t rd ra rb s
  | .sltu t rd ra rb => Sys2Proof.Machine.execSltu t rd ra rb s
  | .mul t rd ra rb => Sys2Proof.Machine.execMul t rd ra rb s
  | .mulhu t rd ra rb => Sys2Proof.Machine.execMulhu t rd ra rb s
  | .extu t rd ra amt w1 => Sys2Proof.Machine.execExtu t rd ra amt w1 s
  | .ins t rd ra amt w1 => Sys2Proof.Machine.execIns t rd ra amt w1 s
  | .clz t rd ra => Sys2Proof.Machine.execClz t rd ra s
  | .addi t rd ra imm => Sys2Proof.Machine.execAddi t rd ra imm s
  | .andi t rd ra imm => Sys2Proof.Machine.execAndi t rd ra imm s
  | .ori t rd ra imm => Sys2Proof.Machine.execOri t rd ra imm s
  | .xori t rd ra imm => Sys2Proof.Machine.execXori t rd ra imm s
  | .slti t rd ra imm => Sys2Proof.Machine.execSlti t rd ra imm s
  | .sltiu t rd ra imm => Sys2Proof.Machine.execSltiu t rd ra imm s
  | .lui t rd imm => Sys2Proof.Machine.execLui t rd imm s
  | .jalr t rd ra imm => Sys2Proof.Machine.execJalr t rd ra imm s
  | .lb t rt ra off => Sys2Proof.Machine.execLb t rt ra off s
  | .lbu t rt ra off => Sys2Proof.Machine.execLbu t rt ra off s
  | .lh t rt ra off => Sys2Proof.Machine.execLh t rt ra off s
  | .lhu t rt ra off => Sys2Proof.Machine.execLhu t rt ra off s
  | .lw t rt ra off => Sys2Proof.Machine.execLw t rt ra off s
  | .lwp t rt ra off => Sys2Proof.Machine.execLwp t rt ra off s
  | .sb t rt ra off => Sys2Proof.Machine.execSb t rt ra off s
  | .sh t rt ra off => Sys2Proof.Machine.execSh t rt ra off s
  | .sw t rt ra off => Sys2Proof.Machine.execSw t rt ra off s
  | .beq t ra rb off => Sys2Proof.Machine.execBeq t ra rb off s
  | .bne t ra rb off => Sys2Proof.Machine.execBne t ra rb off s
  | .blt t ra rb off => Sys2Proof.Machine.execBlt t ra rb off s
  | .bge t ra rb off => Sys2Proof.Machine.execBge t ra rb off s
  | .bltu t ra rb off => Sys2Proof.Machine.execBltu t ra rb off s
  | .bgeu t ra rb off => Sys2Proof.Machine.execBgeu t ra rb off s
  | .jal t rd off => Sys2Proof.Machine.execJal t rd off s
  | .prd t rd ra rb rc => Sys2Proof.Machine.execPrd t rd ra rb rc s
  | .pwr t rd ra rb rc => Sys2Proof.Machine.execPwr t rd ra rb rc s
  | .pwrm t rd ra rb rc => Sys2Proof.Machine.execPwrm t rd ra rb rc s
  | .psnd t rd ra rb => Sys2Proof.Machine.execPsnd t rd ra rb s
  | .prcv t rd ra rb => Sys2Proof.Machine.execPrcv t rd ra rb s
  | .take t rd ra rb => Sys2Proof.Machine.execTake t rd ra rb s
  | .takeq t rd ra rb => Sys2Proof.Machine.execTakeq t rd ra rb s
  | .give t rd ra rb => Sys2Proof.Machine.execGive t rd ra rb s
  | .cancel t rd ra => Sys2Proof.Machine.execCancel t rd ra s
  | .aadd t rd ra rb => Sys2Proof.Machine.execAadd t rd ra rb s
  | .cas t rd ra rb rc => Sys2Proof.Machine.execCas t rd ra rb rc s
  | .epost t rd ra rb => Sys2Proof.Machine.execEpost t rd ra rb s
  | .qflush t rd ra => Sys2Proof.Machine.execQflush t rd ra s
  | .qget t rd ra rb rc => Sys2Proof.Machine.execQget t rd ra rb rc s
  | .qput t rd ra rb rc => Sys2Proof.Machine.execQput t rd ra rb rc s
  | .rget t rd ra rb => Sys2Proof.Machine.execRget t rd ra rb s
  | .rdone t rd ra rb rc => Sys2Proof.Machine.execRdone t rd ra rb rc s
  | .wait t rd => Sys2Proof.Machine.execWait t rd s
  | .etest t rd => Sys2Proof.Machine.execEtest t rd s
  | .evs t idx ra => Sys2Proof.Machine.execEvs t idx ra s
  | .evc t idx ra => Sys2Proof.Machine.execEvc t idx ra s
  | .evr t rd idx => Sys2Proof.Machine.execEvr t rd idx s
  | .evpr t rd idx => Sys2Proof.Machine.execEvpr t rd idx s
  | .tset t j p ra => Sys2Proof.Machine.execTset t j p ra s
  | .trd t rd j => Sys2Proof.Machine.execTrd t rd j s
  | .trap t code => Sys2Proof.Machine.execTrap t code s
  | .eret t => Sys2Proof.Machine.execEret t s
  | .tid t rd => Sys2Proof.Machine.execTid t rd s
  | .illegalEncoding t w => Sys2Proof.Machine.execIllegalEncoding t w s
  | .imageLoaded quadBadA quadBadB => Sys2Proof.Machine.execImageLoaded quadBadA quadBadB s
  | .confirm => Sys2Proof.Machine.execConfirm s
  | .confirmTimeout => Sys2Proof.Machine.execConfirmTimeout s
  | .fuseWrite m idx v => Sys2Proof.Machine.execFuseWrite m idx v s
  | .updBegin m => Sys2Proof.Machine.execUpdBegin m s
  | .erase m => Sys2Proof.Machine.execErase m s
  | .program m => Sys2Proof.Machine.execProgram m s
  | .verify m => Sys2Proof.Machine.execVerify m s
  | .updEnd m => Sys2Proof.Machine.execUpdEnd m s
  | .flashOpComplete => Sys2Proof.Machine.execFlashOpComplete s
  | .updateTimeout => Sys2Proof.Machine.execUpdateTimeout s
  | .kclAutoDetect u => Sys2Proof.Machine.execKclAutoDetect u s
  | .kclTerminationDetect u => Sys2Proof.Machine.execKclTerminationDetect u s
  | .kclPollLock u => Sys2Proof.Machine.execKclPollLock u s
  | .kclConfigDone u swap ver peerLink hasId peerChip peerDie => Sys2Proof.Machine.execKclConfigDone u swap ver peerLink hasId peerChip peerDie s
  | .kclTrainTimeout u oneLane => Sys2Proof.Machine.execKclTrainTimeout u oneLane s
  | .kclTrainRetry u => Sys2Proof.Machine.execKclTrainRetry u s
  | .dataFrame u seq dest gchip port epn dirIn colour poison toHost kind per addr len pseq numP => Sys2Proof.Machine.execDataFrame u seq dest gchip port epn dirIn colour poison toHost kind per addr len pseq numP s
  | .proxyFrame u seq dest gchip port epn dirIn toHost kind pid res body => Sys2Proof.Machine.execProxyFrame u seq dest gchip port epn dirIn toHost kind pid res body s
  | .isopfFrame u seq dest gchip port epn dirIn toHost body => Sys2Proof.Machine.execIsopfFrame u seq dest gchip port epn dirIn toHost body s
  | .presReq u seq dest gchip port t h l own => Sys2Proof.Machine.execPresReq u seq dest gchip port t h l own s
  | .presAck u seq dest n lat => Sys2Proof.Machine.execPresAck u seq dest n lat s
  | .presNak u seq dest n cause => Sys2Proof.Machine.execPresNak u seq dest n cause s
  | .presEnd u seq dest gchip port => Sys2Proof.Machine.execPresEnd u seq dest gchip port s
  | .portSt u seq dest gchip port st speed ss chg woken => Sys2Proof.Machine.execPortSt u seq dest gchip port st speed ss chg woken s
  | .portCmd u seq dest n code val => Sys2Proof.Machine.execPortCmd u seq dest n code val s
  | .portRsp u seq dest gchip port res => Sys2Proof.Machine.execPortRsp u seq dest gchip port res s
  | .treeEvt u seq dest c t ev => Sys2Proof.Machine.execTreeEvt u seq dest c t ev s
  | .sofSync u seq dest c t frame => Sys2Proof.Machine.execSofSync u seq dest c t frame s
  | .sofSyncSend => Sys2Proof.Machine.execSofSyncSend s
  | .proxyHostToken u addr epn kind pid len dirIn ack => Sys2Proof.Machine.execProxyHostToken u addr epn kind pid len dirIn ack s
  | .isoPrefetchPoll n epn len => Sys2Proof.Machine.execIsoPrefetchPoll n epn len s
  | .proxyEntryTimeout j => Sys2Proof.Machine.execProxyEntryTimeout j s
  | .regRd u seq dest src hops addrs => Sys2Proof.Machine.execRegRd u seq dest src hops addrs s
  | .regWr u seq dest src hops pairs => Sys2Proof.Machine.execRegWr u seq dest src hops pairs s
  | .regRsp u seq dest src hops data => Sys2Proof.Machine.execRegRsp u seq dest src hops data s
  | .mbx u seq dest src hops data => Sys2Proof.Machine.execMbx u seq dest src hops data s
  | .mbxRsp u seq dest src hops busy => Sys2Proof.Machine.execMbxRsp u seq dest src hops busy s
  | .mbxRetry dest => Sys2Proof.Machine.execMbxRetry dest s
  | .routeFrame u seq origin rseq hops lat => Sys2Proof.Machine.execRouteFrame u seq origin rseq hops lat s
  | .rootFrame u seq die rid => Sys2Proof.Machine.execRootFrame u seq die rid s
  | .idReq u seq die fixed want => Sys2Proof.Machine.execIdReq u seq die fixed want s
  | .idGrant u seq die id => Sys2Proof.Machine.execIdGrant u seq die id s
  | .idClaim u seq dest die id => Sys2Proof.Machine.execIdClaim u seq dest die id s
  | .idRefuse u seq die cause => Sys2Proof.Machine.execIdRefuse u seq die cause s
  | .routeLoss u seq origins => Sys2Proof.Machine.execRouteLoss u seq origins s
  | .lack u seq => Sys2Proof.Machine.execLack u seq s
  | .lnak u seq => Sys2Proof.Machine.execLnak u seq s
  | .credit u vc n => Sys2Proof.Machine.execCredit u vc n s
  | .keepalive u => Sys2Proof.Machine.execKeepalive u s
  | .probe u tb => Sys2Proof.Machine.execProbe u tb s
  | .probeEcho u tb rtt => Sys2Proof.Machine.execProbeEcho u tb rtt s
  | .frameError u unknown seq vc len => Sys2Proof.Machine.execFrameError u unknown seq vc len s
  | .lackTimer u => Sys2Proof.Machine.execLackTimer u s
  | .creditTimer u => Sys2Proof.Machine.execCreditTimer u s
  | .keepaliveTimer u => Sys2Proof.Machine.execKeepaliveTimer u s
  | .kclLinkLoss u => Sys2Proof.Machine.execKclLinkLoss u s
  | .routeFloodTimer => Sys2Proof.Machine.execRouteFloodTimer s
  | .routeEntryExpiry origin u => Sys2Proof.Machine.execRouteEntryExpiry origin u s
  | .rootAnnounceTimer => Sys2Proof.Machine.execRootAnnounceTimer s
  | .rootLost => Sys2Proof.Machine.execRootLost s
  | .idClaimTimer => Sys2Proof.Machine.execIdClaimTimer s
  | .idFreeTimeout id => Sys2Proof.Machine.execIdFreeTimeout id s
  | .idReqRetry => Sys2Proof.Machine.execIdReqRetry s
  | .probeTimer u => Sys2Proof.Machine.execProbeTimer u s
  | .presNoAnswer n => Sys2Proof.Machine.execPresNoAnswer n s
  | .presReqRetry n => Sys2Proof.Machine.execPresReqRetry n s
  | .portopTimeout idx => Sys2Proof.Machine.execPortopTimeout idx s
  | .mgmtSend v => Sys2Proof.Machine.execMgmtSend v s
  | .mgmtRequestTimeout dest mcode => Sys2Proof.Machine.execMgmtRequestTimeout dest mcode s
  | .supplyFall idx => Sys2Proof.Machine.execSupplyFall idx s
  | .supplyRise idx => Sys2Proof.Machine.execSupplyRise idx s
  | .resetNLow => Sys2Proof.Machine.execResetNLow s
  | .resetNHigh => Sys2Proof.Machine.execResetNHigh s
  | .holdEnd => Sys2Proof.Machine.execHoldEnd s
  | .pllLock => Sys2Proof.Machine.execPllLock s
  | .pllLockTimeout => Sys2Proof.Machine.execPllLockTimeout s
  | .riseEntry romOk => Sys2Proof.Machine.execRiseEntry romOk s
  | .unitReady idx => Sys2Proof.Machine.execUnitReady idx s
  | .calibrationFail idx => Sys2Proof.Machine.execCalibrationFail idx s
  | .readinessTimeout idx => Sys2Proof.Machine.execReadinessTimeout idx s
  | .modeSafe => Sys2Proof.Machine.execModeSafe s
  | .release => Sys2Proof.Machine.execRelease s
  | .selftest => Sys2Proof.Machine.execSelftest s
  | .selftestEnd first => Sys2Proof.Machine.execSelftestEnd first s
  | .modeReset => Sys2Proof.Machine.execModeReset s
  | .wake => Sys2Proof.Machine.execWake s
  | .registerWrite m a v => Sys2Proof.Machine.execRegisterWrite m a v s
  | .guardWrite m a v => Sys2Proof.Machine.execGuardWrite m a v s
  | .guardExpiry m => Sys2Proof.Machine.execGuardExpiry m s
  | .pairLoRead m a => Sys2Proof.Machine.execPairLoRead m a s
  | .syncAliasRead m a => Sys2Proof.Machine.execSyncAliasRead m a s
  | .unmappedAccess m a => Sys2Proof.Machine.execUnmappedAccess m a s
  | .accessError m a w write => Sys2Proof.Machine.execAccessError m a w write s
  | .configScrub a found => Sys2Proof.Machine.execConfigScrub a found s
  | .protSelWrite v bad => Sys2Proof.Machine.execProtSelWrite v bad s
  | .clearOne m => Sys2Proof.Machine.execClearOne m s
  | .clearPrefix m p => Sys2Proof.Machine.execClearPrefix m p s
  | .clearAll m => Sys2Proof.Machine.execClearAll m s
  | .logRecordWrite => Sys2Proof.Machine.execLogRecordWrite s
  | .faultOnset idx inst detail => Sys2Proof.Machine.execFaultOnset idx inst detail s
  | .faultHoldExpiry idx => Sys2Proof.Machine.execFaultHoldExpiry idx s
  | .reactionClassWrite j v => Sys2Proof.Machine.execReactionClassWrite j v s
  | .restart => Sys2Proof.Machine.execRestart s
  | .ventAutoRestart => Sys2Proof.Machine.execVentAutoRestart s
  | .kick => Sys2Proof.Machine.execKick s
  | .watchdogExpiry => Sys2Proof.Machine.execWatchdogExpiry s
  | .converterCheck d idx ok => Sys2Proof.Machine.execConverterCheck d idx ok s
  | .softwareSourceWrite v => Sys2Proof.Machine.execSoftwareSourceWrite v s
  | .arm idx inst => Sys2Proof.Machine.execArm idx inst s
  | .disarm => Sys2Proof.Machine.execDisarm s
  | .injectionExpiry => Sys2Proof.Machine.execInjectionExpiry s
  | .atbRouteWrite v => Sys2Proof.Machine.execAtbRouteWrite v s
  | .atbSettled => Sys2Proof.Machine.execAtbSettled s
  | .consoleLine text bad => Sys2Proof.Machine.execConsoleLine text bad s
  | .ctrlC => Sys2Proof.Machine.execCtrlC s
  | .consoleLinePassed text => Sys2Proof.Machine.execConsoleLinePassed text s
  | .consolePassTimeout => Sys2Proof.Machine.execConsolePassTimeout s
  | .sessionIdleTimeout => Sys2Proof.Machine.execSessionIdleTimeout s
  | .pinLockoutEnd => Sys2Proof.Machine.execPinLockoutEnd s
  | .conHello hasV v => Sys2Proof.Machine.execConHello hasV v s
  | .conBye => Sys2Proof.Machine.execConBye s
  | .conHelp => Sys2Proof.Machine.execConHelp s
  | .conService hasPin pin => Sys2Proof.Machine.execConService hasPin pin s
  | .conView => Sys2Proof.Machine.execConView s
  | .conBaud r => Sys2Proof.Machine.execConBaud r s
  | .conEchoOn => Sys2Proof.Machine.execConEchoOn s
  | .conEchoOff => Sys2Proof.Machine.execConEchoOff s
  | .conCap => Sys2Proof.Machine.execConCap s
  | .conMode => Sys2Proof.Machine.execConMode s
  | .conReady => Sys2Proof.Machine.execConReady s
  | .conRst => Sys2Proof.Machine.execConRst s
  | .conSafe => Sys2Proof.Machine.execConSafe s
  | .conBoot => Sys2Proof.Machine.execConBoot s
  | .conUpdateStatus => Sys2Proof.Machine.execConUpdateStatus s
  | .conMap => Sys2Proof.Machine.execConMap s
  | .conPort n => Sys2Proof.Machine.execConPort n s
  | .conTc n => Sys2Proof.Machine.execConTc n s
  | .conMoist n => Sys2Proof.Machine.execConMoist n s
  | .conLp => Sys2Proof.Machine.execConLp s
  | .conLpU u => Sys2Proof.Machine.execConLpU u s
  | .conLpN n => Sys2Proof.Machine.execConLpN n s
  | .conPp k => Sys2Proof.Machine.execConPp k s
  | .conPd k => Sys2Proof.Machine.execConPd k s
  | .conPdLog k => Sys2Proof.Machine.execConPdLog k s
  | .conSb => Sys2Proof.Machine.execConSb s
  | .conBsn => Sys2Proof.Machine.execConBsn s
  | .conBsnG g => Sys2Proof.Machine.execConBsnG g s
  | .conTemp => Sys2Proof.Machine.execConTemp s
  | .conCaldera => Sys2Proof.Machine.execConCaldera s
  | .conEpt => Sys2Proof.Machine.execConEpt s
  | .conEptN n => Sys2Proof.Machine.execConEptN n s
  | .conPol p => Sys2Proof.Machine.execConPol p s
  | .conShp x => Sys2Proof.Machine.execConShp x s
  | .conSched x => Sys2Proof.Machine.execConSched x s
  | .conKcl => Sys2Proof.Machine.execConKcl s
  | .conKclRoute c => Sys2Proof.Machine.execConKclRoute c s
  | .conKclPres n => Sys2Proof.Machine.execConKclPres n s
  | .conTk => Sys2Proof.Machine.execConTk s
  | .conTkT t => Sys2Proof.Machine.execConTkT t s
  | .conFault => Sys2Proof.Machine.execConFault s
  | .conProt => Sys2Proof.Machine.execConProt s
  | .conLog => Sys2Proof.Machine.execConLog s
  | .conLogPlume => Sys2Proof.Machine.execConLogPlume s
  | .conAtb => Sys2Proof.Machine.execConAtb s
  | .conRd a => Sys2Proof.Machine.execConRd a s
  | .conHold n => Sys2Proof.Machine.execConHold n s
  | .conHoldAll => Sys2Proof.Machine.execConHoldAll s
  | .conFree n => Sys2Proof.Machine.execConFree n s
  | .conFreeAll => Sys2Proof.Machine.execConFreeAll s
  | .conPpOn k => Sys2Proof.Machine.execConPpOn k s
  | .conPpOff k => Sys2Proof.Machine.execConPpOff k s
  | .conPpRelease k => Sys2Proof.Machine.execConPpRelease k s
  | .conPpClear k => Sys2Proof.Machine.execConPpClear k s
  | .conSteamRelease n => Sys2Proof.Machine.execConSteamRelease n s
  | .conTcRecheck n => Sys2Proof.Machine.execConTcRecheck n s
  | .conPdCaps k => Sys2Proof.Machine.execConPdCaps k s
  | .conPdEprExit k => Sys2Proof.Machine.execConPdEprExit k s
  | .conPdHardreset k => Sys2Proof.Machine.execConPdHardreset k s
  | .conSbC c => Sys2Proof.Machine.execConSbC c s
  | .conSbOff => Sys2Proof.Machine.execConSbOff s
  | .conWr a v => Sys2Proof.Machine.execConWr a v s
  | .conAtbRoute route idx => Sys2Proof.Machine.execConAtbRoute route idx s
  | .conAtbOff => Sys2Proof.Machine.execConAtbOff s
  | .conTest n hasK k v ok => Sys2Proof.Machine.execConTest n hasK k v ok s
  | .conCntClearOne a => Sys2Proof.Machine.execConCntClearOne a s
  | .conCntClearPrefix p => Sys2Proof.Machine.execConCntClearPrefix p s
  | .conCntClearAll => Sys2Proof.Machine.execConCntClearAll s
  | .conFaultInj idx inst => Sys2Proof.Machine.execConFaultInj idx inst s
  | .conFaultDisarm => Sys2Proof.Machine.execConFaultDisarm s
  | .conFaultRestart => Sys2Proof.Machine.execConFaultRestart s
  | .conUpdate => Sys2Proof.Machine.execConUpdate s
  | .conUpdateErase b off => Sys2Proof.Machine.execConUpdateErase b off s
  | .conUpdatePage b off data => Sys2Proof.Machine.execConUpdatePage b off data s
  | .conUpdateVerify b => Sys2Proof.Machine.execConUpdateVerify b s
  | .conUpdateEnd => Sys2Proof.Machine.execConUpdateEnd s
  | .conSelftest => Sys2Proof.Machine.execConSelftest s
  | .conReset => Sys2Proof.Machine.execConReset s
  | .conSafeEnter => Sys2Proof.Machine.execConSafeEnter s
  | .conSafeRelease => Sys2Proof.Machine.execConSafeRelease s
  | .conWake => Sys2Proof.Machine.execConWake s
  | .extest pre => Sys2Proof.Machine.execExtest pre s
  | .samplePreload cells pre => Sys2Proof.Machine.execSamplePreload cells pre s
  | .bypass => Sys2Proof.Machine.execBypass s
  | .testLogicReset => Sys2Proof.Machine.execTestLogicReset s
  | .upstreamHostDetach u => Sys2Proof.Machine.execUpstreamHostDetach u s
  | .upstreamUxExit u => Sys2Proof.Machine.execUpstreamUxExit u s
  | .slowTripSample k isVbus v => Sys2Proof.Machine.execSlowTripSample k isVbus v s

end Sys2Proof.Machine
end

