-- ==== Sys2Proof/Safety.lean ====
section
/-!
DEFINITION. What claims are stated in: a command that ends in a state with a property, and the invariant every state of the part keeps.
-/

namespace Sys2Proof.Machine

/-- The canonical form of a memory whose unlisted bytes read as d: addresses strictly rising, no entry equal to d.
[log 5: DESIGN CHOICE] -/
def Memory.wf (m : Tbl Byte) (d : Byte) : Bool := Tbl.wf m d

/-- The command completes, in a state of which Q holds. -/
def Ends (i : Instr) (s : State) (Q : State → Prop) : Prop := ∃ t, exec i s = .next t ∧ Q t

namespace State

/-- Uu is present, faces a host, and the data path runs. -/
def hostSide (s : State) (u : Nat) : Bool := s.usHere u && !(s.isKcl u) && s.dataOn

/-- Dn is present, and the data path runs. -/
def portSide (s : State) (n : Nat) : Bool := s.dsHere n && s.dataOn

/-- Dn is present and ready, its die drives its pins, and the part runs. -/
def tcSide (s : State) (n : Nat) : Bool := s.dsHere n && s.tcLive n && s.alive

/-- Uu is a KCL link of a running engine. -/
def linkSide (s : State) (u : Nat) : Bool := s.kOn && s.usHere u && s.isKcl u && s.alive

/-- The frame with SEQ `seq` is the one link u expects, and is not the sixteenth since the last LACK (R401). -/
def linkTakes (s : State) (u seq : Nat) : Bool :=
  s.alive && s.linkLive u && s.kOn && decide (seq = (s.klink u).rxSeq) && decide ((s.klink u).rxCount < 15)

/-- The link's accounts once it has accepted such a frame of `len` body bytes on a VC (R401, R402). -/
def frameIn (s : State) (u seq vc len : Nat) : State :=
  let s1 := s.modKlink u fun l => { l with rxSeq := (seq + 1) % 128, discarding := false, rxCount := l.rxCount + 1 }
  if vc = 0 then s1.kOwe u 0 len else s1

/-- Thread t runs, and its PC holds the instruction word w: in instruction memory, or, privileged, in instruction ROM; no armed memory
error lies in the fetch (R319, R321, R351). [log 14: DESIGN CHOICE; log 15: DEDUCED] -/
def fetches (s : State) (t w : Nat) : Bool :=
  let h := s.thread t; let a := h.pc.toNat
  s.alive && decide (h.state = .run) && decide (a % 4 = 0) &&
    ((decide (a + 4 ≤ 0x40000) && decide (bytesAt s.tk.imem a 4 = w) && !(s.injMatches 14 0) && !(s.injMatches 13 0)) ||
      (decide (0x40000 ≤ a) && decide (a + 4 ≤ 0x50000) && h.priv && !(s.injMatches 14 1) && !(s.injMatches 13 1)))

/-- A read of w bytes at address a of shared data memory completes for thread t: in its window, aligned, no armed error (R318, R321). -/
def dataOk (s : State) (t a w : Nat) : Bool :=
  decide (regionAt a w = .data) && s.inWindow t a w && decide (a % w = 0) && !(s.injMatches 14 2) && !(s.injMatches 13 2)

/-- A read of w bytes at address a of thread t's local memory completes: aligned, no armed error. -/
def locOk (s : State) (t a w : Nat) : Bool :=
  decide (regionAt a w = .loc) && decide (a % w = 0) && !(s.injMatches 16 t)

/-- The console takes a command of session kind `need`: it takes input, no passed line runs, and the part is not in SAFE (R541, R545). -/
def conOpen (s : State) (need : Nat) : Bool :=
  s.conAlive && s.svc.passed.isNone && !decide (s.mode = .safe) && decide (need ≤ s.get SV_ST.SESSION)

/-- A service command on port k is taken: the session is service, and it holds the port where that is a downstream one (R544). -/
def conHolds (s : State) (k : Nat) : Bool := s.conOpen 2 && decide (k ≤ 99) && s.kHere k && (decide (96 ≤ k) || s.held k)

/-- The management function of tree u is presented to its host, and the data path runs (R60). -/
def mgmtSide (s : State) (u : Nat) : Bool := s.hostSide u && (s.up u).mgmtNow

/-- No register field of t differs from s but those listed. -/
def KeepsFlds (s t : State) (fs : List Fld) : Prop := ∀ g : Fld, (∀ f ∈ fs, g.key ≠ f.key) → t.get g = s.get g

/-- No event counter of t differs from s but those listed. -/
def KeepsCnts (s t : State) (as : List Nat) : Prop := ∀ a : Nat, a ∉ as → t.cnt a = s.cnt a

/-- Event counters are in canonical form and at most 0xFFFF (R492); byte counters are in canonical form and 64 bits wide (R154); the
stored and staged fields are in canonical order; data memory, instruction memory, every thread's local memory and the flash are in
canonical form. -/
structure Inv (s : State) : Prop where
  cnts_wf : Tbl.wf s.cnts 0 = true
  cnts_le : ∀ e ∈ s.cnts, e.2 ≤ 0xFFFF
  bytes_wf : Tbl.wf s.bytes 0 = true
  bytes_lt : ∀ e ∈ s.bytes, e.2 < 2 ^ 64
  flds_sorted : Tbl.sorted s.flds = true
  staged_sorted : Tbl.sorted s.staged = true
  dmem_wf : Memory.wf s.tk.dmem 0 = true
  imem_wf : Memory.wf s.tk.imem 0 = true
  loc_wf : ∀ e ∈ s.threads, Memory.wf e.2.loc 0 = true
  flash_wf : Memory.wf s.boot.flash 0xFF = true

end State

end Sys2Proof.Machine
end

