-- ==== Sys2Proof/Certificates/Slice0/Obligations.lean ====
section
/-!
DEFINITION. The statements for the provers. `Ends c s P` (Safety.lean) says that exec runs command c on s to a next state, and that P
holds of it; `s.KeepsFlds t l` and `s.KeepsCnts t l` that no register field, no counter, but those of l differ between s and t.
-/

open Sys2Proof Sys2Proof.Machine Sys2Proof.Machine.State

/-- A step runs the command at the front of the queue, on the state with the queue's rest. -/
def Obligations.FrontCommandRuns : Prop :=
  (∀ (c : Instr) (s : State) (rest : List Instr), s.pending = c :: rest → step s = exec c { s with pending := rest })

/-- The model's choice (log 3): with nothing waiting, a step changes nothing. -/
def Obligations.EmptyQueueIdles : Prop :=
  (∀ s : State, s.pending = [] → step s = .next s)

/-- Every step answers a next state, takes exactly the front command, and leaves the variant: no command of the table stops the model,
puts commands in the queue or turns the part into another. -/
def Obligations.StepTakesFront : Prop :=
  (∀ s : State, ∃ t, step s = .next t ∧ t.pending = s.pending.tail ∧ t.variant = s.variant)

/-- R154 and R492, over every state and command: event counters stay within 16 bits and byte counters within 64; their tables, those of
the register fields and the memories (data, instruction, local, flash) stay in canonical form. -/
def Obligations.StepKeepsInvariant : Prop :=
  (∀ s t : State, s.Inv → step s = .next t → t.Inv)

/-- The invariant holds right after reset. -/
def Obligations.ResetInvariant : Prop :=
  State.reset.Inv

/-- R570. No command but the four of the JTAG port moves the test port's registers. -/
def Obligations.OnlyJtagMovesJtag : Prop :=
  (∀ (c : Instr) (s t : State), exec c s = .next t → t.jtag = s.jtag ∨ (∃ cells pre, c = .samplePreload cells pre) ∨
    (∃ pre, c = .extest pre) ∨ c = .bypass ∨ c = .testLogicReset)

/-- R441, R452. In OFF and HOLD everything is held: no command has an effect but the supplies, RESET_N, the end of HOLD and the JTAG port. -/
def Obligations.HeldPartIsInert : Prop :=
  (∀ (c : Instr) (s : State), s.alive = false → exec c s = .next s ∨ (∃ i, c = .supplyFall i) ∨ (∃ i, c = .supplyRise i) ∨
    c = .resetNLow ∨ c = .resetNHigh ∨ c = .holdEnd ∨ (∃ cells pre, c = .samplePreload cells pre) ∨ (∃ pre, c = .extest pre) ∨
    c = .bypass ∨ c = .testLogicReset)

/-- The register map's reset values: every field reads its reset value right after reset, RST_CNT counting the reset itself. -/
def Obligations.ResetFields : Prop :=
  (∀ r ∈ regRows, ∀ i < r.count, ∀ f ∈ r.fields, (f.fld (r.base + r.stride * i) i).key ≠ G_RST_CAUSE.RST_CNT.key →
    State.reset.get (f.fld (r.base + r.stride * i) i) = f.rst i) ∧
  (State.reset.get G_RST_CAUSE.RST_CNT = 1) ∧
  (∀ a, State.reset.cnt a = 0) ∧
  (State.reset.mode = .strap ∧ (State.reset.thread 0).state = .run ∧ (State.reset.thread 0).priv = true ∧
    (State.reset.thread 0).pc = 0x40000 ∧ ∀ t, t ≠ 0 → (State.reset.thread t).state = .off)

/-- R4 and R5. G_CAP_UNITS and P_CAP[n] on each variant, in every state; no command changes them. -/
def Obligations.CapabilityRegisters : Prop :=
  (∀ s : State, s.variant = .klh9600 → s.valueAt R.G_CAP_UNITS true =
    0xB1 * 2 ^ 24 + 0x0 * 2 ^ 20 + 0x10 * 2 ^ 13 + 0x1 * 2 ^ 12 + 0x1 * 2 ^ 11 + 0x4 * 2 ^ 8 + 0x60) ∧
  (∀ s : State, s.variant = .klh9610 → s.valueAt R.G_CAP_UNITS true =
    0xB1 * 2 ^ 24 + 0x1 * 2 ^ 20 + 0x10 * 2 ^ 13 + 0x1 * 2 ^ 12 + 0x0 * 2 ^ 11 + 0x4 * 2 ^ 8 + 0x60) ∧
  (∀ s : State, s.variant = .klh4800 → s.valueAt R.G_CAP_UNITS true =
    0xB1 * 2 ^ 24 + 0x2 * 2 ^ 20 + 0x08 * 2 ^ 13 + 0x0 * 2 ^ 12 + 0x1 * 2 ^ 11 + 0x2 * 2 ^ 8 + 0x30) ∧
  (∀ (s : State) n, n < 96 → s.valueAt (R.P_CAP n) true = match s.variant with
    | .klh9600 => 0xFF
    | .klh9610 => 0xFB
    | .klh4800 => if n < 48 then 0xFF else 0) ∧
  (∀ (c : Instr) (s t : State), exec c s = .next t → ∀ p, t.valueAt R.G_CAP_UNITS p = s.valueAt R.G_CAP_UNITS true ∧
    ∀ n < 96, t.valueAt (R.P_CAP n) p = s.valueAt (R.P_CAP n) true)

/-- R6. A register of an absent unit reads 0 and takes no write; each ignored write counts. -/
def Obligations.AbsentUnits : Prop :=
  (∀ (s : State) m a r i, regAt (regOf a) = some (r, i) → a % 4 = 0 → isGuard a = false → s.pins.clockAbsent = false →
    s.absent (regOf a) = true → (s.read32 m a).fab.data = 0 ∧ (s.read32 m a).fab.rc = .ok ∧ (s.read32 m a).flds = s.flds ∧
      (s.read32 m a).cnts = s.cnts) ∧
  (∀ (s : State) m a v r i, regAt (regOf a) = some (r, i) → a % 4 = 0 → isGuard a = false → s.pins.clockAbsent = false →
    s.absent (regOf a) = true → (s.write32 m a v).fab.rc = .ok ∧ (s.write32 m a v).flds = s.flds ∧
      (s.write32 m a v).cnt R.G_ABSENT_WR_CNT = min (s.cnt R.G_ABSENT_WR_CNT + 1) 0xFFFF ∧
      s.KeepsCnts (s.write32 m a v) [R.G_ABSENT_WR_CNT])

/-- R492. An event counts one, up to 0xFFFF, and moves no other counter; writes to a counter are ignored; every reset but a power-on
reset keeps the counters. -/
def Obligations.EventCounters : Prop :=
  (∀ (s : State) a, (s.inc a).cnt a = min (s.cnt a + 1) 0xFFFF ∧ s.KeepsCnts (s.inc a) [a] ∧ (s.inc a).flds = s.flds) ∧
  (∀ (s : State) m a v r i, regAt (regOf a) = some (r, i) → r.kind = 1 → a % 4 = 0 → isGuard a = false → s.pins.clockAbsent = false →
    s.absent (regOf a) = false → (s.write32 m a v).cnts = s.cnts ∧ (s.write32 m a v).flds = s.flds) ∧
  (∀ (s : State) kind, kind ≠ rstPor → (s.resetBegin kind).cnts = s.cnts) ∧
  (∀ s : State, (s.resetBegin rstPor).cnts = [])

/-- R440 to R442. A reset passes through HOLD: threads are OFF, fuses, flash and the test port stay, LAST names the kind. -/
def Obligations.ResetBegins : Prop :=
  (∀ (s : State) kind, (s.resetBegin kind).mode = .hold ∧ (s.resetBegin kind).threads = [] ∧ (s.resetBegin kind).boot.flash = s.boot.flash ∧
    (s.resetBegin kind).jtag = s.jtag ∧ (s.resetBegin kind).variant = s.variant) ∧
  (∀ (s : State) kind, kind ≠ rstPor → kind < 16 → (s.resetBegin kind).get G_RST_CAUSE.LAST = kind) ∧
  (∀ (s : State) kind i, i < 8 → (s.resetBegin kind).get (G_FUSE_KEY.HASH i) = s.get (G_FUSE_KEY.HASH i) % 2 ^ 32) ∧
  (∀ (s : State) kind, kind ≠ rstPor → (s.resetBegin kind).log.count = s.log.count ∧ (s.resetBegin kind).log.slots = s.log.slots)

/-- R455 to R457. Entry to SAFE: the mode, the recorded cause, both enable lines low, VENT low, no confirmation awaited, no thread
running; a part in SAFE stays as it is. -/
def Obligations.SafeEntry : Prop :=
  (∀ (s : State) e f, s.alive = true → s.mode ≠ .safe → (s.safeEntry e f).mode = .safe ∧ (s.safeEntry e f).dormant = false ∧
    (s.safeEntry e f).pins.paEnable = [false, false] ∧ (s.safeEntry e f).get FC_VENT_ST.RUN = 0 ∧
    (s.safeEntry e f).boot.confirmWait = false) ∧
  (∀ (s : State) e f, s.mode = .safe → s.safeEntry e f = s)

/-- R568. IRQ_N is low while an asserted source has class NOTIFY or above, released when none has and in OFF and HOLD; a software source
of class NOTIFY drives it. -/
def Obligations.InterruptLine : Prop :=
  (∀ s : State, s.alive = true → (s.irqLow = true ↔ ∃ i < 64, s.fltOn i = true ∧ 1 ≤ s.fltClass i)) ∧
  (∀ s : State, s.mode = .off ∨ s.mode = .hold → s.irqLow = false) ∧
  (∀ (s : State) j, s.alive = true → j < 8 → s.fltClass (56 + j) = 1 → (s.wrSw (2 ^ j)).irqLow = true)

/-- R353, R354 and the register file: an ALU result goes to rd, g0 reads 0 and takes no write, the PC moves on; no other register, no
other thread, no field, no counter and no memory changes. -/
def Obligations.ResultWrites : Prop :=
  (∀ (s : State) t rd v, rd ≠ 0 → (s.result t rd v).g t rd = v ∧ (∀ r, r ≠ rd → (s.result t rd v).g t r = s.g t r)) ∧
  (∀ (s : State) t v r, (s.result t 0 v).g t r = s.g t r) ∧
  (∀ (s : State) t rd v, s.g t 0 = 0 ∧ ((s.result t rd v).thread t).pc = (s.thread t).pc + 4 ∧
    (∀ u, u ≠ t → (s.result t rd v).thread u = s.thread u) ∧ ((s.result t rd v).thread t).loc = (s.thread t).loc ∧
    (s.result t rd v).flds = s.flds ∧ (s.result t rd v).cnts = s.cnts ∧ (s.result t rd v).tk = s.tk)

/-- R356. A store changes the bytes it names and no other byte of shared data memory, of local memory or of instruction memory. -/
def Obligations.StoredBytes : Prop :=
  (∀ (s : State) t a l b, 0x10000000 ≤ a → a < 0x20000000 → Tbl.get (s.putBytes t a l).tk.dmem 0 b =
    if a - 0x10000000 ≤ b ∧ b < a - 0x10000000 + l.length then l.getD (b - (a - 0x10000000)) 0 else Tbl.get s.tk.dmem 0 b) ∧
  (∀ (s : State) t a l b, 0x20000000 ≤ a → Tbl.get ((s.putBytes t a l).thread t).loc 0 b =
    if a - 0x20000000 ≤ b ∧ b < a - 0x20000000 + l.length then l.getD (b - (a - 0x20000000)) 0 else Tbl.get (s.thread t).loc 0 b) ∧
  (∀ (s : State) t a l, a < 0x20000000 → (s.putBytes t a l).threads = s.threads ∧ (s.putBytes t a l).tk.imem = s.tk.imem) ∧
  (∀ (s : State) t a l u, 0x20000000 ≤ a → u ≠ t → (s.putBytes t a l).thread u = s.thread u ∧ (s.putBytes t a l).tk = s.tk)

/-- R340, R341, R343. Taking an exception: EPC, the privilege in force, ECAUSE and the faulting address are saved, EXC and system
privilege set, the entry counted, and the thread goes on at its vector; with EXC already set it is FAULTED and keeps what the first saved. -/
def Obligations.ExceptionEntry : Prop :=
  (∀ (s : State) t cause epc eaddr, (s.thread t).exc = false → (s.exception t cause epc eaddr).get (TK_TEPC.EPC t) = epc.toNat ∧
    (s.exception t cause epc eaddr).get (TK_TEXC.EPRIV t) = (s.thread t).priv.toNat ∧
    (s.exception t cause epc eaddr).get (TK_TEXC.ECAUSE t) = cause % 256 ∧
    (s.exception t cause epc eaddr).get (TK_TEADDR.EADDR t) = eaddr % 2 ^ 32) ∧
  (∀ (s : State) t cause epc eaddr, (s.thread t).exc = false → ((s.exception t cause epc eaddr).thread t).exc = true ∧
    ((s.exception t cause epc eaddr).thread t).priv = true ∧
    ((s.exception t cause epc eaddr).thread t).pc = BitVec.ofNat 32 (4 * s.get (TK_TVEC.VEC t)) ∧
    ((s.exception t cause epc eaddr).thread t).gpr = (s.thread t).gpr) ∧
  (∀ (s : State) t cause epc eaddr, (s.thread t).exc = false → (s.exception t cause epc eaddr).cnt (R.TK_EXC_CNT t) =
    min (s.cnt (R.TK_EXC_CNT t) + 1) 0xFFFF) ∧
  (∀ (s : State) t cause epc eaddr, (s.thread t).exc = false →
    s.KeepsFlds (s.exception t cause epc eaddr) [TK_TEPC.EPC t, TK_TEXC.EPRIV t, TK_TEXC.ECAUSE t, TK_TEADDR.EADDR t]) ∧
  (∀ (s : State) t cause epc eaddr, (s.thread t).exc = true → s.fltClass 15 < 2 →
    ((s.exception t cause epc eaddr).thread t).state = .faulted ∧ (s.exception t cause epc eaddr).fltOn 15 = true ∧
    (s.exception t cause epc eaddr).get (TK_TEPC.EPC t) = s.get (TK_TEPC.EPC t) ∧
    (s.exception t cause epc eaddr).get (TK_TEXC.ECAUSE t) = s.get (TK_TEXC.ECAUSE t) ∧
    (s.exception t cause epc eaddr).get (TK_TEADDR.EADDR t) = s.get (TK_TEADDR.EADDR t))

/-- R340, R365. ERET restores the PC and the privilege and clears EXC; registers, events and fields stay. -/
def Obligations.ExceptionReturn : Prop :=
  (∀ (s : State) t, ((s.eretT t).thread t).pc = BitVec.ofNat 32 (s.get (TK_TEPC.EPC t)) ∧
    ((s.eretT t).thread t).priv = decide (s.get (TK_TEXC.EPRIV t) ≠ 0) ∧ ((s.eretT t).thread t).exc = false ∧
    ((s.eretT t).thread t).gpr = (s.thread t).gpr ∧ ((s.eretT t).thread t).evp = (s.thread t).evp ∧ (s.eretT t).flds = s.flds ∧
    (s.eretT t).cnts = s.cnts ∧ ∀ u, u ≠ t → (s.eretT t).thread u = s.thread u)

/-- R487. The guard: a host's write of an RWP register is held and answers PEND, and its complement at the guard address then writes the
RWP fields as a privileged write would, and empties the slot. -/
def Obligations.GuardTwoSteps : Prop :=
  (∀ (s : State) u a v r i, regAt (regOf a) = some (r, i) → a % 4 = 0 → isGuard a = false → s.pins.clockAbsent = false →
    s.absent (regOf a) = false → hasPriv r = true → openFields r = [] → byBase openWrites r.base = none → s.slotOf (.host u) = none →
    (s.write32 (.host u) a v).fab.rc = .pend ∧ (s.write32 (.host u) a v).flds = s.flds ∧
    (s.write32 (.host u) a v).write32 (.host u) (2 ^ 22 + regOf a) (2 ^ 32 - 1 - v) =
      (s.answer .pend).writePriv (.host u) r i (regOf a) v)

/-- R127, R128. One metering stage, no injection armed: OFF answers green and changes nothing; otherwise the policer's three cases, the
pre-colour counting in AWARE mode alone, and the promotion of red to yellow for a packet that is never red. The byte counter of the
colour grows by the packet; no register field and no other policer changes. -/
def Obligations.PolicerResult : Prop :=
  (∀ (s : State) p b pre safe, s.plMode p = 0 → s.stageMeter p b pre safe = (s, .green)) ∧
  (∀ (s : State) p b pre safe, s.plMode p = 1 ∨ s.plMode p = 2 → s.injMatches 22 p = false →
    ∃ c, c = (if s.plMode p = 2 then pre else .green) ∧
    ((c = .red ∨ (s.pol p).tp < b) ∧ safe = false → (s.stageMeter p b pre safe).2 = .red ∧
      (s.stageMeter p b pre safe).1.pol p = s.pol p ∧ (s.stageMeter p b pre safe).1.cnts = s.cnts ∧
      Tbl.get (s.stageMeter p b pre safe).1.bytes 0 (R.TM_PL_RED_LO p) = (Tbl.get s.bytes 0 (R.TM_PL_RED_LO p) + b) % 2 ^ 64) ∧
    ((c = .red ∨ (s.pol p).tp < b) ∧ safe = true → (s.stageMeter p b pre safe).2 = .yellow ∧
      ((s.stageMeter p b pre safe).1.pol p).tp = (s.pol p).tp - b ∧ ((s.stageMeter p b pre safe).1.pol p).tc = (s.pol p).tc ∧
      (s.stageMeter p b pre safe).1.cnt (R.TM_PL_PROMOTE_CNT p) = min (s.cnt (R.TM_PL_PROMOTE_CNT p) + 1) 0xFFFF ∧
      Tbl.get (s.stageMeter p b pre safe).1.bytes 0 (R.TM_PL_YEL_LO p) = (Tbl.get s.bytes 0 (R.TM_PL_YEL_LO p) + b) % 2 ^ 64) ∧
    (c ≠ .red ∧ b ≤ (s.pol p).tp ∧ (c = .yellow ∨ (s.pol p).tc < b) → (s.stageMeter p b pre safe).2 = .yellow ∧
      ((s.stageMeter p b pre safe).1.pol p).tp = (s.pol p).tp - b ∧ ((s.stageMeter p b pre safe).1.pol p).tc = (s.pol p).tc ∧
      Tbl.get (s.stageMeter p b pre safe).1.bytes 0 (R.TM_PL_YEL_LO p) = (Tbl.get s.bytes 0 (R.TM_PL_YEL_LO p) + b) % 2 ^ 64) ∧
    (c ≠ .red ∧ c ≠ .yellow ∧ b ≤ (s.pol p).tp ∧ b ≤ (s.pol p).tc → (s.stageMeter p b pre safe).2 = .green ∧
      ((s.stageMeter p b pre safe).1.pol p).tp = (s.pol p).tp - b ∧ ((s.stageMeter p b pre safe).1.pol p).tc = (s.pol p).tc - b ∧
      Tbl.get (s.stageMeter p b pre safe).1.bytes 0 (R.TM_PL_GRN_LO p) = (Tbl.get s.bytes 0 (R.TM_PL_GRN_LO p) + b) % 2 ^ 64)) ∧
  (∀ (s : State) p b pre safe, s.injMatches 22 p = false → (s.stageMeter p b pre safe).1.flds = s.flds ∧
    s.KeepsCnts (s.stageMeter p b pre safe).1 [R.TM_PL_PROMOTE_CNT p] ∧ ∀ q, q ≠ p → (s.stageMeter p b pre safe).1.pol q = s.pol q)

/-- R101, R102, R100. A queue's pointers and a producer's request: occupancy 0 at equal pointers and S at equal offsets with wrap bits
that differ; a packet longer than the queue is discarded and counted; a packet that fits is admitted, its words reserved, behind the
others; otherwise the producer stalls, FULL is set and nothing is written. No other queue changes. -/
def Obligations.QueueAdmission : Prop :=
  (∀ (s : State) q, (s.queue q).wr < 2 * s.qSize q → (s.queue q).rd < 2 * s.qSize q →
    (s.qOcc q = 0 ↔ (s.queue q).wr = (s.queue q).rd) ∧
    (s.qOcc q = s.qSize q ↔ (s.queue q).wr = ((s.queue q).rd + s.qSize q) % (2 * s.qSize q))) ∧
  (∀ (s : State) q p, s.on (CD_QST.EN_ACT q) = true → s.qSize q < p.w →
    s.qRequest q p = (s.inc (R.CD_OVERSIZE_CNT q), .oversize)) ∧
  (∀ (s : State) q p, s.on (CD_QST.EN_ACT q) = true → (s.queue q).wait = [] → p.w ≤ s.qFree q → p.w ≤ s.qSize q →
    (s.qRequest q p).2 = .admitted s.flow.next ∧ ((s.qRequest q p).1.queue q).wr = ((s.queue q).wr + p.w) % (2 * s.qSize q) ∧
    ((s.qRequest q p).1.queue q).rd = (s.queue q).rd ∧
    ((s.qRequest q p).1.queue q).pkts = (s.queue q).pkts ++
      [{ p with order := s.flow.next, body := s.freeCtr, secded := (s.get CD_PROT.SECDED).testBit (s.qBank q) }] ∧
    (s.qRequest q p).1.flow.next = s.flow.next + 1) ∧
  (∀ (s : State) q p, s.on (CD_QST.EN_ACT q) = true → s.qFree q < p.w → p.w ≤ s.qSize q →
    (s.qRequest q p).2 = .stalled ∧ ((s.qRequest q p).1.queue q).wr = (s.queue q).wr ∧
    ((s.qRequest q p).1.queue q).pkts = (s.queue q).pkts ∧ ((s.qRequest q p).1.queue q).wait = (s.queue q).wait ++ [p] ∧
    (s.qRequest q p).1.get (CD_QST.FULL q) = 1 ∧
    (s.get (CD_QST.FULL q) = 0 → (s.qRequest q p).1.cnt (R.CD_QFULL_CNT q) = min (s.cnt (R.CD_QFULL_CNT q) + 1) 0xFFFF)) ∧
  (∀ (s : State) q p x, x ≠ q → (s.qRequest q p).1.queue x = s.queue x)

/-- R541, R545, R546. A service command without a service session changes no register and answers ERR SESSION; in SAFE a command outside
the restricted set answers ERR WRONG_STATE. -/
def Obligations.ConsoleGates : Prop :=
  (∀ s a v, s.conOpen 0 = true → s.get SV_ST.SESSION < 2 → Ends (.conWr a v) s fun t => t = s.conErr "SESSION" ∧ t.flds = s.flds) ∧
  (∀ s n, s.conOpen 0 = true → s.get SV_ST.SESSION < 2 → Ends (.conHold n) s fun t => t = s.conErr "SESSION" ∧ t.flds = s.flds) ∧
  (∀ s, s.conOpen 0 = true → s.get SV_ST.SESSION = 0 → Ends .conCap s fun t => t = s.conErr "SESSION" ∧ t.flds = s.flds) ∧
  (∀ s k, s.mode = .safe → s.svc.passed = none → Ends (.conPpOn k) s fun t => t = s.conErr "WRONG_STATE" ∧ t.flds = s.flds) ∧
  (∀ s n, s.mode = .safe → s.svc.passed = none → Ends (.conPort n) s fun t => t = s.conErr "WRONG_STATE" ∧ t.flds = s.flds)

/-- R570, R584. The JTAG rows change the test port alone, in every mode: SAMPLE/PRELOAD captures the pins without disturbing them;
EXTEST takes the update latches, and with them the pins, while RESET_N is low in HOLD, and otherwise acts as BYPASS; BYPASS and
Test-Logic-Reset select BYPASS. -/
def Obligations.JtagRows : Prop :=
  (∀ s cells pre, Ends (.samplePreload cells pre) s fun t =>
    t = { s with jtag := { ir := 1, capture := s.cellsAt cells, latch := pre } }) ∧
  (∀ s pre, s.pins.resetN = false → s.mode = .hold → Ends (.extest pre) s fun t =>
    t = { s with jtag := { s.jtag with ir := 0, latch := pre } } ∧ t.extestDrives = true) ∧
  (∀ s pre, s.pins.resetN = true ∨ s.mode ≠ .hold → Ends (.extest pre) s fun t =>
    t = { s with jtag := { s.jtag with ir := 0 } } ∧ t.extestDrives = false) ∧
  (∀ s, Ends .bypass s fun t => t = { s with jtag := { s.jtag with ir := 15 } }) ∧
  (∀ s, Ends .testLogicReset s fun t => t = { s with jtag := { s.jtag with ir := 15 } })

/-- Chapter 02, ports: the rows by which devices come and go and the host resets ports, from the states in which they act. -/
def Obligations.HubPortRows : Prop :=
  (∀ s n v, s.alive = true → s.kHere n = true → Ends (.portMapWrite n v) s fun t => t = (s.wrPMap n v).answer .ok ∧ t.fab.rc = .ok) ∧
  (∀ s k, s.alive = true → k < 96 → (s.port k).move = .se0 → (∀ c u h l, s.placeOf k ≠ .there c u h l) →
    Ends (.moveSe0End k) s fun t => (t.port k).move = .newBoundary ∧ t.flds = s.flds) ∧
  (∀ s u, s.alive = true → (s.up u).mgmtMove = .se0 →
    Ends (.moveSe0End (96 + u)) s fun t => (t.up u).mgmtMove = .newBoundary ∧ t.flds = s.flds) ∧
  (∀ s n u, s.alive = true → s.treeAt n = some u → s.get (U_TREEST.LINK u) ≠ 0 → s.get (U_TREE.ENUM_TO u) ≠ 0 →
    s.get (P_PORTST.ENUM_STALL n) = 0 → s.ps n = Ps.disabled →
    Ends (.enumStall n) s fun t => t =
      (((s.setPort n (P_PORTST.ENUM_STALL n) 1).inc (R.P_ENUM_STALL_CNT n)).logOpen 0x02 0x01 n).faultOnset 44 n 0) ∧
  (∀ s u a n h l, s.hostSide u = true → (s.up u).target0 = some (.port n) → n < 96 → a < 128 →
    Ends (.setAddressComplete u a false h l) s fun t =>
      t.get (P_PORTST.ADDR n) = a ∧ t.get (P_PORTST.ADDR_VALID n) = 1 ∧ (t.up u).target0 = none ∧
      (t.up u).routes = Tbl.ins (Tbl.erase (s.up u).routes a) a (.port n)) ∧
  (∀ s u a h l n, s.hostSide u = true → s.get (U_TREEST.USB3_HUB u) ≠ 0 → l ≠ 0 → s.carrier u h l true = some (.port n) → n < 96 →
    s.get (P_PORTST.SS_LINK n) ≠ 0 → a < 128 →
    Ends (.setAddressComplete u a true h l) s fun t =>
      t.get (P_PORTST.ADDR n) = a ∧ t.get (P_PORTST.ADDR_VALID n) = 1) ∧
  (∀ s u h l n, s.hostSide u = true → s.carrier u h l false = some (.port n) → s.get (P_PORTST.SS_LINK n) = 0 →
    s.ps n = Ps.enabled ∨ s.ps n = Ps.disabled ∨ s.ps n = Ps.suspended →
    Ends (.setPortReset u h l false) s fun t => t = s.resetPort n false ∧ (t.port n).rst = 1) ∧
  (∀ s n, s.alive = true → n < 96 → (s.port n).rst = 1 → s.ps n = Ps.resetting → (s.port n).dev = 2 → s.treeAt n = none →
    Ends (.usb2PortResetEnd n true) s fun t =>
      t.get (P_PORTST.SPEED n) = 3 ∧ t.get (P_PORTST.STATE n) = Ps.enabled ∧ (t.port n).cReset = true) ∧
  (∀ s u h l n, s.hostSide u = true → s.carrier u h l true = some (.port n) → n < 96 → s.get (P_PORTST.SS_LINK n) = 1 →
    s.ps n = Ps.enabled →
    Ends (.bhPortReset u h l) s fun t => (t.port n).rst = 3 ∧ (t.port n).warm = true) ∧
  (∀ s n, s.alive = true → (s.port n).rst = 2 → Ends (.hotResetEscalation n) s fun t =>
    t = s.warmReset n ∧ (t.port n).rst = 3) ∧
  (∀ s n, s.alive = true → n < 96 → (s.port n).rst = 3 → Ends (.warmResetLfpsEnd n) s fun t =>
    t.get (P_LPST.SS_LS n) = Ls.polling ∧ (t.port n).rst = 4) ∧
  (∀ s n, s.alive = true → n < 96 → (s.port n).rst = 4 → Ends (.warmResetFail n) s fun t =>
    t = ((s.portGone n).setSs n Ls.rxDetect).inc (R.P_SS_RST_FAIL_CNT n) ∧ t.get (P_LPST.SS_LS n) = Ls.rxDetect) ∧
  (∀ s n sp ss, s.portSide n = true → Ends (.deviceConnect n sp ss) s fun t =>
    t = (s.modPort n fun p => { p with dev := sp, devSs := ss && hasSs s.variant }).connectPort n) ∧
  (∀ s n, s.portSide n = true → Ends (.deviceDisconnect n) s fun t =>
    t = ((s.modPort n fun p => { p with dev := 0, devSs := false }).portGone n).modPort n fun p => { p with on2 := false }) ∧
  (∀ s n, s.alive = true → n < 96 → s.ps n = Ps.enabled → Ends (.portEnableError n) s fun t =>
    t.get (P_PORTST.STATE n) = Ps.disabled ∧ t.get (P_PORTST.ENUM_STALL n) = 0 ∧ (t.port n).cEnable = true) ∧
  (∀ s u h l n, s.hostSide u = true → s.carrier u h l false = some (.port n) → n < 96 → s.get (P_PORTST.SS_LINK n) = 0 →
    s.ps n = Ps.enabled → Ends (.clearPortEnable u h l) s fun t => t.get (P_PORTST.STATE n) = Ps.disabled) ∧
  (∀ s u h l n, s.hostSide u = true → s.get (U_TREE.HOST_PWR u) ≠ 0 → s.carrier u h l false = some (.port n) →
    Ends (.setPortPower u h l) s fun t => t = (s.portReq n .setPower).emit (.ctl u true [])) ∧
  (∀ s u h l n, s.hostSide u = true → s.get (U_TREE.HOST_PWR u) ≠ 0 → s.carrier u h l false = some (.port n) →
    Ends (.clearPortPower u h l) s fun t => t = (s.portReq n .clearPower).emit (.ctl u true [])) ∧
  (∀ s u h l, s.hostSide u = true → s.get (U_TREE.HOST_PWR u) = 0 →
    Ends (.setPortPower u h l) s fun t => t = s.emit (.ctl u false [])) ∧
  (∀ s u h l, s.hostSide u = true → s.get (U_TREE.HOST_PWR u) = 0 →
    Ends (.clearPortPower u h l) s fun t => t = s.emit (.ctl u false []))

/-- Chapter 02, trees: attach, reset, loss and detach of an upstream port, and the routing of high-speed tokens; the device descriptor of
a USB 3 hub with the identifiers of R45, and the exit latencies of R169 (the layout is USB's own: log 61). -/
def Obligations.HubTreeRows : Prop :=
  (∀ s u ss, s.hostSide u = true → Ends (.upstreamBusReset u ss) s fun t =>
    t = (s.resetSide u ss).modUp u (fun x => { x with rstHs := x.rstHs || !ss, rstSs := x.rstSs || ss }) ∧
    (if ss then (t.up u).rstSs else (t.up u).rstHs) = true) ∧
  (∀ s u, s.hostSide u = true → (s.up u).rstHs = true → Ends (.busResetEnd ⟨u, false⟩) s fun t =>
    t = ((s.resetHubs u false).resetPorts u false).modUp u (fun x => { x with rstHs := false }) ∧ (t.up u).rstHs = false) ∧
  (∀ s u, s.hostSide u = true → (s.up u).rstSs = true → Ends (.busResetEnd ⟨u, true⟩) s fun t =>
    t = ((s.resetHubs u true).resetPorts u true).modUp u (fun x => { x with rstSs := false }) ∧ (t.up u).rstSs = false) ∧
  (∀ s u addr epn dirIn len seen n, s.hostSide u = true → (s.up u).rstHs = false → s.get (U_TREEST.LINK u) ≠ 0 →
    s.get (U_LPST.HS_STATE u) = Hs.active → addr ≠ 0 →
    (s.up u).routes.find? (fun e => e.1 == addr) = some (addr, .port n) →
    Ends (.hsDownstreamToken u addr epn dirIn ⟨len, seen⟩) s fun t => t =
      if epn = 0 then ((s.repeatTo u []).portToken u n addr epn dirIn len).devSeen n addr seen
      else (s.repeatTo u []).portToken u n addr epn dirIn len) ∧
  (∀ s u addr epn dirIn len seen, s.hostSide u = true → (s.up u).rstHs = false → s.get (U_TREEST.LINK u) ≠ 0 →
    s.get (U_LPST.HS_STATE u) = Hs.active → addr ≠ 0 → (s.up u).routes.find? (fun e => e.1 == addr) = none →
    Ends (.hsDownstreamToken u addr epn dirIn ⟨len, seen⟩) s fun t =>
      t = (s.inc (R.U_BCAST_CNT u)).repeatTo u (s.hsPorts u) ∧ (t.up u).tokenTo = s.hsPorts u ∧
      t.cnt (R.U_BCAST_CNT u) = min (s.cnt (R.U_BCAST_CNT u) + 1) 0xFFFF ∧ t.flds = s.flds) ∧
  (∀ s u d, s.hostSide u = true → Ends (.setHubDepth u 0 d) s fun t => (t.up u).depth = d ∧ t.flds = s.flds) ∧
  (∀ s u h d, s.hostSide u = true → h ≠ 0 → Ends (.setHubDepth u h d) s fun t => Tbl.get (t.up u).bhDepth 0 h = d ∧ t.flds = s.flds) ∧
  (∀ s u hs, s.hostSide u = true → u < 4 → (s.up u).attached = true → s.get (PD_ST.DATA_ROLE (96 + u)) = 0 →
    Ends (.upstreamHostAttach u hs) s fun t => t = s.hostLink u hs) ∧
  (∀ s u hs, s.hostSide u = true → u < 4 → (s.up u).attached = false → (s.up u).rp = false →
    Ends (.upstreamHostAttach u hs) s fun t => t = (s.upPartner u).hostLink u hs ∧ ((s.upPartner u).up u).attached = true) ∧
  (∀ s u hs, s.hostSide u = true → u < 4 → (s.up u).attached = false → (s.up u).rp = true →
    Ends (.upstreamHostAttach u hs) s fun t => t = if (s.upPartner u).get (PD_ST.DATA_ROLE (96 + u)) = 0
      then (s.upPartner u).hostLink u hs else s.upPartner u) ∧
  (∀ s u, s.hostSide u = true → s.get (U_TREEST.LINK u) = 2 ∨ s.get (U_TREEST.LINK u) = 1 → Ends (.ssUpstreamAbsent u) s fun t =>
    t = (s.portsIn u).foldl State.connectPort (s.modUp u fun x => { x with ssAbsent := true })) ∧
  (∀ s u gen, s.hostSide u = true → u < 4 → hasSs s.variant = true ∨ s.ssTree u = true → s.get (U_TREEST.LINK u) = 2 →
    Ends (.ssUpstreamU0 u gen) s fun t => t =
      (let s2 := ((s.setPort (96 + u) (U_TREEST.LINK u) 3).setPort (96 + u) (U_LPST.SS_LS u) Ls.u0).modUp u fun x =>
         { x with gen := max 1 gen, ssAbsent := false, idleSince := s.timeUs }
       (((s2.usb3Refresh u).sleepRefresh u).dormantExit).romSlope (96 + u) gen)) ∧
  (∀ s u, s.hostSide u = true → (s.up u).gen ≠ 0 → s.get (U_TREEST.LINK u) = 3 → Ends (.ssUpstreamLoss u) s fun t => t =
      (let s2 := (((s.setPort (96 + u) (U_TREEST.LINK u) 2).setPort (96 + u) (U_LPST.SS_LS u) Ls.disabled).usb3Off u).modUp u fun x =>
         { x with gen := 0, ssAbsent := true, wakeFwd := [] }
       ((s2.portsIn u).foldl State.connectPort s2).sleepRefresh u)) ∧
  (∀ s u, s.hostSide u = true → s.get (U_TREEST.LINK u) = 3 → s.portsIn u = [] → u < 4 → (s.up u).gen ≠ 0 →
    Ends (.ssUpstreamLoss u) s fun t =>
    t.get (U_TREEST.LINK u) = 2 ∧ t.get (U_TREEST.USB3_HUB u) = 0 ∧ t.get (U_LPST.SS_LS u) = Ls.disabled ∧ (t.up u).gen = 0) ∧
  (∀ s u, s.hostSide u = true → u < 4 → Ends (.upstreamHostDetach u) s fun t => t =
      (let s1 := ((s.usb3Off u).setPort (96 + u) (U_TREEST.LINK u) 0).setPort (96 + u) (U_LPST.SS_LS u) Ls.rxDetect
       let s2 := (s1.modUp u fun x => { x with gen := 0, wakeFwd := [] }).upPartnerGone u
       ((s2.portsIn u).foldl State.connectPort s2).sleepRefresh u)) ∧
  (∀ s u, s.hostSide u = true → u < 4 → s.portsIn u = [] → Ends (.upstreamHostDetach u) s fun t =>
    ∃ s1 : State, s1.get (U_TREEST.LINK u) = 0 ∧ s1.get (U_TREEST.USB3_HUB u) = 0 ∧ s1.get (U_LPST.SS_LS u) = Ls.rxDetect ∧
      t = (let s2 := (s1.modUp u fun x => { x with gen := 0, wakeFwd := [] }).upPartnerGone u
           ((s2.portsIn u).foldl State.connectPort s2).sleepRefresh u)) ∧
  (∀ (s : State) u target, target ≤ 7 → s.descRec 1 = none → s.descRec 2 = none → s.deviceDesc u target true =
    [18, 1, 0x20, 0x03, 9, 0, 3, 9, 0x6A, 0x3B, (if target = 0 then 0x01 else 0x03), 0x96, 0x10, 0x0B, 1, 2, 3, 1]) ∧
  (∀ (s : State) u target, target ≤ 7 → ∃ l, s.descriptor u target true 0x0F 0 = some (l ++ [0x04, 0x64, 0x00]))

/-- Chapter 02, transaction translators (R76 to R79): a split that Dn's TT takes is queued and answered, one it cannot take is answered
NAK, a complete-split is answered by the state of its transaction, and the class requests act on the port they name. -/
def Obligations.SplitRows : Prop :=
  (∀ s n addr epn dirIn len o, s.alive = true → s.ttServes n = true → (s.tt n).flush = false →
    ((s.tt n).per.filter fun x => x.y == s.ttNow n + 1).length < 16 → ((s.ttMakeRoom n).ttAccept n addr epn dirIn len).2 = some o →
    Ends (.periodicStartSplit n addr epn dirIn len) s fun t => t = ((s.ttMakeRoom n).ttAccept n addr epn dirIn len).1.modTt n fun x =>
      { x with per := x.per ++ [⟨addr, epn, dirIn, s.ttNow n + 1, len, .pending, o, false⟩] }) ∧
  (∀ s n addr epn dirIn len, s.alive = true → s.ttServes n = true → (s.tt n).flush = true →
    Ends (.periodicStartSplit n addr epn dirIn len) s fun t => t = s.ttAnswer n .nak) ∧
  (∀ s n addr epn dirIn one two x, s.alive = true → s.ttServes n = true → s.ttDue n addr epn dirIn = some x → x.st ≠ .pending →
    Ends (.periodicCompleteSplit n addr epn dirIn ⟨one, two⟩) s fun t =>
      t = (s.modTt n fun k => { k with per := k.per.filter fun z => !(z == x) }).ttDeliver n x one two) ∧
  (∀ s n addr epn dirIn one two x, s.alive = true → s.ttServes n = true → s.ttDue n addr epn dirIn = some x → x.st = .pending →
    s.ttRunning n = some x → Ends (.periodicCompleteSplit n addr epn dirIn ⟨one, two⟩) s fun t => t = s.ttAnswer n .nyet) ∧
  (∀ s n addr epn dirIn one two x, s.alive = true → s.ttServes n = true → s.ttDue n addr epn dirIn = some x → x.st = .pending →
    s.ttRunning n ≠ some x → Ends (.periodicCompleteSplit n addr epn dirIn ⟨one, two⟩) s fun t => t = s.ttErr n) ∧
  (∀ s n addr epn dirIn one two, s.alive = true → s.ttServes n = true → s.ttDue n addr epn dirIn = none →
    ((s.tt n).per.any fun x => splitIs addr epn dirIn x && decide (s.ttNow n < x.y + 1)) = true →
    Ends (.periodicCompleteSplit n addr epn dirIn ⟨one, two⟩) s fun t => t = s.ttAnswer n .nyet) ∧
  (∀ s n addr epn dirIn one two, s.alive = true → s.ttServes n = true → (∀ x ∈ (s.tt n).per, splitIs addr epn dirIn x = false) →
    Ends (.periodicCompleteSplit n addr epn dirIn ⟨one, two⟩) s fun t =>
      t.cnt (R.P_TT_ERR_CNT n) = min (s.cnt (R.P_TT_ERR_CNT n) + 1) 0xFFFF ∧ t.flds = s.flds) ∧
  (∀ s n addr epn dirIn len o, s.alive = true → s.ttServes n = true → (s.tt n).flush = false → (s.tt n).np.length < 4 →
    (s.ttAccept n addr epn dirIn len).2 = some o →
    Ends (.nonperiodicStartSplit n addr epn dirIn len) s fun t => t = ((s.ttAccept n addr epn dirIn len).1.modTt n fun x =>
      { x with np := x.np ++ [⟨addr, epn, dirIn, 0, len, .pending, o, false⟩] }).ttAnswer n .ack) ∧
  (∀ s n addr epn dirIn len, s.alive = true → s.ttServes n = true → 4 ≤ (s.tt n).np.length →
    Ends (.nonperiodicStartSplit n addr epn dirIn len) s fun t => t = s.ttAnswer n .nak) ∧
  (∀ s n addr epn dirIn one two seen x, s.alive = true → s.ttServes n = true → (s.tt n).np.find? (splitIs addr epn dirIn) = some x →
    x.st ≠ .pending → Ends (.nonperiodicCompleteSplit n addr epn dirIn ⟨⟨one, two⟩, seen⟩) s fun t => t =
      (let s1 := (s.modTt n fun k => { k with np := k.np.filter fun z => !(z == x) }).ttDeliver n x one two
       if epn = 0 then s1.devSeen n addr seen else s1)) ∧
  (∀ s n addr epn dirIn one two seen x, s.alive = true → s.ttServes n = true → (s.tt n).np.find? (splitIs addr epn dirIn) = some x →
    x.st = .pending → Ends (.nonperiodicCompleteSplit n addr epn dirIn ⟨⟨one, two⟩, seen⟩) s fun t => t = s.ttAnswer n .nyet) ∧
  (∀ s n addr epn len res one two x, s.alive = true → s.ttServes n = true → (s.tt n).per = [] → (s.tt n).np = [x] →
    x.addr = addr → x.epn = epn → x.dirIn = true → x.st = .pending → res ≠ 0 →
    Ends (.ttTransactionDone n addr epn true res len ⟨one, two⟩) s fun t =>
      (t.tt n).np = [{ x with st := splitResult res, len := len }] ∧ t.flds = s.flds) ∧
  (∀ s n addr epn len one two x, s.alive = true → s.ttServes n = true → s.ttRunning n = some x → splitIs addr epn true x = true →
    Ends (.ttTransactionDone n addr epn true 0 len ⟨one, two⟩) s fun t => t =
      (let s2 := s.modTt n fun k =>
         { k with per := k.per.map fun z => if z = x then { z with st := .done, len := len } else z
                  np := k.np.map fun z => if z = x then { z with st := .done, len := len } else z }
       ((s2.epLookup n addr epn true).1.ttMeter n (s2.epLookup n addr epn true).2 true len).1)) ∧
  (∀ s u h l addr epn n, s.hostSide u = true → s.carrier u h l false = some (.port n) →
    Ends (.clearTtBuffer u h l addr epn) s fun t => t = (s.portReq n (.clearTt addr epn)).emit (.ctl u true [])) ∧
  (∀ s u h l value n, s.hostSide u = true → s.carrier u h l false = some (.port n) → Tbl.get (s.up u).alts 0 h = 1 →
    Ends (.resetTt u h l value) s fun t => t = (s.portReq n .resetTt).emit (.ctl u true [])) ∧
  (∀ s u h l value, s.alive = true → Tbl.get (s.up u).alts 0 h ≠ 1 → Ends (.resetTt u h l value) s fun t => t =
    ((List.range 16).foldl (fun s i => s.hostReq u h i .resetTt) s).emit (.ctl u true [])) ∧
  (∀ s u, s.alive = true → Ends (.getTtState u) s fun t => t = s.emit (.ctl u false [])) ∧
  (∀ s u, s.alive = true → Ends (.stopTt u) s fun t => t = s.emit (.ctl u false []))

/-- Chapter 03 and R140, R145: SuperSpeed packets between a host, Caldera and the ports; the endpoint entries the ROM program makes (R120),
and its recovery of a bank whose parity fails in two microframes within 1 s (R107). -/
def Obligations.PacketRows : Prop :=
  (∀ s u route addr epn dirIn ty len seq numP whole seen n, s.hostSide u = true → s.get (U_LPST.SS_LS u) = Ls.u0 →
    s.get (U_TREEST.USB3_HUB u) ≠ 0 → (s.touchUp u).routeOf u route = some (.port n) →
    Ends (.ssDownstreamPacket u route addr epn dirIn ty ⟨len, seen⟩ seq numP whole) s fun t => t =
      (let s1 := (s.touchUp u).toPort u n { ssPacket (96 + u) addr epn dirIn ty len seq numP whole with route := route } seq
       (if epn = 0 then s1.devSeen n addr seen else s1).gatesRefresh)) ∧
  (∀ s u route addr epn dirIn ty len seq numP whole seen, s.hostSide u = true → s.get (U_LPST.SS_LS u) = Ls.u0 →
    s.get (U_TREEST.USB3_HUB u) ≠ 0 → (s.touchUp u).routeOf u route = none →
    Ends (.ssDownstreamPacket u route addr epn dirIn ty ⟨len, seen⟩ seq numP whole) s fun t =>
      t = ((s.touchUp u).inc (R.U_ROUTE_ERR_CNT u)).gatesRefresh) ∧
  (∀ s n addr epn dirIn ty len numP whole u, s.portSide n = true → s.ssConnected n = true → s.get (P_LPST.SS_LS n) = Ls.u0 →
    (s.touchPort n).treeAt n = some u → Ends (.ssUpstreamPacket n addr epn dirIn ty len numP whole) s fun t =>
      t = (((s.touchPort n).touchUp u).queueUp n (96 + u) (ssPacket n addr epn dirIn ty len 0 numP whole)).gatesRefresh) ∧
  (∀ s u l, s.hostSide u = true → s.get (U_LPST.SS_LS u) = Ls.u0 → s.get (U_TREEST.USB3_HUB u) ≠ 0 →
    ((s.portsIn u).filter fun n => s.ssConnected n && decide (s.get (P_LPST.SS_LS n) = Ls.u0)) = l → l ≠ [] →
    Ends (.itpReceived u) s fun t => t =
      (let itp : Packet := { src := 96 + u, egress := 100, kind := 3, readers := l }
       let s1 := (s.touchUp u).ingest (96 + u) (s.get (U_QSEL.ITPQ u)) itp
       ((s1.slotsIn u).map fun i => (Tbl.get s1.kcl.slots {} i).chip).eraseDups.foldl (fun s c => match s.linkFor c 0 with
         | some v => s.toLinkQueue (96 + u) v { itp with chip := c + 1, readers := [] }
         | none => s) s1)) ∧
  (∀ s u, s.hostSide u = true → s.get (U_LPST.SS_LS u) = Ls.u0 → s.get (U_TREEST.USB3_HUB u) ≠ 0 → s.portsIn u = [] →
    (s.touchUp u).slotsIn u = [] → Ends (.itpReceived u) s fun t => t = s.touchUp u) ∧
  (∀ s u p, s.alive = true → (s.queue (s.get (U_QSEL.ITPQ u))).pkts.find? (fun p => !p.gone && p.kind == 3) = some p →
    Ends (.itpReleaseTimeout u) s fun t => t = s.qDrop (s.get (U_QSEL.ITPQ u)) p.order) ∧
  (∀ s q src x cls len, s.alive = true → cls < 4 → Ends (.queueWriteRequest q src x cls len) s fun t =>
    t = (s.ingest src q { src := src, egress := x, kind := 2, cls := cls, len := len, w := wordsOf len, written := wordsOf len
                          colour := .green }).gatesRefresh) ∧
  (∀ s q, s.alive = true → (s.queue q).wait = [] → Ends (.queueSpaceGranted q) s fun t => t = s) ∧
  (∀ s q p a, s.alive = true → (s.qGrant q).2 = some (p, a) → p.src < 100 →
    Ends (.queueSpaceGranted q) s fun t => t = ((s.qGrant q).1.afterRequest p.src q p a).gatesRefresh) ∧
  (∀ s q v, s.alive = true → Ends (.queueConfigWrite q v) s fun t => t = s.wrQcfg q v) ∧
  (∀ s q words left one two, s.alive = true → s.unfinished q = none → Ends (.cutThroughStart ⟨q, one, two⟩ words left) s fun t => t = s) ∧
  (∀ s q p k words left one two, s.alive = true → s.unfinished q = some p →
    (s.modPkt q p.order fun k => { k with written := max k.written (min words k.w) }).pktAt q p.order = some k → k.started = true →
    Ends (.cutThroughStart ⟨q, one, two⟩ words left) s fun t => t =
      ((s.modPkt q p.order fun k => { k with written := max k.written (min words k.w) }).cutEnd q p.order one two).gatesRefresh) ∧
  (∀ s q p k words left one two, s.alive = true → s.unfinished q = some p →
    (s.modPkt q p.order fun k => { k with written := max k.written (min words k.w) }).pktAt q p.order = some k → k.started = false →
    (s.modPkt q p.order fun k => { k with written := max k.written (min words k.w) }).ctReady q k = true → k.egress < 100 →
    (s.modPkt q p.order fun k => { k with written := max k.written (min words k.w) }).egressIdle k.egress = true →
    Ends (.cutThroughStart ⟨q, one, two⟩ words left) s fun t => t =
      (((s.modPkt q p.order fun k => { k with written := max k.written (min words k.w) }).egressStart k.egress left).cutEnd q p.order
        one two).gatesRefresh) ∧
  (∀ s q p one two, s.alive = true → (s.queue q).pkts.find? (fun p => !p.gone && p.started && p.cut) = some p →
    Ends (.cutThroughAbort ⟨q, one, two⟩) s fun t =>
      t = ((((s.readError q p.order one two).emit (.ss p.egress .edb p.len)).inc (R.CD_CT_ABORT_CNT q)).egressEnd p.egress q
        p.order).gatesRefresh) ∧
  (∀ s x left q p, s.alive = true → s.egressRoom x = true → (s.pick x left).2 = some (q, p) →
    Ends (.egressPick x left) s fun t => t = ((s.pick x left).1.startPkt x q p).gatesRefresh) ∧
  (∀ s x one two q o rest p, s.alive = true → (s.egress x).stage = (q, o) :: rest → s.pktAt q o = some p → p.written = p.w →
    Ends (.packetStaged x ⟨one, two⟩) s fun t => t =
      (let s1 := s.readError q o one two
       let bad := p.poison || (match s1.pktAt q o with | some k => k.poison | none => false)
       ((s1.sendOut x { p with poison := bad }).egressEnd x q o).gatesRefresh)) ∧
  (∀ s q, s.alive = true → Ends (.episodeSeenRead q) s fun t => t = ((s.watchSeen 1 q).watchSeen 2 q).qUse q) ∧
  (∀ s v, s.alive = true → Ends (.protectionWrite v) s fun t => t = s.wrProt v) ∧
  (∀ s q, s.alive = true → s.get G_READY.CALDERA ≠ 0 → Ends (.queueFlush q) s fun t =>
    t = (s.qFlush q).answer .ok ∧ t.fab.rc = .ok) ∧
  (∀ s q, s.alive = true → s.get G_READY.CALDERA = 0 → Ends (.queueFlush q) s fun t =>
    t = (s.inc R.CD_CFG_REJ_CNT).answer .wrongState) ∧
  (∀ s q, s.alive = true → s.flushWaits q = false → Ends (.flushBoundary q) s fun t =>
    t = (s.flushDone q).gatesRefresh) ∧
  (∀ s q, s.alive = true → s.get (CD_QST.FLUSH_BUSY q) ≠ 0 → s.unfinished q = none → Ends (.flushProducerTimeout q) s fun t =>
    t = (s.flushDone q).gatesRefresh) ∧
  (∀ s q p, s.alive = true → s.get (CD_QST.FLUSH_BUSY q) ≠ 0 → s.unfinished q = some p → p.started = true →
    Ends (.flushProducerTimeout q) s fun t => t = ((s.abortWrite q).flushDone q).gatesRefresh) ∧
  (∀ s p h, s.alive = true → s.flow.holds.find? (fun h => h.pol == p && decide (s.redMax p < h.age)) = some h →
    Ends (.redHoldForced p) s fun t => t = (s.holdForce h).gatesRefresh) ∧
  (∀ s x, s.alive = true → Ends (.forgive x) s fun t => (t.egress x).forgive = true ∧ t.fab.rc = .ok ∧ t.flds = s.flds) ∧
  (∀ s n gen, s.portSide n = true → s.get (P_PORTST.SS_LINK n) ≠ 0 → s.get (P_LPST.SS_LS n) = Ls.recovery → (s.port n).rst = 0 →
    (s.port n).fnWake = false → Ends (.ssLinkU0 n gen) s fun t =>
      t = (((((s.setSs n Ls.u0).modPort n fun x => { x with gen := gen, exiting := false, fnWake := false }).touchPort n).erdyDeferred
        n).admitOnce)) ∧
  (∀ s n gen, s.portSide n = true → s.get (P_PORTST.SS_LINK n) ≠ 0 → s.get (P_LPST.SS_LS n) = Ls.polling → (s.port n).rst = 4 →
    (s.port n).fnWake = false → Ends (.ssLinkU0 n gen) s fun t => t =
      (let s1 := ((s.setSs n Ls.u0).modPort n fun x => { x with gen := gen, exiting := false, fnWake := false }).touchPort n
       ((((s1.modPort n fun x => { x with rst := 0, cReset := true, cBhReset := x.cBhReset || x.warm, warm := false }).setPs n
         Ps.enabled).romSlope n gen).erdyDeferred n).admitOnce)) ∧
  (∀ (s : State) n addr d e, n < 96 → addr < 128 → d.ty < 4 → e < 2048 →
    s.epRoom n addr (d.epAddr % 16) (decide (128 ≤ d.epAddr)) d.ty = some e → ∃ t, t = s.epInstall n addr d ∧
      t.pendingOf (EP_KEY.VALID e) = 1 ∧ t.pendingOf (EP_KEY.TYPE e) = d.ty ∧ t.pendingOf (EP_KEY.PORT e) = n ∧
      t.pendingOf (EP_KEY.ADDR e) = addr ∧ t.pendingOf (EP_MAP.CLASS e) = d.ty ∧ t.flds = s.flds) ∧
  (∀ (s : State) n addr epn dirIn ty, s.epHeld n addr epn dirIn = none → ty ≠ 1 → ty ≠ 3 → s.epRoom n addr epn dirIn ty = s.epFree) ∧
  (∀ (s : State) n addr epn dirIn ty, s.epHeld n addr epn dirIn = none → ty = 1 ∨ ty = 3 →
    s.epRoom n addr epn dirIn ty = s.epFree.or s.epVictim) ∧
  (∀ (s : State) e, s.epVictim = some e → s.pendingOf (EP_KEY.TYPE e) = 2 ∧ s.pendingOf (EP_KEY.PORT e) = s.epFullest) ∧
  (∀ (s : State) b, b < 32 → s.parTwice b = true → (s.get CD_PROT.SECDED).testBit b = false →
    (s.get CD_PROT_PEND.PEND).testBit b = false → ((s.romBank b).get CD_PROT.SECDED).testBit b = true ∧
      (s.romBank b).boot.work.recov.testBit b = true)

/-- Chapter 05, USB 2.0 (R155 to R163, R175): suspend, resume, remote wake, L1 and DORMANT. -/
def Obligations.SuspendRows : Prop :=
  (∀ s u, s.hostSide u = true → s.get (U_LPST.HS_STATE u) = Hs.active → s.get (U_TREEST.LINK u) ≠ 0 → s.sidePorts u false = [] →
    Ends (.treeSuspend u) s fun t => t.get (U_LPST.HS_STATE u) = Hs.suspended) ∧
  (∀ s u, s.hostSide u = true → s.get (U_LPST.HS_STATE u) ≠ Hs.active → Ends (.treeSuspend u) s fun t => t = s) ∧
  (∀ s u h l n, s.hostSide u = true → s.carrier u h l false = some (.port n) → n < 96 → s.ps n = Ps.enabled → s.get (P_PORTST.SS_LINK n) = 0 →
    (s.port n).devK = false → Ends (.setPortSuspend u h l) s fun t =>
      t.get (P_PORTST.STATE n) = Ps.suspended ∧ t.get (P_LPST.SUSP_KIND n) = Susp.selective) ∧
  (∀ s u h l n, s.hostSide u = true → s.carrier u h l false = some (.port n) → n < 96 → s.ps n = Ps.suspended →
    s.get (P_LPST.SUSP_KIND n) = Susp.selective → (s.port n).resume = 0 → Ends (.clearPortSuspend u h l) s fun t =>
      (t.port n).resume = 1 ∧ .usb2 n .driveK ∈ t.out ∧ t.flds = s.flds) ∧
  (∀ s n, s.alive = true → n < 96 → s.ps n = Ps.suspended → (s.port n).resume = 1 → Ends (.portResumeEnd n) s fun t =>
    t.get (P_PORTST.STATE n) = Ps.enabled ∧ t.get (P_LPST.SUSP_KIND n) = Susp.none ∧ t.get (P_LPST.LAST_WAKE n) = WakeBy.host ∧
    (t.port n).cSuspend = true ∧ (t.port n).resume = 0) ∧
  (∀ s n, s.alive = true → n < 96 → s.ps n = Ps.suspended → (s.port n).resume = 2 → Ends (.portResumeEnd n) s fun t =>
    t.get (P_PORTST.STATE n) = Ps.enabled ∧ t.get (P_LPST.LAST_WAKE n) = WakeBy.device) ∧
  (∀ s u, s.hostSide u = true → s.get (U_LPST.HS_STATE u) = Hs.driving → s.dormant = false → Ends (.hostResume u) s fun t =>
    (t.up u).hostK = true ∧ t.flds = s.flds) ∧
  (∀ s u, s.hostSide u = true → s.get (U_LPST.HS_STATE u) = Hs.suspended → (s.up u).wakePend = false → Ends (.hostResume u) s fun t =>
    t = (((s.modUp u fun x => { x with wakePend := false }).repeatK u).sleepRefresh u).dormantExit) ∧
  (∀ s u, s.hostSide u = true → s.get (U_LPST.HS_STATE u) = Hs.resuming → s.portsIn u = [] → s.treeKind u = [] →
    Ends (.hostResumeEnd u) s fun t => t = ((s.set (U_LPST.HS_STATE u) Hs.active).treeEvt u 3).sleepRefresh u) ∧
  (∀ s u, s.hostSide u = true → s.get (U_LPST.HS_STATE u) = Hs.resuming → Ends (.hostResumeEnd u) s fun t =>
    t = ((((s.portsIn u).foldl (fun s n => s.lateWake u n) ((s.treeKind u).foldl treeWake (s.set (U_LPST.HS_STATE u) Hs.active))).treeEvt
      u 3).sleepRefresh u)) ∧
  (∀ s n, s.portSide n = true → n < 96 → s.get (P_PORTST.SS_LINK n) = 0 → (s.port n).slot = none → s.ps n = Ps.suspended →
    s.get (P_LPST.SUSP_KIND n) = Susp.selective → Ends (.deviceResume n) s fun t =>
      t = (s.wakeNote n WakeBy.device).takeOver n ∧ .usb2 n .driveK ∈ t.out) ∧
  (∀ s n u h l, s.portSide n = true → n < 96 → (s.port n).slot = some (u, h, l) → Ends (.deviceWake n) s fun t =>
    t = s.wakeAt u h n WakeBy.device) ∧
  (∀ s u, s.hostSide u = true → (s.up u).wakePend = true → s.get (U_LPST.HS_STATE u) = Hs.suspended → s.dormant = false →
    Ends (.upstreamWakeDriveStart u) s fun t => t.get (U_LPST.HS_STATE u) = Hs.driving ∧ (t.up u).wakePend = false ∧
      t = (((((s.modUp u fun x => { x with wakePend := false, hostK := false }).set (U_LPST.HS_STATE u) Hs.driving).emit
        (.usb2 (96 + u) .driveK)).inc (R.U_WAKE_UP_CNT u)).sleepRefresh u).dormantExit) ∧
  (∀ s u, s.hostSide u = true → s.get (U_LPST.HS_STATE u) = Hs.driving → (s.up u).hostK = false →
    Ends (.upstreamWakeDriveEnd u) s fun t => t.get (U_LPST.HS_STATE u) = Hs.suspended) ∧
  (∀ s u n h l, s.hostSide u = true → s.get (U_LPST.HS_STATE u) = Hs.suspended → (s.up u).wakePend = false → s.portsIn u = [n] →
    (s.port n).slot = some (u, h, l) → Ends (.wakeNoHostResume u) s fun t =>
      (t.port n).woke = (if s.chainAllows u h then false else (s.port n).woke) ∧ t.flds = s.flds ∧ t.ups = s.ups) ∧
  (∀ s u h l n addr besl rwe, s.hostSide u = true → s.carrier u h l false = some (.port n) → n < 96 → s.ps n = Ps.enabled →
    2 ≤ s.get (P_PORTST.SPEED n) → s.get (P_PORTST.ADDR_VALID n) ≠ 0 → s.get (P_PORTST.ADDR n) = addr → (s.port n).devK = false →
    Ends (.setAndTestPortL1 u h l addr besl rwe) s fun t =>
      (t.port n).l1Ask = some (besl, rwe) ∧ t.flds = s.flds) ∧
  (∀ s n besl rwe, s.alive = true → n < 96 → besl < 16 → (s.port n).l1Ask = some (besl, rwe) → Ends (.l1TokenResponse n 0) s fun t =>
    t.get (P_PORTST.STATE n) = Ps.suspended ∧ t.get (P_LPST.SUSP_KIND n) = Susp.l1 ∧ t.get (P_LPST.L1_RESULT n) = 1 ∧
    t.get (P_LPST.BESL n) = besl ∧ t.get (P_LPST.L1_RWE n) = rwe.toNat ∧ (t.port n).l1Ask = none ∧
    .usb2 n (.lpmToken besl rwe) ∈ t.out) ∧
  (∀ s n resp a, s.alive = true → n < 96 → (s.port n).l1Ask = some a → 1 ≤ resp → resp ≤ 2 → Ends (.l1TokenResponse n resp) s fun t =>
    t.get (P_LPST.L1_RESULT n) = resp + 1 ∧ (t.port n).l1Ask = none ∧ s.KeepsFlds t [P_LPST.L1_RESULT n]) ∧
  (∀ s n, s.alive = true → n < 96 → (s.port n).l1Ask ≠ none → Ends (.l1TokenTimeout n) s fun t =>
    t.get (P_LPST.L1_RESULT n) = 4 ∧ (t.port n).l1Ask = none ∧ s.KeepsFlds t [P_LPST.L1_RESULT n]) ∧
  (∀ s u, s.hostSide u = true → s.get (U_LPST.HS_STATE u) = Hs.active → s.l1Allowed u = true → Ends (.upstreamLpmToken u) s fun t =>
    t.get (U_LPST.HS_STATE u) = Hs.l1) ∧
  (∀ s u, s.hostSide u = true → s.l1Allowed u = false → Ends (.upstreamLpmToken u) s fun t => t = s.emit (.usb2 (96 + u) .nyet)) ∧
  (∀ s u, s.hostSide u = true → s.get (U_LPST.HS_STATE u) = Hs.l1 → s.dormant = false → Ends (.upstreamL1Exit u) s fun t =>
    t.get (U_LPST.HS_STATE u) = Hs.active) ∧
  (∀ s, s.mode = .run → s.dormant = false → s.hostFacing ≠ [] → (∀ u ∈ s.hostFacing, s.asleepNow u = true) → s.flow.barred = false →
    Ends .dormantEntry s fun t => t = ((s.setDormant true).inc R.G_DORMANT_CNT).modeNote s)

/-- Chapter 05, SuperSpeed links (R164 to R173): U1, U2 and U3 on downstream and upstream links. -/
def Obligations.LinkRows : Prop :=
  (∀ s u h l v n, s.hostSide u = true → s.carrier u h l true = some (.port n) → n < 96 → v < 256 → Ends (.setPortU1Timeout u h l v) s fun t =>
    t = s.set (P_LPTO.U1_TIMEOUT n) v ∧ t.get (P_LPTO.U1_TIMEOUT n) = v) ∧
  (∀ s u h l v n, s.hostSide u = true → s.carrier u h l true = some (.port n) → n < 96 → v < 256 → Ends (.setPortU2Timeout u h l v) s fun t =>
    t.get (P_LPTO.U2_TIMEOUT n) = v ∧ (1 ≤ v → v ≤ 0xFE → .ss n .u2Timeout v ∈ t.out) ∧ s.KeepsFlds t [P_LPTO.U2_TIMEOUT n]) ∧
  (∀ s n, s.portSide n = true → n < 96 → s.get (P_LPST.SS_LS n) = Ls.u0 → 1 ≤ s.get (P_LPTO.U1_TIMEOUT n) →
    s.get (P_LPTO.U1_TIMEOUT n) ≤ 0xFE → s.linkQueued n = false → Ends (.u1IdleTimeout n) s fun t =>
      t.get (P_LPST.SS_LS n) = Ls.u1) ∧
  (∀ s n, s.portSide n = true → n < 96 → s.get (P_LPST.SS_LS n) = Ls.u1 → 1 ≤ s.get (P_LPTO.U2_TIMEOUT n) →
    s.get (P_LPTO.U2_TIMEOUT n) ≤ 0xFE → (s.port n).exiting = false → Ends (.u2InactivityTimeout n) s fun t =>
      t.get (P_LPST.SS_LS n) = Ls.u2) ∧
  (∀ s n k, s.portSide n = true → n < 96 → s.get (P_LPST.SS_LS n) = Ls.u0 → (k = 1 ∧ s.get (P_LPTO.U1_TIMEOUT n) ≠ 0 ∨
    k = 2 ∧ s.get (P_LPTO.U2_TIMEOUT n) ≠ 0) → Ends (.deviceLgo n k) s fun t => t.get (P_LPST.SS_LS n) = k) ∧
  (∀ s n k, s.portSide n = true → n < 96 → s.get (P_LPST.SS_LS n) = Ls.u0 → (k = 1 ∧ s.get (P_LPTO.U1_TIMEOUT n) = 0 ∨
    k = 2 ∧ s.get (P_LPTO.U2_TIMEOUT n) = 0) → Ends (.deviceLgo n k) s fun t => t = s.emit (.ss n .lxu 0)) ∧
  (∀ s n, s.portSide n = true → n < 96 → s.get (P_LPST.SS_LS n) = Ls.u1 ∨ s.get (P_LPST.SS_LS n) = Ls.u2 → (s.port n).exiting = false →
    Ends (.uxExit n) s fun t => (t.port n).exiting = true ∧ .ss n .exitLfps 0 ∈ t.out ∧ t.flds = s.flds) ∧
  (∀ s n, s.portSide n = true → n < 96 → s.get (P_LPST.SS_LS n) = Ls.u1 ∨ s.get (P_LPST.SS_LS n) = Ls.u2 → (s.port n).exiting = true →
    Ends (.uxExitTimeout n) s fun t => t = (s.setSs n Ls.recovery).admitOnce) ∧
  (∀ s n, s.portSide n = true → n < 96 → s.get (P_LPST.SS_LS n) = Ls.recovery → (s.port n).exiting = true →
    Ends (.recoveryFail n) s fun t => t = ((((s.setSs n Ls.inactive).inc (R.P_UX_EXIT_FAIL_CNT n)).modPort n
      fun p => { p with exiting := false, cLink := true }).deferHeld n).gatesRefresh) ∧
  (∀ s u h l n, s.hostSide u = true → s.carrier u h l true = some (.port n) → n < 96 → s.get (P_PORTST.SS_LINK n) ≠ 0 →
    s.get (P_LPST.SS_LS n) ≤ Ls.u2 → Ends (.setPortLinkStateU3 u h l) s fun t =>
      t.get (P_PORTST.STATE n) = Ps.suspended ∧ t.get (P_LPST.SUSP_KIND n) = Susp.u3 ∧ t.get (P_LPST.SS_LS n) = Ls.u3) ∧
  (∀ s u h l n, s.hostSide u = true → s.carrier u h l true = some (.port n) → n < 96 → s.get (P_PORTST.SS_LINK n) ≠ 0 →
    s.get (P_LPST.SS_LS n) = Ls.u3 → (s.port n).exiting = false → Ends (.setPortLinkStateU0 u h l) s fun t =>
      (t.port n).exiting = true ∧ .ss n .exitLfps 0 ∈ t.out ∧ t.flds = s.flds) ∧
  (∀ s n, s.portSide n = true → n < 96 → s.get (P_LPST.SS_LS n) = Ls.u3 → Ends (.deviceU3Exit n) s fun t =>
    (t.port n).fnWake = true ∧ t = ((s.wakeNote n WakeBy.device).exitStart n).modPort n fun p => { p with fnWake := true }) ∧
  (∀ s u, s.hostSide u = true → s.get (U_LPST.SS_LS u) = Ls.u0 → s.get (U_TREEST.USB3_HUB u) ≠ 0 →
    Ends (.upstreamLgo u 3) s fun t => t = s.emit (.ss (96 + u) .lau 0)) ∧
  (∀ s u k, s.hostSide u = true → s.get (U_LPST.SS_LS u) = Ls.u0 → s.get (U_TREEST.USB3_HUB u) ≠ 0 → k = 1 ∨ k = 2 →
    s.egressQueued (96 + u) = true → Ends (.upstreamLgo u k) s fun t => t = s.emit (.ss (96 + u) .lxu 0)) ∧
  (∀ s u k, s.hostSide u = true → s.get (U_LPST.SS_LS u) = Ls.u0 → s.get (U_TREEST.USB3_HUB u) ≠ 0 → k = 1 ∨ k = 2 →
    s.egressQueued (96 + u) = false → Ends (.upstreamLgo u k) s fun t =>
      t.get (U_LPST.SS_LS u) = k ∧ s.KeepsFlds t [U_LPST.SS_LS u]) ∧
  (∀ s u, s.hostSide u = true → (s.up u).u1En = true → s.get (U_LP_CFG.US_INIT_EN u) ≠ 0 → s.get (U_LPST.SS_LS u) = Ls.u0 →
    s.get (U_TREEST.USB3_HUB u) ≠ 0 → s.egressQueued (96 + u) = false → s.linksLow u = true → Ends (.upstreamU1Initiate u) s fun t =>
      t.get (U_LPST.SS_LS u) = Ls.u1 ∧ s.KeepsFlds t [U_LPST.SS_LS u]) ∧
  (∀ s u, s.hostSide u = true → (s.up u).u2En = true → s.get (U_LP_CFG.US_INIT_EN u) ≠ 0 → s.get (U_LPST.SS_LS u) = Ls.u0 →
    s.get (U_TREEST.USB3_HUB u) ≠ 0 → s.egressQueued (96 + u) = false → s.linksLow u = true → Ends (.upstreamU2Initiate u) s fun t =>
      t.get (U_LPST.SS_LS u) = Ls.u2 ∧ s.KeepsFlds t [U_LPST.SS_LS u]) ∧
  (∀ s u, s.hostSide u = true → s.get (U_LPST.SS_LS u) = Ls.u1 ∨ s.get (U_LPST.SS_LS u) = Ls.u2 → Ends (.upstreamUxExit u) s fun t =>
    t = ((s.setPort (96 + u) (U_LPST.SS_LS u) Ls.u0).touchUp u).flushWakes u ∧ t.get (U_LPST.SS_LS u) = Ls.u0 ∧
    s.KeepsFlds t [U_LPST.SS_LS u]) ∧
  (∀ s u, s.hostSide u = true → s.get (U_LPST.SS_LS u) ≤ Ls.u2 → s.get (U_TREEST.USB3_HUB u) ≠ 0 → s.sidePorts u true = [] →
    Ends (.upstreamU3Entry u) s fun t => t.get (U_LPST.SS_LS u) = Ls.u3) ∧
  (∀ s u, s.hostSide u = true → s.get (U_LPST.SS_LS u) = Ls.u3 → (s.up u).wakeFwd = [] → s.dormant = false →
    Ends (.upstreamU3Exit u) s fun t => t.get (U_LPST.SS_LS u) = Ls.u0) ∧
  (∀ s u, s.hostSide u = true → s.get (U_LPST.SS_LS u) = Ls.u3 → Ends (.upstreamU3Exit u) s fun t => t =
    (((((s.setPort (96 + u) (U_LPST.SS_LS u) Ls.u0).touchUp u).flushWakes u).treeEvt u 6).sleepRefresh u).dormantExit)

/-- Chapter 06 (R182 to R200): attach, seating, moisture checks, steam hold, detach, VCONN and the SBU pins. -/
def Obligations.TypeCRows : Prop :=
  (∀ s n c, s.tcSide n = true → n < 96 → s.tc n = Tc.unattached → (s.port n).steam = false → c = 0 ∨ c = 1 →
    Ends (.ccAttach n 2 c) s fun t => t.get (P_TCST.TC_STATE n) = Tc.attachWait ∧ t.get (P_TCST.CC1 n) = 2) ∧
  (∀ s n, s.tcSide n = true → n < 96 → s.tc n = Tc.attachWait → s.get (P_TCST.CC1 n) = 1 → s.get (P_TCST.CC2 n) = 1 →
    Ends (.attachDebounceEnd n) s fun t => t.get (P_TCST.TC_STATE n) = Tc.unsupported) ∧
  (∀ s n, s.tcSide n = true → n < 96 → s.tc n = Tc.attachWait → s.get (P_TCST.CC1 n) = 2 → s.get (P_TCST.CC2 n) = 0 →
    s.get (P_TC_CFG.MOIST_EN n) = 1 → Ends (.attachDebounceEnd n) s fun t =>
      t = ((s.reseatDet n).set (P_TCST.MOIST_VALID n) 0).checkStart n .attach ∧ t.get (P_TCST.TC_STATE n) = Tc.checking) ∧
  (∀ s n cc1 cc2 sbu1 sbu2, s.tcSide n = true → n < 96 → s.tc n = Tc.checking → s.moistFail n cc1 cc2 sbu1 sbu2 ≠ 0 →
    Ends (.moistureCheckDone n cc1 cc2 sbu1 sbu2) s fun t => t.get (P_TCST.TC_STATE n) = Tc.steamHold) ∧
  (∀ s n cc1 cc2 sbu1 sbu2, s.tcSide n = true → s.tc n = Tc.checking → s.moistFail n cc1 cc2 sbu1 sbu2 = 0 → (s.port n).steam = false →
    (s.port n).check = .attach → Ends (.moistureCheckDone n cc1 cc2 sbu1 sbu2) s fun t =>
      t = ((((((((s.set (P_MOIST_CC.CC1 n) cc1).set (P_MOIST_CC.CC2 n) cc2).set (P_MOIST_SBU.SBU1 n) sbu1).set (P_MOIST_SBU.SBU2 n)
        sbu2).set (P_TCST.MOIST_VALID n) 1).set (P_TCST.MOIST_FAIL n) 0).modPort n fun p => { p with check := .none }).attachGate n)) ∧
  (∀ s n, s.alive = true → n < 96 → s.dsHere n = true → s.get (P_TC_CFG.CRADLE n) = 0 → s.tc n ≠ Tc.seatWait →
    Ends (.seatConfirmed n) s fun t =>
      t.get (P_TCST.SEAT_IN n) = 1 ∧ (t.port n).seatRaw = true ∧ s.KeepsFlds t [P_TCST.SEAT_IN n]) ∧
  (∀ s n, s.tcSide n = true → n < 96 → s.tc n = Tc.seatWait → s.get (P_TC_CFG.CRADLE n) ≠ 0 → (s.port n).seatGone = false →
    Ends (.seatConfirmed n) s fun t => t = ((s.set (P_TCST.SEAT_IN n) 1).modPort n fun p =>
      { p with seatRaw := true, seatGone := false }).attachDone n) ∧
  (∀ s n, s.alive = true → n < 96 → s.dsHere n = true → s.get (P_TC_CFG.CRADLE n) = 0 → Ends (.seatLoss n) s fun t =>
    t.get (P_TCST.SEAT_IN n) = 0 ∧ (t.port n).seatRaw = false ∧ s.KeepsFlds t [P_TCST.SEAT_IN n]) ∧
  (∀ s n, s.alive = true → n < 96 → s.dsHere n = true → s.get (P_TC_CFG.CRADLE n) ≠ 0 → s.get (P_TCST.PWR_OK n) ≠ 0 →
    Ends (.seatLoss n) s fun t => t.get (P_TCST.TC_STATE n) = Tc.errorRecovery) ∧
  (∀ s n, s.tcSide n = true → n < 96 → s.tc n = Tc.errorRecovery → Ends (.errorRecoveryEnd n 2 0) s fun t =>
    t.get (P_TCST.TC_STATE n) = Tc.attachWait ∧ t.get (P_TCST.CC1 n) = 2 ∧ t.get (P_TCST.CC2 n) = 0 ∧ (t.port n).errRec = false) ∧
  (∀ s n, s.tcSide n = true → n < 96 → s.get (P_TCST.CC1 n) = 2 → s.tc n = Tc.attached → (s.port n).steam = false →
    Ends (.ccOpen n) s fun t => t.get (P_TCST.TC_STATE n) = Tc.detaching) ∧
  (∀ s n cc1 cc2, s.tcSide n = true → n < 96 → (s.port n).det = 1 → (s.port n).steam = false → (s.port n).detAbort = false →
    (s.port n).checkRet ≠ Tc.checking → Ends (.detachCancelled n cc1 cc2) s fun t =>
      t = ((((s.set (P_TCST.CC1 n) cc1).set (P_TCST.CC2 n) cc2).inc (R.P_CC_GLITCH_CNT n)).modPort n fun p =>
        { p with det := 0, detAbort := false }).resumeTc n (s.port n).checkRet (s.port n).checkPwr) ∧
  (∀ s n cc1 cc2, s.tcSide n = true → n < 96 → (s.port n).det = 1 → (s.port n).steam = false → (s.port n).detAbort = true →
    (s.port n).checkRet ≠ Tc.checking → Ends (.detachCancelled n cc1 cc2) s fun t =>
      t = (((((s.set (P_TCST.CC1 n) cc1).set (P_TCST.CC2 n) cc2).inc (R.P_CC_GLITCH_CNT n)).modPort n fun p =>
        { p with det := 0, detAbort := false }).resumeTc n (s.port n).checkRet (s.port n).checkPwr).hrSend n) ∧
  (∀ s n, s.tcSide n = true → (s.port n).det = 1 → Ends (.tpddebounceEnd n) s fun t =>
    t = (((((s.modPort n fun p => { p with det := 2 }).modEng n fun g => { g with vconnBefore := false }).pwrOkFall n).set
      (P_TCST.VCONN_ON n) 0).releaseChannel n).refreshCause n) ∧
  (∀ s n, s.tcSide n = true → (s.port n).det = 2 → (s.port n).steam = false → Ends (.detachReported n) s fun t =>
    t = s.detachReport n ∧ (s.ccRd n = false → t.get (P_TCST.TC_STATE n) = Tc.unattached)) ∧
  (∀ s n, s.tcSide n = true → (s.port n).det = 2 → (s.port n).steam = true → Ends (.detachReported n) s fun t => t = s.detachNote n) ∧
  (∀ s n, s.tcSide n = true → s.tc n = Tc.steamHold → Ends (.moistureRetest n) s fun t =>
    t = s.checkStart n .retest ∧ t.get (P_TCST.TC_STATE n) = Tc.checking) ∧
  (∀ s n, s.alive = true → s.kHere n = true → s.kReady n = true → (s.port n).steam = true → Ends (.override n) s fun t => t.fab.rc = .ok ∧
    t = (((if s.get (P_TCST.PARTNER n) ≠ 0 then s.set (P_TCST.OVR n) 1 else s).logOpen 0x03 0x05 n).steamLeave n).answer .ok) ∧
  (∀ s n, s.alive = true → s.kHere n = true → (s.port n).steam = false → Ends (.override n) s fun t =>
    t = (s.inc (R.P_TC_REJ_CNT n)).answer .wrongState ∧ t.fab.rc = .wrongState) ∧
  (∀ s n, s.alive = true → s.kHere n = true → n < 96 → s.tcLive n = true → s.vbusLow n = true → s.tc n = Tc.unattached →
    s.get (P_TCST.PWR_OK n) = 0 → Ends (.recheck n) s fun t =>
      t.get (P_TCST.TC_STATE n) = Tc.checking ∧ t.get (P_TCST.PWR_OK n) = 0 ∧ t.fab.rc = .ok) ∧
  (∀ s n, s.alive = true → s.kHere n = true → s.vbusLow n = false → Ends (.recheck n) s fun t =>
    t = (s.inc (R.P_TC_REJ_CNT n)).answer .wrongState) ∧
  (∀ s n v, s.alive = true → s.kHere n = true → s.get (P_TC_CFG.CRADLE n) = 0 → s.get (P_TCST.PWR_OK n) = 0 → n < 96 → v < 2 →
    Ends (.cradleWrite n v) s fun t => t.get (P_TC_CFG.CRADLE n) = v ∧ t.fab.rc = .ok ∧ s.KeepsFlds t [P_TC_CFG.CRADLE n]) ∧
  (∀ s n, s.tcSide n = true → s.get (P_TCST.VCONN_ON n) ≠ 0 → Ends (.vconnTrip n) s fun t =>
    t = (((((s.set (P_TCST.VCONN_ON n) 0).modPort n fun p => { p with vconnTripped := true }).set (PD_ST.CABLE_5A n) 0).set
      (PD_ST.CABLE_EPR n) 0).inc (R.P_VCONN_TRIP_CNT n)).faultOnset 28 n 0) ∧
  (∀ s n, s.tcSide n = true → Ends (.sbuOvervoltage n) s fun t =>
    t = ((s.overvoltOpen n).inc (R.P_SBU_OV_CNT n)).faultOnset 29 n 0) ∧
  (∀ s u, s.alive = true → s.usHere u = true → s.get (U_TC_CFG.DRP u) ≠ 0 → (s.up u).attached = false →
    s.dieUp (96 + u) = true → Ends (.drpToggle u) s fun t =>
    (t.up u).rp = !(s.up u).rp ∧ t.flds = s.flds) ∧
  (∀ s u, s.alive = true → s.get (U_TC_CFG.DRP u) = 0 → Ends (.drpToggle u) s fun t =>
    (t.up u).rp = ((s.up u).rp && (s.up u).attached && s.dieUp (96 + u)) ∧ t.flds = s.flds)

/-- R196 to R204: the service bridge's channels. -/
def Obligations.BridgeRows : Prop :=
  (∀ s c v, s.alive = true → c < sbChannels s.variant → Ends (.sbConfigWrite c v) s fun t => t = (s.wrSbCfg c v).answer .ok) ∧
  (∀ s u c rate bits parity stopBits, s.alive = true → s.usHere u = true → c < sbChannels s.variant → (s.up u).chNow.testBit c = true →
    1200 ≤ rate → rate ≤ 3000000 → bits = 7 ∨ bits = 8 → parity ≤ 2 → stopBits = 1 ∨ stopBits = 2 →
    Ends (.setLineCoding u c rate bits parity stopBits) s fun t =>
      (t.chan c).rate = rate ∧ (t.chan c).bits = bits ∧ (t.chan c).parity = parity ∧ (t.chan c).stop = stopBits ∧ t.flds = s.flds) ∧
  (∀ s u c rate bits parity stopBits, s.alive = true → s.usHere u = true → c < sbChannels s.variant → rate < 1200 →
    Ends (.setLineCoding u c rate bits parity stopBits) s fun t => t = s.emit (.ctl u false [])) ∧
  (∀ s c bytes, s.alive = true → s.chCarries c = true → ((s.chan c).rx ++ bytes).length ≤ 4096 → s.get (G_SB_CFG.CONSOLE c) = 0 →
    Ends (.bridgeRxData ⟨c, s.rxPin (s.get (G_SB_CFG.CUR_PORT c))⟩ bytes) s fun t =>
      (t.chan c).rx = (s.chan c).rx ++ bytes ∧ (t.chan c).overrun = (s.chan c).overrun ∧ t.flds = s.flds ∧ t.out = s.out) ∧
  (∀ s c bytes, s.alive = true → s.chCarries c = true → s.get (G_SB_CFG.CONSOLE c) ≠ 0 →
    Ends (.bridgeRxData ⟨c, s.rxPin (s.get (G_SB_CFG.CUR_PORT c))⟩ bytes) s fun t =>
      (t.chan c).rx = ((s.chan c).rx ++ bytes).drop (((s.chan c).rx ++ bytes).length - 4096) ∧ t.flds = s.flds ∧
      .bridge c true (s.rxPin (s.get (G_SB_CFG.CUR_PORT c))) bytes ∈ t.out) ∧
  (∀ s u c bytes, s.alive = true → s.chCarries c = true → s.get (G_SB_CFG.CONSOLE c) = 0 → s.chShown u c = true →
    Ends (.bridgeTxData (.host u) c bytes) s fun t =>
      t = (s.emit (.bridge c false (s.txPin (s.get (G_SB_CFG.CUR_PORT c))) bytes)).emit (.usb2 (96 + u) .ack)) ∧
  (∀ s c bytes, s.alive = true → s.chCarries c = true → s.get (G_SB_CFG.CONSOLE c) ≠ 0 → Ends (.bridgeTxData .console c bytes) s
    fun t => t = s.emit (.bridge c false (s.txPin (s.get (G_SB_CFG.CUR_PORT c))) bytes)) ∧
  (∀ s u c bytes, s.alive = true → s.get (G_SB_CFG.CONSOLE c) ≠ 0 → Ends (.bridgeTxData (.host u) c bytes) s fun t =>
    t = s.emit (.usb2 (96 + u) .nak))

/-- Chapter 07 (R212 to R226): the USB PD engine of port k: messages received, retried, sent and taken from the FIFO. -/
def Obligations.PdMessageRows : Prop :=
  (∀ s k kind bytes h objs, s.alive = true → s.pdHears k = true → (s.eng k).tx = .idle → 4 ≤ (s.eng k).rx.length →
    Ends (.pdMessageReceived k kind bytes h objs) s fun t =>
      t = s.inc (R.PD_RX_OVF_CNT k) ∧ t.cnt (R.PD_RX_OVF_CNT k) = min (s.cnt (R.PD_RX_OVF_CNT k) + 1) 0xFFFF) ∧
  (∀ s k bytes h objs, s.alive = true → s.pdHears k = true → (s.eng k).tx = .idle → (s.eng k).rx.length < 4 → (s.eng k).held = [] →
    Tbl.get (s.eng k).rxId 0 2 ≠ pdMsgId h + 1 → s.extBarred k h = false → Ends (.pdMessageReceived k 2 bytes h objs) s fun t =>
      t = (((((s.emit (.pd k 2 [0x01])).modEng k fun g =>
        { g with rx := g.rx ++ [(2 * 2 ^ 29 + bytes * 2 ^ 24 + h) :: ((objs ++ [0, 0, 0, 0, 0, 0, 0]).take 7)]
                 rxId := Tbl.set g.rxId 0 2 (pdMsgId h + 1) }).set (PD_ST.RX_CNT k) ((s.eng k).rx.length + 1)).pdNote k false h).postPd
        k)) ∧
  (∀ s k, s.alive = true → (s.eng k).tx = .wire → s.get (PD_ST.REV k) = 1 → (s.eng k).retries < 3 → Ends (.pdRetryTimeout k) s fun t =>
    (t.eng k).tx = .retryWait ∧ (t.eng k).retries = (s.eng k).retries + 1 ∧ t.flds = s.flds) ∧
  (∀ s k, s.alive = true → (s.eng k).tx = .wire → s.get (PD_ST.REV k) ≠ 1 → 2 ≤ (s.eng k).retries → Ends (.pdRetryTimeout k) s fun t =>
    t = s.txComplete k TxSt.failed ∧ t.get (PD_ST.TX_ST k) = TxSt.failed ∧ s.KeepsFlds t [PD_ST.TX_ST k]) ∧
  (∀ s k, s.alive = true → (s.eng k).tx = .waitIdle → (s.eng k).txWords.headD 0 / 2 ^ 29 % 8 ≠ 3 → Ends (.pdTxStart k) s fun t =>
    (t.eng k).tx = .wire ∧ t.flds = s.flds) ∧
  (∀ s k, s.alive = true → (s.eng k).tx = .wire → (s.eng k).txWords.headD 0 / 2 ^ 29 % 8 = 1 →
    ((s.eng k).txWords.headD 0).testBit 22 = false → Ends (.pdTxComplete k) s fun t =>
      t.get (PD_ST.TX_ST k) = TxSt.ok ∧ (t.eng k).tx = .idle ∧ s.KeepsFlds t [PD_ST.TX_ST k]) ∧
  (∀ s k, s.alive = true → s.kHere k = true → s.get (PD_CFG.EN k) = 0 → Ends (.txGo k) s fun t =>
    t = s.pdRefuse k .wrongState ∧ t.cnt (R.PD_REJ_CNT k) = min (s.cnt (R.PD_REJ_CNT k) + 1) 0xFFFF ∧ t.fab.rc = .wrongState) ∧
  (∀ s k, s.alive = true → s.kHere k = true → s.get (PD_CFG.EN k) ≠ 0 → s.kReady k = true → (s.eng k).tx = .idle →
    s.partner k = true → s.get (PD_ST.HR_SEQ k) = 0 → s.txWord k 0 / 2 ^ 29 % 8 = 0 → 2 ≤ s.txWord k 0 / 2 ^ 24 % 32 →
    s.txWord k 0 / 2 ^ 24 % 32 ≤ 30 → (s.txWord k 0).testBit 23 = false → s.extBarred k (s.txWord k 0) = false → Ends (.txGo k) s fun t =>
      t.get (PD_ST.TX_ST k) = TxSt.busy ∧ (t.eng k).tx = .waitIdle ∧ (t.eng k).txWords = s.txEntry k ∧ t.fab.rc = .ok) ∧
  (∀ s k e r, s.alive = true → s.kHere k = true → (s.eng k).rx = e :: r → r.length < 4 → (s.eng k).held = [] → Ends (.rxPop k) s fun t =>
    (t.eng k).rx = r ∧ t.get (PD_ST.RX_CNT k) = r.length ∧ t.fab.rc = .ok ∧ s.KeepsFlds t [PD_ST.RX_CNT k, PD_CMD.RESULT k]) ∧
  (∀ s k, s.alive = true → s.kHere k = true → (s.eng k).rx = [] → Ends (.rxPop k) s fun t => t = s.pdRefuse k .wrongState)

/-- Chapter 07 (R229 to R243): Hard Reset and Cable Reset, the staged contract and its transition, watchdogs and fast role swap; how the ROM program answers a Request (R230 to R232). -/
def Obligations.PdContractRows : Prop :=
  (∀ s k, s.alive = true → s.kHere k = true → s.get (PD_CFG.EN k) ≠ 0 → s.partner k = true → s.get (PD_ST.HR_SEQ k) = 0 →
    s.kReady k = true → Ends (.hardReset k) s fun t => t = (s.hrStart k true).pdDone k ∧ t.fab.rc = .ok) ∧
  (∀ s k, s.alive = true → s.kHere k = true → s.get (PD_ST.HR_SEQ k) ≠ 0 → Ends (.hardReset k) s fun t =>
    t = s.pdRefuse k .wrongState) ∧
  (∀ s k, s.alive = true → s.kHere k = true → s.get (PD_CFG.EN k) ≠ 0 → s.vconnOn k = true → s.kReady k = true →
    Ends (.cableReset k) s fun t => t = (s.emit (.pd k 4 [])).pdDone k ∧ t.fab.rc = .ok) ∧
  (∀ s k, s.alive = true → k < 96 → s.pdHears k = true → s.partner k = true → s.get (PD_ST.HR_SEQ k) = 0 →
    Ends (.hardResetReceived k) s fun t => t = (s.hrStart k false).pdPostEntry k 3 0) ∧
  (∀ s k, s.alive = true → s.pdHears k = true → Ends (.cableResetReceived k) s fun t => t = s.pdPostEntry k 4 0) ∧
  (∀ s k s3, s.alive = true → (s.eng k).hr = .psHardReset →
    s3 = (let s1 := (s.modEng k fun g => { g with hr := .discharge }).softOff k
          (if k < 96 then ((s1.set (P_TCST.VCONN_ON k) 0).releaseChannel k).portGone k
           else (s1.set (PD_ST.PWR_ROLE k) (s1.eng k).srcDefault.toNat).set (PD_ST.DATA_ROLE k) (s1.eng k).srcDefault.toNat).refreshCause
            k) →
    Ends (.tpshardresetEnd k) s fun t =>
      t = if s3.ppState k = Pp.discharge then s3 else (s3.modEng k fun g => { g with hr := .srcRecover }).creditReturn k) ∧
  (∀ s k, s.alive = true → (s.eng k).hr = .srcRecover → (s.eng k).vconnBefore = false → Ends (.tsrcrecoverEnd k) s fun t =>
    t = ((s.modEng k fun g => { g with hr := .turnOn }).refreshCause k).rampStart k) ∧
  (∀ s k, s.alive = true → (s.eng k).hr = .srcRecover → (s.eng k).vconnBefore = true → s.partner k = true →
    Ends (.tsrcrecoverEnd k) s fun t =>
      t = (((s.modEng k fun g => { g with hr := .turnOn }).setVconn k true).refreshCause k).rampStart k) ∧
  (∀ s k, s.alive = true → (s.eng k).hr = .turnOn → Ends (.hrVsafe5vTimeout k) s fun t =>
    t = (((s.modEng k fun g => { g with hr := .none }).set (PD_ST.HR_SEQ k) 0).set (PD_ST.ABORTED k) 0).dropContract k) ∧
  (∀ s k v, s.alive = true → s.kHere k = true → s.get (PD_ST.IN_TRANS k) = 0 → s.get (PD_CFG.EN k) ≠ 0 →
    s.nextOk k (v / 2 ^ 29 % 8) (v / 65536 % 8192) (v % 512) = true → Ends (.pdNextWrite k v) s fun t =>
      t = (((s.stage (PD_NEXT.KIND k) (v / 2 ^ 29 % 8)).stage (PD_NEXT.VOLT k) (v / 65536 % 8192)).stage (PD_NEXT.CURR k)
        (v % 512)).answer .ok) ∧
  (∀ s k v, s.alive = true → s.kHere k = true → s.get (PD_ST.IN_TRANS k) = 0 → s.get (PD_CFG.EN k) ≠ 0 →
    s.nextOk k (v / 2 ^ 29 % 8) (v / 65536 % 8192) (v % 512) = false → Ends (.pdNextWrite k v) s fun t =>
      t = (s.inc (R.PD_REJ_CNT k)).answer .range) ∧
  (∀ s k, s.alive = true → (s.eng k).trans = .srcTransition → Ends (.tsrctransitionEnd k) s fun t =>
    t = (s.modEng k fun g => { g with trans := .slew }).newTarget k (20 * s.get (PD_NEXT.VOLT k))) ∧
  (∀ s k, s.alive = true → (s.eng k).trans = .slew → s.vbusMv k = 20 * s.get (PD_NEXT.VOLT k) → Ends (.transitionDone k) s fun t =>
    t = s.transDone k) ∧
  (∀ s k, s.alive = true → (s.eng k).trans = .slew → Ends (.transitionTimeout k) s fun t => t = s.hrSend k) ∧
  (∀ s k, s.alive = true → s.get (PD_ST.EPR_MODE k) ≠ 0 → s.get (PD_CFG.EN k) ≠ 0 → Ends (.eprKeepaliveExpiry k) s fun t =>
    t = s.pdWatchdog k 1) ∧
  (∀ s k, s.alive = true → s.get (PD_ST.CONTRACT k) = 2 → s.get (PD_ST.KIND k) = 1 → s.get (PD_CFG.EN k) ≠ 0 →
    Ends (.ppsTimeout k) s fun t => t = s.pdWatchdog k 2) ∧
  (∀ s u, s.alive = true → s.usHere u = true → s.get (PD_CFG.FRS_EN (96 + u)) ≠ 0 → s.get (PD_CFG.EN (96 + u)) ≠ 0 →
    s.get (PD_ST.PWR_ROLE (96 + u)) = 0 → s.get (PD_ST.CONTRACT (96 + u)) ≠ 0 → Ends (.frSwapSignal u) s fun t =>
      t.get (PP_ST.STATE (96 + u)) = Pp.on ∧ t.get (PP_ST.PGOOD (96 + u)) = 1 ∧ t.get (PP_ST.FT_LVL (96 + u)) = 1) ∧
  (∀ (s : State) k w kind v i, s.rdoTerms k w = some (kind, v, i) → s.nextOk k kind v i = true →
    s.get (BSN_CHG.CHARGE k) < contractMw v i → (s.eng k).pol.answered = false →
    (s.takeQ k (contractMw v i - s.get (BSN_CHG.CHARGE k))).2 ≠ .ok → ((s.pdRequest k w).eng k).pol.lim = 1 ∧
      ((s.pdRequest k w).eng k).pol.todo = (s.eng k).pol.todo ++ [Pm.reject, Pm.caps]) ∧
  (∀ (s : State) k w kind v i, s.rdoTerms k w = some (kind, v, i) → s.nextOk k kind v i = true →
    contractMw v i ≤ s.get (BSN_CHG.CHARGE k) → (s.uqOf k).pend = false →
    s.pdRequest k w = s.pdAccept k kind v i (s.get (BSN_CHG.CHARGE k) - contractMw v i)) ∧
  (∀ (s : State) k w, s.rdoTerms k w = none → s.pdRequest k w = s.pdReject k false)

/-- Chapter 08 (R258 to R270): the ramp of port k, power good, trips and the retry wait. -/
def Obligations.PowerRiseRows : Prop :=
  (∀ s k, s.alive = true → s.rampReady k = true → (s.path k).retrying = false → Ends (.rampStart k) s fun t =>
    t.get (PP_ST.STATE k) = Pp.precheck ∧ t.get (PD_ST.CONTRACT k) = 1) ∧
  (∀ s k, s.alive = true → s.rampReady k = false → Ends (.rampStart k) s fun t => t = s) ∧
  (∀ s k, s.alive = true → s.ppState k = Pp.precheck → s.vbusLow k = true → Ends (.precheckEnd k) s fun t =>
    t.get (PP_ST.STATE k) = Pp.slope ∧ (t.path k).gate = .slope ∧ s.KeepsFlds t [PP_ST.STATE k]) ∧
  (∀ s k, s.alive = true → s.ppState k = Pp.precheck → s.vbusLow k = false → Ends (.precheckEnd k) s fun t =>
    t = s.stuckOff k Trip.fetShort) ∧
  (∀ s k v, s.alive = true → s.ppState k = Pp.precheck → 80 ≤ v → Ends (.fetShort k v) s fun t =>
    t = (s.set (PP_MEAS.VBUS k) v).stuckOff k Trip.fetShort) ∧
  (∀ s k v, s.alive = true → v < 80 → Ends (.fetShort k v) s fun t => t = s) ∧
  (∀ s k, s.alive = true → s.ppState k = Pp.slope → Ends (.slopeEnd k) s fun t =>
    t.get (PP_ST.STATE k) = Pp.enhance ∧ (t.path k).gate = .full ∧ s.KeepsFlds t [PP_ST.STATE k]) ∧
  (∀ s k, s.alive = true → s.ppState k = Pp.enhance → Ends (.gateRiseEnd k false) s fun t => t = s.stuckOff k Trip.gateStuck) ∧
  (∀ s k, s.alive = true → s.ppState k = Pp.enhance → s.vbusMv k < 4750 → Ends (.gateRiseEnd k true) s fun t => t = s.trip k Trip.uv) ∧
  (∀ s k, s.alive = true → s.ppState k = Pp.enhance → 4750 ≤ s.vbusMv k → Ends (.gateRiseEnd k true) s fun t =>
    (t.path k).rampDone = true ∧ t.flds = s.flds) ∧
  (∀ s k, s.alive = true → s.ppState k = Pp.enhance → s.get (PP_ST.FTIMER k) = 0 → k < 100 → (s.eng k).hr = .none →
    Ends (.powerGood k) s fun t =>
      t.get (PP_ST.PGOOD k) = 1 ∧ t.get (PP_ST.STATE k) = Pp.on ∧ t.get (PP_ST.FT_LVL k) = 1) ∧
  (∀ s k, s.alive = true → s.pathLive k = true → Ends (.fastTrip k) s fun t => t = s.trip k Trip.fast) ∧
  (∀ s k, s.alive = true → s.pathLive k = false → s.ppState k ≠ Pp.discharge → Ends (.fastTrip k) s fun t => t = s) ∧
  (∀ s k, s.alive = true → s.pathLive k = true → (s.path k).oc = true → (s.path k).uv = false → Ends (.slowTrip k) s fun t =>
    t = s.trip k Trip.oc) ∧
  (∀ s k, s.alive = true → s.pathLive k = true → (s.path k).oc = false → (s.path k).uv = true → Ends (.slowTrip k) s fun t =>
    t = s.trip k Trip.uv) ∧
  (∀ s k, s.alive = true → s.pathLive k = true → (s.path k).ov = true → Ends (.ovTrip k) s fun t => t = s.trip k Trip.ov) ∧
  (∀ s k, s.alive = true → s.ppState k = Pp.retryWait → Ends (.retryWaitEnd k) s fun t =>
    t = ((s.setPp k Pp.off).modPath k fun p => { p with retrying := true }).rampStart k)

/-- Chapter 08 (R256, R268 to R276): VSET trim and slew, discharge, the commands ON, OFF, RELEASE and CLEAR_STUCK, and the current samples of port k. -/
def Obligations.PowerCommandRows : Prop :=
  (∀ s k, s.alive = true → s.get (PP_ST.PGOOD k) ≠ 0 → Ends (.retryCountReset k) s fun t =>
    t.get (PP_ST.RETRY_USED k) = 0 ∧ t = s.retryReset k) ∧
  (∀ s k, s.alive = true → s.get (PP_ST.PGOOD k) ≠ 0 → s.ppState k = Pp.on → (s.path k).target = 5000 → s.get (PP_MEAS.VBUS k) = 500 →
    Ends (.vsetTrim k) s fun t => (t.path k).trim = (s.path k).trim ∧
      t.get (PP_ST.VSET_CODE k) = (((s.path k).nominal : Int) + (s.path k).trim).toNat % 4096) ∧
  (∀ s k t0, s.alive = true → s.get (PP_ST.PGOOD k) ≠ 0 → s.ppState k = Pp.on → 1005 * (s.path k).target < 1000 * s.vbusMv k →
    t0 = max (-((max 4 (5 * (s.path k).nominal / 100) : Nat) : Int)) ((s.path k).trim - 1) →
    Ends (.vsetTrim k) s fun t => (t.path k).trim = t0 ∧
      t.get (PP_ST.VSET_CODE k) = (((s.path k).nominal : Int) + t0).toNat % 4096 ∧
      s.KeepsFlds t [PP_ST.VSET_CODE k, PP_ST.TRIM_LIM k]) ∧
  (∀ s k t0, s.alive = true → s.get (PP_ST.PGOOD k) ≠ 0 → s.ppState k = Pp.on → 1000 * s.vbusMv k < 995 * (s.path k).target →
    t0 = min ((max 4 (5 * (s.path k).nominal / 100) : Nat) : Int) ((s.path k).trim + 1) →
    Ends (.vsetTrim k) s fun t => (t.path k).trim = t0 ∧
      t.get (PP_ST.VSET_CODE k) = (((s.path k).nominal : Int) + t0).toNat % 4096 ∧
      s.KeepsFlds t [PP_ST.VSET_CODE k, PP_ST.TRIM_LIM k]) ∧
  (∀ s k, s.alive = true → s.ppState k = Pp.slew → k < 100 → Ends (.vsetSlewDone k) s fun t =>
    t.get (PP_ST.VSET_CODE k) = (s.path k).nominal % 4096 ∧ t.get (PP_ST.STATE k) = Pp.on ∧ (t.path k).oldTarget = (s.path k).target ∧
    s.KeepsFlds t [PP_ST.VSET_CODE k, PP_ST.STATE k]) ∧
  (∀ s k, s.alive = true → Ends (.vsetPwmPeriod k) s fun t =>
    t = (((s.apply (PP_CFG.SLOPE k)).apply (PP_CFG.VSLEW k)).apply (PP_CFG.RETRIES k)).apply (PP_CFG.FAULT_T k)) ∧
  (∀ s k, s.alive = true → s.ppState k = Pp.discharge → (s.path k).soft = true → Ends (.dischargeGateTimeout k) s fun t =>
    t.get (PP_ST.VSET_CODE k) = 0 ∧ (t.path k).gate = .isp ∧ (t.path k).soft = false ∧ s.KeepsFlds t [PP_ST.VSET_CODE k]) ∧
  (∀ s k v, s.alive = true → s.ppState k = Pp.discharge → Ends (.vbusDischarged k v) s fun t =>
    t = (s.set (PP_MEAS.VBUS k) v).dischargeEnd k) ∧
  (∀ s k, s.alive = true → s.ppState k = Pp.discharge → s.vbusLow k = false → Ends (.dischargeSlow k) s fun t =>
    t = ((((s.set (PP_ST.DIS_SLOW k) 1).inc (R.PP_DIS_SLOW_CNT k)).logOpen 0x05 0x04 k).faultOnset 25 k
      (s.get (PP_ST.CAUSE k))).dischargeEnd k) ∧
  (∀ s k, s.alive = true → s.kHere k = true → k < 100 → s.kReady k = true → s.get (PP_ST.CMD_OFF k) ≠ 0 → Ends (.ppOn k) s fun t =>
    t.get (PP_ST.CMD_OFF k) = 0 ∧ t.get (PP_CMD.RESULT k) = 0 ∧ t.fab.rc = .ok) ∧
  (∀ s k, s.alive = true → s.kHere k = true → s.get (PP_ST.CMD_OFF k) = 0 → s.shedOff k = false → Ends (.ppOn k) s fun t =>
    t.get (PP_CMD.RESULT k) = 1 ∧ t.cnt (R.PP_REJ_CNT k) = min (s.cnt (R.PP_REJ_CNT k) + 1) 0xFFFF ∧ t.fab.rc = .wrongState ∧
    s.KeepsFlds t [PP_CMD.RESULT k]) ∧
  (∀ s k, s.alive = true → s.kHere k = true → s.kReady k = true → s.get (PP_ST.CMD_OFF k) = 0 → s.shedOff k = false →
    s.ppState k ≠ Pp.latched → s.ppState k ≠ Pp.stuck → Ends (.ppOff k) s fun t => t = (s.commandOff k).ppDone k ∧ t.fab.rc = .ok) ∧
  (∀ s k, s.alive = true → s.kHere k = true → s.get (PP_ST.CMD_OFF k) ≠ 0 → Ends (.ppOff k) s fun t => t = s.ppRefuse k) ∧
  (∀ s k, s.alive = true → s.kHere k = true → s.kReady k = true → s.ppState k = Pp.latched → Ends (.ppRelease k) s fun t =>
    t = (((s.setPp k Pp.off).retryReset k).fltFall 26 k).ppDone k) ∧
  (∀ s k, s.alive = true → s.kHere k = true → s.ppState k ≠ Pp.latched → Ends (.ppRelease k) s fun t => t = s.ppRefuse k) ∧
  (∀ s k, s.alive = true → s.kHere k = true → s.kReady k = true → s.ppState k = Pp.stuck → Ends (.clearStuck k) s fun t =>
    t = (((s.setPp k Pp.off).retryReset k).fltFall 24 k).ppDone k) ∧
  (∀ s k, s.alive = true → s.kHere k = true → s.ppState k ≠ Pp.stuck → Ends (.clearStuck k) s fun t => t = s.ppRefuse k) ∧
  (∀ s k v, s.alive = true → s.kHere k = true → v < 65536 → s.ppState k = Pp.off → Ends (.slowTripSample k false v) s fun t =>
    t = s.set (PP_MEAS.IBUS k) v) ∧
  (∀ s k v, s.alive = true → s.kHere k = true → s.get (PP_ST.PGOOD k) = 0 → (s.path k).rampDone = false → v < 65536 →
    Ends (.slowTripSample k true v) s fun t => t.get (PP_MEAS.VBUS k) = v ∧ s.KeepsFlds t [PP_MEAS.VBUS k])

/-- Chapters 01 and 02 (R17, R27 to R30, R137, R325, R484): clocks, boundaries and time. -/
def Obligations.ClockRows : Prop :=
  (∀ s d, s.alive = true → s.pins.paEnable.getD d false = true → Ends (.paLinkLoss d) s fun t =>
    t = (if s.pins.paLost.getD d false then s else s.dieLost d).faultOnset (6 + d) 0 0) ∧
  (∀ s, s.alive = true → s.fltOn 0 = false → Ends .rootClockLoss s fun t =>
    t = (((s.modPins fun p => { p with clockAbsent := true, pllLocked := false }).set SV_UART.RC 1).faultOnset 0 0 0).safeEntry
      Entry.clock 0) ∧
  (∀ s, s.alive = true → s.pins.pllLocked = true → s.mode ≠ .strap → Ends .pllUnlock s fun t =>
    t = (((s.modPins fun p => { p with clockAbsent := true, pllLocked := false }).set SV_UART.RC 1).faultOnset 1 0 0).safeEntry
      Entry.clock 0) ∧
  (∀ s u frame, s.hostSide u = true → Ends (.sofReceived u frame) s fun t => (t.up u).frame = frame ∧
    (t.up u).mf = (if (s.up u).frame = frame then (s.up u).mf else 0) ∧ t.flds = s.flds ∧ t.cnts = s.cnts ∧ t.ports = s.ports) ∧
  (∀ s u, s.alive = true → s.usHere u = true → s.dataOn = true → s.mode ≠ .strap → s.pins.clockAbsent = false →
    Ends (.microframeBoundary u) s fun t => t = s.boundary u) ∧
  (∀ s u, s.alive = true → s.usHere u = true → s.dataOn = false → s.mode ≠ .strap → s.pins.clockAbsent = false →
    Ends (.microframeBoundary u) s fun t => t = s.mfStep u) ∧
  (∀ s, s.alive = true → s.mode ≠ .strap → s.pins.clockAbsent = false → s.dataOn = true → Ends .tbTick125us s fun t =>
    t = s.tbTick.levelsTick) ∧
  (∀ s, s.alive = true → s.mode = .strap ∨ s.pins.clockAbsent = true → Ends .tbTick125us s fun t => t = s) ∧
  (∀ s, s.alive = true → s.mode ≠ .strap → s.pins.clockAbsent = false → (s.setTb (s.tb + 480)).dataOn = false →
    Ends .shaperTickUpdate s fun t => t.tb = s.tb + 480 ∧ t.flds = s.flds ∧ t.egresses = s.egresses) ∧
  (∀ s, s.alive = true → s.mode ≠ .strap → s.pins.clockAbsent = false → (s.setTb (s.tb + 480)).dataOn = true →
    Ends .shaperTickUpdate s fun t =>
      t = (List.range 100).foldl (fun s x => if s.kHere x then s.shTick x else s) (s.setTb (s.tb + 480))) ∧
  (∀ s, s.alive = true → s.mode ≠ .strap → s.pins.clockAbsent = false → Ends .oneMsTick s fun t =>
    t = s.postRouted 15 ∧ t.flds = s.flds)

/-- Chapter 09 (R284 to R303): Basin's ticks, grants, sensors, caps and shed control; the ROM program's SHED levels (R304). -/
def Obligations.BasinRows : Prop :=
  (∀ s temps, s.alive = true → s.get G_READY.BASIN ≠ 0 → Ends (.basinTick temps) s fun t => t = s.basinTick temps) ∧
  (∀ s temps, s.alive = true → s.get G_READY.BASIN = 0 → Ends (.basinTick temps) s fun t => t = s.diesRead 0 temps) ∧
  (∀ s k, s.alive = true → (s.uqOf k).grant ≠ 0 → Ends (.grantExpiry k) s fun t =>
    t = ((((s.setUq k {}).inc R.BSN_GRANT_EXP_CNT).postPd k).basinRefresh)) ∧
  (∀ s k, s.alive = true → (s.uqOf k).grant = 0 → Ends (.grantExpiry k) s fun t => t = s) ∧
  (∀ s i diff, s.alive = true → i ∈ s.dieSensors → diff < 60 → Tbl.get s.bsn.stuck 0 i < 9 → Ends (.sensorSelfTest i diff) s fun t =>
    Tbl.get t.bsn.stuck 0 i = Tbl.get s.bsn.stuck 0 i + 1 ∧ t.flds = s.flds ∧ t.cnts = s.cnts) ∧
  (∀ s j temp, s.alive = true → s.boardOn.contains j = true → temp < 4096 → Ends (.boardSensorRead j true temp) s fun t =>
    t = ((((((s.set (BSN_BRD_T.VALID j) 1).set (BSN_BRD_T.FAULT j) 0).set (BSN_BRD_T.TEMP j) temp).modBsn fun b =>
      { b with invalid := Tbl.set b.invalid 0 j 0 }).fltFall 33 j).basinRefresh)) ∧
  (∀ s j temp, s.alive = true → s.boardOn.contains j = true → Tbl.get s.bsn.invalid 0 j < 2 → Ends (.boardSensorRead j false temp) s
    fun t => t.get (BSN_BRD_T.VALID j) = 0 ∧ Tbl.get t.bsn.invalid 0 j = Tbl.get s.bsn.invalid 0 j + 1 ∧
      s.KeepsFlds t [BSN_BRD_T.VALID j]) ∧
  (∀ s j v, s.alive = true → Ends (.boardSensorConfigWrite j v) s fun t => t = (s.wrBoardCfg j v).answer .ok ∧ t.fab.rc = .ok) ∧
  (∀ s, s.alive = true → s.get BSN_SHED_ST.LEVEL = 4 → s.get BSN_SHED_ST.CAUSE ≠ 0 → Ends .shedPowerOff s fun t => t = s.shedPowerOff) ∧
  (∀ s, s.alive = true → s.get BSN_SHED_ST.LEVEL ≠ 4 → Ends .shedPowerOff s fun t => t = s) ∧
  (∀ s, s.alive = true → s.get BSN_SHED_ST.LEVEL < 4 → Ends .shedPortRelease s fun t => t = s.shedRelease) ∧
  (∀ s v, s.alive = true → Ends (.shedLevelWrite v) s fun t => t = (s.wrShedLevel v).answer .ok ∧ t.fab.rc = .ok) ∧
  (∀ s g v, s.alive = true → g = 13 ∨ s.sgHere g = true → Ends (.capWrite g v) s fun t => t = (s.wrCap g v).answer .ok ∧ t.fab.rc = .ok) ∧
  (∀ (s : State), s.boot.work.hotAt ≠ 0 → s.boot.work.hotAt + 2000 ≤ s.workNow → s.workNow < s.boot.work.hotAt + 7000 →
    s.boot.work.raised < 3 → s.get BSN_SHED_CTL.LEVEL < 3 → s.shedLevel =
      ((s.modWork fun w => { w with raised := 3 }).wrShedLevel 3).modWork fun w => { w with wrote := 3, restore := false }) ∧
  (∀ (s : State), s.boot.work.hotAt ≠ 0 → s.boot.work.hotAt + 7000 ≤ s.workNow → s.boot.work.raised < 4 →
    s.get BSN_SHED_CTL.LEVEL < 4 → s.shedLevel =
      ((s.modWork fun w => { w with raised := 4 }).wrShedLevel 4).modWork fun w => { w with wrote := 4, restore := false }) ∧
  (∀ (s : State), s.boot.work.hotAt = 0 → s.boot.work.calmAt + 10000 ≤ s.workNow → s.boot.work.wrote ≠ 0 →
    s.get BSN_SHED_CTL.LEVEL = s.boot.work.wrote → s.shedLevel =
      (s.wrShedLevel 0).modWork fun w => { w with wrote := 0, restore := true })

/-- Chapter 14 (R437 to R461): supplies, RESET_N, HOLD, STRAP, RISE and the mode commands. -/
def Obligations.ModeRows : Prop :=
  (∀ s, Ends (.supplyFall 0) s fun t => t.mode = .off) ∧
  (∀ s i, 1 ≤ i → i < 4 → s.mode ≠ .off → Ends (.supplyFall i) s fun t =>
    t = (s.modPins fun p => { p with supply := p.supply.set i false }).resetBegin rstPor) ∧
  (∀ s i, i < 4 → s.mode = .off → ((s.pins.supply.set i true).take 4).all id = true → s.pins.supply.length = 7 →
    Ends (.supplyRise i) s fun t => t.mode = .hold ∧ t.pins.supply = s.pins.supply.set i true) ∧
  (∀ s, s.alive = true → Ends .resetNLow s fun t =>
    t = ((s.modPins fun p => { p with resetN := false }).selftestAbort).resetBegin rstPin) ∧
  (∀ s, s.alive = false → Ends .resetNLow s fun t => t = s.modPins fun p => { p with resetN := false }) ∧
  (∀ s, Ends .resetNHigh s fun t => t = s.modPins fun p => { p with resetN := true }) ∧
  (∀ s, s.mode = .hold → s.pins.resetN = true → s.logicUp = true → Ends .holdEnd s fun t =>
    t.mode = .strap ∧ t.get G_STRAP.STRAPS = s.pins.strapPins % 256 ∧ (t.thread 0).state = .run ∧ (t.thread 0).pc = 0x40000 ∧
    (t.thread 0).priv = true ∧ s.KeepsFlds t [G_STRAP.STRAPS]) ∧
  (∀ s, s.mode = .strap → s.alive = true → s.pins.pllLocked = false → Ends .pllLock s fun t =>
    t.pins.pllLocked = true ∧ t.get G_READY.CLK = 1 ∧ t.mode = .strap ∧ s.KeepsFlds t [G_READY.CLK]) ∧
  (∀ s, s.mode = .strap → s.alive = true → s.pins.pllLocked = false → Ends .pllLockTimeout s fun t =>
    t = ((s.modPins fun p => { p with clockAbsent := true }).set SV_UART.RC 1).safeEntry Entry.pll 0) ∧
  (∀ s, s.mode = .strap → s.alive = true → s.pins.pllLocked = true → Ends (.riseEntry false) s fun t =>
    t = (s.set SV_UART.RATE (s.get G_STRAP.STRAPS / 8)).safeEntry Entry.rom 0) ∧
  (∀ s, s.mode = .strap → s.alive = true → s.pins.pllLocked = true → (∀ d, s.dieSupplied d = true) → s.variant = .klh9600 →
    Ends (.riseEntry true) s fun t => t.mode = .rise ∧ t.tk.imem = [] ∧ t.tk.dmem = [] ∧ t.pins.paEnable = [true, true] ∧
      t.get FC_VENT_ST.RUN = 1) ∧
  (∀ s i, s.alive = true → i < 64 → s.awaited i = true → s.unitMay i = true → Ends (.unitReady i) s fun t =>
    t = ((s.setUnit i).unitStart i).readyRefresh) ∧
  (∀ s i, s.alive = true → s.awaited i = true → i < 64 → Ends (.calibrationFail i) s fun t => t = (s.unitFail i).readyRefresh) ∧
  (∀ s i, s.alive = true → s.awaited i = true → 64 ≤ i → Ends (.readinessTimeout i) s fun t =>
    t = ((s.markPort (i - 64) 3).failNote i).readyRefresh) ∧
  (∀ s, s.alive = true → s.mode ≠ .safe → Ends .modeSafe s fun t => t = s.modeDone.safeEntry Entry.cmd 0) ∧
  (∀ s, s.alive = true → s.mode = .safe → Ends .modeSafe s fun t => t = s.modeRefuse ∧ t.fab.rc = .wrongState ∧
    t.cnt R.G_MODE_REJ_CNT = min (s.cnt R.G_MODE_REJ_CNT + 1) 0xFFFF ∧ t.get G_MODE_CTL.RESULT = 1) ∧
  (∀ s, s.alive = true → s.safeClear = true → Ends .release s fun t => t = s.resetBegin rstRelease) ∧
  (∀ s, s.alive = true → s.safeClear = false → Ends .release s fun t => t = s.modeRefuse) ∧
  (∀ s, s.alive = true → s.mode ≠ .run → Ends .selftest s fun t => t = s.modeRefuse) ∧
  (∀ s, s.alive = true → s.mode = .run → s.get G_UPD_ST.ACTIVE = 0 → Ends .selftest s fun t => t.mode = .selftest ∧ t.dormant = false) ∧
  (∀ s first, s.alive = true → s.mode = .selftest → Ends (.selftestEnd first) s fun t =>
    t = ((s.set G_SELFTEST_RES.RESULT (if first = 0 then 1 else 2)).set G_SELFTEST_RES.FIRST_FAIL first).resetBegin rstSelftest) ∧
  (∀ s, s.alive = true → s.get G_UPD_ST.BUSY = 0 → Ends .modeReset s fun t => t = s.modeDone.selftestAbort.resetBegin rstCmd) ∧
  (∀ s, s.alive = true → s.get G_UPD_ST.BUSY ≠ 0 → Ends .modeReset s fun t =>
    t.boot.resetAfter = some rstCmd ∧ t.mode = s.mode ∧ t.fab.rc = .ok ∧ s.KeepsFlds t [G_MODE_CTL.RESULT]) ∧
  (∀ s, s.alive = true → s.dormant = true → Ends .wake s fun t => t = s.dormantExit.modeDone) ∧
  (∀ s, s.alive = true → s.dormant = false → Ends .wake s fun t => t = s.modeRefuse)

/-- Chapter 13, links (R393 to R403, R410): training, link frames and timers. -/
def Obligations.CascadeLinkRows : Prop :=
  (∀ s u, s.alive = true → s.kOn = true → s.usHere u = true → s.get (KL_UCFG.MODE u) = 2 → s.get (U_TC_CFG.DRP u) = 0 →
    s.get (U_TREEST.LINK u) = 0 → (s.get G_READY.US).testBit u = true → Ends (.kclAutoDetect u) s fun t =>
      t = s.becomeLink u Kl.poll) ∧
  (∀ s u, s.linkSide u = true → s.lst u = Kl.detect → Ends (.kclTerminationDetect u) s fun t => t = s.setLst u Kl.poll) ∧
  (∀ s u, s.linkSide u = true → s.lst u = Kl.poll → Ends (.kclPollLock u) s fun t => t = s.setLst u Kl.config) ∧
  (∀ s u swap ver peerLink hasId peerChip peerDie, s.linkSide u = true → s.lst u = Kl.config → ver < 0x10 →
    Ends (.kclConfigDone u swap ver peerLink hasId peerChip peerDie) s fun t =>
      t = (((s.set (KL_LST.FAIL u) 3).inc (R.KL_TRAIN_FAIL_CNT u)).setLst u Kl.down).modKlink u fun l => { l with retryWait := true }) ∧
  (∀ s u swap peerLink peerDie, s.linkSide u = true → s.lst u = Kl.config → (s.klink u).peerDie ≠ peerDie → s.get KL_ID.STATE = 1 →
    Ends (.kclConfigDone u swap 0x11 peerLink false 0 peerDie) s fun t => ∃ s1 : State,
      t = (((s1.setLst u Kl.up).logOpen 0x09 0x01 u).romSlope (96 + u) 3).routeFlood.budgetCheck ∧ s1.get (KL_LST.HOP_LAT u) = 200 ∧
      (s1.klink u).peerDie = peerDie ∧ (s1.klink u).rxSeq = 0 ∧ (s1.klink u).txSeq = 0) ∧
  (∀ s u one, s.linkSide u = true → s.lst u = Kl.poll ∨ s.lst u = Kl.config → Ends (.kclTrainTimeout u one) s fun t =>
    t = (((s.set (KL_LST.FAIL u) (if one then 2 else 1)).inc (R.KL_TRAIN_FAIL_CNT u)).setLst u Kl.down).modKlink u fun l =>
      { l with retryWait := true }) ∧
  (∀ s u, s.linkSide u = true → s.lst u = Kl.down → Ends (.kclTrainRetry u) s fun t =>
    t = (s.setLst u Kl.detect).modKlink u fun l => { l with retryWait := false }) ∧
  (∀ s u seq f r, s.linkSide u = true → (s.klink u).unacked = (seq, f) :: r → (s.klink u).txq = [] → Ends (.lack u seq) s fun t =>
    (t.klink u).unacked = r ∧ t.flds = s.flds ∧ t.cnts = s.cnts) ∧
  (∀ s u seq, s.linkSide u = true → s.linkLive u = true → (s.klink u).lnak = (seq + 1, 3) → Ends (.lnak u seq) s fun t =>
    t = s.retrain u) ∧
  (∀ s u seq, s.linkSide u = true → s.linkLive u = true → (s.klink u).lnak = (0, 0) → (s.klink u).unacked = [] →
    (s.klink u).txq = [] → Ends (.lnak u seq) s fun t => (t.klink u).lnak = (seq + 1, 1) ∧ t.flds = s.flds) ∧
  (∀ s u vc n, s.linkSide u = true → (s.klink u).txq = [] → Ends (.credit u vc n) s fun t =>
    Tbl.get (t.klink u).used 0 vc = Tbl.get (s.klink u).used 0 vc - n ∧ t.flds = s.flds) ∧
  (∀ s u, s.alive = true → Ends (.keepalive u) s fun t => t = s) ∧
  (∀ s u tb, s.linkSide u = true → s.linkLive u = true → Ends (.probe u tb) s fun t => t = s.linkFrame u Lc.probeEcho [tb]) ∧
  (∀ s u tb rtt, s.linkSide u = true → (s.klink u).probe = some tb → s.get (KL_LST.VER u) ≠ 0 → (rtt * 5 + 47) / 48 + 90 ≤ 200 →
    Ends (.probeEcho u tb rtt) s fun t => t.get (KL_LST.HOP_LAT u) = (rtt * 5 + 47) / 48 + 90 ∧ t.get (KL_LST.LAT_HI u) = 0 ∧
      (t.klink u).probe = none ∧ s.KeepsFlds t [KL_LST.HOP_LAT u, KL_LST.LAT_HI u]) ∧
  (∀ s u tb rtt, s.linkSide u = true → (s.klink u).probe = some tb → s.get (KL_LST.VER u) ≠ 0 → 200 < (rtt * 5 + 47) / 48 + 90 →
    Ends (.probeEcho u tb rtt) s fun t => t.get (KL_LST.HOP_LAT u) = 200 ∧ t.get (KL_LST.LAT_HI u) = 1) ∧
  (∀ s u seq vc len, s.linkSide u = true → s.linkLive u = true → Ends (.frameError u false seq vc len) s fun t =>
    t.cnt (R.KL_CRC_ERR_CNT u) = min (s.cnt (R.KL_CRC_ERR_CNT u) + 1) 0xFFFF ∧ (t.klink u).discarding = true ∧
    .kcl u 0xF Lc.lnak 0 [(s.klink u).rxSeq] ∈ t.out ∧ t.flds = s.flds) ∧
  (∀ s u seq len, s.linkSide u = true → s.linkTakes u seq = true → Ends (.frameError u true seq 0 len) s fun t =>
    t = (s.frameIn u seq 0 len).inc (R.KL_BAD_FRAME_CNT u)) ∧
  (∀ s u, s.linkSide u = true → s.linkLive u = true → 0 < (s.klink u).rxCount → Ends (.lackTimer u) s fun t =>
    (t.klink u).rxCount = 0 ∧ .kcl u 0xF Lc.lack 0 [((s.klink u).rxSeq + 127) % 128] ∈ t.out ∧ t.flds = s.flds) ∧
  (∀ s u, s.linkSide u = true → s.linkLive u = true → Ends (.creditTimer u) s fun t =>
    (t.klink u).owed = [] ∧ t.flds = s.flds ∧ t.cnts = s.cnts) ∧
  (∀ s u, s.linkSide u = true → s.linkLive u = true → Ends (.keepaliveTimer u) s fun t => t = s.linkFrame u Lc.keepalive []) ∧
  (∀ s u, s.linkSide u = true → s.linkLive u = true → (s.klink u).txq = [] → Ends (.kclLinkLoss u) s fun t =>
    t = ((((((s.leaveUp u Kl.down).incBy (R.KL_LOST_CNT u) (s.klink u).unacked.length).inc (R.KL_LINK_LOSS_CNT u)).modKlink u
      fun l => { stalled := l.stalled, peerDie := 0 }).logOpen 0x09 0x02 u).faultOnset 38 u 0).routeFlood.budgetCheck) ∧
  (∀ s u, s.linkSide u = true → s.linkLive u = true → s.get (KL_LST.VER u) ≠ 0 → Ends (.probeTimer u) s fun t =>
    (t.klink u).probe = some (s.tb % 2 ^ 32) ∧ .kcl u 0xF Lc.probe 0 [s.tb % 2 ^ 32] ∈ t.out ∧ t.flds = s.flds)

/-- Chapter 13, routes, root and IDs (R405 to R413). -/
def Obligations.CascadeIdRows : Prop :=
  (∀ s u seq origin rseq hops lat, s.linkTakes u seq = true → (s.frameIn u seq 0 12).linkUp u = true →
    (s.frameIn u seq 0 12).toMe origin = false → Tbl.get (s.frameIn u seq 0 12).kcl.seqs 0 origin = rseq + 1 →
    Ends (.routeFrame u seq origin rseq hops lat) s fun t =>
      t = ((s.frameIn u seq 0 12).modRoutes fun l => (l.filter fun r => !(r.origin == origin && r.link == u)) ++
        [⟨origin, u, lat + (s.frameIn u seq 0 12).get (KL_LST.HOP_LAT u), hops + 1⟩]).budgetCheck) ∧
  (∀ s u seq origin rseq hops lat, s.linkTakes u seq = true → (s.frameIn u seq 0 12).toMe origin = true →
    Ends (.routeFrame u seq origin rseq hops lat) s fun t => t = s.frameIn u seq 0 12) ∧
  (∀ s u seq origins, s.linkTakes u seq = true → Ends (.routeLoss u seq origins) s fun t =>
    t = ((((s.frameIn u seq 0 (2 * origins.length)).modRoutes fun l => l.filter fun r => !(r.link == u && origins.contains
      r.origin)).sendLoss u (origins.filter ((s.frameIn u seq 0 (2 * origins.length)).primaryBy u).contains)).budgetCheck)) ∧
  (∀ s, s.alive = true → s.kOn = true → Ends .routeFloodTimer s fun t => t = s.routeFlood) ∧
  (∀ s, s.alive = true → s.kOn = false → Ends .routeFloodTimer s fun t => t = s) ∧
  (∀ s origin u, s.alive = true → s.kOn = true → Ends (.routeEntryExpiry origin u) s fun t =>
    t = (s.modRoutes fun l => l.filter fun r => !(r.origin == origin && r.link == u)).budgetCheck) ∧
  (∀ s u seq die rid d, s.linkTakes u seq = true → (s.frameIn u seq 0 12).bestDie = some d → d < die →
    (s.frameIn u seq 0 12).kcl.root ≠ some die → Ends (.rootFrame u seq die rid) s fun t => t = s.frameIn u seq 0 12) ∧
  (∀ s u seq die rid d, s.linkTakes u seq = true → (s.frameIn u seq 0 12).bestDie = some d → d = die →
    (s.frameIn u seq 0 12).kcl.root = some die → Ends (.rootFrame u seq die rid) s fun t =>
      t = (s.frameIn u seq 0 12).set KL_ID.ROOT_ID rid) ∧
  (∀ s, s.alive = true → s.kOn = true → s.get KL_ID.ROOT ≠ 0 → Ends .rootAnnounceTimer s fun t => t = s.announce 0) ∧
  (∀ s, s.alive = true → s.kOn = true → s.bestDie = some s.dieId → s.get KL_ID.ROOT = 0 → s.get KL_CFG.ROOT_EN ≠ 0 →
    Ends .rootAnnounceTimer s fun t => t = s.becomeRoot.announce 0) ∧
  (∀ s d, s.alive = true → s.kOn = true → s.kcl.root = some d → s.get KL_CFG.ROOT_EN = 0 → Ends .rootLost s fun t =>
    t.kcl.root = none ∧ t.flds = s.flds ∧ t.cnts = s.cnts) ∧
  (∀ s u seq die want, s.linkTakes u seq = true → (s.frameIn u seq 0 16).get KL_ID.ROOT ≠ 0 →
    (s.frameIn u seq 0 16).idFreeFor want die = true → Ends (.idReq u seq die true want) s fun t =>
      t = ((s.frameIn u seq 0 16).holdId want die).mgmtOn u Mc.idGrant 0 0 [die, want]) ∧
  (∀ s u seq die want, s.linkTakes u seq = true → (s.frameIn u seq 0 16).get KL_ID.ROOT ≠ 0 →
    (s.frameIn u seq 0 16).idFor die = none → Ends (.idReq u seq die false want) s fun t =>
      t = (s.frameIn u seq 0 16).mgmtOn u Mc.idRefuse 0 0 [die, 1]) ∧
  (∀ s u seq id, s.linkTakes u seq = true → (s.frameIn u seq 0 12).numbered = false →
    Ends (.idGrant u seq (s.frameIn u seq 0 12).dieId id) s fun t => t = (s.frameIn u seq 0 12).takeId id) ∧
  (∀ s u seq dest die id, s.linkTakes u seq = true → (s.frameIn u seq 0 12).get KL_ID.ROOT ≠ 0 →
    (s.frameIn u seq 0 12).idFreeFor id die = true → Ends (.idClaim u seq dest die id) s fun t =>
      t = (s.frameIn u seq 0 12).holdId id die) ∧
  (∀ s u seq cause, s.linkTakes u seq = true → cause ≠ 2 →
    Ends (.idRefuse u seq (s.frameIn u seq 0 12).dieId cause) s fun t => t = (s.frameIn u seq 0 12).noId 2 cause) ∧
  (∀ s, s.alive = true → s.kOn = true → s.numbered = true → s.get KL_ID.ROOT ≠ 0 → Ends .idClaimTimer s fun t =>
    t = s.holdId (s.get KL_ID.ID) s.dieId) ∧
  (∀ s, s.alive = true → s.kOn = true → s.numbered = true → s.get KL_ID.ROOT = 0 → Ends .idClaimTimer s fun t =>
    t = s.kRoute (s.mgmtFrame Mc.idClaim (s.get KL_ID.ROOT_ID) 0 [s.dieId, s.get KL_ID.ID])) ∧
  (∀ s id, s.alive = true → s.kOn = true → s.get KL_ID.ROOT ≠ 0 → id ≠ s.get KL_ID.ID → Ends (.idFreeTimeout id) s fun t =>
    (Tbl.get t.kcl.ids {} id).held = false ∧ (Tbl.get t.kcl.ids {} id).die = (Tbl.get s.kcl.ids {} id).die ∧ t.flds = s.flds) ∧
  (∀ s, s.alive = true → s.kOn = true → s.get KL_ID.STATE = 2 → Ends .idReqRetry s fun t => t = s.askId) ∧
  (∀ s, s.alive = true → s.get KL_ID.STATE ≠ 2 → Ends .idReqRetry s fun t => t = s)

/-- Chapter 13 (R415 to R421): presentations of a remote port, their commands, answers and retries. -/
def Obligations.CascadePresentRows : Prop :=
  (∀ s u seq dest gchip port tr h l lat ss, s.linkTakes u seq = true → (s.frameIn u seq 0 8).toMe dest = true →
    (s.frameIn u seq 0 8).presCause gchip port tr h l lat = 0 → Ends (.presReq u seq dest gchip port tr h l ⟨lat, ss⟩) s fun t =>
      t = (s.frameIn u seq 0 8).presAccept gchip port tr h l lat ss) ∧
  (∀ s u seq dest gchip port tr h l lat ss, s.linkTakes u seq = true → (s.frameIn u seq 0 8).toMe dest = true →
    (s.frameIn u seq 0 8).presCause gchip port tr h l lat ≠ 0 → Ends (.presReq u seq dest gchip port tr h l ⟨lat, ss⟩) s fun t =>
      t = ((s.frameIn u seq 0 8).inc R.KL_PRES_REJ_CNT).presReply gchip opPresNak port
        ((s.frameIn u seq 0 8).presCause gchip port tr h l lat)) ∧
  (∀ s u seq dest n lat x, s.linkTakes u seq = true → (s.frameIn u seq 0 3).toMe dest = true →
    ((s.frameIn u seq 0 3).port n).presTo = some x → (s.frameIn u seq 0 3).get (KL_PRES.STATE n) = 1 →
    (s.frameIn u seq 0 3).reach x.1 = none → lat ≤ 8191 → ((s.frameIn u seq 0 3).port n).move = .none →
    Ends (.presAck u seq dest n lat) s fun t =>
      t.get (KL_PRES.LAT n) = lat ∧ (t.port n).presAck = true ∧ (t.port n).presLat = lat) ∧
  (∀ s u seq dest n cause x, s.linkTakes u seq = true → (s.frameIn u seq 0 3).toMe dest = true → n < 96 → cause < 16 →
    ((s.frameIn u seq 0 3).port n).presTo = some x → (s.frameIn u seq 0 3).get (KL_PRES.STATE n) = 1 →
    Ends (.presNak u seq dest n cause) s fun t =>
      t.get (KL_PRES.STATE n) = 4 ∧ t.get (KL_PRES.CAUSE n) = cause ∧ (t.port n).presAck = false) ∧
  (∀ s u seq dest gchip port i, s.linkTakes u seq = true → (s.frameIn u seq 0 3).toMe dest = true →
    (s.frameIn u seq 0 3).slotFor gchip port = some i → Ends (.presEnd u seq dest gchip port) s fun t =>
      t = (s.frameIn u seq 0 3).freeSlot i) ∧
  (∀ s u seq dest gchip port sp ss chg i, s.linkTakes u seq = true → (s.frameIn u seq 0 8).toMe dest = true →
    (s.frameIn u seq 0 8).slotFor gchip port = some i → Ends (.portSt u seq dest gchip port Ps.enabled sp ss chg false) s fun t =>
      (t.slot i).st = (Ps.enabled, sp, ss, chg) ∧ t.flds = s.flds) ∧
  (∀ s u seq dest n code val c r, s.linkTakes u seq = true → (s.frameIn u seq 0 4).toMe dest = true →
    (s.frameIn u seq 0 4).presenter n = some c → Req.ofCode code val = some r → code ≠ 8 →
    Ends (.portCmd u seq dest n code val) s fun t => t = ((s.frameIn u seq 0 4).portReq n r).portOp c [opPortRsp, n, 0]) ∧
  (∀ s u seq dest gchip port res i o, s.linkTakes u seq = true → (s.frameIn u seq 0 4).toMe dest = true →
    (s.frameIn u seq 0 4).slotFor gchip port = some i → (s.frameIn u seq 0 4).kcl.ops.find? (fun o => o.1 == i) = some o →
    Ends (.portRsp u seq dest gchip port res) s fun t =>
      t = ((s.frameIn u seq 0 4).modKcl fun k => { k with ops := k.ops.erase o }).emit (.ctl o.2 (decide (res ≠ 5)) [res])) ∧
  (∀ s u seq dest c tr ev, s.linkTakes u seq = true → (s.frameIn u seq 0 4).toMe dest = true → Ends (.treeEvt u seq dest c tr ev) s
    fun t => t = ((s.frameIn u seq 0 4).portsOfChip c tr).foldl (fun s n => s.treeEvtPort ev n) (s.frameIn u seq 0 4)) ∧
  (∀ s n, s.alive = true → s.get (KL_PRES.STATE n) = 1 → (s.port n).presAck = false → Ends (.presNoAnswer n) s fun t =>
    t.get (KL_PRES.STATE n) = 4 ∧ t.get (KL_PRES.CAUSE n) = 9 ∧ s.KeepsFlds t [KL_PRES.STATE n, KL_PRES.CAUSE n] ∧ t.cnts = s.cnts) ∧
  (∀ s n, s.alive = true → s.kOn = true → s.get (KL_PRES.STATE n) = 4 → Ends (.presReqRetry n) s fun t => t = s.presAsk n) ∧
  (∀ s i o, s.alive = true → s.kcl.ops.find? (fun o => o.1 == i) = some o → Ends (.portopTimeout i) s fun t =>
    t = (((s.modKcl fun k => { k with ops := k.ops.erase o }).emit (.ctl o.2 false [])).inc R.KL_PORTOP_TO_CNT))

/-- Chapter 13 (R416, R422 to R426): frame numbers, packets and proxied transactions across the cascade link. -/
def Obligations.CascadeDataRows : Prop :=
  (∀ s u seq dest c tr frame n, s.linkTakes u seq = true → (s.frameIn u seq 0 4).toMe dest = true →
    (s.frameIn u seq 0 4).portsOfChip c tr = [n] → Ends (.sofSync u seq dest c tr frame) s fun t =>
      (t.port n).frame = frame ∧ t.flds = s.flds) ∧
  (∀ s u seq dest c tr frame v, s.linkTakes u seq = true → (s.frameIn u seq 0 4).toMe dest = false →
    (s.frameIn u seq 0 4).linkFor dest (u + 1) = some v → Ends (.sofSync u seq dest c tr frame) s fun t =>
      t = (s.frameIn u seq 0 4).kSend v ⟨4, 0, dest, 4, [opSofSync, c, tr, frame]⟩) ∧
  (∀ s, s.alive = true → s.kOn = true → s.hostFacing = [] → Ends .sofSyncSend s fun t => t = s) ∧
  (∀ s u, s.alive = true → s.kOn = true → s.hostFacing = [u] → Ends .sofSyncSend s fun t =>
    t = (((s.slotsIn u).map fun i => (s.slot i).chip).eraseDups).foldl
      (fun s c => s.portOp c [opSofSync, s.get KL_ID.ID, u, (s.up u).frame]) s) ∧
  (∀ s u seq dest gchip port epn dirIn colour poison toHost addr pseq numP, s.linkTakes u seq = true →
    (s.frameIn u seq 2 16).toMe dest = false →
    Ends (.dataFrame u seq dest gchip port epn dirIn colour poison toHost 0 false addr 0 pseq numP) s fun t =>
      t = ((s.frameIn u seq 2 16).kTransit u dest
        { src := 100 + u, kind := 0, port := port, addr := addr, epn := epn, dirIn := dirIn, poison := poison, seq := pseq
          numP := numP, owner := gchip + 1, toHost := toHost }).gatesRefresh) ∧
  (∀ s u seq dest gchip port epn dirIn colour poison addr pseq numP, s.linkTakes u seq = true →
    (s.frameIn u seq 2 16).toMe dest = true →
    Ends (.dataFrame u seq dest gchip port epn dirIn colour poison false 0 false addr 0 pseq numP) s fun t =>
      t = ((s.frameIn u seq 2 16).toOwned u port
        { src := 100 + u, kind := 0, port := port, addr := addr, epn := epn, dirIn := dirIn, poison := poison, seq := pseq
          numP := numP, owner := gchip + 1 } pseq).gatesRefresh) ∧
  (∀ s u seq dest gchip port epn dirIn toHost kind pid res len colour poison s0 p, s.linkTakes u seq = true →
    s0 = s.frameIn u seq 2 (16 + len) → s0.toMe dest = true →
    p = ({ src := 100 + u, kind := 5, cls := 2, port := port, epn := epn, dirIn := dirIn, len := len, w := wordsOf len,
           written := wordsOf len, owner := gchip + 1, toHost := toHost, args := [kind, pid, res], colour := frameColour s0 u colour,
           poison := poison } : Packet) →
    Ends (.proxyFrame u seq dest gchip port epn dirIn toHost kind pid res ⟨len, colour, poison⟩) s fun t => t =
      (((s0.kMeter u (proxyExit s0 u gchip port epn dirIn toHost) p).1.kDrop u p).proxyArrive gchip port epn dirIn toHost kind pid
        (if poison then 6 else res) len).gatesRefresh) ∧
  (∀ s u seq dest gchip port epn len colour s0 s1 p, s.linkTakes u seq = true → s0 = s.frameIn u seq 1 (16 + len) →
    s0.toMe dest = true →
    p = ({ src := 100 + u, kind := 6, cls := 1, port := port, epn := epn, dirIn := false, len := len, w := wordsOf len,
           written := wordsOf len, owner := gchip + 1, toHost := false, args := [3, 0, 1], colour := frameColour s0 u colour,
           poison := false } : Packet) →
    s1 = ((s0.kMeter u (proxyExit s0 u gchip port epn false false) p).1.kDrop u p) →
    s1.dsHere port = true → (s1.presenter port).isSome = true →
    Ends (.isopfFrame u seq dest gchip port epn false false ⟨len, colour, false⟩) s fun t =>
      t = (s1.emit (.usb2 port .forward)).gatesRefresh) ∧
  (∀ s u addr epn pid len dirIn ack i, s.hostSide u = true → addr ≠ 0 →
    (s.up u).routes.find? (fun e => e.1 == addr) = some (addr, .remote i) → s.slotShown i = true → s.proxyIdx i epn 2 = none →
    Ends (.proxyHostToken u addr epn 0 pid len dirIn ack) s fun t => t = (s.proxyInToken u i addr epn ack).gatesRefresh) ∧
  (∀ s n epn len c, s.alive = true → (s.port n).prefetch.find? (fun e => e.1 == epn) = some (epn, c) → 8 ≤ c →
    Ends (.isoPrefetchPoll n epn len) s fun t =>
      (t.port n).prefetch = (s.port n).prefetch.filter (fun x => !(x.1 == epn)) ∧ t.flds = s.flds) ∧
  (∀ s n epn len c, s.alive = true → (s.port n).prefetch.find? (fun e => e.1 == epn) = some (epn, c) → c < 8 →
    Ends (.isoPrefetchPoll n epn len) s fun t => t = (((s.modPort n fun p =>
      { p with prefetch := p.prefetch.map fun x => if x.1 = epn then (epn, x.2 + 1) else x }).emit (.usb2 n .forward)).proxyResult n 3
        epn true 0 1 len).gatesRefresh) ∧
  (∀ s j, s.alive = true → j < s.kcl.proxies.length → Ends (.proxyEntryTimeout j) s fun t =>
    t.kcl.proxies = s.kcl.proxies.eraseIdx j ∧ t.flds = s.flds)

/-- R353, R354. A thread whose PC holds an ALU instruction completes it: the result of the two sources, or of a source and the immediate,
goes to rd and the PC moves to the next word. Shift amounts by register count modulo 32; comparisons give 1 or 0. -/
def Obligations.AluRows : Prop :=
  (∀ s t rd ra rb, s.fetches t (wR 0x01 rd ra rb 0) = true → Ends (.add t rd ra rb) s fun u =>
    u = s.result t rd (s.g t ra + s.g t rb)) ∧
  (∀ s t rd ra rb, s.fetches t (wR 0x02 rd ra rb 0) = true → Ends (.sub t rd ra rb) s fun u =>
    u = s.result t rd (s.g t ra - s.g t rb)) ∧
  (∀ s t rd ra rb, s.fetches t (wR 0x03 rd ra rb 0) = true → Ends (.and t rd ra rb) s fun u =>
    u = s.result t rd (s.g t ra &&& s.g t rb)) ∧
  (∀ s t rd ra rb, s.fetches t (wR 0x04 rd ra rb 0) = true → Ends (.or t rd ra rb) s fun u =>
    u = s.result t rd (s.g t ra ||| s.g t rb)) ∧
  (∀ s t rd ra rb, s.fetches t (wR 0x05 rd ra rb 0) = true → Ends (.xor t rd ra rb) s fun u =>
    u = s.result t rd (s.g t ra ^^^ s.g t rb)) ∧
  (∀ s t rd ra rb, s.fetches t (wR 0x08 rd ra rb 0) = true → Ends (.sll t rd ra rb) s fun u =>
    u = s.result t rd (s.g t ra <<< ((s.g t rb).toNat % 32))) ∧
  (∀ s t rd ra rb, s.fetches t (wR 0x09 rd ra rb 0) = true → Ends (.srl t rd ra rb) s fun u =>
    u = s.result t rd (s.g t ra >>> ((s.g t rb).toNat % 32))) ∧
  (∀ s t rd ra rb, s.fetches t (wR 0x0A rd ra rb 0) = true → Ends (.sra t rd ra rb) s fun u =>
    u = s.result t rd ((s.g t ra).sshiftRight ((s.g t rb).toNat % 32))) ∧
  (∀ s t rd ra sh, s.fetches t (wR 0x0C rd ra 0 sh) = true → Ends (.slli t rd ra sh) s fun u =>
    u = s.result t rd (s.g t ra <<< sh)) ∧
  (∀ s t rd ra sh, s.fetches t (wR 0x0D rd ra 0 sh) = true → Ends (.srli t rd ra sh) s fun u =>
    u = s.result t rd (s.g t ra >>> sh)) ∧
  (∀ s t rd ra sh, s.fetches t (wR 0x0E rd ra 0 sh) = true → Ends (.srai t rd ra sh) s fun u =>
    u = s.result t rd ((s.g t ra).sshiftRight sh)) ∧
  (∀ s t rd ra rb, s.fetches t (wR 0x10 rd ra rb 0) = true → Ends (.slt t rd ra rb) s fun u =>
    u = s.result t rd (if (s.g t ra).toInt < (s.g t rb).toInt then 1 else 0)) ∧
  (∀ s t rd ra rb, s.fetches t (wR 0x11 rd ra rb 0) = true → Ends (.sltu t rd ra rb) s fun u =>
    u = s.result t rd (if (s.g t ra).toNat < (s.g t rb).toNat then 1 else 0)) ∧
  (∀ s t rd ra rb, s.fetches t (wR 0x14 rd ra rb 0) = true → Ends (.mul t rd ra rb) s fun u =>
    u = s.result t rd (s.g t ra * s.g t rb)) ∧
  (∀ s t rd ra rb, s.fetches t (wR 0x15 rd ra rb 0) = true → Ends (.mulhu t rd ra rb) s fun u =>
    u = s.result t rd (BitVec.ofNat 32 ((s.g t ra).toNat * (s.g t rb).toNat / 2 ^ 32))) ∧
  (∀ s t rd ra sh w1, s.fetches t (wR 0x18 rd ra w1 sh) = true → Ends (.extu t rd ra sh w1) s fun u =>
    u = s.result t rd (BitVec.ofNat 32 ((s.g t ra).toNat / 2 ^ sh % 2 ^ (w1 + 1)))) ∧
  (∀ s t rd ra sh w1, s.fetches t (wR 0x19 rd ra w1 sh) = true → Ends (.ins t rd ra sh w1) s fun u =>
    u = s.result t rd (insW (s.g t rd) (s.g t ra) sh w1)) ∧
  (∀ s t rd ra, s.fetches t (wR 0x1C rd ra 0 0) = true → Ends (.clz t rd ra) s fun u => u = s.result t rd (clzW (s.g t ra))) ∧
  (∀ s t rd ra imm, s.fetches t (wI 0x01 rd ra imm) = true → Ends (.addi t rd ra imm) s fun u =>
    u = s.result t rd (s.g t ra + sext16 imm)) ∧
  (∀ s t rd ra imm, s.fetches t (wI 0x02 rd ra imm) = true → Ends (.andi t rd ra imm) s fun u =>
    u = s.result t rd (s.g t ra &&& zext16 imm)) ∧
  (∀ s t rd ra imm, s.fetches t (wI 0x03 rd ra imm) = true → Ends (.ori t rd ra imm) s fun u =>
    u = s.result t rd (s.g t ra ||| zext16 imm)) ∧
  (∀ s t rd ra imm, s.fetches t (wI 0x04 rd ra imm) = true → Ends (.xori t rd ra imm) s fun u =>
    u = s.result t rd (s.g t ra ^^^ zext16 imm)) ∧
  (∀ s t rd ra imm, s.fetches t (wI 0x05 rd ra imm) = true → Ends (.slti t rd ra imm) s fun u =>
    u = s.result t rd (if (s.g t ra).toInt < (sext16 imm).toInt then 1 else 0)) ∧
  (∀ s t rd ra imm, s.fetches t (wI 0x06 rd ra imm) = true → Ends (.sltiu t rd ra imm) s fun u =>
    u = s.result t rd (if (s.g t ra).toNat < (sext16 imm).toNat then 1 else 0)) ∧
  (∀ s t rd imm, s.fetches t (wI 0x07 rd 0 imm) = true → Ends (.lui t rd imm) s fun u =>
    u = s.result t rd (BitVec.ofNat 32 (imm * 65536)))

/-- R355 to R357. Loads from shared data memory and local memory; LWP loads a pair and takes an even register; a misaligned access and
one outside the map raise their exceptions. -/
def Obligations.LoadRows : Prop :=
  (∀ s t rt ra off, s.fetches t (wI 0x10 rt ra off) = true → s.dataOk t (s.mAddr t ra off) 1 = true →
    Ends (.lb t rt ra off) s fun u => u = s.result t rt (sext8 (bytesAt s.tk.dmem (s.mAddr t ra off - 0x10000000) 1))) ∧
  (∀ s t rt ra off, s.fetches t (wI 0x10 rt ra off) = true → s.locOk t (s.mAddr t ra off) 1 = true →
    Ends (.lb t rt ra off) s fun u => u = s.result t rt (sext8 (bytesAt (s.thread t).loc (s.mAddr t ra off - 0x20000000) 1))) ∧
  (∀ s t rt ra off, s.fetches t (wI 0x11 rt ra off) = true → s.dataOk t (s.mAddr t ra off) 1 = true →
    Ends (.lbu t rt ra off) s fun u => u = s.result t rt (w32 (bytesAt s.tk.dmem (s.mAddr t ra off - 0x10000000) 1))) ∧
  (∀ s t rt ra off, s.fetches t (wI 0x11 rt ra off) = true → s.locOk t (s.mAddr t ra off) 1 = true →
    Ends (.lbu t rt ra off) s fun u => u = s.result t rt (w32 (bytesAt (s.thread t).loc (s.mAddr t ra off - 0x20000000) 1))) ∧
  (∀ s t rt ra off, s.fetches t (wI 0x12 rt ra off) = true → s.dataOk t (s.mAddr t ra off) 2 = true →
    Ends (.lh t rt ra off) s fun u => u = s.result t rt (sext16 (bytesAt s.tk.dmem (s.mAddr t ra off - 0x10000000) 2))) ∧
  (∀ s t rt ra off, s.fetches t (wI 0x12 rt ra off) = true → s.locOk t (s.mAddr t ra off) 2 = true →
    Ends (.lh t rt ra off) s fun u => u = s.result t rt (sext16 (bytesAt (s.thread t).loc (s.mAddr t ra off - 0x20000000) 2))) ∧
  (∀ s t rt ra off, s.fetches t (wI 0x13 rt ra off) = true → s.dataOk t (s.mAddr t ra off) 2 = true →
    Ends (.lhu t rt ra off) s fun u => u = s.result t rt (w32 (bytesAt s.tk.dmem (s.mAddr t ra off - 0x10000000) 2))) ∧
  (∀ s t rt ra off, s.fetches t (wI 0x13 rt ra off) = true → s.locOk t (s.mAddr t ra off) 2 = true →
    Ends (.lhu t rt ra off) s fun u => u = s.result t rt (w32 (bytesAt (s.thread t).loc (s.mAddr t ra off - 0x20000000) 2))) ∧
  (∀ s t rt ra off, s.fetches t (wI 0x14 rt ra off) = true → s.dataOk t (s.mAddr t ra off) 4 = true →
    Ends (.lw t rt ra off) s fun u => u = s.result t rt (w32 (bytesAt s.tk.dmem (s.mAddr t ra off - 0x10000000) 4))) ∧
  (∀ s t rt ra off, s.fetches t (wI 0x14 rt ra off) = true → s.locOk t (s.mAddr t ra off) 4 = true →
    Ends (.lw t rt ra off) s fun u => u = s.result t rt (w32 (bytesAt (s.thread t).loc (s.mAddr t ra off - 0x20000000) 4))) ∧
  (∀ s t rt ra off, s.fetches t (wI 0x15 rt ra off) = true → rt % 2 = 0 → s.dataOk t (s.mAddr t ra off) 8 = true →
    Ends (.lwp t rt ra off) s fun u => u = (s.setG t rt (w32 (bytesAt s.tk.dmem (s.mAddr t ra off - 0x10000000) 8))).result t (rt + 1)
      (w32 (bytesAt s.tk.dmem (s.mAddr t ra off - 0x10000000) 8 / 2 ^ 32))) ∧
  (∀ s t rt ra off, s.fetches t (wI 0x15 rt ra off) = true → rt % 2 = 1 → Ends (.lwp t rt ra off) s fun u =>
    u = s.exception t Ex.illegal (s.thread t).pc 0) ∧
  (∀ s t rt ra off, s.fetches t (wI 0x14 rt ra off) = true → regionAt (s.mAddr t ra off) 4 = .loc → s.mAddr t ra off % 4 ≠ 0 →
    Ends (.lw t rt ra off) s fun u => u = s.exception t Ex.dalign (s.thread t).pc (s.mAddr t ra off)) ∧
  (∀ s t rt ra off, s.fetches t (wI 0x14 rt ra off) = true → regionAt (s.mAddr t ra off) 4 = .none → (s.thread t).priv = true →
    Ends (.lw t rt ra off) s fun u => u = s.exception t Ex.daccess (s.thread t).pc (s.mAddr t ra off)) ∧
  (∀ s t rt ra off, s.fetches t (wI 0x14 rt ra off) = true → regionAt (s.mAddr t ra off) 4 = .imem → s.mAddr t ra off % 4 = 0 →
    (s.thread t).priv = true → s.injMatches 14 0 = false → s.injMatches 13 0 = false → Ends (.lw t rt ra off) s fun u =>
      u = (s.stallT t).result t rt (w32 (bytesAt s.tk.imem (s.mAddr t ra off) 4))) ∧
  (∀ s t rt ra off, s.fetches t (wI 0x14 rt ra off) = true → regionAt (s.mAddr t ra off) 4 = .regs →
    Ends (.lw t rt ra off) s fun u => u = s.regAccess t (s.mAddr t ra off)
      (fun v => v.read32 (v.tMaster t) (s.mAddr t ra off - 0x40000000)) fun v => v.result t rt (w32 v.fab.data)) ∧
  (∀ s t rt ra off, s.fetches t (wI 0x14 rt ra off) = true → (s.thread t).priv = false → s.mAddr t ra off < 0x50000 →
    Ends (.lw t rt ra off) s fun u => u = s.exception t Ex.priv (s.thread t).pc (s.mAddr t ra off))

/-- R355, R356. Stores to shared data memory and local memory write exactly the low bytes of gs; a store to instruction ROM raises DACCESS. -/
def Obligations.StoreRows : Prop :=
  (∀ s t rt ra off, s.fetches t (wI 0x18 rt ra off) = true → s.dataOk t (s.mAddr t ra off) 1 = true →
    Ends (.sb t rt ra off) s fun u => u = (s.putBytes t (s.mAddr t ra off) (valBytes (s.g t rt).toNat 1)).nextPc t) ∧
  (∀ s t rt ra off, s.fetches t (wI 0x18 rt ra off) = true → regionAt (s.mAddr t ra off) 1 = .loc → s.mAddr t ra off % 1 = 0 →
    Ends (.sb t rt ra off) s fun u => u = (s.putBytes t (s.mAddr t ra off) (valBytes (s.g t rt).toNat 1)).nextPc t) ∧
  (∀ s t rt ra off, s.fetches t (wI 0x19 rt ra off) = true → s.dataOk t (s.mAddr t ra off) 2 = true →
    Ends (.sh t rt ra off) s fun u => u = (s.putBytes t (s.mAddr t ra off) (valBytes (s.g t rt).toNat 2)).nextPc t) ∧
  (∀ s t rt ra off, s.fetches t (wI 0x19 rt ra off) = true → regionAt (s.mAddr t ra off) 2 = .loc → s.mAddr t ra off % 2 = 0 →
    Ends (.sh t rt ra off) s fun u => u = (s.putBytes t (s.mAddr t ra off) (valBytes (s.g t rt).toNat 2)).nextPc t) ∧
  (∀ s t rt ra off, s.fetches t (wI 0x1A rt ra off) = true → s.dataOk t (s.mAddr t ra off) 4 = true →
    Ends (.sw t rt ra off) s fun u => u = (s.putBytes t (s.mAddr t ra off) (valBytes (s.g t rt).toNat 4)).nextPc t) ∧
  (∀ s t rt ra off, s.fetches t (wI 0x1A rt ra off) = true → regionAt (s.mAddr t ra off) 4 = .loc → s.mAddr t ra off % 4 = 0 →
    Ends (.sw t rt ra off) s fun u => u = (s.putBytes t (s.mAddr t ra off) (valBytes (s.g t rt).toNat 4)).nextPc t) ∧
  (∀ s t rt ra off, s.fetches t (wI 0x1A rt ra off) = true → regionAt (s.mAddr t ra off) 4 = .rom →
    Ends (.sw t rt ra off) s fun u => u = s.exception t Ex.daccess (s.thread t).pc (s.mAddr t ra off))

/-- R350, R358. Branches go to PC + 4 + 4 × off where their condition holds and on to the next word where it does not; jumps write the
link after the target is formed; a word that encodes no instruction raises ILLEGAL. -/
def Obligations.BranchRows : Prop :=
  (∀ s t ra rb off, s.fetches t (wI 0x20 ra rb off) = true → s.g t ra = s.g t rb → Ends (.beq t ra rb off) s fun u =>
    u = s.modThread t fun h => { h with pc := h.pc + 4 + 4 * sext16 off }) ∧
  (∀ s t ra rb off, s.fetches t (wI 0x20 ra rb off) = true → ¬ (s.g t ra = s.g t rb) → Ends (.beq t ra rb off) s fun u =>
    u = s.nextPc t) ∧
  (∀ s t ra rb off, s.fetches t (wI 0x21 ra rb off) = true → s.g t ra ≠ s.g t rb → Ends (.bne t ra rb off) s fun u =>
    u = s.modThread t fun h => { h with pc := h.pc + 4 + 4 * sext16 off }) ∧
  (∀ s t ra rb off, s.fetches t (wI 0x21 ra rb off) = true → ¬ (s.g t ra ≠ s.g t rb) → Ends (.bne t ra rb off) s fun u =>
    u = s.nextPc t) ∧
  (∀ s t ra rb off, s.fetches t (wI 0x22 ra rb off) = true → (s.g t ra).toInt < (s.g t rb).toInt → Ends (.blt t ra rb off) s fun u =>
    u = s.modThread t fun h => { h with pc := h.pc + 4 + 4 * sext16 off }) ∧
  (∀ s t ra rb off, s.fetches t (wI 0x22 ra rb off) = true → ¬ ((s.g t ra).toInt < (s.g t rb).toInt) → Ends (.blt t ra rb off) s fun u =>
    u = s.nextPc t) ∧
  (∀ s t ra rb off, s.fetches t (wI 0x23 ra rb off) = true → (s.g t rb).toInt ≤ (s.g t ra).toInt → Ends (.bge t ra rb off) s fun u =>
    u = s.modThread t fun h => { h with pc := h.pc + 4 + 4 * sext16 off }) ∧
  (∀ s t ra rb off, s.fetches t (wI 0x23 ra rb off) = true → ¬ ((s.g t rb).toInt ≤ (s.g t ra).toInt) → Ends (.bge t ra rb off) s fun u =>
    u = s.nextPc t) ∧
  (∀ s t ra rb off, s.fetches t (wI 0x24 ra rb off) = true → (s.g t ra).toNat < (s.g t rb).toNat → Ends (.bltu t ra rb off) s fun u =>
    u = s.modThread t fun h => { h with pc := h.pc + 4 + 4 * sext16 off }) ∧
  (∀ s t ra rb off, s.fetches t (wI 0x24 ra rb off) = true → ¬ ((s.g t ra).toNat < (s.g t rb).toNat) → Ends (.bltu t ra rb off) s fun u =>
    u = s.nextPc t) ∧
  (∀ s t ra rb off, s.fetches t (wI 0x25 ra rb off) = true → (s.g t rb).toNat ≤ (s.g t ra).toNat → Ends (.bgeu t ra rb off) s fun u =>
    u = s.modThread t fun h => { h with pc := h.pc + 4 + 4 * sext16 off }) ∧
  (∀ s t ra rb off, s.fetches t (wI 0x25 ra rb off) = true → ¬ ((s.g t rb).toNat ≤ (s.g t ra).toNat) → Ends (.bgeu t ra rb off) s fun u =>
    u = s.nextPc t) ∧
  (∀ s t rd off, s.fetches t (wJ 0x28 rd off) = true → Ends (.jal t rd off) s fun u =>
    u = (s.setG t rd ((s.thread t).pc + 4)).modThread t fun h => { h with pc := (s.thread t).pc + 4 + 4 * sext21 off }) ∧
  (∀ s t rd ra imm, s.fetches t (wI 0x08 rd ra imm) = true → Ends (.jalr t rd ra imm) s fun u =>
    u = (s.setG t rd ((s.thread t).pc + 4)).modThread t fun h => { h with pc := s.g t ra + sext16 imm }) ∧
  (∀ s t w, s.fetches t w = true → legalWord w = false → Ends (.illegalEncoding t w) s fun u =>
    u = s.exception t Ex.illegal (s.thread t).pc 0)

/-- R330 to R338, R359 to R363. A primitive of a privileged thread answers its result in rd, and the thread stays in STALL until the
operation completes; AADD and CAS act on one word of memory; EPOST posts the event or refuses it. -/
def Obligations.PrimitiveRows : Prop :=
  (∀ s t rd ra rb rc p, s.fetches t (wP 0x01 rd ra rb rc) = true → p = ((s.stallT t).primPrd t rd (s.g t ra).toNat (s.g t rb).toNat rc) →
    Ends (.prd t rd ra rb rc) s fun u => u = if p.1.stalled t then p.1.result t rd (w32 p.2) else p.1) ∧
  (∀ s t rd ra rb rc p, s.fetches t (wP 0x02 rd ra rb rc) = true → p = ((s.stallT t).primPwr t (s.g t ra).toNat (s.g t rb).toNat (s.g t rc).toNat (2 ^ 32 - 1)) →
    Ends (.pwr t rd ra rb rc) s fun u => u = if p.1.stalled t then p.1.result t rd (w32 p.2) else p.1) ∧
  (∀ s t rd ra rb rc p, s.fetches t (wP 0x03 rd ra rb rc) = true → p = ((s.stallT t).primPwr t (s.g t ra).toNat (s.g t rb).toNat (s.g t rc).toNat (s.g t rd).toNat) →
    Ends (.pwrm t rd ra rb rc) s fun u => u = if p.1.stalled t then p.1.result t rd (w32 p.2) else p.1) ∧
  (∀ s t rd ra rb p, s.fetches t (wP 0x08 rd ra rb 0) = true → (s.thread t).priv = true → p = ((s.stallT t).primPsnd t (s.g t ra).toNat (s.g t rb).toNat) →
    Ends (.psnd t rd ra rb) s fun u => u = if p.1.stalled t then p.1.result t rd (w32 p.2) else p.1) ∧
  (∀ s t rd ra rb p, s.fetches t (wP 0x09 rd ra rb 0) = true → (s.thread t).priv = true → p = ((s.stallT t).primPrcv t (s.g t ra).toNat (s.g t rb).toNat) →
    Ends (.prcv t rd ra rb) s fun u => u = if p.1.stalled t then p.1.result t rd (w32 p.2) else p.1) ∧
  (∀ s t rd ra rb p, s.fetches t (wP 0x10 rd ra rb 0) = true → (s.thread t).priv = true → p = ((s.stallT t).primCredit (s.g t ra).toNat fun x => x.take (s.g t ra).toNat (s.g t rb).toNat) →
    Ends (.take t rd ra rb) s fun u => u = if p.1.stalled t then p.1.result t rd (w32 p.2) else p.1) ∧
  (∀ s t rd ra rb p, s.fetches t (wP 0x11 rd ra rb 0) = true → (s.thread t).priv = true → p = ((s.stallT t).primCredit (s.g t ra).toNat fun x => x.takeQ (s.g t ra).toNat (s.g t rb).toNat) →
    Ends (.takeq t rd ra rb) s fun u => u = if p.1.stalled t then p.1.result t rd (w32 p.2) else p.1) ∧
  (∀ s t rd ra rb p, s.fetches t (wP 0x12 rd ra rb 0) = true → (s.thread t).priv = true → p = ((s.stallT t).primCredit (s.g t ra).toNat fun x => x.give (s.g t ra).toNat (s.g t rb).toNat) →
    Ends (.give t rd ra rb) s fun u => u = if p.1.stalled t then p.1.result t rd (w32 p.2) else p.1) ∧
  (∀ s t rd ra p, s.fetches t (wP 0x13 rd ra 0 0) = true → (s.thread t).priv = true → p = ((s.stallT t).primCredit (s.g t ra).toNat fun x => x.cancel (s.g t ra).toNat) →
    Ends (.cancel t rd ra) s fun u => u = if p.1.stalled t then p.1.result t rd (w32 p.2) else p.1) ∧
  (∀ s t rd ra p, s.fetches t (wP 0x20 rd ra 0 0) = true → (s.thread t).priv = true → p = ((s.stallT t).primQflush t (s.g t ra).toNat) →
    Ends (.qflush t rd ra) s fun u => u = if p.1.stalled t then p.1.result t rd (w32 p.2) else p.1) ∧
  (∀ s t rd ra rb rc p, s.fetches t (wP 0x21 rd ra rb rc) = true → (s.thread t).priv = true → p = ((s.stallT t).primQget t rd (s.g t ra).toNat (s.g t rb).toNat rc) →
    Ends (.qget t rd ra rb rc) s fun u => u = if p.1.stalled t then p.1.result t rd (w32 p.2) else p.1) ∧
  (∀ s t rd ra rb rc p, s.fetches t (wP 0x22 rd ra rb rc) = true → (s.thread t).priv = true → p = ((s.stallT t).primQput t (s.g t ra).toNat (s.g t rb).toNat (s.g t rc).toNat) →
    Ends (.qput t rd ra rb rc) s fun u => u = if p.1.stalled t then p.1.result t rd (w32 p.2) else p.1) ∧
  (∀ s t rd ra rb p, s.fetches t (wP 0x28 rd ra rb 0) = true → (s.thread t).priv = true → p = ((s.stallT t).primRget t (s.g t ra).toNat (s.g t rb).toNat) →
    Ends (.rget t rd ra rb) s fun u => u = if p.1.stalled t then p.1.result t rd (w32 p.2) else p.1) ∧
  (∀ s t rd ra rb rc p, s.fetches t (wP 0x29 rd ra rb rc) = true → (s.thread t).priv = true → p = ((s.stallT t).primRdone t (s.g t ra).toNat (s.g t rb).toNat (s.g t rc).toNat) →
    Ends (.rdone t rd ra rb rc) s fun u => u = if p.1.stalled t then p.1.result t rd (w32 p.2) else p.1) ∧
  (∀ s t rd ra rb, s.fetches t (wP 0x18 rd ra rb 0) = true → s.dataOk t (s.g t ra).toNat 4 = true → Ends (.aadd t rd ra rb) s fun u =>
    ∃ old : Word, old = w32 (((List.range 4).map fun i => ((s.getBytes t (s.g t ra).toNat 4).getD i 0).toNat * 256 ^ i).sum) ∧
      u = (((s.stallT t).putBytes t (s.g t ra).toNat (valBytes (old + s.g t rb).toNat 4)).setG t rd old).nextPc t) ∧
  (∀ s t rd ra rb, s.fetches t (wP 0x18 rd ra rb 0) = true → s.locOk t (s.g t ra).toNat 4 = true → Ends (.aadd t rd ra rb) s fun u =>
    ∃ old : Word, old = w32 (((List.range 4).map fun i => ((s.getBytes t (s.g t ra).toNat 4).getD i 0).toNat * 256 ^ i).sum) ∧
      u = (((s.stallT t).putBytes t (s.g t ra).toNat (valBytes (old + s.g t rb).toNat 4)).setG t rd old).nextPc t) ∧
  (∀ s t rd ra rb rc, s.fetches t (wP 0x19 rd ra rb rc) = true → s.dataOk t (s.g t ra).toNat 4 = true → Ends (.cas t rd ra rb rc) s fun u =>
    ∃ old : Word, old = w32 (((List.range 4).map fun i => ((s.getBytes t (s.g t ra).toNat 4).getD i 0).toNat * 256 ^ i).sum) ∧
      u = (((s.stallT t).putBytes t (s.g t ra).toNat (valBytes (if old = s.g t rb then s.g t rc else old).toNat 4)).setG t rd
        old).nextPc t) ∧
  (∀ s t rd ra rb rc, s.fetches t (wP 0x19 rd ra rb rc) = true → s.locOk t (s.g t ra).toNat 4 = true → Ends (.cas t rd ra rb rc) s fun u =>
    ∃ old : Word, old = w32 (((List.range 4).map fun i => ((s.getBytes t (s.g t ra).toNat 4).getD i 0).toNat * 256 ^ i).sum) ∧
      u = (((s.stallT t).putBytes t (s.g t ra).toNat (valBytes (if old = s.g t rb then s.g t rc else old).toNat 4)).setG t rd
        old).nextPc t) ∧
  (∀ s t rd ra rb, s.fetches t (wP 0x1C rd ra rb 0) = true → 4 ≤ (s.g t rb).toNat → (s.g t rb).toNat ≤ 255 → (s.g t ra).toNat ≤ 63 →
    (s.thread t).priv = true → Ends (.epost t rd ra rb) s fun u => u = (s.post (s.g t ra).toNat (s.g t rb).toNat).result t rd 0) ∧
  (∀ s t rd ra rb, s.fetches t (wP 0x1C rd ra rb 0) = true → (s.g t rb).toNat < 4 → Ends (.epost t rd ra rb) s fun u =>
    u = (s.inc (R.TK_PRIM_REJ_CNT t)).result t rd 2)

/-- R330. In user mode each of the system primitives raises PRIV and has no effect of its own. -/
def Obligations.PrivilegedPrimitives : Prop :=
  (∀ s t rd ra rb, s.fetches t (wP 0x08 rd ra rb 0) = true → (s.thread t).priv = false →
    Ends (.psnd t rd ra rb) s fun u => u = s.exception t Ex.priv (s.thread t).pc 0) ∧
  (∀ s t rd ra rb, s.fetches t (wP 0x09 rd ra rb 0) = true → (s.thread t).priv = false →
    Ends (.prcv t rd ra rb) s fun u => u = s.exception t Ex.priv (s.thread t).pc 0) ∧
  (∀ s t rd ra rb, s.fetches t (wP 0x10 rd ra rb 0) = true → (s.thread t).priv = false →
    Ends (.take t rd ra rb) s fun u => u = s.exception t Ex.priv (s.thread t).pc 0) ∧
  (∀ s t rd ra rb, s.fetches t (wP 0x11 rd ra rb 0) = true → (s.thread t).priv = false →
    Ends (.takeq t rd ra rb) s fun u => u = s.exception t Ex.priv (s.thread t).pc 0) ∧
  (∀ s t rd ra rb, s.fetches t (wP 0x12 rd ra rb 0) = true → (s.thread t).priv = false →
    Ends (.give t rd ra rb) s fun u => u = s.exception t Ex.priv (s.thread t).pc 0) ∧
  (∀ s t rd ra, s.fetches t (wP 0x13 rd ra 0 0) = true → (s.thread t).priv = false →
    Ends (.cancel t rd ra) s fun u => u = s.exception t Ex.priv (s.thread t).pc 0) ∧
  (∀ s t rd ra, s.fetches t (wP 0x20 rd ra 0 0) = true → (s.thread t).priv = false →
    Ends (.qflush t rd ra) s fun u => u = s.exception t Ex.priv (s.thread t).pc 0) ∧
  (∀ s t rd ra rb rc, s.fetches t (wP 0x21 rd ra rb rc) = true → (s.thread t).priv = false →
    Ends (.qget t rd ra rb rc) s fun u => u = s.exception t Ex.priv (s.thread t).pc 0) ∧
  (∀ s t rd ra rb rc, s.fetches t (wP 0x22 rd ra rb rc) = true → (s.thread t).priv = false →
    Ends (.qput t rd ra rb rc) s fun u => u = s.exception t Ex.priv (s.thread t).pc 0) ∧
  (∀ s t rd ra rb, s.fetches t (wP 0x28 rd ra rb 0) = true → (s.thread t).priv = false →
    Ends (.rget t rd ra rb) s fun u => u = s.exception t Ex.priv (s.thread t).pc 0) ∧
  (∀ s t rd ra rb rc, s.fetches t (wP 0x29 rd ra rb rc) = true → (s.thread t).priv = false →
    Ends (.rdone t rd ra rb rc) s fun u => u = s.exception t Ex.priv (s.thread t).pc 0)

/-- R323, R324, R329, R342, R364, R365. Events, timers, TRAP, ERET and TID: what each does to its own thread, and the privileged forms. -/
def Obligations.EventRows : Prop :=
  (∀ s t rd e, s.fetches t (wE 0x01 rd 0 0) = true → s.nextEvent t = some e → Ends (.wait t rd) s fun u => u = s.waitTake t rd) ∧
  (∀ s t rd, s.fetches t (wE 0x01 rd 0 0) = true → s.nextEvent t = none → Ends (.wait t rd) s fun u =>
    (u.thread t).state = .wait ∧ (u.thread t).waitRd = rd ∧ (u.thread t).pc = (s.thread t).pc ∧ u.flds = s.flds ∧ u.cnts = s.cnts) ∧
  (∀ s t, s.alive = true → (s.thread t).state = .wait → Ends (.waitWake t) s fun u => u = s.waitTake t (s.thread t).waitRd) ∧
  (∀ s t rd e, s.fetches t (wE 0x02 rd 0 0) = true → s.nextEvent t = some e → Ends (.etest t rd) s fun u =>
    u = (s.takeEvent t e).result t rd (w32 e)) ∧
  (∀ s t rd, s.fetches t (wE 0x02 rd 0 0) = true → s.nextEvent t = none → Ends (.etest t rd) s fun u => u = s.result t rd 0xFFFFFFFF) ∧
  (∀ s t i ra, s.fetches t (wE 0x04 0 ra i) = true → Ends (.evs t i ra) s fun u =>
    (u.thread t).eve = (s.thread t).eve ||| maskAt (s.g t ra) i ∧ (u.thread t).pc = (s.thread t).pc + 4 ∧ u.flds = s.flds) ∧
  (∀ s t i ra, s.fetches t (wE 0x05 0 ra i) = true → Ends (.evc t i ra) s fun u =>
    (u.thread t).eve = (s.thread t).eve &&& ~~~(maskAt (s.g t ra) i) ∧ (u.thread t).pc = (s.thread t).pc + 4 ∧ u.flds = s.flds) ∧
  (∀ s t rd i, s.fetches t (wE 0x06 rd 0 i) = true → Ends (.evr t rd i) s fun u =>
    u = s.result t rd (((s.thread t).eve >>> (32 * i)).setWidth 32)) ∧
  (∀ s t rd i, s.fetches t (wE 0x07 rd 0 i) = true → Ends (.evpr t rd i) s fun u =>
    u = s.result t rd (((s.thread t).evp >>> (32 * i)).setWidth 32)) ∧
  (∀ s t j p ra, s.fetches t (wE 0x08 0 ra (j + 4 * p.toNat)) = true → s.g t ra ≠ 0 → Ends (.tset t j p ra) s fun u =>
    (u.timer t j).on = true ∧ (u.timer t j).due = (s.tb + 479) / 480 + (s.g t ra).toNat ∧
    (u.timer t j).reload = (if p then (s.g t ra).toNat else 0) ∧ (u.thread t).pc = (s.thread t).pc + 4 ∧ u.flds = s.flds) ∧
  (∀ s t j p ra, s.fetches t (wE 0x08 0 ra (j + 4 * p.toNat)) = true → s.g t ra = 0 → Ends (.tset t j p ra) s fun u =>
    (u.timer t j).on = false ∧ (u.thread t).pc = (s.thread t).pc + 4) ∧
  (∀ s t rd j, s.fetches t (wE 0x09 rd 0 j) = true → Ends (.trd t rd j) s fun u =>
    u = s.result t rd (w32 (if (s.timer t j).on then (s.timer t j).due - s.timeUs else 0))) ∧
  (∀ s t code, s.fetches t (wE 0x10 0 0 code) = true → Ends (.trap t code) s fun u => u = s.trap t code) ∧
  (∀ s t, s.fetches t (wE 0x11 0 0 0) = true → (s.thread t).priv = true → (s.thread t).exc = true → Ends (.eret t) s fun u =>
    u = s.eretT t) ∧
  (∀ s t, s.fetches t (wE 0x11 0 0 0) = true → (s.thread t).exc = false → Ends (.eret t) s fun u =>
    u = s.exception t Ex.illegal (s.thread t).pc 0) ∧
  (∀ s t rd, s.fetches t (wE 0x12 rd 0 0) = true → Ends (.tid t rd) s fun u =>
    u = s.result t rd (w32 (t + (s.thread t).priv.toNat * 2 ^ 31)))

/-- R313 to R315, R336, R338. The thread commands START, HALT, RESUME and STOP, the end of an operation, timers that expire, and the mailboxes of host requests. -/
def Obligations.ThreadCommandRows : Prop :=
  (∀ s t, s.alive = true → (s.thread t).state = .off → s.mode ≠ .safe → Ends (.start t) s fun u =>
    (u.thread t).state = .run ∧ (u.thread t).gpr = [] ∧ (u.thread t).evp = 0 ∧ (u.thread t).eve = 0 ∧ (u.thread t).timers = [] ∧
    (u.thread t).priv = decide (s.get (TK_TCFG.START_PRIV t) ≠ 0) ∧ (u.thread t).pc = w32 (4 * s.get (TK_TPC.PC t)) ∧
    u.get (TK_TCTL.RESULT t) = 0 ∧ s.KeepsFlds u [TK_TCTL.RESULT t]) ∧
  (∀ s t, s.alive = true → (s.thread t).state ≠ .off → Ends (.start t) s fun u => u = s.tRefuse t ∧ u.fab.rc = .wrongState) ∧
  (∀ s t, s.alive = true → (s.thread t).state = .run ∨ (s.thread t).state = .wait ∨ (s.thread t).state = .stall →
    Ends (.halt t) s fun u => u = (s.haltThread t).tDone t) ∧
  (∀ s t, s.alive = true → (s.thread t).state = .off → Ends (.halt t) s fun u => u = s.tRefuse t) ∧
  (∀ s t, s.alive = true → (s.thread t).state = .halt → s.mode ≠ .safe → Ends (.resume t) s fun u =>
    (u.thread t).state = .run ∧ (u.thread t).pc = (s.thread t).pc ∧ u.get (TK_TCTL.RESULT t) = 0 ∧ s.KeepsFlds u [TK_TCTL.RESULT t]) ∧
  (∀ s t, s.alive = true → (s.thread t).state = .run → Ends (.stop t) s fun u => u = (s.threadOff t).tDone t) ∧
  (∀ s t, s.alive = true → (s.thread t).state = .stall → Ends (.stop t) s fun u =>
    (u.thread t).after = .stop ∧ (u.thread t).state = .stall ∧ u.get (TK_TCTL.RESULT t) = 0) ∧
  (∀ s t, s.alive = true → (s.thread t).state = .stall → s.putWaits t = false → (s.thread t).after = .continue →
    Ends (.operationComplete t) s fun u => (u.thread t).state = .run ∧ u.flds = s.flds ∧ u.cnts = s.cnts) ∧
  (∀ s t, s.alive = true → (s.thread t).state = .stall → s.putWaits t = false → (s.thread t).after = .stop →
    Ends (.operationComplete t) s fun u => u = s.threadOff t) ∧
  (∀ s t j, s.alive = true → (s.timer t j).on = true → (s.timer t j).due ≤ s.timeUs → (s.timer t j).reload = 0 → (s.thread t).state = .run →
    Ends (.threadTimerExpiry t j) s fun u => u = (s.modThread t fun h => { h with timers := Tbl.set h.timers {} j {} }).post t j) ∧
  (∀ s t j, s.alive = true → (s.timer t j).on = false → Ends (.threadTimerExpiry t j) s fun u => u = s) ∧
  (∀ s u target w1 w2 data, s.hostSide u = true → s.targetHere u target = true → w1 / 32 % 4 ≠ 2 → data.length ≤ 52 →
    (∀ m ∈ s.mbox u, m.kind ≠ 0) → Ends (.hostRequestEntry u target false w1 w2 data) s fun t =>
      t = ((s.mboxAdd u 0 target (leBytes w1 ++ leBytes w2 ++ data)).snoop u target false w1 w2).postRouted (4 + u)) ∧
  (∀ s u target w1 w2 data, s.hostSide u = true → s.targetHere u target = true → w1 / 32 % 4 ≠ 2 → 52 < data.length →
    Ends (.hostRequestEntry u target false w1 w2 data) s fun t => t = s.emit (.ctl u false [])) ∧
  (∀ s u tag m, s.hostSide u = true → m ∈ s.mbox u → m.tag = tag → Ends (.hostRequestTimeout u tag) s fun t =>
    t = ((s.setMbox u ((s.mbox u).filter fun m => !(m.tag == tag))).inc (R.TK_REQ_TO_CNT u)).emit (.ctl u false []))

/-- Chapter 12 (R374 to R392): confirmation, fuses, updates of the flash banks and the end of boot. -/
def Obligations.BootRows : Prop :=
  (∀ s, s.alive = true → s.boot.confirmWait = true → Ends .confirm s fun t =>
    t.get G_BOOT_ST.CONFIRMED = 1 ∧ t.get G_FUSE_RB.COUNT = max (s.get G_FUSE_RB.COUNT) s.boot.advSvn % 128 ∧
    t.boot.confirmWait = false ∧ t.fab.rc = .ok ∧ s.KeepsFlds t [G_BOOT_ST.CONFIRMED, G_FUSE_RB.COUNT]) ∧
  (∀ s, s.alive = true → s.boot.confirmWait = false → Ends .confirm s fun t =>
    t.cnt R.G_FW_REJ_CNT = min (s.cnt R.G_FW_REJ_CNT + 1) 0xFFFF ∧ t.fab.rc = .wrongState ∧ t.flds = s.flds) ∧
  (∀ s, s.alive = true → s.boot.confirmWait = true → Ends .confirmTimeout s fun t => t = s.bootReset) ∧
  (∀ s, s.alive = true → s.boot.confirmWait = false → Ends .confirmTimeout s fun t => t = s) ∧
  (∀ s m i v, s.alive = true → m.privileged = true → i < 8 → s.boot.fuseLock.contains i = false → Ends (.fuseWrite m i v) s fun t =>
    t.get (G_FUSE_KEY.HASH i) = (s.get (G_FUSE_KEY.HASH i) ||| v % 2 ^ 32) % 2 ^ 32 ∧ t.boot.fuseLock = s.boot.fuseLock ++ [i] ∧
    t.fab.rc = .ok ∧ s.KeepsFlds t [G_FUSE_KEY.HASH i]) ∧
  (∀ s m i v, s.alive = true → m.privileged = true → i < 8 → s.boot.fuseLock.contains i = true → Ends (.fuseWrite m i v) s fun t =>
    t.cnt R.G_LOCK_VIOL_CNT = min (s.cnt R.G_LOCK_VIOL_CNT + 1) 0xFFFF ∧ t.fab.rc = .locked ∧ t.flds = s.flds) ∧
  (∀ s m i v, s.alive = true → m.privileged = false → Ends (.fuseWrite m i v) s fun t =>
    t = (s.privViol R.G_PRIV_VIOL_CNT 1 (fuseFld i).addr m).answer .priv) ∧
  (∀ s m, s.alive = true → s.get G_UPD_ST.ACTIVE = 0 → s.mode ≠ .selftest → s.mode ≠ .safe → m ≠ .boot →
    s.on G_READY.TORIK = true → Ends (.updBegin m) s fun t =>
    t.get G_UPD_ST.ACTIVE = 1 ∧ t.get G_UPD_ST.ABORTED = 0 ∧ t.get G_UPD_ST.OWNER = ownerCode m ∧ t.get G_UPD_CTL.RESULT = 0 ∧
    t.boot.owner = some m ∧ t.fab.rc = .ok ∧
    s.KeepsFlds t [G_UPD_ST.ACTIVE, G_UPD_ST.ABORTED, G_UPD_ST.OWNER, G_UPD_CTL.RESULT]) ∧
  (∀ s m, s.alive = true → s.get G_UPD_ST.ACTIVE ≠ 0 ∨ m = .boot ∨ s.on G_READY.TORIK = false → Ends (.updBegin m) s fun t =>
    t = s.updRefuse .wrongState ∧ t.get G_UPD_CTL.RESULT = 1 ∧ t.fab.rc = .wrongState) ∧
  (∀ s m, s.alive = true → s.updForeign m = false → s.runningBank = false → s.get G_UPD_ADDR.OFFSET % 4096 = 0 → Ends (.erase m) s fun t =>
    (∀ a, Tbl.get t.boot.flash 0xFF a = if s.updAt ≤ a ∧ a < s.updAt + 4096 then 0xFF else Tbl.get s.boot.flash 0xFF a) ∧
    t.get G_UPD_ST.BUSY = 1 ∧ t.get G_UPD_CTL.RESULT = 0 ∧ t.fab.rc = .ok ∧ s.KeepsFlds t [G_UPD_ST.BUSY, G_UPD_CTL.RESULT]) ∧
  (∀ s m, s.alive = true → s.updForeign m = false → s.runningBank = false → s.get G_UPD_ADDR.OFFSET % 4096 ≠ 0 → Ends (.erase m) s fun t =>
    t = s.updRefuse .range) ∧
  (∀ s m, s.alive = true → s.updForeign m = false → s.runningBank = false → s.get G_UPD_ADDR.OFFSET % 256 = 0 → Ends (.program m) s fun t =>
    (∀ a, Tbl.get t.boot.flash 0xFF a = if s.updAt ≤ a ∧ a < s.updAt + 256 then Tbl.get s.boot.flash 0xFF a &&& s.updByte (a - s.updAt)
      else Tbl.get s.boot.flash 0xFF a) ∧
    t.get G_UPD_ST.BUSY = 1 ∧ t.get G_UPD_CTL.RESULT = 0 ∧ t.fab.rc = .ok ∧ s.KeepsFlds t [G_UPD_ST.BUSY, G_UPD_CTL.RESULT]) ∧
  (∀ s m, s.alive = true → s.updForeign m = false → s.runningBank = true → Ends (.program m) s fun t => t = s.updRefuse .wrongState) ∧
  (∀ s m, s.alive = true → s.updForeign m = false → Ends (.verify m) s fun t =>
    t.boot.op = .verify (s.get G_UPD_ADDR.BANK) ∧ t.get G_UPD_ST.BUSY = 1 ∧ t.get G_UPD_CTL.RESULT = 0 ∧ t.boot.flash = s.boot.flash ∧
    s.KeepsFlds t [G_UPD_ST.BUSY, G_UPD_CTL.RESULT]) ∧
  (∀ s m, s.alive = true → s.updForeign m = false → Ends (.updEnd m) s fun t =>
    t.get G_UPD_ST.ACTIVE = 0 ∧ t.get G_UPD_ST.OWNER = 0 ∧ t.boot.owner = none ∧ t.get G_UPD_CTL.RESULT = 0 ∧ t.fab.rc = .ok ∧
    s.KeepsFlds t [G_UPD_ST.ACTIVE, G_UPD_ST.OWNER, G_UPD_CTL.RESULT]) ∧
  (∀ s m, s.alive = true → s.updForeign m = true → Ends (.updEnd m) s fun t => t = s.updRefuse .wrongState) ∧
  (∀ s b, s.alive = true → s.get G_UPD_ST.BUSY ≠ 0 → s.boot.op = .verify b → s.boot.abortAfter = false → s.boot.resetAfter = none →
    Ends .flashOpComplete s fun t => t.get G_UPD_ST.BUSY = 0 ∧ t.get G_UPD_ST.VERIFY = s.bankCheck b % 16 ∧ t.boot.op = .none ∧
      s.KeepsFlds t [G_UPD_ST.BUSY, G_UPD_ST.VERIFY]) ∧
  (∀ s, s.alive = true → s.get G_UPD_ST.BUSY = 0 → Ends .flashOpComplete s fun t => t = s) ∧
  (∀ s, s.alive = true → s.get G_UPD_ST.ACTIVE ≠ 0 → s.get G_UPD_ST.BUSY = 0 → Ends .updateTimeout s fun t =>
    t.get G_UPD_ST.ACTIVE = 0 ∧ t.get G_UPD_ST.ABORTED = 1 ∧ t.get G_UPD_ST.OWNER = 0 ∧ t.boot.owner = none ∧
    s.KeepsFlds t [G_UPD_ST.ACTIVE, G_UPD_ST.ABORTED, G_UPD_ST.OWNER]) ∧
  (∀ s, s.alive = true → s.get G_UPD_ST.ACTIVE = 0 → Ends .updateTimeout s fun t => t = s) ∧
  (∀ s a b, s.alive = true → s.mode = .rise → s.unitReady 7 = false → (s.thread 0).state = .run → Ends (.imageLoaded a b) s fun t =>
    t = ((s.boot379 a b).setUnit 7).readyRefresh) ∧
  (∀ s a b, s.alive = true → s.mode ≠ .rise → Ends (.imageLoaded a b) s fun t => t = s)

/-- Chapter 17 (R511 to R527): onsets, hold, reaction classes, VENT, the watchdog, software sources and injection. -/
def Obligations.FaultRows : Prop :=
  (∀ s i inst detail, s.alive = true → 24 ≤ i → i ≤ 45 → Ends (.faultOnset i inst detail) s fun t => t = s.faultOnset i inst detail) ∧
  (∀ s i inst detail, s.alive = true → 46 ≤ i → i ≤ 55 → Ends (.faultOnset i inst detail) s fun t => t = s) ∧
  (∀ s inst detail, s.alive = true → Ends (.faultOnset 0 inst detail) s fun t =>
    t = (s.faultOnset 0 0 0).safeEntry Entry.clock 0) ∧
  (∀ s i, s.alive = true → s.on FC_CFG.VENT_AUTO = false → Ends (.faultHoldExpiry i) s fun t =>
    t.flt.events = s.flt.events.filter (fun j => !(j == i)) ∧ t.flt.heldBack = s.flt.heldBack.filter (fun j => !(j == i)) ∧
    t.flds = s.flds ∧ t.cnts = s.cnts) ∧
  (∀ s j v, s.alive = true → Ends (.reactionClassWrite j v) s fun t => t = s.wrReact j v ∧ t.fab.rc = .ok) ∧
  (∀ s, s.alive = true → s.get FC_VENT_ST.LATCHED ≠ 0 → s.stopAsserted = false → Ends .restart s fun t =>
    t.get FC_VENT_ST.LATCHED = 0 ∧ t.get FC_VENT_ST.RUN = s.ventMode.toNat ∧ t.get FC_CMD.RESULT = 0 ∧ t.fab.rc = .ok ∧
    s.KeepsFlds t [FC_VENT_ST.LATCHED, FC_VENT_ST.RUN, FC_CMD.RESULT]) ∧
  (∀ s, s.alive = true → s.get FC_VENT_ST.LATCHED = 0 ∨ s.stopAsserted = true → Ends .restart s fun t =>
    t.get FC_CMD.RESULT = 1 ∧ t.cnt R.FC_REJ_CNT = min (s.cnt R.FC_REJ_CNT + 1) 0xFFFF ∧ t.fab.rc = .wrongState ∧
    s.KeepsFlds t [FC_CMD.RESULT] ∧ s.KeepsCnts t [R.FC_REJ_CNT]) ∧
  (∀ s, s.alive = true → s.flt.ventWait = true → s.get FC_CFG.VENT_AUTO ≠ 0 → s.stopAsserted = false → s.get FC_VENT_ST.LATCHED = 0 →
    Ends .ventAutoRestart s fun t => t.get FC_VENT_ST.RUN = s.ventMode.toNat ∧ t.flt.ventWait = false ∧
      s.KeepsFlds t [FC_VENT_ST.RUN]) ∧
  (∀ s, s.alive = true → s.flt.ventWait = false → Ends .ventAutoRestart s fun t => t = s) ∧
  (∀ s, s.alive = true → Ends .kick s fun t => t = (s.fltFall 40 0).answer .ok ∧ t.fab.rc = .ok) ∧
  (∀ s, s.alive = true → s.get FC_WDOG.PERIOD ≠ 0 → Ends .watchdogExpiry s fun t => t = s.faultOnset 40 0 0) ∧
  (∀ s, s.alive = true → s.get FC_WDOG.PERIOD = 0 → Ends .watchdogExpiry s fun t => t = s) ∧
  (∀ s d i, s.alive = true → s.dieHere d = true → Ends (.converterCheck d i true) s fun t => t = s.fltFall (35 + d) i) ∧
  (∀ s d i, s.alive = true → s.dieHere d = true → Ends (.converterCheck d i false) s fun t => t = s.faultOnset (35 + d) i 0) ∧
  (∀ s v, s.alive = true → Ends (.softwareSourceWrite v) s fun t => t = (s.wrSw v).answer .ok ∧ t.fab.rc = .ok) ∧
  (∀ s i inst, s.alive = true → i < 64 → inst < 2 ^ 20 → s.injMode = true → s.get FC_INJ_ST.STATE ≠ 1 → s.injBankBar i inst = false →
    injRange i inst = true → Ends (.arm i inst) s fun t =>
      t.get FC_INJ_ST.STATE = 1 ∧ t.get FC_INJ_ST.SRC = i ∧ t.get FC_INJ.SRC = i ∧ t.get FC_INJ.INST = inst ∧ t.get FC_INJ.RESULT = 0 ∧
      t.flt.injInst = inst ∧ t.fab.rc = .ok ∧
      s.KeepsFlds t [FC_INJ_ST.STATE, FC_INJ_ST.SRC, FC_INJ.SRC, FC_INJ.INST, FC_INJ.RESULT]) ∧
  (∀ s i inst, s.alive = true → i < 64 → inst < 2 ^ 20 → s.injMode = false → Ends (.arm i inst) s fun t =>
    t.get FC_INJ.RESULT = 1 ∧ t.cnt R.FC_REJ_CNT = min (s.cnt R.FC_REJ_CNT + 1) 0xFFFF ∧ t.fab.rc = .wrongState ∧
    t.get FC_INJ_ST.STATE = s.get FC_INJ_ST.STATE) ∧
  (∀ s, s.alive = true → s.get FC_INJ_ST.STATE = 1 → Ends .disarm s fun t =>
    t.get FC_INJ_ST.STATE = 3 ∧ t.get FC_INJ.RESULT = 0 ∧ t.fab.rc = .ok ∧ s.KeepsFlds t [FC_INJ_ST.STATE, FC_INJ.RESULT]) ∧
  (∀ s, s.alive = true → s.get FC_INJ_ST.STATE ≠ 1 → Ends .disarm s fun t => t = s.injRefuse .wrongState ∧ t.fab.rc = .wrongState) ∧
  (∀ s, s.alive = true → Ends .injectionExpiry s fun t => t = s.injExpire)

/-- Chapter 15 (R465 to R474, R486, R487) and R6: register accesses, the guard, pairs and aliases, the error answers and the scrub. -/
def Obligations.RegisterRows : Prop :=
  (∀ s m a v r i, s.alive = true → regAt (regOf a) = some (r, i) → a % 4 = 0 → isGuard a = false → s.pins.clockAbsent = false →
    s.absent (regOf a) = true → Ends (.absentWrite m a v) s fun t =>
      t.cnt R.G_ABSENT_WR_CNT = min (s.cnt R.G_ABSENT_WR_CNT + 1) 0xFFFF ∧ t.fab.rc = .ok ∧ t.flds = s.flds ∧
      s.KeepsCnts t [R.G_ABSENT_WR_CNT]) ∧
  (∀ s m a v r i, s.alive = true → regAt (regOf a) = some (r, i) → a % 4 = 0 → isGuard a = false → s.pins.clockAbsent = false →
    s.absent (regOf a) = false → hasPriv r = false → byBase openWrites r.base = none → openFields r ≠ [] → Ends (.registerWrite m a v) s fun t =>
      t = ((s.putFields (openFields r) (regOf a) i v).settle r i).answer .ok ∧ t.fab.rc = .ok) ∧
  (∀ s t0 a v r i, s.alive = true → regAt (regOf a) = some (r, i) → a % 4 = 0 → isGuard a = false → s.pins.clockAbsent = false →
    s.absent (regOf a) = false → hasPriv r = true → openFields r = [] → byBase openWrites r.base = none →
    Ends (.registerWrite (.thread t0 false) a v) s fun t =>
      t.fab.rc = .priv ∧
    (s.fltClass 42 < 3 → t.cnt R.G_PRIV_VIOL_CNT = min (s.cnt R.G_PRIV_VIOL_CNT + 1) 0xFFFF)) ∧
  (∀ s u a v r i, s.alive = true → regAt (regOf a) = some (r, i) → a % 4 = 0 → isGuard a = false → s.pins.clockAbsent = false →
    s.absent (regOf a) = false → hasPriv r = true → openFields r = [] → byBase openWrites r.base = none →
    s.slotOf (.host u) = none → Ends (.registerWrite (.host u) a v) s fun t =>
      t.fab.rc = .pend ∧ t.fab.guards = s.fab.guards ++ [⟨.host u, regOf a, v⟩] ∧ t.flds = s.flds ∧ t.cnts = s.cnts) ∧
  (∀ s m a v r i g, s.alive = true → a % 4 = 0 → regAt (regOf a) = some (r, i) → s.slotOf m = some g → g.addr = regOf a →
    v = 2 ^ 32 - 1 - g.val → Ends (.guardWrite m a v) s fun t => t = (s.slotDrop m).writePriv m r i (regOf a) g.val) ∧
  (∀ s m a v r i, s.alive = true → a % 4 = 0 → regAt (regOf a) = some (r, i) → s.slotOf m = none → Ends (.guardWrite m a v) s fun t =>
    t.fab.rc = .guard ∧
    (s.fltClass 42 < 3 → t.cnt R.G_GUARD_FAIL_CNT = min (s.cnt R.G_GUARD_FAIL_CNT + 1) 0xFFFF)) ∧
  (∀ s m g, s.alive = true → s.slotOf m = some g → isRelease g = false → Ends (.guardExpiry m) s fun t =>
    t = (s.slotDrop g.m).privViol R.G_PRIV_VIOL_CNT 1 g.addr g.m) ∧
  (∀ s m, s.alive = true → s.slotOf m = none → Ends (.guardExpiry m) s fun t => t = s) ∧
  (∀ s m, s.alive = true → s.pins.clockAbsent = false → Ends (.pairLoRead m R.G_TB_LO) s fun t =>
    t.fab.data = s.tb % 2 ^ 32 ∧ t.snapOf m R.G_TB_LO = some (s.tb / 2 ^ 32 % 2 ^ 32) ∧ t.fab.rc = .ok ∧ t.flds = s.flds) ∧
  (∀ s m a r i, s.alive = true → s.pins.clockAbsent = false → a % 4 = 0 → isGuard a = false → regAt (regOf a) = some (r, i) → r.kind = 2 →
    s.absent (regOf a) = false → Ends (.pairLoRead m a) s fun t =>
      t.fab.data = s.valueAt (regOf a) (seesPriv m) ∧ t.snapOf m (regOf a) = some (s.valueAt (regOf a + 4) (seesPriv m)) ∧
      t.fab.rc = .ok ∧ t.flds = s.flds ∧ t.cnts = s.cnts) ∧
  (∀ s m a, s.alive = true → a % 4 = 0 → Ends (.syncAliasRead m a) s fun t => t = s.read32 m (regOf a)) ∧
  (∀ s m a, s.alive = true → regAt (regOf a) = none → Ends (.unmappedAccess m a) s fun t =>
    t.fab.rc = .unmapped ∧ t.fab.data = 0 ∧
    (s.fltClass 43 < 3 → t.cnt R.G_UNMAPPED_CNT = min (s.cnt R.G_UNMAPPED_CNT + 1) 0xFFFF)) ∧
  (∀ s m a w b, s.alive = true → a % w ≠ 0 → Ends (.accessError m a w b) s fun t =>
    t.fab.rc = .badAlign ∧ t.fab.data = 0 ∧
    (s.fltClass 43 < 3 → t.cnt R.G_ACC_ERR_CNT = min (s.cnt R.G_ACC_ERR_CNT + 1) 0xFFFF)) ∧
  (∀ s m a w, s.alive = true → a % w = 0 → w < 4 → Ends (.accessError m a w true) s fun t =>
    t.fab.rc = .badWidth ∧
    (s.fltClass 43 < 3 → t.cnt R.G_ACC_ERR_CNT = min (s.cnt R.G_ACC_ERR_CNT + 1) 0xFFFF)) ∧
  (∀ s a found r i, s.alive = true → regAt a = some (r, i) → s.absent a = false → Ends (.configScrub a found) s fun t =>
    t = s.cfgCheck r i a found none) ∧
  (∀ s v, s.alive = true → Ends (.protSelWrite v []) s fun t =>
    t.get G_PROT.PROT_SEL = v % 2 ∧ t.fab.rc = .ok ∧ t.cnts = s.cnts ∧ s.KeepsFlds t [G_PROT.PROT_SEL]) ∧
  (∀ s v a l r i, s.alive = true → regAt a = some (r, i) → Ends (.protSelWrite v (a :: l)) s fun t =>
    t = (s.cfgCheck r i a 2 none).wrProtSel v l)

/-- R493, R497 to R499 and R548: the counter-reset command, the log engine, and the routes of the analog test pins. -/
def Obligations.CounterLogRows : Prop :=
  (∀ s m r i, s.alive = true → regAt (4 * s.get G_CNT_ADDR.ADDR) = some (r, i) → r.kind = 1 → s.log.wait.length < 64 →
    Ends (.clearOne m) s fun t => t.cnt (4 * s.get G_CNT_ADDR.ADDR) = 0 ∧ t.get G_CNT_CTL.RESULT = 0 ∧ t.fab.rc = .ok ∧
      s.KeepsCnts t [4 * s.get G_CNT_ADDR.ADDR] ∧ s.KeepsFlds t [G_CNT_CTL.RESULT]) ∧
  (∀ s m, s.alive = true → regAt (4 * s.get G_CNT_ADDR.ADDR) = none → Ends (.clearOne m) s fun t =>
    t.get G_CNT_CTL.RESULT = 2 ∧ t.fab.rc = .range ∧ t.cnts = s.cnts ∧ s.KeepsFlds t [G_CNT_CTL.RESULT]) ∧
  (∀ s m p, s.alive = true → p ≤ 12 → s.log.wait.length < 64 → Ends (.clearPrefix m p) s fun t =>
    (∀ a, t.cnt a = if hasPrefix p a then 0 else s.cnt a) ∧ t.get G_CNT_CTL.PREFIX = p ∧ t.get G_CNT_CTL.RESULT = 0 ∧ t.fab.rc = .ok) ∧
  (∀ s m p, s.alive = true → 12 < p → Ends (.clearPrefix m p) s fun t =>
    t.get G_CNT_CTL.RESULT = 2 ∧ t.fab.rc = .range ∧ t.cnts = s.cnts) ∧
  (∀ s m, s.alive = true → s.log.wait.length < 64 → Ends (.clearAll m) s fun t =>
    t.cnts = [] ∧ t.bytes = [] ∧ t.get G_CNT_CTL.RESULT = 0 ∧ t.fab.rc = .ok ∧ s.KeepsFlds t [G_CNT_CTL.RESULT]) ∧
  (∀ s, s.alive = true → s.log.wait = [] → Ends .logRecordWrite s fun t => t = s) ∧
  (∀ s r l, s.alive = true → s.log.wait = r :: l → s.coalesces r = true → s.log.dropped = 0 → Ends .logRecordWrite s fun t =>
    t.cnt R.G_LOG_COAL_CNT = min (s.cnt R.G_LOG_COAL_CNT + 1) 0xFFFF ∧ t.log.wait = l ∧ t.log.count = s.log.count ∧
    t.log.slots = s.log.slots) ∧
  (∀ s r l, s.alive = true → s.log.wait = r :: l → s.coalesces r = false → s.log.dropped = 0 → Ends .logRecordWrite s fun t =>
    t.log.count = s.log.count + 1 ∧ Tbl.get t.log.slots {} (s.log.count % 4096) = r ∧ t.log.wait = l ∧ t.flds = s.flds) ∧
  (∀ s v, s.alive = true → v < 2 ^ 31 → Ends (.atbRouteWrite v) s fun t =>
    t.get SV_ATB.EN = 0 ∧ t.get SV_ATB_ST.SETTLED = 0 ∧ t.get SV_ATB_ST.ROUTE = 0 ∧ t.get SV_ATB_ST.INDEX = 0 ∧ t.fab.rc = .ok) ∧
  (∀ s route i, s.alive = true → route < 256 → i < 256 → s.atbOk route i = false → Ends (.atbRouteWrite (2 ^ 31 + route * 65536 + i)) s
    fun t => t.fab.rc = .range ∧ t.flds = s.flds ∧ t.cnt R.SV_CMD_REJ_CNT = min (s.cnt R.SV_CMD_REJ_CNT + 1) 0xFFFF) ∧
  (∀ s route i, s.alive = true → route < 256 → i < 256 → s.atbOk route i = true → (∀ d, atbDie route i = some d → s.atbDead d = false) →
    s.get SV_ATB.EN = 0 → Ends (.atbRouteWrite (2 ^ 31 + route * 65536 + i)) s fun t =>
      t.get SV_ATB.EN = 1 ∧ t.get SV_ATB_ST.ROUTE = route ∧ t.get SV_ATB_ST.INDEX = i ∧ t.get SV_ATB_ST.SETTLED = 0 ∧ t.fab.rc = .ok) ∧
  (∀ s, s.alive = true → s.get SV_ATB.EN ≠ 0 → Ends .atbSettled s fun t =>
    t.get SV_ATB_ST.SETTLED = 1 ∧ s.KeepsFlds t [SV_ATB_ST.SETTLED]) ∧
  (∀ s, s.alive = true → s.get SV_ATB.EN = 0 → Ends .atbSettled s fun t => t = s)

/-- R63, R64, R428 and R429: a host's vendor requests to the management function, and the management frames of peers. -/
def Obligations.ManagementRows : Prop :=
  (∀ s u a len, s.alive = true → s.mgmtSide u = true → 4 ≤ len → len ≤ 64 → len % 4 = 0 → Ends (.regRead u a len) s fun t =>
    t = ((s.hostReads u a (len / 4)).1.modUp u fun x => { x with last := (s.hostReads u a (len / 4)).2.2 }).emit
      (.ctl u true (s.hostReads u a (len / 4)).2.1)) ∧
  (∀ s u a len, s.alive = true → s.mgmtSide u = true → regLen len = false → Ends (.regRead u a len) s fun t =>
    t = s.emit (.ctl u false [])) ∧
  (∀ s u a data, s.alive = true → s.mgmtSide u = true → regLen (4 * data.length) = true → Ends (.regWrite u a data false) s fun t =>
    (t.up u).heldWrite = some (a, data) ∧ t.flds = s.flds ∧ t.cnts = s.cnts) ∧
  (∀ s u a data a1 d1, s.alive = true → s.mgmtSide u = true → regLen (4 * data.length) = true → (s.up u).heldWrite = some (a1, d1) →
    Ends (.regWrite u a data true) s fun t => ∃ w, w = (s.modUp u fun x => { x with heldWrite := none }).hostWrites u a1 d1 ∧
      t = (w.1.modUp u fun x => { x with last := w.2 }).emit (.ctl u true [])) ∧
  (∀ s u, s.alive = true → s.mgmtSide u = true → (s.up u).last.1 ≠ .ok → Ends (.getResult u 8) s fun t =>
    t = s.emit (.ctl u true [(s.up u).last.1.code, (s.up u).last.2])) ∧
  (∀ s u, s.alive = true → s.mgmtSide u = true → (s.up u).last.1 = .ok → Ends (.getResult u 8) s fun t =>
    ∃ i, t = s.freeNext.emit (.ctl u true [0, i])) ∧
  (∀ s u len, s.alive = true → s.mgmtSide u = true → len ≠ 8 → Ends (.getResult u len) s fun t => t = s.emit (.ctl u false [])) ∧
  (∀ s u slot, s.alive = true → s.mgmtSide u = true → Ends (.logRead u slot 16) s fun t =>
    t = s.emit (.ctl u true [s.logWord (slot % 4096) 0, s.logWord (slot % 4096) 1, s.logWord (slot % 4096) 2, s.logWord (slot % 4096) 3])) ∧
  (∀ s u req len, s.alive = true → s.mgmtSide u = true → 4 < req → req < s.vndFirst → Ends (.vendorRequestUnknown u req len) s fun t =>
    t = s.emit (.ctl u false [])) ∧
  (∀ s u seq dest src hops addrs, s.linkTakes u seq = true → (s.frameIn u seq 0 (4 * addrs.length)).toMe dest = true →
    Ends (.regRd u seq dest src hops addrs) s fun t =>
      ∃ r, r = (s.frameIn u seq 0 (4 * addrs.length)).peerReads src (addrs.take 15) ∧
        t = r.1.mgmtTo Mc.regRsp src (4 * (r.2.1.length + r.2.2.length)) (r.2.1 ++ r.2.2)) ∧
  (∀ s u seq dest src hops addrs, s.linkTakes u seq = true → (s.frameIn u seq 0 (4 * addrs.length)).toMe dest = false → hops = 4095 →
    Ends (.regRd u seq dest src hops addrs) s fun t => t = (s.frameIn u seq 0 (4 * addrs.length)).inc R.KL_MGMT_HOP_CNT) ∧
  (∀ s u seq dest src hops pairs, s.linkTakes u seq = true → (s.frameIn u seq 0 (8 * pairs.length)).toMe dest = true →
    Ends (.regWr u seq dest src hops pairs) s fun t =>
      ∃ r, r = (s.frameIn u seq 0 (8 * pairs.length)).peerWrites src (pairs.take 7) ∧
        t = r.1.mgmtTo Mc.regRsp src (4 * r.2.length) r.2) ∧
  (∀ s u seq dest src hops data, s.linkTakes u seq = true → (s.frameIn u seq 0 data.length).toMe dest = true →
    ((s.frameIn u seq 0 data.length).reqDone src [0, 1]).mboxFull = false → Ends (.regRsp u seq dest src hops data) s fun t =>
      t = ((s.frameIn u seq 0 data.length).reqDone src [0, 1]).mboxKcl data) ∧
  (∀ s u seq dest src hops data, s.linkTakes u seq = true → (s.frameIn u seq 0 data.length).toMe dest = true →
    (s.frameIn u seq 0 data.length).mboxFull = false → Ends (.mbx u seq dest src hops data) s fun t =>
      t = ((s.frameIn u seq 0 data.length).mboxKcl data).mgmtTo Mc.mbxRsp src 4 [0]) ∧
  (∀ s u seq dest src hops data, s.linkTakes u seq = true → (s.frameIn u seq 0 data.length).toMe dest = true →
    (s.frameIn u seq 0 data.length).mboxFull = true → Ends (.mbx u seq dest src hops data) s fun t =>
      t = (s.frameIn u seq 0 data.length).mgmtTo Mc.mbxRsp src 4 [1]) ∧
  (∀ s u seq dest src hops, s.linkTakes u seq = true → (s.frameIn u seq 0 4).toMe dest = true →
    Ends (.mbxRsp u seq dest src hops true) s fun t => t = (s.frameIn u seq 0 4).modKcl fun k =>
      { k with mbxBusy := k.mbxBusy.map fun b => if b.1 == src then (b.1, b.2.1, true) else b }) ∧
  (∀ s dest body, s.alive = true → s.kcl.mbxBusy = [(dest, body, true)] → Ends (.mbxRetry dest) s fun t =>
    t = (s.modKcl fun k => { k with mbxBusy := [(dest, body, false)] }).mgmtTo Mc.mbx dest body.length body) ∧
  (∀ s dest, s.alive = true → s.kcl.mbxBusy = [] → Ends (.mbxRetry dest) s fun t => t = s) ∧
  (∀ s v, s.alive = true → hasKcl s.variant = true → s.mtxBusy = true → Ends (.mgmtSend v) s fun t =>
    t.get KL_MTX_CTL.RESULT = 1 ∧ t.fab.rc = .wrongState ∧ t.kcl = s.kcl ∧ s.KeepsFlds t [KL_MTX_CTL.RESULT]) ∧
  (∀ s v, s.alive = true → hasKcl s.variant = true → s.mtxBusy = false → 60 < v % 64 → Ends (.mgmtSend v) s fun t =>
    t.get KL_MTX_CTL.RESULT = 2 ∧ t.fab.rc = .range ∧ t.kcl = s.kcl) ∧
  (∀ s v, s.alive = true → hasKcl s.variant = true → s.mtxBusy = false → v / 2 ^ 8 % 16 = 2 → v % 64 ≤ 60 → Ends (.mgmtSend v) s fun t =>
    ∃ s1 : State, t = (s1.kRoute ⟨8, 0, v / 2 ^ 12 % 4096, v % 64, [if s.numbered then s.get KL_ID.ID else 0, 0, 2] ++
      s.mtxBody (v % 64)⟩).answer .ok ∧ s1.get KL_MTX_CTL.DEST = v / 2 ^ 12 % 4096 ∧ s1.get KL_MTX_CTL.RESULT = 0 ∧
      s1.kcl.reqs = s.kcl.reqs) ∧
  (∀ s dest mcode, s.alive = true → s.kcl.reqs.contains (dest, mcode) = true → Ends (.mgmtRequestTimeout dest mcode) s fun t =>
    t.kcl.reqs = s.kcl.reqs.erase (dest, mcode) ∧ t.cnt R.KL_MGMT_TO_CNT = min (s.cnt R.KL_MGMT_TO_CNT + 1) 0xFFFF ∧ t.flds = s.flds) ∧
  (∀ s dest mcode, s.alive = true → s.kcl.reqs.contains (dest, mcode) = false → Ends (.mgmtRequestTimeout dest mcode) s fun t => t = s)

/-- R545. A printing command in a session prints the registers its chapter names, in order, then the values listed with them, and OK: mode, boot and port commands. -/
def Obligations.ConsolePortPrints : Prop :=
  (∀ s, s.conOpen 1 = true → Ends .conCap s fun t =>
    t = (s.conShow [R.G_CAP_UNITS, R.G_ABSENT_WR_CNT] fun _ => [])) ∧
  (∀ s, s.conOpen 1 = true → Ends .conMode s fun t =>
    t = (s.conShow [R.G_MODE] fun _ => [])) ∧
  (∀ s, s.conOpen 1 = true → Ends .conReady s fun t =>
    t = (s.conShow [R.G_READY, R.G_READY_FAIL] fun s => s.dsList.filter fun n => s.on (P_READY.FAIL n))) ∧
  (∀ s, s.conOpen 1 = true → Ends .conRst s fun t =>
    t = (s.conShow [R.G_RST_CAUSE, R.G_SAFE_ST, R.G_SELFTEST_RES] fun _ => [])) ∧
  (∀ s, s.conOpen 1 = true → Ends .conSafe s fun t =>
    t = (s.conShow [R.G_SAFE_ST] fun _ => [])) ∧
  (∀ s, s.conOpen 1 = true → Ends .conBoot s fun t =>
    t = (s.conShow [R.G_STRAP, R.G_BOOT_ST, R.G_BOOT_VER, R.G_FUSE_RB] fun s => [(s.header 0).ver, (s.header 1).ver])) ∧
  (∀ s, s.conOpen 1 = true → Ends .conUpdateStatus s fun t =>
    t = (s.conShow [R.G_UPD_ST] fun s => [s.boot.lastProg])) ∧
  (∀ s, s.conOpen 1 = true → Ends .conMap s fun t =>
    t = (s.conShow [] fun s => (s.dsList.map fun n =>
      [n, s.get (P_MAP.UP n), s.get (P_MAP.HUB n), s.get (P_MAP.LPORT n), groupOf n, dieOf n]).flatten)) ∧
  (∀ s n, s.conOpen 1 = true → n ≤ 95 → Ends (.conPort n) s fun t =>
    t = (s.conShow [R.P_PORTST n, R.P_LPST n] fun _ => [])) ∧
  (∀ s n, s.conOpen 1 = true → n ≤ 95 → Ends (.conTc n) s fun t =>
    t = (s.conShow [R.P_TCST n, R.P_STEAM_CNT n, R.P_MOIST_FAIL_CNT n, R.P_SEAT_LOSS_CNT n, R.P_CC_GLITCH_CNT n, R.P_VCONN_TRIP_CNT n,
      R.P_SBU_OV_CNT n, R.P_SB_NOCH_CNT n, R.P_TC_REJ_CNT n] fun _ => [])) ∧
  (∀ s n, s.conOpen 1 = true → n ≤ 95 → Ends (.conMoist n) s fun t =>
    t = (s.conShow [R.P_MOIST_CC n, R.P_MOIST_SBU n, R.G_MOIST_CFG] fun s => [s.freeVal (2 ^ 32)]).freeNext) ∧
  (∀ s, s.conOpen 1 = true → Ends .conLp s fun t =>
    t = (s.conShow [R.G_U0_ADMIT] fun s =>
      ((s.dsList.filter fun n => s.on (P_PORTST.SS_LINK n)).foldl (fun l n => s.idleInsert n l) []).take 10)) ∧
  (∀ s u, s.conOpen 1 = true → u ≤ 3 → Ends (.conLpU u) s fun t =>
    t = (s.conShow [R.U_LPST u] fun _ => [])) ∧
  (∀ s n, s.conOpen 1 = true → n ≤ 95 → Ends (.conLpN n) s fun t =>
    t = (s.conShow [R.P_LPST n, R.P_WAKE_CNT n, R.P_WAKE_COLL_CNT n] fun _ => [])) ∧
  (∀ s k, s.conOpen 1 = true → k ≤ 99 → Ends (.conPp k) s fun t =>
    t = (s.conShow [R.PP_ST k, R.PP_LAST k, R.PP_MEAS k] fun _ => [])) ∧
  (∀ s k, s.conOpen 1 = true → k ≤ 99 → Ends (.conPd k) s fun t =>
    t = (s.conShow [R.PD_ST k, R.PD_CONTRACT k, R.PD_WAIT_CNT k] fun _ => [])) ∧
  (∀ s k, s.conOpen 1 = true → k ≤ 99 → Ends (.conPdLog k) s fun t =>
    t = (s.conShow [] fun s => ((s.eng k).msgs.map fun m => [m.1, m.2.1.toNat, m.2.2]).flatten)) ∧
  (∀ s, s.conOpen 1 = true → Ends .conSb s fun t =>
    t = (s.conShow (s.channels.map R.G_SB_CFG) fun s => s.usList.map fun u => (s.up u).chNow))

/-- R545. A printing command in a session prints the registers its chapter names, in order, then the values listed with them, and OK: Basin, Caldera, scheduling, cascade, Torik, fault and log commands, and rd. -/
def Obligations.ConsoleUnitPrints : Prop :=
  (∀ s, s.conOpen 1 = true → Ends .conBsn s fun t =>
    t = (s.conShow [R.BSN_CHIP_CAP, R.BSN_CHIP_HEAD, R.BSN_CHIP_MEAS, R.BSN_CHIP_ST, R.BSN_SHED_ST] fun _ => [])) ∧
  (∀ s g, s.conOpen 1 = true → g ≤ 12 → Ends (.conBsnG g) s fun t =>
    t = (s.conShow ([R.BSN_SG_CAP g, R.BSN_SG_HEAD g, R.BSN_SG_MEAS g, R.BSN_SG_ST g] ++
      ((portsOf g).map fun k => [R.BSN_CHG k, R.BSN_UQ k]).flatten) fun _ => [])) ∧
  (∀ s, s.conOpen 1 = true → Ends .conTemp s fun t =>
    t = (s.conShow (s.dieSensors.map R.BSN_TS ++ (List.range 4).map R.BSN_BRD_T ++ [R.BSN_HEAT_ST, R.TM_HEAT, R.G_U0_ADMIT]) fun s =>
      (s.dieSensors ++ s.boardOn.map (12 + ·)).map fun i => (s.sensorMargin i % 65536).toNat)) ∧
  (∀ s, s.conOpen 1 = true → Ends .conCaldera s fun t =>
    t = (s.conShow ([R.CD_PROT, R.CD_PROT_PEND] ++
      ((List.range 32).map fun b => [R.CD_PAR_ERR_CNT b, R.CD_CORR_CNT b, R.CD_UNCORR_CNT b]).flatten) fun s => [s.boot.work.recov, s.freeVal 101]).freeNext) ∧
  (∀ s, s.conOpen 1 = true → Ends .conEpt s fun t =>
    t = (s.conShow [R.EP_STAT, R.EP_MISS_CNT] fun _ => [])) ∧
  (∀ s n, s.conOpen 1 = true → n ≤ 95 → Ends (.conEptN n) s fun t =>
    t = (s.conShow [] fun s => ((s.validEps.filter fun e => s.get (EP_KEY.PORT e) == n).map fun e =>
      [e, s.valueAt (R.EP_KEY e) false, s.valueAt (R.EP_MAP e) false]).flatten)) ∧
  (∀ s p, s.conOpen 1 = true → p ≤ 199 → Ends (.conPol p) s fun t =>
    t = (s.conShow [R.TM_PL_CFG p, R.TM_PL_TC p, R.TM_PL_TP p] fun s =>
      [(s.flow.holds.filter fun h => h.pol == p).length, Tbl.get s.bytes 0 (R.TM_PL_GRN_LO p), Tbl.get s.bytes 0 (R.TM_PL_YEL_LO p),
        Tbl.get s.bytes 0 (R.TM_PL_RED_LO p)])) ∧
  (∀ s x, s.conOpen 1 = true → x ≤ 99 → Ends (.conShp x) s fun t =>
    t = (s.conShow [R.TM_SH_CREDIT x, R.TM_SH_SLOPE x, R.TM_EG_ST x] fun s =>
      [s.get (TM_SH_SLOPE.IDLE_SLOPE x) * (if s.on (TM_SH_SLOPE.HEAT_EN x) then s.heatOf x else 256) / 256])) ∧
  (∀ s x, s.conOpen 1 = true → x ≤ 99 → Ends (.conSched x) s fun t =>
    t = (s.conShow [R.TM_DEFER_CNT x, R.TM_RES_CNT x, R.TM_EG_ST x] fun s => [s.freeVal (2 ^ 32)]).freeNext) ∧
  (∀ s, s.conOpen 1 = true → Ends .conKcl s fun t =>
    t = (s.conShow (s.usList.map R.KL_LST ++ s.usList.map R.KL_CRC_ERR_CNT) fun _ => [])) ∧
  (∀ s c, s.conOpen 1 = true → c ≤ 4095 → Ends (.conKclRoute c) s fun t =>
    t = (s.conShow [] fun s =>
      (((s.primary c).toList ++ (s.spare c).toList).map fun r => [r.link, r.hops, r.lat]).flatten)) ∧
  (∀ s n, s.conOpen 1 = true → n ≤ 95 → Ends (.conKclPres n) s fun t =>
    t = (s.conShow [R.KL_PRES n] fun _ => [])) ∧
  (∀ s, s.conOpen 1 = true → Ends .conTk s fun t =>
    t = (s.conShow ((List.range 64).map R.TK_TST ++ (List.range 64).map R.TK_EXC_CNT) fun _ => [])) ∧
  (∀ s i, s.conOpen 1 = true → i ≤ 63 → Ends (.conTkT i) s fun t =>
    t = (s.conShow [R.TK_TST i, R.TK_EXC_CNT i, R.TK_TEXC i, R.TK_TEPC i, R.TK_TEADDR i] fun _ => [])) ∧
  (∀ s, s.conOpen 1 = true → Ends .conFault s fun t =>
    t = (s.conShow [R.FC_SUMMARY_LO, R.FC_SUMMARY_HI, R.FC_VENT_ST, R.FC_INJ_ST] fun s =>
      (((List.range 64).filter s.fltOn).map fun i => [i, s.fltClass i]).flatten)) ∧
  (∀ s, s.conOpen 1 = true → Ends .conProt s fun t =>
    t = (s.conShow [R.G_PROT, R.G_VOTE_CORR_CNT, R.G_PAR_RST_CNT] fun _ => [])) ∧
  (∀ s, s.conOpen 1 = true → Ends .conLog s fun t =>
    t = (s.conShow [] fun s => s.logWords s.logSlots)) ∧
  (∀ s, s.conOpen 1 = true → Ends .conLogPlume s fun t =>
    t = (s.conShow [] fun s => s.logWords (s.logSlots.filter fun i => (Tbl.get s.log.slots {} i).kind == 0x0F))) ∧
  (∀ s, s.conOpen 1 = true → Ends .conAtb s fun t =>
    t = (s.conShow [R.SV_ATB_ST] fun s => [atbScale (s.get SV_ATB_ST.ROUTE) (s.get SV_ATB_ST.INDEX)])) ∧
  (∀ s a, s.conOpen 1 = true → (s.read32 .console a).fab.rc ≠ .ok → Ends (.conRd a) s fun t =>
    t = (s.read32 .console a).conErr (s.read32 .console a).fab.rc.name) ∧
  (∀ s a, s.conOpen 1 = true → (s.read32 .console a).fab.rc = .ok → Ends (.conRd a) s fun t =>
    ∃ l, t = ((s.read32 .console a).conNums ((s.read32 .console a).fab.data :: l)).conOk)

/-- R535 to R542 and R547. Sessions of the console: hello, bye, service and its PIN, view, baud, echo, Ctrl-C, passed lines and timeouts. -/
def Obligations.ConsoleSessions : Prop :=
  (∀ s, s.conOpen 0 = true → s.get SV_ST.SESSION = 0 → s.cnt R.SV_SESSION_CNT < 0xFFFF → Ends (.conHello false 0) s fun t =>
    t.get SV_ST.SESSION = 1 ∧ t.get SV_ST.OSP = 0x10 ∧ t.cnt R.SV_SESSION_CNT = s.cnt R.SV_SESSION_CNT + 1 ∧
    t.svc.opened = s.cnt R.SV_SESSION_CNT + 1 ∧ s.KeepsFlds t [SV_ST.SESSION, SV_ST.OSP]) ∧
  (∀ s v, s.conOpen 0 = true → v < 0x10 → Ends (.conHello true v) s fun t =>
    t = s.conErr "RANGE" ∧ t.cnt R.SV_CMD_REJ_CNT = min (s.cnt R.SV_CMD_REJ_CNT + 1) 0xFFFF ∧ t.flds = s.flds) ∧
  (∀ s v, s.conOpen 1 = true → 0x11 ≤ v → Ends (.conHello true v) s fun t =>
    t.get SV_ST.OSP = 0x11 ∧ t.get SV_ST.SESSION = s.get SV_ST.SESSION ∧ s.KeepsFlds t [SV_ST.OSP]) ∧
  (∀ s, s.conOpen 1 = true → s.get SV_ST.SESSION = 1 → Ends .conBye s fun t =>
    t.get SV_ST.SESSION = 0 ∧ t.get SV_ST.OSP = 0 ∧ s.KeepsFlds t [SV_ST.SESSION, SV_ST.OSP]) ∧
  (∀ s, s.conOpen 0 = true → s.get SV_ST.SESSION = 0 → Ends .conBye s fun t => t = s.conErr "SESSION") ∧
  (∀ s, s.conOpen 0 = true → Ends .conHelp s fun t => t = (s.conLine s.helpText).conOk ∧ t.flds = s.flds ∧ t.cnts = s.cnts) ∧
  (∀ s hasPin pin, s.conOpen 1 = true → s.get SV_CFG.SVC_EN ≠ 0 → s.get SV_ST.LOCKOUT = 0 → s.get SV_CFG.PIN = 0 →
    Ends (.conService hasPin pin) s fun t => t.get SV_ST.SESSION = 2 ∧ t.svc.pinRun = 0 ∧ s.KeepsFlds t [SV_ST.SESSION]) ∧
  (∀ s pin, s.conOpen 1 = true → s.get SV_CFG.SVC_EN ≠ 0 → s.get SV_ST.LOCKOUT = 0 → s.get SV_CFG.PIN = pin → Ends (.conService true pin)
    s fun t => t.get SV_ST.SESSION = 2 ∧ t.svc.pinRun = 0) ∧
  (∀ s pin, s.conOpen 1 = true → s.get SV_CFG.SVC_EN ≠ 0 → s.get SV_ST.LOCKOUT = 0 → s.get SV_CFG.PIN ≠ 0 → s.get SV_CFG.PIN ≠ pin →
    s.svc.pinRun = 2 → Ends (.conService true pin) s fun t => t.get SV_ST.LOCKOUT = 1 ∧ t.get SV_ST.SESSION = s.get SV_ST.SESSION ∧
      t.cnt R.SV_PIN_FAIL_CNT = min (s.cnt R.SV_PIN_FAIL_CNT + 1) 0xFFFF ∧ t.svc.pinRun = 0) ∧
  (∀ s, s.conOpen 1 = true → s.get SV_ST.SESSION = 1 → Ends .conView s fun t => t = (s.set SV_ST.SESSION 1).conOk) ∧
  (∀ s, s.conOpen 2 = true → s.get SV_ST.SESSION = 2 → Ends .conView s fun t =>
    t = ((s.conFreeHeld.sbDetach).set SV_ST.SESSION 1).conOk ∧ t.get SV_ST.SESSION = 1) ∧
  (∀ s, s.conOpen 1 = true → s.get SV_UART.RC = 0 → Ends (.conBaud 9600) s fun t =>
    t.get SV_UART.RATE = 3 ∧ s.KeepsFlds t [SV_UART.RATE]) ∧
  (∀ s r, s.conOpen 1 = true → s.get SV_UART.RC ≠ 0 → Ends (.conBaud r) s fun t => t = s.conErr "WRONG_STATE") ∧
  (∀ s, s.conOpen 1 = true → Ends .conEchoOn s fun t => t.get SV_CFG.ECHO = 1 ∧ s.KeepsFlds t [SV_CFG.ECHO]) ∧
  (∀ s, s.conOpen 1 = true → Ends .conEchoOff s fun t => t.get SV_CFG.ECHO = 0 ∧ s.KeepsFlds t [SV_CFG.ECHO]) ∧
  (∀ s, s.alive = true → s.svc.passed = none → s.mode ≠ .selftest → Ends .ctrlC s fun t => t = s) ∧
  (∀ s tag, s.conAlive = true → s.svc.passed = some tag → s.mode ≠ .selftest → Ends .ctrlC s fun t =>
    t.svc.passed = none ∧ t.cnt R.SV_CMD_REJ_CNT = min (s.cnt R.SV_CMD_REJ_CNT + 1) 0xFFFF ∧ t.flds = s.flds) ∧
  (∀ s, s.mode = .selftest → Ends .ctrlC s fun t => t = s.selftestAbort.resetBegin rstSelftest) ∧
  (∀ s text, s.conOpen 0 = true → s.conRouted = true → (s.mbox 4).length < 4 → Ends (.consoleLinePassed text) s fun t =>
    t = (((s.mboxAdd 4 2 0 ((text.take 60).map fun c => BitVec.ofNat 8 c)).modSvc fun v => { v with passed := some (s.nextTag 4) }).postRouted
      8)) ∧
  (∀ s text, s.conOpen 0 = true → s.conRouted = true → 4 ≤ (s.mbox 4).length → Ends (.consoleLinePassed text) s fun t =>
    t = s.conErr "BUSY") ∧
  (∀ s tag, s.alive = true → s.svc.passed = some tag → Ends .consolePassTimeout s fun t => t.svc.passed = none ∧
    t.cnt (R.TK_REQ_TO_CNT 4) = min (s.cnt (R.TK_REQ_TO_CNT 4) + 1) 0xFFFF ∧ t.flds = s.flds) ∧
  (∀ s, s.alive = true → s.svc.passed = none → Ends .consolePassTimeout s fun t => t = s) ∧
  (∀ s, s.alive = true → s.get SV_ST.SESSION = 1 → s.get SV_CFG.IDLE_TO ≠ 0 → s.svc.passed = none → Ends .sessionIdleTimeout s fun t =>
    t.get SV_ST.SESSION = 0 ∧ t.get SV_ST.OSP = 0 ∧ s.KeepsFlds t [SV_ST.SESSION, SV_ST.OSP]) ∧
  (∀ s, s.alive = true → Ends .pinLockoutEnd s fun t => t.get SV_ST.LOCKOUT = 0 ∧ s.KeepsFlds t [SV_ST.LOCKOUT] ∧ t.cnts = s.cnts)

/-- R543 to R546. Console commands in a service session that act on ports: hold and free, the power path, Type-C, PD and the bridge. -/
def Obligations.ConsolePowerCommands : Prop :=
  (∀ s n, s.conOpen 2 = true → s.dsHere n = true → Ends (.conHold n) s fun t => t = ((s.holdOne n).modeNote s).conOk) ∧
  (∀ s n, s.conOpen 2 = true → s.dsHere n = false → Ends (.conHold n) s fun t => t = s.conErr "RANGE") ∧
  (∀ s, s.conOpen 2 = true → Ends .conHoldAll s fun t => t = ((s.dsList.foldl holdOne s).modeNote s).conOk) ∧
  (∀ s n, s.conOpen 2 = true → s.dsHere n = true → s.held n = true → Ends (.conFree n) s fun t =>
    t = ((s.conFreeOne n).freeAfter s).conOk) ∧
  (∀ s n, s.conOpen 2 = true → s.dsHere n = true → s.held n = false → Ends (.conFree n) s fun t => t = s.conErr "SESSION") ∧
  (∀ s, s.conOpen 2 = true → Ends .conFreeAll s fun t => t = s.conFreeHeld.conOk) ∧
  (∀ s k, s.conHolds k = true → Ends (.conPpOn k) s fun t => t = s.conDo [(R.PP_CMD k, 1)]) ∧
  (∀ s k, s.conHolds k = true → Ends (.conPpOff k) s fun t => t = s.conDo [(R.PP_CMD k, 2)]) ∧
  (∀ s k, s.conHolds k = true → Ends (.conPpRelease k) s fun t => t = s.conDo [(R.PP_CMD k, 3)]) ∧
  (∀ s k, s.conHolds k = true → Ends (.conPpClear k) s fun t => t = s.conDo [(R.PP_CMD k, 4)]) ∧
  (∀ s k, s.conOpen 2 = true → k < 96 → s.kHere k = true → s.held k = false → Ends (.conPpOn k) s fun t => t = s.conErr "SESSION") ∧
  (∀ s n, s.conHolds n = true → n ≤ 95 → Ends (.conSteamRelease n) s fun t => t = s.conDo [(R.P_TC_CMD n, 1)]) ∧
  (∀ s n, s.conHolds n = true → n ≤ 95 → Ends (.conTcRecheck n) s fun t => t = s.conDo [(R.P_TC_CMD n, 2)]) ∧
  (∀ s k, s.conHolds k = true → s.partner k = true → s.get (PD_ST.PWR_ROLE k) ≠ 0 → s.get (PD_ST.IN_TRANS k) = 0 →
    s.get (PD_ST.HR_SEQ k) = 0 → Ends (.conPdCaps k) s fun t => t = conEnd (s.sendEntry k (s.offerEntry k 0))) ∧
  (∀ s k, s.conHolds k = true → s.partner k = false → Ends (.conPdCaps k) s fun t =>
    t = (s.inc (R.PD_REJ_CNT k)).conErr "WRONG_STATE" ∧ t.flds = s.flds) ∧
  (∀ s k, s.conHolds k = true → s.get (PD_ST.EPR_MODE k) ≠ 0 → Ends (.conPdEprExit k) s fun t =>
    t = conEnd (s.sendEntry k (s.pmEntry k Pm.eprExit 0))) ∧
  (∀ s k, s.conHolds k = true → s.get (PD_ST.EPR_MODE k) = 0 → Ends (.conPdEprExit k) s fun t =>
    t = (s.inc (R.PD_REJ_CNT k)).conErr "WRONG_STATE") ∧
  (∀ s k, s.conHolds k = true → Ends (.conPdHardreset k) s fun t => t = s.conDo [(R.PD_CMD k, 1)]) ∧
  (∀ s c, s.conOpen 2 = true → s.channels.contains c = true → Ends (.conSbC c) s fun t =>
    t = (s.sbDetach.set (G_SB_CFG.CONSOLE c) 1).conOk ∧ t.get (G_SB_CFG.CONSOLE c) = 1) ∧
  (∀ s c, s.conOpen 2 = true → s.channels.contains c = false → Ends (.conSbC c) s fun t => t = s.conErr "RANGE") ∧
  (∀ s, s.conOpen 2 = true → Ends .conSbOff s fun t => t = s.sbDetach.conOk)

/-- R543 to R546. The other console commands that write (registers with the guard, ATB, counters, injection, update, self-test, modes, tests), and the lines received. -/
def Obligations.ConsoleServiceCommands : Prop :=
  (∀ s a v, s.conOpen 2 = true → Ends (.conWr a v) s fun t => t = s.conDo [(a, v)]) ∧
  (∀ s route i, s.conOpen 2 = true → Ends (.conAtbRoute route i) s fun t => t = s.conDo [(R.SV_ATB, 2 ^ 31 + route * 2 ^ 16 + i)]) ∧
  (∀ s, s.conOpen 2 = true → Ends .conAtbOff s fun t => t = s.conDo [(R.SV_ATB, 0)]) ∧
  (∀ s a, s.conOpen 2 = true → Ends (.conCntClearOne a) s fun t => t = s.conDo [(R.G_CNT_ADDR, a), (R.G_CNT_CTL, 1)]) ∧
  (∀ s p, s.conOpen 2 = true → Ends (.conCntClearPrefix p) s fun t => t = s.conDo [(R.G_CNT_CTL, 2 + 2 ^ 8 * p)]) ∧
  (∀ s, s.conOpen 2 = true → Ends .conCntClearAll s fun t => t = s.conDo [(R.G_CNT_CTL, 3)]) ∧
  (∀ s i inst, s.conOpen 2 = true → i < 64 → inst < 2 ^ 20 → Ends (.conFaultInj i inst) s fun t =>
    ∃ x, x = s.conWrites [(R.FC_INJ, 1 + 4 * i + 2 ^ 8 * inst)] ∧ t = conEnd (x.1.conNums [x.1.get FC_INJ_ST.STATE], x.2)) ∧
  (∀ s, s.conOpen 2 = true → Ends .conFaultDisarm s fun t =>
    ∃ x, x = s.conWrites [(R.FC_INJ, 2)] ∧ t = conEnd (x.1.conNums [x.1.get FC_INJ_ST.STATE], x.2)) ∧
  (∀ s, s.conOpen 2 = true → Ends .conFaultRestart s fun t => t = s.conDo [(R.FC_CMD, 1)]) ∧
  (∀ s, s.conOpen 2 = true → Ends .conUpdate s fun t => t = s.conDo [(R.G_UPD_CTL, 1)]) ∧
  (∀ s b off, s.conOpen 2 = true → off < 2 ^ 19 → Ends (.conUpdateErase b off) s fun t =>
    t = s.conDo [(R.G_UPD_ADDR, b * 2 ^ 20 + off), (R.G_UPD_CTL, 2)]) ∧
  (∀ s b off, s.conOpen 2 = true → 2 ^ 19 ≤ off → Ends (.conUpdateErase b off) s fun t => t = s.conErr "RANGE") ∧
  (∀ s b off data, s.conOpen 2 = true → off < 2 ^ 19 → data.length = 256 → Ends (.conUpdatePage b off data) s fun t =>
    t = s.conDo (((List.range 64).map fun i =>
      (R.G_UPD_BUF i, ((List.range 4).map fun j => (data.getD (4 * i + j) 0).toNat * 256 ^ j).sum)) ++
      [(R.G_UPD_ADDR, b * 2 ^ 20 + off), (R.G_UPD_CTL, 3)])) ∧
  (∀ s b, s.conOpen 2 = true → Ends (.conUpdateVerify b) s fun t => t = s.conDo [(R.G_UPD_ADDR, b * 2 ^ 20), (R.G_UPD_CTL, 4)]) ∧
  (∀ s, s.conOpen 2 = true → Ends .conUpdateEnd s fun t => t = s.conDo [(R.G_UPD_CTL, 5)]) ∧
  (∀ s, s.conOpen 2 = true → Ends .conSelftest s fun t => t = s.conDo [(R.G_MODE_CTL, 3)]) ∧
  (∀ s, s.conOpen 2 = true → Ends .conReset s fun t => t = s.conDo [(R.G_MODE_CTL, 4)]) ∧
  (∀ s, s.conOpen 2 = true → Ends .conSafeEnter s fun t => t = s.conDo [(R.G_MODE_CTL, 1)]) ∧
  (∀ s, s.conOpen 2 = true → Ends .conSafeRelease s fun t => t = s.conDo [(R.G_MODE_CTL, 2)]) ∧
  (∀ s, s.conOpen 2 = true → Ends .conWake s fun t => t = s.conDo [(R.G_MODE_CTL, 5)]) ∧
  (∀ s, s.mode = .safe → s.svc.passed = none → 2 ≤ s.get SV_ST.SESSION → Ends .conSafeRelease s fun t => t = s.conDo [(R.G_MODE_CTL, 2)]) ∧
  (∀ s, s.mode = .safe → s.svc.passed = none → Ends .conWake s fun t => t = s.conErr "WRONG_STATE") ∧
  (∀ s n hasK k v ok, s.conOpen 2 = true → n ∈ [106, 107, 108, 308, 309] → s.mode ≠ .selftest → Ends (.conTest n hasK k v ok) s fun t =>
    t = s.conErr "WRONG_STATE") ∧
  (∀ s n k v ok, s.conHolds k = true → n ∈ [202, 204] → k < 96 → Ends (.conTest n true k v ok) s fun t => t = s.testRun n k v ok) ∧
  (∀ s hasK k v ok, s.conOpen 2 = true → Ends (.conTest 601 hasK k v ok) s fun t => t = s.testRun 601 k v ok) ∧
  (∀ s text, s.conAlive = true → s.svc.passed = none → Ends (.consoleLine text true) s fun t =>
    t.cnt R.SV_LINE_ERR_CNT = min (s.cnt R.SV_LINE_ERR_CNT + 1) 0xFFFF ∧ t.flds = s.flds) ∧
  (∀ s, s.conAlive = true → s.svc.passed = none → Ends (.consoleLine [] false) s fun t => t.flds = s.flds ∧ t.cnts = s.cnts) ∧
  (∀ s text bad tag, s.alive = true → s.svc.passed = some tag → Ends (.consoleLine text bad) s fun t => t = s)
end

