-- ==== Sys2Proof/Laws/State.lean ====
section
/-!
SUPPORT. One lemma per field of State and update: what each update writes and what it leaves, so that no later proof
unfolds a record update; and the read-over-write laws of the tables.
-/

namespace Sys2Proof

@[simp] theorem Tbl.get_erase_same {α : Type} (t : Tbl α) (d : α) (k : Nat) : (t.erase k).get d k = d := by
  induction t with
  | nil => rfl
  | cons e r ih =>
    obtain ⟨k', v⟩ := e
    by_cases h : k' = k
    · simp [Tbl.erase, h, ih]
    · simp [Tbl.erase, Tbl.get, h, ih]

theorem Tbl.get_erase_other {α : Type} (t : Tbl α) (d : α) (k j : Nat) (hj : j ≠ k) :
    (t.erase k).get d j = t.get d j := by
  induction t with
  | nil => rfl
  | cons e r ih =>
    obtain ⟨k', v⟩ := e
    by_cases h : k' = k
    · have h2 : k' ≠ j := fun h3 => hj (h3.symm.trans h)
      simp [Tbl.erase, Tbl.get, h, ih]
      intro h4; exact absurd h4.symm hj
    · simp [Tbl.erase, Tbl.get, h, ih]

theorem Tbl.get_ins_same {α : Type} (t : Tbl α) (d v : α) (k : Nat) : ((t.erase k).ins k v).get d k = v := by
  induction t with
  | nil => simp [Tbl.erase, Tbl.ins, Tbl.get]
  | cons e r ih =>
    obtain ⟨k', w⟩ := e
    by_cases h : k' = k
    · simp [Tbl.erase, h, ih]
    · by_cases h2 : k < k'
      · simp [Tbl.erase, Tbl.ins, Tbl.get, h, h2]
      · simp [Tbl.erase, Tbl.ins, Tbl.get, h, h2, ih]

theorem Tbl.get_ins_other {α : Type} (t : Tbl α) (d v : α) (k j : Nat) (hj : j ≠ k) :
    (t.ins k v).get d j = t.get d j := by
  induction t with
  | nil => simp [Tbl.ins, Tbl.get]; intro h; exact absurd h.symm hj
  | cons e r ih =>
    obtain ⟨k', w⟩ := e
    by_cases h2 : k < k'
    · simp only [Tbl.ins, h2, if_true, Tbl.get]
      simp only [if_neg (fun h : k = j => hj h.symm)]
    · simp only [Tbl.ins, h2, if_false, Tbl.get, ih]

/-- Reading the key just written gives the value written. -/
@[simp] theorem Tbl.get_set_same {α : Type} [DecidableEq α] (t : Tbl α) (d : α) (k : Nat) (v : α) :
    (t.set d k v).get d k = v := by
  by_cases h : v = d
  · simp [Tbl.set, h]
  · simp [Tbl.set, h, Tbl.get_ins_same t d v k]

/-- Writing one key leaves every other. -/
theorem Tbl.get_set_other {α : Type} [DecidableEq α] (t : Tbl α) (d c : α) (k j : Nat) (v : α) (hj : j ≠ k) :
    (t.set d k v).get c j = t.get c j := by
  by_cases h : v = d
  · simp [Tbl.set, h, Tbl.get_erase_other t c k j hj]
  · simp [Tbl.set, h, Tbl.get_ins_other _ c v k j hj, Tbl.get_erase_other t c k j hj]

/-- Read over write of a table. -/
theorem Tbl.get_set {α : Type} [DecidableEq α] (t : Tbl α) (d : α) (k j : Nat) (v : α) :
    (t.set d k v).get d j = if j = k then v else t.get d j := by
  by_cases h : j = k
  · subst h; simp
  · simp [h, Tbl.get_set_other t d d k j v h]

namespace Machine.State

variable (s : State)

@[simp] theorem set_variant (f : Fld) (v : Nat) : (s.set f v).variant = s.variant := rfl
@[simp] theorem set_mode (f : Fld) (v : Nat) : (s.set f v).mode = s.mode := rfl
@[simp] theorem set_dormant (f : Fld) (v : Nat) : (s.set f v).dormant = s.dormant := rfl
@[simp] theorem set_tb (f : Fld) (v : Nat) : (s.set f v).tb = s.tb := rfl
@[simp] theorem set_pins (f : Fld) (v : Nat) : (s.set f v).pins = s.pins := rfl
@[simp] theorem set_staged (f : Fld) (v : Nat) : (s.set f v).staged = s.staged := rfl
@[simp] theorem set_cnts (f : Fld) (v : Nat) : (s.set f v).cnts = s.cnts := rfl
@[simp] theorem set_bytes (f : Fld) (v : Nat) : (s.set f v).bytes = s.bytes := rfl
@[simp] theorem set_fab (f : Fld) (v : Nat) : (s.set f v).fab = s.fab := rfl
@[simp] theorem set_log (f : Fld) (v : Nat) : (s.set f v).log = s.log := rfl
@[simp] theorem set_eps (f : Fld) (v : Nat) : (s.set f v).eps = s.eps := rfl
@[simp] theorem set_flt (f : Fld) (v : Nat) : (s.set f v).flt = s.flt := rfl
@[simp] theorem set_threads (f : Fld) (v : Nat) : (s.set f v).threads = s.threads := rfl
@[simp] theorem set_tk (f : Fld) (v : Nat) : (s.set f v).tk = s.tk := rfl
@[simp] theorem set_ports (f : Fld) (v : Nat) : (s.set f v).ports = s.ports := rfl
@[simp] theorem set_ups (f : Fld) (v : Nat) : (s.set f v).ups = s.ups := rfl
@[simp] theorem set_engs (f : Fld) (v : Nat) : (s.set f v).engs = s.engs := rfl
@[simp] theorem set_paths (f : Fld) (v : Nat) : (s.set f v).paths = s.paths := rfl
@[simp] theorem set_chans (f : Fld) (v : Nat) : (s.set f v).chans = s.chans := rfl
@[simp] theorem set_tts (f : Fld) (v : Nat) : (s.set f v).tts = s.tts := rfl
@[simp] theorem set_queues (f : Fld) (v : Nat) : (s.set f v).queues = s.queues := rfl
@[simp] theorem set_egresses (f : Fld) (v : Nat) : (s.set f v).egresses = s.egresses := rfl
@[simp] theorem set_pols (f : Fld) (v : Nat) : (s.set f v).pols = s.pols := rfl
@[simp] theorem set_klinks (f : Fld) (v : Nat) : (s.set f v).klinks = s.klinks := rfl
@[simp] theorem set_bsn (f : Fld) (v : Nat) : (s.set f v).bsn = s.bsn := rfl
@[simp] theorem set_boot (f : Fld) (v : Nat) : (s.set f v).boot = s.boot := rfl
@[simp] theorem set_brg (f : Fld) (v : Nat) : (s.set f v).brg = s.brg := rfl
@[simp] theorem set_flow (f : Fld) (v : Nat) : (s.set f v).flow = s.flow := rfl
@[simp] theorem set_kcl (f : Fld) (v : Nat) : (s.set f v).kcl = s.kcl := rfl
@[simp] theorem set_svc (f : Fld) (v : Nat) : (s.set f v).svc = s.svc := rfl
@[simp] theorem set_jtag (f : Fld) (v : Nat) : (s.set f v).jtag = s.jtag := rfl
@[simp] theorem set_freeCtr (f : Fld) (v : Nat) : (s.set f v).freeCtr = s.freeCtr := rfl
@[simp] theorem set_out (f : Fld) (v : Nat) : (s.set f v).out = s.out := rfl
@[simp] theorem set_pending (f : Fld) (v : Nat) : (s.set f v).pending = s.pending := rfl
@[simp] theorem stage_variant (f : Fld) (v : Nat) : (s.stage f v).variant = s.variant := rfl
@[simp] theorem stage_mode (f : Fld) (v : Nat) : (s.stage f v).mode = s.mode := rfl
@[simp] theorem stage_dormant (f : Fld) (v : Nat) : (s.stage f v).dormant = s.dormant := rfl
@[simp] theorem stage_tb (f : Fld) (v : Nat) : (s.stage f v).tb = s.tb := rfl
@[simp] theorem stage_pins (f : Fld) (v : Nat) : (s.stage f v).pins = s.pins := rfl
@[simp] theorem stage_flds (f : Fld) (v : Nat) : (s.stage f v).flds = s.flds := rfl
@[simp] theorem stage_cnts (f : Fld) (v : Nat) : (s.stage f v).cnts = s.cnts := rfl
@[simp] theorem stage_bytes (f : Fld) (v : Nat) : (s.stage f v).bytes = s.bytes := rfl
@[simp] theorem stage_fab (f : Fld) (v : Nat) : (s.stage f v).fab = s.fab := rfl
@[simp] theorem stage_log (f : Fld) (v : Nat) : (s.stage f v).log = s.log := rfl
@[simp] theorem stage_eps (f : Fld) (v : Nat) : (s.stage f v).eps = s.eps := rfl
@[simp] theorem stage_flt (f : Fld) (v : Nat) : (s.stage f v).flt = s.flt := rfl
@[simp] theorem stage_threads (f : Fld) (v : Nat) : (s.stage f v).threads = s.threads := rfl
@[simp] theorem stage_tk (f : Fld) (v : Nat) : (s.stage f v).tk = s.tk := rfl
@[simp] theorem stage_ports (f : Fld) (v : Nat) : (s.stage f v).ports = s.ports := rfl
@[simp] theorem stage_ups (f : Fld) (v : Nat) : (s.stage f v).ups = s.ups := rfl
@[simp] theorem stage_engs (f : Fld) (v : Nat) : (s.stage f v).engs = s.engs := rfl
@[simp] theorem stage_paths (f : Fld) (v : Nat) : (s.stage f v).paths = s.paths := rfl
@[simp] theorem stage_chans (f : Fld) (v : Nat) : (s.stage f v).chans = s.chans := rfl
@[simp] theorem stage_tts (f : Fld) (v : Nat) : (s.stage f v).tts = s.tts := rfl
@[simp] theorem stage_queues (f : Fld) (v : Nat) : (s.stage f v).queues = s.queues := rfl
@[simp] theorem stage_egresses (f : Fld) (v : Nat) : (s.stage f v).egresses = s.egresses := rfl
@[simp] theorem stage_pols (f : Fld) (v : Nat) : (s.stage f v).pols = s.pols := rfl
@[simp] theorem stage_klinks (f : Fld) (v : Nat) : (s.stage f v).klinks = s.klinks := rfl
@[simp] theorem stage_bsn (f : Fld) (v : Nat) : (s.stage f v).bsn = s.bsn := rfl
@[simp] theorem stage_boot (f : Fld) (v : Nat) : (s.stage f v).boot = s.boot := rfl
@[simp] theorem stage_brg (f : Fld) (v : Nat) : (s.stage f v).brg = s.brg := rfl
@[simp] theorem stage_flow (f : Fld) (v : Nat) : (s.stage f v).flow = s.flow := rfl
@[simp] theorem stage_kcl (f : Fld) (v : Nat) : (s.stage f v).kcl = s.kcl := rfl
@[simp] theorem stage_svc (f : Fld) (v : Nat) : (s.stage f v).svc = s.svc := rfl
@[simp] theorem stage_jtag (f : Fld) (v : Nat) : (s.stage f v).jtag = s.jtag := rfl
@[simp] theorem stage_freeCtr (f : Fld) (v : Nat) : (s.stage f v).freeCtr = s.freeCtr := rfl
@[simp] theorem stage_out (f : Fld) (v : Nat) : (s.stage f v).out = s.out := rfl
@[simp] theorem stage_pending (f : Fld) (v : Nat) : (s.stage f v).pending = s.pending := rfl
@[simp] theorem unstage_variant (f : Fld) : (s.unstage f).variant = s.variant := rfl
@[simp] theorem unstage_mode (f : Fld) : (s.unstage f).mode = s.mode := rfl
@[simp] theorem unstage_dormant (f : Fld) : (s.unstage f).dormant = s.dormant := rfl
@[simp] theorem unstage_tb (f : Fld) : (s.unstage f).tb = s.tb := rfl
@[simp] theorem unstage_pins (f : Fld) : (s.unstage f).pins = s.pins := rfl
@[simp] theorem unstage_flds (f : Fld) : (s.unstage f).flds = s.flds := rfl
@[simp] theorem unstage_cnts (f : Fld) : (s.unstage f).cnts = s.cnts := rfl
@[simp] theorem unstage_bytes (f : Fld) : (s.unstage f).bytes = s.bytes := rfl
@[simp] theorem unstage_fab (f : Fld) : (s.unstage f).fab = s.fab := rfl
@[simp] theorem unstage_log (f : Fld) : (s.unstage f).log = s.log := rfl
@[simp] theorem unstage_eps (f : Fld) : (s.unstage f).eps = s.eps := rfl
@[simp] theorem unstage_flt (f : Fld) : (s.unstage f).flt = s.flt := rfl
@[simp] theorem unstage_threads (f : Fld) : (s.unstage f).threads = s.threads := rfl
@[simp] theorem unstage_tk (f : Fld) : (s.unstage f).tk = s.tk := rfl
@[simp] theorem unstage_ports (f : Fld) : (s.unstage f).ports = s.ports := rfl
@[simp] theorem unstage_ups (f : Fld) : (s.unstage f).ups = s.ups := rfl
@[simp] theorem unstage_engs (f : Fld) : (s.unstage f).engs = s.engs := rfl
@[simp] theorem unstage_paths (f : Fld) : (s.unstage f).paths = s.paths := rfl
@[simp] theorem unstage_chans (f : Fld) : (s.unstage f).chans = s.chans := rfl
@[simp] theorem unstage_tts (f : Fld) : (s.unstage f).tts = s.tts := rfl
@[simp] theorem unstage_queues (f : Fld) : (s.unstage f).queues = s.queues := rfl
@[simp] theorem unstage_egresses (f : Fld) : (s.unstage f).egresses = s.egresses := rfl
@[simp] theorem unstage_pols (f : Fld) : (s.unstage f).pols = s.pols := rfl
@[simp] theorem unstage_klinks (f : Fld) : (s.unstage f).klinks = s.klinks := rfl
@[simp] theorem unstage_bsn (f : Fld) : (s.unstage f).bsn = s.bsn := rfl
@[simp] theorem unstage_boot (f : Fld) : (s.unstage f).boot = s.boot := rfl
@[simp] theorem unstage_brg (f : Fld) : (s.unstage f).brg = s.brg := rfl
@[simp] theorem unstage_flow (f : Fld) : (s.unstage f).flow = s.flow := rfl
@[simp] theorem unstage_kcl (f : Fld) : (s.unstage f).kcl = s.kcl := rfl
@[simp] theorem unstage_svc (f : Fld) : (s.unstage f).svc = s.svc := rfl
@[simp] theorem unstage_jtag (f : Fld) : (s.unstage f).jtag = s.jtag := rfl
@[simp] theorem unstage_freeCtr (f : Fld) : (s.unstage f).freeCtr = s.freeCtr := rfl
@[simp] theorem unstage_out (f : Fld) : (s.unstage f).out = s.out := rfl
@[simp] theorem unstage_pending (f : Fld) : (s.unstage f).pending = s.pending := rfl
@[simp] theorem inc_variant (a : Nat) : (s.inc a).variant = s.variant := rfl
@[simp] theorem inc_mode (a : Nat) : (s.inc a).mode = s.mode := rfl
@[simp] theorem inc_dormant (a : Nat) : (s.inc a).dormant = s.dormant := rfl
@[simp] theorem inc_tb (a : Nat) : (s.inc a).tb = s.tb := rfl
@[simp] theorem inc_pins (a : Nat) : (s.inc a).pins = s.pins := rfl
@[simp] theorem inc_flds (a : Nat) : (s.inc a).flds = s.flds := rfl
@[simp] theorem inc_staged (a : Nat) : (s.inc a).staged = s.staged := rfl
@[simp] theorem inc_bytes (a : Nat) : (s.inc a).bytes = s.bytes := rfl
@[simp] theorem inc_fab (a : Nat) : (s.inc a).fab = s.fab := rfl
@[simp] theorem inc_log (a : Nat) : (s.inc a).log = s.log := rfl
@[simp] theorem inc_eps (a : Nat) : (s.inc a).eps = s.eps := rfl
@[simp] theorem inc_flt (a : Nat) : (s.inc a).flt = s.flt := rfl
@[simp] theorem inc_threads (a : Nat) : (s.inc a).threads = s.threads := rfl
@[simp] theorem inc_tk (a : Nat) : (s.inc a).tk = s.tk := rfl
@[simp] theorem inc_ports (a : Nat) : (s.inc a).ports = s.ports := rfl
@[simp] theorem inc_ups (a : Nat) : (s.inc a).ups = s.ups := rfl
@[simp] theorem inc_engs (a : Nat) : (s.inc a).engs = s.engs := rfl
@[simp] theorem inc_paths (a : Nat) : (s.inc a).paths = s.paths := rfl
@[simp] theorem inc_chans (a : Nat) : (s.inc a).chans = s.chans := rfl
@[simp] theorem inc_tts (a : Nat) : (s.inc a).tts = s.tts := rfl
@[simp] theorem inc_queues (a : Nat) : (s.inc a).queues = s.queues := rfl
@[simp] theorem inc_egresses (a : Nat) : (s.inc a).egresses = s.egresses := rfl
@[simp] theorem inc_pols (a : Nat) : (s.inc a).pols = s.pols := rfl
@[simp] theorem inc_klinks (a : Nat) : (s.inc a).klinks = s.klinks := rfl
@[simp] theorem inc_bsn (a : Nat) : (s.inc a).bsn = s.bsn := rfl
@[simp] theorem inc_boot (a : Nat) : (s.inc a).boot = s.boot := rfl
@[simp] theorem inc_brg (a : Nat) : (s.inc a).brg = s.brg := rfl
@[simp] theorem inc_flow (a : Nat) : (s.inc a).flow = s.flow := rfl
@[simp] theorem inc_kcl (a : Nat) : (s.inc a).kcl = s.kcl := rfl
@[simp] theorem inc_svc (a : Nat) : (s.inc a).svc = s.svc := rfl
@[simp] theorem inc_jtag (a : Nat) : (s.inc a).jtag = s.jtag := rfl
@[simp] theorem inc_freeCtr (a : Nat) : (s.inc a).freeCtr = s.freeCtr := rfl
@[simp] theorem inc_out (a : Nat) : (s.inc a).out = s.out := rfl
@[simp] theorem inc_pending (a : Nat) : (s.inc a).pending = s.pending := rfl
@[simp] theorem incBy_variant (a n : Nat) : (s.incBy a n).variant = s.variant := rfl
@[simp] theorem incBy_mode (a n : Nat) : (s.incBy a n).mode = s.mode := rfl
@[simp] theorem incBy_dormant (a n : Nat) : (s.incBy a n).dormant = s.dormant := rfl
@[simp] theorem incBy_tb (a n : Nat) : (s.incBy a n).tb = s.tb := rfl
@[simp] theorem incBy_pins (a n : Nat) : (s.incBy a n).pins = s.pins := rfl
@[simp] theorem incBy_flds (a n : Nat) : (s.incBy a n).flds = s.flds := rfl
@[simp] theorem incBy_staged (a n : Nat) : (s.incBy a n).staged = s.staged := rfl
@[simp] theorem incBy_bytes (a n : Nat) : (s.incBy a n).bytes = s.bytes := rfl
@[simp] theorem incBy_fab (a n : Nat) : (s.incBy a n).fab = s.fab := rfl
@[simp] theorem incBy_log (a n : Nat) : (s.incBy a n).log = s.log := rfl
@[simp] theorem incBy_eps (a n : Nat) : (s.incBy a n).eps = s.eps := rfl
@[simp] theorem incBy_flt (a n : Nat) : (s.incBy a n).flt = s.flt := rfl
@[simp] theorem incBy_threads (a n : Nat) : (s.incBy a n).threads = s.threads := rfl
@[simp] theorem incBy_tk (a n : Nat) : (s.incBy a n).tk = s.tk := rfl
@[simp] theorem incBy_ports (a n : Nat) : (s.incBy a n).ports = s.ports := rfl
@[simp] theorem incBy_ups (a n : Nat) : (s.incBy a n).ups = s.ups := rfl
@[simp] theorem incBy_engs (a n : Nat) : (s.incBy a n).engs = s.engs := rfl
@[simp] theorem incBy_paths (a n : Nat) : (s.incBy a n).paths = s.paths := rfl
@[simp] theorem incBy_chans (a n : Nat) : (s.incBy a n).chans = s.chans := rfl
@[simp] theorem incBy_tts (a n : Nat) : (s.incBy a n).tts = s.tts := rfl
@[simp] theorem incBy_queues (a n : Nat) : (s.incBy a n).queues = s.queues := rfl
@[simp] theorem incBy_egresses (a n : Nat) : (s.incBy a n).egresses = s.egresses := rfl
@[simp] theorem incBy_pols (a n : Nat) : (s.incBy a n).pols = s.pols := rfl
@[simp] theorem incBy_klinks (a n : Nat) : (s.incBy a n).klinks = s.klinks := rfl
@[simp] theorem incBy_bsn (a n : Nat) : (s.incBy a n).bsn = s.bsn := rfl
@[simp] theorem incBy_boot (a n : Nat) : (s.incBy a n).boot = s.boot := rfl
@[simp] theorem incBy_brg (a n : Nat) : (s.incBy a n).brg = s.brg := rfl
@[simp] theorem incBy_flow (a n : Nat) : (s.incBy a n).flow = s.flow := rfl
@[simp] theorem incBy_kcl (a n : Nat) : (s.incBy a n).kcl = s.kcl := rfl
@[simp] theorem incBy_svc (a n : Nat) : (s.incBy a n).svc = s.svc := rfl
@[simp] theorem incBy_jtag (a n : Nat) : (s.incBy a n).jtag = s.jtag := rfl
@[simp] theorem incBy_freeCtr (a n : Nat) : (s.incBy a n).freeCtr = s.freeCtr := rfl
@[simp] theorem incBy_out (a n : Nat) : (s.incBy a n).out = s.out := rfl
@[simp] theorem incBy_pending (a n : Nat) : (s.incBy a n).pending = s.pending := rfl
@[simp] theorem addBytes_variant (a n : Nat) : (s.addBytes a n).variant = s.variant := rfl
@[simp] theorem addBytes_mode (a n : Nat) : (s.addBytes a n).mode = s.mode := rfl
@[simp] theorem addBytes_dormant (a n : Nat) : (s.addBytes a n).dormant = s.dormant := rfl
@[simp] theorem addBytes_tb (a n : Nat) : (s.addBytes a n).tb = s.tb := rfl
@[simp] theorem addBytes_pins (a n : Nat) : (s.addBytes a n).pins = s.pins := rfl
@[simp] theorem addBytes_flds (a n : Nat) : (s.addBytes a n).flds = s.flds := rfl
@[simp] theorem addBytes_staged (a n : Nat) : (s.addBytes a n).staged = s.staged := rfl
@[simp] theorem addBytes_cnts (a n : Nat) : (s.addBytes a n).cnts = s.cnts := rfl
@[simp] theorem addBytes_fab (a n : Nat) : (s.addBytes a n).fab = s.fab := rfl
@[simp] theorem addBytes_log (a n : Nat) : (s.addBytes a n).log = s.log := rfl
@[simp] theorem addBytes_eps (a n : Nat) : (s.addBytes a n).eps = s.eps := rfl
@[simp] theorem addBytes_flt (a n : Nat) : (s.addBytes a n).flt = s.flt := rfl
@[simp] theorem addBytes_threads (a n : Nat) : (s.addBytes a n).threads = s.threads := rfl
@[simp] theorem addBytes_tk (a n : Nat) : (s.addBytes a n).tk = s.tk := rfl
@[simp] theorem addBytes_ports (a n : Nat) : (s.addBytes a n).ports = s.ports := rfl
@[simp] theorem addBytes_ups (a n : Nat) : (s.addBytes a n).ups = s.ups := rfl
@[simp] theorem addBytes_engs (a n : Nat) : (s.addBytes a n).engs = s.engs := rfl
@[simp] theorem addBytes_paths (a n : Nat) : (s.addBytes a n).paths = s.paths := rfl
@[simp] theorem addBytes_chans (a n : Nat) : (s.addBytes a n).chans = s.chans := rfl
@[simp] theorem addBytes_tts (a n : Nat) : (s.addBytes a n).tts = s.tts := rfl
@[simp] theorem addBytes_queues (a n : Nat) : (s.addBytes a n).queues = s.queues := rfl
@[simp] theorem addBytes_egresses (a n : Nat) : (s.addBytes a n).egresses = s.egresses := rfl
@[simp] theorem addBytes_pols (a n : Nat) : (s.addBytes a n).pols = s.pols := rfl
@[simp] theorem addBytes_klinks (a n : Nat) : (s.addBytes a n).klinks = s.klinks := rfl
@[simp] theorem addBytes_bsn (a n : Nat) : (s.addBytes a n).bsn = s.bsn := rfl
@[simp] theorem addBytes_boot (a n : Nat) : (s.addBytes a n).boot = s.boot := rfl
@[simp] theorem addBytes_brg (a n : Nat) : (s.addBytes a n).brg = s.brg := rfl
@[simp] theorem addBytes_flow (a n : Nat) : (s.addBytes a n).flow = s.flow := rfl
@[simp] theorem addBytes_kcl (a n : Nat) : (s.addBytes a n).kcl = s.kcl := rfl
@[simp] theorem addBytes_svc (a n : Nat) : (s.addBytes a n).svc = s.svc := rfl
@[simp] theorem addBytes_jtag (a n : Nat) : (s.addBytes a n).jtag = s.jtag := rfl
@[simp] theorem addBytes_freeCtr (a n : Nat) : (s.addBytes a n).freeCtr = s.freeCtr := rfl
@[simp] theorem addBytes_out (a n : Nat) : (s.addBytes a n).out = s.out := rfl
@[simp] theorem addBytes_pending (a n : Nat) : (s.addBytes a n).pending = s.pending := rfl
@[simp] theorem emit_variant (o : Out) : (s.emit o).variant = s.variant := rfl
@[simp] theorem emit_mode (o : Out) : (s.emit o).mode = s.mode := rfl
@[simp] theorem emit_dormant (o : Out) : (s.emit o).dormant = s.dormant := rfl
@[simp] theorem emit_tb (o : Out) : (s.emit o).tb = s.tb := rfl
@[simp] theorem emit_pins (o : Out) : (s.emit o).pins = s.pins := rfl
@[simp] theorem emit_flds (o : Out) : (s.emit o).flds = s.flds := rfl
@[simp] theorem emit_staged (o : Out) : (s.emit o).staged = s.staged := rfl
@[simp] theorem emit_cnts (o : Out) : (s.emit o).cnts = s.cnts := rfl
@[simp] theorem emit_bytes (o : Out) : (s.emit o).bytes = s.bytes := rfl
@[simp] theorem emit_fab (o : Out) : (s.emit o).fab = s.fab := rfl
@[simp] theorem emit_log (o : Out) : (s.emit o).log = s.log := rfl
@[simp] theorem emit_eps (o : Out) : (s.emit o).eps = s.eps := rfl
@[simp] theorem emit_flt (o : Out) : (s.emit o).flt = s.flt := rfl
@[simp] theorem emit_threads (o : Out) : (s.emit o).threads = s.threads := rfl
@[simp] theorem emit_tk (o : Out) : (s.emit o).tk = s.tk := rfl
@[simp] theorem emit_ports (o : Out) : (s.emit o).ports = s.ports := rfl
@[simp] theorem emit_ups (o : Out) : (s.emit o).ups = s.ups := rfl
@[simp] theorem emit_engs (o : Out) : (s.emit o).engs = s.engs := rfl
@[simp] theorem emit_paths (o : Out) : (s.emit o).paths = s.paths := rfl
@[simp] theorem emit_chans (o : Out) : (s.emit o).chans = s.chans := rfl
@[simp] theorem emit_tts (o : Out) : (s.emit o).tts = s.tts := rfl
@[simp] theorem emit_queues (o : Out) : (s.emit o).queues = s.queues := rfl
@[simp] theorem emit_egresses (o : Out) : (s.emit o).egresses = s.egresses := rfl
@[simp] theorem emit_pols (o : Out) : (s.emit o).pols = s.pols := rfl
@[simp] theorem emit_klinks (o : Out) : (s.emit o).klinks = s.klinks := rfl
@[simp] theorem emit_bsn (o : Out) : (s.emit o).bsn = s.bsn := rfl
@[simp] theorem emit_boot (o : Out) : (s.emit o).boot = s.boot := rfl
@[simp] theorem emit_brg (o : Out) : (s.emit o).brg = s.brg := rfl
@[simp] theorem emit_flow (o : Out) : (s.emit o).flow = s.flow := rfl
@[simp] theorem emit_kcl (o : Out) : (s.emit o).kcl = s.kcl := rfl
@[simp] theorem emit_svc (o : Out) : (s.emit o).svc = s.svc := rfl
@[simp] theorem emit_jtag (o : Out) : (s.emit o).jtag = s.jtag := rfl
@[simp] theorem emit_freeCtr (o : Out) : (s.emit o).freeCtr = s.freeCtr := rfl
@[simp] theorem emit_pending (o : Out) : (s.emit o).pending = s.pending := rfl
@[simp] theorem answer_variant (r : RC) : (s.answer r).variant = s.variant := rfl
@[simp] theorem answer_mode (r : RC) : (s.answer r).mode = s.mode := rfl
@[simp] theorem answer_dormant (r : RC) : (s.answer r).dormant = s.dormant := rfl
@[simp] theorem answer_tb (r : RC) : (s.answer r).tb = s.tb := rfl
@[simp] theorem answer_pins (r : RC) : (s.answer r).pins = s.pins := rfl
@[simp] theorem answer_flds (r : RC) : (s.answer r).flds = s.flds := rfl
@[simp] theorem answer_staged (r : RC) : (s.answer r).staged = s.staged := rfl
@[simp] theorem answer_cnts (r : RC) : (s.answer r).cnts = s.cnts := rfl
@[simp] theorem answer_bytes (r : RC) : (s.answer r).bytes = s.bytes := rfl
@[simp] theorem answer_log (r : RC) : (s.answer r).log = s.log := rfl
@[simp] theorem answer_eps (r : RC) : (s.answer r).eps = s.eps := rfl
@[simp] theorem answer_flt (r : RC) : (s.answer r).flt = s.flt := rfl
@[simp] theorem answer_threads (r : RC) : (s.answer r).threads = s.threads := rfl
@[simp] theorem answer_tk (r : RC) : (s.answer r).tk = s.tk := rfl
@[simp] theorem answer_ports (r : RC) : (s.answer r).ports = s.ports := rfl
@[simp] theorem answer_ups (r : RC) : (s.answer r).ups = s.ups := rfl
@[simp] theorem answer_engs (r : RC) : (s.answer r).engs = s.engs := rfl
@[simp] theorem answer_paths (r : RC) : (s.answer r).paths = s.paths := rfl
@[simp] theorem answer_chans (r : RC) : (s.answer r).chans = s.chans := rfl
@[simp] theorem answer_tts (r : RC) : (s.answer r).tts = s.tts := rfl
@[simp] theorem answer_queues (r : RC) : (s.answer r).queues = s.queues := rfl
@[simp] theorem answer_egresses (r : RC) : (s.answer r).egresses = s.egresses := rfl
@[simp] theorem answer_pols (r : RC) : (s.answer r).pols = s.pols := rfl
@[simp] theorem answer_klinks (r : RC) : (s.answer r).klinks = s.klinks := rfl
@[simp] theorem answer_bsn (r : RC) : (s.answer r).bsn = s.bsn := rfl
@[simp] theorem answer_boot (r : RC) : (s.answer r).boot = s.boot := rfl
@[simp] theorem answer_brg (r : RC) : (s.answer r).brg = s.brg := rfl
@[simp] theorem answer_flow (r : RC) : (s.answer r).flow = s.flow := rfl
@[simp] theorem answer_kcl (r : RC) : (s.answer r).kcl = s.kcl := rfl
@[simp] theorem answer_svc (r : RC) : (s.answer r).svc = s.svc := rfl
@[simp] theorem answer_jtag (r : RC) : (s.answer r).jtag = s.jtag := rfl
@[simp] theorem answer_freeCtr (r : RC) : (s.answer r).freeCtr = s.freeCtr := rfl
@[simp] theorem answer_out (r : RC) : (s.answer r).out = s.out := rfl
@[simp] theorem answer_pending (r : RC) : (s.answer r).pending = s.pending := rfl
@[simp] theorem answerData_variant (v : Nat) : (s.answerData v).variant = s.variant := rfl
@[simp] theorem answerData_mode (v : Nat) : (s.answerData v).mode = s.mode := rfl
@[simp] theorem answerData_dormant (v : Nat) : (s.answerData v).dormant = s.dormant := rfl
@[simp] theorem answerData_tb (v : Nat) : (s.answerData v).tb = s.tb := rfl
@[simp] theorem answerData_pins (v : Nat) : (s.answerData v).pins = s.pins := rfl
@[simp] theorem answerData_flds (v : Nat) : (s.answerData v).flds = s.flds := rfl
@[simp] theorem answerData_staged (v : Nat) : (s.answerData v).staged = s.staged := rfl
@[simp] theorem answerData_cnts (v : Nat) : (s.answerData v).cnts = s.cnts := rfl
@[simp] theorem answerData_bytes (v : Nat) : (s.answerData v).bytes = s.bytes := rfl
@[simp] theorem answerData_log (v : Nat) : (s.answerData v).log = s.log := rfl
@[simp] theorem answerData_eps (v : Nat) : (s.answerData v).eps = s.eps := rfl
@[simp] theorem answerData_flt (v : Nat) : (s.answerData v).flt = s.flt := rfl
@[simp] theorem answerData_threads (v : Nat) : (s.answerData v).threads = s.threads := rfl
@[simp] theorem answerData_tk (v : Nat) : (s.answerData v).tk = s.tk := rfl
@[simp] theorem answerData_ports (v : Nat) : (s.answerData v).ports = s.ports := rfl
@[simp] theorem answerData_ups (v : Nat) : (s.answerData v).ups = s.ups := rfl
@[simp] theorem answerData_engs (v : Nat) : (s.answerData v).engs = s.engs := rfl
@[simp] theorem answerData_paths (v : Nat) : (s.answerData v).paths = s.paths := rfl
@[simp] theorem answerData_chans (v : Nat) : (s.answerData v).chans = s.chans := rfl
@[simp] theorem answerData_tts (v : Nat) : (s.answerData v).tts = s.tts := rfl
@[simp] theorem answerData_queues (v : Nat) : (s.answerData v).queues = s.queues := rfl
@[simp] theorem answerData_egresses (v : Nat) : (s.answerData v).egresses = s.egresses := rfl
@[simp] theorem answerData_pols (v : Nat) : (s.answerData v).pols = s.pols := rfl
@[simp] theorem answerData_klinks (v : Nat) : (s.answerData v).klinks = s.klinks := rfl
@[simp] theorem answerData_bsn (v : Nat) : (s.answerData v).bsn = s.bsn := rfl
@[simp] theorem answerData_boot (v : Nat) : (s.answerData v).boot = s.boot := rfl
@[simp] theorem answerData_brg (v : Nat) : (s.answerData v).brg = s.brg := rfl
@[simp] theorem answerData_flow (v : Nat) : (s.answerData v).flow = s.flow := rfl
@[simp] theorem answerData_kcl (v : Nat) : (s.answerData v).kcl = s.kcl := rfl
@[simp] theorem answerData_svc (v : Nat) : (s.answerData v).svc = s.svc := rfl
@[simp] theorem answerData_jtag (v : Nat) : (s.answerData v).jtag = s.jtag := rfl
@[simp] theorem answerData_freeCtr (v : Nat) : (s.answerData v).freeCtr = s.freeCtr := rfl
@[simp] theorem answerData_out (v : Nat) : (s.answerData v).out = s.out := rfl
@[simp] theorem answerData_pending (v : Nat) : (s.answerData v).pending = s.pending := rfl
@[simp] theorem freeNext_variant  : (s.freeNext).variant = s.variant := rfl
@[simp] theorem freeNext_mode  : (s.freeNext).mode = s.mode := rfl
@[simp] theorem freeNext_dormant  : (s.freeNext).dormant = s.dormant := rfl
@[simp] theorem freeNext_tb  : (s.freeNext).tb = s.tb := rfl
@[simp] theorem freeNext_pins  : (s.freeNext).pins = s.pins := rfl
@[simp] theorem freeNext_flds  : (s.freeNext).flds = s.flds := rfl
@[simp] theorem freeNext_staged  : (s.freeNext).staged = s.staged := rfl
@[simp] theorem freeNext_cnts  : (s.freeNext).cnts = s.cnts := rfl
@[simp] theorem freeNext_bytes  : (s.freeNext).bytes = s.bytes := rfl
@[simp] theorem freeNext_fab  : (s.freeNext).fab = s.fab := rfl
@[simp] theorem freeNext_log  : (s.freeNext).log = s.log := rfl
@[simp] theorem freeNext_eps  : (s.freeNext).eps = s.eps := rfl
@[simp] theorem freeNext_flt  : (s.freeNext).flt = s.flt := rfl
@[simp] theorem freeNext_threads  : (s.freeNext).threads = s.threads := rfl
@[simp] theorem freeNext_tk  : (s.freeNext).tk = s.tk := rfl
@[simp] theorem freeNext_ports  : (s.freeNext).ports = s.ports := rfl
@[simp] theorem freeNext_ups  : (s.freeNext).ups = s.ups := rfl
@[simp] theorem freeNext_engs  : (s.freeNext).engs = s.engs := rfl
@[simp] theorem freeNext_paths  : (s.freeNext).paths = s.paths := rfl
@[simp] theorem freeNext_chans  : (s.freeNext).chans = s.chans := rfl
@[simp] theorem freeNext_tts  : (s.freeNext).tts = s.tts := rfl
@[simp] theorem freeNext_queues  : (s.freeNext).queues = s.queues := rfl
@[simp] theorem freeNext_egresses  : (s.freeNext).egresses = s.egresses := rfl
@[simp] theorem freeNext_pols  : (s.freeNext).pols = s.pols := rfl
@[simp] theorem freeNext_klinks  : (s.freeNext).klinks = s.klinks := rfl
@[simp] theorem freeNext_bsn  : (s.freeNext).bsn = s.bsn := rfl
@[simp] theorem freeNext_boot  : (s.freeNext).boot = s.boot := rfl
@[simp] theorem freeNext_brg  : (s.freeNext).brg = s.brg := rfl
@[simp] theorem freeNext_flow  : (s.freeNext).flow = s.flow := rfl
@[simp] theorem freeNext_kcl  : (s.freeNext).kcl = s.kcl := rfl
@[simp] theorem freeNext_svc  : (s.freeNext).svc = s.svc := rfl
@[simp] theorem freeNext_jtag  : (s.freeNext).jtag = s.jtag := rfl
@[simp] theorem freeNext_out  : (s.freeNext).out = s.out := rfl
@[simp] theorem freeNext_pending  : (s.freeNext).pending = s.pending := rfl
@[simp] theorem enterMode_variant (m : Mode) : (s.enterMode m).variant = s.variant := rfl
@[simp] theorem enterMode_dormant (m : Mode) : (s.enterMode m).dormant = s.dormant := rfl
@[simp] theorem enterMode_tb (m : Mode) : (s.enterMode m).tb = s.tb := rfl
@[simp] theorem enterMode_pins (m : Mode) : (s.enterMode m).pins = s.pins := rfl
@[simp] theorem enterMode_flds (m : Mode) : (s.enterMode m).flds = s.flds := rfl
@[simp] theorem enterMode_staged (m : Mode) : (s.enterMode m).staged = s.staged := rfl
@[simp] theorem enterMode_cnts (m : Mode) : (s.enterMode m).cnts = s.cnts := rfl
@[simp] theorem enterMode_bytes (m : Mode) : (s.enterMode m).bytes = s.bytes := rfl
@[simp] theorem enterMode_fab (m : Mode) : (s.enterMode m).fab = s.fab := rfl
@[simp] theorem enterMode_log (m : Mode) : (s.enterMode m).log = s.log := rfl
@[simp] theorem enterMode_eps (m : Mode) : (s.enterMode m).eps = s.eps := rfl
@[simp] theorem enterMode_flt (m : Mode) : (s.enterMode m).flt = s.flt := rfl
@[simp] theorem enterMode_threads (m : Mode) : (s.enterMode m).threads = s.threads := rfl
@[simp] theorem enterMode_tk (m : Mode) : (s.enterMode m).tk = s.tk := rfl
@[simp] theorem enterMode_ports (m : Mode) : (s.enterMode m).ports = s.ports := rfl
@[simp] theorem enterMode_ups (m : Mode) : (s.enterMode m).ups = s.ups := rfl
@[simp] theorem enterMode_engs (m : Mode) : (s.enterMode m).engs = s.engs := rfl
@[simp] theorem enterMode_paths (m : Mode) : (s.enterMode m).paths = s.paths := rfl
@[simp] theorem enterMode_chans (m : Mode) : (s.enterMode m).chans = s.chans := rfl
@[simp] theorem enterMode_tts (m : Mode) : (s.enterMode m).tts = s.tts := rfl
@[simp] theorem enterMode_queues (m : Mode) : (s.enterMode m).queues = s.queues := rfl
@[simp] theorem enterMode_egresses (m : Mode) : (s.enterMode m).egresses = s.egresses := rfl
@[simp] theorem enterMode_pols (m : Mode) : (s.enterMode m).pols = s.pols := rfl
@[simp] theorem enterMode_klinks (m : Mode) : (s.enterMode m).klinks = s.klinks := rfl
@[simp] theorem enterMode_bsn (m : Mode) : (s.enterMode m).bsn = s.bsn := rfl
@[simp] theorem enterMode_boot (m : Mode) : (s.enterMode m).boot = s.boot := rfl
@[simp] theorem enterMode_brg (m : Mode) : (s.enterMode m).brg = s.brg := rfl
@[simp] theorem enterMode_flow (m : Mode) : (s.enterMode m).flow = s.flow := rfl
@[simp] theorem enterMode_kcl (m : Mode) : (s.enterMode m).kcl = s.kcl := rfl
@[simp] theorem enterMode_svc (m : Mode) : (s.enterMode m).svc = s.svc := rfl
@[simp] theorem enterMode_jtag (m : Mode) : (s.enterMode m).jtag = s.jtag := rfl
@[simp] theorem enterMode_freeCtr (m : Mode) : (s.enterMode m).freeCtr = s.freeCtr := rfl
@[simp] theorem enterMode_out (m : Mode) : (s.enterMode m).out = s.out := rfl
@[simp] theorem enterMode_pending (m : Mode) : (s.enterMode m).pending = s.pending := rfl
@[simp] theorem setTb_variant (v : Nat) : (s.setTb v).variant = s.variant := rfl
@[simp] theorem setTb_mode (v : Nat) : (s.setTb v).mode = s.mode := rfl
@[simp] theorem setTb_dormant (v : Nat) : (s.setTb v).dormant = s.dormant := rfl
@[simp] theorem setTb_pins (v : Nat) : (s.setTb v).pins = s.pins := rfl
@[simp] theorem setTb_flds (v : Nat) : (s.setTb v).flds = s.flds := rfl
@[simp] theorem setTb_staged (v : Nat) : (s.setTb v).staged = s.staged := rfl
@[simp] theorem setTb_cnts (v : Nat) : (s.setTb v).cnts = s.cnts := rfl
@[simp] theorem setTb_bytes (v : Nat) : (s.setTb v).bytes = s.bytes := rfl
@[simp] theorem setTb_fab (v : Nat) : (s.setTb v).fab = s.fab := rfl
@[simp] theorem setTb_log (v : Nat) : (s.setTb v).log = s.log := rfl
@[simp] theorem setTb_eps (v : Nat) : (s.setTb v).eps = s.eps := rfl
@[simp] theorem setTb_flt (v : Nat) : (s.setTb v).flt = s.flt := rfl
@[simp] theorem setTb_threads (v : Nat) : (s.setTb v).threads = s.threads := rfl
@[simp] theorem setTb_tk (v : Nat) : (s.setTb v).tk = s.tk := rfl
@[simp] theorem setTb_ports (v : Nat) : (s.setTb v).ports = s.ports := rfl
@[simp] theorem setTb_ups (v : Nat) : (s.setTb v).ups = s.ups := rfl
@[simp] theorem setTb_engs (v : Nat) : (s.setTb v).engs = s.engs := rfl
@[simp] theorem setTb_paths (v : Nat) : (s.setTb v).paths = s.paths := rfl
@[simp] theorem setTb_chans (v : Nat) : (s.setTb v).chans = s.chans := rfl
@[simp] theorem setTb_tts (v : Nat) : (s.setTb v).tts = s.tts := rfl
@[simp] theorem setTb_queues (v : Nat) : (s.setTb v).queues = s.queues := rfl
@[simp] theorem setTb_egresses (v : Nat) : (s.setTb v).egresses = s.egresses := rfl
@[simp] theorem setTb_pols (v : Nat) : (s.setTb v).pols = s.pols := rfl
@[simp] theorem setTb_klinks (v : Nat) : (s.setTb v).klinks = s.klinks := rfl
@[simp] theorem setTb_bsn (v : Nat) : (s.setTb v).bsn = s.bsn := rfl
@[simp] theorem setTb_boot (v : Nat) : (s.setTb v).boot = s.boot := rfl
@[simp] theorem setTb_brg (v : Nat) : (s.setTb v).brg = s.brg := rfl
@[simp] theorem setTb_flow (v : Nat) : (s.setTb v).flow = s.flow := rfl
@[simp] theorem setTb_kcl (v : Nat) : (s.setTb v).kcl = s.kcl := rfl
@[simp] theorem setTb_svc (v : Nat) : (s.setTb v).svc = s.svc := rfl
@[simp] theorem setTb_jtag (v : Nat) : (s.setTb v).jtag = s.jtag := rfl
@[simp] theorem setTb_freeCtr (v : Nat) : (s.setTb v).freeCtr = s.freeCtr := rfl
@[simp] theorem setTb_out (v : Nat) : (s.setTb v).out = s.out := rfl
@[simp] theorem setTb_pending (v : Nat) : (s.setTb v).pending = s.pending := rfl
@[simp] theorem setDormant_variant (b : Bool) : (s.setDormant b).variant = s.variant := rfl
@[simp] theorem setDormant_mode (b : Bool) : (s.setDormant b).mode = s.mode := rfl
@[simp] theorem setDormant_tb (b : Bool) : (s.setDormant b).tb = s.tb := rfl
@[simp] theorem setDormant_pins (b : Bool) : (s.setDormant b).pins = s.pins := rfl
@[simp] theorem setDormant_flds (b : Bool) : (s.setDormant b).flds = s.flds := rfl
@[simp] theorem setDormant_staged (b : Bool) : (s.setDormant b).staged = s.staged := rfl
@[simp] theorem setDormant_cnts (b : Bool) : (s.setDormant b).cnts = s.cnts := rfl
@[simp] theorem setDormant_bytes (b : Bool) : (s.setDormant b).bytes = s.bytes := rfl
@[simp] theorem setDormant_fab (b : Bool) : (s.setDormant b).fab = s.fab := rfl
@[simp] theorem setDormant_log (b : Bool) : (s.setDormant b).log = s.log := rfl
@[simp] theorem setDormant_eps (b : Bool) : (s.setDormant b).eps = s.eps := rfl
@[simp] theorem setDormant_flt (b : Bool) : (s.setDormant b).flt = s.flt := rfl
@[simp] theorem setDormant_threads (b : Bool) : (s.setDormant b).threads = s.threads := rfl
@[simp] theorem setDormant_tk (b : Bool) : (s.setDormant b).tk = s.tk := rfl
@[simp] theorem setDormant_ports (b : Bool) : (s.setDormant b).ports = s.ports := rfl
@[simp] theorem setDormant_ups (b : Bool) : (s.setDormant b).ups = s.ups := rfl
@[simp] theorem setDormant_engs (b : Bool) : (s.setDormant b).engs = s.engs := rfl
@[simp] theorem setDormant_paths (b : Bool) : (s.setDormant b).paths = s.paths := rfl
@[simp] theorem setDormant_chans (b : Bool) : (s.setDormant b).chans = s.chans := rfl
@[simp] theorem setDormant_tts (b : Bool) : (s.setDormant b).tts = s.tts := rfl
@[simp] theorem setDormant_queues (b : Bool) : (s.setDormant b).queues = s.queues := rfl
@[simp] theorem setDormant_egresses (b : Bool) : (s.setDormant b).egresses = s.egresses := rfl
@[simp] theorem setDormant_pols (b : Bool) : (s.setDormant b).pols = s.pols := rfl
@[simp] theorem setDormant_klinks (b : Bool) : (s.setDormant b).klinks = s.klinks := rfl
@[simp] theorem setDormant_bsn (b : Bool) : (s.setDormant b).bsn = s.bsn := rfl
@[simp] theorem setDormant_boot (b : Bool) : (s.setDormant b).boot = s.boot := rfl
@[simp] theorem setDormant_brg (b : Bool) : (s.setDormant b).brg = s.brg := rfl
@[simp] theorem setDormant_flow (b : Bool) : (s.setDormant b).flow = s.flow := rfl
@[simp] theorem setDormant_kcl (b : Bool) : (s.setDormant b).kcl = s.kcl := rfl
@[simp] theorem setDormant_svc (b : Bool) : (s.setDormant b).svc = s.svc := rfl
@[simp] theorem setDormant_jtag (b : Bool) : (s.setDormant b).jtag = s.jtag := rfl
@[simp] theorem setDormant_freeCtr (b : Bool) : (s.setDormant b).freeCtr = s.freeCtr := rfl
@[simp] theorem setDormant_out (b : Bool) : (s.setDormant b).out = s.out := rfl
@[simp] theorem setDormant_pending (b : Bool) : (s.setDormant b).pending = s.pending := rfl
@[simp] theorem modThread_variant (i : Nat) (g : Thread → Thread) : (s.modThread i g).variant = s.variant := rfl
@[simp] theorem modThread_mode (i : Nat) (g : Thread → Thread) : (s.modThread i g).mode = s.mode := rfl
@[simp] theorem modThread_dormant (i : Nat) (g : Thread → Thread) : (s.modThread i g).dormant = s.dormant := rfl
@[simp] theorem modThread_tb (i : Nat) (g : Thread → Thread) : (s.modThread i g).tb = s.tb := rfl
@[simp] theorem modThread_pins (i : Nat) (g : Thread → Thread) : (s.modThread i g).pins = s.pins := rfl
@[simp] theorem modThread_flds (i : Nat) (g : Thread → Thread) : (s.modThread i g).flds = s.flds := rfl
@[simp] theorem modThread_staged (i : Nat) (g : Thread → Thread) : (s.modThread i g).staged = s.staged := rfl
@[simp] theorem modThread_cnts (i : Nat) (g : Thread → Thread) : (s.modThread i g).cnts = s.cnts := rfl
@[simp] theorem modThread_bytes (i : Nat) (g : Thread → Thread) : (s.modThread i g).bytes = s.bytes := rfl
@[simp] theorem modThread_fab (i : Nat) (g : Thread → Thread) : (s.modThread i g).fab = s.fab := rfl
@[simp] theorem modThread_log (i : Nat) (g : Thread → Thread) : (s.modThread i g).log = s.log := rfl
@[simp] theorem modThread_eps (i : Nat) (g : Thread → Thread) : (s.modThread i g).eps = s.eps := rfl
@[simp] theorem modThread_flt (i : Nat) (g : Thread → Thread) : (s.modThread i g).flt = s.flt := rfl
@[simp] theorem modThread_tk (i : Nat) (g : Thread → Thread) : (s.modThread i g).tk = s.tk := rfl
@[simp] theorem modThread_ports (i : Nat) (g : Thread → Thread) : (s.modThread i g).ports = s.ports := rfl
@[simp] theorem modThread_ups (i : Nat) (g : Thread → Thread) : (s.modThread i g).ups = s.ups := rfl
@[simp] theorem modThread_engs (i : Nat) (g : Thread → Thread) : (s.modThread i g).engs = s.engs := rfl
@[simp] theorem modThread_paths (i : Nat) (g : Thread → Thread) : (s.modThread i g).paths = s.paths := rfl
@[simp] theorem modThread_chans (i : Nat) (g : Thread → Thread) : (s.modThread i g).chans = s.chans := rfl
@[simp] theorem modThread_tts (i : Nat) (g : Thread → Thread) : (s.modThread i g).tts = s.tts := rfl
@[simp] theorem modThread_queues (i : Nat) (g : Thread → Thread) : (s.modThread i g).queues = s.queues := rfl
@[simp] theorem modThread_egresses (i : Nat) (g : Thread → Thread) : (s.modThread i g).egresses = s.egresses := rfl
@[simp] theorem modThread_pols (i : Nat) (g : Thread → Thread) : (s.modThread i g).pols = s.pols := rfl
@[simp] theorem modThread_klinks (i : Nat) (g : Thread → Thread) : (s.modThread i g).klinks = s.klinks := rfl
@[simp] theorem modThread_bsn (i : Nat) (g : Thread → Thread) : (s.modThread i g).bsn = s.bsn := rfl
@[simp] theorem modThread_boot (i : Nat) (g : Thread → Thread) : (s.modThread i g).boot = s.boot := rfl
@[simp] theorem modThread_brg (i : Nat) (g : Thread → Thread) : (s.modThread i g).brg = s.brg := rfl
@[simp] theorem modThread_flow (i : Nat) (g : Thread → Thread) : (s.modThread i g).flow = s.flow := rfl
@[simp] theorem modThread_kcl (i : Nat) (g : Thread → Thread) : (s.modThread i g).kcl = s.kcl := rfl
@[simp] theorem modThread_svc (i : Nat) (g : Thread → Thread) : (s.modThread i g).svc = s.svc := rfl
@[simp] theorem modThread_jtag (i : Nat) (g : Thread → Thread) : (s.modThread i g).jtag = s.jtag := rfl
@[simp] theorem modThread_freeCtr (i : Nat) (g : Thread → Thread) : (s.modThread i g).freeCtr = s.freeCtr := rfl
@[simp] theorem modThread_out (i : Nat) (g : Thread → Thread) : (s.modThread i g).out = s.out := rfl
@[simp] theorem modThread_pending (i : Nat) (g : Thread → Thread) : (s.modThread i g).pending = s.pending := rfl
@[simp] theorem modPort_variant (i : Nat) (g : Port → Port) : (s.modPort i g).variant = s.variant := rfl
@[simp] theorem modPort_mode (i : Nat) (g : Port → Port) : (s.modPort i g).mode = s.mode := rfl
@[simp] theorem modPort_dormant (i : Nat) (g : Port → Port) : (s.modPort i g).dormant = s.dormant := rfl
@[simp] theorem modPort_tb (i : Nat) (g : Port → Port) : (s.modPort i g).tb = s.tb := rfl
@[simp] theorem modPort_pins (i : Nat) (g : Port → Port) : (s.modPort i g).pins = s.pins := rfl
@[simp] theorem modPort_flds (i : Nat) (g : Port → Port) : (s.modPort i g).flds = s.flds := rfl
@[simp] theorem modPort_staged (i : Nat) (g : Port → Port) : (s.modPort i g).staged = s.staged := rfl
@[simp] theorem modPort_cnts (i : Nat) (g : Port → Port) : (s.modPort i g).cnts = s.cnts := rfl
@[simp] theorem modPort_bytes (i : Nat) (g : Port → Port) : (s.modPort i g).bytes = s.bytes := rfl
@[simp] theorem modPort_fab (i : Nat) (g : Port → Port) : (s.modPort i g).fab = s.fab := rfl
@[simp] theorem modPort_log (i : Nat) (g : Port → Port) : (s.modPort i g).log = s.log := rfl
@[simp] theorem modPort_eps (i : Nat) (g : Port → Port) : (s.modPort i g).eps = s.eps := rfl
@[simp] theorem modPort_flt (i : Nat) (g : Port → Port) : (s.modPort i g).flt = s.flt := rfl
@[simp] theorem modPort_threads (i : Nat) (g : Port → Port) : (s.modPort i g).threads = s.threads := rfl
@[simp] theorem modPort_tk (i : Nat) (g : Port → Port) : (s.modPort i g).tk = s.tk := rfl
@[simp] theorem modPort_ups (i : Nat) (g : Port → Port) : (s.modPort i g).ups = s.ups := rfl
@[simp] theorem modPort_engs (i : Nat) (g : Port → Port) : (s.modPort i g).engs = s.engs := rfl
@[simp] theorem modPort_paths (i : Nat) (g : Port → Port) : (s.modPort i g).paths = s.paths := rfl
@[simp] theorem modPort_chans (i : Nat) (g : Port → Port) : (s.modPort i g).chans = s.chans := rfl
@[simp] theorem modPort_tts (i : Nat) (g : Port → Port) : (s.modPort i g).tts = s.tts := rfl
@[simp] theorem modPort_queues (i : Nat) (g : Port → Port) : (s.modPort i g).queues = s.queues := rfl
@[simp] theorem modPort_egresses (i : Nat) (g : Port → Port) : (s.modPort i g).egresses = s.egresses := rfl
@[simp] theorem modPort_pols (i : Nat) (g : Port → Port) : (s.modPort i g).pols = s.pols := rfl
@[simp] theorem modPort_klinks (i : Nat) (g : Port → Port) : (s.modPort i g).klinks = s.klinks := rfl
@[simp] theorem modPort_bsn (i : Nat) (g : Port → Port) : (s.modPort i g).bsn = s.bsn := rfl
@[simp] theorem modPort_boot (i : Nat) (g : Port → Port) : (s.modPort i g).boot = s.boot := rfl
@[simp] theorem modPort_brg (i : Nat) (g : Port → Port) : (s.modPort i g).brg = s.brg := rfl
@[simp] theorem modPort_flow (i : Nat) (g : Port → Port) : (s.modPort i g).flow = s.flow := rfl
@[simp] theorem modPort_kcl (i : Nat) (g : Port → Port) : (s.modPort i g).kcl = s.kcl := rfl
@[simp] theorem modPort_svc (i : Nat) (g : Port → Port) : (s.modPort i g).svc = s.svc := rfl
@[simp] theorem modPort_jtag (i : Nat) (g : Port → Port) : (s.modPort i g).jtag = s.jtag := rfl
@[simp] theorem modPort_freeCtr (i : Nat) (g : Port → Port) : (s.modPort i g).freeCtr = s.freeCtr := rfl
@[simp] theorem modPort_out (i : Nat) (g : Port → Port) : (s.modPort i g).out = s.out := rfl
@[simp] theorem modPort_pending (i : Nat) (g : Port → Port) : (s.modPort i g).pending = s.pending := rfl
@[simp] theorem modUp_variant (i : Nat) (g : Up → Up) : (s.modUp i g).variant = s.variant := rfl
@[simp] theorem modUp_mode (i : Nat) (g : Up → Up) : (s.modUp i g).mode = s.mode := rfl
@[simp] theorem modUp_dormant (i : Nat) (g : Up → Up) : (s.modUp i g).dormant = s.dormant := rfl
@[simp] theorem modUp_tb (i : Nat) (g : Up → Up) : (s.modUp i g).tb = s.tb := rfl
@[simp] theorem modUp_pins (i : Nat) (g : Up → Up) : (s.modUp i g).pins = s.pins := rfl
@[simp] theorem modUp_flds (i : Nat) (g : Up → Up) : (s.modUp i g).flds = s.flds := rfl
@[simp] theorem modUp_staged (i : Nat) (g : Up → Up) : (s.modUp i g).staged = s.staged := rfl
@[simp] theorem modUp_cnts (i : Nat) (g : Up → Up) : (s.modUp i g).cnts = s.cnts := rfl
@[simp] theorem modUp_bytes (i : Nat) (g : Up → Up) : (s.modUp i g).bytes = s.bytes := rfl
@[simp] theorem modUp_fab (i : Nat) (g : Up → Up) : (s.modUp i g).fab = s.fab := rfl
@[simp] theorem modUp_log (i : Nat) (g : Up → Up) : (s.modUp i g).log = s.log := rfl
@[simp] theorem modUp_eps (i : Nat) (g : Up → Up) : (s.modUp i g).eps = s.eps := rfl
@[simp] theorem modUp_flt (i : Nat) (g : Up → Up) : (s.modUp i g).flt = s.flt := rfl
@[simp] theorem modUp_threads (i : Nat) (g : Up → Up) : (s.modUp i g).threads = s.threads := rfl
@[simp] theorem modUp_tk (i : Nat) (g : Up → Up) : (s.modUp i g).tk = s.tk := rfl
@[simp] theorem modUp_ports (i : Nat) (g : Up → Up) : (s.modUp i g).ports = s.ports := rfl
@[simp] theorem modUp_engs (i : Nat) (g : Up → Up) : (s.modUp i g).engs = s.engs := rfl
@[simp] theorem modUp_paths (i : Nat) (g : Up → Up) : (s.modUp i g).paths = s.paths := rfl
@[simp] theorem modUp_chans (i : Nat) (g : Up → Up) : (s.modUp i g).chans = s.chans := rfl
@[simp] theorem modUp_tts (i : Nat) (g : Up → Up) : (s.modUp i g).tts = s.tts := rfl
@[simp] theorem modUp_queues (i : Nat) (g : Up → Up) : (s.modUp i g).queues = s.queues := rfl
@[simp] theorem modUp_egresses (i : Nat) (g : Up → Up) : (s.modUp i g).egresses = s.egresses := rfl
@[simp] theorem modUp_pols (i : Nat) (g : Up → Up) : (s.modUp i g).pols = s.pols := rfl
@[simp] theorem modUp_klinks (i : Nat) (g : Up → Up) : (s.modUp i g).klinks = s.klinks := rfl
@[simp] theorem modUp_bsn (i : Nat) (g : Up → Up) : (s.modUp i g).bsn = s.bsn := rfl
@[simp] theorem modUp_boot (i : Nat) (g : Up → Up) : (s.modUp i g).boot = s.boot := rfl
@[simp] theorem modUp_brg (i : Nat) (g : Up → Up) : (s.modUp i g).brg = s.brg := rfl
@[simp] theorem modUp_flow (i : Nat) (g : Up → Up) : (s.modUp i g).flow = s.flow := rfl
@[simp] theorem modUp_kcl (i : Nat) (g : Up → Up) : (s.modUp i g).kcl = s.kcl := rfl
@[simp] theorem modUp_svc (i : Nat) (g : Up → Up) : (s.modUp i g).svc = s.svc := rfl
@[simp] theorem modUp_jtag (i : Nat) (g : Up → Up) : (s.modUp i g).jtag = s.jtag := rfl
@[simp] theorem modUp_freeCtr (i : Nat) (g : Up → Up) : (s.modUp i g).freeCtr = s.freeCtr := rfl
@[simp] theorem modUp_out (i : Nat) (g : Up → Up) : (s.modUp i g).out = s.out := rfl
@[simp] theorem modUp_pending (i : Nat) (g : Up → Up) : (s.modUp i g).pending = s.pending := rfl
@[simp] theorem modEng_variant (i : Nat) (g : Engine → Engine) : (s.modEng i g).variant = s.variant := rfl
@[simp] theorem modEng_mode (i : Nat) (g : Engine → Engine) : (s.modEng i g).mode = s.mode := rfl
@[simp] theorem modEng_dormant (i : Nat) (g : Engine → Engine) : (s.modEng i g).dormant = s.dormant := rfl
@[simp] theorem modEng_tb (i : Nat) (g : Engine → Engine) : (s.modEng i g).tb = s.tb := rfl
@[simp] theorem modEng_pins (i : Nat) (g : Engine → Engine) : (s.modEng i g).pins = s.pins := rfl
@[simp] theorem modEng_flds (i : Nat) (g : Engine → Engine) : (s.modEng i g).flds = s.flds := rfl
@[simp] theorem modEng_staged (i : Nat) (g : Engine → Engine) : (s.modEng i g).staged = s.staged := rfl
@[simp] theorem modEng_cnts (i : Nat) (g : Engine → Engine) : (s.modEng i g).cnts = s.cnts := rfl
@[simp] theorem modEng_bytes (i : Nat) (g : Engine → Engine) : (s.modEng i g).bytes = s.bytes := rfl
@[simp] theorem modEng_fab (i : Nat) (g : Engine → Engine) : (s.modEng i g).fab = s.fab := rfl
@[simp] theorem modEng_log (i : Nat) (g : Engine → Engine) : (s.modEng i g).log = s.log := rfl
@[simp] theorem modEng_eps (i : Nat) (g : Engine → Engine) : (s.modEng i g).eps = s.eps := rfl
@[simp] theorem modEng_flt (i : Nat) (g : Engine → Engine) : (s.modEng i g).flt = s.flt := rfl
@[simp] theorem modEng_threads (i : Nat) (g : Engine → Engine) : (s.modEng i g).threads = s.threads := rfl
@[simp] theorem modEng_tk (i : Nat) (g : Engine → Engine) : (s.modEng i g).tk = s.tk := rfl
@[simp] theorem modEng_ports (i : Nat) (g : Engine → Engine) : (s.modEng i g).ports = s.ports := rfl
@[simp] theorem modEng_ups (i : Nat) (g : Engine → Engine) : (s.modEng i g).ups = s.ups := rfl
@[simp] theorem modEng_paths (i : Nat) (g : Engine → Engine) : (s.modEng i g).paths = s.paths := rfl
@[simp] theorem modEng_chans (i : Nat) (g : Engine → Engine) : (s.modEng i g).chans = s.chans := rfl
@[simp] theorem modEng_tts (i : Nat) (g : Engine → Engine) : (s.modEng i g).tts = s.tts := rfl
@[simp] theorem modEng_queues (i : Nat) (g : Engine → Engine) : (s.modEng i g).queues = s.queues := rfl
@[simp] theorem modEng_egresses (i : Nat) (g : Engine → Engine) : (s.modEng i g).egresses = s.egresses := rfl
@[simp] theorem modEng_pols (i : Nat) (g : Engine → Engine) : (s.modEng i g).pols = s.pols := rfl
@[simp] theorem modEng_klinks (i : Nat) (g : Engine → Engine) : (s.modEng i g).klinks = s.klinks := rfl
@[simp] theorem modEng_bsn (i : Nat) (g : Engine → Engine) : (s.modEng i g).bsn = s.bsn := rfl
@[simp] theorem modEng_boot (i : Nat) (g : Engine → Engine) : (s.modEng i g).boot = s.boot := rfl
@[simp] theorem modEng_brg (i : Nat) (g : Engine → Engine) : (s.modEng i g).brg = s.brg := rfl
@[simp] theorem modEng_flow (i : Nat) (g : Engine → Engine) : (s.modEng i g).flow = s.flow := rfl
@[simp] theorem modEng_kcl (i : Nat) (g : Engine → Engine) : (s.modEng i g).kcl = s.kcl := rfl
@[simp] theorem modEng_svc (i : Nat) (g : Engine → Engine) : (s.modEng i g).svc = s.svc := rfl
@[simp] theorem modEng_jtag (i : Nat) (g : Engine → Engine) : (s.modEng i g).jtag = s.jtag := rfl
@[simp] theorem modEng_freeCtr (i : Nat) (g : Engine → Engine) : (s.modEng i g).freeCtr = s.freeCtr := rfl
@[simp] theorem modEng_out (i : Nat) (g : Engine → Engine) : (s.modEng i g).out = s.out := rfl
@[simp] theorem modEng_pending (i : Nat) (g : Engine → Engine) : (s.modEng i g).pending = s.pending := rfl
@[simp] theorem modPath_variant (i : Nat) (g : Path → Path) : (s.modPath i g).variant = s.variant := rfl
@[simp] theorem modPath_mode (i : Nat) (g : Path → Path) : (s.modPath i g).mode = s.mode := rfl
@[simp] theorem modPath_dormant (i : Nat) (g : Path → Path) : (s.modPath i g).dormant = s.dormant := rfl
@[simp] theorem modPath_tb (i : Nat) (g : Path → Path) : (s.modPath i g).tb = s.tb := rfl
@[simp] theorem modPath_pins (i : Nat) (g : Path → Path) : (s.modPath i g).pins = s.pins := rfl
@[simp] theorem modPath_flds (i : Nat) (g : Path → Path) : (s.modPath i g).flds = s.flds := rfl
@[simp] theorem modPath_staged (i : Nat) (g : Path → Path) : (s.modPath i g).staged = s.staged := rfl
@[simp] theorem modPath_cnts (i : Nat) (g : Path → Path) : (s.modPath i g).cnts = s.cnts := rfl
@[simp] theorem modPath_bytes (i : Nat) (g : Path → Path) : (s.modPath i g).bytes = s.bytes := rfl
@[simp] theorem modPath_fab (i : Nat) (g : Path → Path) : (s.modPath i g).fab = s.fab := rfl
@[simp] theorem modPath_log (i : Nat) (g : Path → Path) : (s.modPath i g).log = s.log := rfl
@[simp] theorem modPath_eps (i : Nat) (g : Path → Path) : (s.modPath i g).eps = s.eps := rfl
@[simp] theorem modPath_flt (i : Nat) (g : Path → Path) : (s.modPath i g).flt = s.flt := rfl
@[simp] theorem modPath_threads (i : Nat) (g : Path → Path) : (s.modPath i g).threads = s.threads := rfl
@[simp] theorem modPath_tk (i : Nat) (g : Path → Path) : (s.modPath i g).tk = s.tk := rfl
@[simp] theorem modPath_ports (i : Nat) (g : Path → Path) : (s.modPath i g).ports = s.ports := rfl
@[simp] theorem modPath_ups (i : Nat) (g : Path → Path) : (s.modPath i g).ups = s.ups := rfl
@[simp] theorem modPath_engs (i : Nat) (g : Path → Path) : (s.modPath i g).engs = s.engs := rfl
@[simp] theorem modPath_chans (i : Nat) (g : Path → Path) : (s.modPath i g).chans = s.chans := rfl
@[simp] theorem modPath_tts (i : Nat) (g : Path → Path) : (s.modPath i g).tts = s.tts := rfl
@[simp] theorem modPath_queues (i : Nat) (g : Path → Path) : (s.modPath i g).queues = s.queues := rfl
@[simp] theorem modPath_egresses (i : Nat) (g : Path → Path) : (s.modPath i g).egresses = s.egresses := rfl
@[simp] theorem modPath_pols (i : Nat) (g : Path → Path) : (s.modPath i g).pols = s.pols := rfl
@[simp] theorem modPath_klinks (i : Nat) (g : Path → Path) : (s.modPath i g).klinks = s.klinks := rfl
@[simp] theorem modPath_bsn (i : Nat) (g : Path → Path) : (s.modPath i g).bsn = s.bsn := rfl
@[simp] theorem modPath_boot (i : Nat) (g : Path → Path) : (s.modPath i g).boot = s.boot := rfl
@[simp] theorem modPath_brg (i : Nat) (g : Path → Path) : (s.modPath i g).brg = s.brg := rfl
@[simp] theorem modPath_flow (i : Nat) (g : Path → Path) : (s.modPath i g).flow = s.flow := rfl
@[simp] theorem modPath_kcl (i : Nat) (g : Path → Path) : (s.modPath i g).kcl = s.kcl := rfl
@[simp] theorem modPath_svc (i : Nat) (g : Path → Path) : (s.modPath i g).svc = s.svc := rfl
@[simp] theorem modPath_jtag (i : Nat) (g : Path → Path) : (s.modPath i g).jtag = s.jtag := rfl
@[simp] theorem modPath_freeCtr (i : Nat) (g : Path → Path) : (s.modPath i g).freeCtr = s.freeCtr := rfl
@[simp] theorem modPath_out (i : Nat) (g : Path → Path) : (s.modPath i g).out = s.out := rfl
@[simp] theorem modPath_pending (i : Nat) (g : Path → Path) : (s.modPath i g).pending = s.pending := rfl
@[simp] theorem modChan_variant (i : Nat) (g : Chan → Chan) : (s.modChan i g).variant = s.variant := rfl
@[simp] theorem modChan_mode (i : Nat) (g : Chan → Chan) : (s.modChan i g).mode = s.mode := rfl
@[simp] theorem modChan_dormant (i : Nat) (g : Chan → Chan) : (s.modChan i g).dormant = s.dormant := rfl
@[simp] theorem modChan_tb (i : Nat) (g : Chan → Chan) : (s.modChan i g).tb = s.tb := rfl
@[simp] theorem modChan_pins (i : Nat) (g : Chan → Chan) : (s.modChan i g).pins = s.pins := rfl
@[simp] theorem modChan_flds (i : Nat) (g : Chan → Chan) : (s.modChan i g).flds = s.flds := rfl
@[simp] theorem modChan_staged (i : Nat) (g : Chan → Chan) : (s.modChan i g).staged = s.staged := rfl
@[simp] theorem modChan_cnts (i : Nat) (g : Chan → Chan) : (s.modChan i g).cnts = s.cnts := rfl
@[simp] theorem modChan_bytes (i : Nat) (g : Chan → Chan) : (s.modChan i g).bytes = s.bytes := rfl
@[simp] theorem modChan_fab (i : Nat) (g : Chan → Chan) : (s.modChan i g).fab = s.fab := rfl
@[simp] theorem modChan_log (i : Nat) (g : Chan → Chan) : (s.modChan i g).log = s.log := rfl
@[simp] theorem modChan_eps (i : Nat) (g : Chan → Chan) : (s.modChan i g).eps = s.eps := rfl
@[simp] theorem modChan_flt (i : Nat) (g : Chan → Chan) : (s.modChan i g).flt = s.flt := rfl
@[simp] theorem modChan_threads (i : Nat) (g : Chan → Chan) : (s.modChan i g).threads = s.threads := rfl
@[simp] theorem modChan_tk (i : Nat) (g : Chan → Chan) : (s.modChan i g).tk = s.tk := rfl
@[simp] theorem modChan_ports (i : Nat) (g : Chan → Chan) : (s.modChan i g).ports = s.ports := rfl
@[simp] theorem modChan_ups (i : Nat) (g : Chan → Chan) : (s.modChan i g).ups = s.ups := rfl
@[simp] theorem modChan_engs (i : Nat) (g : Chan → Chan) : (s.modChan i g).engs = s.engs := rfl
@[simp] theorem modChan_paths (i : Nat) (g : Chan → Chan) : (s.modChan i g).paths = s.paths := rfl
@[simp] theorem modChan_tts (i : Nat) (g : Chan → Chan) : (s.modChan i g).tts = s.tts := rfl
@[simp] theorem modChan_queues (i : Nat) (g : Chan → Chan) : (s.modChan i g).queues = s.queues := rfl
@[simp] theorem modChan_egresses (i : Nat) (g : Chan → Chan) : (s.modChan i g).egresses = s.egresses := rfl
@[simp] theorem modChan_pols (i : Nat) (g : Chan → Chan) : (s.modChan i g).pols = s.pols := rfl
@[simp] theorem modChan_klinks (i : Nat) (g : Chan → Chan) : (s.modChan i g).klinks = s.klinks := rfl
@[simp] theorem modChan_bsn (i : Nat) (g : Chan → Chan) : (s.modChan i g).bsn = s.bsn := rfl
@[simp] theorem modChan_boot (i : Nat) (g : Chan → Chan) : (s.modChan i g).boot = s.boot := rfl
@[simp] theorem modChan_brg (i : Nat) (g : Chan → Chan) : (s.modChan i g).brg = s.brg := rfl
@[simp] theorem modChan_flow (i : Nat) (g : Chan → Chan) : (s.modChan i g).flow = s.flow := rfl
@[simp] theorem modChan_kcl (i : Nat) (g : Chan → Chan) : (s.modChan i g).kcl = s.kcl := rfl
@[simp] theorem modChan_svc (i : Nat) (g : Chan → Chan) : (s.modChan i g).svc = s.svc := rfl
@[simp] theorem modChan_jtag (i : Nat) (g : Chan → Chan) : (s.modChan i g).jtag = s.jtag := rfl
@[simp] theorem modChan_freeCtr (i : Nat) (g : Chan → Chan) : (s.modChan i g).freeCtr = s.freeCtr := rfl
@[simp] theorem modChan_out (i : Nat) (g : Chan → Chan) : (s.modChan i g).out = s.out := rfl
@[simp] theorem modChan_pending (i : Nat) (g : Chan → Chan) : (s.modChan i g).pending = s.pending := rfl
@[simp] theorem modTt_variant (i : Nat) (g : Tt → Tt) : (s.modTt i g).variant = s.variant := rfl
@[simp] theorem modTt_mode (i : Nat) (g : Tt → Tt) : (s.modTt i g).mode = s.mode := rfl
@[simp] theorem modTt_dormant (i : Nat) (g : Tt → Tt) : (s.modTt i g).dormant = s.dormant := rfl
@[simp] theorem modTt_tb (i : Nat) (g : Tt → Tt) : (s.modTt i g).tb = s.tb := rfl
@[simp] theorem modTt_pins (i : Nat) (g : Tt → Tt) : (s.modTt i g).pins = s.pins := rfl
@[simp] theorem modTt_flds (i : Nat) (g : Tt → Tt) : (s.modTt i g).flds = s.flds := rfl
@[simp] theorem modTt_staged (i : Nat) (g : Tt → Tt) : (s.modTt i g).staged = s.staged := rfl
@[simp] theorem modTt_cnts (i : Nat) (g : Tt → Tt) : (s.modTt i g).cnts = s.cnts := rfl
@[simp] theorem modTt_bytes (i : Nat) (g : Tt → Tt) : (s.modTt i g).bytes = s.bytes := rfl
@[simp] theorem modTt_fab (i : Nat) (g : Tt → Tt) : (s.modTt i g).fab = s.fab := rfl
@[simp] theorem modTt_log (i : Nat) (g : Tt → Tt) : (s.modTt i g).log = s.log := rfl
@[simp] theorem modTt_eps (i : Nat) (g : Tt → Tt) : (s.modTt i g).eps = s.eps := rfl
@[simp] theorem modTt_flt (i : Nat) (g : Tt → Tt) : (s.modTt i g).flt = s.flt := rfl
@[simp] theorem modTt_threads (i : Nat) (g : Tt → Tt) : (s.modTt i g).threads = s.threads := rfl
@[simp] theorem modTt_tk (i : Nat) (g : Tt → Tt) : (s.modTt i g).tk = s.tk := rfl
@[simp] theorem modTt_ports (i : Nat) (g : Tt → Tt) : (s.modTt i g).ports = s.ports := rfl
@[simp] theorem modTt_ups (i : Nat) (g : Tt → Tt) : (s.modTt i g).ups = s.ups := rfl
@[simp] theorem modTt_engs (i : Nat) (g : Tt → Tt) : (s.modTt i g).engs = s.engs := rfl
@[simp] theorem modTt_paths (i : Nat) (g : Tt → Tt) : (s.modTt i g).paths = s.paths := rfl
@[simp] theorem modTt_chans (i : Nat) (g : Tt → Tt) : (s.modTt i g).chans = s.chans := rfl
@[simp] theorem modTt_queues (i : Nat) (g : Tt → Tt) : (s.modTt i g).queues = s.queues := rfl
@[simp] theorem modTt_egresses (i : Nat) (g : Tt → Tt) : (s.modTt i g).egresses = s.egresses := rfl
@[simp] theorem modTt_pols (i : Nat) (g : Tt → Tt) : (s.modTt i g).pols = s.pols := rfl
@[simp] theorem modTt_klinks (i : Nat) (g : Tt → Tt) : (s.modTt i g).klinks = s.klinks := rfl
@[simp] theorem modTt_bsn (i : Nat) (g : Tt → Tt) : (s.modTt i g).bsn = s.bsn := rfl
@[simp] theorem modTt_boot (i : Nat) (g : Tt → Tt) : (s.modTt i g).boot = s.boot := rfl
@[simp] theorem modTt_brg (i : Nat) (g : Tt → Tt) : (s.modTt i g).brg = s.brg := rfl
@[simp] theorem modTt_flow (i : Nat) (g : Tt → Tt) : (s.modTt i g).flow = s.flow := rfl
@[simp] theorem modTt_kcl (i : Nat) (g : Tt → Tt) : (s.modTt i g).kcl = s.kcl := rfl
@[simp] theorem modTt_svc (i : Nat) (g : Tt → Tt) : (s.modTt i g).svc = s.svc := rfl
@[simp] theorem modTt_jtag (i : Nat) (g : Tt → Tt) : (s.modTt i g).jtag = s.jtag := rfl
@[simp] theorem modTt_freeCtr (i : Nat) (g : Tt → Tt) : (s.modTt i g).freeCtr = s.freeCtr := rfl
@[simp] theorem modTt_out (i : Nat) (g : Tt → Tt) : (s.modTt i g).out = s.out := rfl
@[simp] theorem modTt_pending (i : Nat) (g : Tt → Tt) : (s.modTt i g).pending = s.pending := rfl
@[simp] theorem modQueue_variant (i : Nat) (g : Queue → Queue) : (s.modQueue i g).variant = s.variant := rfl
@[simp] theorem modQueue_mode (i : Nat) (g : Queue → Queue) : (s.modQueue i g).mode = s.mode := rfl
@[simp] theorem modQueue_dormant (i : Nat) (g : Queue → Queue) : (s.modQueue i g).dormant = s.dormant := rfl
@[simp] theorem modQueue_tb (i : Nat) (g : Queue → Queue) : (s.modQueue i g).tb = s.tb := rfl
@[simp] theorem modQueue_pins (i : Nat) (g : Queue → Queue) : (s.modQueue i g).pins = s.pins := rfl
@[simp] theorem modQueue_flds (i : Nat) (g : Queue → Queue) : (s.modQueue i g).flds = s.flds := rfl
@[simp] theorem modQueue_staged (i : Nat) (g : Queue → Queue) : (s.modQueue i g).staged = s.staged := rfl
@[simp] theorem modQueue_cnts (i : Nat) (g : Queue → Queue) : (s.modQueue i g).cnts = s.cnts := rfl
@[simp] theorem modQueue_bytes (i : Nat) (g : Queue → Queue) : (s.modQueue i g).bytes = s.bytes := rfl
@[simp] theorem modQueue_fab (i : Nat) (g : Queue → Queue) : (s.modQueue i g).fab = s.fab := rfl
@[simp] theorem modQueue_log (i : Nat) (g : Queue → Queue) : (s.modQueue i g).log = s.log := rfl
@[simp] theorem modQueue_eps (i : Nat) (g : Queue → Queue) : (s.modQueue i g).eps = s.eps := rfl
@[simp] theorem modQueue_flt (i : Nat) (g : Queue → Queue) : (s.modQueue i g).flt = s.flt := rfl
@[simp] theorem modQueue_threads (i : Nat) (g : Queue → Queue) : (s.modQueue i g).threads = s.threads := rfl
@[simp] theorem modQueue_tk (i : Nat) (g : Queue → Queue) : (s.modQueue i g).tk = s.tk := rfl
@[simp] theorem modQueue_ports (i : Nat) (g : Queue → Queue) : (s.modQueue i g).ports = s.ports := rfl
@[simp] theorem modQueue_ups (i : Nat) (g : Queue → Queue) : (s.modQueue i g).ups = s.ups := rfl
@[simp] theorem modQueue_engs (i : Nat) (g : Queue → Queue) : (s.modQueue i g).engs = s.engs := rfl
@[simp] theorem modQueue_paths (i : Nat) (g : Queue → Queue) : (s.modQueue i g).paths = s.paths := rfl
@[simp] theorem modQueue_chans (i : Nat) (g : Queue → Queue) : (s.modQueue i g).chans = s.chans := rfl
@[simp] theorem modQueue_tts (i : Nat) (g : Queue → Queue) : (s.modQueue i g).tts = s.tts := rfl
@[simp] theorem modQueue_egresses (i : Nat) (g : Queue → Queue) : (s.modQueue i g).egresses = s.egresses := rfl
@[simp] theorem modQueue_pols (i : Nat) (g : Queue → Queue) : (s.modQueue i g).pols = s.pols := rfl
@[simp] theorem modQueue_klinks (i : Nat) (g : Queue → Queue) : (s.modQueue i g).klinks = s.klinks := rfl
@[simp] theorem modQueue_bsn (i : Nat) (g : Queue → Queue) : (s.modQueue i g).bsn = s.bsn := rfl
@[simp] theorem modQueue_boot (i : Nat) (g : Queue → Queue) : (s.modQueue i g).boot = s.boot := rfl
@[simp] theorem modQueue_brg (i : Nat) (g : Queue → Queue) : (s.modQueue i g).brg = s.brg := rfl
@[simp] theorem modQueue_flow (i : Nat) (g : Queue → Queue) : (s.modQueue i g).flow = s.flow := rfl
@[simp] theorem modQueue_kcl (i : Nat) (g : Queue → Queue) : (s.modQueue i g).kcl = s.kcl := rfl
@[simp] theorem modQueue_svc (i : Nat) (g : Queue → Queue) : (s.modQueue i g).svc = s.svc := rfl
@[simp] theorem modQueue_jtag (i : Nat) (g : Queue → Queue) : (s.modQueue i g).jtag = s.jtag := rfl
@[simp] theorem modQueue_freeCtr (i : Nat) (g : Queue → Queue) : (s.modQueue i g).freeCtr = s.freeCtr := rfl
@[simp] theorem modQueue_out (i : Nat) (g : Queue → Queue) : (s.modQueue i g).out = s.out := rfl
@[simp] theorem modQueue_pending (i : Nat) (g : Queue → Queue) : (s.modQueue i g).pending = s.pending := rfl
@[simp] theorem modEgress_variant (i : Nat) (g : Egress → Egress) : (s.modEgress i g).variant = s.variant := rfl
@[simp] theorem modEgress_mode (i : Nat) (g : Egress → Egress) : (s.modEgress i g).mode = s.mode := rfl
@[simp] theorem modEgress_dormant (i : Nat) (g : Egress → Egress) : (s.modEgress i g).dormant = s.dormant := rfl
@[simp] theorem modEgress_tb (i : Nat) (g : Egress → Egress) : (s.modEgress i g).tb = s.tb := rfl
@[simp] theorem modEgress_pins (i : Nat) (g : Egress → Egress) : (s.modEgress i g).pins = s.pins := rfl
@[simp] theorem modEgress_flds (i : Nat) (g : Egress → Egress) : (s.modEgress i g).flds = s.flds := rfl
@[simp] theorem modEgress_staged (i : Nat) (g : Egress → Egress) : (s.modEgress i g).staged = s.staged := rfl
@[simp] theorem modEgress_cnts (i : Nat) (g : Egress → Egress) : (s.modEgress i g).cnts = s.cnts := rfl
@[simp] theorem modEgress_bytes (i : Nat) (g : Egress → Egress) : (s.modEgress i g).bytes = s.bytes := rfl
@[simp] theorem modEgress_fab (i : Nat) (g : Egress → Egress) : (s.modEgress i g).fab = s.fab := rfl
@[simp] theorem modEgress_log (i : Nat) (g : Egress → Egress) : (s.modEgress i g).log = s.log := rfl
@[simp] theorem modEgress_eps (i : Nat) (g : Egress → Egress) : (s.modEgress i g).eps = s.eps := rfl
@[simp] theorem modEgress_flt (i : Nat) (g : Egress → Egress) : (s.modEgress i g).flt = s.flt := rfl
@[simp] theorem modEgress_threads (i : Nat) (g : Egress → Egress) : (s.modEgress i g).threads = s.threads := rfl
@[simp] theorem modEgress_tk (i : Nat) (g : Egress → Egress) : (s.modEgress i g).tk = s.tk := rfl
@[simp] theorem modEgress_ports (i : Nat) (g : Egress → Egress) : (s.modEgress i g).ports = s.ports := rfl
@[simp] theorem modEgress_ups (i : Nat) (g : Egress → Egress) : (s.modEgress i g).ups = s.ups := rfl
@[simp] theorem modEgress_engs (i : Nat) (g : Egress → Egress) : (s.modEgress i g).engs = s.engs := rfl
@[simp] theorem modEgress_paths (i : Nat) (g : Egress → Egress) : (s.modEgress i g).paths = s.paths := rfl
@[simp] theorem modEgress_chans (i : Nat) (g : Egress → Egress) : (s.modEgress i g).chans = s.chans := rfl
@[simp] theorem modEgress_tts (i : Nat) (g : Egress → Egress) : (s.modEgress i g).tts = s.tts := rfl
@[simp] theorem modEgress_queues (i : Nat) (g : Egress → Egress) : (s.modEgress i g).queues = s.queues := rfl
@[simp] theorem modEgress_pols (i : Nat) (g : Egress → Egress) : (s.modEgress i g).pols = s.pols := rfl
@[simp] theorem modEgress_klinks (i : Nat) (g : Egress → Egress) : (s.modEgress i g).klinks = s.klinks := rfl
@[simp] theorem modEgress_bsn (i : Nat) (g : Egress → Egress) : (s.modEgress i g).bsn = s.bsn := rfl
@[simp] theorem modEgress_boot (i : Nat) (g : Egress → Egress) : (s.modEgress i g).boot = s.boot := rfl
@[simp] theorem modEgress_brg (i : Nat) (g : Egress → Egress) : (s.modEgress i g).brg = s.brg := rfl
@[simp] theorem modEgress_flow (i : Nat) (g : Egress → Egress) : (s.modEgress i g).flow = s.flow := rfl
@[simp] theorem modEgress_kcl (i : Nat) (g : Egress → Egress) : (s.modEgress i g).kcl = s.kcl := rfl
@[simp] theorem modEgress_svc (i : Nat) (g : Egress → Egress) : (s.modEgress i g).svc = s.svc := rfl
@[simp] theorem modEgress_jtag (i : Nat) (g : Egress → Egress) : (s.modEgress i g).jtag = s.jtag := rfl
@[simp] theorem modEgress_freeCtr (i : Nat) (g : Egress → Egress) : (s.modEgress i g).freeCtr = s.freeCtr := rfl
@[simp] theorem modEgress_out (i : Nat) (g : Egress → Egress) : (s.modEgress i g).out = s.out := rfl
@[simp] theorem modEgress_pending (i : Nat) (g : Egress → Egress) : (s.modEgress i g).pending = s.pending := rfl
@[simp] theorem modPol_variant (i : Nat) (g : Policer → Policer) : (s.modPol i g).variant = s.variant := rfl
@[simp] theorem modPol_mode (i : Nat) (g : Policer → Policer) : (s.modPol i g).mode = s.mode := rfl
@[simp] theorem modPol_dormant (i : Nat) (g : Policer → Policer) : (s.modPol i g).dormant = s.dormant := rfl
@[simp] theorem modPol_tb (i : Nat) (g : Policer → Policer) : (s.modPol i g).tb = s.tb := rfl
@[simp] theorem modPol_pins (i : Nat) (g : Policer → Policer) : (s.modPol i g).pins = s.pins := rfl
@[simp] theorem modPol_flds (i : Nat) (g : Policer → Policer) : (s.modPol i g).flds = s.flds := rfl
@[simp] theorem modPol_staged (i : Nat) (g : Policer → Policer) : (s.modPol i g).staged = s.staged := rfl
@[simp] theorem modPol_cnts (i : Nat) (g : Policer → Policer) : (s.modPol i g).cnts = s.cnts := rfl
@[simp] theorem modPol_bytes (i : Nat) (g : Policer → Policer) : (s.modPol i g).bytes = s.bytes := rfl
@[simp] theorem modPol_fab (i : Nat) (g : Policer → Policer) : (s.modPol i g).fab = s.fab := rfl
@[simp] theorem modPol_log (i : Nat) (g : Policer → Policer) : (s.modPol i g).log = s.log := rfl
@[simp] theorem modPol_eps (i : Nat) (g : Policer → Policer) : (s.modPol i g).eps = s.eps := rfl
@[simp] theorem modPol_flt (i : Nat) (g : Policer → Policer) : (s.modPol i g).flt = s.flt := rfl
@[simp] theorem modPol_threads (i : Nat) (g : Policer → Policer) : (s.modPol i g).threads = s.threads := rfl
@[simp] theorem modPol_tk (i : Nat) (g : Policer → Policer) : (s.modPol i g).tk = s.tk := rfl
@[simp] theorem modPol_ports (i : Nat) (g : Policer → Policer) : (s.modPol i g).ports = s.ports := rfl
@[simp] theorem modPol_ups (i : Nat) (g : Policer → Policer) : (s.modPol i g).ups = s.ups := rfl
@[simp] theorem modPol_engs (i : Nat) (g : Policer → Policer) : (s.modPol i g).engs = s.engs := rfl
@[simp] theorem modPol_paths (i : Nat) (g : Policer → Policer) : (s.modPol i g).paths = s.paths := rfl
@[simp] theorem modPol_chans (i : Nat) (g : Policer → Policer) : (s.modPol i g).chans = s.chans := rfl
@[simp] theorem modPol_tts (i : Nat) (g : Policer → Policer) : (s.modPol i g).tts = s.tts := rfl
@[simp] theorem modPol_queues (i : Nat) (g : Policer → Policer) : (s.modPol i g).queues = s.queues := rfl
@[simp] theorem modPol_egresses (i : Nat) (g : Policer → Policer) : (s.modPol i g).egresses = s.egresses := rfl
@[simp] theorem modPol_klinks (i : Nat) (g : Policer → Policer) : (s.modPol i g).klinks = s.klinks := rfl
@[simp] theorem modPol_bsn (i : Nat) (g : Policer → Policer) : (s.modPol i g).bsn = s.bsn := rfl
@[simp] theorem modPol_boot (i : Nat) (g : Policer → Policer) : (s.modPol i g).boot = s.boot := rfl
@[simp] theorem modPol_brg (i : Nat) (g : Policer → Policer) : (s.modPol i g).brg = s.brg := rfl
@[simp] theorem modPol_flow (i : Nat) (g : Policer → Policer) : (s.modPol i g).flow = s.flow := rfl
@[simp] theorem modPol_kcl (i : Nat) (g : Policer → Policer) : (s.modPol i g).kcl = s.kcl := rfl
@[simp] theorem modPol_svc (i : Nat) (g : Policer → Policer) : (s.modPol i g).svc = s.svc := rfl
@[simp] theorem modPol_jtag (i : Nat) (g : Policer → Policer) : (s.modPol i g).jtag = s.jtag := rfl
@[simp] theorem modPol_freeCtr (i : Nat) (g : Policer → Policer) : (s.modPol i g).freeCtr = s.freeCtr := rfl
@[simp] theorem modPol_out (i : Nat) (g : Policer → Policer) : (s.modPol i g).out = s.out := rfl
@[simp] theorem modPol_pending (i : Nat) (g : Policer → Policer) : (s.modPol i g).pending = s.pending := rfl
@[simp] theorem modKlink_variant (i : Nat) (g : KLink → KLink) : (s.modKlink i g).variant = s.variant := rfl
@[simp] theorem modKlink_mode (i : Nat) (g : KLink → KLink) : (s.modKlink i g).mode = s.mode := rfl
@[simp] theorem modKlink_dormant (i : Nat) (g : KLink → KLink) : (s.modKlink i g).dormant = s.dormant := rfl
@[simp] theorem modKlink_tb (i : Nat) (g : KLink → KLink) : (s.modKlink i g).tb = s.tb := rfl
@[simp] theorem modKlink_pins (i : Nat) (g : KLink → KLink) : (s.modKlink i g).pins = s.pins := rfl
@[simp] theorem modKlink_flds (i : Nat) (g : KLink → KLink) : (s.modKlink i g).flds = s.flds := rfl
@[simp] theorem modKlink_staged (i : Nat) (g : KLink → KLink) : (s.modKlink i g).staged = s.staged := rfl
@[simp] theorem modKlink_cnts (i : Nat) (g : KLink → KLink) : (s.modKlink i g).cnts = s.cnts := rfl
@[simp] theorem modKlink_bytes (i : Nat) (g : KLink → KLink) : (s.modKlink i g).bytes = s.bytes := rfl
@[simp] theorem modKlink_fab (i : Nat) (g : KLink → KLink) : (s.modKlink i g).fab = s.fab := rfl
@[simp] theorem modKlink_log (i : Nat) (g : KLink → KLink) : (s.modKlink i g).log = s.log := rfl
@[simp] theorem modKlink_eps (i : Nat) (g : KLink → KLink) : (s.modKlink i g).eps = s.eps := rfl
@[simp] theorem modKlink_flt (i : Nat) (g : KLink → KLink) : (s.modKlink i g).flt = s.flt := rfl
@[simp] theorem modKlink_threads (i : Nat) (g : KLink → KLink) : (s.modKlink i g).threads = s.threads := rfl
@[simp] theorem modKlink_tk (i : Nat) (g : KLink → KLink) : (s.modKlink i g).tk = s.tk := rfl
@[simp] theorem modKlink_ports (i : Nat) (g : KLink → KLink) : (s.modKlink i g).ports = s.ports := rfl
@[simp] theorem modKlink_ups (i : Nat) (g : KLink → KLink) : (s.modKlink i g).ups = s.ups := rfl
@[simp] theorem modKlink_engs (i : Nat) (g : KLink → KLink) : (s.modKlink i g).engs = s.engs := rfl
@[simp] theorem modKlink_paths (i : Nat) (g : KLink → KLink) : (s.modKlink i g).paths = s.paths := rfl
@[simp] theorem modKlink_chans (i : Nat) (g : KLink → KLink) : (s.modKlink i g).chans = s.chans := rfl
@[simp] theorem modKlink_tts (i : Nat) (g : KLink → KLink) : (s.modKlink i g).tts = s.tts := rfl
@[simp] theorem modKlink_queues (i : Nat) (g : KLink → KLink) : (s.modKlink i g).queues = s.queues := rfl
@[simp] theorem modKlink_egresses (i : Nat) (g : KLink → KLink) : (s.modKlink i g).egresses = s.egresses := rfl
@[simp] theorem modKlink_pols (i : Nat) (g : KLink → KLink) : (s.modKlink i g).pols = s.pols := rfl
@[simp] theorem modKlink_bsn (i : Nat) (g : KLink → KLink) : (s.modKlink i g).bsn = s.bsn := rfl
@[simp] theorem modKlink_boot (i : Nat) (g : KLink → KLink) : (s.modKlink i g).boot = s.boot := rfl
@[simp] theorem modKlink_brg (i : Nat) (g : KLink → KLink) : (s.modKlink i g).brg = s.brg := rfl
@[simp] theorem modKlink_flow (i : Nat) (g : KLink → KLink) : (s.modKlink i g).flow = s.flow := rfl
@[simp] theorem modKlink_kcl (i : Nat) (g : KLink → KLink) : (s.modKlink i g).kcl = s.kcl := rfl
@[simp] theorem modKlink_svc (i : Nat) (g : KLink → KLink) : (s.modKlink i g).svc = s.svc := rfl
@[simp] theorem modKlink_jtag (i : Nat) (g : KLink → KLink) : (s.modKlink i g).jtag = s.jtag := rfl
@[simp] theorem modKlink_freeCtr (i : Nat) (g : KLink → KLink) : (s.modKlink i g).freeCtr = s.freeCtr := rfl
@[simp] theorem modKlink_out (i : Nat) (g : KLink → KLink) : (s.modKlink i g).out = s.out := rfl
@[simp] theorem modKlink_pending (i : Nat) (g : KLink → KLink) : (s.modKlink i g).pending = s.pending := rfl
@[simp] theorem modBsn_variant (g : Basin → Basin) : (s.modBsn g).variant = s.variant := rfl
@[simp] theorem modBsn_mode (g : Basin → Basin) : (s.modBsn g).mode = s.mode := rfl
@[simp] theorem modBsn_dormant (g : Basin → Basin) : (s.modBsn g).dormant = s.dormant := rfl
@[simp] theorem modBsn_tb (g : Basin → Basin) : (s.modBsn g).tb = s.tb := rfl
@[simp] theorem modBsn_pins (g : Basin → Basin) : (s.modBsn g).pins = s.pins := rfl
@[simp] theorem modBsn_flds (g : Basin → Basin) : (s.modBsn g).flds = s.flds := rfl
@[simp] theorem modBsn_staged (g : Basin → Basin) : (s.modBsn g).staged = s.staged := rfl
@[simp] theorem modBsn_cnts (g : Basin → Basin) : (s.modBsn g).cnts = s.cnts := rfl
@[simp] theorem modBsn_bytes (g : Basin → Basin) : (s.modBsn g).bytes = s.bytes := rfl
@[simp] theorem modBsn_fab (g : Basin → Basin) : (s.modBsn g).fab = s.fab := rfl
@[simp] theorem modBsn_log (g : Basin → Basin) : (s.modBsn g).log = s.log := rfl
@[simp] theorem modBsn_eps (g : Basin → Basin) : (s.modBsn g).eps = s.eps := rfl
@[simp] theorem modBsn_flt (g : Basin → Basin) : (s.modBsn g).flt = s.flt := rfl
@[simp] theorem modBsn_threads (g : Basin → Basin) : (s.modBsn g).threads = s.threads := rfl
@[simp] theorem modBsn_tk (g : Basin → Basin) : (s.modBsn g).tk = s.tk := rfl
@[simp] theorem modBsn_ports (g : Basin → Basin) : (s.modBsn g).ports = s.ports := rfl
@[simp] theorem modBsn_ups (g : Basin → Basin) : (s.modBsn g).ups = s.ups := rfl
@[simp] theorem modBsn_engs (g : Basin → Basin) : (s.modBsn g).engs = s.engs := rfl
@[simp] theorem modBsn_paths (g : Basin → Basin) : (s.modBsn g).paths = s.paths := rfl
@[simp] theorem modBsn_chans (g : Basin → Basin) : (s.modBsn g).chans = s.chans := rfl
@[simp] theorem modBsn_tts (g : Basin → Basin) : (s.modBsn g).tts = s.tts := rfl
@[simp] theorem modBsn_queues (g : Basin → Basin) : (s.modBsn g).queues = s.queues := rfl
@[simp] theorem modBsn_egresses (g : Basin → Basin) : (s.modBsn g).egresses = s.egresses := rfl
@[simp] theorem modBsn_pols (g : Basin → Basin) : (s.modBsn g).pols = s.pols := rfl
@[simp] theorem modBsn_klinks (g : Basin → Basin) : (s.modBsn g).klinks = s.klinks := rfl
@[simp] theorem modBsn_boot (g : Basin → Basin) : (s.modBsn g).boot = s.boot := rfl
@[simp] theorem modBsn_brg (g : Basin → Basin) : (s.modBsn g).brg = s.brg := rfl
@[simp] theorem modBsn_flow (g : Basin → Basin) : (s.modBsn g).flow = s.flow := rfl
@[simp] theorem modBsn_kcl (g : Basin → Basin) : (s.modBsn g).kcl = s.kcl := rfl
@[simp] theorem modBsn_svc (g : Basin → Basin) : (s.modBsn g).svc = s.svc := rfl
@[simp] theorem modBsn_jtag (g : Basin → Basin) : (s.modBsn g).jtag = s.jtag := rfl
@[simp] theorem modBsn_freeCtr (g : Basin → Basin) : (s.modBsn g).freeCtr = s.freeCtr := rfl
@[simp] theorem modBsn_out (g : Basin → Basin) : (s.modBsn g).out = s.out := rfl
@[simp] theorem modBsn_pending (g : Basin → Basin) : (s.modBsn g).pending = s.pending := rfl
@[simp] theorem modBsn_bsn (g : Basin → Basin) : (s.modBsn g).bsn = g s.bsn := rfl
@[simp] theorem modFlt_variant (g : Faults → Faults) : (s.modFlt g).variant = s.variant := rfl
@[simp] theorem modFlt_mode (g : Faults → Faults) : (s.modFlt g).mode = s.mode := rfl
@[simp] theorem modFlt_dormant (g : Faults → Faults) : (s.modFlt g).dormant = s.dormant := rfl
@[simp] theorem modFlt_tb (g : Faults → Faults) : (s.modFlt g).tb = s.tb := rfl
@[simp] theorem modFlt_pins (g : Faults → Faults) : (s.modFlt g).pins = s.pins := rfl
@[simp] theorem modFlt_flds (g : Faults → Faults) : (s.modFlt g).flds = s.flds := rfl
@[simp] theorem modFlt_staged (g : Faults → Faults) : (s.modFlt g).staged = s.staged := rfl
@[simp] theorem modFlt_cnts (g : Faults → Faults) : (s.modFlt g).cnts = s.cnts := rfl
@[simp] theorem modFlt_bytes (g : Faults → Faults) : (s.modFlt g).bytes = s.bytes := rfl
@[simp] theorem modFlt_fab (g : Faults → Faults) : (s.modFlt g).fab = s.fab := rfl
@[simp] theorem modFlt_log (g : Faults → Faults) : (s.modFlt g).log = s.log := rfl
@[simp] theorem modFlt_eps (g : Faults → Faults) : (s.modFlt g).eps = s.eps := rfl
@[simp] theorem modFlt_threads (g : Faults → Faults) : (s.modFlt g).threads = s.threads := rfl
@[simp] theorem modFlt_tk (g : Faults → Faults) : (s.modFlt g).tk = s.tk := rfl
@[simp] theorem modFlt_ports (g : Faults → Faults) : (s.modFlt g).ports = s.ports := rfl
@[simp] theorem modFlt_ups (g : Faults → Faults) : (s.modFlt g).ups = s.ups := rfl
@[simp] theorem modFlt_engs (g : Faults → Faults) : (s.modFlt g).engs = s.engs := rfl
@[simp] theorem modFlt_paths (g : Faults → Faults) : (s.modFlt g).paths = s.paths := rfl
@[simp] theorem modFlt_chans (g : Faults → Faults) : (s.modFlt g).chans = s.chans := rfl
@[simp] theorem modFlt_tts (g : Faults → Faults) : (s.modFlt g).tts = s.tts := rfl
@[simp] theorem modFlt_queues (g : Faults → Faults) : (s.modFlt g).queues = s.queues := rfl
@[simp] theorem modFlt_egresses (g : Faults → Faults) : (s.modFlt g).egresses = s.egresses := rfl
@[simp] theorem modFlt_pols (g : Faults → Faults) : (s.modFlt g).pols = s.pols := rfl
@[simp] theorem modFlt_klinks (g : Faults → Faults) : (s.modFlt g).klinks = s.klinks := rfl
@[simp] theorem modFlt_bsn (g : Faults → Faults) : (s.modFlt g).bsn = s.bsn := rfl
@[simp] theorem modFlt_boot (g : Faults → Faults) : (s.modFlt g).boot = s.boot := rfl
@[simp] theorem modFlt_brg (g : Faults → Faults) : (s.modFlt g).brg = s.brg := rfl
@[simp] theorem modFlt_flow (g : Faults → Faults) : (s.modFlt g).flow = s.flow := rfl
@[simp] theorem modFlt_kcl (g : Faults → Faults) : (s.modFlt g).kcl = s.kcl := rfl
@[simp] theorem modFlt_svc (g : Faults → Faults) : (s.modFlt g).svc = s.svc := rfl
@[simp] theorem modFlt_jtag (g : Faults → Faults) : (s.modFlt g).jtag = s.jtag := rfl
@[simp] theorem modFlt_freeCtr (g : Faults → Faults) : (s.modFlt g).freeCtr = s.freeCtr := rfl
@[simp] theorem modFlt_out (g : Faults → Faults) : (s.modFlt g).out = s.out := rfl
@[simp] theorem modFlt_pending (g : Faults → Faults) : (s.modFlt g).pending = s.pending := rfl
@[simp] theorem modFlt_flt (g : Faults → Faults) : (s.modFlt g).flt = g s.flt := rfl
@[simp] theorem modPins_variant (g : Pins → Pins) : (s.modPins g).variant = s.variant := rfl
@[simp] theorem modPins_mode (g : Pins → Pins) : (s.modPins g).mode = s.mode := rfl
@[simp] theorem modPins_dormant (g : Pins → Pins) : (s.modPins g).dormant = s.dormant := rfl
@[simp] theorem modPins_tb (g : Pins → Pins) : (s.modPins g).tb = s.tb := rfl
@[simp] theorem modPins_flds (g : Pins → Pins) : (s.modPins g).flds = s.flds := rfl
@[simp] theorem modPins_staged (g : Pins → Pins) : (s.modPins g).staged = s.staged := rfl
@[simp] theorem modPins_cnts (g : Pins → Pins) : (s.modPins g).cnts = s.cnts := rfl
@[simp] theorem modPins_bytes (g : Pins → Pins) : (s.modPins g).bytes = s.bytes := rfl
@[simp] theorem modPins_fab (g : Pins → Pins) : (s.modPins g).fab = s.fab := rfl
@[simp] theorem modPins_log (g : Pins → Pins) : (s.modPins g).log = s.log := rfl
@[simp] theorem modPins_eps (g : Pins → Pins) : (s.modPins g).eps = s.eps := rfl
@[simp] theorem modPins_flt (g : Pins → Pins) : (s.modPins g).flt = s.flt := rfl
@[simp] theorem modPins_threads (g : Pins → Pins) : (s.modPins g).threads = s.threads := rfl
@[simp] theorem modPins_tk (g : Pins → Pins) : (s.modPins g).tk = s.tk := rfl
@[simp] theorem modPins_ports (g : Pins → Pins) : (s.modPins g).ports = s.ports := rfl
@[simp] theorem modPins_ups (g : Pins → Pins) : (s.modPins g).ups = s.ups := rfl
@[simp] theorem modPins_engs (g : Pins → Pins) : (s.modPins g).engs = s.engs := rfl
@[simp] theorem modPins_paths (g : Pins → Pins) : (s.modPins g).paths = s.paths := rfl
@[simp] theorem modPins_chans (g : Pins → Pins) : (s.modPins g).chans = s.chans := rfl
@[simp] theorem modPins_tts (g : Pins → Pins) : (s.modPins g).tts = s.tts := rfl
@[simp] theorem modPins_queues (g : Pins → Pins) : (s.modPins g).queues = s.queues := rfl
@[simp] theorem modPins_egresses (g : Pins → Pins) : (s.modPins g).egresses = s.egresses := rfl
@[simp] theorem modPins_pols (g : Pins → Pins) : (s.modPins g).pols = s.pols := rfl
@[simp] theorem modPins_klinks (g : Pins → Pins) : (s.modPins g).klinks = s.klinks := rfl
@[simp] theorem modPins_bsn (g : Pins → Pins) : (s.modPins g).bsn = s.bsn := rfl
@[simp] theorem modPins_boot (g : Pins → Pins) : (s.modPins g).boot = s.boot := rfl
@[simp] theorem modPins_brg (g : Pins → Pins) : (s.modPins g).brg = s.brg := rfl
@[simp] theorem modPins_flow (g : Pins → Pins) : (s.modPins g).flow = s.flow := rfl
@[simp] theorem modPins_kcl (g : Pins → Pins) : (s.modPins g).kcl = s.kcl := rfl
@[simp] theorem modPins_svc (g : Pins → Pins) : (s.modPins g).svc = s.svc := rfl
@[simp] theorem modPins_jtag (g : Pins → Pins) : (s.modPins g).jtag = s.jtag := rfl
@[simp] theorem modPins_freeCtr (g : Pins → Pins) : (s.modPins g).freeCtr = s.freeCtr := rfl
@[simp] theorem modPins_out (g : Pins → Pins) : (s.modPins g).out = s.out := rfl
@[simp] theorem modPins_pending (g : Pins → Pins) : (s.modPins g).pending = s.pending := rfl
@[simp] theorem modPins_pins (g : Pins → Pins) : (s.modPins g).pins = g s.pins := rfl
@[simp] theorem modTk_variant (g : Torik → Torik) : (s.modTk g).variant = s.variant := rfl
@[simp] theorem modTk_mode (g : Torik → Torik) : (s.modTk g).mode = s.mode := rfl
@[simp] theorem modTk_dormant (g : Torik → Torik) : (s.modTk g).dormant = s.dormant := rfl
@[simp] theorem modTk_tb (g : Torik → Torik) : (s.modTk g).tb = s.tb := rfl
@[simp] theorem modTk_pins (g : Torik → Torik) : (s.modTk g).pins = s.pins := rfl
@[simp] theorem modTk_flds (g : Torik → Torik) : (s.modTk g).flds = s.flds := rfl
@[simp] theorem modTk_staged (g : Torik → Torik) : (s.modTk g).staged = s.staged := rfl
@[simp] theorem modTk_cnts (g : Torik → Torik) : (s.modTk g).cnts = s.cnts := rfl
@[simp] theorem modTk_bytes (g : Torik → Torik) : (s.modTk g).bytes = s.bytes := rfl
@[simp] theorem modTk_fab (g : Torik → Torik) : (s.modTk g).fab = s.fab := rfl
@[simp] theorem modTk_log (g : Torik → Torik) : (s.modTk g).log = s.log := rfl
@[simp] theorem modTk_eps (g : Torik → Torik) : (s.modTk g).eps = s.eps := rfl
@[simp] theorem modTk_flt (g : Torik → Torik) : (s.modTk g).flt = s.flt := rfl
@[simp] theorem modTk_threads (g : Torik → Torik) : (s.modTk g).threads = s.threads := rfl
@[simp] theorem modTk_ports (g : Torik → Torik) : (s.modTk g).ports = s.ports := rfl
@[simp] theorem modTk_ups (g : Torik → Torik) : (s.modTk g).ups = s.ups := rfl
@[simp] theorem modTk_engs (g : Torik → Torik) : (s.modTk g).engs = s.engs := rfl
@[simp] theorem modTk_paths (g : Torik → Torik) : (s.modTk g).paths = s.paths := rfl
@[simp] theorem modTk_chans (g : Torik → Torik) : (s.modTk g).chans = s.chans := rfl
@[simp] theorem modTk_tts (g : Torik → Torik) : (s.modTk g).tts = s.tts := rfl
@[simp] theorem modTk_queues (g : Torik → Torik) : (s.modTk g).queues = s.queues := rfl
@[simp] theorem modTk_egresses (g : Torik → Torik) : (s.modTk g).egresses = s.egresses := rfl
@[simp] theorem modTk_pols (g : Torik → Torik) : (s.modTk g).pols = s.pols := rfl
@[simp] theorem modTk_klinks (g : Torik → Torik) : (s.modTk g).klinks = s.klinks := rfl
@[simp] theorem modTk_bsn (g : Torik → Torik) : (s.modTk g).bsn = s.bsn := rfl
@[simp] theorem modTk_boot (g : Torik → Torik) : (s.modTk g).boot = s.boot := rfl
@[simp] theorem modTk_brg (g : Torik → Torik) : (s.modTk g).brg = s.brg := rfl
@[simp] theorem modTk_flow (g : Torik → Torik) : (s.modTk g).flow = s.flow := rfl
@[simp] theorem modTk_kcl (g : Torik → Torik) : (s.modTk g).kcl = s.kcl := rfl
@[simp] theorem modTk_svc (g : Torik → Torik) : (s.modTk g).svc = s.svc := rfl
@[simp] theorem modTk_jtag (g : Torik → Torik) : (s.modTk g).jtag = s.jtag := rfl
@[simp] theorem modTk_freeCtr (g : Torik → Torik) : (s.modTk g).freeCtr = s.freeCtr := rfl
@[simp] theorem modTk_out (g : Torik → Torik) : (s.modTk g).out = s.out := rfl
@[simp] theorem modTk_pending (g : Torik → Torik) : (s.modTk g).pending = s.pending := rfl
@[simp] theorem modTk_tk (g : Torik → Torik) : (s.modTk g).tk = g s.tk := rfl
@[simp] theorem modFab_variant (g : Fabric → Fabric) : (s.modFab g).variant = s.variant := rfl
@[simp] theorem modFab_mode (g : Fabric → Fabric) : (s.modFab g).mode = s.mode := rfl
@[simp] theorem modFab_dormant (g : Fabric → Fabric) : (s.modFab g).dormant = s.dormant := rfl
@[simp] theorem modFab_tb (g : Fabric → Fabric) : (s.modFab g).tb = s.tb := rfl
@[simp] theorem modFab_pins (g : Fabric → Fabric) : (s.modFab g).pins = s.pins := rfl
@[simp] theorem modFab_flds (g : Fabric → Fabric) : (s.modFab g).flds = s.flds := rfl
@[simp] theorem modFab_staged (g : Fabric → Fabric) : (s.modFab g).staged = s.staged := rfl
@[simp] theorem modFab_cnts (g : Fabric → Fabric) : (s.modFab g).cnts = s.cnts := rfl
@[simp] theorem modFab_bytes (g : Fabric → Fabric) : (s.modFab g).bytes = s.bytes := rfl
@[simp] theorem modFab_log (g : Fabric → Fabric) : (s.modFab g).log = s.log := rfl
@[simp] theorem modFab_eps (g : Fabric → Fabric) : (s.modFab g).eps = s.eps := rfl
@[simp] theorem modFab_flt (g : Fabric → Fabric) : (s.modFab g).flt = s.flt := rfl
@[simp] theorem modFab_threads (g : Fabric → Fabric) : (s.modFab g).threads = s.threads := rfl
@[simp] theorem modFab_tk (g : Fabric → Fabric) : (s.modFab g).tk = s.tk := rfl
@[simp] theorem modFab_ports (g : Fabric → Fabric) : (s.modFab g).ports = s.ports := rfl
@[simp] theorem modFab_ups (g : Fabric → Fabric) : (s.modFab g).ups = s.ups := rfl
@[simp] theorem modFab_engs (g : Fabric → Fabric) : (s.modFab g).engs = s.engs := rfl
@[simp] theorem modFab_paths (g : Fabric → Fabric) : (s.modFab g).paths = s.paths := rfl
@[simp] theorem modFab_chans (g : Fabric → Fabric) : (s.modFab g).chans = s.chans := rfl
@[simp] theorem modFab_tts (g : Fabric → Fabric) : (s.modFab g).tts = s.tts := rfl
@[simp] theorem modFab_queues (g : Fabric → Fabric) : (s.modFab g).queues = s.queues := rfl
@[simp] theorem modFab_egresses (g : Fabric → Fabric) : (s.modFab g).egresses = s.egresses := rfl
@[simp] theorem modFab_pols (g : Fabric → Fabric) : (s.modFab g).pols = s.pols := rfl
@[simp] theorem modFab_klinks (g : Fabric → Fabric) : (s.modFab g).klinks = s.klinks := rfl
@[simp] theorem modFab_bsn (g : Fabric → Fabric) : (s.modFab g).bsn = s.bsn := rfl
@[simp] theorem modFab_boot (g : Fabric → Fabric) : (s.modFab g).boot = s.boot := rfl
@[simp] theorem modFab_brg (g : Fabric → Fabric) : (s.modFab g).brg = s.brg := rfl
@[simp] theorem modFab_flow (g : Fabric → Fabric) : (s.modFab g).flow = s.flow := rfl
@[simp] theorem modFab_kcl (g : Fabric → Fabric) : (s.modFab g).kcl = s.kcl := rfl
@[simp] theorem modFab_svc (g : Fabric → Fabric) : (s.modFab g).svc = s.svc := rfl
@[simp] theorem modFab_jtag (g : Fabric → Fabric) : (s.modFab g).jtag = s.jtag := rfl
@[simp] theorem modFab_freeCtr (g : Fabric → Fabric) : (s.modFab g).freeCtr = s.freeCtr := rfl
@[simp] theorem modFab_out (g : Fabric → Fabric) : (s.modFab g).out = s.out := rfl
@[simp] theorem modFab_pending (g : Fabric → Fabric) : (s.modFab g).pending = s.pending := rfl
@[simp] theorem modFab_fab (g : Fabric → Fabric) : (s.modFab g).fab = g s.fab := rfl
@[simp] theorem modLog_variant (g : Log → Log) : (s.modLog g).variant = s.variant := rfl
@[simp] theorem modLog_mode (g : Log → Log) : (s.modLog g).mode = s.mode := rfl
@[simp] theorem modLog_dormant (g : Log → Log) : (s.modLog g).dormant = s.dormant := rfl
@[simp] theorem modLog_tb (g : Log → Log) : (s.modLog g).tb = s.tb := rfl
@[simp] theorem modLog_pins (g : Log → Log) : (s.modLog g).pins = s.pins := rfl
@[simp] theorem modLog_flds (g : Log → Log) : (s.modLog g).flds = s.flds := rfl
@[simp] theorem modLog_staged (g : Log → Log) : (s.modLog g).staged = s.staged := rfl
@[simp] theorem modLog_cnts (g : Log → Log) : (s.modLog g).cnts = s.cnts := rfl
@[simp] theorem modLog_bytes (g : Log → Log) : (s.modLog g).bytes = s.bytes := rfl
@[simp] theorem modLog_fab (g : Log → Log) : (s.modLog g).fab = s.fab := rfl
@[simp] theorem modLog_eps (g : Log → Log) : (s.modLog g).eps = s.eps := rfl
@[simp] theorem modLog_flt (g : Log → Log) : (s.modLog g).flt = s.flt := rfl
@[simp] theorem modLog_threads (g : Log → Log) : (s.modLog g).threads = s.threads := rfl
@[simp] theorem modLog_tk (g : Log → Log) : (s.modLog g).tk = s.tk := rfl
@[simp] theorem modLog_ports (g : Log → Log) : (s.modLog g).ports = s.ports := rfl
@[simp] theorem modLog_ups (g : Log → Log) : (s.modLog g).ups = s.ups := rfl
@[simp] theorem modLog_engs (g : Log → Log) : (s.modLog g).engs = s.engs := rfl
@[simp] theorem modLog_paths (g : Log → Log) : (s.modLog g).paths = s.paths := rfl
@[simp] theorem modLog_chans (g : Log → Log) : (s.modLog g).chans = s.chans := rfl
@[simp] theorem modLog_tts (g : Log → Log) : (s.modLog g).tts = s.tts := rfl
@[simp] theorem modLog_queues (g : Log → Log) : (s.modLog g).queues = s.queues := rfl
@[simp] theorem modLog_egresses (g : Log → Log) : (s.modLog g).egresses = s.egresses := rfl
@[simp] theorem modLog_pols (g : Log → Log) : (s.modLog g).pols = s.pols := rfl
@[simp] theorem modLog_klinks (g : Log → Log) : (s.modLog g).klinks = s.klinks := rfl
@[simp] theorem modLog_bsn (g : Log → Log) : (s.modLog g).bsn = s.bsn := rfl
@[simp] theorem modLog_boot (g : Log → Log) : (s.modLog g).boot = s.boot := rfl
@[simp] theorem modLog_brg (g : Log → Log) : (s.modLog g).brg = s.brg := rfl
@[simp] theorem modLog_flow (g : Log → Log) : (s.modLog g).flow = s.flow := rfl
@[simp] theorem modLog_kcl (g : Log → Log) : (s.modLog g).kcl = s.kcl := rfl
@[simp] theorem modLog_svc (g : Log → Log) : (s.modLog g).svc = s.svc := rfl
@[simp] theorem modLog_jtag (g : Log → Log) : (s.modLog g).jtag = s.jtag := rfl
@[simp] theorem modLog_freeCtr (g : Log → Log) : (s.modLog g).freeCtr = s.freeCtr := rfl
@[simp] theorem modLog_out (g : Log → Log) : (s.modLog g).out = s.out := rfl
@[simp] theorem modLog_pending (g : Log → Log) : (s.modLog g).pending = s.pending := rfl
@[simp] theorem modLog_log (g : Log → Log) : (s.modLog g).log = g s.log := rfl
@[simp] theorem modBoot_variant (g : Boot → Boot) : (s.modBoot g).variant = s.variant := rfl
@[simp] theorem modBoot_mode (g : Boot → Boot) : (s.modBoot g).mode = s.mode := rfl
@[simp] theorem modBoot_dormant (g : Boot → Boot) : (s.modBoot g).dormant = s.dormant := rfl
@[simp] theorem modBoot_tb (g : Boot → Boot) : (s.modBoot g).tb = s.tb := rfl
@[simp] theorem modBoot_pins (g : Boot → Boot) : (s.modBoot g).pins = s.pins := rfl
@[simp] theorem modBoot_flds (g : Boot → Boot) : (s.modBoot g).flds = s.flds := rfl
@[simp] theorem modBoot_staged (g : Boot → Boot) : (s.modBoot g).staged = s.staged := rfl
@[simp] theorem modBoot_cnts (g : Boot → Boot) : (s.modBoot g).cnts = s.cnts := rfl
@[simp] theorem modBoot_bytes (g : Boot → Boot) : (s.modBoot g).bytes = s.bytes := rfl
@[simp] theorem modBoot_fab (g : Boot → Boot) : (s.modBoot g).fab = s.fab := rfl
@[simp] theorem modBoot_log (g : Boot → Boot) : (s.modBoot g).log = s.log := rfl
@[simp] theorem modBoot_eps (g : Boot → Boot) : (s.modBoot g).eps = s.eps := rfl
@[simp] theorem modBoot_flt (g : Boot → Boot) : (s.modBoot g).flt = s.flt := rfl
@[simp] theorem modBoot_threads (g : Boot → Boot) : (s.modBoot g).threads = s.threads := rfl
@[simp] theorem modBoot_tk (g : Boot → Boot) : (s.modBoot g).tk = s.tk := rfl
@[simp] theorem modBoot_ports (g : Boot → Boot) : (s.modBoot g).ports = s.ports := rfl
@[simp] theorem modBoot_ups (g : Boot → Boot) : (s.modBoot g).ups = s.ups := rfl
@[simp] theorem modBoot_engs (g : Boot → Boot) : (s.modBoot g).engs = s.engs := rfl
@[simp] theorem modBoot_paths (g : Boot → Boot) : (s.modBoot g).paths = s.paths := rfl
@[simp] theorem modBoot_chans (g : Boot → Boot) : (s.modBoot g).chans = s.chans := rfl
@[simp] theorem modBoot_tts (g : Boot → Boot) : (s.modBoot g).tts = s.tts := rfl
@[simp] theorem modBoot_queues (g : Boot → Boot) : (s.modBoot g).queues = s.queues := rfl
@[simp] theorem modBoot_egresses (g : Boot → Boot) : (s.modBoot g).egresses = s.egresses := rfl
@[simp] theorem modBoot_pols (g : Boot → Boot) : (s.modBoot g).pols = s.pols := rfl
@[simp] theorem modBoot_klinks (g : Boot → Boot) : (s.modBoot g).klinks = s.klinks := rfl
@[simp] theorem modBoot_bsn (g : Boot → Boot) : (s.modBoot g).bsn = s.bsn := rfl
@[simp] theorem modBoot_brg (g : Boot → Boot) : (s.modBoot g).brg = s.brg := rfl
@[simp] theorem modBoot_flow (g : Boot → Boot) : (s.modBoot g).flow = s.flow := rfl
@[simp] theorem modBoot_kcl (g : Boot → Boot) : (s.modBoot g).kcl = s.kcl := rfl
@[simp] theorem modBoot_svc (g : Boot → Boot) : (s.modBoot g).svc = s.svc := rfl
@[simp] theorem modBoot_jtag (g : Boot → Boot) : (s.modBoot g).jtag = s.jtag := rfl
@[simp] theorem modBoot_freeCtr (g : Boot → Boot) : (s.modBoot g).freeCtr = s.freeCtr := rfl
@[simp] theorem modBoot_out (g : Boot → Boot) : (s.modBoot g).out = s.out := rfl
@[simp] theorem modBoot_pending (g : Boot → Boot) : (s.modBoot g).pending = s.pending := rfl
@[simp] theorem modBoot_boot (g : Boot → Boot) : (s.modBoot g).boot = g s.boot := rfl
@[simp] theorem modBrg_variant (g : Bridges → Bridges) : (s.modBrg g).variant = s.variant := rfl
@[simp] theorem modBrg_mode (g : Bridges → Bridges) : (s.modBrg g).mode = s.mode := rfl
@[simp] theorem modBrg_dormant (g : Bridges → Bridges) : (s.modBrg g).dormant = s.dormant := rfl
@[simp] theorem modBrg_tb (g : Bridges → Bridges) : (s.modBrg g).tb = s.tb := rfl
@[simp] theorem modBrg_pins (g : Bridges → Bridges) : (s.modBrg g).pins = s.pins := rfl
@[simp] theorem modBrg_flds (g : Bridges → Bridges) : (s.modBrg g).flds = s.flds := rfl
@[simp] theorem modBrg_staged (g : Bridges → Bridges) : (s.modBrg g).staged = s.staged := rfl
@[simp] theorem modBrg_cnts (g : Bridges → Bridges) : (s.modBrg g).cnts = s.cnts := rfl
@[simp] theorem modBrg_bytes (g : Bridges → Bridges) : (s.modBrg g).bytes = s.bytes := rfl
@[simp] theorem modBrg_fab (g : Bridges → Bridges) : (s.modBrg g).fab = s.fab := rfl
@[simp] theorem modBrg_log (g : Bridges → Bridges) : (s.modBrg g).log = s.log := rfl
@[simp] theorem modBrg_eps (g : Bridges → Bridges) : (s.modBrg g).eps = s.eps := rfl
@[simp] theorem modBrg_flt (g : Bridges → Bridges) : (s.modBrg g).flt = s.flt := rfl
@[simp] theorem modBrg_threads (g : Bridges → Bridges) : (s.modBrg g).threads = s.threads := rfl
@[simp] theorem modBrg_tk (g : Bridges → Bridges) : (s.modBrg g).tk = s.tk := rfl
@[simp] theorem modBrg_ports (g : Bridges → Bridges) : (s.modBrg g).ports = s.ports := rfl
@[simp] theorem modBrg_ups (g : Bridges → Bridges) : (s.modBrg g).ups = s.ups := rfl
@[simp] theorem modBrg_engs (g : Bridges → Bridges) : (s.modBrg g).engs = s.engs := rfl
@[simp] theorem modBrg_paths (g : Bridges → Bridges) : (s.modBrg g).paths = s.paths := rfl
@[simp] theorem modBrg_chans (g : Bridges → Bridges) : (s.modBrg g).chans = s.chans := rfl
@[simp] theorem modBrg_tts (g : Bridges → Bridges) : (s.modBrg g).tts = s.tts := rfl
@[simp] theorem modBrg_queues (g : Bridges → Bridges) : (s.modBrg g).queues = s.queues := rfl
@[simp] theorem modBrg_egresses (g : Bridges → Bridges) : (s.modBrg g).egresses = s.egresses := rfl
@[simp] theorem modBrg_pols (g : Bridges → Bridges) : (s.modBrg g).pols = s.pols := rfl
@[simp] theorem modBrg_klinks (g : Bridges → Bridges) : (s.modBrg g).klinks = s.klinks := rfl
@[simp] theorem modBrg_bsn (g : Bridges → Bridges) : (s.modBrg g).bsn = s.bsn := rfl
@[simp] theorem modBrg_boot (g : Bridges → Bridges) : (s.modBrg g).boot = s.boot := rfl
@[simp] theorem modBrg_flow (g : Bridges → Bridges) : (s.modBrg g).flow = s.flow := rfl
@[simp] theorem modBrg_kcl (g : Bridges → Bridges) : (s.modBrg g).kcl = s.kcl := rfl
@[simp] theorem modBrg_svc (g : Bridges → Bridges) : (s.modBrg g).svc = s.svc := rfl
@[simp] theorem modBrg_jtag (g : Bridges → Bridges) : (s.modBrg g).jtag = s.jtag := rfl
@[simp] theorem modBrg_freeCtr (g : Bridges → Bridges) : (s.modBrg g).freeCtr = s.freeCtr := rfl
@[simp] theorem modBrg_out (g : Bridges → Bridges) : (s.modBrg g).out = s.out := rfl
@[simp] theorem modBrg_pending (g : Bridges → Bridges) : (s.modBrg g).pending = s.pending := rfl
@[simp] theorem modBrg_brg (g : Bridges → Bridges) : (s.modBrg g).brg = g s.brg := rfl
@[simp] theorem modFlow_variant (g : Flow → Flow) : (s.modFlow g).variant = s.variant := rfl
@[simp] theorem modFlow_mode (g : Flow → Flow) : (s.modFlow g).mode = s.mode := rfl
@[simp] theorem modFlow_dormant (g : Flow → Flow) : (s.modFlow g).dormant = s.dormant := rfl
@[simp] theorem modFlow_tb (g : Flow → Flow) : (s.modFlow g).tb = s.tb := rfl
@[simp] theorem modFlow_pins (g : Flow → Flow) : (s.modFlow g).pins = s.pins := rfl
@[simp] theorem modFlow_flds (g : Flow → Flow) : (s.modFlow g).flds = s.flds := rfl
@[simp] theorem modFlow_staged (g : Flow → Flow) : (s.modFlow g).staged = s.staged := rfl
@[simp] theorem modFlow_cnts (g : Flow → Flow) : (s.modFlow g).cnts = s.cnts := rfl
@[simp] theorem modFlow_bytes (g : Flow → Flow) : (s.modFlow g).bytes = s.bytes := rfl
@[simp] theorem modFlow_fab (g : Flow → Flow) : (s.modFlow g).fab = s.fab := rfl
@[simp] theorem modFlow_log (g : Flow → Flow) : (s.modFlow g).log = s.log := rfl
@[simp] theorem modFlow_eps (g : Flow → Flow) : (s.modFlow g).eps = s.eps := rfl
@[simp] theorem modFlow_flt (g : Flow → Flow) : (s.modFlow g).flt = s.flt := rfl
@[simp] theorem modFlow_threads (g : Flow → Flow) : (s.modFlow g).threads = s.threads := rfl
@[simp] theorem modFlow_tk (g : Flow → Flow) : (s.modFlow g).tk = s.tk := rfl
@[simp] theorem modFlow_ports (g : Flow → Flow) : (s.modFlow g).ports = s.ports := rfl
@[simp] theorem modFlow_ups (g : Flow → Flow) : (s.modFlow g).ups = s.ups := rfl
@[simp] theorem modFlow_engs (g : Flow → Flow) : (s.modFlow g).engs = s.engs := rfl
@[simp] theorem modFlow_paths (g : Flow → Flow) : (s.modFlow g).paths = s.paths := rfl
@[simp] theorem modFlow_chans (g : Flow → Flow) : (s.modFlow g).chans = s.chans := rfl
@[simp] theorem modFlow_tts (g : Flow → Flow) : (s.modFlow g).tts = s.tts := rfl
@[simp] theorem modFlow_queues (g : Flow → Flow) : (s.modFlow g).queues = s.queues := rfl
@[simp] theorem modFlow_egresses (g : Flow → Flow) : (s.modFlow g).egresses = s.egresses := rfl
@[simp] theorem modFlow_pols (g : Flow → Flow) : (s.modFlow g).pols = s.pols := rfl
@[simp] theorem modFlow_klinks (g : Flow → Flow) : (s.modFlow g).klinks = s.klinks := rfl
@[simp] theorem modFlow_bsn (g : Flow → Flow) : (s.modFlow g).bsn = s.bsn := rfl
@[simp] theorem modFlow_boot (g : Flow → Flow) : (s.modFlow g).boot = s.boot := rfl
@[simp] theorem modFlow_brg (g : Flow → Flow) : (s.modFlow g).brg = s.brg := rfl
@[simp] theorem modFlow_kcl (g : Flow → Flow) : (s.modFlow g).kcl = s.kcl := rfl
@[simp] theorem modFlow_svc (g : Flow → Flow) : (s.modFlow g).svc = s.svc := rfl
@[simp] theorem modFlow_jtag (g : Flow → Flow) : (s.modFlow g).jtag = s.jtag := rfl
@[simp] theorem modFlow_freeCtr (g : Flow → Flow) : (s.modFlow g).freeCtr = s.freeCtr := rfl
@[simp] theorem modFlow_out (g : Flow → Flow) : (s.modFlow g).out = s.out := rfl
@[simp] theorem modFlow_pending (g : Flow → Flow) : (s.modFlow g).pending = s.pending := rfl
@[simp] theorem modFlow_flow (g : Flow → Flow) : (s.modFlow g).flow = g s.flow := rfl
@[simp] theorem modKcl_variant (g : Kcl → Kcl) : (s.modKcl g).variant = s.variant := rfl
@[simp] theorem modKcl_mode (g : Kcl → Kcl) : (s.modKcl g).mode = s.mode := rfl
@[simp] theorem modKcl_dormant (g : Kcl → Kcl) : (s.modKcl g).dormant = s.dormant := rfl
@[simp] theorem modKcl_tb (g : Kcl → Kcl) : (s.modKcl g).tb = s.tb := rfl
@[simp] theorem modKcl_pins (g : Kcl → Kcl) : (s.modKcl g).pins = s.pins := rfl
@[simp] theorem modKcl_flds (g : Kcl → Kcl) : (s.modKcl g).flds = s.flds := rfl
@[simp] theorem modKcl_staged (g : Kcl → Kcl) : (s.modKcl g).staged = s.staged := rfl
@[simp] theorem modKcl_cnts (g : Kcl → Kcl) : (s.modKcl g).cnts = s.cnts := rfl
@[simp] theorem modKcl_bytes (g : Kcl → Kcl) : (s.modKcl g).bytes = s.bytes := rfl
@[simp] theorem modKcl_fab (g : Kcl → Kcl) : (s.modKcl g).fab = s.fab := rfl
@[simp] theorem modKcl_log (g : Kcl → Kcl) : (s.modKcl g).log = s.log := rfl
@[simp] theorem modKcl_eps (g : Kcl → Kcl) : (s.modKcl g).eps = s.eps := rfl
@[simp] theorem modKcl_flt (g : Kcl → Kcl) : (s.modKcl g).flt = s.flt := rfl
@[simp] theorem modKcl_threads (g : Kcl → Kcl) : (s.modKcl g).threads = s.threads := rfl
@[simp] theorem modKcl_tk (g : Kcl → Kcl) : (s.modKcl g).tk = s.tk := rfl
@[simp] theorem modKcl_ports (g : Kcl → Kcl) : (s.modKcl g).ports = s.ports := rfl
@[simp] theorem modKcl_ups (g : Kcl → Kcl) : (s.modKcl g).ups = s.ups := rfl
@[simp] theorem modKcl_engs (g : Kcl → Kcl) : (s.modKcl g).engs = s.engs := rfl
@[simp] theorem modKcl_paths (g : Kcl → Kcl) : (s.modKcl g).paths = s.paths := rfl
@[simp] theorem modKcl_chans (g : Kcl → Kcl) : (s.modKcl g).chans = s.chans := rfl
@[simp] theorem modKcl_tts (g : Kcl → Kcl) : (s.modKcl g).tts = s.tts := rfl
@[simp] theorem modKcl_queues (g : Kcl → Kcl) : (s.modKcl g).queues = s.queues := rfl
@[simp] theorem modKcl_egresses (g : Kcl → Kcl) : (s.modKcl g).egresses = s.egresses := rfl
@[simp] theorem modKcl_pols (g : Kcl → Kcl) : (s.modKcl g).pols = s.pols := rfl
@[simp] theorem modKcl_klinks (g : Kcl → Kcl) : (s.modKcl g).klinks = s.klinks := rfl
@[simp] theorem modKcl_bsn (g : Kcl → Kcl) : (s.modKcl g).bsn = s.bsn := rfl
@[simp] theorem modKcl_boot (g : Kcl → Kcl) : (s.modKcl g).boot = s.boot := rfl
@[simp] theorem modKcl_brg (g : Kcl → Kcl) : (s.modKcl g).brg = s.brg := rfl
@[simp] theorem modKcl_flow (g : Kcl → Kcl) : (s.modKcl g).flow = s.flow := rfl
@[simp] theorem modKcl_svc (g : Kcl → Kcl) : (s.modKcl g).svc = s.svc := rfl
@[simp] theorem modKcl_jtag (g : Kcl → Kcl) : (s.modKcl g).jtag = s.jtag := rfl
@[simp] theorem modKcl_freeCtr (g : Kcl → Kcl) : (s.modKcl g).freeCtr = s.freeCtr := rfl
@[simp] theorem modKcl_out (g : Kcl → Kcl) : (s.modKcl g).out = s.out := rfl
@[simp] theorem modKcl_pending (g : Kcl → Kcl) : (s.modKcl g).pending = s.pending := rfl
@[simp] theorem modKcl_kcl (g : Kcl → Kcl) : (s.modKcl g).kcl = g s.kcl := rfl
@[simp] theorem modSvc_variant (g : Svc → Svc) : (s.modSvc g).variant = s.variant := rfl
@[simp] theorem modSvc_mode (g : Svc → Svc) : (s.modSvc g).mode = s.mode := rfl
@[simp] theorem modSvc_dormant (g : Svc → Svc) : (s.modSvc g).dormant = s.dormant := rfl
@[simp] theorem modSvc_tb (g : Svc → Svc) : (s.modSvc g).tb = s.tb := rfl
@[simp] theorem modSvc_pins (g : Svc → Svc) : (s.modSvc g).pins = s.pins := rfl
@[simp] theorem modSvc_flds (g : Svc → Svc) : (s.modSvc g).flds = s.flds := rfl
@[simp] theorem modSvc_staged (g : Svc → Svc) : (s.modSvc g).staged = s.staged := rfl
@[simp] theorem modSvc_cnts (g : Svc → Svc) : (s.modSvc g).cnts = s.cnts := rfl
@[simp] theorem modSvc_bytes (g : Svc → Svc) : (s.modSvc g).bytes = s.bytes := rfl
@[simp] theorem modSvc_fab (g : Svc → Svc) : (s.modSvc g).fab = s.fab := rfl
@[simp] theorem modSvc_log (g : Svc → Svc) : (s.modSvc g).log = s.log := rfl
@[simp] theorem modSvc_eps (g : Svc → Svc) : (s.modSvc g).eps = s.eps := rfl
@[simp] theorem modSvc_flt (g : Svc → Svc) : (s.modSvc g).flt = s.flt := rfl
@[simp] theorem modSvc_threads (g : Svc → Svc) : (s.modSvc g).threads = s.threads := rfl
@[simp] theorem modSvc_tk (g : Svc → Svc) : (s.modSvc g).tk = s.tk := rfl
@[simp] theorem modSvc_ports (g : Svc → Svc) : (s.modSvc g).ports = s.ports := rfl
@[simp] theorem modSvc_ups (g : Svc → Svc) : (s.modSvc g).ups = s.ups := rfl
@[simp] theorem modSvc_engs (g : Svc → Svc) : (s.modSvc g).engs = s.engs := rfl
@[simp] theorem modSvc_paths (g : Svc → Svc) : (s.modSvc g).paths = s.paths := rfl
@[simp] theorem modSvc_chans (g : Svc → Svc) : (s.modSvc g).chans = s.chans := rfl
@[simp] theorem modSvc_tts (g : Svc → Svc) : (s.modSvc g).tts = s.tts := rfl
@[simp] theorem modSvc_queues (g : Svc → Svc) : (s.modSvc g).queues = s.queues := rfl
@[simp] theorem modSvc_egresses (g : Svc → Svc) : (s.modSvc g).egresses = s.egresses := rfl
@[simp] theorem modSvc_pols (g : Svc → Svc) : (s.modSvc g).pols = s.pols := rfl
@[simp] theorem modSvc_klinks (g : Svc → Svc) : (s.modSvc g).klinks = s.klinks := rfl
@[simp] theorem modSvc_bsn (g : Svc → Svc) : (s.modSvc g).bsn = s.bsn := rfl
@[simp] theorem modSvc_boot (g : Svc → Svc) : (s.modSvc g).boot = s.boot := rfl
@[simp] theorem modSvc_brg (g : Svc → Svc) : (s.modSvc g).brg = s.brg := rfl
@[simp] theorem modSvc_flow (g : Svc → Svc) : (s.modSvc g).flow = s.flow := rfl
@[simp] theorem modSvc_kcl (g : Svc → Svc) : (s.modSvc g).kcl = s.kcl := rfl
@[simp] theorem modSvc_jtag (g : Svc → Svc) : (s.modSvc g).jtag = s.jtag := rfl
@[simp] theorem modSvc_freeCtr (g : Svc → Svc) : (s.modSvc g).freeCtr = s.freeCtr := rfl
@[simp] theorem modSvc_out (g : Svc → Svc) : (s.modSvc g).out = s.out := rfl
@[simp] theorem modSvc_pending (g : Svc → Svc) : (s.modSvc g).pending = s.pending := rfl
@[simp] theorem modSvc_svc (g : Svc → Svc) : (s.modSvc g).svc = g s.svc := rfl
@[simp] theorem modJtag_variant (g : Jtag → Jtag) : (s.modJtag g).variant = s.variant := rfl
@[simp] theorem modJtag_mode (g : Jtag → Jtag) : (s.modJtag g).mode = s.mode := rfl
@[simp] theorem modJtag_dormant (g : Jtag → Jtag) : (s.modJtag g).dormant = s.dormant := rfl
@[simp] theorem modJtag_tb (g : Jtag → Jtag) : (s.modJtag g).tb = s.tb := rfl
@[simp] theorem modJtag_pins (g : Jtag → Jtag) : (s.modJtag g).pins = s.pins := rfl
@[simp] theorem modJtag_flds (g : Jtag → Jtag) : (s.modJtag g).flds = s.flds := rfl
@[simp] theorem modJtag_staged (g : Jtag → Jtag) : (s.modJtag g).staged = s.staged := rfl
@[simp] theorem modJtag_cnts (g : Jtag → Jtag) : (s.modJtag g).cnts = s.cnts := rfl
@[simp] theorem modJtag_bytes (g : Jtag → Jtag) : (s.modJtag g).bytes = s.bytes := rfl
@[simp] theorem modJtag_fab (g : Jtag → Jtag) : (s.modJtag g).fab = s.fab := rfl
@[simp] theorem modJtag_log (g : Jtag → Jtag) : (s.modJtag g).log = s.log := rfl
@[simp] theorem modJtag_eps (g : Jtag → Jtag) : (s.modJtag g).eps = s.eps := rfl
@[simp] theorem modJtag_flt (g : Jtag → Jtag) : (s.modJtag g).flt = s.flt := rfl
@[simp] theorem modJtag_threads (g : Jtag → Jtag) : (s.modJtag g).threads = s.threads := rfl
@[simp] theorem modJtag_tk (g : Jtag → Jtag) : (s.modJtag g).tk = s.tk := rfl
@[simp] theorem modJtag_ports (g : Jtag → Jtag) : (s.modJtag g).ports = s.ports := rfl
@[simp] theorem modJtag_ups (g : Jtag → Jtag) : (s.modJtag g).ups = s.ups := rfl
@[simp] theorem modJtag_engs (g : Jtag → Jtag) : (s.modJtag g).engs = s.engs := rfl
@[simp] theorem modJtag_paths (g : Jtag → Jtag) : (s.modJtag g).paths = s.paths := rfl
@[simp] theorem modJtag_chans (g : Jtag → Jtag) : (s.modJtag g).chans = s.chans := rfl
@[simp] theorem modJtag_tts (g : Jtag → Jtag) : (s.modJtag g).tts = s.tts := rfl
@[simp] theorem modJtag_queues (g : Jtag → Jtag) : (s.modJtag g).queues = s.queues := rfl
@[simp] theorem modJtag_egresses (g : Jtag → Jtag) : (s.modJtag g).egresses = s.egresses := rfl
@[simp] theorem modJtag_pols (g : Jtag → Jtag) : (s.modJtag g).pols = s.pols := rfl
@[simp] theorem modJtag_klinks (g : Jtag → Jtag) : (s.modJtag g).klinks = s.klinks := rfl
@[simp] theorem modJtag_bsn (g : Jtag → Jtag) : (s.modJtag g).bsn = s.bsn := rfl
@[simp] theorem modJtag_boot (g : Jtag → Jtag) : (s.modJtag g).boot = s.boot := rfl
@[simp] theorem modJtag_brg (g : Jtag → Jtag) : (s.modJtag g).brg = s.brg := rfl
@[simp] theorem modJtag_flow (g : Jtag → Jtag) : (s.modJtag g).flow = s.flow := rfl
@[simp] theorem modJtag_kcl (g : Jtag → Jtag) : (s.modJtag g).kcl = s.kcl := rfl
@[simp] theorem modJtag_svc (g : Jtag → Jtag) : (s.modJtag g).svc = s.svc := rfl
@[simp] theorem modJtag_freeCtr (g : Jtag → Jtag) : (s.modJtag g).freeCtr = s.freeCtr := rfl
@[simp] theorem modJtag_out (g : Jtag → Jtag) : (s.modJtag g).out = s.out := rfl
@[simp] theorem modJtag_pending (g : Jtag → Jtag) : (s.modJtag g).pending = s.pending := rfl
@[simp] theorem modJtag_jtag (g : Jtag → Jtag) : (s.modJtag g).jtag = g s.jtag := rfl

/-- Reading a field just written gives the value, cut to its width. -/
@[simp] theorem get_set_same (f : Fld) (v : Nat) : (s.set f v).get f = v % 2 ^ f.wid := by
  simp [State.get, State.set]

/-- Writing one field leaves every field with another key. -/
theorem get_set_other (f g : Fld) (v : Nat) (h : g.key ≠ f.key) : (s.set f v).get g = s.get g := by
  simp [State.get, State.set, Tbl.get_set_other _ _ _ _ _ _ h]

/-- Read over write of a field of the same register address and bit, or any other. -/
theorem get_set (f g : Fld) (v : Nat) (hr : g.key = f.key → g.rst = f.rst) :
    (s.set f v).get g = if g.key = f.key then v % 2 ^ f.wid else s.get g := by
  by_cases h : g.key = f.key
  · simp [State.get, State.set, h, hr h]
  · simp [h, get_set_other s f g v h]

@[simp] theorem stage_get (f : Fld) (v : Nat) (x : Fld) : (s.stage f v).get x = s.get x := rfl
@[simp] theorem unstage_get (f : Fld) (x : Fld) : (s.unstage f).get x = s.get x := rfl
@[simp] theorem inc_get (a : Nat) (x : Fld) : (s.inc a).get x = s.get x := rfl
@[simp] theorem incBy_get (a n : Nat) (x : Fld) : (s.incBy a n).get x = s.get x := rfl
@[simp] theorem addBytes_get (a n : Nat) (x : Fld) : (s.addBytes a n).get x = s.get x := rfl
@[simp] theorem emit_get (o : Out) (x : Fld) : (s.emit o).get x = s.get x := rfl
@[simp] theorem answer_get (r : RC) (x : Fld) : (s.answer r).get x = s.get x := rfl
@[simp] theorem answerData_get (v : Nat) (x : Fld) : (s.answerData v).get x = s.get x := rfl
@[simp] theorem freeNext_get  (x : Fld) : (s.freeNext).get x = s.get x := rfl
@[simp] theorem enterMode_get (m : Mode) (x : Fld) : (s.enterMode m).get x = s.get x := rfl
@[simp] theorem setTb_get (v : Nat) (x : Fld) : (s.setTb v).get x = s.get x := rfl
@[simp] theorem setDormant_get (b : Bool) (x : Fld) : (s.setDormant b).get x = s.get x := rfl
@[simp] theorem modThread_get (i : Nat) (g : Thread → Thread) (x : Fld) : (s.modThread i g).get x = s.get x := rfl
@[simp] theorem modPort_get (i : Nat) (g : Port → Port) (x : Fld) : (s.modPort i g).get x = s.get x := rfl
@[simp] theorem modUp_get (i : Nat) (g : Up → Up) (x : Fld) : (s.modUp i g).get x = s.get x := rfl
@[simp] theorem modEng_get (i : Nat) (g : Engine → Engine) (x : Fld) : (s.modEng i g).get x = s.get x := rfl
@[simp] theorem modPath_get (i : Nat) (g : Path → Path) (x : Fld) : (s.modPath i g).get x = s.get x := rfl
@[simp] theorem modChan_get (i : Nat) (g : Chan → Chan) (x : Fld) : (s.modChan i g).get x = s.get x := rfl
@[simp] theorem modTt_get (i : Nat) (g : Tt → Tt) (x : Fld) : (s.modTt i g).get x = s.get x := rfl
@[simp] theorem modQueue_get (i : Nat) (g : Queue → Queue) (x : Fld) : (s.modQueue i g).get x = s.get x := rfl
@[simp] theorem modEgress_get (i : Nat) (g : Egress → Egress) (x : Fld) : (s.modEgress i g).get x = s.get x := rfl
@[simp] theorem modPol_get (i : Nat) (g : Policer → Policer) (x : Fld) : (s.modPol i g).get x = s.get x := rfl
@[simp] theorem modKlink_get (i : Nat) (g : KLink → KLink) (x : Fld) : (s.modKlink i g).get x = s.get x := rfl
@[simp] theorem modBsn_get (g : Basin → Basin) (x : Fld) : (s.modBsn g).get x = s.get x := rfl
@[simp] theorem modFlt_get (g : Faults → Faults) (x : Fld) : (s.modFlt g).get x = s.get x := rfl
@[simp] theorem modPins_get (g : Pins → Pins) (x : Fld) : (s.modPins g).get x = s.get x := rfl
@[simp] theorem modTk_get (g : Torik → Torik) (x : Fld) : (s.modTk g).get x = s.get x := rfl
@[simp] theorem modFab_get (g : Fabric → Fabric) (x : Fld) : (s.modFab g).get x = s.get x := rfl
@[simp] theorem modLog_get (g : Log → Log) (x : Fld) : (s.modLog g).get x = s.get x := rfl
@[simp] theorem modBoot_get (g : Boot → Boot) (x : Fld) : (s.modBoot g).get x = s.get x := rfl
@[simp] theorem modBrg_get (g : Bridges → Bridges) (x : Fld) : (s.modBrg g).get x = s.get x := rfl
@[simp] theorem modFlow_get (g : Flow → Flow) (x : Fld) : (s.modFlow g).get x = s.get x := rfl
@[simp] theorem modKcl_get (g : Kcl → Kcl) (x : Fld) : (s.modKcl g).get x = s.get x := rfl
@[simp] theorem modSvc_get (g : Svc → Svc) (x : Fld) : (s.modSvc g).get x = s.get x := rfl
@[simp] theorem modJtag_get (g : Jtag → Jtag) (x : Fld) : (s.modJtag g).get x = s.get x := rfl
@[simp] theorem set_cnt (f : Fld) (v : Nat) (x : Nat) : (s.set f v).cnt x = s.cnt x := rfl
@[simp] theorem stage_cnt (f : Fld) (v : Nat) (x : Nat) : (s.stage f v).cnt x = s.cnt x := rfl
@[simp] theorem unstage_cnt (f : Fld) (x : Nat) : (s.unstage f).cnt x = s.cnt x := rfl
@[simp] theorem addBytes_cnt (a n : Nat) (x : Nat) : (s.addBytes a n).cnt x = s.cnt x := rfl
@[simp] theorem emit_cnt (o : Out) (x : Nat) : (s.emit o).cnt x = s.cnt x := rfl
@[simp] theorem answer_cnt (r : RC) (x : Nat) : (s.answer r).cnt x = s.cnt x := rfl
@[simp] theorem answerData_cnt (v : Nat) (x : Nat) : (s.answerData v).cnt x = s.cnt x := rfl
@[simp] theorem freeNext_cnt  (x : Nat) : (s.freeNext).cnt x = s.cnt x := rfl
@[simp] theorem enterMode_cnt (m : Mode) (x : Nat) : (s.enterMode m).cnt x = s.cnt x := rfl
@[simp] theorem setTb_cnt (v : Nat) (x : Nat) : (s.setTb v).cnt x = s.cnt x := rfl
@[simp] theorem setDormant_cnt (b : Bool) (x : Nat) : (s.setDormant b).cnt x = s.cnt x := rfl
@[simp] theorem modThread_cnt (i : Nat) (g : Thread → Thread) (x : Nat) : (s.modThread i g).cnt x = s.cnt x := rfl
@[simp] theorem modPort_cnt (i : Nat) (g : Port → Port) (x : Nat) : (s.modPort i g).cnt x = s.cnt x := rfl
@[simp] theorem modUp_cnt (i : Nat) (g : Up → Up) (x : Nat) : (s.modUp i g).cnt x = s.cnt x := rfl
@[simp] theorem modEng_cnt (i : Nat) (g : Engine → Engine) (x : Nat) : (s.modEng i g).cnt x = s.cnt x := rfl
@[simp] theorem modPath_cnt (i : Nat) (g : Path → Path) (x : Nat) : (s.modPath i g).cnt x = s.cnt x := rfl
@[simp] theorem modChan_cnt (i : Nat) (g : Chan → Chan) (x : Nat) : (s.modChan i g).cnt x = s.cnt x := rfl
@[simp] theorem modTt_cnt (i : Nat) (g : Tt → Tt) (x : Nat) : (s.modTt i g).cnt x = s.cnt x := rfl
@[simp] theorem modQueue_cnt (i : Nat) (g : Queue → Queue) (x : Nat) : (s.modQueue i g).cnt x = s.cnt x := rfl
@[simp] theorem modEgress_cnt (i : Nat) (g : Egress → Egress) (x : Nat) : (s.modEgress i g).cnt x = s.cnt x := rfl
@[simp] theorem modPol_cnt (i : Nat) (g : Policer → Policer) (x : Nat) : (s.modPol i g).cnt x = s.cnt x := rfl
@[simp] theorem modKlink_cnt (i : Nat) (g : KLink → KLink) (x : Nat) : (s.modKlink i g).cnt x = s.cnt x := rfl
@[simp] theorem modBsn_cnt (g : Basin → Basin) (x : Nat) : (s.modBsn g).cnt x = s.cnt x := rfl
@[simp] theorem modFlt_cnt (g : Faults → Faults) (x : Nat) : (s.modFlt g).cnt x = s.cnt x := rfl
@[simp] theorem modPins_cnt (g : Pins → Pins) (x : Nat) : (s.modPins g).cnt x = s.cnt x := rfl
@[simp] theorem modTk_cnt (g : Torik → Torik) (x : Nat) : (s.modTk g).cnt x = s.cnt x := rfl
@[simp] theorem modFab_cnt (g : Fabric → Fabric) (x : Nat) : (s.modFab g).cnt x = s.cnt x := rfl
@[simp] theorem modLog_cnt (g : Log → Log) (x : Nat) : (s.modLog g).cnt x = s.cnt x := rfl
@[simp] theorem modBoot_cnt (g : Boot → Boot) (x : Nat) : (s.modBoot g).cnt x = s.cnt x := rfl
@[simp] theorem modBrg_cnt (g : Bridges → Bridges) (x : Nat) : (s.modBrg g).cnt x = s.cnt x := rfl
@[simp] theorem modFlow_cnt (g : Flow → Flow) (x : Nat) : (s.modFlow g).cnt x = s.cnt x := rfl
@[simp] theorem modKcl_cnt (g : Kcl → Kcl) (x : Nat) : (s.modKcl g).cnt x = s.cnt x := rfl
@[simp] theorem modSvc_cnt (g : Svc → Svc) (x : Nat) : (s.modSvc g).cnt x = s.cnt x := rfl
@[simp] theorem modJtag_cnt (g : Jtag → Jtag) (x : Nat) : (s.modJtag g).cnt x = s.cnt x := rfl

/-- A counter reads one more after an event, until it saturates (R492). -/
@[simp] theorem cnt_inc_same (a : Nat) : (s.inc a).cnt a = min (s.cnt a + 1) 0xFFFF := by
  simp [State.cnt, State.inc]

/-- Counting one event leaves every other counter. -/
theorem cnt_inc_other (a b : Nat) (h : b ≠ a) : (s.inc a).cnt b = s.cnt b := by
  simp [State.cnt, State.inc, Tbl.get_set_other _ _ _ _ _ _ h]

@[simp] theorem port_modPort_same (i : Nat) (g : Port → Port) : (s.modPort i g).port i = g (s.port i) := by
  simp [State.port, State.modPort]

theorem port_modPort_other (i j : Nat) (g : Port → Port) (h : j ≠ i) : (s.modPort i g).port j = s.port j := by
  simp [State.port, State.modPort, Tbl.get_set_other _ _ _ _ _ _ h]

@[simp] theorem set_port (f : Fld) (v : Nat) (x : Nat) : (s.set f v).port x = s.port x := rfl
@[simp] theorem stage_port (f : Fld) (v : Nat) (x : Nat) : (s.stage f v).port x = s.port x := rfl
@[simp] theorem unstage_port (f : Fld) (x : Nat) : (s.unstage f).port x = s.port x := rfl
@[simp] theorem inc_port (a : Nat) (x : Nat) : (s.inc a).port x = s.port x := rfl
@[simp] theorem incBy_port (a n : Nat) (x : Nat) : (s.incBy a n).port x = s.port x := rfl
@[simp] theorem addBytes_port (a n : Nat) (x : Nat) : (s.addBytes a n).port x = s.port x := rfl
@[simp] theorem emit_port (o : Out) (x : Nat) : (s.emit o).port x = s.port x := rfl
@[simp] theorem answer_port (r : RC) (x : Nat) : (s.answer r).port x = s.port x := rfl
@[simp] theorem answerData_port (v : Nat) (x : Nat) : (s.answerData v).port x = s.port x := rfl
@[simp] theorem freeNext_port  (x : Nat) : (s.freeNext).port x = s.port x := rfl
@[simp] theorem enterMode_port (m : Mode) (x : Nat) : (s.enterMode m).port x = s.port x := rfl
@[simp] theorem setTb_port (v : Nat) (x : Nat) : (s.setTb v).port x = s.port x := rfl
@[simp] theorem setDormant_port (b : Bool) (x : Nat) : (s.setDormant b).port x = s.port x := rfl
@[simp] theorem modThread_port (i : Nat) (g : Thread → Thread) (x : Nat) : (s.modThread i g).port x = s.port x := rfl
@[simp] theorem modUp_port (i : Nat) (g : Up → Up) (x : Nat) : (s.modUp i g).port x = s.port x := rfl
@[simp] theorem modEng_port (i : Nat) (g : Engine → Engine) (x : Nat) : (s.modEng i g).port x = s.port x := rfl
@[simp] theorem modPath_port (i : Nat) (g : Path → Path) (x : Nat) : (s.modPath i g).port x = s.port x := rfl
@[simp] theorem modChan_port (i : Nat) (g : Chan → Chan) (x : Nat) : (s.modChan i g).port x = s.port x := rfl
@[simp] theorem modTt_port (i : Nat) (g : Tt → Tt) (x : Nat) : (s.modTt i g).port x = s.port x := rfl
@[simp] theorem modQueue_port (i : Nat) (g : Queue → Queue) (x : Nat) : (s.modQueue i g).port x = s.port x := rfl
@[simp] theorem modEgress_port (i : Nat) (g : Egress → Egress) (x : Nat) : (s.modEgress i g).port x = s.port x := rfl
@[simp] theorem modPol_port (i : Nat) (g : Policer → Policer) (x : Nat) : (s.modPol i g).port x = s.port x := rfl
@[simp] theorem modKlink_port (i : Nat) (g : KLink → KLink) (x : Nat) : (s.modKlink i g).port x = s.port x := rfl
@[simp] theorem modBsn_port (g : Basin → Basin) (x : Nat) : (s.modBsn g).port x = s.port x := rfl
@[simp] theorem modFlt_port (g : Faults → Faults) (x : Nat) : (s.modFlt g).port x = s.port x := rfl
@[simp] theorem modPins_port (g : Pins → Pins) (x : Nat) : (s.modPins g).port x = s.port x := rfl
@[simp] theorem modTk_port (g : Torik → Torik) (x : Nat) : (s.modTk g).port x = s.port x := rfl
@[simp] theorem modFab_port (g : Fabric → Fabric) (x : Nat) : (s.modFab g).port x = s.port x := rfl
@[simp] theorem modLog_port (g : Log → Log) (x : Nat) : (s.modLog g).port x = s.port x := rfl
@[simp] theorem modBoot_port (g : Boot → Boot) (x : Nat) : (s.modBoot g).port x = s.port x := rfl
@[simp] theorem modBrg_port (g : Bridges → Bridges) (x : Nat) : (s.modBrg g).port x = s.port x := rfl
@[simp] theorem modFlow_port (g : Flow → Flow) (x : Nat) : (s.modFlow g).port x = s.port x := rfl
@[simp] theorem modKcl_port (g : Kcl → Kcl) (x : Nat) : (s.modKcl g).port x = s.port x := rfl
@[simp] theorem modSvc_port (g : Svc → Svc) (x : Nat) : (s.modSvc g).port x = s.port x := rfl
@[simp] theorem modJtag_port (g : Jtag → Jtag) (x : Nat) : (s.modJtag g).port x = s.port x := rfl
@[simp] theorem up_modUp_same (i : Nat) (g : Up → Up) : (s.modUp i g).up i = g (s.up i) := by
  simp [State.up, State.modUp]

theorem up_modUp_other (i j : Nat) (g : Up → Up) (h : j ≠ i) : (s.modUp i g).up j = s.up j := by
  simp [State.up, State.modUp, Tbl.get_set_other _ _ _ _ _ _ h]

@[simp] theorem set_up (f : Fld) (v : Nat) (x : Nat) : (s.set f v).up x = s.up x := rfl
@[simp] theorem stage_up (f : Fld) (v : Nat) (x : Nat) : (s.stage f v).up x = s.up x := rfl
@[simp] theorem unstage_up (f : Fld) (x : Nat) : (s.unstage f).up x = s.up x := rfl
@[simp] theorem inc_up (a : Nat) (x : Nat) : (s.inc a).up x = s.up x := rfl
@[simp] theorem incBy_up (a n : Nat) (x : Nat) : (s.incBy a n).up x = s.up x := rfl
@[simp] theorem addBytes_up (a n : Nat) (x : Nat) : (s.addBytes a n).up x = s.up x := rfl
@[simp] theorem emit_up (o : Out) (x : Nat) : (s.emit o).up x = s.up x := rfl
@[simp] theorem answer_up (r : RC) (x : Nat) : (s.answer r).up x = s.up x := rfl
@[simp] theorem answerData_up (v : Nat) (x : Nat) : (s.answerData v).up x = s.up x := rfl
@[simp] theorem freeNext_up  (x : Nat) : (s.freeNext).up x = s.up x := rfl
@[simp] theorem enterMode_up (m : Mode) (x : Nat) : (s.enterMode m).up x = s.up x := rfl
@[simp] theorem setTb_up (v : Nat) (x : Nat) : (s.setTb v).up x = s.up x := rfl
@[simp] theorem setDormant_up (b : Bool) (x : Nat) : (s.setDormant b).up x = s.up x := rfl
@[simp] theorem modThread_up (i : Nat) (g : Thread → Thread) (x : Nat) : (s.modThread i g).up x = s.up x := rfl
@[simp] theorem modPort_up (i : Nat) (g : Port → Port) (x : Nat) : (s.modPort i g).up x = s.up x := rfl
@[simp] theorem modEng_up (i : Nat) (g : Engine → Engine) (x : Nat) : (s.modEng i g).up x = s.up x := rfl
@[simp] theorem modPath_up (i : Nat) (g : Path → Path) (x : Nat) : (s.modPath i g).up x = s.up x := rfl
@[simp] theorem modChan_up (i : Nat) (g : Chan → Chan) (x : Nat) : (s.modChan i g).up x = s.up x := rfl
@[simp] theorem modTt_up (i : Nat) (g : Tt → Tt) (x : Nat) : (s.modTt i g).up x = s.up x := rfl
@[simp] theorem modQueue_up (i : Nat) (g : Queue → Queue) (x : Nat) : (s.modQueue i g).up x = s.up x := rfl
@[simp] theorem modEgress_up (i : Nat) (g : Egress → Egress) (x : Nat) : (s.modEgress i g).up x = s.up x := rfl
@[simp] theorem modPol_up (i : Nat) (g : Policer → Policer) (x : Nat) : (s.modPol i g).up x = s.up x := rfl
@[simp] theorem modKlink_up (i : Nat) (g : KLink → KLink) (x : Nat) : (s.modKlink i g).up x = s.up x := rfl
@[simp] theorem modBsn_up (g : Basin → Basin) (x : Nat) : (s.modBsn g).up x = s.up x := rfl
@[simp] theorem modFlt_up (g : Faults → Faults) (x : Nat) : (s.modFlt g).up x = s.up x := rfl
@[simp] theorem modPins_up (g : Pins → Pins) (x : Nat) : (s.modPins g).up x = s.up x := rfl
@[simp] theorem modTk_up (g : Torik → Torik) (x : Nat) : (s.modTk g).up x = s.up x := rfl
@[simp] theorem modFab_up (g : Fabric → Fabric) (x : Nat) : (s.modFab g).up x = s.up x := rfl
@[simp] theorem modLog_up (g : Log → Log) (x : Nat) : (s.modLog g).up x = s.up x := rfl
@[simp] theorem modBoot_up (g : Boot → Boot) (x : Nat) : (s.modBoot g).up x = s.up x := rfl
@[simp] theorem modBrg_up (g : Bridges → Bridges) (x : Nat) : (s.modBrg g).up x = s.up x := rfl
@[simp] theorem modFlow_up (g : Flow → Flow) (x : Nat) : (s.modFlow g).up x = s.up x := rfl
@[simp] theorem modKcl_up (g : Kcl → Kcl) (x : Nat) : (s.modKcl g).up x = s.up x := rfl
@[simp] theorem modSvc_up (g : Svc → Svc) (x : Nat) : (s.modSvc g).up x = s.up x := rfl
@[simp] theorem modJtag_up (g : Jtag → Jtag) (x : Nat) : (s.modJtag g).up x = s.up x := rfl
@[simp] theorem eng_modEng_same (i : Nat) (g : Engine → Engine) : (s.modEng i g).eng i = g (s.eng i) := by
  simp [State.eng, State.modEng]

theorem eng_modEng_other (i j : Nat) (g : Engine → Engine) (h : j ≠ i) : (s.modEng i g).eng j = s.eng j := by
  simp [State.eng, State.modEng, Tbl.get_set_other _ _ _ _ _ _ h]

@[simp] theorem set_eng (f : Fld) (v : Nat) (x : Nat) : (s.set f v).eng x = s.eng x := rfl
@[simp] theorem stage_eng (f : Fld) (v : Nat) (x : Nat) : (s.stage f v).eng x = s.eng x := rfl
@[simp] theorem unstage_eng (f : Fld) (x : Nat) : (s.unstage f).eng x = s.eng x := rfl
@[simp] theorem inc_eng (a : Nat) (x : Nat) : (s.inc a).eng x = s.eng x := rfl
@[simp] theorem incBy_eng (a n : Nat) (x : Nat) : (s.incBy a n).eng x = s.eng x := rfl
@[simp] theorem addBytes_eng (a n : Nat) (x : Nat) : (s.addBytes a n).eng x = s.eng x := rfl
@[simp] theorem emit_eng (o : Out) (x : Nat) : (s.emit o).eng x = s.eng x := rfl
@[simp] theorem answer_eng (r : RC) (x : Nat) : (s.answer r).eng x = s.eng x := rfl
@[simp] theorem answerData_eng (v : Nat) (x : Nat) : (s.answerData v).eng x = s.eng x := rfl
@[simp] theorem freeNext_eng  (x : Nat) : (s.freeNext).eng x = s.eng x := rfl
@[simp] theorem enterMode_eng (m : Mode) (x : Nat) : (s.enterMode m).eng x = s.eng x := rfl
@[simp] theorem setTb_eng (v : Nat) (x : Nat) : (s.setTb v).eng x = s.eng x := rfl
@[simp] theorem setDormant_eng (b : Bool) (x : Nat) : (s.setDormant b).eng x = s.eng x := rfl
@[simp] theorem modThread_eng (i : Nat) (g : Thread → Thread) (x : Nat) : (s.modThread i g).eng x = s.eng x := rfl
@[simp] theorem modPort_eng (i : Nat) (g : Port → Port) (x : Nat) : (s.modPort i g).eng x = s.eng x := rfl
@[simp] theorem modUp_eng (i : Nat) (g : Up → Up) (x : Nat) : (s.modUp i g).eng x = s.eng x := rfl
@[simp] theorem modPath_eng (i : Nat) (g : Path → Path) (x : Nat) : (s.modPath i g).eng x = s.eng x := rfl
@[simp] theorem modChan_eng (i : Nat) (g : Chan → Chan) (x : Nat) : (s.modChan i g).eng x = s.eng x := rfl
@[simp] theorem modTt_eng (i : Nat) (g : Tt → Tt) (x : Nat) : (s.modTt i g).eng x = s.eng x := rfl
@[simp] theorem modQueue_eng (i : Nat) (g : Queue → Queue) (x : Nat) : (s.modQueue i g).eng x = s.eng x := rfl
@[simp] theorem modEgress_eng (i : Nat) (g : Egress → Egress) (x : Nat) : (s.modEgress i g).eng x = s.eng x := rfl
@[simp] theorem modPol_eng (i : Nat) (g : Policer → Policer) (x : Nat) : (s.modPol i g).eng x = s.eng x := rfl
@[simp] theorem modKlink_eng (i : Nat) (g : KLink → KLink) (x : Nat) : (s.modKlink i g).eng x = s.eng x := rfl
@[simp] theorem modBsn_eng (g : Basin → Basin) (x : Nat) : (s.modBsn g).eng x = s.eng x := rfl
@[simp] theorem modFlt_eng (g : Faults → Faults) (x : Nat) : (s.modFlt g).eng x = s.eng x := rfl
@[simp] theorem modPins_eng (g : Pins → Pins) (x : Nat) : (s.modPins g).eng x = s.eng x := rfl
@[simp] theorem modTk_eng (g : Torik → Torik) (x : Nat) : (s.modTk g).eng x = s.eng x := rfl
@[simp] theorem modFab_eng (g : Fabric → Fabric) (x : Nat) : (s.modFab g).eng x = s.eng x := rfl
@[simp] theorem modLog_eng (g : Log → Log) (x : Nat) : (s.modLog g).eng x = s.eng x := rfl
@[simp] theorem modBoot_eng (g : Boot → Boot) (x : Nat) : (s.modBoot g).eng x = s.eng x := rfl
@[simp] theorem modBrg_eng (g : Bridges → Bridges) (x : Nat) : (s.modBrg g).eng x = s.eng x := rfl
@[simp] theorem modFlow_eng (g : Flow → Flow) (x : Nat) : (s.modFlow g).eng x = s.eng x := rfl
@[simp] theorem modKcl_eng (g : Kcl → Kcl) (x : Nat) : (s.modKcl g).eng x = s.eng x := rfl
@[simp] theorem modSvc_eng (g : Svc → Svc) (x : Nat) : (s.modSvc g).eng x = s.eng x := rfl
@[simp] theorem modJtag_eng (g : Jtag → Jtag) (x : Nat) : (s.modJtag g).eng x = s.eng x := rfl
@[simp] theorem path_modPath_same (i : Nat) (g : Path → Path) : (s.modPath i g).path i = g (s.path i) := by
  simp [State.path, State.modPath]

theorem path_modPath_other (i j : Nat) (g : Path → Path) (h : j ≠ i) : (s.modPath i g).path j = s.path j := by
  simp [State.path, State.modPath, Tbl.get_set_other _ _ _ _ _ _ h]

@[simp] theorem set_path (f : Fld) (v : Nat) (x : Nat) : (s.set f v).path x = s.path x := rfl
@[simp] theorem stage_path (f : Fld) (v : Nat) (x : Nat) : (s.stage f v).path x = s.path x := rfl
@[simp] theorem unstage_path (f : Fld) (x : Nat) : (s.unstage f).path x = s.path x := rfl
@[simp] theorem inc_path (a : Nat) (x : Nat) : (s.inc a).path x = s.path x := rfl
@[simp] theorem incBy_path (a n : Nat) (x : Nat) : (s.incBy a n).path x = s.path x := rfl
@[simp] theorem addBytes_path (a n : Nat) (x : Nat) : (s.addBytes a n).path x = s.path x := rfl
@[simp] theorem emit_path (o : Out) (x : Nat) : (s.emit o).path x = s.path x := rfl
@[simp] theorem answer_path (r : RC) (x : Nat) : (s.answer r).path x = s.path x := rfl
@[simp] theorem answerData_path (v : Nat) (x : Nat) : (s.answerData v).path x = s.path x := rfl
@[simp] theorem freeNext_path  (x : Nat) : (s.freeNext).path x = s.path x := rfl
@[simp] theorem enterMode_path (m : Mode) (x : Nat) : (s.enterMode m).path x = s.path x := rfl
@[simp] theorem setTb_path (v : Nat) (x : Nat) : (s.setTb v).path x = s.path x := rfl
@[simp] theorem setDormant_path (b : Bool) (x : Nat) : (s.setDormant b).path x = s.path x := rfl
@[simp] theorem modThread_path (i : Nat) (g : Thread → Thread) (x : Nat) : (s.modThread i g).path x = s.path x := rfl
@[simp] theorem modPort_path (i : Nat) (g : Port → Port) (x : Nat) : (s.modPort i g).path x = s.path x := rfl
@[simp] theorem modUp_path (i : Nat) (g : Up → Up) (x : Nat) : (s.modUp i g).path x = s.path x := rfl
@[simp] theorem modEng_path (i : Nat) (g : Engine → Engine) (x : Nat) : (s.modEng i g).path x = s.path x := rfl
@[simp] theorem modChan_path (i : Nat) (g : Chan → Chan) (x : Nat) : (s.modChan i g).path x = s.path x := rfl
@[simp] theorem modTt_path (i : Nat) (g : Tt → Tt) (x : Nat) : (s.modTt i g).path x = s.path x := rfl
@[simp] theorem modQueue_path (i : Nat) (g : Queue → Queue) (x : Nat) : (s.modQueue i g).path x = s.path x := rfl
@[simp] theorem modEgress_path (i : Nat) (g : Egress → Egress) (x : Nat) : (s.modEgress i g).path x = s.path x := rfl
@[simp] theorem modPol_path (i : Nat) (g : Policer → Policer) (x : Nat) : (s.modPol i g).path x = s.path x := rfl
@[simp] theorem modKlink_path (i : Nat) (g : KLink → KLink) (x : Nat) : (s.modKlink i g).path x = s.path x := rfl
@[simp] theorem modBsn_path (g : Basin → Basin) (x : Nat) : (s.modBsn g).path x = s.path x := rfl
@[simp] theorem modFlt_path (g : Faults → Faults) (x : Nat) : (s.modFlt g).path x = s.path x := rfl
@[simp] theorem modPins_path (g : Pins → Pins) (x : Nat) : (s.modPins g).path x = s.path x := rfl
@[simp] theorem modTk_path (g : Torik → Torik) (x : Nat) : (s.modTk g).path x = s.path x := rfl
@[simp] theorem modFab_path (g : Fabric → Fabric) (x : Nat) : (s.modFab g).path x = s.path x := rfl
@[simp] theorem modLog_path (g : Log → Log) (x : Nat) : (s.modLog g).path x = s.path x := rfl
@[simp] theorem modBoot_path (g : Boot → Boot) (x : Nat) : (s.modBoot g).path x = s.path x := rfl
@[simp] theorem modBrg_path (g : Bridges → Bridges) (x : Nat) : (s.modBrg g).path x = s.path x := rfl
@[simp] theorem modFlow_path (g : Flow → Flow) (x : Nat) : (s.modFlow g).path x = s.path x := rfl
@[simp] theorem modKcl_path (g : Kcl → Kcl) (x : Nat) : (s.modKcl g).path x = s.path x := rfl
@[simp] theorem modSvc_path (g : Svc → Svc) (x : Nat) : (s.modSvc g).path x = s.path x := rfl
@[simp] theorem modJtag_path (g : Jtag → Jtag) (x : Nat) : (s.modJtag g).path x = s.path x := rfl
@[simp] theorem chan_modChan_same (i : Nat) (g : Chan → Chan) : (s.modChan i g).chan i = g (s.chan i) := by
  simp [State.chan, State.modChan]

theorem chan_modChan_other (i j : Nat) (g : Chan → Chan) (h : j ≠ i) : (s.modChan i g).chan j = s.chan j := by
  simp [State.chan, State.modChan, Tbl.get_set_other _ _ _ _ _ _ h]

@[simp] theorem set_chan (f : Fld) (v : Nat) (x : Nat) : (s.set f v).chan x = s.chan x := rfl
@[simp] theorem stage_chan (f : Fld) (v : Nat) (x : Nat) : (s.stage f v).chan x = s.chan x := rfl
@[simp] theorem unstage_chan (f : Fld) (x : Nat) : (s.unstage f).chan x = s.chan x := rfl
@[simp] theorem inc_chan (a : Nat) (x : Nat) : (s.inc a).chan x = s.chan x := rfl
@[simp] theorem incBy_chan (a n : Nat) (x : Nat) : (s.incBy a n).chan x = s.chan x := rfl
@[simp] theorem addBytes_chan (a n : Nat) (x : Nat) : (s.addBytes a n).chan x = s.chan x := rfl
@[simp] theorem emit_chan (o : Out) (x : Nat) : (s.emit o).chan x = s.chan x := rfl
@[simp] theorem answer_chan (r : RC) (x : Nat) : (s.answer r).chan x = s.chan x := rfl
@[simp] theorem answerData_chan (v : Nat) (x : Nat) : (s.answerData v).chan x = s.chan x := rfl
@[simp] theorem freeNext_chan  (x : Nat) : (s.freeNext).chan x = s.chan x := rfl
@[simp] theorem enterMode_chan (m : Mode) (x : Nat) : (s.enterMode m).chan x = s.chan x := rfl
@[simp] theorem setTb_chan (v : Nat) (x : Nat) : (s.setTb v).chan x = s.chan x := rfl
@[simp] theorem setDormant_chan (b : Bool) (x : Nat) : (s.setDormant b).chan x = s.chan x := rfl
@[simp] theorem modThread_chan (i : Nat) (g : Thread → Thread) (x : Nat) : (s.modThread i g).chan x = s.chan x := rfl
@[simp] theorem modPort_chan (i : Nat) (g : Port → Port) (x : Nat) : (s.modPort i g).chan x = s.chan x := rfl
@[simp] theorem modUp_chan (i : Nat) (g : Up → Up) (x : Nat) : (s.modUp i g).chan x = s.chan x := rfl
@[simp] theorem modEng_chan (i : Nat) (g : Engine → Engine) (x : Nat) : (s.modEng i g).chan x = s.chan x := rfl
@[simp] theorem modPath_chan (i : Nat) (g : Path → Path) (x : Nat) : (s.modPath i g).chan x = s.chan x := rfl
@[simp] theorem modTt_chan (i : Nat) (g : Tt → Tt) (x : Nat) : (s.modTt i g).chan x = s.chan x := rfl
@[simp] theorem modQueue_chan (i : Nat) (g : Queue → Queue) (x : Nat) : (s.modQueue i g).chan x = s.chan x := rfl
@[simp] theorem modEgress_chan (i : Nat) (g : Egress → Egress) (x : Nat) : (s.modEgress i g).chan x = s.chan x := rfl
@[simp] theorem modPol_chan (i : Nat) (g : Policer → Policer) (x : Nat) : (s.modPol i g).chan x = s.chan x := rfl
@[simp] theorem modKlink_chan (i : Nat) (g : KLink → KLink) (x : Nat) : (s.modKlink i g).chan x = s.chan x := rfl
@[simp] theorem modBsn_chan (g : Basin → Basin) (x : Nat) : (s.modBsn g).chan x = s.chan x := rfl
@[simp] theorem modFlt_chan (g : Faults → Faults) (x : Nat) : (s.modFlt g).chan x = s.chan x := rfl
@[simp] theorem modPins_chan (g : Pins → Pins) (x : Nat) : (s.modPins g).chan x = s.chan x := rfl
@[simp] theorem modTk_chan (g : Torik → Torik) (x : Nat) : (s.modTk g).chan x = s.chan x := rfl
@[simp] theorem modFab_chan (g : Fabric → Fabric) (x : Nat) : (s.modFab g).chan x = s.chan x := rfl
@[simp] theorem modLog_chan (g : Log → Log) (x : Nat) : (s.modLog g).chan x = s.chan x := rfl
@[simp] theorem modBoot_chan (g : Boot → Boot) (x : Nat) : (s.modBoot g).chan x = s.chan x := rfl
@[simp] theorem modBrg_chan (g : Bridges → Bridges) (x : Nat) : (s.modBrg g).chan x = s.chan x := rfl
@[simp] theorem modFlow_chan (g : Flow → Flow) (x : Nat) : (s.modFlow g).chan x = s.chan x := rfl
@[simp] theorem modKcl_chan (g : Kcl → Kcl) (x : Nat) : (s.modKcl g).chan x = s.chan x := rfl
@[simp] theorem modSvc_chan (g : Svc → Svc) (x : Nat) : (s.modSvc g).chan x = s.chan x := rfl
@[simp] theorem modJtag_chan (g : Jtag → Jtag) (x : Nat) : (s.modJtag g).chan x = s.chan x := rfl
@[simp] theorem tt_modTt_same (i : Nat) (g : Tt → Tt) : (s.modTt i g).tt i = g (s.tt i) := by
  simp [State.tt, State.modTt]

theorem tt_modTt_other (i j : Nat) (g : Tt → Tt) (h : j ≠ i) : (s.modTt i g).tt j = s.tt j := by
  simp [State.tt, State.modTt, Tbl.get_set_other _ _ _ _ _ _ h]

@[simp] theorem set_tt (f : Fld) (v : Nat) (x : Nat) : (s.set f v).tt x = s.tt x := rfl
@[simp] theorem stage_tt (f : Fld) (v : Nat) (x : Nat) : (s.stage f v).tt x = s.tt x := rfl
@[simp] theorem unstage_tt (f : Fld) (x : Nat) : (s.unstage f).tt x = s.tt x := rfl
@[simp] theorem inc_tt (a : Nat) (x : Nat) : (s.inc a).tt x = s.tt x := rfl
@[simp] theorem incBy_tt (a n : Nat) (x : Nat) : (s.incBy a n).tt x = s.tt x := rfl
@[simp] theorem addBytes_tt (a n : Nat) (x : Nat) : (s.addBytes a n).tt x = s.tt x := rfl
@[simp] theorem emit_tt (o : Out) (x : Nat) : (s.emit o).tt x = s.tt x := rfl
@[simp] theorem answer_tt (r : RC) (x : Nat) : (s.answer r).tt x = s.tt x := rfl
@[simp] theorem answerData_tt (v : Nat) (x : Nat) : (s.answerData v).tt x = s.tt x := rfl
@[simp] theorem freeNext_tt  (x : Nat) : (s.freeNext).tt x = s.tt x := rfl
@[simp] theorem enterMode_tt (m : Mode) (x : Nat) : (s.enterMode m).tt x = s.tt x := rfl
@[simp] theorem setTb_tt (v : Nat) (x : Nat) : (s.setTb v).tt x = s.tt x := rfl
@[simp] theorem setDormant_tt (b : Bool) (x : Nat) : (s.setDormant b).tt x = s.tt x := rfl
@[simp] theorem modThread_tt (i : Nat) (g : Thread → Thread) (x : Nat) : (s.modThread i g).tt x = s.tt x := rfl
@[simp] theorem modPort_tt (i : Nat) (g : Port → Port) (x : Nat) : (s.modPort i g).tt x = s.tt x := rfl
@[simp] theorem modUp_tt (i : Nat) (g : Up → Up) (x : Nat) : (s.modUp i g).tt x = s.tt x := rfl
@[simp] theorem modEng_tt (i : Nat) (g : Engine → Engine) (x : Nat) : (s.modEng i g).tt x = s.tt x := rfl
@[simp] theorem modPath_tt (i : Nat) (g : Path → Path) (x : Nat) : (s.modPath i g).tt x = s.tt x := rfl
@[simp] theorem modChan_tt (i : Nat) (g : Chan → Chan) (x : Nat) : (s.modChan i g).tt x = s.tt x := rfl
@[simp] theorem modQueue_tt (i : Nat) (g : Queue → Queue) (x : Nat) : (s.modQueue i g).tt x = s.tt x := rfl
@[simp] theorem modEgress_tt (i : Nat) (g : Egress → Egress) (x : Nat) : (s.modEgress i g).tt x = s.tt x := rfl
@[simp] theorem modPol_tt (i : Nat) (g : Policer → Policer) (x : Nat) : (s.modPol i g).tt x = s.tt x := rfl
@[simp] theorem modKlink_tt (i : Nat) (g : KLink → KLink) (x : Nat) : (s.modKlink i g).tt x = s.tt x := rfl
@[simp] theorem modBsn_tt (g : Basin → Basin) (x : Nat) : (s.modBsn g).tt x = s.tt x := rfl
@[simp] theorem modFlt_tt (g : Faults → Faults) (x : Nat) : (s.modFlt g).tt x = s.tt x := rfl
@[simp] theorem modPins_tt (g : Pins → Pins) (x : Nat) : (s.modPins g).tt x = s.tt x := rfl
@[simp] theorem modTk_tt (g : Torik → Torik) (x : Nat) : (s.modTk g).tt x = s.tt x := rfl
@[simp] theorem modFab_tt (g : Fabric → Fabric) (x : Nat) : (s.modFab g).tt x = s.tt x := rfl
@[simp] theorem modLog_tt (g : Log → Log) (x : Nat) : (s.modLog g).tt x = s.tt x := rfl
@[simp] theorem modBoot_tt (g : Boot → Boot) (x : Nat) : (s.modBoot g).tt x = s.tt x := rfl
@[simp] theorem modBrg_tt (g : Bridges → Bridges) (x : Nat) : (s.modBrg g).tt x = s.tt x := rfl
@[simp] theorem modFlow_tt (g : Flow → Flow) (x : Nat) : (s.modFlow g).tt x = s.tt x := rfl
@[simp] theorem modKcl_tt (g : Kcl → Kcl) (x : Nat) : (s.modKcl g).tt x = s.tt x := rfl
@[simp] theorem modSvc_tt (g : Svc → Svc) (x : Nat) : (s.modSvc g).tt x = s.tt x := rfl
@[simp] theorem modJtag_tt (g : Jtag → Jtag) (x : Nat) : (s.modJtag g).tt x = s.tt x := rfl
@[simp] theorem queue_modQueue_same (i : Nat) (g : Queue → Queue) : (s.modQueue i g).queue i = g (s.queue i) := by
  simp [State.queue, State.modQueue]

theorem queue_modQueue_other (i j : Nat) (g : Queue → Queue) (h : j ≠ i) : (s.modQueue i g).queue j = s.queue j := by
  simp [State.queue, State.modQueue, Tbl.get_set_other _ _ _ _ _ _ h]

@[simp] theorem set_queue (f : Fld) (v : Nat) (x : Nat) : (s.set f v).queue x = s.queue x := rfl
@[simp] theorem stage_queue (f : Fld) (v : Nat) (x : Nat) : (s.stage f v).queue x = s.queue x := rfl
@[simp] theorem unstage_queue (f : Fld) (x : Nat) : (s.unstage f).queue x = s.queue x := rfl
@[simp] theorem inc_queue (a : Nat) (x : Nat) : (s.inc a).queue x = s.queue x := rfl
@[simp] theorem incBy_queue (a n : Nat) (x : Nat) : (s.incBy a n).queue x = s.queue x := rfl
@[simp] theorem addBytes_queue (a n : Nat) (x : Nat) : (s.addBytes a n).queue x = s.queue x := rfl
@[simp] theorem emit_queue (o : Out) (x : Nat) : (s.emit o).queue x = s.queue x := rfl
@[simp] theorem answer_queue (r : RC) (x : Nat) : (s.answer r).queue x = s.queue x := rfl
@[simp] theorem answerData_queue (v : Nat) (x : Nat) : (s.answerData v).queue x = s.queue x := rfl
@[simp] theorem freeNext_queue  (x : Nat) : (s.freeNext).queue x = s.queue x := rfl
@[simp] theorem enterMode_queue (m : Mode) (x : Nat) : (s.enterMode m).queue x = s.queue x := rfl
@[simp] theorem setTb_queue (v : Nat) (x : Nat) : (s.setTb v).queue x = s.queue x := rfl
@[simp] theorem setDormant_queue (b : Bool) (x : Nat) : (s.setDormant b).queue x = s.queue x := rfl
@[simp] theorem modThread_queue (i : Nat) (g : Thread → Thread) (x : Nat) : (s.modThread i g).queue x = s.queue x := rfl
@[simp] theorem modPort_queue (i : Nat) (g : Port → Port) (x : Nat) : (s.modPort i g).queue x = s.queue x := rfl
@[simp] theorem modUp_queue (i : Nat) (g : Up → Up) (x : Nat) : (s.modUp i g).queue x = s.queue x := rfl
@[simp] theorem modEng_queue (i : Nat) (g : Engine → Engine) (x : Nat) : (s.modEng i g).queue x = s.queue x := rfl
@[simp] theorem modPath_queue (i : Nat) (g : Path → Path) (x : Nat) : (s.modPath i g).queue x = s.queue x := rfl
@[simp] theorem modChan_queue (i : Nat) (g : Chan → Chan) (x : Nat) : (s.modChan i g).queue x = s.queue x := rfl
@[simp] theorem modTt_queue (i : Nat) (g : Tt → Tt) (x : Nat) : (s.modTt i g).queue x = s.queue x := rfl
@[simp] theorem modEgress_queue (i : Nat) (g : Egress → Egress) (x : Nat) : (s.modEgress i g).queue x = s.queue x := rfl
@[simp] theorem modPol_queue (i : Nat) (g : Policer → Policer) (x : Nat) : (s.modPol i g).queue x = s.queue x := rfl
@[simp] theorem modKlink_queue (i : Nat) (g : KLink → KLink) (x : Nat) : (s.modKlink i g).queue x = s.queue x := rfl
@[simp] theorem modBsn_queue (g : Basin → Basin) (x : Nat) : (s.modBsn g).queue x = s.queue x := rfl
@[simp] theorem modFlt_queue (g : Faults → Faults) (x : Nat) : (s.modFlt g).queue x = s.queue x := rfl
@[simp] theorem modPins_queue (g : Pins → Pins) (x : Nat) : (s.modPins g).queue x = s.queue x := rfl
@[simp] theorem modTk_queue (g : Torik → Torik) (x : Nat) : (s.modTk g).queue x = s.queue x := rfl
@[simp] theorem modFab_queue (g : Fabric → Fabric) (x : Nat) : (s.modFab g).queue x = s.queue x := rfl
@[simp] theorem modLog_queue (g : Log → Log) (x : Nat) : (s.modLog g).queue x = s.queue x := rfl
@[simp] theorem modBoot_queue (g : Boot → Boot) (x : Nat) : (s.modBoot g).queue x = s.queue x := rfl
@[simp] theorem modBrg_queue (g : Bridges → Bridges) (x : Nat) : (s.modBrg g).queue x = s.queue x := rfl
@[simp] theorem modFlow_queue (g : Flow → Flow) (x : Nat) : (s.modFlow g).queue x = s.queue x := rfl
@[simp] theorem modKcl_queue (g : Kcl → Kcl) (x : Nat) : (s.modKcl g).queue x = s.queue x := rfl
@[simp] theorem modSvc_queue (g : Svc → Svc) (x : Nat) : (s.modSvc g).queue x = s.queue x := rfl
@[simp] theorem modJtag_queue (g : Jtag → Jtag) (x : Nat) : (s.modJtag g).queue x = s.queue x := rfl
@[simp] theorem egress_modEgress_same (i : Nat) (g : Egress → Egress) : (s.modEgress i g).egress i = g (s.egress i) := by
  simp [State.egress, State.modEgress]

theorem egress_modEgress_other (i j : Nat) (g : Egress → Egress) (h : j ≠ i) : (s.modEgress i g).egress j = s.egress j := by
  simp [State.egress, State.modEgress, Tbl.get_set_other _ _ _ _ _ _ h]

@[simp] theorem set_egress (f : Fld) (v : Nat) (x : Nat) : (s.set f v).egress x = s.egress x := rfl
@[simp] theorem stage_egress (f : Fld) (v : Nat) (x : Nat) : (s.stage f v).egress x = s.egress x := rfl
@[simp] theorem unstage_egress (f : Fld) (x : Nat) : (s.unstage f).egress x = s.egress x := rfl
@[simp] theorem inc_egress (a : Nat) (x : Nat) : (s.inc a).egress x = s.egress x := rfl
@[simp] theorem incBy_egress (a n : Nat) (x : Nat) : (s.incBy a n).egress x = s.egress x := rfl
@[simp] theorem addBytes_egress (a n : Nat) (x : Nat) : (s.addBytes a n).egress x = s.egress x := rfl
@[simp] theorem emit_egress (o : Out) (x : Nat) : (s.emit o).egress x = s.egress x := rfl
@[simp] theorem answer_egress (r : RC) (x : Nat) : (s.answer r).egress x = s.egress x := rfl
@[simp] theorem answerData_egress (v : Nat) (x : Nat) : (s.answerData v).egress x = s.egress x := rfl
@[simp] theorem freeNext_egress  (x : Nat) : (s.freeNext).egress x = s.egress x := rfl
@[simp] theorem enterMode_egress (m : Mode) (x : Nat) : (s.enterMode m).egress x = s.egress x := rfl
@[simp] theorem setTb_egress (v : Nat) (x : Nat) : (s.setTb v).egress x = s.egress x := rfl
@[simp] theorem setDormant_egress (b : Bool) (x : Nat) : (s.setDormant b).egress x = s.egress x := rfl
@[simp] theorem modThread_egress (i : Nat) (g : Thread → Thread) (x : Nat) : (s.modThread i g).egress x = s.egress x := rfl
@[simp] theorem modPort_egress (i : Nat) (g : Port → Port) (x : Nat) : (s.modPort i g).egress x = s.egress x := rfl
@[simp] theorem modUp_egress (i : Nat) (g : Up → Up) (x : Nat) : (s.modUp i g).egress x = s.egress x := rfl
@[simp] theorem modEng_egress (i : Nat) (g : Engine → Engine) (x : Nat) : (s.modEng i g).egress x = s.egress x := rfl
@[simp] theorem modPath_egress (i : Nat) (g : Path → Path) (x : Nat) : (s.modPath i g).egress x = s.egress x := rfl
@[simp] theorem modChan_egress (i : Nat) (g : Chan → Chan) (x : Nat) : (s.modChan i g).egress x = s.egress x := rfl
@[simp] theorem modTt_egress (i : Nat) (g : Tt → Tt) (x : Nat) : (s.modTt i g).egress x = s.egress x := rfl
@[simp] theorem modQueue_egress (i : Nat) (g : Queue → Queue) (x : Nat) : (s.modQueue i g).egress x = s.egress x := rfl
@[simp] theorem modPol_egress (i : Nat) (g : Policer → Policer) (x : Nat) : (s.modPol i g).egress x = s.egress x := rfl
@[simp] theorem modKlink_egress (i : Nat) (g : KLink → KLink) (x : Nat) : (s.modKlink i g).egress x = s.egress x := rfl
@[simp] theorem modBsn_egress (g : Basin → Basin) (x : Nat) : (s.modBsn g).egress x = s.egress x := rfl
@[simp] theorem modFlt_egress (g : Faults → Faults) (x : Nat) : (s.modFlt g).egress x = s.egress x := rfl
@[simp] theorem modPins_egress (g : Pins → Pins) (x : Nat) : (s.modPins g).egress x = s.egress x := rfl
@[simp] theorem modTk_egress (g : Torik → Torik) (x : Nat) : (s.modTk g).egress x = s.egress x := rfl
@[simp] theorem modFab_egress (g : Fabric → Fabric) (x : Nat) : (s.modFab g).egress x = s.egress x := rfl
@[simp] theorem modLog_egress (g : Log → Log) (x : Nat) : (s.modLog g).egress x = s.egress x := rfl
@[simp] theorem modBoot_egress (g : Boot → Boot) (x : Nat) : (s.modBoot g).egress x = s.egress x := rfl
@[simp] theorem modBrg_egress (g : Bridges → Bridges) (x : Nat) : (s.modBrg g).egress x = s.egress x := rfl
@[simp] theorem modFlow_egress (g : Flow → Flow) (x : Nat) : (s.modFlow g).egress x = s.egress x := rfl
@[simp] theorem modKcl_egress (g : Kcl → Kcl) (x : Nat) : (s.modKcl g).egress x = s.egress x := rfl
@[simp] theorem modSvc_egress (g : Svc → Svc) (x : Nat) : (s.modSvc g).egress x = s.egress x := rfl
@[simp] theorem modJtag_egress (g : Jtag → Jtag) (x : Nat) : (s.modJtag g).egress x = s.egress x := rfl
@[simp] theorem pol_modPol_same (i : Nat) (g : Policer → Policer) : (s.modPol i g).pol i = g (s.pol i) := by
  simp [State.pol, State.modPol]

theorem pol_modPol_other (i j : Nat) (g : Policer → Policer) (h : j ≠ i) : (s.modPol i g).pol j = s.pol j := by
  simp [State.pol, State.modPol, Tbl.get_set_other _ _ _ _ _ _ h]

@[simp] theorem set_pol (f : Fld) (v : Nat) (x : Nat) : (s.set f v).pol x = s.pol x := rfl
@[simp] theorem stage_pol (f : Fld) (v : Nat) (x : Nat) : (s.stage f v).pol x = s.pol x := rfl
@[simp] theorem unstage_pol (f : Fld) (x : Nat) : (s.unstage f).pol x = s.pol x := rfl
@[simp] theorem inc_pol (a : Nat) (x : Nat) : (s.inc a).pol x = s.pol x := rfl
@[simp] theorem incBy_pol (a n : Nat) (x : Nat) : (s.incBy a n).pol x = s.pol x := rfl
@[simp] theorem addBytes_pol (a n : Nat) (x : Nat) : (s.addBytes a n).pol x = s.pol x := rfl
@[simp] theorem emit_pol (o : Out) (x : Nat) : (s.emit o).pol x = s.pol x := rfl
@[simp] theorem answer_pol (r : RC) (x : Nat) : (s.answer r).pol x = s.pol x := rfl
@[simp] theorem answerData_pol (v : Nat) (x : Nat) : (s.answerData v).pol x = s.pol x := rfl
@[simp] theorem freeNext_pol  (x : Nat) : (s.freeNext).pol x = s.pol x := rfl
@[simp] theorem enterMode_pol (m : Mode) (x : Nat) : (s.enterMode m).pol x = s.pol x := rfl
@[simp] theorem setTb_pol (v : Nat) (x : Nat) : (s.setTb v).pol x = s.pol x := rfl
@[simp] theorem setDormant_pol (b : Bool) (x : Nat) : (s.setDormant b).pol x = s.pol x := rfl
@[simp] theorem modThread_pol (i : Nat) (g : Thread → Thread) (x : Nat) : (s.modThread i g).pol x = s.pol x := rfl
@[simp] theorem modPort_pol (i : Nat) (g : Port → Port) (x : Nat) : (s.modPort i g).pol x = s.pol x := rfl
@[simp] theorem modUp_pol (i : Nat) (g : Up → Up) (x : Nat) : (s.modUp i g).pol x = s.pol x := rfl
@[simp] theorem modEng_pol (i : Nat) (g : Engine → Engine) (x : Nat) : (s.modEng i g).pol x = s.pol x := rfl
@[simp] theorem modPath_pol (i : Nat) (g : Path → Path) (x : Nat) : (s.modPath i g).pol x = s.pol x := rfl
@[simp] theorem modChan_pol (i : Nat) (g : Chan → Chan) (x : Nat) : (s.modChan i g).pol x = s.pol x := rfl
@[simp] theorem modTt_pol (i : Nat) (g : Tt → Tt) (x : Nat) : (s.modTt i g).pol x = s.pol x := rfl
@[simp] theorem modQueue_pol (i : Nat) (g : Queue → Queue) (x : Nat) : (s.modQueue i g).pol x = s.pol x := rfl
@[simp] theorem modEgress_pol (i : Nat) (g : Egress → Egress) (x : Nat) : (s.modEgress i g).pol x = s.pol x := rfl
@[simp] theorem modKlink_pol (i : Nat) (g : KLink → KLink) (x : Nat) : (s.modKlink i g).pol x = s.pol x := rfl
@[simp] theorem modBsn_pol (g : Basin → Basin) (x : Nat) : (s.modBsn g).pol x = s.pol x := rfl
@[simp] theorem modFlt_pol (g : Faults → Faults) (x : Nat) : (s.modFlt g).pol x = s.pol x := rfl
@[simp] theorem modPins_pol (g : Pins → Pins) (x : Nat) : (s.modPins g).pol x = s.pol x := rfl
@[simp] theorem modTk_pol (g : Torik → Torik) (x : Nat) : (s.modTk g).pol x = s.pol x := rfl
@[simp] theorem modFab_pol (g : Fabric → Fabric) (x : Nat) : (s.modFab g).pol x = s.pol x := rfl
@[simp] theorem modLog_pol (g : Log → Log) (x : Nat) : (s.modLog g).pol x = s.pol x := rfl
@[simp] theorem modBoot_pol (g : Boot → Boot) (x : Nat) : (s.modBoot g).pol x = s.pol x := rfl
@[simp] theorem modBrg_pol (g : Bridges → Bridges) (x : Nat) : (s.modBrg g).pol x = s.pol x := rfl
@[simp] theorem modFlow_pol (g : Flow → Flow) (x : Nat) : (s.modFlow g).pol x = s.pol x := rfl
@[simp] theorem modKcl_pol (g : Kcl → Kcl) (x : Nat) : (s.modKcl g).pol x = s.pol x := rfl
@[simp] theorem modSvc_pol (g : Svc → Svc) (x : Nat) : (s.modSvc g).pol x = s.pol x := rfl
@[simp] theorem modJtag_pol (g : Jtag → Jtag) (x : Nat) : (s.modJtag g).pol x = s.pol x := rfl
@[simp] theorem klink_modKlink_same (i : Nat) (g : KLink → KLink) : (s.modKlink i g).klink i = g (s.klink i) := by
  simp [State.klink, State.modKlink]

theorem klink_modKlink_other (i j : Nat) (g : KLink → KLink) (h : j ≠ i) : (s.modKlink i g).klink j = s.klink j := by
  simp [State.klink, State.modKlink, Tbl.get_set_other _ _ _ _ _ _ h]

@[simp] theorem set_klink (f : Fld) (v : Nat) (x : Nat) : (s.set f v).klink x = s.klink x := rfl
@[simp] theorem stage_klink (f : Fld) (v : Nat) (x : Nat) : (s.stage f v).klink x = s.klink x := rfl
@[simp] theorem unstage_klink (f : Fld) (x : Nat) : (s.unstage f).klink x = s.klink x := rfl
@[simp] theorem inc_klink (a : Nat) (x : Nat) : (s.inc a).klink x = s.klink x := rfl
@[simp] theorem incBy_klink (a n : Nat) (x : Nat) : (s.incBy a n).klink x = s.klink x := rfl
@[simp] theorem addBytes_klink (a n : Nat) (x : Nat) : (s.addBytes a n).klink x = s.klink x := rfl
@[simp] theorem emit_klink (o : Out) (x : Nat) : (s.emit o).klink x = s.klink x := rfl
@[simp] theorem answer_klink (r : RC) (x : Nat) : (s.answer r).klink x = s.klink x := rfl
@[simp] theorem answerData_klink (v : Nat) (x : Nat) : (s.answerData v).klink x = s.klink x := rfl
@[simp] theorem freeNext_klink  (x : Nat) : (s.freeNext).klink x = s.klink x := rfl
@[simp] theorem enterMode_klink (m : Mode) (x : Nat) : (s.enterMode m).klink x = s.klink x := rfl
@[simp] theorem setTb_klink (v : Nat) (x : Nat) : (s.setTb v).klink x = s.klink x := rfl
@[simp] theorem setDormant_klink (b : Bool) (x : Nat) : (s.setDormant b).klink x = s.klink x := rfl
@[simp] theorem modThread_klink (i : Nat) (g : Thread → Thread) (x : Nat) : (s.modThread i g).klink x = s.klink x := rfl
@[simp] theorem modPort_klink (i : Nat) (g : Port → Port) (x : Nat) : (s.modPort i g).klink x = s.klink x := rfl
@[simp] theorem modUp_klink (i : Nat) (g : Up → Up) (x : Nat) : (s.modUp i g).klink x = s.klink x := rfl
@[simp] theorem modEng_klink (i : Nat) (g : Engine → Engine) (x : Nat) : (s.modEng i g).klink x = s.klink x := rfl
@[simp] theorem modPath_klink (i : Nat) (g : Path → Path) (x : Nat) : (s.modPath i g).klink x = s.klink x := rfl
@[simp] theorem modChan_klink (i : Nat) (g : Chan → Chan) (x : Nat) : (s.modChan i g).klink x = s.klink x := rfl
@[simp] theorem modTt_klink (i : Nat) (g : Tt → Tt) (x : Nat) : (s.modTt i g).klink x = s.klink x := rfl
@[simp] theorem modQueue_klink (i : Nat) (g : Queue → Queue) (x : Nat) : (s.modQueue i g).klink x = s.klink x := rfl
@[simp] theorem modEgress_klink (i : Nat) (g : Egress → Egress) (x : Nat) : (s.modEgress i g).klink x = s.klink x := rfl
@[simp] theorem modPol_klink (i : Nat) (g : Policer → Policer) (x : Nat) : (s.modPol i g).klink x = s.klink x := rfl
@[simp] theorem modBsn_klink (g : Basin → Basin) (x : Nat) : (s.modBsn g).klink x = s.klink x := rfl
@[simp] theorem modFlt_klink (g : Faults → Faults) (x : Nat) : (s.modFlt g).klink x = s.klink x := rfl
@[simp] theorem modPins_klink (g : Pins → Pins) (x : Nat) : (s.modPins g).klink x = s.klink x := rfl
@[simp] theorem modTk_klink (g : Torik → Torik) (x : Nat) : (s.modTk g).klink x = s.klink x := rfl
@[simp] theorem modFab_klink (g : Fabric → Fabric) (x : Nat) : (s.modFab g).klink x = s.klink x := rfl
@[simp] theorem modLog_klink (g : Log → Log) (x : Nat) : (s.modLog g).klink x = s.klink x := rfl
@[simp] theorem modBoot_klink (g : Boot → Boot) (x : Nat) : (s.modBoot g).klink x = s.klink x := rfl
@[simp] theorem modBrg_klink (g : Bridges → Bridges) (x : Nat) : (s.modBrg g).klink x = s.klink x := rfl
@[simp] theorem modFlow_klink (g : Flow → Flow) (x : Nat) : (s.modFlow g).klink x = s.klink x := rfl
@[simp] theorem modKcl_klink (g : Kcl → Kcl) (x : Nat) : (s.modKcl g).klink x = s.klink x := rfl
@[simp] theorem modSvc_klink (g : Svc → Svc) (x : Nat) : (s.modSvc g).klink x = s.klink x := rfl
@[simp] theorem modJtag_klink (g : Jtag → Jtag) (x : Nat) : (s.modJtag g).klink x = s.klink x := rfl
@[simp] theorem thread_modThread_same (i : Nat) (g : Thread → Thread) : (s.modThread i g).thread i = g (s.thread i) := by
  simp [State.thread, State.modThread]

theorem thread_modThread_other (i j : Nat) (g : Thread → Thread) (h : j ≠ i) : (s.modThread i g).thread j = s.thread j := by
  simp [State.thread, State.modThread, Tbl.get_set_other _ _ _ _ _ _ h]

@[simp] theorem set_thread (f : Fld) (v : Nat) (x : Nat) : (s.set f v).thread x = s.thread x := rfl
@[simp] theorem stage_thread (f : Fld) (v : Nat) (x : Nat) : (s.stage f v).thread x = s.thread x := rfl
@[simp] theorem unstage_thread (f : Fld) (x : Nat) : (s.unstage f).thread x = s.thread x := rfl
@[simp] theorem inc_thread (a : Nat) (x : Nat) : (s.inc a).thread x = s.thread x := rfl
@[simp] theorem incBy_thread (a n : Nat) (x : Nat) : (s.incBy a n).thread x = s.thread x := rfl
@[simp] theorem addBytes_thread (a n : Nat) (x : Nat) : (s.addBytes a n).thread x = s.thread x := rfl
@[simp] theorem emit_thread (o : Out) (x : Nat) : (s.emit o).thread x = s.thread x := rfl
@[simp] theorem answer_thread (r : RC) (x : Nat) : (s.answer r).thread x = s.thread x := rfl
@[simp] theorem answerData_thread (v : Nat) (x : Nat) : (s.answerData v).thread x = s.thread x := rfl
@[simp] theorem freeNext_thread  (x : Nat) : (s.freeNext).thread x = s.thread x := rfl
@[simp] theorem enterMode_thread (m : Mode) (x : Nat) : (s.enterMode m).thread x = s.thread x := rfl
@[simp] theorem setTb_thread (v : Nat) (x : Nat) : (s.setTb v).thread x = s.thread x := rfl
@[simp] theorem setDormant_thread (b : Bool) (x : Nat) : (s.setDormant b).thread x = s.thread x := rfl
@[simp] theorem modPort_thread (i : Nat) (g : Port → Port) (x : Nat) : (s.modPort i g).thread x = s.thread x := rfl
@[simp] theorem modUp_thread (i : Nat) (g : Up → Up) (x : Nat) : (s.modUp i g).thread x = s.thread x := rfl
@[simp] theorem modEng_thread (i : Nat) (g : Engine → Engine) (x : Nat) : (s.modEng i g).thread x = s.thread x := rfl
@[simp] theorem modPath_thread (i : Nat) (g : Path → Path) (x : Nat) : (s.modPath i g).thread x = s.thread x := rfl
@[simp] theorem modChan_thread (i : Nat) (g : Chan → Chan) (x : Nat) : (s.modChan i g).thread x = s.thread x := rfl
@[simp] theorem modTt_thread (i : Nat) (g : Tt → Tt) (x : Nat) : (s.modTt i g).thread x = s.thread x := rfl
@[simp] theorem modQueue_thread (i : Nat) (g : Queue → Queue) (x : Nat) : (s.modQueue i g).thread x = s.thread x := rfl
@[simp] theorem modEgress_thread (i : Nat) (g : Egress → Egress) (x : Nat) : (s.modEgress i g).thread x = s.thread x := rfl
@[simp] theorem modPol_thread (i : Nat) (g : Policer → Policer) (x : Nat) : (s.modPol i g).thread x = s.thread x := rfl
@[simp] theorem modKlink_thread (i : Nat) (g : KLink → KLink) (x : Nat) : (s.modKlink i g).thread x = s.thread x := rfl
@[simp] theorem modBsn_thread (g : Basin → Basin) (x : Nat) : (s.modBsn g).thread x = s.thread x := rfl
@[simp] theorem modFlt_thread (g : Faults → Faults) (x : Nat) : (s.modFlt g).thread x = s.thread x := rfl
@[simp] theorem modPins_thread (g : Pins → Pins) (x : Nat) : (s.modPins g).thread x = s.thread x := rfl
@[simp] theorem modTk_thread (g : Torik → Torik) (x : Nat) : (s.modTk g).thread x = s.thread x := rfl
@[simp] theorem modFab_thread (g : Fabric → Fabric) (x : Nat) : (s.modFab g).thread x = s.thread x := rfl
@[simp] theorem modLog_thread (g : Log → Log) (x : Nat) : (s.modLog g).thread x = s.thread x := rfl
@[simp] theorem modBoot_thread (g : Boot → Boot) (x : Nat) : (s.modBoot g).thread x = s.thread x := rfl
@[simp] theorem modBrg_thread (g : Bridges → Bridges) (x : Nat) : (s.modBrg g).thread x = s.thread x := rfl
@[simp] theorem modFlow_thread (g : Flow → Flow) (x : Nat) : (s.modFlow g).thread x = s.thread x := rfl
@[simp] theorem modKcl_thread (g : Kcl → Kcl) (x : Nat) : (s.modKcl g).thread x = s.thread x := rfl
@[simp] theorem modSvc_thread (g : Svc → Svc) (x : Nat) : (s.modSvc g).thread x = s.thread x := rfl
@[simp] theorem modJtag_thread (g : Jtag → Jtag) (x : Nat) : (s.modJtag g).thread x = s.thread x := rfl

end Machine.State

end Sys2Proof
end

