-- ==== Sys2Proof/Laws/FramesOps.lean ====
section
/-!
SUPPORT. What the operations of Ops.lean leave unchanged: register fields, counters, ports and upstream ports.
-/

namespace Sys2Proof.Machine

theorem foldl_eq {σ α β : Type} (p : σ → β) (f : σ → α → σ) (l : List α) (s : σ) (h : ∀ s a, p (f s a) = p s) :
    p (l.foldl f s) = p s := by
  induction l generalizing s with
  | nil => rfl
  | cons a r ih => exact (ih (f s a)).trans (h s a)

@[simp] theorem foldl_flds {α : Type} (f : State → α → State) (l : List α) (s : State) (h : ∀ s a, (f s a).flds = s.flds) :
    (l.foldl f s).flds = s.flds := foldl_eq (·.flds) f l s h

@[simp] theorem ite_flds (c : Prop) [Decidable c] (a b : State) : (if c then a else b).flds = if c then a.flds else b.flds := by
  split <;> rfl

@[simp] theorem foldl_cnts {α : Type} (f : State → α → State) (l : List α) (s : State) (h : ∀ s a, (f s a).cnts = s.cnts) :
    (l.foldl f s).cnts = s.cnts := foldl_eq (·.cnts) f l s h

@[simp] theorem ite_cnts (c : Prop) [Decidable c] (a b : State) : (if c then a else b).cnts = if c then a.cnts else b.cnts := by
  split <;> rfl

@[simp] theorem foldl_ports {α : Type} (f : State → α → State) (l : List α) (s : State) (h : ∀ s a, (f s a).ports = s.ports) :
    (l.foldl f s).ports = s.ports := foldl_eq (·.ports) f l s h

@[simp] theorem ite_ports (c : Prop) [Decidable c] (a b : State) : (if c then a else b).ports = if c then a.ports else b.ports := by
  split <;> rfl

@[simp] theorem foldl_ups {α : Type} (f : State → α → State) (l : List α) (s : State) (h : ∀ s a, (f s a).ups = s.ups) :
    (l.foldl f s).ups = s.ups := foldl_eq (·.ups) f l s h

@[simp] theorem ite_ups (c : Prop) [Decidable c] (a b : State) : (if c then a else b).ups = if c then a.ups else b.ups := by
  split <;> rfl

namespace State

@[simp] theorem apply_cnts (s : State) (f : Fld) : (apply s f).cnts = s.cnts := by
  unfold apply
  simp

@[simp] theorem apply_cnt (s : State) (f : Fld) (adr : Nat) : (apply s f).cnt adr = s.cnt adr := by
  simp [State.cnt]

@[simp] theorem apply_ports (s : State) (f : Fld) : (apply s f).ports = s.ports := by
  unfold apply
  simp

@[simp] theorem apply_port (s : State) (f : Fld) (prt : Nat) : (apply s f).port prt = s.port prt := by
  simp [State.port]

@[simp] theorem apply_ups (s : State) (f : Fld) : (apply s f).ups = s.ups := by
  unfold apply
  simp

@[simp] theorem apply_up (s : State) (f : Fld) (hst : Nat) : (apply s f).up hst = s.up hst := by
  simp [State.up]

@[simp] theorem logRec_flds (s : State) (kind code arg0 arg1 : Nat) : (logRec s kind code arg0 arg1).flds = s.flds := by
  unfold logRec
  simp

@[simp] theorem logRec_get (s : State) (kind code arg0 arg1 : Nat) (fld : Fld) : (logRec s kind code arg0 arg1).get fld = s.get fld := by
  simp [State.get]

@[simp] theorem logRec_ports (s : State) (kind code arg0 arg1 : Nat) : (logRec s kind code arg0 arg1).ports = s.ports := by
  unfold logRec
  simp

@[simp] theorem logRec_port (s : State) (kind code arg0 arg1 : Nat) (prt : Nat) : (logRec s kind code arg0 arg1).port prt = s.port prt := by
  simp [State.port]

@[simp] theorem logRec_ups (s : State) (kind code arg0 arg1 : Nat) : (logRec s kind code arg0 arg1).ups = s.ups := by
  unfold logRec
  simp

@[simp] theorem logRec_up (s : State) (kind code arg0 arg1 : Nat) (hst : Nat) : (logRec s kind code arg0 arg1).up hst = s.up hst := by
  simp [State.up]

@[simp] theorem logOpen_flds (s : State) (kind code arg0 : Nat) : (logOpen s kind code arg0).flds = s.flds := by
  unfold logOpen
  simp

@[simp] theorem logOpen_get (s : State) (kind code arg0 : Nat) (fld : Fld) : (logOpen s kind code arg0).get fld = s.get fld := by
  simp [State.get]

@[simp] theorem logOpen_ports (s : State) (kind code arg0 : Nat) : (logOpen s kind code arg0).ports = s.ports := by
  unfold logOpen
  simp

@[simp] theorem logOpen_port (s : State) (kind code arg0 : Nat) (prt : Nat) : (logOpen s kind code arg0).port prt = s.port prt := by
  simp [State.port]

@[simp] theorem logOpen_ups (s : State) (kind code arg0 : Nat) : (logOpen s kind code arg0).ups = s.ups := by
  unfold logOpen
  simp

@[simp] theorem logOpen_up (s : State) (kind code arg0 : Nat) (hst : Nat) : (logOpen s kind code arg0).up hst = s.up hst := by
  simp [State.up]

@[simp] theorem setEpisode_flds (s : State) (code i : Nat) (e : Episode) : (setEpisode s code i e).flds = s.flds := by
  unfold setEpisode
  simp

@[simp] theorem setEpisode_get (s : State) (code i : Nat) (e : Episode) (fld : Fld) : (setEpisode s code i e).get fld = s.get fld := by
  simp [State.get]

@[simp] theorem setEpisode_cnts (s : State) (code i : Nat) (e : Episode) : (setEpisode s code i e).cnts = s.cnts := by
  unfold setEpisode
  simp

@[simp] theorem setEpisode_cnt (s : State) (code i : Nat) (e : Episode) (adr : Nat) : (setEpisode s code i e).cnt adr = s.cnt adr := by
  simp [State.cnt]

@[simp] theorem setEpisode_ports (s : State) (code i : Nat) (e : Episode) : (setEpisode s code i e).ports = s.ports := by
  unfold setEpisode
  simp

@[simp] theorem setEpisode_port (s : State) (code i : Nat) (e : Episode) (prt : Nat) : (setEpisode s code i e).port prt = s.port prt := by
  simp [State.port]

@[simp] theorem setEpisode_ups (s : State) (code i : Nat) (e : Episode) : (setEpisode s code i e).ups = s.ups := by
  unfold setEpisode
  simp

@[simp] theorem setEpisode_up (s : State) (code i : Nat) (e : Episode) (hst : Nat) : (setEpisode s code i e).up hst = s.up hst := by
  simp [State.up]

@[simp] theorem watch_flds (s : State) (code i : Nat) (lvl : Bool) (v : Nat) : (watch s code i lvl v).flds = s.flds := by
  unfold watch
  dsimp only
  split <;> simp

@[simp] theorem watch_get (s : State) (code i : Nat) (lvl : Bool) (v : Nat) (fld : Fld) : (watch s code i lvl v).get fld = s.get fld := by
  simp [State.get]

@[simp] theorem watch_ports (s : State) (code i : Nat) (lvl : Bool) (v : Nat) : (watch s code i lvl v).ports = s.ports := by
  unfold watch
  dsimp only
  split <;> simp

@[simp] theorem watch_port (s : State) (code i : Nat) (lvl : Bool) (v : Nat) (prt : Nat) : (watch s code i lvl v).port prt = s.port prt := by
  simp [State.port]

@[simp] theorem watch_ups (s : State) (code i : Nat) (lvl : Bool) (v : Nat) : (watch s code i lvl v).ups = s.ups := by
  unfold watch
  dsimp only
  split <;> simp

@[simp] theorem watch_up (s : State) (code i : Nat) (lvl : Bool) (v : Nat) (hst : Nat) : (watch s code i lvl v).up hst = s.up hst := by
  simp [State.up]

@[simp] theorem watchTick_flds (s : State) (code i : Nat) : (watchTick s code i).flds = s.flds := by
  unfold watchTick
  simp

@[simp] theorem watchTick_get (s : State) (code i : Nat) (fld : Fld) : (watchTick s code i).get fld = s.get fld := by
  simp [State.get]

@[simp] theorem watchTick_cnts (s : State) (code i : Nat) : (watchTick s code i).cnts = s.cnts := by
  unfold watchTick
  simp

@[simp] theorem watchTick_cnt (s : State) (code i : Nat) (adr : Nat) : (watchTick s code i).cnt adr = s.cnt adr := by
  simp [State.cnt]

@[simp] theorem watchTick_ports (s : State) (code i : Nat) : (watchTick s code i).ports = s.ports := by
  unfold watchTick
  simp

@[simp] theorem watchTick_port (s : State) (code i : Nat) (prt : Nat) : (watchTick s code i).port prt = s.port prt := by
  simp [State.port]

@[simp] theorem watchTick_ups (s : State) (code i : Nat) : (watchTick s code i).ups = s.ups := by
  unfold watchTick
  simp

@[simp] theorem watchTick_up (s : State) (code i : Nat) (hst : Nat) : (watchTick s code i).up hst = s.up hst := by
  simp [State.up]

@[simp] theorem watchSeen_flds (s : State) (code i : Nat) : (watchSeen s code i).flds = s.flds := by
  unfold watchSeen
  simp

@[simp] theorem watchSeen_get (s : State) (code i : Nat) (fld : Fld) : (watchSeen s code i).get fld = s.get fld := by
  simp [State.get]

@[simp] theorem watchSeen_cnts (s : State) (code i : Nat) : (watchSeen s code i).cnts = s.cnts := by
  unfold watchSeen
  simp

@[simp] theorem watchSeen_cnt (s : State) (code i : Nat) (adr : Nat) : (watchSeen s code i).cnt adr = s.cnt adr := by
  simp [State.cnt]

@[simp] theorem watchSeen_ports (s : State) (code i : Nat) : (watchSeen s code i).ports = s.ports := by
  unfold watchSeen
  simp

@[simp] theorem watchSeen_port (s : State) (code i : Nat) (prt : Nat) : (watchSeen s code i).port prt = s.port prt := by
  simp [State.port]

@[simp] theorem watchSeen_ups (s : State) (code i : Nat) : (watchSeen s code i).ups = s.ups := by
  unfold watchSeen
  simp

@[simp] theorem watchSeen_up (s : State) (code i : Nat) (hst : Nat) : (watchSeen s code i).up hst = s.up hst := by
  simp [State.up]

@[simp] theorem post_flds (s : State) (t e : Nat) : (post s t e).flds = s.flds := by
  unfold post
  simp

@[simp] theorem post_get (s : State) (t e : Nat) (fld : Fld) : (post s t e).get fld = s.get fld := by
  simp [State.get]

@[simp] theorem post_ports (s : State) (t e : Nat) : (post s t e).ports = s.ports := by
  unfold post
  simp

@[simp] theorem post_port (s : State) (t e : Nat) (prt : Nat) : (post s t e).port prt = s.port prt := by
  simp [State.port]

@[simp] theorem post_ups (s : State) (t e : Nat) : (post s t e).ups = s.ups := by
  unfold post
  simp

@[simp] theorem post_up (s : State) (t e : Nat) (hst : Nat) : (post s t e).up hst = s.up hst := by
  simp [State.up]

@[simp] theorem postRouted_flds (s : State) (e : Nat) : (postRouted s e).flds = s.flds := by
  unfold postRouted
  simp

@[simp] theorem postRouted_get (s : State) (e : Nat) (fld : Fld) : (postRouted s e).get fld = s.get fld := by
  simp [State.get]

@[simp] theorem postRouted_ports (s : State) (e : Nat) : (postRouted s e).ports = s.ports := by
  unfold postRouted
  simp

@[simp] theorem postRouted_port (s : State) (e : Nat) (prt : Nat) : (postRouted s e).port prt = s.port prt := by
  simp [State.port]

@[simp] theorem postRouted_ups (s : State) (e : Nat) : (postRouted s e).ups = s.ups := by
  unfold postRouted
  simp

@[simp] theorem postRouted_up (s : State) (e : Nat) (hst : Nat) : (postRouted s e).up hst = s.up hst := by
  simp [State.up]

@[simp] theorem postPd_flds (s : State) (k : Nat) : (postPd s k).flds = s.flds := by
  unfold postPd
  simp

@[simp] theorem postPd_get (s : State) (k : Nat) (fld : Fld) : (postPd s k).get fld = s.get fld := by
  simp [State.get]

@[simp] theorem postPd_ports (s : State) (k : Nat) : (postPd s k).ports = s.ports := by
  unfold postPd
  simp

@[simp] theorem postPd_port (s : State) (k : Nat) (prt : Nat) : (postPd s k).port prt = s.port prt := by
  simp [State.port]

@[simp] theorem postPd_ups (s : State) (k : Nat) : (postPd s k).ups = s.ups := by
  unfold postPd
  simp

@[simp] theorem postPd_up (s : State) (k : Nat) (hst : Nat) : (postPd s k).up hst = s.up hst := by
  simp [State.up]

@[simp] theorem postPort_flds (s : State) (k : Nat) : (postPort s k).flds = s.flds := by
  unfold postPort
  simp

@[simp] theorem postPort_get (s : State) (k : Nat) (fld : Fld) : (postPort s k).get fld = s.get fld := by
  simp [State.get]

@[simp] theorem postPort_ports (s : State) (k : Nat) : (postPort s k).ports = s.ports := by
  unfold postPort
  simp

@[simp] theorem postPort_port (s : State) (k : Nat) (prt : Nat) : (postPort s k).port prt = s.port prt := by
  simp [State.port]

@[simp] theorem postPort_ups (s : State) (k : Nat) : (postPort s k).ups = s.ups := by
  unfold postPort
  simp

@[simp] theorem postPort_up (s : State) (k : Nat) (hst : Nat) : (postPort s k).up hst = s.up hst := by
  simp [State.up]

@[simp] theorem kTransmit_flds (s : State) (u : Nat) (f : KFrame) : (kTransmit s u f).flds = s.flds := by
  unfold kTransmit
  simp

@[simp] theorem kTransmit_get (s : State) (u : Nat) (f : KFrame) (fld : Fld) : (kTransmit s u f).get fld = s.get fld := by
  simp [State.get]

@[simp] theorem kTransmit_cnts (s : State) (u : Nat) (f : KFrame) : (kTransmit s u f).cnts = s.cnts := by
  unfold kTransmit
  simp

@[simp] theorem kTransmit_cnt (s : State) (u : Nat) (f : KFrame) (adr : Nat) : (kTransmit s u f).cnt adr = s.cnt adr := by
  simp [State.cnt]

@[simp] theorem kTransmit_ports (s : State) (u : Nat) (f : KFrame) : (kTransmit s u f).ports = s.ports := by
  unfold kTransmit
  simp

@[simp] theorem kTransmit_port (s : State) (u : Nat) (f : KFrame) (prt : Nat) : (kTransmit s u f).port prt = s.port prt := by
  simp [State.port]

@[simp] theorem kTransmit_ups (s : State) (u : Nat) (f : KFrame) : (kTransmit s u f).ups = s.ups := by
  unfold kTransmit
  simp

@[simp] theorem kTransmit_up (s : State) (u : Nat) (f : KFrame) (hst : Nat) : (kTransmit s u f).up hst = s.up hst := by
  simp [State.up]

@[simp] theorem kSend_flds (s : State) (u : Nat) (f : KFrame) : (kSend s u f).flds = s.flds := by
  unfold kSend
  simp

@[simp] theorem kSend_get (s : State) (u : Nat) (f : KFrame) (fld : Fld) : (kSend s u f).get fld = s.get fld := by
  simp [State.get]

@[simp] theorem kSend_cnts (s : State) (u : Nat) (f : KFrame) : (kSend s u f).cnts = s.cnts := by
  unfold kSend
  simp

@[simp] theorem kSend_cnt (s : State) (u : Nat) (f : KFrame) (adr : Nat) : (kSend s u f).cnt adr = s.cnt adr := by
  simp [State.cnt]

@[simp] theorem kSend_ports (s : State) (u : Nat) (f : KFrame) : (kSend s u f).ports = s.ports := by
  unfold kSend
  simp

@[simp] theorem kSend_port (s : State) (u : Nat) (f : KFrame) (prt : Nat) : (kSend s u f).port prt = s.port prt := by
  simp [State.port]

@[simp] theorem kSend_ups (s : State) (u : Nat) (f : KFrame) : (kSend s u f).ups = s.ups := by
  unfold kSend
  simp

@[simp] theorem kSend_up (s : State) (u : Nat) (f : KFrame) (hst : Nat) : (kSend s u f).up hst = s.up hst := by
  simp [State.up]

@[simp] theorem kRoute_flds (s : State) (f : KFrame) : (kRoute s f).flds = s.flds := by
  unfold kRoute
  split <;> simp

@[simp] theorem kRoute_get (s : State) (f : KFrame) (fld : Fld) : (kRoute s f).get fld = s.get fld := by
  simp [State.get]

@[simp] theorem kRoute_cnts (s : State) (f : KFrame) : (kRoute s f).cnts = s.cnts := by
  unfold kRoute
  split <;> simp

@[simp] theorem kRoute_cnt (s : State) (f : KFrame) (adr : Nat) : (kRoute s f).cnt adr = s.cnt adr := by
  simp [State.cnt]

@[simp] theorem kRoute_ports (s : State) (f : KFrame) : (kRoute s f).ports = s.ports := by
  unfold kRoute
  split <;> simp

@[simp] theorem kRoute_port (s : State) (f : KFrame) (prt : Nat) : (kRoute s f).port prt = s.port prt := by
  simp [State.port]

@[simp] theorem kRoute_ups (s : State) (f : KFrame) : (kRoute s f).ups = s.ups := by
  unfold kRoute
  split <;> simp

@[simp] theorem kRoute_up (s : State) (f : KFrame) (hst : Nat) : (kRoute s f).up hst = s.up hst := by
  simp [State.up]

@[simp] theorem portOp_flds (s : State) (c : Nat) (args : List Nat) : (portOp s c args).flds = s.flds := by
  unfold portOp
  simp

@[simp] theorem portOp_get (s : State) (c : Nat) (args : List Nat) (fld : Fld) : (portOp s c args).get fld = s.get fld := by
  simp [State.get]

@[simp] theorem portOp_cnts (s : State) (c : Nat) (args : List Nat) : (portOp s c args).cnts = s.cnts := by
  unfold portOp
  simp

@[simp] theorem portOp_cnt (s : State) (c : Nat) (args : List Nat) (adr : Nat) : (portOp s c args).cnt adr = s.cnt adr := by
  simp [State.cnt]

@[simp] theorem portOp_ports (s : State) (c : Nat) (args : List Nat) : (portOp s c args).ports = s.ports := by
  unfold portOp
  simp

@[simp] theorem portOp_port (s : State) (c : Nat) (args : List Nat) (prt : Nat) : (portOp s c args).port prt = s.port prt := by
  simp [State.port]

@[simp] theorem portOp_ups (s : State) (c : Nat) (args : List Nat) : (portOp s c args).ups = s.ups := by
  unfold portOp
  simp

@[simp] theorem portOp_up (s : State) (c : Nat) (args : List Nat) (hst : Nat) : (portOp s c args).up hst = s.up hst := by
  simp [State.up]

@[simp] theorem portStatus_flds (s : State) (n : Nat) : (portStatus s n).flds = s.flds := by
  unfold portStatus
  split <;> simp

@[simp] theorem portStatus_get (s : State) (n : Nat) (fld : Fld) : (portStatus s n).get fld = s.get fld := by
  simp [State.get]

@[simp] theorem portStatus_cnts (s : State) (n : Nat) : (portStatus s n).cnts = s.cnts := by
  unfold portStatus
  split <;> simp

@[simp] theorem portStatus_cnt (s : State) (n : Nat) (adr : Nat) : (portStatus s n).cnt adr = s.cnt adr := by
  simp [State.cnt]

@[simp] theorem portStatus_ports (s : State) (n : Nat) : (portStatus s n).ports = s.ports := by
  unfold portStatus
  split <;> simp

@[simp] theorem portStatus_port (s : State) (n : Nat) (prt : Nat) : (portStatus s n).port prt = s.port prt := by
  simp [State.port]

@[simp] theorem portStatus_ups (s : State) (n : Nat) : (portStatus s n).ups = s.ups := by
  unfold portStatus
  split <;> simp

@[simp] theorem portStatus_up (s : State) (n : Nat) (hst : Nat) : (portStatus s n).up hst = s.up hst := by
  simp [State.up]

@[simp] theorem setPort_ports (s : State) (k : Nat) (f : Fld) (v : Nat) : (setPort s k f v).ports = s.ports := by
  unfold setPort
  simp

@[simp] theorem setPort_port (s : State) (k : Nat) (f : Fld) (v : Nat) (prt : Nat) : (setPort s k f v).port prt = s.port prt := by
  simp [State.port]

@[simp] theorem setPort_ups (s : State) (k : Nat) (f : Fld) (v : Nat) : (setPort s k f v).ups = s.ups := by
  unfold setPort
  simp

@[simp] theorem setPort_up (s : State) (k : Nat) (f : Fld) (v : Nat) (hst : Nat) : (setPort s k f v).up hst = s.up hst := by
  simp [State.up]

@[simp] theorem fltFall_flds (s : State) (i inst : Nat) : (fltFall s i inst).flds = s.flds := by
  unfold fltFall
  simp

@[simp] theorem fltFall_get (s : State) (i inst : Nat) (fld : Fld) : (fltFall s i inst).get fld = s.get fld := by
  simp [State.get]

@[simp] theorem fltFall_cnts (s : State) (i inst : Nat) : (fltFall s i inst).cnts = s.cnts := by
  unfold fltFall
  simp

@[simp] theorem fltFall_cnt (s : State) (i inst : Nat) (adr : Nat) : (fltFall s i inst).cnt adr = s.cnt adr := by
  simp [State.cnt]

@[simp] theorem fltFall_ports (s : State) (i inst : Nat) : (fltFall s i inst).ports = s.ports := by
  unfold fltFall
  simp

@[simp] theorem fltFall_port (s : State) (i inst : Nat) (prt : Nat) : (fltFall s i inst).port prt = s.port prt := by
  simp [State.port]

@[simp] theorem fltFall_ups (s : State) (i inst : Nat) : (fltFall s i inst).ups = s.ups := by
  unfold fltFall
  simp

@[simp] theorem fltFall_up (s : State) (i inst : Nat) (hst : Nat) : (fltFall s i inst).up hst = s.up hst := by
  simp [State.up]

@[simp] theorem stallClear_ports (s : State) (n : Nat) : (stallClear s n).ports = s.ports := by
  unfold stallClear
  simp

@[simp] theorem stallClear_port (s : State) (n : Nat) (prt : Nat) : (stallClear s n).port prt = s.port prt := by
  simp [State.port]

@[simp] theorem stallClear_ups (s : State) (n : Nat) : (stallClear s n).ups = s.ups := by
  unfold stallClear
  simp

@[simp] theorem stallClear_up (s : State) (n : Nat) (hst : Nat) : (stallClear s n).up hst = s.up hst := by
  simp [State.up]

@[simp] theorem modeNote_flds (s old : State) : (modeNote s old).flds = s.flds := by
  unfold modeNote
  simp

@[simp] theorem modeNote_get (s old : State) (fld : Fld) : (modeNote s old).get fld = s.get fld := by
  simp [State.get]

@[simp] theorem modeNote_ports (s old : State) : (modeNote s old).ports = s.ports := by
  unfold modeNote
  simp

@[simp] theorem modeNote_port (s old : State) (prt : Nat) : (modeNote s old).port prt = s.port prt := by
  simp [State.port]

@[simp] theorem modeNote_ups (s old : State) : (modeNote s old).ups = s.ups := by
  unfold modeNote
  simp

@[simp] theorem modeNote_up (s old : State) (hst : Nat) : (modeNote s old).up hst = s.up hst := by
  simp [State.up]

end State

end Sys2Proof.Machine
end

