-- ==== Sys2Proof/Laws/FramesWake.lean ====
section
/-!
SUPPORT. What the operations of Wake.lean leave unchanged: register fields, counters, ports and upstream ports.
-/

namespace Sys2Proof.Machine

namespace State

@[simp] theorem setSs_ports (s : State) (n v : Nat) : (setSs s n v).ports = s.ports := by
  unfold setSs
  simp

@[simp] theorem setSs_port (s : State) (n v : Nat) (prt : Nat) : (setSs s n v).port prt = s.port prt := by
  simp [State.port]

@[simp] theorem setSs_ups (s : State) (n v : Nat) : (setSs s n v).ups = s.ups := by
  unfold setSs
  simp

@[simp] theorem setSs_up (s : State) (n v : Nat) (hst : Nat) : (setSs s n v).up hst = s.up hst := by
  simp [State.up]

end State

end Sys2Proof.Machine
end

