-- ==== Sys2Proof/Laws/FramesCaldera.lean ====
section
/-!
SUPPORT. What the operations of Caldera.lean leave unchanged: register fields, counters, ports and upstream ports.
-/

namespace Sys2Proof.Machine

namespace State

@[simp] theorem qRefresh_ports (s : State) (q : Nat) : (qRefresh s q).ports = s.ports := by
  unfold qRefresh
  simp

@[simp] theorem qRefresh_port (s : State) (q : Nat) (prt : Nat) : (qRefresh s q).port prt = s.port prt := by
  simp [State.port]

@[simp] theorem qRefresh_ups (s : State) (q : Nat) : (qRefresh s q).ups = s.ups := by
  unfold qRefresh
  simp

@[simp] theorem qRefresh_up (s : State) (q : Nat) (hst : Nat) : (qRefresh s q).up hst = s.up hst := by
  simp [State.up]

@[simp] theorem qAdmit_ports (s : State) (q : Nat) (p : Packet) : (qAdmit s q p).ports = s.ports := by
  unfold qAdmit
  simp

@[simp] theorem qAdmit_port (s : State) (q : Nat) (p : Packet) (prt : Nat) : (qAdmit s q p).port prt = s.port prt := by
  simp [State.port]

@[simp] theorem qAdmit_ups (s : State) (q : Nat) (p : Packet) : (qAdmit s q p).ups = s.ups := by
  unfold qAdmit
  simp

@[simp] theorem qAdmit_up (s : State) (q : Nat) (p : Packet) (hst : Nat) : (qAdmit s q p).up hst = s.up hst := by
  simp [State.up]

@[simp] theorem qRelease_ports (s : State) (q : Nat) : (qRelease s q).ports = s.ports := by
  unfold qRelease
  simp

@[simp] theorem qRelease_port (s : State) (q : Nat) (prt : Nat) : (qRelease s q).port prt = s.port prt := by
  simp [State.port]

@[simp] theorem qRelease_ups (s : State) (q : Nat) : (qRelease s q).ups = s.ups := by
  unfold qRelease
  simp

@[simp] theorem qRelease_up (s : State) (q : Nat) (hst : Nat) : (qRelease s q).up hst = s.up hst := by
  simp [State.up]

@[simp] theorem modPkt_flds (s : State) (q o : Nat) (f : Packet → Packet) : (modPkt s q o f).flds = s.flds := by
  unfold modPkt
  simp

@[simp] theorem modPkt_get (s : State) (q o : Nat) (f : Packet → Packet) (fld : Fld) : (modPkt s q o f).get fld = s.get fld := by
  simp [State.get]

@[simp] theorem modPkt_cnts (s : State) (q o : Nat) (f : Packet → Packet) : (modPkt s q o f).cnts = s.cnts := by
  unfold modPkt
  simp

@[simp] theorem modPkt_cnt (s : State) (q o : Nat) (f : Packet → Packet) (adr : Nat) : (modPkt s q o f).cnt adr = s.cnt adr := by
  simp [State.cnt]

@[simp] theorem modPkt_ports (s : State) (q o : Nat) (f : Packet → Packet) : (modPkt s q o f).ports = s.ports := by
  unfold modPkt
  simp

@[simp] theorem modPkt_port (s : State) (q o : Nat) (f : Packet → Packet) (prt : Nat) : (modPkt s q o f).port prt = s.port prt := by
  simp [State.port]

@[simp] theorem modPkt_ups (s : State) (q o : Nat) (f : Packet → Packet) : (modPkt s q o f).ups = s.ups := by
  unfold modPkt
  simp

@[simp] theorem modPkt_up (s : State) (q o : Nat) (f : Packet → Packet) (hst : Nat) : (modPkt s q o f).up hst = s.up hst := by
  simp [State.up]

@[simp] theorem qDrop_ports (s : State) (q o : Nat) : (qDrop s q o).ports = s.ports := by
  unfold qDrop
  simp

@[simp] theorem qDrop_port (s : State) (q o : Nat) (prt : Nat) : (qDrop s q o).port prt = s.port prt := by
  simp [State.port]

@[simp] theorem qDrop_ups (s : State) (q o : Nat) : (qDrop s q o).ups = s.ups := by
  unfold qDrop
  simp

@[simp] theorem qDrop_up (s : State) (q o : Nat) (hst : Nat) : (qDrop s q o).up hst = s.up hst := by
  simp [State.up]

end State

end Sys2Proof.Machine
end

