-- ==== Sys2Proof/Laws/FramesSvc.lean ====
section
/-!
SUPPORT. What the operations of Svc.lean leave unchanged: register fields, counters, ports and upstream ports.
-/

namespace Sys2Proof.Machine

namespace State

@[simp] theorem conLine_flds (s : State) (text : String) : (conLine s text).flds = s.flds := by
  unfold conLine
  simp

@[simp] theorem conLine_get (s : State) (text : String) (fld : Fld) : (conLine s text).get fld = s.get fld := by
  simp [State.get]

@[simp] theorem conLine_cnts (s : State) (text : String) : (conLine s text).cnts = s.cnts := by
  unfold conLine
  simp

@[simp] theorem conLine_cnt (s : State) (text : String) (adr : Nat) : (conLine s text).cnt adr = s.cnt adr := by
  simp [State.cnt]

@[simp] theorem conLine_ports (s : State) (text : String) : (conLine s text).ports = s.ports := by
  unfold conLine
  simp

@[simp] theorem conLine_port (s : State) (text : String) (prt : Nat) : (conLine s text).port prt = s.port prt := by
  simp [State.port]

@[simp] theorem conLine_ups (s : State) (text : String) : (conLine s text).ups = s.ups := by
  unfold conLine
  simp

@[simp] theorem conLine_up (s : State) (text : String) (hst : Nat) : (conLine s text).up hst = s.up hst := by
  simp [State.up]

@[simp] theorem conNums_flds (s : State) (l : List Nat) : (conNums s l).flds = s.flds := by
  unfold conNums
  simp

@[simp] theorem conNums_get (s : State) (l : List Nat) (fld : Fld) : (conNums s l).get fld = s.get fld := by
  simp [State.get]

@[simp] theorem conNums_cnts (s : State) (l : List Nat) : (conNums s l).cnts = s.cnts := by
  unfold conNums
  simp

@[simp] theorem conNums_cnt (s : State) (l : List Nat) (adr : Nat) : (conNums s l).cnt adr = s.cnt adr := by
  simp [State.cnt]

@[simp] theorem conNums_ports (s : State) (l : List Nat) : (conNums s l).ports = s.ports := by
  unfold conNums
  simp

@[simp] theorem conNums_port (s : State) (l : List Nat) (prt : Nat) : (conNums s l).port prt = s.port prt := by
  simp [State.port]

@[simp] theorem conNums_ups (s : State) (l : List Nat) : (conNums s l).ups = s.ups := by
  unfold conNums
  simp

@[simp] theorem conNums_up (s : State) (l : List Nat) (hst : Nat) : (conNums s l).up hst = s.up hst := by
  simp [State.up]

@[simp] theorem conPrompt_flds (s : State) : (conPrompt s).flds = s.flds := by
  unfold conPrompt
  simp

@[simp] theorem conPrompt_get (s : State) (fld : Fld) : (conPrompt s).get fld = s.get fld := by
  simp [State.get]

@[simp] theorem conPrompt_cnts (s : State) : (conPrompt s).cnts = s.cnts := by
  unfold conPrompt
  simp

@[simp] theorem conPrompt_cnt (s : State) (adr : Nat) : (conPrompt s).cnt adr = s.cnt adr := by
  simp [State.cnt]

@[simp] theorem conPrompt_ports (s : State) : (conPrompt s).ports = s.ports := by
  unfold conPrompt
  simp

@[simp] theorem conPrompt_port (s : State) (prt : Nat) : (conPrompt s).port prt = s.port prt := by
  simp [State.port]

@[simp] theorem conPrompt_ups (s : State) : (conPrompt s).ups = s.ups := by
  unfold conPrompt
  simp

@[simp] theorem conPrompt_up (s : State) (hst : Nat) : (conPrompt s).up hst = s.up hst := by
  simp [State.up]

@[simp] theorem conOk_flds (s : State) : (conOk s).flds = s.flds := by
  unfold conOk
  simp

@[simp] theorem conOk_get (s : State) (fld : Fld) : (conOk s).get fld = s.get fld := by
  simp [State.get]

@[simp] theorem conOk_cnts (s : State) : (conOk s).cnts = s.cnts := by
  unfold conOk
  simp

@[simp] theorem conOk_cnt (s : State) (adr : Nat) : (conOk s).cnt adr = s.cnt adr := by
  simp [State.cnt]

@[simp] theorem conOk_ports (s : State) : (conOk s).ports = s.ports := by
  unfold conOk
  simp

@[simp] theorem conOk_port (s : State) (prt : Nat) : (conOk s).port prt = s.port prt := by
  simp [State.port]

@[simp] theorem conOk_ups (s : State) : (conOk s).ups = s.ups := by
  unfold conOk
  simp

@[simp] theorem conOk_up (s : State) (hst : Nat) : (conOk s).up hst = s.up hst := by
  simp [State.up]

@[simp] theorem conErr_flds (s : State) (name : String) : (conErr s name).flds = s.flds := by
  unfold conErr
  simp

@[simp] theorem conErr_get (s : State) (name : String) (fld : Fld) : (conErr s name).get fld = s.get fld := by
  simp [State.get]

@[simp] theorem conErr_ports (s : State) (name : String) : (conErr s name).ports = s.ports := by
  unfold conErr
  simp

@[simp] theorem conErr_port (s : State) (name : String) (prt : Nat) : (conErr s name).port prt = s.port prt := by
  simp [State.port]

@[simp] theorem conErr_ups (s : State) (name : String) : (conErr s name).ups = s.ups := by
  unfold conErr
  simp

@[simp] theorem conErr_up (s : State) (name : String) (hst : Nat) : (conErr s name).up hst = s.up hst := by
  simp [State.up]

@[simp] theorem conRc_flds (s : State) (r : RC) : (conRc s r).flds = s.flds := by
  unfold conRc
  simp

@[simp] theorem conRc_get (s : State) (r : RC) (fld : Fld) : (conRc s r).get fld = s.get fld := by
  simp [State.get]

@[simp] theorem conRc_ports (s : State) (r : RC) : (conRc s r).ports = s.ports := by
  unfold conRc
  simp

@[simp] theorem conRc_port (s : State) (r : RC) (prt : Nat) : (conRc s r).port prt = s.port prt := by
  simp [State.port]

@[simp] theorem conRc_ups (s : State) (r : RC) : (conRc s r).ups = s.ups := by
  unfold conRc
  simp

@[simp] theorem conRc_up (s : State) (r : RC) (hst : Nat) : (conRc s r).up hst = s.up hst := by
  simp [State.up]

@[simp] theorem svcRec_flds (s : State) (code arg1 : Nat) : (svcRec s code arg1).flds = s.flds := by
  unfold svcRec
  simp

@[simp] theorem svcRec_get (s : State) (code arg1 : Nat) (fld : Fld) : (svcRec s code arg1).get fld = s.get fld := by
  simp [State.get]

@[simp] theorem svcRec_ports (s : State) (code arg1 : Nat) : (svcRec s code arg1).ports = s.ports := by
  unfold svcRec
  simp

@[simp] theorem svcRec_port (s : State) (code arg1 : Nat) (prt : Nat) : (svcRec s code arg1).port prt = s.port prt := by
  simp [State.port]

@[simp] theorem svcRec_ups (s : State) (code arg1 : Nat) : (svcRec s code arg1).ups = s.ups := by
  unfold svcRec
  simp

@[simp] theorem svcRec_up (s : State) (code arg1 : Nat) (hst : Nat) : (svcRec s code arg1).up hst = s.up hst := by
  simp [State.up]

@[simp] theorem passedEnd_flds (s : State) (tag : Nat) (stall : Bool) : (passedEnd s tag stall).flds = s.flds := by
  unfold passedEnd
  simp

@[simp] theorem passedEnd_get (s : State) (tag : Nat) (stall : Bool) (fld : Fld) : (passedEnd s tag stall).get fld = s.get fld := by
  simp [State.get]

@[simp] theorem passedEnd_ports (s : State) (tag : Nat) (stall : Bool) : (passedEnd s tag stall).ports = s.ports := by
  unfold passedEnd
  simp

@[simp] theorem passedEnd_port (s : State) (tag : Nat) (stall : Bool) (prt : Nat) : (passedEnd s tag stall).port prt = s.port prt := by
  simp [State.port]

@[simp] theorem passedEnd_ups (s : State) (tag : Nat) (stall : Bool) : (passedEnd s tag stall).ups = s.ups := by
  unfold passedEnd
  simp

@[simp] theorem passedEnd_up (s : State) (tag : Nat) (stall : Bool) (hst : Nat) : (passedEnd s tag stall).up hst = s.up hst := by
  simp [State.up]

@[simp] theorem passedDrop_flds (s : State) (name : String) : (passedDrop s name).flds = s.flds := by
  unfold passedDrop
  split <;> simp

@[simp] theorem passedDrop_get (s : State) (name : String) (fld : Fld) : (passedDrop s name).get fld = s.get fld := by
  simp [State.get]

@[simp] theorem passedDrop_ports (s : State) (name : String) : (passedDrop s name).ports = s.ports := by
  unfold passedDrop
  split <;> simp

@[simp] theorem passedDrop_port (s : State) (name : String) (prt : Nat) : (passedDrop s name).port prt = s.port prt := by
  simp [State.port]

@[simp] theorem passedDrop_ups (s : State) (name : String) : (passedDrop s name).ups = s.ups := by
  unfold passedDrop
  split <;> simp

@[simp] theorem passedDrop_up (s : State) (name : String) (hst : Nat) : (passedDrop s name).up hst = s.up hst := by
  simp [State.up]

@[simp] theorem setHeld_cnts (s : State) (n : Nat) (on : Bool) : (setHeld s n on).cnts = s.cnts := by
  unfold setHeld
  simp

@[simp] theorem setHeld_cnt (s : State) (n : Nat) (on : Bool) (adr : Nat) : (setHeld s n on).cnt adr = s.cnt adr := by
  simp [State.cnt]

@[simp] theorem setHeld_ports (s : State) (n : Nat) (on : Bool) : (setHeld s n on).ports = s.ports := by
  unfold setHeld
  simp

@[simp] theorem setHeld_port (s : State) (n : Nat) (on : Bool) (prt : Nat) : (setHeld s n on).port prt = s.port prt := by
  simp [State.port]

@[simp] theorem setHeld_ups (s : State) (n : Nat) (on : Bool) : (setHeld s n on).ups = s.ups := by
  unfold setHeld
  simp

@[simp] theorem setHeld_up (s : State) (n : Nat) (on : Bool) (hst : Nat) : (setHeld s n on).up hst = s.up hst := by
  simp [State.up]

@[simp] theorem freeHold_ports (s : State) (n : Nat) (refused : Bool) : (freeHold s n refused).ports = s.ports := by
  unfold freeHold
  simp

@[simp] theorem freeHold_port (s : State) (n : Nat) (refused : Bool) (prt : Nat) : (freeHold s n refused).port prt = s.port prt := by
  simp [State.port]

@[simp] theorem freeHold_ups (s : State) (n : Nat) (refused : Bool) : (freeHold s n refused).ups = s.ups := by
  unfold freeHold
  simp

@[simp] theorem freeHold_up (s : State) (n : Nat) (refused : Bool) (hst : Nat) : (freeHold s n refused).up hst = s.up hst := by
  simp [State.up]

@[simp] theorem svcSafe_ports (s : State) : (svcSafe s).ports = s.ports := by
  unfold svcSafe
  simp

@[simp] theorem svcSafe_port (s : State) (prt : Nat) : (svcSafe s).port prt = s.port prt := by
  simp [State.port]

@[simp] theorem svcSafe_ups (s : State) : (svcSafe s).ups = s.ups := by
  unfold svcSafe
  simp

@[simp] theorem svcSafe_up (s : State) (hst : Nat) : (svcSafe s).up hst = s.up hst := by
  simp [State.up]

end State

end Sys2Proof.Machine
end

