-- ==== Sys2Proof/Laws/FramesPath.lean ====
section
/-!
SUPPORT. What the operations of Path.lean leave unchanged: register fields, counters, ports and upstream ports.
-/

namespace Sys2Proof.Machine

namespace State

@[simp] theorem setPp_ports (s : State) (k v : Nat) : (setPp s k v).ports = s.ports := by
  unfold setPp
  simp

@[simp] theorem setPp_port (s : State) (k v : Nat) (prt : Nat) : (setPp s k v).port prt = s.port prt := by
  simp [State.port]

@[simp] theorem setPp_ups (s : State) (k v : Nat) : (setPp s k v).ups = s.ups := by
  unfold setPp
  simp

@[simp] theorem setPp_up (s : State) (k v : Nat) (hst : Nat) : (setPp s k v).up hst = s.up hst := by
  simp [State.up]

@[simp] theorem refreshCause_cnts (s : State) (n : Nat) : (refreshCause s n).cnts = s.cnts := by
  unfold refreshCause
  simp

@[simp] theorem refreshCause_cnt (s : State) (n : Nat) (adr : Nat) : (refreshCause s n).cnt adr = s.cnt adr := by
  simp [State.cnt]

@[simp] theorem refreshCause_ports (s : State) (n : Nat) : (refreshCause s n).ports = s.ports := by
  unfold refreshCause
  simp

@[simp] theorem refreshCause_port (s : State) (n : Nat) (prt : Nat) : (refreshCause s n).port prt = s.port prt := by
  simp [State.port]

@[simp] theorem refreshCause_ups (s : State) (n : Nat) : (refreshCause s n).ups = s.ups := by
  unfold refreshCause
  simp

@[simp] theorem refreshCause_up (s : State) (n : Nat) (hst : Nat) : (refreshCause s n).up hst = s.up hst := by
  simp [State.up]

@[simp] theorem setPs_ports (s : State) (n v : Nat) : (setPs s n v).ports = s.ports := by
  unfold setPs
  simp

@[simp] theorem setPs_port (s : State) (n v : Nat) (prt : Nat) : (setPs s n v).port prt = s.port prt := by
  simp [State.port]

@[simp] theorem setPs_ups (s : State) (n v : Nat) : (setPs s n v).ups = s.ups := by
  unfold setPs
  simp

@[simp] theorem setPs_up (s : State) (n v : Nat) (hst : Nat) : (setPs s n v).up hst = s.up hst := by
  simp [State.up]

@[simp] theorem dropRoutes_flds (s : State) (n : Nat) : (dropRoutes s n).flds = s.flds := by
  unfold dropRoutes
  simp

@[simp] theorem dropRoutes_get (s : State) (n : Nat) (fld : Fld) : (dropRoutes s n).get fld = s.get fld := by
  simp [State.get]

@[simp] theorem dropRoutes_cnts (s : State) (n : Nat) : (dropRoutes s n).cnts = s.cnts := by
  unfold dropRoutes
  simp

@[simp] theorem dropRoutes_cnt (s : State) (n : Nat) (adr : Nat) : (dropRoutes s n).cnt adr = s.cnt adr := by
  simp [State.cnt]

@[simp] theorem dropRoutes_ports (s : State) (n : Nat) : (dropRoutes s n).ports = s.ports := by
  unfold dropRoutes
  simp

@[simp] theorem dropRoutes_port (s : State) (n : Nat) (prt : Nat) : (dropRoutes s n).port prt = s.port prt := by
  simp [State.port]

@[simp] theorem dropEps_cnts (s : State) (n : Nat) : (dropEps s n).cnts = s.cnts := by
  unfold dropEps
  simp

@[simp] theorem dropEps_cnt (s : State) (n : Nat) (adr : Nat) : (dropEps s n).cnt adr = s.cnt adr := by
  simp [State.cnt]

@[simp] theorem dropEps_ups (s : State) (n : Nat) : (dropEps s n).ups = s.ups := by
  unfold dropEps
  simp

@[simp] theorem dropEps_up (s : State) (n : Nat) (hst : Nat) : (dropEps s n).up hst = s.up hst := by
  simp [State.up]

@[simp] theorem ttDrop_ports (s : State) (n : Nat) (out : Split → Bool) : (ttDrop s n out).ports = s.ports := by
  unfold ttDrop
  simp

@[simp] theorem ttDrop_port (s : State) (n : Nat) (out : Split → Bool) (prt : Nat) : (ttDrop s n out).port prt = s.port prt := by
  simp [State.port]

@[simp] theorem ttDrop_ups (s : State) (n : Nat) (out : Split → Bool) : (ttDrop s n out).ups = s.ups := by
  unfold ttDrop
  simp

@[simp] theorem ttDrop_up (s : State) (n : Nat) (out : Split → Bool) (hst : Nat) : (ttDrop s n out).up hst = s.up hst := by
  simp [State.up]

@[simp] theorem dropSplits_ports (s : State) (n : Nat) : (dropSplits s n).ports = s.ports := by
  unfold dropSplits
  simp

@[simp] theorem dropSplits_port (s : State) (n : Nat) (prt : Nat) : (dropSplits s n).port prt = s.port prt := by
  simp [State.port]

@[simp] theorem dropSplits_ups (s : State) (n : Nat) : (dropSplits s n).ups = s.ups := by
  unfold dropSplits
  simp

@[simp] theorem dropSplits_up (s : State) (n : Nat) (hst : Nat) : (dropSplits s n).up hst = s.up hst := by
  simp [State.up]

@[simp] theorem dropNext_flds (s : State) (k : Nat) : (dropNext s k).flds = s.flds := by
  unfold dropNext
  simp

@[simp] theorem dropNext_get (s : State) (k : Nat) (fld : Fld) : (dropNext s k).get fld = s.get fld := by
  simp [State.get]

@[simp] theorem dropNext_cnts (s : State) (k : Nat) : (dropNext s k).cnts = s.cnts := by
  unfold dropNext
  simp

@[simp] theorem dropNext_cnt (s : State) (k : Nat) (adr : Nat) : (dropNext s k).cnt adr = s.cnt adr := by
  simp [State.cnt]

@[simp] theorem dropNext_ports (s : State) (k : Nat) : (dropNext s k).ports = s.ports := by
  unfold dropNext
  simp

@[simp] theorem dropNext_port (s : State) (k : Nat) (prt : Nat) : (dropNext s k).port prt = s.port prt := by
  simp [State.port]

@[simp] theorem dropNext_ups (s : State) (k : Nat) : (dropNext s k).ups = s.ups := by
  unfold dropNext
  simp

@[simp] theorem dropNext_up (s : State) (k : Nat) (hst : Nat) : (dropNext s k).up hst = s.up hst := by
  simp [State.up]

@[simp] theorem dropContract_cnts (s : State) (k : Nat) : (dropContract s k).cnts = s.cnts := by
  unfold dropContract
  simp

@[simp] theorem dropContract_cnt (s : State) (k : Nat) (adr : Nat) : (dropContract s k).cnt adr = s.cnt adr := by
  simp [State.cnt]

@[simp] theorem dropContract_ports (s : State) (k : Nat) : (dropContract s k).ports = s.ports := by
  unfold dropContract
  simp

@[simp] theorem dropContract_port (s : State) (k : Nat) (prt : Nat) : (dropContract s k).port prt = s.port prt := by
  simp [State.port]

@[simp] theorem dropContract_ups (s : State) (k : Nat) : (dropContract s k).ups = s.ups := by
  unfold dropContract
  simp

@[simp] theorem dropContract_up (s : State) (k : Nat) (hst : Nat) : (dropContract s k).up hst = s.up hst := by
  simp [State.up]

@[simp] theorem pdPostEntry_ports (s : State) (k kind cause : Nat) : (pdPostEntry s k kind cause).ports = s.ports := by
  unfold pdPostEntry
  simp

@[simp] theorem pdPostEntry_port (s : State) (k kind cause : Nat) (prt : Nat) : (pdPostEntry s k kind cause).port prt = s.port prt := by
  simp [State.port]

@[simp] theorem pdPostEntry_ups (s : State) (k kind cause : Nat) : (pdPostEntry s k kind cause).ups = s.ups := by
  unfold pdPostEntry
  simp

@[simp] theorem pdPostEntry_up (s : State) (k kind cause : Nat) (hst : Nat) : (pdPostEntry s k kind cause).up hst = s.up hst := by
  simp [State.up]

@[simp] theorem abortTransition_ports (s : State) (k reason : Nat) : (abortTransition s k reason).ports = s.ports := by
  unfold abortTransition
  simp

@[simp] theorem abortTransition_port (s : State) (k reason : Nat) (prt : Nat) : (abortTransition s k reason).port prt = s.port prt := by
  simp [State.port]

@[simp] theorem abortTransition_ups (s : State) (k reason : Nat) : (abortTransition s k reason).ups = s.ups := by
  unfold abortTransition
  simp

@[simp] theorem abortTransition_up (s : State) (k reason : Nat) (hst : Nat) : (abortTransition s k reason).up hst = s.up hst := by
  simp [State.up]

@[simp] theorem pathQuiet_cnts (s : State) (k : Nat) : (pathQuiet s k).cnts = s.cnts := by
  unfold pathQuiet
  simp

@[simp] theorem pathQuiet_cnt (s : State) (k : Nat) (adr : Nat) : (pathQuiet s k).cnt adr = s.cnt adr := by
  simp [State.cnt]

@[simp] theorem pathQuiet_ports (s : State) (k : Nat) : (pathQuiet s k).ports = s.ports := by
  unfold pathQuiet
  simp

@[simp] theorem pathQuiet_port (s : State) (k : Nat) (prt : Nat) : (pathQuiet s k).port prt = s.port prt := by
  simp [State.port]

@[simp] theorem pathQuiet_ups (s : State) (k : Nat) : (pathQuiet s k).ups = s.ups := by
  unfold pathQuiet
  simp

@[simp] theorem pathQuiet_up (s : State) (k : Nat) (hst : Nat) : (pathQuiet s k).up hst = s.up hst := by
  simp [State.up]

@[simp] theorem retryReset_cnts (s : State) (k : Nat) : (retryReset s k).cnts = s.cnts := by
  unfold retryReset
  simp

@[simp] theorem retryReset_cnt (s : State) (k : Nat) (adr : Nat) : (retryReset s k).cnt adr = s.cnt adr := by
  simp [State.cnt]

@[simp] theorem retryReset_ports (s : State) (k : Nat) : (retryReset s k).ports = s.ports := by
  unfold retryReset
  simp

@[simp] theorem retryReset_port (s : State) (k : Nat) (prt : Nat) : (retryReset s k).port prt = s.port prt := by
  simp [State.port]

@[simp] theorem retryReset_ups (s : State) (k : Nat) : (retryReset s k).ups = s.ups := by
  unfold retryReset
  simp

@[simp] theorem retryReset_up (s : State) (k : Nat) (hst : Nat) : (retryReset s k).up hst = s.up hst := by
  simp [State.up]

@[simp] theorem reseat_ports (s : State) (k : Nat) : (reseat s k).ports = s.ports := by
  unfold reseat
  simp

@[simp] theorem reseat_port (s : State) (k : Nat) (prt : Nat) : (reseat s k).port prt = s.port prt := by
  simp [State.port]

@[simp] theorem reseat_ups (s : State) (k : Nat) : (reseat s k).ups = s.ups := by
  unfold reseat
  simp

@[simp] theorem reseat_up (s : State) (k : Nat) (hst : Nat) : (reseat s k).up hst = s.up hst := by
  simp [State.up]

@[simp] theorem romSlope_flds (s : State) (x gen : Nat) : (romSlope s x gen).flds = s.flds := by
  unfold romSlope
  simp

@[simp] theorem romSlope_get (s : State) (x gen : Nat) (fld : Fld) : (romSlope s x gen).get fld = s.get fld := by
  simp [State.get]

@[simp] theorem romSlope_cnts (s : State) (x gen : Nat) : (romSlope s x gen).cnts = s.cnts := by
  unfold romSlope
  simp

@[simp] theorem romSlope_cnt (s : State) (x gen : Nat) (adr : Nat) : (romSlope s x gen).cnt adr = s.cnt adr := by
  simp [State.cnt]

@[simp] theorem romSlope_ports (s : State) (x gen : Nat) : (romSlope s x gen).ports = s.ports := by
  unfold romSlope
  simp

@[simp] theorem romSlope_port (s : State) (x gen : Nat) (prt : Nat) : (romSlope s x gen).port prt = s.port prt := by
  simp [State.port]

@[simp] theorem romSlope_ups (s : State) (x gen : Nat) : (romSlope s x gen).ups = s.ups := by
  unfold romSlope
  simp

@[simp] theorem romSlope_up (s : State) (x gen : Nat) (hst : Nat) : (romSlope s x gen).up hst = s.up hst := by
  simp [State.up]

@[simp] theorem romTrip_cnts (s : State) (k i : Nat) (pps raise : Bool) : (romTrip s k i pps raise).cnts = s.cnts := by
  unfold romTrip
  simp

@[simp] theorem romTrip_cnt (s : State) (k i : Nat) (pps raise : Bool) (adr : Nat) : (romTrip s k i pps raise).cnt adr = s.cnt adr := by
  simp [State.cnt]

@[simp] theorem romTrip_ports (s : State) (k i : Nat) (pps raise : Bool) : (romTrip s k i pps raise).ports = s.ports := by
  unfold romTrip
  simp

@[simp] theorem romTrip_port (s : State) (k i : Nat) (pps raise : Bool) (prt : Nat) : (romTrip s k i pps raise).port prt = s.port prt := by
  simp [State.port]

@[simp] theorem romTrip_ups (s : State) (k i : Nat) (pps raise : Bool) : (romTrip s k i pps raise).ups = s.ups := by
  unfold romTrip
  simp

@[simp] theorem romTrip_up (s : State) (k i : Nat) (pps raise : Bool) (hst : Nat) : (romTrip s k i pps raise).up hst = s.up hst := by
  simp [State.up]

end State

end Sys2Proof.Machine
end

