-- ==== Sys2Proof/Laws/FramesSafe.lean ====
section
/-!
SUPPORT. What the operations of Safe.lean leave unchanged: register fields, counters, ports and upstream ports.
-/

namespace Sys2Proof.Machine

namespace State

@[simp] theorem haltThread_flds (s : State) (t : Nat) : (haltThread s t).flds = s.flds := by
  unfold haltThread
  simp

@[simp] theorem haltThread_get (s : State) (t : Nat) (fld : Fld) : (haltThread s t).get fld = s.get fld := by
  simp [State.get]

@[simp] theorem haltThread_cnts (s : State) (t : Nat) : (haltThread s t).cnts = s.cnts := by
  unfold haltThread
  simp

@[simp] theorem haltThread_cnt (s : State) (t : Nat) (adr : Nat) : (haltThread s t).cnt adr = s.cnt adr := by
  simp [State.cnt]

@[simp] theorem haltThread_ports (s : State) (t : Nat) : (haltThread s t).ports = s.ports := by
  unfold haltThread
  simp

@[simp] theorem haltThread_port (s : State) (t : Nat) (prt : Nat) : (haltThread s t).port prt = s.port prt := by
  simp [State.port]

@[simp] theorem haltThread_ups (s : State) (t : Nat) : (haltThread s t).ups = s.ups := by
  unfold haltThread
  simp

@[simp] theorem haltThread_up (s : State) (t : Nat) (hst : Nat) : (haltThread s t).up hst = s.up hst := by
  simp [State.up]

@[simp] theorem updateAbort_cnts (s : State) : (updateAbort s).cnts = s.cnts := by
  unfold updateAbort
  simp

@[simp] theorem updateAbort_cnt (s : State) (adr : Nat) : (updateAbort s).cnt adr = s.cnt adr := by
  simp [State.cnt]

@[simp] theorem updateAbort_ports (s : State) : (updateAbort s).ports = s.ports := by
  unfold updateAbort
  simp

@[simp] theorem updateAbort_port (s : State) (prt : Nat) : (updateAbort s).port prt = s.port prt := by
  simp [State.port]

@[simp] theorem updateAbort_ups (s : State) : (updateAbort s).ups = s.ups := by
  unfold updateAbort
  simp

@[simp] theorem updateAbort_up (s : State) (hst : Nat) : (updateAbort s).up hst = s.up hst := by
  simp [State.up]

@[simp] theorem selftestAbort_cnts (s : State) : (selftestAbort s).cnts = s.cnts := by
  unfold selftestAbort
  simp

@[simp] theorem selftestAbort_cnt (s : State) (adr : Nat) : (selftestAbort s).cnt adr = s.cnt adr := by
  simp [State.cnt]

@[simp] theorem selftestAbort_ports (s : State) : (selftestAbort s).ports = s.ports := by
  unfold selftestAbort
  simp

@[simp] theorem selftestAbort_port (s : State) (prt : Nat) : (selftestAbort s).port prt = s.port prt := by
  simp [State.port]

@[simp] theorem selftestAbort_ups (s : State) : (selftestAbort s).ups = s.ups := by
  unfold selftestAbort
  simp

@[simp] theorem selftestAbort_up (s : State) (hst : Nat) : (selftestAbort s).up hst = s.up hst := by
  simp [State.up]

@[simp] theorem injExpire_cnts (s : State) : (injExpire s).cnts = s.cnts := by
  unfold injExpire
  simp

@[simp] theorem injExpire_cnt (s : State) (adr : Nat) : (injExpire s).cnt adr = s.cnt adr := by
  simp [State.cnt]

@[simp] theorem injExpire_ports (s : State) : (injExpire s).ports = s.ports := by
  unfold injExpire
  simp

@[simp] theorem injExpire_port (s : State) (prt : Nat) : (injExpire s).port prt = s.port prt := by
  simp [State.port]

@[simp] theorem injExpire_ups (s : State) : (injExpire s).ups = s.ups := by
  unfold injExpire
  simp

@[simp] theorem injExpire_up (s : State) (hst : Nat) : (injExpire s).up hst = s.up hst := by
  simp [State.up]

@[simp] theorem keep_cnts (s old : State) (f : Fld) : (keep s old f).cnts = s.cnts := by
  unfold keep
  simp

@[simp] theorem keep_cnt (s old : State) (f : Fld) (adr : Nat) : (keep s old f).cnt adr = s.cnt adr := by
  simp [State.cnt]

@[simp] theorem keep_ports (s old : State) (f : Fld) : (keep s old f).ports = s.ports := by
  unfold keep
  simp

@[simp] theorem keep_port (s old : State) (f : Fld) (prt : Nat) : (keep s old f).port prt = s.port prt := by
  simp [State.port]

@[simp] theorem keep_ups (s old : State) (f : Fld) : (keep s old f).ups = s.ups := by
  unfold keep
  simp

@[simp] theorem keep_up (s old : State) (f : Fld) (hst : Nat) : (keep s old f).up hst = s.up hst := by
  simp [State.up]

@[simp] theorem keepFuses_cnts (s old : State) : (keepFuses s old).cnts = s.cnts := by
  unfold keepFuses
  simp

@[simp] theorem keepFuses_cnt (s old : State) (adr : Nat) : (keepFuses s old).cnt adr = s.cnt adr := by
  simp [State.cnt]

@[simp] theorem keepFuses_ports (s old : State) : (keepFuses s old).ports = s.ports := by
  unfold keepFuses
  simp

@[simp] theorem keepFuses_port (s old : State) (prt : Nat) : (keepFuses s old).port prt = s.port prt := by
  simp [State.port]

@[simp] theorem keepFuses_ups (s old : State) : (keepFuses s old).ups = s.ups := by
  unfold keepFuses
  simp

@[simp] theorem keepFuses_up (s old : State) (hst : Nat) : (keepFuses s old).up hst = s.up hst := by
  simp [State.up]

@[simp] theorem keepCounts_flds (s old : State) : (keepCounts s old).flds = s.flds := by
  unfold keepCounts
  simp

@[simp] theorem keepCounts_get (s old : State) (fld : Fld) : (keepCounts s old).get fld = s.get fld := by
  simp [State.get]

@[simp] theorem keepCounts_ports (s old : State) : (keepCounts s old).ports = s.ports := by
  unfold keepCounts
  simp

@[simp] theorem keepCounts_port (s old : State) (prt : Nat) : (keepCounts s old).port prt = s.port prt := by
  simp [State.port]

@[simp] theorem keepCounts_ups (s old : State) : (keepCounts s old).ups = s.ups := by
  unfold keepCounts
  simp

@[simp] theorem keepCounts_up (s old : State) (hst : Nat) : (keepCounts s old).up hst = s.up hst := by
  simp [State.up]

end State

end Sys2Proof.Machine
end

