-- ==== Sys2Proof/Laws/FramesFault.lean ====
section
/-!
SUPPORT. What the operations of Fault.lean leave unchanged: register fields, counters, ports and upstream ports.
-/

namespace Sys2Proof.Machine

namespace State

@[simp] theorem ventStop_ports (s : State) (i : Nat) : (ventStop s i).ports = s.ports := by
  unfold ventStop
  simp

@[simp] theorem ventStop_port (s : State) (i : Nat) (prt : Nat) : (ventStop s i).port prt = s.port prt := by
  simp [State.port]

@[simp] theorem ventStop_ups (s : State) (i : Nat) : (ventStop s i).ups = s.ups := by
  unfold ventStop
  simp

@[simp] theorem ventStop_up (s : State) (i : Nat) (hst : Nat) : (ventStop s i).up hst = s.up hst := by
  simp [State.up]

@[simp] theorem fltAssert_flds (s : State) (i inst : Nat) : (fltAssert s i inst).flds = s.flds := by
  unfold fltAssert
  simp

@[simp] theorem fltAssert_get (s : State) (i inst : Nat) (fld : Fld) : (fltAssert s i inst).get fld = s.get fld := by
  simp [State.get]

@[simp] theorem fltAssert_cnts (s : State) (i inst : Nat) : (fltAssert s i inst).cnts = s.cnts := by
  unfold fltAssert
  simp

@[simp] theorem fltAssert_cnt (s : State) (i inst : Nat) (adr : Nat) : (fltAssert s i inst).cnt adr = s.cnt adr := by
  simp [State.cnt]

@[simp] theorem fltAssert_ports (s : State) (i inst : Nat) : (fltAssert s i inst).ports = s.ports := by
  unfold fltAssert
  simp

@[simp] theorem fltAssert_port (s : State) (i inst : Nat) (prt : Nat) : (fltAssert s i inst).port prt = s.port prt := by
  simp [State.port]

@[simp] theorem fltAssert_ups (s : State) (i inst : Nat) : (fltAssert s i inst).ups = s.ups := by
  unfold fltAssert
  simp

@[simp] theorem fltAssert_up (s : State) (i inst : Nat) (hst : Nat) : (fltAssert s i inst).up hst = s.up hst := by
  simp [State.up]

@[simp] theorem regRec_flds (s : State) (code addr : Nat) (m : Master) (extra : Nat) : (regRec s code addr m extra).flds = s.flds := by
  unfold regRec
  simp

@[simp] theorem regRec_get (s : State) (code addr : Nat) (m : Master) (extra : Nat) (fld : Fld) : (regRec s code addr m extra).get fld = s.get fld := by
  simp [State.get]

@[simp] theorem regRec_ports (s : State) (code addr : Nat) (m : Master) (extra : Nat) : (regRec s code addr m extra).ports = s.ports := by
  unfold regRec
  simp

@[simp] theorem regRec_port (s : State) (code addr : Nat) (m : Master) (extra : Nat) (prt : Nat) : (regRec s code addr m extra).port prt = s.port prt := by
  simp [State.port]

@[simp] theorem regRec_ups (s : State) (code addr : Nat) (m : Master) (extra : Nat) : (regRec s code addr m extra).ups = s.ups := by
  unfold regRec
  simp

@[simp] theorem regRec_up (s : State) (code addr : Nat) (m : Master) (extra : Nat) (hst : Nat) : (regRec s code addr m extra).up hst = s.up hst := by
  simp [State.up]

@[simp] theorem regRecBy_flds (s : State) (code addr : Nat) (m : Option Master) : (regRecBy s code addr m).flds = s.flds := by
  unfold regRecBy
  split <;> simp

@[simp] theorem regRecBy_get (s : State) (code addr : Nat) (m : Option Master) (fld : Fld) : (regRecBy s code addr m).get fld = s.get fld := by
  simp [State.get]

@[simp] theorem regRecBy_ports (s : State) (code addr : Nat) (m : Option Master) : (regRecBy s code addr m).ports = s.ports := by
  unfold regRecBy
  split <;> simp

@[simp] theorem regRecBy_port (s : State) (code addr : Nat) (m : Option Master) (prt : Nat) : (regRecBy s code addr m).port prt = s.port prt := by
  simp [State.port]

@[simp] theorem regRecBy_ups (s : State) (code addr : Nat) (m : Option Master) : (regRecBy s code addr m).ups = s.ups := by
  unfold regRecBy
  split <;> simp

@[simp] theorem regRecBy_up (s : State) (code addr : Nat) (m : Option Master) (hst : Nat) : (regRecBy s code addr m).up hst = s.up hst := by
  simp [State.up]

end State

end Sys2Proof.Machine
end

