-- ==== Sys2Proof/Laws/FramesBasin.lean ====
section
/-!
SUPPORT. What the operations of Basin.lean leave unchanged: register fields, counters, ports and upstream ports.
-/

namespace Sys2Proof.Machine

namespace State

@[simp] theorem setUq_flds (s : State) (k : Nat) (e : UqEntry) : (setUq s k e).flds = s.flds := by
  unfold setUq
  simp

@[simp] theorem setUq_get (s : State) (k : Nat) (e : UqEntry) (fld : Fld) : (setUq s k e).get fld = s.get fld := by
  simp [State.get]

@[simp] theorem setUq_cnts (s : State) (k : Nat) (e : UqEntry) : (setUq s k e).cnts = s.cnts := by
  unfold setUq
  simp

@[simp] theorem setUq_cnt (s : State) (k : Nat) (e : UqEntry) (adr : Nat) : (setUq s k e).cnt adr = s.cnt adr := by
  simp [State.cnt]

@[simp] theorem setUq_ports (s : State) (k : Nat) (e : UqEntry) : (setUq s k e).ports = s.ports := by
  unfold setUq
  simp

@[simp] theorem setUq_port (s : State) (k : Nat) (e : UqEntry) (prt : Nat) : (setUq s k e).port prt = s.port prt := by
  simp [State.port]

@[simp] theorem setUq_ups (s : State) (k : Nat) (e : UqEntry) : (setUq s k e).ups = s.ups := by
  unfold setUq
  simp

@[simp] theorem setUq_up (s : State) (k : Nat) (e : UqEntry) (hst : Nat) : (setUq s k e).up hst = s.up hst := by
  simp [State.up]

@[simp] theorem releaseGrant_flds (s : State) (k : Nat) : (releaseGrant s k).flds = s.flds := by
  unfold releaseGrant
  simp

@[simp] theorem releaseGrant_get (s : State) (k : Nat) (fld : Fld) : (releaseGrant s k).get fld = s.get fld := by
  simp [State.get]

@[simp] theorem releaseGrant_ports (s : State) (k : Nat) : (releaseGrant s k).ports = s.ports := by
  unfold releaseGrant
  simp

@[simp] theorem releaseGrant_port (s : State) (k : Nat) (prt : Nat) : (releaseGrant s k).port prt = s.port prt := by
  simp [State.port]

@[simp] theorem releaseGrant_ups (s : State) (k : Nat) : (releaseGrant s k).ups = s.ups := by
  unfold releaseGrant
  simp

@[simp] theorem releaseGrant_up (s : State) (k : Nat) (hst : Nat) : (releaseGrant s k).up hst = s.up hst := by
  simp [State.up]

@[simp] theorem shedRelease_cnts (s : State) : (shedRelease s).cnts = s.cnts := by
  unfold shedRelease
  split <;> simp

@[simp] theorem shedRelease_cnt (s : State) (adr : Nat) : (shedRelease s).cnt adr = s.cnt adr := by
  simp [State.cnt]

@[simp] theorem shedRelease_ports (s : State) : (shedRelease s).ports = s.ports := by
  unfold shedRelease
  split <;> simp

@[simp] theorem shedRelease_port (s : State) (prt : Nat) : (shedRelease s).port prt = s.port prt := by
  simp [State.port]

@[simp] theorem shedRelease_ups (s : State) : (shedRelease s).ups = s.ups := by
  unfold shedRelease
  split <;> simp

@[simp] theorem shedRelease_up (s : State) (hst : Nat) : (shedRelease s).up hst = s.up hst := by
  simp [State.up]

@[simp] theorem refreshOver_ports (s : State) : (refreshOver s).ports = s.ports := by
  unfold refreshOver
  simp

@[simp] theorem refreshOver_port (s : State) (prt : Nat) : (refreshOver s).port prt = s.port prt := by
  simp [State.port]

@[simp] theorem refreshOver_ups (s : State) : (refreshOver s).ups = s.ups := by
  unfold refreshOver
  simp

@[simp] theorem refreshOver_up (s : State) (hst : Nat) : (refreshOver s).up hst = s.up hst := by
  simp [State.up]

@[simp] theorem creditRefuse_flds (s : State) : (creditRefuse s).1.flds = s.flds := by
  unfold creditRefuse
  simp

@[simp] theorem creditRefuse_get (s : State) (fld : Fld) : (creditRefuse s).1.get fld = s.get fld := by
  simp [State.get]

@[simp] theorem creditRefuse_ports (s : State) : (creditRefuse s).1.ports = s.ports := by
  unfold creditRefuse
  simp

@[simp] theorem creditRefuse_port (s : State) (prt : Nat) : (creditRefuse s).1.port prt = s.port prt := by
  simp [State.port]

@[simp] theorem creditRefuse_ups (s : State) : (creditRefuse s).1.ups = s.ups := by
  unfold creditRefuse
  simp

@[simp] theorem creditRefuse_up (s : State) (hst : Nat) : (creditRefuse s).1.up hst = s.up hst := by
  simp [State.up]

@[simp] theorem ageTick_flds (s : State) : (ageTick s).flds = s.flds := by
  unfold ageTick
  simp

@[simp] theorem ageTick_get (s : State) (fld : Fld) : (ageTick s).get fld = s.get fld := by
  simp [State.get]

@[simp] theorem ageTick_cnts (s : State) : (ageTick s).cnts = s.cnts := by
  unfold ageTick
  simp

@[simp] theorem ageTick_cnt (s : State) (adr : Nat) : (ageTick s).cnt adr = s.cnt adr := by
  simp [State.cnt]

@[simp] theorem ageTick_ports (s : State) : (ageTick s).ports = s.ports := by
  unfold ageTick
  simp

@[simp] theorem ageTick_port (s : State) (prt : Nat) : (ageTick s).port prt = s.port prt := by
  simp [State.port]

@[simp] theorem ageTick_ups (s : State) : (ageTick s).ups = s.ups := by
  unfold ageTick
  simp

@[simp] theorem ageTick_up (s : State) (hst : Nat) : (ageTick s).up hst = s.up hst := by
  simp [State.up]

end State

end Sys2Proof.Machine
end

