-- ==== Sys2Proof/Laws/FramesQueue.lean ====
section
/-!
SUPPORT. What the operations of Queue.lean leave unchanged: register fields, counters, ports and upstream ports.
-/

namespace Sys2Proof.Machine

namespace State

@[simp] theorem qFlush_cnts (s : State) (q : Nat) : (qFlush s q).cnts = s.cnts := by
  unfold qFlush
  simp

@[simp] theorem qFlush_cnt (s : State) (q : Nat) (adr : Nat) : (qFlush s q).cnt adr = s.cnt adr := by
  simp [State.cnt]

@[simp] theorem qFlush_ports (s : State) (q : Nat) : (qFlush s q).ports = s.ports := by
  unfold qFlush
  simp

@[simp] theorem qFlush_port (s : State) (q : Nat) (prt : Nat) : (qFlush s q).port prt = s.port prt := by
  simp [State.port]

@[simp] theorem qFlush_ups (s : State) (q : Nat) : (qFlush s q).ups = s.ups := by
  unfold qFlush
  simp

@[simp] theorem qFlush_up (s : State) (q : Nat) (hst : Nat) : (qFlush s q).up hst = s.up hst := by
  simp [State.up]

@[simp] theorem qConsider_ports (s : State) (q : Nat) : (qConsider s q).ports = s.ports := by
  unfold qConsider
  simp

@[simp] theorem qConsider_port (s : State) (q : Nat) (prt : Nat) : (qConsider s q).port prt = s.port prt := by
  simp [State.port]

@[simp] theorem qConsider_ups (s : State) (q : Nat) : (qConsider s q).ups = s.ups := by
  unfold qConsider
  simp

@[simp] theorem qConsider_up (s : State) (q : Nat) (hst : Nat) : (qConsider s q).up hst = s.up hst := by
  simp [State.up]

@[simp] theorem wrQcfg_ports (s : State) (q v : Nat) : (wrQcfg s q v).ports = s.ports := by
  unfold wrQcfg
  simp

@[simp] theorem wrQcfg_port (s : State) (q v : Nat) (prt : Nat) : (wrQcfg s q v).port prt = s.port prt := by
  simp [State.port]

@[simp] theorem wrQcfg_ups (s : State) (q v : Nat) : (wrQcfg s q v).ups = s.ups := by
  unfold wrQcfg
  simp

@[simp] theorem wrQcfg_up (s : State) (q v : Nat) (hst : Nat) : (wrQcfg s q v).up hst = s.up hst := by
  simp [State.up]

end State

end Sys2Proof.Machine
end

