-- ==== Sys2Proof/Laws/FramesMeter.lean ====
section
/-!
SUPPORT. What the operations of Meter.lean leave unchanged: register fields, counters, ports and upstream ports.
-/

namespace Sys2Proof.Machine

namespace State

@[simp] theorem plCount_flds (s : State) (p b : Nat) (c : Colour) : (plCount s p b c).flds = s.flds := by
  unfold plCount
  split <;> simp

@[simp] theorem plCount_get (s : State) (p b : Nat) (c : Colour) (fld : Fld) : (plCount s p b c).get fld = s.get fld := by
  simp [State.get]

@[simp] theorem plCount_cnts (s : State) (p b : Nat) (c : Colour) : (plCount s p b c).cnts = s.cnts := by
  unfold plCount
  split <;> simp

@[simp] theorem plCount_cnt (s : State) (p b : Nat) (c : Colour) (adr : Nat) : (plCount s p b c).cnt adr = s.cnt adr := by
  simp [State.cnt]

@[simp] theorem plCount_ports (s : State) (p b : Nat) (c : Colour) : (plCount s p b c).ports = s.ports := by
  unfold plCount
  split <;> simp

@[simp] theorem plCount_port (s : State) (p b : Nat) (c : Colour) (prt : Nat) : (plCount s p b c).port prt = s.port prt := by
  simp [State.port]

@[simp] theorem plCount_ups (s : State) (p b : Nat) (c : Colour) : (plCount s p b c).ups = s.ups := by
  unfold plCount
  split <;> simp

@[simp] theorem plCount_up (s : State) (p b : Nat) (c : Colour) (hst : Nat) : (plCount s p b c).up hst = s.up hst := by
  simp [State.up]

@[simp] theorem holdBegin_flds (s : State) (p e1 len path : Nat) (pkt : Option (Nat × Nat)) : (holdBegin s p e1 len path pkt).flds = s.flds := by
  unfold holdBegin
  simp

@[simp] theorem holdBegin_get (s : State) (p e1 len path : Nat) (pkt : Option (Nat × Nat)) (fld : Fld) : (holdBegin s p e1 len path pkt).get fld = s.get fld := by
  simp [State.get]

@[simp] theorem holdBegin_ports (s : State) (p e1 len path : Nat) (pkt : Option (Nat × Nat)) : (holdBegin s p e1 len path pkt).ports = s.ports := by
  unfold holdBegin
  simp

@[simp] theorem holdBegin_port (s : State) (p e1 len path : Nat) (pkt : Option (Nat × Nat)) (prt : Nat) : (holdBegin s p e1 len path pkt).port prt = s.port prt := by
  simp [State.port]

@[simp] theorem holdBegin_ups (s : State) (p e1 len path : Nat) (pkt : Option (Nat × Nat)) : (holdBegin s p e1 len path pkt).ups = s.ups := by
  unfold holdBegin
  simp

@[simp] theorem holdBegin_up (s : State) (p e1 len path : Nat) (pkt : Option (Nat × Nat)) (hst : Nat) : (holdBegin s p e1 len path pkt).up hst = s.up hst := by
  simp [State.up]

@[simp] theorem modHold_flds (s : State) (e : Nat) (f : Hold → Hold) : (modHold s e f).flds = s.flds := by
  unfold modHold
  simp

@[simp] theorem modHold_get (s : State) (e : Nat) (f : Hold → Hold) (fld : Fld) : (modHold s e f).get fld = s.get fld := by
  simp [State.get]

@[simp] theorem modHold_cnts (s : State) (e : Nat) (f : Hold → Hold) : (modHold s e f).cnts = s.cnts := by
  unfold modHold
  simp

@[simp] theorem modHold_cnt (s : State) (e : Nat) (f : Hold → Hold) (adr : Nat) : (modHold s e f).cnt adr = s.cnt adr := by
  simp [State.cnt]

@[simp] theorem modHold_ports (s : State) (e : Nat) (f : Hold → Hold) : (modHold s e f).ports = s.ports := by
  unfold modHold
  simp

@[simp] theorem modHold_port (s : State) (e : Nat) (f : Hold → Hold) (prt : Nat) : (modHold s e f).port prt = s.port prt := by
  simp [State.port]

@[simp] theorem modHold_ups (s : State) (e : Nat) (f : Hold → Hold) : (modHold s e f).ups = s.ups := by
  unfold modHold
  simp

@[simp] theorem modHold_up (s : State) (e : Nat) (f : Hold → Hold) (hst : Nat) : (modHold s e f).up hst = s.up hst := by
  simp [State.up]

@[simp] theorem dropHold_flds (s : State) (e : Nat) : (dropHold s e).flds = s.flds := by
  unfold dropHold
  simp

@[simp] theorem dropHold_get (s : State) (e : Nat) (fld : Fld) : (dropHold s e).get fld = s.get fld := by
  simp [State.get]

@[simp] theorem dropHold_cnts (s : State) (e : Nat) : (dropHold s e).cnts = s.cnts := by
  unfold dropHold
  simp

@[simp] theorem dropHold_cnt (s : State) (e : Nat) (adr : Nat) : (dropHold s e).cnt adr = s.cnt adr := by
  simp [State.cnt]

@[simp] theorem dropHold_ports (s : State) (e : Nat) : (dropHold s e).ports = s.ports := by
  unfold dropHold
  simp

@[simp] theorem dropHold_port (s : State) (e : Nat) (prt : Nat) : (dropHold s e).port prt = s.port prt := by
  simp [State.port]

@[simp] theorem dropHold_ups (s : State) (e : Nat) : (dropHold s e).ups = s.ups := by
  unfold dropHold
  simp

@[simp] theorem dropHold_up (s : State) (e : Nat) (hst : Nat) : (dropHold s e).up hst = s.up hst := by
  simp [State.up]

@[simp] theorem holdAnswer_flds (s : State) (h : Hold) : (holdAnswer s h).flds = s.flds := by
  unfold holdAnswer
  dsimp only
  repeat' split
  all_goals simp

@[simp] theorem holdAnswer_get (s : State) (h : Hold) (fld : Fld) : (holdAnswer s h).get fld = s.get fld := by
  simp [State.get]

@[simp] theorem holdAnswer_cnts (s : State) (h : Hold) : (holdAnswer s h).cnts = s.cnts := by
  unfold holdAnswer
  dsimp only
  repeat' split
  all_goals simp

@[simp] theorem holdAnswer_cnt (s : State) (h : Hold) (adr : Nat) : (holdAnswer s h).cnt adr = s.cnt adr := by
  simp [State.cnt]

@[simp] theorem holdAnswer_ports (s : State) (h : Hold) : (holdAnswer s h).ports = s.ports := by
  unfold holdAnswer
  dsimp only
  repeat' split
  all_goals simp

@[simp] theorem holdAnswer_port (s : State) (h : Hold) (prt : Nat) : (holdAnswer s h).port prt = s.port prt := by
  simp [State.port]

@[simp] theorem holdAnswer_ups (s : State) (h : Hold) : (holdAnswer s h).ups = s.ups := by
  unfold holdAnswer
  dsimp only
  repeat' split
  all_goals simp

@[simp] theorem holdAnswer_up (s : State) (h : Hold) (hst : Nat) : (holdAnswer s h).up hst = s.up hst := by
  simp [State.up]

end State

end Sys2Proof.Machine
end

