-- ==== Sys2Proof/Laws/FramesTree.lean ====
section
/-!
SUPPORT. What the operations of Tree.lean leave unchanged: register fields, counters, ports and upstream ports.
-/

namespace Sys2Proof.Machine

namespace State

@[simp] theorem flushPort_ports (s : State) (n : Nat) (tt data : Bool) : (flushPort s n tt data).ports = s.ports := by
  unfold flushPort
  simp

@[simp] theorem flushPort_port (s : State) (n : Nat) (tt data : Bool) (prt : Nat) : (flushPort s n tt data).port prt = s.port prt := by
  simp [State.port]

@[simp] theorem flushPort_ups (s : State) (n : Nat) (tt data : Bool) : (flushPort s n tt data).ups = s.ups := by
  unfold flushPort
  simp

@[simp] theorem flushPort_up (s : State) (n : Nat) (tt data : Bool) (hst : Nat) : (flushPort s n tt data).up hst = s.up hst := by
  simp [State.up]

@[simp] theorem presAsk_cnts (s : State) (n : Nat) : (presAsk s n).cnts = s.cnts := by
  unfold presAsk
  dsimp only
  repeat' split
  all_goals simp

@[simp] theorem presAsk_cnt (s : State) (n : Nat) (adr : Nat) : (presAsk s n).cnt adr = s.cnt adr := by
  simp [State.cnt]

@[simp] theorem presAsk_ups (s : State) (n : Nat) : (presAsk s n).ups = s.ups := by
  unfold presAsk
  dsimp only
  repeat' split
  all_goals simp

@[simp] theorem presAsk_up (s : State) (n : Nat) (hst : Nat) : (presAsk s n).up hst = s.up hst := by
  simp [State.up]

@[simp] theorem presDrop_cnts (s : State) (n : Nat) : (presDrop s n).cnts = s.cnts := by
  unfold presDrop
  split <;> simp

@[simp] theorem presDrop_cnt (s : State) (n : Nat) (adr : Nat) : (presDrop s n).cnt adr = s.cnt adr := by
  simp [State.cnt]

@[simp] theorem presDrop_ups (s : State) (n : Nat) : (presDrop s n).ups = s.ups := by
  unfold presDrop
  split <;> simp

@[simp] theorem presDrop_up (s : State) (n : Nat) (hst : Nat) : (presDrop s n).up hst = s.up hst := by
  simp [State.up]

@[simp] theorem sleepRefresh_cnts (s : State) (u : Nat) : (sleepRefresh s u).cnts = s.cnts := by
  unfold sleepRefresh
  simp

@[simp] theorem sleepRefresh_cnt (s : State) (u : Nat) (adr : Nat) : (sleepRefresh s u).cnt adr = s.cnt adr := by
  simp [State.cnt]

@[simp] theorem sleepRefresh_ports (s : State) (u : Nat) : (sleepRefresh s u).ports = s.ports := by
  unfold sleepRefresh
  simp

@[simp] theorem sleepRefresh_port (s : State) (u : Nat) (prt : Nat) : (sleepRefresh s u).port prt = s.port prt := by
  simp [State.port]

@[simp] theorem sleepRefresh_ups (s : State) (u : Nat) : (sleepRefresh s u).ups = s.ups := by
  unfold sleepRefresh
  simp

@[simp] theorem sleepRefresh_up (s : State) (u : Nat) (hst : Nat) : (sleepRefresh s u).up hst = s.up hst := by
  simp [State.up]

@[simp] theorem dormantExit_flds (s : State) : (dormantExit s).flds = s.flds := by
  unfold dormantExit
  simp

@[simp] theorem dormantExit_get (s : State) (fld : Fld) : (dormantExit s).get fld = s.get fld := by
  simp [State.get]

@[simp] theorem dormantExit_ports (s : State) : (dormantExit s).ports = s.ports := by
  unfold dormantExit
  simp

@[simp] theorem dormantExit_port (s : State) (prt : Nat) : (dormantExit s).port prt = s.port prt := by
  simp [State.port]

@[simp] theorem dormantExit_ups (s : State) : (dormantExit s).ups = s.ups := by
  unfold dormantExit
  simp

@[simp] theorem dormantExit_up (s : State) (hst : Nat) : (dormantExit s).up hst = s.up hst := by
  simp [State.up]

@[simp] theorem treeEvt_flds (s : State) (u ev : Nat) : (treeEvt s u ev).flds = s.flds := by
  unfold treeEvt
  simp

@[simp] theorem treeEvt_get (s : State) (u ev : Nat) (fld : Fld) : (treeEvt s u ev).get fld = s.get fld := by
  simp [State.get]

@[simp] theorem treeEvt_cnts (s : State) (u ev : Nat) : (treeEvt s u ev).cnts = s.cnts := by
  unfold treeEvt
  simp

@[simp] theorem treeEvt_cnt (s : State) (u ev : Nat) (adr : Nat) : (treeEvt s u ev).cnt adr = s.cnt adr := by
  simp [State.cnt]

@[simp] theorem treeEvt_ports (s : State) (u ev : Nat) : (treeEvt s u ev).ports = s.ports := by
  unfold treeEvt
  simp

@[simp] theorem treeEvt_port (s : State) (u ev : Nat) (prt : Nat) : (treeEvt s u ev).port prt = s.port prt := by
  simp [State.port]

@[simp] theorem treeEvt_ups (s : State) (u ev : Nat) : (treeEvt s u ev).ups = s.ups := by
  unfold treeEvt
  simp

@[simp] theorem treeEvt_up (s : State) (u ev : Nat) (hst : Nat) : (treeEvt s u ev).up hst = s.up hst := by
  simp [State.up]

@[simp] theorem dropRequests_flds (s : State) (u : Nat) (ss : Bool) : (dropRequests s u ss).flds = s.flds := by
  unfold dropRequests
  simp

@[simp] theorem dropRequests_get (s : State) (u : Nat) (ss : Bool) (fld : Fld) : (dropRequests s u ss).get fld = s.get fld := by
  simp [State.get]

@[simp] theorem dropRequests_ports (s : State) (u : Nat) (ss : Bool) : (dropRequests s u ss).ports = s.ports := by
  unfold dropRequests
  simp

@[simp] theorem dropRequests_port (s : State) (u : Nat) (ss : Bool) (prt : Nat) : (dropRequests s u ss).port prt = s.port prt := by
  simp [State.port]

@[simp] theorem dropRequests_ups (s : State) (u : Nat) (ss : Bool) : (dropRequests s u ss).ups = s.ups := by
  unfold dropRequests
  simp

@[simp] theorem dropRequests_up (s : State) (u : Nat) (ss : Bool) (hst : Nat) : (dropRequests s u ss).up hst = s.up hst := by
  simp [State.up]

@[simp] theorem resetSleep_cnts (s : State) (n : Nat) : (resetSleep s n).cnts = s.cnts := by
  unfold resetSleep
  simp

@[simp] theorem resetSleep_cnt (s : State) (n : Nat) (adr : Nat) : (resetSleep s n).cnt adr = s.cnt adr := by
  simp [State.cnt]

@[simp] theorem resetSleep_ups (s : State) (n : Nat) : (resetSleep s n).ups = s.ups := by
  unfold resetSleep
  simp

@[simp] theorem resetSleep_up (s : State) (n : Nat) (hst : Nat) : (resetSleep s n).up hst = s.up hst := by
  simp [State.up]

@[simp] theorem updateReset_cnts (s : State) (u : Nat) : (updateReset s u).cnts = s.cnts := by
  unfold updateReset
  simp

@[simp] theorem updateReset_cnt (s : State) (u : Nat) (adr : Nat) : (updateReset s u).cnt adr = s.cnt adr := by
  simp [State.cnt]

@[simp] theorem updateReset_ports (s : State) (u : Nat) : (updateReset s u).ports = s.ports := by
  unfold updateReset
  simp

@[simp] theorem updateReset_port (s : State) (u : Nat) (prt : Nat) : (updateReset s u).port prt = s.port prt := by
  simp [State.port]

@[simp] theorem updateReset_ups (s : State) (u : Nat) : (updateReset s u).ups = s.ups := by
  unfold updateReset
  simp

@[simp] theorem updateReset_up (s : State) (u : Nat) (hst : Nat) : (updateReset s u).up hst = s.up hst := by
  simp [State.up]

@[simp] theorem resetHubs_cnts (s : State) (u : Nat) (ss : Bool) : (resetHubs s u ss).cnts = s.cnts := by
  unfold resetHubs
  simp

@[simp] theorem resetHubs_cnt (s : State) (u : Nat) (ss : Bool) (adr : Nat) : (resetHubs s u ss).cnt adr = s.cnt adr := by
  simp [State.cnt]

@[simp] theorem resetHubs_ports (s : State) (u : Nat) (ss : Bool) : (resetHubs s u ss).ports = s.ports := by
  unfold resetHubs
  simp

@[simp] theorem resetHubs_port (s : State) (u : Nat) (ss : Bool) (prt : Nat) : (resetHubs s u ss).port prt = s.port prt := by
  simp [State.port]

end State

end Sys2Proof.Machine
end

