-- ==== Sys2Proof/Laws/FramesPowerPath.lean ====
section
/-!
SUPPORT. What the operations of PowerPath.lean leave unchanged: register fields, counters, ports and upstream ports.
-/

namespace Sys2Proof.Machine

namespace State

@[simp] theorem setTarget_cnts (s : State) (k t : Nat) : (setTarget s k t).cnts = s.cnts := by
  unfold setTarget
  simp

@[simp] theorem setTarget_cnt (s : State) (k t : Nat) (adr : Nat) : (setTarget s k t).cnt adr = s.cnt adr := by
  simp [State.cnt]

@[simp] theorem setTarget_ports (s : State) (k t : Nat) : (setTarget s k t).ports = s.ports := by
  unfold setTarget
  simp

@[simp] theorem setTarget_port (s : State) (k t : Nat) (prt : Nat) : (setTarget s k t).port prt = s.port prt := by
  simp [State.port]

@[simp] theorem setTarget_ups (s : State) (k t : Nat) : (setTarget s k t).ups = s.ups := by
  unfold setTarget
  simp

@[simp] theorem setTarget_up (s : State) (k t : Nat) (hst : Nat) : (setTarget s k t).up hst = s.up hst := by
  simp [State.up]

@[simp] theorem newTarget_ports (s : State) (k t : Nat) : (newTarget s k t).ports = s.ports := by
  unfold newTarget
  simp

@[simp] theorem newTarget_port (s : State) (k t : Nat) (prt : Nat) : (newTarget s k t).port prt = s.port prt := by
  simp [State.port]

@[simp] theorem newTarget_ups (s : State) (k t : Nat) : (newTarget s k t).ups = s.ups := by
  unfold newTarget
  simp

@[simp] theorem newTarget_up (s : State) (k t : Nat) (hst : Nat) : (newTarget s k t).up hst = s.up hst := by
  simp [State.up]

@[simp] theorem powerGood_ports (s : State) (k : Nat) : (powerGood s k).ports = s.ports := by
  unfold powerGood
  simp

@[simp] theorem powerGood_port (s : State) (k : Nat) (prt : Nat) : (powerGood s k).port prt = s.port prt := by
  simp [State.port]

@[simp] theorem powerGood_ups (s : State) (k : Nat) : (powerGood s k).ups = s.ups := by
  unfold powerGood
  simp

@[simp] theorem powerGood_up (s : State) (k : Nat) (hst : Nat) : (powerGood s k).up hst = s.up hst := by
  simp [State.up]

@[simp] theorem refreshTimer_cnts (s : State) (k : Nat) : (refreshTimer s k).cnts = s.cnts := by
  unfold refreshTimer
  simp

@[simp] theorem refreshTimer_cnt (s : State) (k : Nat) (adr : Nat) : (refreshTimer s k).cnt adr = s.cnt adr := by
  simp [State.cnt]

@[simp] theorem refreshTimer_ports (s : State) (k : Nat) : (refreshTimer s k).ports = s.ports := by
  unfold refreshTimer
  simp

@[simp] theorem refreshTimer_port (s : State) (k : Nat) (prt : Nat) : (refreshTimer s k).port prt = s.port prt := by
  simp [State.port]

@[simp] theorem refreshTimer_ups (s : State) (k : Nat) : (refreshTimer s k).ups = s.ups := by
  unfold refreshTimer
  simp

@[simp] theorem refreshTimer_up (s : State) (k : Nat) (hst : Nat) : (refreshTimer s k).up hst = s.up hst := by
  simp [State.up]

@[simp] theorem currentSample_cnts (s : State) (k i : Nat) : (currentSample s k i).cnts = s.cnts := by
  unfold currentSample
  simp

@[simp] theorem currentSample_cnt (s : State) (k i : Nat) (adr : Nat) : (currentSample s k i).cnt adr = s.cnt adr := by
  simp [State.cnt]

@[simp] theorem currentSample_ports (s : State) (k i : Nat) : (currentSample s k i).ports = s.ports := by
  unfold currentSample
  simp

@[simp] theorem currentSample_port (s : State) (k i : Nat) (prt : Nat) : (currentSample s k i).port prt = s.port prt := by
  simp [State.port]

@[simp] theorem currentSample_ups (s : State) (k i : Nat) : (currentSample s k i).ups = s.ups := by
  unfold currentSample
  simp

@[simp] theorem currentSample_up (s : State) (k i : Nat) (hst : Nat) : (currentSample s k i).up hst = s.up hst := by
  simp [State.up]

@[simp] theorem vbusSample_cnts (s : State) (k v : Nat) : (vbusSample s k v).cnts = s.cnts := by
  unfold vbusSample
  simp

@[simp] theorem vbusSample_cnt (s : State) (k v : Nat) (adr : Nat) : (vbusSample s k v).cnt adr = s.cnt adr := by
  simp [State.cnt]

@[simp] theorem vbusSample_ports (s : State) (k v : Nat) : (vbusSample s k v).ports = s.ports := by
  unfold vbusSample
  simp

@[simp] theorem vbusSample_port (s : State) (k v : Nat) (prt : Nat) : (vbusSample s k v).port prt = s.port prt := by
  simp [State.port]

@[simp] theorem vbusSample_ups (s : State) (k v : Nat) : (vbusSample s k v).ups = s.ups := by
  unfold vbusSample
  simp

@[simp] theorem vbusSample_up (s : State) (k v : Nat) (hst : Nat) : (vbusSample s k v).up hst = s.up hst := by
  simp [State.up]

@[simp] theorem ppRefuse_ports (s : State) (k : Nat) : (ppRefuse s k).ports = s.ports := by
  unfold ppRefuse
  simp

@[simp] theorem ppRefuse_port (s : State) (k : Nat) (prt : Nat) : (ppRefuse s k).port prt = s.port prt := by
  simp [State.port]

@[simp] theorem ppRefuse_ups (s : State) (k : Nat) : (ppRefuse s k).ups = s.ups := by
  unfold ppRefuse
  simp

@[simp] theorem ppRefuse_up (s : State) (k : Nat) (hst : Nat) : (ppRefuse s k).up hst = s.up hst := by
  simp [State.up]

@[simp] theorem ppDone_cnts (s : State) (k : Nat) : (ppDone s k).cnts = s.cnts := by
  unfold ppDone
  simp

@[simp] theorem ppDone_cnt (s : State) (k : Nat) (adr : Nat) : (ppDone s k).cnt adr = s.cnt adr := by
  simp [State.cnt]

@[simp] theorem ppDone_ports (s : State) (k : Nat) : (ppDone s k).ports = s.ports := by
  unfold ppDone
  simp

@[simp] theorem ppDone_port (s : State) (k : Nat) (prt : Nat) : (ppDone s k).port prt = s.port prt := by
  simp [State.port]

@[simp] theorem ppDone_ups (s : State) (k : Nat) : (ppDone s k).ups = s.ups := by
  unfold ppDone
  simp

@[simp] theorem ppDone_up (s : State) (k : Nat) (hst : Nat) : (ppDone s k).up hst = s.up hst := by
  simp [State.up]

@[simp] theorem ppOn_ports (s : State) (k : Nat) : (ppOn s k).ports = s.ports := by
  unfold ppOn
  simp

@[simp] theorem ppOn_port (s : State) (k : Nat) (prt : Nat) : (ppOn s k).port prt = s.port prt := by
  simp [State.port]

@[simp] theorem ppOn_ups (s : State) (k : Nat) : (ppOn s k).ups = s.ups := by
  unfold ppOn
  simp

@[simp] theorem ppOn_up (s : State) (k : Nat) (hst : Nat) : (ppOn s k).up hst = s.up hst := by
  simp [State.up]

@[simp] theorem ppRelease_ports (s : State) (k : Nat) : (ppRelease s k).ports = s.ports := by
  unfold ppRelease
  simp

@[simp] theorem ppRelease_port (s : State) (k : Nat) (prt : Nat) : (ppRelease s k).port prt = s.port prt := by
  simp [State.port]

@[simp] theorem ppRelease_ups (s : State) (k : Nat) : (ppRelease s k).ups = s.ups := by
  unfold ppRelease
  simp

@[simp] theorem ppRelease_up (s : State) (k : Nat) (hst : Nat) : (ppRelease s k).up hst = s.up hst := by
  simp [State.up]

@[simp] theorem ppClear_ports (s : State) (k : Nat) : (ppClear s k).ports = s.ports := by
  unfold ppClear
  simp

@[simp] theorem ppClear_port (s : State) (k : Nat) (prt : Nat) : (ppClear s k).port prt = s.port prt := by
  simp [State.port]

@[simp] theorem ppClear_ups (s : State) (k : Nat) : (ppClear s k).ups = s.ups := by
  unfold ppClear
  simp

@[simp] theorem ppClear_up (s : State) (k : Nat) (hst : Nat) : (ppClear s k).up hst = s.up hst := by
  simp [State.up]

end State

end Sys2Proof.Machine
end

