-- ==== Sys2Proof/Laws/FramesPortReq.lean ====
section
/-!
SUPPORT. What the operations of PortReq.lean leave unchanged: register fields, counters, ports and upstream ports.
-/

namespace Sys2Proof.Machine

namespace State

@[simp] theorem answerHost_flds (s : State) (n : Nat) (ack : Bool) (data : List Nat) : (answerHost s n ack data).flds = s.flds := by
  unfold answerHost
  split <;> simp

@[simp] theorem answerHost_get (s : State) (n : Nat) (ack : Bool) (data : List Nat) (fld : Fld) : (answerHost s n ack data).get fld = s.get fld := by
  simp [State.get]

@[simp] theorem answerHost_cnts (s : State) (n : Nat) (ack : Bool) (data : List Nat) : (answerHost s n ack data).cnts = s.cnts := by
  unfold answerHost
  split <;> simp

@[simp] theorem answerHost_cnt (s : State) (n : Nat) (ack : Bool) (data : List Nat) (adr : Nat) : (answerHost s n ack data).cnt adr = s.cnt adr := by
  simp [State.cnt]

@[simp] theorem answerHost_ports (s : State) (n : Nat) (ack : Bool) (data : List Nat) : (answerHost s n ack data).ports = s.ports := by
  unfold answerHost
  split <;> simp

@[simp] theorem answerHost_port (s : State) (n : Nat) (ack : Bool) (data : List Nat) (prt : Nat) : (answerHost s n ack data).port prt = s.port prt := by
  simp [State.port]

@[simp] theorem answerHost_ups (s : State) (n : Nat) (ack : Bool) (data : List Nat) : (answerHost s n ack data).ups = s.ups := by
  unfold answerHost
  split <;> simp

@[simp] theorem answerHost_up (s : State) (n : Nat) (ack : Bool) (data : List Nat) (hst : Nat) : (answerHost s n ack data).up hst = s.up hst := by
  simp [State.up]

@[simp] theorem exitStart_flds (s : State) (n : Nat) : (exitStart s n).flds = s.flds := by
  unfold exitStart
  simp

@[simp] theorem exitStart_get (s : State) (n : Nat) (fld : Fld) : (exitStart s n).get fld = s.get fld := by
  simp [State.get]

@[simp] theorem exitStart_cnts (s : State) (n : Nat) : (exitStart s n).cnts = s.cnts := by
  unfold exitStart
  simp

@[simp] theorem exitStart_cnt (s : State) (n : Nat) (adr : Nat) : (exitStart s n).cnt adr = s.cnt adr := by
  simp [State.cnt]

@[simp] theorem exitStart_ups (s : State) (n : Nat) : (exitStart s n).ups = s.ups := by
  unfold exitStart
  simp

@[simp] theorem exitStart_up (s : State) (n : Nat) (hst : Nat) : (exitStart s n).up hst = s.up hst := by
  simp [State.up]

@[simp] theorem takeOver_flds (s : State) (n : Nat) : (takeOver s n).flds = s.flds := by
  unfold takeOver
  simp

@[simp] theorem takeOver_get (s : State) (n : Nat) (fld : Fld) : (takeOver s n).get fld = s.get fld := by
  simp [State.get]

@[simp] theorem takeOver_cnts (s : State) (n : Nat) : (takeOver s n).cnts = s.cnts := by
  unfold takeOver
  simp

@[simp] theorem takeOver_cnt (s : State) (n : Nat) (adr : Nat) : (takeOver s n).cnt adr = s.cnt adr := by
  simp [State.cnt]

@[simp] theorem takeOver_ups (s : State) (n : Nat) : (takeOver s n).ups = s.ups := by
  unfold takeOver
  simp

@[simp] theorem takeOver_up (s : State) (n : Nat) (hst : Nat) : (takeOver s n).up hst = s.up hst := by
  simp [State.up]

@[simp] theorem warmReset_ups (s : State) (n : Nat) : (warmReset s n).ups = s.ups := by
  unfold warmReset
  simp

@[simp] theorem warmReset_up (s : State) (n : Nat) (hst : Nat) : (warmReset s n).up hst = s.up hst := by
  simp [State.up]

@[simp] theorem modLport_flds (s : State) (u l : Nat) (f : LPort → LPort) : (modLport s u l f).flds = s.flds := by
  unfold modLport
  simp

@[simp] theorem modLport_get (s : State) (u l : Nat) (f : LPort → LPort) (fld : Fld) : (modLport s u l f).get fld = s.get fld := by
  simp [State.get]

@[simp] theorem modLport_cnts (s : State) (u l : Nat) (f : LPort → LPort) : (modLport s u l f).cnts = s.cnts := by
  unfold modLport
  simp

@[simp] theorem modLport_cnt (s : State) (u l : Nat) (f : LPort → LPort) (adr : Nat) : (modLport s u l f).cnt adr = s.cnt adr := by
  simp [State.cnt]

@[simp] theorem modLport_ports (s : State) (u l : Nat) (f : LPort → LPort) : (modLport s u l f).ports = s.ports := by
  unfold modLport
  simp

@[simp] theorem modLport_port (s : State) (u l : Nat) (f : LPort → LPort) (prt : Nat) : (modLport s u l f).port prt = s.port prt := by
  simp [State.port]

end State

end Sys2Proof.Machine
end

