-- ==== Sys2Proof/Laws/FramesHub.lean ====
section
/-!
SUPPORT. What the operations of Hub.lean leave unchanged: register fields, counters, ports and upstream ports.
-/

namespace Sys2Proof.Machine

namespace State

@[simp] theorem mgmtToken_flds (s : State) (u epn : Nat) (dirIn : Bool) : (mgmtToken s u epn dirIn).flds = s.flds := by
  unfold mgmtToken
  dsimp only
  repeat' split
  all_goals simp

@[simp] theorem mgmtToken_get (s : State) (u epn : Nat) (dirIn : Bool) (fld : Fld) : (mgmtToken s u epn dirIn).get fld = s.get fld := by
  simp [State.get]

@[simp] theorem mgmtToken_cnts (s : State) (u epn : Nat) (dirIn : Bool) : (mgmtToken s u epn dirIn).cnts = s.cnts := by
  unfold mgmtToken
  dsimp only
  repeat' split
  all_goals simp

@[simp] theorem mgmtToken_cnt (s : State) (u epn : Nat) (dirIn : Bool) (adr : Nat) : (mgmtToken s u epn dirIn).cnt adr = s.cnt adr := by
  simp [State.cnt]

@[simp] theorem mgmtToken_ports (s : State) (u epn : Nat) (dirIn : Bool) : (mgmtToken s u epn dirIn).ports = s.ports := by
  unfold mgmtToken
  dsimp only
  repeat' split
  all_goals simp

@[simp] theorem mgmtToken_port (s : State) (u epn : Nat) (dirIn : Bool) (prt : Nat) : (mgmtToken s u epn dirIn).port prt = s.port prt := by
  simp [State.port]

end State

end Sys2Proof.Machine
end

