-- ==== Sys2Proof/Laws/FramesSplit.lean ====
section
/-!
SUPPORT. What the operations of Split.lean leave unchanged: register fields, counters, ports and upstream ports.
-/

namespace Sys2Proof.Machine

namespace State

@[simp] theorem ttAnswer_flds (s : State) (n : Nat) (sig : Usb2) : (ttAnswer s n sig).flds = s.flds := by
  unfold ttAnswer
  split <;> simp

@[simp] theorem ttAnswer_get (s : State) (n : Nat) (sig : Usb2) (fld : Fld) : (ttAnswer s n sig).get fld = s.get fld := by
  simp [State.get]

@[simp] theorem ttAnswer_cnts (s : State) (n : Nat) (sig : Usb2) : (ttAnswer s n sig).cnts = s.cnts := by
  unfold ttAnswer
  split <;> simp

@[simp] theorem ttAnswer_cnt (s : State) (n : Nat) (sig : Usb2) (adr : Nat) : (ttAnswer s n sig).cnt adr = s.cnt adr := by
  simp [State.cnt]

@[simp] theorem ttAnswer_ports (s : State) (n : Nat) (sig : Usb2) : (ttAnswer s n sig).ports = s.ports := by
  unfold ttAnswer
  split <;> simp

@[simp] theorem ttAnswer_port (s : State) (n : Nat) (sig : Usb2) (prt : Nat) : (ttAnswer s n sig).port prt = s.port prt := by
  simp [State.port]

@[simp] theorem ttAnswer_ups (s : State) (n : Nat) (sig : Usb2) : (ttAnswer s n sig).ups = s.ups := by
  unfold ttAnswer
  split <;> simp

@[simp] theorem ttAnswer_up (s : State) (n : Nat) (sig : Usb2) (hst : Nat) : (ttAnswer s n sig).up hst = s.up hst := by
  simp [State.up]

@[simp] theorem ttErr_flds (s : State) (n : Nat) : (ttErr s n).flds = s.flds := by
  unfold ttErr
  simp

@[simp] theorem ttErr_get (s : State) (n : Nat) (fld : Fld) : (ttErr s n).get fld = s.get fld := by
  simp [State.get]

@[simp] theorem ttErr_ports (s : State) (n : Nat) : (ttErr s n).ports = s.ports := by
  unfold ttErr
  simp

@[simp] theorem ttErr_port (s : State) (n : Nat) (prt : Nat) : (ttErr s n).port prt = s.port prt := by
  simp [State.port]

@[simp] theorem ttErr_ups (s : State) (n : Nat) : (ttErr s n).ups = s.ups := by
  unfold ttErr
  simp

@[simp] theorem ttErr_up (s : State) (n : Nat) (hst : Nat) : (ttErr s n).up hst = s.up hst := by
  simp [State.up]

end State

end Sys2Proof.Machine
end

