-- ==== Sys2Proof/Laws/FramesSched.lean ====
section
/-!
SUPPORT. What the operations of Sched.lean leave unchanged: register fields, counters, ports and upstream ports.
-/

namespace Sys2Proof.Machine

namespace State

@[simp] theorem gateRefresh_ports (s : State) (x : Nat) : (gateRefresh s x).ports = s.ports := by
  unfold gateRefresh
  simp

@[simp] theorem gateRefresh_port (s : State) (x : Nat) (prt : Nat) : (gateRefresh s x).port prt = s.port prt := by
  simp [State.port]

@[simp] theorem gateRefresh_ups (s : State) (x : Nat) : (gateRefresh s x).ups = s.ups := by
  unfold gateRefresh
  simp

@[simp] theorem gateRefresh_up (s : State) (x : Nat) (hst : Nat) : (gateRefresh s x).up hst = s.up hst := by
  simp [State.up]

@[simp] theorem gatesRefresh_ports (s : State) : (gatesRefresh s).ports = s.ports := by
  unfold gatesRefresh
  simp

@[simp] theorem gatesRefresh_port (s : State) (prt : Nat) : (gatesRefresh s).port prt = s.port prt := by
  simp [State.port]

@[simp] theorem gatesRefresh_ups (s : State) : (gatesRefresh s).ups = s.ups := by
  unfold gatesRefresh
  simp

@[simp] theorem gatesRefresh_up (s : State) (hst : Nat) : (gatesRefresh s).up hst = s.up hst := by
  simp [State.up]

@[simp] theorem deferOnce_ports (s : State) (x cntr : Nat) (p : Packet) : (deferOnce s x cntr p).ports = s.ports := by
  unfold deferOnce
  simp

@[simp] theorem deferOnce_port (s : State) (x cntr : Nat) (p : Packet) (prt : Nat) : (deferOnce s x cntr p).port prt = s.port prt := by
  simp [State.port]

@[simp] theorem deferOnce_ups (s : State) (x cntr : Nat) (p : Packet) : (deferOnce s x cntr p).ups = s.ups := by
  unfold deferOnce
  simp

@[simp] theorem deferOnce_up (s : State) (x cntr : Nat) (p : Packet) (hst : Nat) : (deferOnce s x cntr p).up hst = s.up hst := by
  simp [State.up]

@[simp] theorem pickClass_ports (s : State) (x cls left : Nat) (per : Option Nat) : (pickClass s x cls left per).1.ports = s.ports := by
  unfold pickClass
  simp

@[simp] theorem pickClass_port (s : State) (x cls left : Nat) (per : Option Nat) (prt : Nat) : (pickClass s x cls left per).1.port prt = s.port prt := by
  simp [State.port]

@[simp] theorem pickClass_ups (s : State) (x cls left : Nat) (per : Option Nat) : (pickClass s x cls left per).1.ups = s.ups := by
  unfold pickClass
  simp

@[simp] theorem pickClass_up (s : State) (x cls left : Nat) (per : Option Nat) (hst : Nat) : (pickClass s x cls left per).1.up hst = s.up hst := by
  simp [State.up]

@[simp] theorem startPkt_cnts (s : State) (x q : Nat) (p : Packet) : (startPkt s x q p).cnts = s.cnts := by
  unfold startPkt
  simp

@[simp] theorem startPkt_cnt (s : State) (x q : Nat) (p : Packet) (adr : Nat) : (startPkt s x q p).cnt adr = s.cnt adr := by
  simp [State.cnt]

@[simp] theorem startPkt_ports (s : State) (x q : Nat) (p : Packet) : (startPkt s x q p).ports = s.ports := by
  unfold startPkt
  simp

@[simp] theorem startPkt_port (s : State) (x q : Nat) (p : Packet) (prt : Nat) : (startPkt s x q p).port prt = s.port prt := by
  simp [State.port]

@[simp] theorem startPkt_ups (s : State) (x q : Nat) (p : Packet) : (startPkt s x q p).ups = s.ups := by
  unfold startPkt
  simp

@[simp] theorem startPkt_up (s : State) (x q : Nat) (p : Packet) (hst : Nat) : (startPkt s x q p).up hst = s.up hst := by
  simp [State.up]

@[simp] theorem sendOut_flds (s : State) (x : Nat) (p : Packet) : (sendOut s x p).flds = s.flds := by
  unfold sendOut
  simp

@[simp] theorem sendOut_get (s : State) (x : Nat) (p : Packet) (fld : Fld) : (sendOut s x p).get fld = s.get fld := by
  simp [State.get]

@[simp] theorem sendOut_cnts (s : State) (x : Nat) (p : Packet) : (sendOut s x p).cnts = s.cnts := by
  unfold sendOut
  simp

@[simp] theorem sendOut_cnt (s : State) (x : Nat) (p : Packet) (adr : Nat) : (sendOut s x p).cnt adr = s.cnt adr := by
  simp [State.cnt]

@[simp] theorem sendOut_ports (s : State) (x : Nat) (p : Packet) : (sendOut s x p).ports = s.ports := by
  unfold sendOut
  simp

@[simp] theorem sendOut_port (s : State) (x : Nat) (p : Packet) (prt : Nat) : (sendOut s x p).port prt = s.port prt := by
  simp [State.port]

@[simp] theorem sendOut_ups (s : State) (x : Nat) (p : Packet) : (sendOut s x p).ups = s.ups := by
  unfold sendOut
  simp

@[simp] theorem sendOut_up (s : State) (x : Nat) (p : Packet) (hst : Nat) : (sendOut s x p).up hst = s.up hst := by
  simp [State.up]

end State

end Sys2Proof.Machine
end

