-- ==== Sys2Proof/Laws/FramesSuper.lean ====
section
/-!
SUPPORT. What the operations of Super.lean leave unchanged: register fields, counters, ports and upstream ports.
-/

namespace Sys2Proof.Machine

namespace State

@[simp] theorem kOwe_flds (s : State) (v vc len : Nat) : (kOwe s v vc len).flds = s.flds := by
  unfold kOwe
  simp

@[simp] theorem kOwe_get (s : State) (v vc len : Nat) (fld : Fld) : (kOwe s v vc len).get fld = s.get fld := by
  simp [State.get]

@[simp] theorem kOwe_cnts (s : State) (v vc len : Nat) : (kOwe s v vc len).cnts = s.cnts := by
  unfold kOwe
  simp

@[simp] theorem kOwe_cnt (s : State) (v vc len : Nat) (adr : Nat) : (kOwe s v vc len).cnt adr = s.cnt adr := by
  simp [State.cnt]

@[simp] theorem kOwe_ports (s : State) (v vc len : Nat) : (kOwe s v vc len).ports = s.ports := by
  unfold kOwe
  simp

@[simp] theorem kOwe_port (s : State) (v vc len : Nat) (prt : Nat) : (kOwe s v vc len).port prt = s.port prt := by
  simp [State.port]

@[simp] theorem kOwe_ups (s : State) (v vc len : Nat) : (kOwe s v vc len).ups = s.ups := by
  unfold kOwe
  simp

@[simp] theorem kOwe_up (s : State) (v vc len : Nat) (hst : Nat) : (kOwe s v vc len).up hst = s.up hst := by
  simp [State.up]

@[simp] theorem admitted_flds (s : State) (q o : Nat) (p : Packet) : (admitted s q o p).flds = s.flds := by
  unfold admitted
  simp

@[simp] theorem admitted_get (s : State) (q o : Nat) (p : Packet) (fld : Fld) : (admitted s q o p).get fld = s.get fld := by
  simp [State.get]

@[simp] theorem admitted_ports (s : State) (q o : Nat) (p : Packet) : (admitted s q o p).ports = s.ports := by
  unfold admitted
  simp

@[simp] theorem admitted_port (s : State) (q o : Nat) (p : Packet) (prt : Nat) : (admitted s q o p).port prt = s.port prt := by
  simp [State.port]

@[simp] theorem admitted_ups (s : State) (q o : Nat) (p : Packet) : (admitted s q o p).ups = s.ups := by
  unfold admitted
  simp

@[simp] theorem admitted_up (s : State) (q o : Nat) (p : Packet) (hst : Nat) : (admitted s q o p).up hst = s.up hst := by
  simp [State.up]

@[simp] theorem touchPort_flds (s : State) (n : Nat) : (touchPort s n).flds = s.flds := by
  unfold touchPort
  simp

@[simp] theorem touchPort_get (s : State) (n : Nat) (fld : Fld) : (touchPort s n).get fld = s.get fld := by
  simp [State.get]

@[simp] theorem touchPort_cnts (s : State) (n : Nat) : (touchPort s n).cnts = s.cnts := by
  unfold touchPort
  simp

@[simp] theorem touchPort_cnt (s : State) (n : Nat) (adr : Nat) : (touchPort s n).cnt adr = s.cnt adr := by
  simp [State.cnt]

@[simp] theorem touchPort_ups (s : State) (n : Nat) : (touchPort s n).ups = s.ups := by
  unfold touchPort
  simp

@[simp] theorem touchPort_up (s : State) (n : Nat) (hst : Nat) : (touchPort s n).up hst = s.up hst := by
  simp [State.up]

@[simp] theorem touchUp_flds (s : State) (u : Nat) : (touchUp s u).flds = s.flds := by
  unfold touchUp
  simp

@[simp] theorem touchUp_get (s : State) (u : Nat) (fld : Fld) : (touchUp s u).get fld = s.get fld := by
  simp [State.get]

@[simp] theorem touchUp_cnts (s : State) (u : Nat) : (touchUp s u).cnts = s.cnts := by
  unfold touchUp
  simp

@[simp] theorem touchUp_cnt (s : State) (u : Nat) (adr : Nat) : (touchUp s u).cnt adr = s.cnt adr := by
  simp [State.cnt]

@[simp] theorem touchUp_ports (s : State) (u : Nat) : (touchUp s u).ports = s.ports := by
  unfold touchUp
  simp

@[simp] theorem touchUp_port (s : State) (u : Nat) (prt : Nat) : (touchUp s u).port prt = s.port prt := by
  simp [State.port]

@[simp] theorem egressEnd_ports (s : State) (x q o : Nat) : (egressEnd s x q o).ports = s.ports := by
  unfold egressEnd
  dsimp only
  split <;> simp

@[simp] theorem egressEnd_port (s : State) (x q o : Nat) (prt : Nat) : (egressEnd s x q o).port prt = s.port prt := by
  simp [State.port]

@[simp] theorem egressEnd_ups (s : State) (x q o : Nat) : (egressEnd s x q o).ups = s.ups := by
  unfold egressEnd
  dsimp only
  split <;> simp

@[simp] theorem egressEnd_up (s : State) (x q o : Nat) (hst : Nat) : (egressEnd s x q o).up hst = s.up hst := by
  simp [State.up]

@[simp] theorem abortWrite_ports (s : State) (q : Nat) : (abortWrite s q).ports = s.ports := by
  unfold abortWrite
  split <;> simp

@[simp] theorem abortWrite_port (s : State) (q : Nat) (prt : Nat) : (abortWrite s q).port prt = s.port prt := by
  simp [State.port]

@[simp] theorem abortWrite_ups (s : State) (q : Nat) : (abortWrite s q).ups = s.ups := by
  unfold abortWrite
  split <;> simp

@[simp] theorem abortWrite_up (s : State) (q : Nat) (hst : Nat) : (abortWrite s q).up hst = s.up hst := by
  simp [State.up]

@[simp] theorem wrFlush_ports (s : State) (q : Nat) : (wrFlush s q).ports = s.ports := by
  unfold wrFlush
  simp

@[simp] theorem wrFlush_port (s : State) (q : Nat) (prt : Nat) : (wrFlush s q).port prt = s.port prt := by
  simp [State.port]

@[simp] theorem wrFlush_ups (s : State) (q : Nat) : (wrFlush s q).ups = s.ups := by
  unfold wrFlush
  simp

@[simp] theorem wrFlush_up (s : State) (q : Nat) (hst : Nat) : (wrFlush s q).up hst = s.up hst := by
  simp [State.up]

@[simp] theorem forgive_flds (s : State) (x : Nat) : (forgive s x).flds = s.flds := by
  unfold forgive
  simp

@[simp] theorem forgive_get (s : State) (x : Nat) (fld : Fld) : (forgive s x).get fld = s.get fld := by
  simp [State.get]

@[simp] theorem forgive_cnts (s : State) (x : Nat) : (forgive s x).cnts = s.cnts := by
  unfold forgive
  simp

@[simp] theorem forgive_cnt (s : State) (x : Nat) (adr : Nat) : (forgive s x).cnt adr = s.cnt adr := by
  simp [State.cnt]

@[simp] theorem forgive_ports (s : State) (x : Nat) : (forgive s x).ports = s.ports := by
  unfold forgive
  simp

@[simp] theorem forgive_port (s : State) (x : Nat) (prt : Nat) : (forgive s x).port prt = s.port prt := by
  simp [State.port]

@[simp] theorem forgive_ups (s : State) (x : Nat) : (forgive s x).ups = s.ups := by
  unfold forgive
  simp

@[simp] theorem forgive_up (s : State) (x : Nat) (hst : Nat) : (forgive s x).up hst = s.up hst := by
  simp [State.up]

end State

end Sys2Proof.Machine
end

