-- ==== Sys2Proof/Laws/FramesLinkPower.lean ====
section
/-!
SUPPORT. What the operations of LinkPower.lean leave unchanged: register fields, counters, ports and upstream ports.
-/

namespace Sys2Proof.Machine

namespace State

@[simp] theorem collide_ports (s : State) (u n : Nat) : (collide s u n).ports = s.ports := by
  unfold collide
  split <;> simp

@[simp] theorem collide_port (s : State) (u n : Nat) (prt : Nat) : (collide s u n).port prt = s.port prt := by
  simp [State.port]

@[simp] theorem collide_ups (s : State) (u n : Nat) : (collide s u n).ups = s.ups := by
  unfold collide
  split <;> simp

@[simp] theorem collide_up (s : State) (u n : Nat) (hst : Nat) : (collide s u n).up hst = s.up hst := by
  simp [State.up]

@[simp] theorem treeWake_cnts (s : State) (n : Nat) : (treeWake s n).cnts = s.cnts := by
  unfold treeWake
  simp

@[simp] theorem treeWake_cnt (s : State) (n : Nat) (adr : Nat) : (treeWake s n).cnt adr = s.cnt adr := by
  simp [State.cnt]

@[simp] theorem treeWake_ups (s : State) (n : Nat) : (treeWake s n).ups = s.ups := by
  unfold treeWake
  simp

@[simp] theorem treeWake_up (s : State) (n : Nat) (hst : Nat) : (treeWake s n).up hst = s.up hst := by
  simp [State.up]

@[simp] theorem l1Done_cnts (s : State) (n code : Nat) : (l1Done s n code).cnts = s.cnts := by
  unfold l1Done
  dsimp only
  repeat' split
  all_goals simp

@[simp] theorem l1Done_cnt (s : State) (n code : Nat) (adr : Nat) : (l1Done s n code).cnt adr = s.cnt adr := by
  simp [State.cnt]

@[simp] theorem l1Done_ups (s : State) (n code : Nat) : (l1Done s n code).ups = s.ups := by
  unfold l1Done
  dsimp only
  repeat' split
  all_goals simp

@[simp] theorem l1Done_up (s : State) (n code : Nat) (hst : Nat) : (l1Done s n code).up hst = s.up hst := by
  simp [State.up]

@[simp] theorem upInitiate_ports (s : State) (u : Nat) (en : Bool) (ls : Nat) (sig : SsSig) : (upInitiate s u en ls sig).ports = s.ports := by
  unfold upInitiate
  simp

@[simp] theorem upInitiate_port (s : State) (u : Nat) (en : Bool) (ls : Nat) (sig : SsSig) (prt : Nat) : (upInitiate s u en ls sig).port prt = s.port prt := by
  simp [State.port]

@[simp] theorem upInitiate_ups (s : State) (u : Nat) (en : Bool) (ls : Nat) (sig : SsSig) : (upInitiate s u en ls sig).ups = s.ups := by
  unfold upInitiate
  simp

@[simp] theorem upInitiate_up (s : State) (u : Nat) (en : Bool) (ls : Nat) (sig : SsSig) (hst : Nat) : (upInitiate s u en ls sig).up hst = s.up hst := by
  simp [State.up]

@[simp] theorem sendU3_ups (s : State) (n : Nat) : (sendU3 s n).ups = s.ups := by
  unfold sendU3
  simp

@[simp] theorem sendU3_up (s : State) (n : Nat) (hst : Nat) : (sendU3 s n).up hst = s.up hst := by
  simp [State.up]

end State

end Sys2Proof.Machine
end

