-- ==== Sys2Proof/Laws/FramesBridge.lean ====
section
/-!
SUPPORT. What the operations of Bridge.lean leave unchanged: register fields, counters, ports and upstream ports.
-/

namespace Sys2Proof.Machine

namespace State

end State

end Sys2Proof.Machine
end

