-- ==== Sys2Proof/Laws/FramesPd.lean ====
section
/-!
SUPPORT. What the operations of Pd.lean leave unchanged: register fields, counters, ports and upstream ports.
-/

namespace Sys2Proof.Machine

namespace State

@[simp] theorem setTxEntry_cnts (s : State) (k : Nat) (l : List Nat) : (setTxEntry s k l).cnts = s.cnts := by
  unfold setTxEntry
  simp

@[simp] theorem setTxEntry_cnt (s : State) (k : Nat) (l : List Nat) (adr : Nat) : (setTxEntry s k l).cnt adr = s.cnt adr := by
  simp [State.cnt]

@[simp] theorem setTxEntry_ports (s : State) (k : Nat) (l : List Nat) : (setTxEntry s k l).ports = s.ports := by
  unfold setTxEntry
  simp

@[simp] theorem setTxEntry_port (s : State) (k : Nat) (l : List Nat) (prt : Nat) : (setTxEntry s k l).port prt = s.port prt := by
  simp [State.port]

@[simp] theorem setTxEntry_ups (s : State) (k : Nat) (l : List Nat) : (setTxEntry s k l).ups = s.ups := by
  unfold setTxEntry
  simp

@[simp] theorem setTxEntry_up (s : State) (k : Nat) (l : List Nat) (hst : Nat) : (setTxEntry s k l).up hst = s.up hst := by
  simp [State.up]

@[simp] theorem pdNote_flds (s : State) (k : Nat) (sent : Bool) (h : Nat) : (pdNote s k sent h).flds = s.flds := by
  unfold pdNote
  simp

@[simp] theorem pdNote_get (s : State) (k : Nat) (sent : Bool) (h : Nat) (fld : Fld) : (pdNote s k sent h).get fld = s.get fld := by
  simp [State.get]

@[simp] theorem pdNote_cnts (s : State) (k : Nat) (sent : Bool) (h : Nat) : (pdNote s k sent h).cnts = s.cnts := by
  unfold pdNote
  simp

@[simp] theorem pdNote_cnt (s : State) (k : Nat) (sent : Bool) (h : Nat) (adr : Nat) : (pdNote s k sent h).cnt adr = s.cnt adr := by
  simp [State.cnt]

@[simp] theorem pdNote_ports (s : State) (k : Nat) (sent : Bool) (h : Nat) : (pdNote s k sent h).ports = s.ports := by
  unfold pdNote
  simp

@[simp] theorem pdNote_port (s : State) (k : Nat) (sent : Bool) (h : Nat) (prt : Nat) : (pdNote s k sent h).port prt = s.port prt := by
  simp [State.port]

@[simp] theorem pdNote_ups (s : State) (k : Nat) (sent : Bool) (h : Nat) : (pdNote s k sent h).ups = s.ups := by
  unfold pdNote
  simp

@[simp] theorem pdNote_up (s : State) (k : Nat) (sent : Bool) (h : Nat) (hst : Nat) : (pdNote s k sent h).up hst = s.up hst := by
  simp [State.up]

@[simp] theorem pdRefuse_ports (s : State) (k : Nat) (r : RC) : (pdRefuse s k r).ports = s.ports := by
  unfold pdRefuse
  simp

@[simp] theorem pdRefuse_port (s : State) (k : Nat) (r : RC) (prt : Nat) : (pdRefuse s k r).port prt = s.port prt := by
  simp [State.port]

@[simp] theorem pdRefuse_ups (s : State) (k : Nat) (r : RC) : (pdRefuse s k r).ups = s.ups := by
  unfold pdRefuse
  simp

@[simp] theorem pdRefuse_up (s : State) (k : Nat) (r : RC) (hst : Nat) : (pdRefuse s k r).up hst = s.up hst := by
  simp [State.up]

@[simp] theorem pdDone_cnts (s : State) (k : Nat) : (pdDone s k).cnts = s.cnts := by
  unfold pdDone
  simp

@[simp] theorem pdDone_cnt (s : State) (k : Nat) (adr : Nat) : (pdDone s k).cnt adr = s.cnt adr := by
  simp [State.cnt]

@[simp] theorem pdDone_ports (s : State) (k : Nat) : (pdDone s k).ports = s.ports := by
  unfold pdDone
  simp

@[simp] theorem pdDone_port (s : State) (k : Nat) (prt : Nat) : (pdDone s k).port prt = s.port prt := by
  simp [State.port]

@[simp] theorem pdDone_ups (s : State) (k : Nat) : (pdDone s k).ups = s.ups := by
  unfold pdDone
  simp

@[simp] theorem pdDone_up (s : State) (k : Nat) (hst : Nat) : (pdDone s k).up hst = s.up hst := by
  simp [State.up]

@[simp] theorem sinkTxRefresh_ports (s : State) (k : Nat) : (sinkTxRefresh s k).ports = s.ports := by
  unfold sinkTxRefresh
  simp

@[simp] theorem sinkTxRefresh_port (s : State) (k : Nat) (prt : Nat) : (sinkTxRefresh s k).port prt = s.port prt := by
  unfold sinkTxRefresh
  simp

@[simp] theorem sinkTxRefresh_ups (s : State) (k : Nat) : (sinkTxRefresh s k).ups = s.ups := by
  unfold sinkTxRefresh
  simp

@[simp] theorem sinkTxRefresh_up (s : State) (k : Nat) (hst : Nat) : (sinkTxRefresh s k).up hst = s.up hst := by
  unfold sinkTxRefresh
  simp

@[simp] theorem txComplete_ports (s : State) (k st : Nat) : (txComplete s k st).ports = s.ports := by
  unfold txComplete
  simp

@[simp] theorem txComplete_port (s : State) (k st : Nat) (prt : Nat) : (txComplete s k st).port prt = s.port prt := by
  simp [State.port]

@[simp] theorem txComplete_ups (s : State) (k st : Nat) : (txComplete s k st).ups = s.ups := by
  unfold txComplete
  simp

@[simp] theorem txComplete_up (s : State) (k st : Nat) (hst : Nat) : (txComplete s k st).up hst = s.up hst := by
  simp [State.up]

@[simp] theorem txAbandon_ports (s : State) (k : Nat) : (txAbandon s k).ports = s.ports := by
  unfold txAbandon
  split <;> simp

@[simp] theorem txAbandon_port (s : State) (k : Nat) (prt : Nat) : (txAbandon s k).port prt = s.port prt := by
  simp [State.port]

@[simp] theorem txAbandon_ups (s : State) (k : Nat) : (txAbandon s k).ups = s.ups := by
  unfold txAbandon
  split <;> simp

@[simp] theorem txAbandon_up (s : State) (k : Nat) (hst : Nat) : (txAbandon s k).up hst = s.up hst := by
  simp [State.up]

@[simp] theorem txDiscard_ports (s : State) (k : Nat) : (txDiscard s k).ports = s.ports := by
  unfold txDiscard
  split <;> simp

@[simp] theorem txDiscard_port (s : State) (k : Nat) (prt : Nat) : (txDiscard s k).port prt = s.port prt := by
  simp [State.port]

@[simp] theorem txDiscard_ups (s : State) (k : Nat) : (txDiscard s k).ups = s.ups := by
  unfold txDiscard
  split <;> simp

@[simp] theorem txDiscard_up (s : State) (k : Nat) (hst : Nat) : (txDiscard s k).up hst = s.up hst := by
  simp [State.up]

@[simp] theorem rxPop_ports (s : State) (k : Nat) : (rxPop s k).ports = s.ports := by
  unfold rxPop
  dsimp only
  repeat' split
  all_goals simp

@[simp] theorem rxPop_port (s : State) (k : Nat) (prt : Nat) : (rxPop s k).port prt = s.port prt := by
  simp [State.port]

@[simp] theorem rxPop_ups (s : State) (k : Nat) : (rxPop s k).ups = s.ups := by
  unfold rxPop
  dsimp only
  repeat' split
  all_goals simp

@[simp] theorem rxPop_up (s : State) (k : Nat) (hst : Nat) : (rxPop s k).up hst = s.up hst := by
  simp [State.up]

@[simp] theorem wrPdNext_flds (s : State) (k v : Nat) : (wrPdNext s k v).flds = s.flds := by
  unfold wrPdNext
  simp

@[simp] theorem wrPdNext_get (s : State) (k v : Nat) (fld : Fld) : (wrPdNext s k v).get fld = s.get fld := by
  simp [State.get]

@[simp] theorem wrPdNext_ports (s : State) (k v : Nat) : (wrPdNext s k v).ports = s.ports := by
  unfold wrPdNext
  simp

@[simp] theorem wrPdNext_port (s : State) (k v : Nat) (prt : Nat) : (wrPdNext s k v).port prt = s.port prt := by
  simp [State.port]

@[simp] theorem wrPdNext_ups (s : State) (k v : Nat) : (wrPdNext s k v).ups = s.ups := by
  unfold wrPdNext
  simp

@[simp] theorem wrPdNext_up (s : State) (k v : Nat) (hst : Nat) : (wrPdNext s k v).up hst = s.up hst := by
  simp [State.up]

@[simp] theorem transDone_ports (s : State) (k : Nat) : (transDone s k).ports = s.ports := by
  unfold transDone
  simp

@[simp] theorem transDone_port (s : State) (k : Nat) (prt : Nat) : (transDone s k).port prt = s.port prt := by
  simp [State.port]

@[simp] theorem transDone_ups (s : State) (k : Nat) : (transDone s k).ups = s.ups := by
  unfold transDone
  simp

@[simp] theorem transDone_up (s : State) (k : Nat) (hst : Nat) : (transDone s k).up hst = s.up hst := by
  simp [State.up]

@[simp] theorem transStart_ports (s : State) (k pos : Nat) : (transStart s k pos).ports = s.ports := by
  unfold transStart
  simp

@[simp] theorem transStart_port (s : State) (k pos : Nat) (prt : Nat) : (transStart s k pos).port prt = s.port prt := by
  simp [State.port]

@[simp] theorem transStart_ups (s : State) (k pos : Nat) : (transStart s k pos).ups = s.ups := by
  unfold transStart
  simp

@[simp] theorem transStart_up (s : State) (k pos : Nat) (hst : Nat) : (transStart s k pos).up hst = s.up hst := by
  simp [State.up]

@[simp] theorem txGo_ports (s : State) (k : Nat) : (txGo s k).1.ports = s.ports := by
  unfold txGo
  dsimp only
  repeat' split
  all_goals simp

@[simp] theorem txGo_port (s : State) (k : Nat) (prt : Nat) : (txGo s k).1.port prt = s.port prt := by
  simp [State.port]

@[simp] theorem txGo_ups (s : State) (k : Nat) : (txGo s k).1.ups = s.ups := by
  unfold txGo
  dsimp only
  repeat' split
  all_goals simp

@[simp] theorem txGo_up (s : State) (k : Nat) (hst : Nat) : (txGo s k).1.up hst = s.up hst := by
  simp [State.up]

@[simp] theorem cableEffect_cnts (s : State) (k w1 cable : Nat) : (cableEffect s k w1 cable).cnts = s.cnts := by
  unfold cableEffect
  simp

@[simp] theorem cableEffect_cnt (s : State) (k w1 cable : Nat) (adr : Nat) : (cableEffect s k w1 cable).cnt adr = s.cnt adr := by
  simp [State.cnt]

@[simp] theorem cableEffect_ports (s : State) (k w1 cable : Nat) : (cableEffect s k w1 cable).ports = s.ports := by
  unfold cableEffect
  simp

@[simp] theorem cableEffect_port (s : State) (k w1 cable : Nat) (prt : Nat) : (cableEffect s k w1 cable).port prt = s.port prt := by
  simp [State.port]

@[simp] theorem cableEffect_ups (s : State) (k w1 cable : Nat) : (cableEffect s k w1 cable).ups = s.ups := by
  unfold cableEffect
  simp

@[simp] theorem cableEffect_up (s : State) (k w1 cable : Nat) (hst : Nat) : (cableEffect s k w1 cable).up hst = s.up hst := by
  simp [State.up]

@[simp] theorem pdTxGo_ports (s : State) (k : Nat) : (pdTxGo s k).ports = s.ports := by
  unfold pdTxGo
  simp

@[simp] theorem pdTxGo_port (s : State) (k : Nat) (prt : Nat) : (pdTxGo s k).port prt = s.port prt := by
  simp [State.port]

@[simp] theorem pdTxGo_ups (s : State) (k : Nat) : (pdTxGo s k).ups = s.ups := by
  unfold pdTxGo
  simp

@[simp] theorem pdTxGo_up (s : State) (k : Nat) (hst : Nat) : (pdTxGo s k).up hst = s.up hst := by
  simp [State.up]

@[simp] theorem pdRxPop_ports (s : State) (k : Nat) : (pdRxPop s k).ports = s.ports := by
  unfold pdRxPop
  simp

@[simp] theorem pdRxPop_port (s : State) (k : Nat) (prt : Nat) : (pdRxPop s k).port prt = s.port prt := by
  simp [State.port]

@[simp] theorem pdRxPop_ups (s : State) (k : Nat) : (pdRxPop s k).ups = s.ups := by
  unfold pdRxPop
  simp

@[simp] theorem pdRxPop_up (s : State) (k : Nat) (hst : Nat) : (pdRxPop s k).up hst = s.up hst := by
  simp [State.up]

@[simp] theorem pdCableReset_ports (s : State) (k : Nat) : (pdCableReset s k).ports = s.ports := by
  unfold pdCableReset
  simp

@[simp] theorem pdCableReset_port (s : State) (k : Nat) (prt : Nat) : (pdCableReset s k).port prt = s.port prt := by
  simp [State.port]

@[simp] theorem pdCableReset_ups (s : State) (k : Nat) : (pdCableReset s k).ups = s.ups := by
  unfold pdCableReset
  simp

@[simp] theorem pdCableReset_up (s : State) (k : Nat) (hst : Nat) : (pdCableReset s k).up hst = s.up hst := by
  simp [State.up]

end State

end Sys2Proof.Machine
end

