-- ==== Sys2Proof/Laws/FramesTypeC.lean ====
section
/-!
SUPPORT. What the operations of TypeC.lean leave unchanged: register fields, counters, ports and upstream ports.
-/

namespace Sys2Proof.Machine

namespace State

@[simp] theorem setTc_ports (s : State) (n v : Nat) : (setTc s n v).ports = s.ports := by
  unfold setTc
  simp

@[simp] theorem setTc_port (s : State) (n v : Nat) (prt : Nat) : (setTc s n v).port prt = s.port prt := by
  simp [State.port]

@[simp] theorem setTc_ups (s : State) (n v : Nat) : (setTc s n v).ups = s.ups := by
  unfold setTc
  simp

@[simp] theorem setTc_up (s : State) (n v : Nat) (hst : Nat) : (setTc s n v).up hst = s.up hst := by
  simp [State.up]

@[simp] theorem steamEnd_cnts (s : State) (n : Nat) : (steamEnd s n).cnts = s.cnts := by
  unfold steamEnd
  simp

@[simp] theorem steamEnd_cnt (s : State) (n : Nat) (adr : Nat) : (steamEnd s n).cnt adr = s.cnt adr := by
  simp [State.cnt]

@[simp] theorem steamEnd_ups (s : State) (n : Nat) : (steamEnd s n).ups = s.ups := by
  unfold steamEnd
  simp

@[simp] theorem steamEnd_up (s : State) (n : Nat) (hst : Nat) : (steamEnd s n).up hst = s.up hst := by
  simp [State.up]

end State

end Sys2Proof.Machine
end

