-- ==== Sys2Proof/Laws/FramesClock.lean ====
section
/-!
SUPPORT. What the operations of Clock.lean leave unchanged: register fields, counters, ports and upstream ports.
-/

namespace Sys2Proof.Machine

namespace State

@[simp] theorem presentOwn_flds (s : State) (u l : Nat) (here : Bool) : (presentOwn s u l here).flds = s.flds := by
  unfold presentOwn
  simp

@[simp] theorem presentOwn_get (s : State) (u l : Nat) (here : Bool) (fld : Fld) : (presentOwn s u l here).get fld = s.get fld := by
  simp [State.get]

@[simp] theorem presentOwn_cnts (s : State) (u l : Nat) (here : Bool) : (presentOwn s u l here).cnts = s.cnts := by
  unfold presentOwn
  simp

@[simp] theorem presentOwn_cnt (s : State) (u l : Nat) (here : Bool) (adr : Nat) : (presentOwn s u l here).cnt adr = s.cnt adr := by
  simp [State.cnt]

@[simp] theorem presentOwn_ports (s : State) (u l : Nat) (here : Bool) : (presentOwn s u l here).ports = s.ports := by
  unfold presentOwn
  simp

@[simp] theorem presentOwn_port (s : State) (u l : Nat) (here : Bool) (prt : Nat) : (presentOwn s u l here).port prt = s.port prt := by
  simp [State.port]

@[simp] theorem applyGroups_cnts (s : State) (here : Grp → Bool) : (applyGroups s here).cnts = s.cnts := by
  unfold applyGroups
  simp

@[simp] theorem applyGroups_cnt (s : State) (here : Grp → Bool) (adr : Nat) : (applyGroups s here).cnt adr = s.cnt adr := by
  simp [State.cnt]

@[simp] theorem applyGroups_ports (s : State) (here : Grp → Bool) : (applyGroups s here).ports = s.ports := by
  unfold applyGroups
  simp

@[simp] theorem applyGroups_port (s : State) (here : Grp → Bool) (prt : Nat) : (applyGroups s here).port prt = s.port prt := by
  simp [State.port]

@[simp] theorem applyGroups_ups (s : State) (here : Grp → Bool) : (applyGroups s here).ups = s.ups := by
  unfold applyGroups
  simp

@[simp] theorem applyGroups_up (s : State) (here : Grp → Bool) (hst : Nat) : (applyGroups s here).up hst = s.up hst := by
  simp [State.up]

@[simp] theorem applySlots_flds (s : State) (u : Nat) : (applySlots s u).flds = s.flds := by
  unfold applySlots
  simp

@[simp] theorem applySlots_get (s : State) (u : Nat) (fld : Fld) : (applySlots s u).get fld = s.get fld := by
  simp [State.get]

@[simp] theorem applySlots_cnts (s : State) (u : Nat) : (applySlots s u).cnts = s.cnts := by
  unfold applySlots
  simp

@[simp] theorem applySlots_cnt (s : State) (u : Nat) (adr : Nat) : (applySlots s u).cnt adr = s.cnt adr := by
  simp [State.cnt]

@[simp] theorem applySlots_ports (s : State) (u : Nat) : (applySlots s u).ports = s.ports := by
  unfold applySlots
  simp

@[simp] theorem applySlots_port (s : State) (u : Nat) (prt : Nat) : (applySlots s u).port prt = s.port prt := by
  simp [State.port]

@[simp] theorem applySlots_ups (s : State) (u : Nat) : (applySlots s u).ups = s.ups := by
  unfold applySlots
  simp

@[simp] theorem applySlots_up (s : State) (u : Nat) (hst : Nat) : (applySlots s u).up hst = s.up hst := by
  simp [State.up]

@[simp] theorem mfStep_flds (s : State) (u : Nat) : (mfStep s u).flds = s.flds := by
  unfold mfStep
  simp

@[simp] theorem mfStep_get (s : State) (u : Nat) (fld : Fld) : (mfStep s u).get fld = s.get fld := by
  simp [State.get]

@[simp] theorem mfStep_cnts (s : State) (u : Nat) : (mfStep s u).cnts = s.cnts := by
  unfold mfStep
  simp

@[simp] theorem mfStep_cnt (s : State) (u : Nat) (adr : Nat) : (mfStep s u).cnt adr = s.cnt adr := by
  simp [State.cnt]

@[simp] theorem mfStep_ports (s : State) (u : Nat) : (mfStep s u).ports = s.ports := by
  unfold mfStep
  simp

@[simp] theorem mfStep_port (s : State) (u : Nat) (prt : Nat) : (mfStep s u).port prt = s.port prt := by
  simp [State.port]

@[simp] theorem levelsTick_flds (s : State) : (levelsTick s).flds = s.flds := by
  unfold levelsTick
  simp

@[simp] theorem levelsTick_get (s : State) (fld : Fld) : (levelsTick s).get fld = s.get fld := by
  simp [State.get]

@[simp] theorem levelsTick_cnts (s : State) : (levelsTick s).cnts = s.cnts := by
  unfold levelsTick
  simp

@[simp] theorem levelsTick_cnt (s : State) (adr : Nat) : (levelsTick s).cnt adr = s.cnt adr := by
  simp [State.cnt]

@[simp] theorem levelsTick_ports (s : State) : (levelsTick s).ports = s.ports := by
  unfold levelsTick
  simp

@[simp] theorem levelsTick_port (s : State) (prt : Nat) : (levelsTick s).port prt = s.port prt := by
  simp [State.port]

@[simp] theorem levelsTick_ups (s : State) : (levelsTick s).ups = s.ups := by
  unfold levelsTick
  simp

@[simp] theorem levelsTick_up (s : State) (hst : Nat) : (levelsTick s).up hst = s.up hst := by
  simp [State.up]

end State

end Sys2Proof.Machine
end

