-- ==== Sys2Proof/Laws/Effects.lean ====
section
/-!
SUPPORT. What the shared operations make of the fields they write, and what of the others: one pair of lemmas each.
-/

namespace Sys2Proof.Machine

namespace State

variable (s : State)

theorem alive_of_dataOn {s : State} (h : s.dataOn = true) : s.alive = true := by
  unfold dataOn at h; unfold alive; split at h <;> simp_all

theorem alive_of_hostSide {s : State} {u : Nat} (h : s.hostSide u = true) : s.alive = true := by
  unfold hostSide at h; exact alive_of_dataOn (by simp_all)

theorem alive_of_portSide {s : State} {n : Nat} (h : s.portSide n = true) : s.alive = true := by
  unfold portSide at h; exact alive_of_dataOn (by simp_all)

theorem atU_hostSide {s : State} {u : Nat} (f : State → State) (h : s.hostSide u = true) : s.atU u f = f s := by
  unfold hostSide at h; simp [atU, h]

theorem atD_portSide {s : State} {n : Nat} (f : State → State) (h : s.portSide n = true) : s.atD n f = f s := by
  unfold portSide at h; simp [atD, h]

theorem hostReq_port {s : State} {u h l n : Nat} (r : Req) (hs : s.hostSide u = true) (hc : s.carrier u h l r.ss = some (.port n)) :
    s.hostReq u h l r = s.portReq n r := by
  unfold hostSide at hs; simp [hostReq, hs, hc]

theorem hostReqAck_port {s : State} {u h l n : Nat} (r : Req) (hs : s.hostSide u = true) (hc : s.carrier u h l r.ss = some (.port n)) :
    s.hostReqAck u h l r = (s.portReq n r).emit (.ctl u true []) := by
  simp [hostReqAck, hostReq_port r hs hc, hc]

theorem on_true {f : Fld} (h : s.get f ≠ 0) : s.on f = true := by simp [on, h]

theorem on_false {f : Fld} (h : s.get f = 0) : s.on f = false := by simp [on, h]

@[simp] theorem setPort_get_same (k : Nat) (f : Fld) (v : Nat) : (s.setPort k f v).get f = v % 2 ^ f.wid := by
  unfold setPort
  split
  · assumption
  · simp

theorem setPort_get_other (k : Nat) (f g : Fld) (v : Nat) (h : g.key ≠ f.key) : (s.setPort k f v).get g = s.get g := by
  unfold setPort
  split
  · rfl
  · simp [get_set_other, h]

theorem refreshCause_get (n : Nat) (g : Fld) (h : g.key ≠ (P_PORTST.CAUSE n).key) : (s.refreshCause n).get g = s.get g := by
  unfold refreshCause
  split
  · exact get_set_other _ _ _ _ h
  · rfl

@[simp] theorem setPs_get_state (n v : Nat) : (s.setPs n v).get (P_PORTST.STATE n) = v % 16 := by
  have h : (P_PORTST.STATE n).key ≠ (P_PORTST.CAUSE n).key := by dsimp only [Fld.key]; omega
  unfold setPs
  dsimp only
  split
  · rw [refreshCause_get _ _ _ h]; simp
  · split
    · simp
    · rw [get_set_other _ _ _ _ h]; simp

theorem setPs_get_other (n v : Nat) (g : Fld) (h1 : g.key ≠ (P_PORTST.STATE n).key) (h2 : g.key ≠ (P_PORTST.CAUSE n).key) :
    (s.setPs n v).get g = s.get g := by
  unfold setPs
  dsimp only
  split
  · rw [refreshCause_get _ _ _ h2, setPort_get_other _ _ _ _ _ h1]
  · split
    · rw [setPort_get_other _ _ _ _ _ h1]
    · rw [get_set_other _ _ _ _ h2, setPort_get_other _ _ _ _ _ h1]

@[simp] theorem setSs_get_ls (n v : Nat) : (s.setSs n v).get (P_LPST.SS_LS n) = v % 16 := by
  have h1 : (P_LPST.SS_LS n).key ≠ G_U0_ADMIT.COUNT.key := by dsimp only [Fld.key]; omega
  have h2 : (P_LPST.SS_LS n).key ≠ (P_LPST.ADMIT n).key := by dsimp only [Fld.key]; omega
  have h3 : (P_LPST.SS_LS n).key ≠ G_U0_ADMIT.OVER.key := by dsimp only [Fld.key]; omega
  unfold setSs
  dsimp only
  split <;> simp [get_set_other, h1, h3]

theorem setSs_get_other (n v : Nat) (g : Fld) (h1 : g.key ≠ (P_LPST.SS_LS n).key) (h2 : g.key ≠ (P_LPST.ADMIT n).key)
    (h3 : g.key ≠ G_U0_ADMIT.COUNT.key) (h4 : g.key ≠ G_U0_ADMIT.OVER.key) : (s.setSs n v).get g = s.get g := by
  unfold setSs
  dsimp only
  split <;> simp [get_set_other, setPort_get_other, h1, h2, h3, h4]

@[simp] theorem stallClear_get_stall (n : Nat) : (s.stallClear n).get (P_PORTST.ENUM_STALL n) = 0 := by
  unfold stallClear; simp

theorem stallClear_get_other (n : Nat) (g : Fld) (h : g.key ≠ (P_PORTST.ENUM_STALL n).key) : (s.stallClear n).get g = s.get g := by
  unfold stallClear; simp [setPort_get_other, h]

theorem sleepRefresh_get (u : Nat) (g : Fld) (h : g.key ≠ (U_LPST.ASLEEP u).key) : (s.sleepRefresh u).get g = s.get g := by
  unfold sleepRefresh
  dsimp only
  split <;> simp [get_set_other, h]

@[simp] theorem post_engs (t e : Nat) : (s.post t e).engs = s.engs := by
  unfold post; repeat' split
  all_goals simp
@[simp] theorem postRouted_engs (e : Nat) : (s.postRouted e).engs = s.engs := by unfold postRouted; split <;> simp
@[simp] theorem postPort_engs (k : Nat) : (s.postPort k).engs = s.engs := by simp [postPort]
@[simp] theorem postPd_engs (k : Nat) : (s.postPd k).engs = s.engs := by simp [postPd]
@[simp] theorem kRoute_engs (f : KFrame) : (s.kRoute f).engs = s.engs := by
  unfold kRoute kSend kTransmit; repeat' split
  all_goals simp
@[simp] theorem portStatus_engs (n : Nat) : (s.portStatus n).engs = s.engs := by unfold portStatus portOp; split <;> simp
@[simp] theorem setPort_engs (k : Nat) (f : Fld) (v : Nat) : (s.setPort k f v).engs = s.engs := by
  unfold setPort; split
  · rfl
  · simp
@[simp] theorem postPd_eng (k x : Nat) : (s.postPd k).eng x = s.eng x := by simp [eng]
@[simp] theorem setPort_eng (k : Nat) (f : Fld) (v x : Nat) : (s.setPort k f v).eng x = s.eng x := by simp [eng]
@[simp] theorem post_paths (t e : Nat) : (s.post t e).paths = s.paths := by
  unfold post; repeat' split
  all_goals simp
@[simp] theorem postRouted_paths (e : Nat) : (s.postRouted e).paths = s.paths := by unfold postRouted; split <;> simp
@[simp] theorem postPort_paths (k : Nat) : (s.postPort k).paths = s.paths := by simp [postPort]
@[simp] theorem postPd_paths (k : Nat) : (s.postPd k).paths = s.paths := by simp [postPd]
@[simp] theorem kRoute_paths (f : KFrame) : (s.kRoute f).paths = s.paths := by
  unfold kRoute kSend kTransmit; repeat' split
  all_goals simp
@[simp] theorem portStatus_paths (n : Nat) : (s.portStatus n).paths = s.paths := by unfold portStatus portOp; split <;> simp
@[simp] theorem setPort_paths (k : Nat) (f : Fld) (v : Nat) : (s.setPort k f v).paths = s.paths := by
  unfold setPort; split
  · rfl
  · simp
@[simp] theorem postPd_path (k x : Nat) : (s.postPd k).path x = s.path x := by simp [path]
@[simp] theorem setPort_path (k : Nat) (f : Fld) (v x : Nat) : (s.setPort k f v).path x = s.path x := by simp [path]
@[simp] theorem post_chans (t e : Nat) : (s.post t e).chans = s.chans := by
  unfold post; repeat' split
  all_goals simp
@[simp] theorem postRouted_chans (e : Nat) : (s.postRouted e).chans = s.chans := by unfold postRouted; split <;> simp
@[simp] theorem postPort_chans (k : Nat) : (s.postPort k).chans = s.chans := by simp [postPort]
@[simp] theorem postPd_chans (k : Nat) : (s.postPd k).chans = s.chans := by simp [postPd]
@[simp] theorem kRoute_chans (f : KFrame) : (s.kRoute f).chans = s.chans := by
  unfold kRoute kSend kTransmit; repeat' split
  all_goals simp
@[simp] theorem portStatus_chans (n : Nat) : (s.portStatus n).chans = s.chans := by unfold portStatus portOp; split <;> simp
@[simp] theorem setPort_chans (k : Nat) (f : Fld) (v : Nat) : (s.setPort k f v).chans = s.chans := by
  unfold setPort; split
  · rfl
  · simp
@[simp] theorem postPd_chan (k x : Nat) : (s.postPd k).chan x = s.chan x := by simp [chan]
@[simp] theorem setPort_chan (k : Nat) (f : Fld) (v x : Nat) : (s.setPort k f v).chan x = s.chan x := by simp [chan]
@[simp] theorem post_queues (t e : Nat) : (s.post t e).queues = s.queues := by
  unfold post; repeat' split
  all_goals simp
@[simp] theorem postRouted_queues (e : Nat) : (s.postRouted e).queues = s.queues := by unfold postRouted; split <;> simp
@[simp] theorem postPort_queues (k : Nat) : (s.postPort k).queues = s.queues := by simp [postPort]
@[simp] theorem postPd_queues (k : Nat) : (s.postPd k).queues = s.queues := by simp [postPd]
@[simp] theorem kRoute_queues (f : KFrame) : (s.kRoute f).queues = s.queues := by
  unfold kRoute kSend kTransmit; repeat' split
  all_goals simp
@[simp] theorem portStatus_queues (n : Nat) : (s.portStatus n).queues = s.queues := by unfold portStatus portOp; split <;> simp
@[simp] theorem setPort_queues (k : Nat) (f : Fld) (v : Nat) : (s.setPort k f v).queues = s.queues := by
  unfold setPort; split
  · rfl
  · simp
@[simp] theorem postPd_queue (k x : Nat) : (s.postPd k).queue x = s.queue x := by simp [queue]
@[simp] theorem setPort_queue (k : Nat) (f : Fld) (v x : Nat) : (s.setPort k f v).queue x = s.queue x := by simp [queue]
@[simp] theorem post_egresses (t e : Nat) : (s.post t e).egresses = s.egresses := by
  unfold post; repeat' split
  all_goals simp
@[simp] theorem postRouted_egresses (e : Nat) : (s.postRouted e).egresses = s.egresses := by unfold postRouted; split <;> simp
@[simp] theorem postPort_egresses (k : Nat) : (s.postPort k).egresses = s.egresses := by simp [postPort]
@[simp] theorem postPd_egresses (k : Nat) : (s.postPd k).egresses = s.egresses := by simp [postPd]
@[simp] theorem kRoute_egresses (f : KFrame) : (s.kRoute f).egresses = s.egresses := by
  unfold kRoute kSend kTransmit; repeat' split
  all_goals simp
@[simp] theorem portStatus_egresses (n : Nat) : (s.portStatus n).egresses = s.egresses := by unfold portStatus portOp; split <;> simp
@[simp] theorem setPort_egresses (k : Nat) (f : Fld) (v : Nat) : (s.setPort k f v).egresses = s.egresses := by
  unfold setPort; split
  · rfl
  · simp
@[simp] theorem postPd_egress (k x : Nat) : (s.postPd k).egress x = s.egress x := by simp [egress]
@[simp] theorem setPort_egress (k : Nat) (f : Fld) (v x : Nat) : (s.setPort k f v).egress x = s.egress x := by simp [egress]

@[simp] theorem setTc_get_state (n v : Nat) : (s.setTc n v).get (P_TCST.TC_STATE n) = v % 16 := by
  unfold setTc
  rw [refreshCause_get _ _ _ (by dsimp only [Fld.key]; omega)]; simp

theorem setTc_get_other (n v : Nat) (g : Fld) (h1 : g.key ≠ (P_TCST.TC_STATE n).key) (h2 : g.key ≠ (P_PORTST.CAUSE n).key) :
    (s.setTc n v).get g = s.get g := by
  unfold setTc
  rw [refreshCause_get _ _ _ h2, setPort_get_other _ _ _ _ _ h1]

theorem alive_of_linkTakes {s : State} {u seq : Nat} (h : s.linkTakes u seq = true) : s.alive = true := by
  unfold linkTakes at h; simp_all

theorem kAccept_takes {s : State} {u seq : Nat} (vc len : Nat) (f : State → State) (h : s.linkTakes u seq = true) :
    s.kAccept u seq vc len f = f (s.frameIn u seq vc len) := by
  unfold linkTakes at h
  simp only [Bool.and_eq_true, decide_eq_true_eq] at h
  obtain ⟨⟨⟨⟨h1, h2⟩, h3⟩, h4⟩, h5⟩ := h
  have h6 : ¬ (s.klink u).rxCount + 1 = 16 := by omega
  have h7 : s.kOn = true := h3
  unfold kAccept frameIn
  simp only [h2, h7, h4, Bool.and_self, Bool.not_true, Bool.false_eq_true, if_true, if_false, h6]
  rfl

@[simp] theorem frameIn_flds (u seq vc len : Nat) : (s.frameIn u seq vc len).flds = s.flds := by unfold frameIn kOwe; split <;> simp
@[simp] theorem frameIn_cnts (u seq vc len : Nat) : (s.frameIn u seq vc len).cnts = s.cnts := by unfold frameIn kOwe; split <;> simp
@[simp] theorem frameIn_ports (u seq vc len : Nat) : (s.frameIn u seq vc len).ports = s.ports := by unfold frameIn kOwe; split <;> simp
@[simp] theorem frameIn_ups (u seq vc len : Nat) : (s.frameIn u seq vc len).ups = s.ups := by unfold frameIn kOwe; split <;> simp
@[simp] theorem frameIn_kcl (u seq vc len : Nat) : (s.frameIn u seq vc len).kcl = s.kcl := by unfold frameIn kOwe; split <;> simp
@[simp] theorem frameIn_variant (u seq vc len : Nat) : (s.frameIn u seq vc len).variant = s.variant := by unfold frameIn kOwe; split <;> simp
@[simp] theorem frameIn_mode (u seq vc len : Nat) : (s.frameIn u seq vc len).mode = s.mode := by unfold frameIn kOwe; split <;> simp
@[simp] theorem frameIn_get (u seq vc len : Nat) (x : Fld) : (s.frameIn u seq vc len).get x = s.get x := by simp [get]
@[simp] theorem frameIn_cnt (u seq vc len : Nat) (x : Nat) : (s.frameIn u seq vc len).cnt x = s.cnt x := by simp [cnt]
@[simp] theorem frameIn_port (u seq vc len : Nat) (x : Nat) : (s.frameIn u seq vc len).port x = s.port x := by simp [port]
@[simp] theorem frameIn_up (u seq vc len : Nat) (x : Nat) : (s.frameIn u seq vc len).up x = s.up x := by simp [up]

theorem alive_of_fetches {s : State} {t w : Nat} (h : s.fetches t w = true) : s.alive = true := by
  unfold fetches at h; simp_all

theorem issue_fetches {s : State} {t w : Nat} (f : State → State) (h : s.fetches t w = true) : s.issue t w f = f s := by
  unfold fetches at h
  simp only [Bool.and_eq_true, Bool.or_eq_true, decide_eq_true_eq, Bool.not_eq_true'] at h
  obtain ⟨⟨⟨_, h2⟩, h3⟩, h4⟩ := h
  unfold issue
  rcases h4 with ⟨⟨⟨h4, h5⟩, h6⟩, h7⟩ | ⟨⟨⟨⟨h4, h4'⟩, h5⟩, h6⟩, h7⟩
  · simp [h2, h3, regionAt, h4, h5, checked, h6, h7]
  · have h8 : ¬ (s.thread t).pc.toNat + 4 ≤ 0x40000 := by omega
    simp [h2, h3, regionAt, h8, h4, h4', h5, checked, h6, h7]

@[simp] theorem enterMode_mode (m : Mode) : (s.enterMode m).mode = m := rfl
@[simp] theorem setTb_tb (v : Nat) : (s.setTb v).tb = v := rfl
@[simp] theorem setDormant_dormant (b : Bool) : (s.setDormant b).dormant = b := rfl
@[simp] theorem answer_rc (rc : RC) : (s.answer rc).fab.rc = rc := rfl

@[simp] theorem modPort_port_same (n : Nat) (f : Port → Port) : (s.modPort n f).port n = f (s.port n) := by simp [modPort, port]
@[simp] theorem modUp_up_same (u : Nat) (f : Up → Up) : (s.modUp u f).up u = f (s.up u) := by simp [modUp, up]
@[simp] theorem modEng_eng_same (n : Nat) (f : Engine → Engine) : (s.modEng n f).eng n = f (s.eng n) := by simp [modEng, eng]
@[simp] theorem modPath_path_same (n : Nat) (f : Path → Path) : (s.modPath n f).path n = f (s.path n) := by simp [modPath, path]
@[simp] theorem modChan_chan_same (n : Nat) (f : Chan → Chan) : (s.modChan n f).chan n = f (s.chan n) := by simp [modChan, chan]
@[simp] theorem modTt_tt_same (n : Nat) (f : Tt → Tt) : (s.modTt n f).tt n = f (s.tt n) := by simp [modTt, tt]
@[simp] theorem modQueue_queue_same (n : Nat) (f : Queue → Queue) : (s.modQueue n f).queue n = f (s.queue n) := by simp [modQueue, queue]
@[simp] theorem modEgress_egress_same (n : Nat) (f : Egress → Egress) : (s.modEgress n f).egress n = f (s.egress n) := by simp [modEgress, egress]
@[simp] theorem modPol_pol_same (n : Nat) (f : Policer → Policer) : (s.modPol n f).pol n = f (s.pol n) := by simp [modPol, pol]
@[simp] theorem modKlink_klink_same (n : Nat) (f : KLink → KLink) : (s.modKlink n f).klink n = f (s.klink n) := by simp [modKlink, klink]
@[simp] theorem modThread_thread_same (n : Nat) (f : Thread → Thread) : (s.modThread n f).thread n = f (s.thread n) := by simp [modThread, thread]

@[simp] theorem emit_out (o : Out) : (s.emit o).out = o :: s.out := rfl

theorem regionAt_data_le {a w : Nat} (h : regionAt a w = .data) : 0x10000000 ≤ a := by
  unfold regionAt at h; repeat' split at h
  all_goals first | omega | cases h

theorem regionAt_loc_le {a w : Nat} (h : regionAt a w = .loc) : 0x20000000 ≤ a := by
  unfold regionAt at h; repeat' split at h
  all_goals first | omega | cases h

theorem regionAt_rom_le {a w : Nat} (h : regionAt a w = .rom) : 0x40000 ≤ a := by
  unfold regionAt at h; repeat' split at h
  all_goals first | omega | cases h

/-- A data load that completes hands its value on. -/
theorem load_data {t a w : Nat} (k : State → Nat → State) (h : s.dataOk t a w = true) :
    s.load t a w k = k s (bytesAt s.tk.dmem (a - 0x10000000) w) := by
  simp only [dataOk, Bool.and_eq_true, decide_eq_true_eq, Bool.not_eq_true'] at h
  obtain ⟨⟨⟨⟨h1, h2⟩, h3⟩, h4⟩, h5⟩ := h
  have := regionAt_data_le h1
  have hn : ¬ a < 0x50000 := by omega
  simp [load, hn, h1, h2, h3, checked, h4, h5]

/-- A local load that completes hands its value on. -/
theorem load_loc {t a w : Nat} (k : State → Nat → State) (h : s.locOk t a w = true) :
    s.load t a w k = k s (bytesAt (s.thread t).loc (a - 0x20000000) w) := by
  simp only [locOk, Bool.and_eq_true, decide_eq_true_eq, Bool.not_eq_true'] at h
  obtain ⟨⟨h1, h2⟩, h3⟩ := h
  have := regionAt_loc_le h1
  have hn : ¬ a < 0x50000 := by omega
  simp [load, hn, h1, h2, checkedLoc, h3]

/-- A data store writes its bytes and moves on. -/
theorem store_data {t a w v : Nat} (h : s.dataOk t a w = true) :
    s.store t a w v = (s.putBytes t a (valBytes v w)).nextPc t := by
  simp only [dataOk, Bool.and_eq_true, decide_eq_true_eq, Bool.not_eq_true'] at h
  obtain ⟨⟨⟨⟨h1, h2⟩, h3⟩, h4⟩, h5⟩ := h
  have := regionAt_data_le h1
  have hn : ¬ a < 0x40000 := by omega
  simp [store, hn, h1, h2, h3]

/-- A local store writes its bytes and moves on. -/
theorem store_loc {t a w v : Nat} (h1 : regionAt a w = .loc) (h2 : a % w = 0) :
    s.store t a w v = (s.putBytes t a (valBytes v w)).nextPc t := by
  have := regionAt_loc_le h1
  have hn : ¬ a < 0x40000 := by omega
  simp [store, hn, h1, h2]

@[simp] theorem stallT_g (t r : Nat) : (s.stallT t).g t r = s.g t r := by simp [stallT, g]
@[simp] theorem takeEvent_timer (t e j : Nat) : (s.takeEvent t e).timer t j = s.timer t j := by simp [takeEvent, timer]
@[simp] theorem takeEvent_pc (t e : Nat) : ((s.takeEvent t e).thread t).pc = (s.thread t).pc := by simp [takeEvent]
@[simp] theorem takeEvent_timers (t e : Nat) : ((s.takeEvent t e).thread t).timers = (s.thread t).timers := by simp [takeEvent]

/-- An atomic operation on data memory that completes. -/
theorem atomic_data {t rd a : Nat} (f : Word → Word) (h : s.dataOk t a 4 = true) :
    ∃ old : Word, old = w32 (((List.range 4).map fun i => ((s.getBytes t a 4).getD i 0).toNat * 256 ^ i).sum) ∧
      s.atomic t rd a f = (((s.stallT t).putBytes t a (valBytes (f old).toNat 4)).setG t rd old).nextPc t := by
  simp only [dataOk, Bool.and_eq_true, decide_eq_true_eq, Bool.not_eq_true'] at h
  obtain ⟨⟨⟨⟨h1, h2⟩, h3⟩, h4⟩, h5⟩ := h
  refine ⟨_, rfl, ?_⟩
  simp only [atomic, h1, h2, h3, checked, h4, h5, w32, Bool.not_true, Bool.false_eq_true, if_false, ne_eq, not_true_eq_false]

/-- An atomic operation on local memory that completes. -/
theorem atomic_loc {t rd a : Nat} (f : Word → Word) (h : s.locOk t a 4 = true) :
    ∃ old : Word, old = w32 (((List.range 4).map fun i => ((s.getBytes t a 4).getD i 0).toNat * 256 ^ i).sum) ∧
      s.atomic t rd a f = (((s.stallT t).putBytes t a (valBytes (f old).toNat 4)).setG t rd old).nextPc t := by
  simp only [locOk, Bool.and_eq_true, decide_eq_true_eq, Bool.not_eq_true'] at h
  obtain ⟨⟨h1, h2⟩, h3⟩ := h
  refine ⟨_, rfl, ?_⟩
  simp only [atomic, h1, h2, checkedLoc, h3, w32, Bool.false_eq_true, if_false, ne_eq, not_true_eq_false]

/-- A fault below class SAFE leaves every counter but those of the collector, of lost records and of lost events. -/
theorem faultOnset_cnt (i inst detail a : Nat) (hc : s.fltClass i < 3) (h1 : a ≠ R.FC_INJ_CNT) (h2 : a ≠ R.FC_SRC_CNT i)
    (h3 : a ≠ R.G_LOG_DROP_CNT) (h4 : a ≠ R.TK_EV_DROP_CNT) (h5 : a ≠ R.FC_VENT_STOP_CNT)
    (h6 : ∀ t, a ≠ R.TK_EV_COAL_CNT t) :
    (s.faultOnset i inst detail).cnt a = s.cnt a := by
  have hp : ∀ (x : State) (e : Nat), (x.postRouted e).cnt a = x.cnt a := by
    intro x e; unfold postRouted; split
    · unfold post; repeat' split
      all_goals simp [cnt_inc_other _ _ _ h4, cnt_inc_other _ _ _ (h6 _)]
    · exact cnt_inc_other _ _ _ h4
  have hv : ∀ (x : State) (e : Nat), (x.ventStop e).cnt a = x.cnt a := by
    intro x e; unfold ventStop
    repeat' split
    all_goals simp [cnt_inc_other _ _ _ h5]
  have hl : ∀ (x : State) (k c y z : Nat), (x.logRec k c y z).cnt a = x.cnt a := by
    intro x k c y z; unfold logRec; split
    · rfl
    · rw [cnt_inc_other _ _ _ h3]; rfl
  have hn : ¬ 3 ≤ s.fltClass i := by omega
  unfold faultOnset
  split
  · rfl
  · simp only [hn, decide_false, Bool.false_and, Bool.false_eq_true, if_false]
    repeat' split
    all_goals simp [hp, hv, hl, cnt_inc_other _ _ _ h1, cnt_inc_other _ _ _ h2]

theorem alive_of_conAlive {s : State} (h : s.conAlive = true) : s.alive = true := by
  unfold conAlive at h; unfold alive; split at h <;> simp_all

theorem alive_of_conOpen {s : State} {n : Nat} (h : s.conOpen n = true) : s.alive = true := by
  simp only [conOpen, Bool.and_eq_true] at h
  exact alive_of_conAlive h.1.1.1

/-- A console that takes commands of kind `n` takes one that needs no more. -/
theorem conGate_open {s : State} {n need : Nat} (safe : Bool) (f : State → State) (h : s.conOpen n = true) (hn : need ≤ n) :
    s.conGate need safe f = f s := by
  simp only [conOpen, Bool.and_eq_true, decide_eq_true_eq, Bool.not_eq_true', decide_eq_false_iff_not] at h
  obtain ⟨⟨⟨h1, h2⟩, h3⟩, h4⟩ := h
  have h5 : ¬ s.get SV_ST.SESSION < need := by omega
  have h6 : s.svc.passed.isSome = false := by cases hp : s.svc.passed <;> simp_all
  simp [conGate, h1, h3, h5, h6]

/-- A command on a port the session holds runs. -/
theorem conHeld_holds {s : State} {k : Nat} (f : State → State) (h : s.conHolds k = true) : s.conHeld k f = f s := by
  simp only [conHolds, Bool.and_eq_true, Bool.or_eq_true, decide_eq_true_eq] at h
  obtain ⟨⟨⟨h1, h2⟩, h3⟩, h4⟩ := h
  have h5 : ¬ 99 < k := by omega
  rw [conHeld, conGate_open false _ h1 (Nat.le_refl 2)]
  rcases h4 with h4 | h4
  · have h6 : ¬ k < 96 := by omega
    simp [h5, h3, h6]
  · simp [h5, h3, h4]

/-- The row a register address finds is one of the rows. -/
theorem findRow_mem (l : List RegRow) (a : Nat) (r : RegRow) (i : Nat) (h : findRow l a = some (r, i)) : r ∈ l := by
  induction l with
  | nil => simp [findRow] at h
  | cons x l ih =>
    unfold findRow at h
    split at h
    · simp_all
    · exact List.mem_cons_of_mem _ (ih h)

set_option maxRecDepth 20000 in
/-- The registers whose write is a command have a privileged part or a write of their own. -/
theorem cmdReg_rows : (regRows.all fun r => hasPriv r || (byBase openWrites r.base).isSome || !(cmdReg r)) = true := by
  decide

/-- A register with neither is no command register. -/
theorem cmdReg_of_open (a : Nat) (r : RegRow) (i : Nat) (h : regAt a = some (r, i)) (hp : hasPriv r = false)
    (ho : byBase openWrites r.base = none) : cmdReg r = false := by
  have := List.all_eq_true.1 cmdReg_rows r (findRow_mem _ _ _ _ h)
  simpa [hp, ho] using this

end State

end Sys2Proof.Machine
end

