-- ==== Sys2Proof/Laws/FramesKclLink.lean ====
section
/-!
SUPPORT. What the operations of KclLink.lean leave unchanged: register fields, counters, ports and upstream ports.
-/

namespace Sys2Proof.Machine

namespace State

@[simp] theorem setLst_ports (s : State) (u v : Nat) : (setLst s u v).ports = s.ports := by
  unfold setLst
  simp

@[simp] theorem setLst_port (s : State) (u v : Nat) (prt : Nat) : (setLst s u v).port prt = s.port prt := by
  simp [State.port]

@[simp] theorem setLst_ups (s : State) (u v : Nat) : (setLst s u v).ups = s.ups := by
  unfold setLst
  simp

@[simp] theorem setLst_up (s : State) (u v : Nat) (hst : Nat) : (setLst s u v).up hst = s.up hst := by
  simp [State.up]

@[simp] theorem linkFrame_flds (s : State) (u lcode : Nat) (args : List Nat) : (linkFrame s u lcode args).flds = s.flds := by
  unfold linkFrame
  simp

@[simp] theorem linkFrame_get (s : State) (u lcode : Nat) (args : List Nat) (fld : Fld) : (linkFrame s u lcode args).get fld = s.get fld := by
  simp [State.get]

@[simp] theorem linkFrame_cnts (s : State) (u lcode : Nat) (args : List Nat) : (linkFrame s u lcode args).cnts = s.cnts := by
  unfold linkFrame
  simp

@[simp] theorem linkFrame_cnt (s : State) (u lcode : Nat) (args : List Nat) (adr : Nat) : (linkFrame s u lcode args).cnt adr = s.cnt adr := by
  simp [State.cnt]

@[simp] theorem linkFrame_ports (s : State) (u lcode : Nat) (args : List Nat) : (linkFrame s u lcode args).ports = s.ports := by
  unfold linkFrame
  simp

@[simp] theorem linkFrame_port (s : State) (u lcode : Nat) (args : List Nat) (prt : Nat) : (linkFrame s u lcode args).port prt = s.port prt := by
  simp [State.port]

@[simp] theorem linkFrame_ups (s : State) (u lcode : Nat) (args : List Nat) : (linkFrame s u lcode args).ups = s.ups := by
  unfold linkFrame
  simp

@[simp] theorem linkFrame_up (s : State) (u lcode : Nat) (args : List Nat) (hst : Nat) : (linkFrame s u lcode args).up hst = s.up hst := by
  simp [State.up]

@[simp] theorem mgmtOn_flds (s : State) (u mcode dest hops : Nat) (body : List Nat) : (mgmtOn s u mcode dest hops body).flds = s.flds := by
  unfold mgmtOn
  simp

@[simp] theorem mgmtOn_get (s : State) (u mcode dest hops : Nat) (body : List Nat) (fld : Fld) : (mgmtOn s u mcode dest hops body).get fld = s.get fld := by
  simp [State.get]

@[simp] theorem mgmtOn_cnts (s : State) (u mcode dest hops : Nat) (body : List Nat) : (mgmtOn s u mcode dest hops body).cnts = s.cnts := by
  unfold mgmtOn
  simp

@[simp] theorem mgmtOn_cnt (s : State) (u mcode dest hops : Nat) (body : List Nat) (adr : Nat) : (mgmtOn s u mcode dest hops body).cnt adr = s.cnt adr := by
  simp [State.cnt]

@[simp] theorem mgmtOn_ports (s : State) (u mcode dest hops : Nat) (body : List Nat) : (mgmtOn s u mcode dest hops body).ports = s.ports := by
  unfold mgmtOn
  simp

@[simp] theorem mgmtOn_port (s : State) (u mcode dest hops : Nat) (body : List Nat) (prt : Nat) : (mgmtOn s u mcode dest hops body).port prt = s.port prt := by
  simp [State.port]

@[simp] theorem mgmtOn_ups (s : State) (u mcode dest hops : Nat) (body : List Nat) : (mgmtOn s u mcode dest hops body).ups = s.ups := by
  unfold mgmtOn
  simp

@[simp] theorem mgmtOn_up (s : State) (u mcode dest hops : Nat) (body : List Nat) (hst : Nat) : (mgmtOn s u mcode dest hops body).up hst = s.up hst := by
  simp [State.up]

@[simp] theorem mgmtFlood_flds (s : State) (except_ mcode hops : Nat) (body : List Nat) : (mgmtFlood s except_ mcode hops body).flds = s.flds := by
  unfold mgmtFlood
  simp

@[simp] theorem mgmtFlood_get (s : State) (except_ mcode hops : Nat) (body : List Nat) (fld : Fld) : (mgmtFlood s except_ mcode hops body).get fld = s.get fld := by
  simp [State.get]

@[simp] theorem mgmtFlood_cnts (s : State) (except_ mcode hops : Nat) (body : List Nat) : (mgmtFlood s except_ mcode hops body).cnts = s.cnts := by
  unfold mgmtFlood
  simp

@[simp] theorem mgmtFlood_cnt (s : State) (except_ mcode hops : Nat) (body : List Nat) (adr : Nat) : (mgmtFlood s except_ mcode hops body).cnt adr = s.cnt adr := by
  simp [State.cnt]

@[simp] theorem mgmtFlood_ports (s : State) (except_ mcode hops : Nat) (body : List Nat) : (mgmtFlood s except_ mcode hops body).ports = s.ports := by
  unfold mgmtFlood
  simp

@[simp] theorem mgmtFlood_port (s : State) (except_ mcode hops : Nat) (body : List Nat) (prt : Nat) : (mgmtFlood s except_ mcode hops body).port prt = s.port prt := by
  simp [State.port]

@[simp] theorem mgmtFlood_ups (s : State) (except_ mcode hops : Nat) (body : List Nat) : (mgmtFlood s except_ mcode hops body).ups = s.ups := by
  unfold mgmtFlood
  simp

@[simp] theorem mgmtFlood_up (s : State) (except_ mcode hops : Nat) (body : List Nat) (hst : Nat) : (mgmtFlood s except_ mcode hops body).up hst = s.up hst := by
  simp [State.up]

@[simp] theorem kForward_flds (s : State) (u : Nat) (f : KFrame) : (kForward s u f).flds = s.flds := by
  unfold kForward
  split <;> simp

@[simp] theorem kForward_get (s : State) (u : Nat) (f : KFrame) (fld : Fld) : (kForward s u f).get fld = s.get fld := by
  simp [State.get]

@[simp] theorem kForward_ports (s : State) (u : Nat) (f : KFrame) : (kForward s u f).ports = s.ports := by
  unfold kForward
  split <;> simp

@[simp] theorem kForward_port (s : State) (u : Nat) (f : KFrame) (prt : Nat) : (kForward s u f).port prt = s.port prt := by
  simp [State.port]

@[simp] theorem kForward_ups (s : State) (u : Nat) (f : KFrame) : (kForward s u f).ups = s.ups := by
  unfold kForward
  split <;> simp

@[simp] theorem kForward_up (s : State) (u : Nat) (f : KFrame) (hst : Nat) : (kForward s u f).up hst = s.up hst := by
  simp [State.up]

@[simp] theorem modRoutes_flds (s : State) (f : List RouteE → List RouteE) : (modRoutes s f).flds = s.flds := by
  unfold modRoutes
  simp

@[simp] theorem modRoutes_get (s : State) (f : List RouteE → List RouteE) (fld : Fld) : (modRoutes s f).get fld = s.get fld := by
  simp [State.get]

@[simp] theorem modRoutes_cnts (s : State) (f : List RouteE → List RouteE) : (modRoutes s f).cnts = s.cnts := by
  unfold modRoutes
  simp

@[simp] theorem modRoutes_cnt (s : State) (f : List RouteE → List RouteE) (adr : Nat) : (modRoutes s f).cnt adr = s.cnt adr := by
  simp [State.cnt]

@[simp] theorem modRoutes_ports (s : State) (f : List RouteE → List RouteE) : (modRoutes s f).ports = s.ports := by
  unfold modRoutes
  simp

@[simp] theorem modRoutes_port (s : State) (f : List RouteE → List RouteE) (prt : Nat) : (modRoutes s f).port prt = s.port prt := by
  simp [State.port]

@[simp] theorem modRoutes_ups (s : State) (f : List RouteE → List RouteE) : (modRoutes s f).ups = s.ups := by
  unfold modRoutes
  simp

@[simp] theorem modRoutes_up (s : State) (f : List RouteE → List RouteE) (hst : Nat) : (modRoutes s f).up hst = s.up hst := by
  simp [State.up]

@[simp] theorem routeFlood_flds (s : State) : (routeFlood s).flds = s.flds := by
  unfold routeFlood
  simp

@[simp] theorem routeFlood_get (s : State) (fld : Fld) : (routeFlood s).get fld = s.get fld := by
  simp [State.get]

@[simp] theorem routeFlood_cnts (s : State) : (routeFlood s).cnts = s.cnts := by
  unfold routeFlood
  simp

@[simp] theorem routeFlood_cnt (s : State) (adr : Nat) : (routeFlood s).cnt adr = s.cnt adr := by
  simp [State.cnt]

@[simp] theorem routeFlood_ports (s : State) : (routeFlood s).ports = s.ports := by
  unfold routeFlood
  simp

@[simp] theorem routeFlood_port (s : State) (prt : Nat) : (routeFlood s).port prt = s.port prt := by
  simp [State.port]

@[simp] theorem routeFlood_ups (s : State) : (routeFlood s).ups = s.ups := by
  unfold routeFlood
  simp

@[simp] theorem routeFlood_up (s : State) (hst : Nat) : (routeFlood s).up hst = s.up hst := by
  simp [State.up]

@[simp] theorem slotBudget_flds (s : State) (i : Nat) : (slotBudget s i).flds = s.flds := by
  unfold slotBudget
  simp

@[simp] theorem slotBudget_get (s : State) (i : Nat) (fld : Fld) : (slotBudget s i).get fld = s.get fld := by
  simp [State.get]

@[simp] theorem slotBudget_cnts (s : State) (i : Nat) : (slotBudget s i).cnts = s.cnts := by
  unfold slotBudget
  simp

@[simp] theorem slotBudget_cnt (s : State) (i : Nat) (adr : Nat) : (slotBudget s i).cnt adr = s.cnt adr := by
  simp [State.cnt]

@[simp] theorem slotBudget_ports (s : State) (i : Nat) : (slotBudget s i).ports = s.ports := by
  unfold slotBudget
  simp

@[simp] theorem slotBudget_port (s : State) (i : Nat) (prt : Nat) : (slotBudget s i).port prt = s.port prt := by
  simp [State.port]

@[simp] theorem slotBudget_ups (s : State) (i : Nat) : (slotBudget s i).ups = s.ups := by
  unfold slotBudget
  simp

@[simp] theorem slotBudget_up (s : State) (i : Nat) (hst : Nat) : (slotBudget s i).up hst = s.up hst := by
  simp [State.up]

@[simp] theorem allLinks_ports (s : State) (v : Nat) : (allLinks s v).ports = s.ports := by
  unfold allLinks
  simp

@[simp] theorem allLinks_port (s : State) (v : Nat) (prt : Nat) : (allLinks s v).port prt = s.port prt := by
  simp [State.port]

@[simp] theorem allLinks_ups (s : State) (v : Nat) : (allLinks s v).ups = s.ups := by
  unfold allLinks
  simp

@[simp] theorem allLinks_up (s : State) (v : Nat) (hst : Nat) : (allLinks s v).up hst = s.up hst := by
  simp [State.up]

@[simp] theorem idNote_flds (s old : State) : (idNote s old).flds = s.flds := by
  unfold idNote
  simp

@[simp] theorem idNote_get (s old : State) (fld : Fld) : (idNote s old).get fld = s.get fld := by
  simp [State.get]

@[simp] theorem idNote_ports (s old : State) : (idNote s old).ports = s.ports := by
  unfold idNote
  simp

@[simp] theorem idNote_port (s old : State) (prt : Nat) : (idNote s old).port prt = s.port prt := by
  simp [State.port]

@[simp] theorem idNote_ups (s old : State) : (idNote s old).ups = s.ups := by
  unfold idNote
  simp

@[simp] theorem idNote_up (s old : State) (hst : Nat) : (idNote s old).up hst = s.up hst := by
  simp [State.up]

@[simp] theorem askId_flds (s : State) : (askId s).flds = s.flds := by
  unfold askId
  simp

@[simp] theorem askId_get (s : State) (fld : Fld) : (askId s).get fld = s.get fld := by
  simp [State.get]

@[simp] theorem askId_cnts (s : State) : (askId s).cnts = s.cnts := by
  unfold askId
  simp

@[simp] theorem askId_cnt (s : State) (adr : Nat) : (askId s).cnt adr = s.cnt adr := by
  simp [State.cnt]

@[simp] theorem askId_ports (s : State) : (askId s).ports = s.ports := by
  unfold askId
  simp

@[simp] theorem askId_port (s : State) (prt : Nat) : (askId s).port prt = s.port prt := by
  simp [State.port]

@[simp] theorem askId_ups (s : State) : (askId s).ups = s.ups := by
  unfold askId
  simp

@[simp] theorem askId_up (s : State) (hst : Nat) : (askId s).up hst = s.up hst := by
  simp [State.up]

@[simp] theorem holdId_flds (s : State) (id die : Nat) : (holdId s id die).flds = s.flds := by
  unfold holdId
  simp

@[simp] theorem holdId_get (s : State) (id die : Nat) (fld : Fld) : (holdId s id die).get fld = s.get fld := by
  simp [State.get]

@[simp] theorem holdId_cnts (s : State) (id die : Nat) : (holdId s id die).cnts = s.cnts := by
  unfold holdId
  simp

@[simp] theorem holdId_cnt (s : State) (id die : Nat) (adr : Nat) : (holdId s id die).cnt adr = s.cnt adr := by
  simp [State.cnt]

@[simp] theorem holdId_ports (s : State) (id die : Nat) : (holdId s id die).ports = s.ports := by
  unfold holdId
  simp

@[simp] theorem holdId_port (s : State) (id die : Nat) (prt : Nat) : (holdId s id die).port prt = s.port prt := by
  simp [State.port]

@[simp] theorem holdId_ups (s : State) (id die : Nat) : (holdId s id die).ups = s.ups := by
  unfold holdId
  simp

@[simp] theorem holdId_up (s : State) (id die : Nat) (hst : Nat) : (holdId s id die).up hst = s.up hst := by
  simp [State.up]

@[simp] theorem announce_flds (s : State) (except_ : Nat) : (announce s except_).flds = s.flds := by
  unfold announce
  split <;> simp

@[simp] theorem announce_get (s : State) (except_ : Nat) (fld : Fld) : (announce s except_).get fld = s.get fld := by
  simp [State.get]

@[simp] theorem announce_cnts (s : State) (except_ : Nat) : (announce s except_).cnts = s.cnts := by
  unfold announce
  split <;> simp

@[simp] theorem announce_cnt (s : State) (except_ : Nat) (adr : Nat) : (announce s except_).cnt adr = s.cnt adr := by
  simp [State.cnt]

@[simp] theorem announce_ports (s : State) (except_ : Nat) : (announce s except_).ports = s.ports := by
  unfold announce
  split <;> simp

@[simp] theorem announce_port (s : State) (except_ : Nat) (prt : Nat) : (announce s except_).port prt = s.port prt := by
  simp [State.port]

@[simp] theorem announce_ups (s : State) (except_ : Nat) : (announce s except_).ups = s.ups := by
  unfold announce
  split <;> simp

@[simp] theorem announce_up (s : State) (except_ : Nat) (hst : Nat) : (announce s except_).up hst = s.up hst := by
  simp [State.up]

end State

open State

@[simp] theorem relayBack_flds (s : State) (die mcode arg : Nat) : (relayBack s die mcode arg).flds = s.flds := by
  unfold relayBack
  split <;> simp

@[simp] theorem relayBack_get (s : State) (die mcode arg : Nat) (fld : Fld) : (relayBack s die mcode arg).get fld = s.get fld := by
  simp [State.get]

@[simp] theorem relayBack_cnts (s : State) (die mcode arg : Nat) : (relayBack s die mcode arg).cnts = s.cnts := by
  unfold relayBack
  split <;> simp

@[simp] theorem relayBack_cnt (s : State) (die mcode arg : Nat) (adr : Nat) : (relayBack s die mcode arg).cnt adr = s.cnt adr := by
  simp [State.cnt]

@[simp] theorem relayBack_ports (s : State) (die mcode arg : Nat) : (relayBack s die mcode arg).ports = s.ports := by
  unfold relayBack
  split <;> simp

@[simp] theorem relayBack_port (s : State) (die mcode arg : Nat) (prt : Nat) : (relayBack s die mcode arg).port prt = s.port prt := by
  simp [State.port]

@[simp] theorem relayBack_ups (s : State) (die mcode arg : Nat) : (relayBack s die mcode arg).ups = s.ups := by
  unfold relayBack
  split <;> simp

@[simp] theorem relayBack_up (s : State) (die mcode arg : Nat) (hst : Nat) : (relayBack s die mcode arg).up hst = s.up hst := by
  simp [State.up]

end Sys2Proof.Machine
end

