-- ==== Sys2Proof/Laws/FramesKcl.lean ====
section
/-!
SUPPORT. What the operations of Kcl.lean leave unchanged: register fields, counters, ports and upstream ports.
-/

namespace Sys2Proof.Machine

namespace State

@[simp] theorem modSlot_flds (s : State) (i : Nat) (f : Slot → Slot) : (modSlot s i f).flds = s.flds := by
  unfold modSlot
  simp

@[simp] theorem modSlot_get (s : State) (i : Nat) (f : Slot → Slot) (fld : Fld) : (modSlot s i f).get fld = s.get fld := by
  simp [State.get]

@[simp] theorem modSlot_cnts (s : State) (i : Nat) (f : Slot → Slot) : (modSlot s i f).cnts = s.cnts := by
  unfold modSlot
  simp

@[simp] theorem modSlot_cnt (s : State) (i : Nat) (f : Slot → Slot) (adr : Nat) : (modSlot s i f).cnt adr = s.cnt adr := by
  simp [State.cnt]

@[simp] theorem modSlot_ports (s : State) (i : Nat) (f : Slot → Slot) : (modSlot s i f).ports = s.ports := by
  unfold modSlot
  simp

@[simp] theorem modSlot_port (s : State) (i : Nat) (f : Slot → Slot) (prt : Nat) : (modSlot s i f).port prt = s.port prt := by
  simp [State.port]

@[simp] theorem modSlot_ups (s : State) (i : Nat) (f : Slot → Slot) : (modSlot s i f).ups = s.ups := by
  unfold modSlot
  simp

@[simp] theorem modSlot_up (s : State) (i : Nat) (f : Slot → Slot) (hst : Nat) : (modSlot s i f).up hst = s.up hst := by
  simp [State.up]

@[simp] theorem slotGone_flds (s : State) (i : Nat) : (slotGone s i).flds = s.flds := by
  unfold slotGone
  simp

@[simp] theorem slotGone_get (s : State) (i : Nat) (fld : Fld) : (slotGone s i).get fld = s.get fld := by
  simp [State.get]

@[simp] theorem slotGone_cnts (s : State) (i : Nat) : (slotGone s i).cnts = s.cnts := by
  unfold slotGone
  simp

@[simp] theorem slotGone_cnt (s : State) (i : Nat) (adr : Nat) : (slotGone s i).cnt adr = s.cnt adr := by
  simp [State.cnt]

@[simp] theorem slotGone_ports (s : State) (i : Nat) : (slotGone s i).ports = s.ports := by
  unfold slotGone
  simp

@[simp] theorem slotGone_port (s : State) (i : Nat) (prt : Nat) : (slotGone s i).port prt = s.port prt := by
  simp [State.port]

@[simp] theorem presReply_flds (s : State) (c op port arg : Nat) : (presReply s c op port arg).flds = s.flds := by
  unfold presReply
  simp

@[simp] theorem presReply_get (s : State) (c op port arg : Nat) (fld : Fld) : (presReply s c op port arg).get fld = s.get fld := by
  simp [State.get]

@[simp] theorem presReply_cnts (s : State) (c op port arg : Nat) : (presReply s c op port arg).cnts = s.cnts := by
  unfold presReply
  simp

@[simp] theorem presReply_cnt (s : State) (c op port arg : Nat) (adr : Nat) : (presReply s c op port arg).cnt adr = s.cnt adr := by
  simp [State.cnt]

@[simp] theorem presReply_ports (s : State) (c op port arg : Nat) : (presReply s c op port arg).ports = s.ports := by
  unfold presReply
  simp

@[simp] theorem presReply_port (s : State) (c op port arg : Nat) (prt : Nat) : (presReply s c op port arg).port prt = s.port prt := by
  simp [State.port]

@[simp] theorem presReply_ups (s : State) (c op port arg : Nat) : (presReply s c op port arg).ups = s.ups := by
  unfold presReply
  simp

@[simp] theorem presReply_up (s : State) (c op port arg : Nat) (hst : Nat) : (presReply s c op port arg).up hst = s.up hst := by
  simp [State.up]

@[simp] theorem kDrop_flds (s : State) (u : Nat) (p : Packet) : (kDrop s u p).flds = s.flds := by
  unfold kDrop
  simp

@[simp] theorem kDrop_get (s : State) (u : Nat) (p : Packet) (fld : Fld) : (kDrop s u p).get fld = s.get fld := by
  simp [State.get]

@[simp] theorem kDrop_cnts (s : State) (u : Nat) (p : Packet) : (kDrop s u p).cnts = s.cnts := by
  unfold kDrop
  simp

@[simp] theorem kDrop_cnt (s : State) (u : Nat) (p : Packet) (adr : Nat) : (kDrop s u p).cnt adr = s.cnt adr := by
  simp [State.cnt]

@[simp] theorem kDrop_ports (s : State) (u : Nat) (p : Packet) : (kDrop s u p).ports = s.ports := by
  unfold kDrop
  simp

@[simp] theorem kDrop_port (s : State) (u : Nat) (p : Packet) (prt : Nat) : (kDrop s u p).port prt = s.port prt := by
  simp [State.port]

@[simp] theorem kDrop_ups (s : State) (u : Nat) (p : Packet) : (kDrop s u p).ups = s.ups := by
  unfold kDrop
  simp

@[simp] theorem kDrop_up (s : State) (u : Nat) (p : Packet) (hst : Nat) : (kDrop s u p).up hst = s.up hst := by
  simp [State.up]

@[simp] theorem modProxy_flds (s : State) (j : Nat) (f : Proxy → Proxy) : (modProxy s j f).flds = s.flds := by
  unfold modProxy
  simp

@[simp] theorem modProxy_get (s : State) (j : Nat) (f : Proxy → Proxy) (fld : Fld) : (modProxy s j f).get fld = s.get fld := by
  simp [State.get]

@[simp] theorem modProxy_cnts (s : State) (j : Nat) (f : Proxy → Proxy) : (modProxy s j f).cnts = s.cnts := by
  unfold modProxy
  simp

@[simp] theorem modProxy_cnt (s : State) (j : Nat) (f : Proxy → Proxy) (adr : Nat) : (modProxy s j f).cnt adr = s.cnt adr := by
  simp [State.cnt]

@[simp] theorem modProxy_ports (s : State) (j : Nat) (f : Proxy → Proxy) : (modProxy s j f).ports = s.ports := by
  unfold modProxy
  simp

@[simp] theorem modProxy_port (s : State) (j : Nat) (f : Proxy → Proxy) (prt : Nat) : (modProxy s j f).port prt = s.port prt := by
  simp [State.port]

@[simp] theorem modProxy_ups (s : State) (j : Nat) (f : Proxy → Proxy) : (modProxy s j f).ups = s.ups := by
  unfold modProxy
  simp

@[simp] theorem modProxy_up (s : State) (j : Nat) (f : Proxy → Proxy) (hst : Nat) : (modProxy s j f).up hst = s.up hst := by
  simp [State.up]

@[simp] theorem freeProxy_flds (s : State) (j : Nat) : (freeProxy s j).flds = s.flds := by
  unfold freeProxy
  simp

@[simp] theorem freeProxy_get (s : State) (j : Nat) (fld : Fld) : (freeProxy s j).get fld = s.get fld := by
  simp [State.get]

@[simp] theorem freeProxy_cnts (s : State) (j : Nat) : (freeProxy s j).cnts = s.cnts := by
  unfold freeProxy
  simp

@[simp] theorem freeProxy_cnt (s : State) (j : Nat) (adr : Nat) : (freeProxy s j).cnt adr = s.cnt adr := by
  simp [State.cnt]

@[simp] theorem freeProxy_ports (s : State) (j : Nat) : (freeProxy s j).ports = s.ports := by
  unfold freeProxy
  simp

@[simp] theorem freeProxy_port (s : State) (j : Nat) (prt : Nat) : (freeProxy s j).port prt = s.port prt := by
  simp [State.port]

@[simp] theorem freeProxy_ups (s : State) (j : Nat) : (freeProxy s j).ups = s.ups := by
  unfold freeProxy
  simp

@[simp] theorem freeProxy_up (s : State) (j : Nat) (hst : Nat) : (freeProxy s j).up hst = s.up hst := by
  simp [State.up]

@[simp] theorem upAnswer_flds (s : State) (u : Nat) (sig : Usb2) : (upAnswer s u sig).flds = s.flds := by
  unfold upAnswer
  simp

@[simp] theorem upAnswer_get (s : State) (u : Nat) (sig : Usb2) (fld : Fld) : (upAnswer s u sig).get fld = s.get fld := by
  simp [State.get]

@[simp] theorem upAnswer_cnts (s : State) (u : Nat) (sig : Usb2) : (upAnswer s u sig).cnts = s.cnts := by
  unfold upAnswer
  simp

@[simp] theorem upAnswer_cnt (s : State) (u : Nat) (sig : Usb2) (adr : Nat) : (upAnswer s u sig).cnt adr = s.cnt adr := by
  simp [State.cnt]

@[simp] theorem upAnswer_ports (s : State) (u : Nat) (sig : Usb2) : (upAnswer s u sig).ports = s.ports := by
  unfold upAnswer
  simp

@[simp] theorem upAnswer_port (s : State) (u : Nat) (sig : Usb2) (prt : Nat) : (upAnswer s u sig).port prt = s.port prt := by
  simp [State.port]

@[simp] theorem upAnswer_ups (s : State) (u : Nat) (sig : Usb2) : (upAnswer s u sig).ups = s.ups := by
  unfold upAnswer
  simp

@[simp] theorem upAnswer_up (s : State) (u : Nat) (sig : Usb2) (hst : Nat) : (upAnswer s u sig).up hst = s.up hst := by
  simp [State.up]

end State

end Sys2Proof.Machine
end

