-- ==== Sys2Proof/Laws/FramesTorik.lean ====
section
/-!
SUPPORT. What the operations of Torik.lean leave unchanged: register fields, counters, ports and upstream ports.
-/

namespace Sys2Proof.Machine

namespace State

@[simp] theorem setG_flds (s : State) (t r : Nat) (v : Word) : (setG s t r v).flds = s.flds := by
  unfold setG
  simp

@[simp] theorem setG_get (s : State) (t r : Nat) (v : Word) (fld : Fld) : (setG s t r v).get fld = s.get fld := by
  simp [State.get]

@[simp] theorem setG_cnts (s : State) (t r : Nat) (v : Word) : (setG s t r v).cnts = s.cnts := by
  unfold setG
  simp

@[simp] theorem setG_cnt (s : State) (t r : Nat) (v : Word) (adr : Nat) : (setG s t r v).cnt adr = s.cnt adr := by
  simp [State.cnt]

@[simp] theorem setG_ports (s : State) (t r : Nat) (v : Word) : (setG s t r v).ports = s.ports := by
  unfold setG
  simp

@[simp] theorem setG_port (s : State) (t r : Nat) (v : Word) (prt : Nat) : (setG s t r v).port prt = s.port prt := by
  simp [State.port]

@[simp] theorem setG_ups (s : State) (t r : Nat) (v : Word) : (setG s t r v).ups = s.ups := by
  unfold setG
  simp

@[simp] theorem setG_up (s : State) (t r : Nat) (v : Word) (hst : Nat) : (setG s t r v).up hst = s.up hst := by
  simp [State.up]

@[simp] theorem tRefuse_ports (s : State) (t : Nat) : (tRefuse s t).ports = s.ports := by
  unfold tRefuse
  simp

@[simp] theorem tRefuse_port (s : State) (t : Nat) (prt : Nat) : (tRefuse s t).port prt = s.port prt := by
  simp [State.port]

@[simp] theorem tRefuse_ups (s : State) (t : Nat) : (tRefuse s t).ups = s.ups := by
  unfold tRefuse
  simp

@[simp] theorem tRefuse_up (s : State) (t : Nat) (hst : Nat) : (tRefuse s t).up hst = s.up hst := by
  simp [State.up]

@[simp] theorem tDone_cnts (s : State) (t : Nat) : (tDone s t).cnts = s.cnts := by
  unfold tDone
  simp

@[simp] theorem tDone_cnt (s : State) (t : Nat) (adr : Nat) : (tDone s t).cnt adr = s.cnt adr := by
  simp [State.cnt]

@[simp] theorem tDone_ports (s : State) (t : Nat) : (tDone s t).ports = s.ports := by
  unfold tDone
  simp

@[simp] theorem tDone_port (s : State) (t : Nat) (prt : Nat) : (tDone s t).port prt = s.port prt := by
  simp [State.port]

@[simp] theorem tDone_ups (s : State) (t : Nat) : (tDone s t).ups = s.ups := by
  unfold tDone
  simp

@[simp] theorem tDone_up (s : State) (t : Nat) (hst : Nat) : (tDone s t).up hst = s.up hst := by
  simp [State.up]

@[simp] theorem threadOff_flds (s : State) (t : Nat) : (threadOff s t).flds = s.flds := by
  unfold threadOff
  simp

@[simp] theorem threadOff_get (s : State) (t : Nat) (fld : Fld) : (threadOff s t).get fld = s.get fld := by
  simp [State.get]

@[simp] theorem threadOff_cnts (s : State) (t : Nat) : (threadOff s t).cnts = s.cnts := by
  unfold threadOff
  simp

@[simp] theorem threadOff_cnt (s : State) (t : Nat) (adr : Nat) : (threadOff s t).cnt adr = s.cnt adr := by
  simp [State.cnt]

@[simp] theorem threadOff_ports (s : State) (t : Nat) : (threadOff s t).ports = s.ports := by
  unfold threadOff
  simp

@[simp] theorem threadOff_port (s : State) (t : Nat) (prt : Nat) : (threadOff s t).port prt = s.port prt := by
  simp [State.port]

@[simp] theorem threadOff_ups (s : State) (t : Nat) : (threadOff s t).ups = s.ups := by
  unfold threadOff
  simp

@[simp] theorem threadOff_up (s : State) (t : Nat) (hst : Nat) : (threadOff s t).up hst = s.up hst := by
  simp [State.up]

@[simp] theorem tStart_ports (s : State) (t : Nat) : (tStart s t).ports = s.ports := by
  unfold tStart
  simp

@[simp] theorem tStart_port (s : State) (t : Nat) (prt : Nat) : (tStart s t).port prt = s.port prt := by
  simp [State.port]

@[simp] theorem tStart_ups (s : State) (t : Nat) : (tStart s t).ups = s.ups := by
  unfold tStart
  simp

@[simp] theorem tStart_up (s : State) (t : Nat) (hst : Nat) : (tStart s t).up hst = s.up hst := by
  simp [State.up]

@[simp] theorem tHalt_ports (s : State) (t : Nat) : (tHalt s t).ports = s.ports := by
  unfold tHalt
  split <;> simp

@[simp] theorem tHalt_port (s : State) (t : Nat) (prt : Nat) : (tHalt s t).port prt = s.port prt := by
  simp [State.port]

@[simp] theorem tHalt_ups (s : State) (t : Nat) : (tHalt s t).ups = s.ups := by
  unfold tHalt
  split <;> simp

@[simp] theorem tHalt_up (s : State) (t : Nat) (hst : Nat) : (tHalt s t).up hst = s.up hst := by
  simp [State.up]

@[simp] theorem tResume_ports (s : State) (t : Nat) : (tResume s t).ports = s.ports := by
  unfold tResume
  simp

@[simp] theorem tResume_port (s : State) (t : Nat) (prt : Nat) : (tResume s t).port prt = s.port prt := by
  simp [State.port]

@[simp] theorem tResume_ups (s : State) (t : Nat) : (tResume s t).ups = s.ups := by
  unfold tResume
  simp

@[simp] theorem tResume_up (s : State) (t : Nat) (hst : Nat) : (tResume s t).up hst = s.up hst := by
  simp [State.up]

@[simp] theorem tStop_ports (s : State) (t : Nat) : (tStop s t).ports = s.ports := by
  unfold tStop
  split <;> simp

@[simp] theorem tStop_port (s : State) (t : Nat) (prt : Nat) : (tStop s t).port prt = s.port prt := by
  simp [State.port]

@[simp] theorem tStop_ups (s : State) (t : Nat) : (tStop s t).ups = s.ups := by
  unfold tStop
  split <;> simp

@[simp] theorem tStop_up (s : State) (t : Nat) (hst : Nat) : (tStop s t).up hst = s.up hst := by
  simp [State.up]

@[simp] theorem wrTctl_ports (s : State) (t c : Nat) : (wrTctl s t c).ports = s.ports := by
  unfold wrTctl
  split <;> simp

@[simp] theorem wrTctl_port (s : State) (t c : Nat) (prt : Nat) : (wrTctl s t c).port prt = s.port prt := by
  simp [State.port]

@[simp] theorem wrTctl_ups (s : State) (t c : Nat) : (wrTctl s t c).ups = s.ups := by
  unfold wrTctl
  split <;> simp

@[simp] theorem wrTctl_up (s : State) (t c : Nat) (hst : Nat) : (wrTctl s t c).up hst = s.up hst := by
  simp [State.up]

@[simp] theorem takeEvent_flds (s : State) (t e : Nat) : (takeEvent s t e).flds = s.flds := by
  unfold takeEvent
  simp

@[simp] theorem takeEvent_get (s : State) (t e : Nat) (fld : Fld) : (takeEvent s t e).get fld = s.get fld := by
  simp [State.get]

@[simp] theorem takeEvent_cnts (s : State) (t e : Nat) : (takeEvent s t e).cnts = s.cnts := by
  unfold takeEvent
  simp

@[simp] theorem takeEvent_cnt (s : State) (t e : Nat) (adr : Nat) : (takeEvent s t e).cnt adr = s.cnt adr := by
  simp [State.cnt]

@[simp] theorem takeEvent_ports (s : State) (t e : Nat) : (takeEvent s t e).ports = s.ports := by
  unfold takeEvent
  simp

@[simp] theorem takeEvent_port (s : State) (t e : Nat) (prt : Nat) : (takeEvent s t e).port prt = s.port prt := by
  simp [State.port]

@[simp] theorem takeEvent_ups (s : State) (t e : Nat) : (takeEvent s t e).ups = s.ups := by
  unfold takeEvent
  simp

@[simp] theorem takeEvent_up (s : State) (t e : Nat) (hst : Nat) : (takeEvent s t e).up hst = s.up hst := by
  simp [State.up]

@[simp] theorem waitEnd_flds (s : State) (t rd : Nat) : (waitEnd s t rd).flds = s.flds := by
  unfold waitEnd
  split <;> simp

@[simp] theorem waitEnd_get (s : State) (t rd : Nat) (fld : Fld) : (waitEnd s t rd).get fld = s.get fld := by
  simp [State.get]

@[simp] theorem waitEnd_cnts (s : State) (t rd : Nat) : (waitEnd s t rd).cnts = s.cnts := by
  unfold waitEnd
  split <;> simp

@[simp] theorem waitEnd_cnt (s : State) (t rd : Nat) (adr : Nat) : (waitEnd s t rd).cnt adr = s.cnt adr := by
  simp [State.cnt]

@[simp] theorem waitEnd_ports (s : State) (t rd : Nat) : (waitEnd s t rd).ports = s.ports := by
  unfold waitEnd
  split <;> simp

@[simp] theorem waitEnd_port (s : State) (t rd : Nat) (prt : Nat) : (waitEnd s t rd).port prt = s.port prt := by
  simp [State.port]

@[simp] theorem waitEnd_ups (s : State) (t rd : Nat) : (waitEnd s t rd).ups = s.ups := by
  unfold waitEnd
  split <;> simp

@[simp] theorem waitEnd_up (s : State) (t rd : Nat) (hst : Nat) : (waitEnd s t rd).up hst = s.up hst := by
  simp [State.up]

@[simp] theorem setMbox_flds (s : State) (i : Nat) (l : List MboxEntry) : (setMbox s i l).flds = s.flds := by
  unfold setMbox
  simp

@[simp] theorem setMbox_get (s : State) (i : Nat) (l : List MboxEntry) (fld : Fld) : (setMbox s i l).get fld = s.get fld := by
  simp [State.get]

@[simp] theorem setMbox_cnts (s : State) (i : Nat) (l : List MboxEntry) : (setMbox s i l).cnts = s.cnts := by
  unfold setMbox
  simp

@[simp] theorem setMbox_cnt (s : State) (i : Nat) (l : List MboxEntry) (adr : Nat) : (setMbox s i l).cnt adr = s.cnt adr := by
  simp [State.cnt]

@[simp] theorem setMbox_ports (s : State) (i : Nat) (l : List MboxEntry) : (setMbox s i l).ports = s.ports := by
  unfold setMbox
  simp

@[simp] theorem setMbox_port (s : State) (i : Nat) (l : List MboxEntry) (prt : Nat) : (setMbox s i l).port prt = s.port prt := by
  simp [State.port]

@[simp] theorem setMbox_ups (s : State) (i : Nat) (l : List MboxEntry) : (setMbox s i l).ups = s.ups := by
  unfold setMbox
  simp

@[simp] theorem setMbox_up (s : State) (i : Nat) (l : List MboxEntry) (hst : Nat) : (setMbox s i l).up hst = s.up hst := by
  simp [State.up]

@[simp] theorem mboxAdd_flds (s : State) (i kind target : Nat) (payload : List Byte) : (mboxAdd s i kind target payload).flds = s.flds := by
  unfold mboxAdd
  simp

@[simp] theorem mboxAdd_get (s : State) (i kind target : Nat) (payload : List Byte) (fld : Fld) : (mboxAdd s i kind target payload).get fld = s.get fld := by
  simp [State.get]

@[simp] theorem mboxAdd_cnts (s : State) (i kind target : Nat) (payload : List Byte) : (mboxAdd s i kind target payload).cnts = s.cnts := by
  unfold mboxAdd
  simp

@[simp] theorem mboxAdd_cnt (s : State) (i kind target : Nat) (payload : List Byte) (adr : Nat) : (mboxAdd s i kind target payload).cnt adr = s.cnt adr := by
  simp [State.cnt]

@[simp] theorem mboxAdd_ports (s : State) (i kind target : Nat) (payload : List Byte) : (mboxAdd s i kind target payload).ports = s.ports := by
  unfold mboxAdd
  simp

@[simp] theorem mboxAdd_port (s : State) (i kind target : Nat) (payload : List Byte) (prt : Nat) : (mboxAdd s i kind target payload).port prt = s.port prt := by
  simp [State.port]

@[simp] theorem mboxAdd_ups (s : State) (i kind target : Nat) (payload : List Byte) : (mboxAdd s i kind target payload).ups = s.ups := by
  unfold mboxAdd
  simp

@[simp] theorem mboxAdd_up (s : State) (i kind target : Nat) (payload : List Byte) (hst : Nat) : (mboxAdd s i kind target payload).up hst = s.up hst := by
  simp [State.up]

end State

end Sys2Proof.Machine
end

