-- ==== Sys2Proof/Laws/FramesModes.lean ====
section
/-!
SUPPORT. What the operations of Modes.lean leave unchanged: register fields, counters, ports and upstream ports.
-/

namespace Sys2Proof.Machine

namespace State

@[simp] theorem setUnit_cnts (s : State) (i : Nat) : (setUnit s i).cnts = s.cnts := by
  unfold setUnit
  simp

@[simp] theorem setUnit_cnt (s : State) (i : Nat) (adr : Nat) : (setUnit s i).cnt adr = s.cnt adr := by
  simp [State.cnt]

@[simp] theorem setUnit_ports (s : State) (i : Nat) : (setUnit s i).ports = s.ports := by
  unfold setUnit
  simp

@[simp] theorem setUnit_port (s : State) (i : Nat) (prt : Nat) : (setUnit s i).port prt = s.port prt := by
  simp [State.port]

@[simp] theorem setUnit_ups (s : State) (i : Nat) : (setUnit s i).ups = s.ups := by
  unfold setUnit
  simp

@[simp] theorem setUnit_up (s : State) (i : Nat) (hst : Nat) : (setUnit s i).up hst = s.up hst := by
  simp [State.up]

@[simp] theorem setFailed_cnts (s : State) (i : Nat) : (setFailed s i).cnts = s.cnts := by
  unfold setFailed
  simp

@[simp] theorem setFailed_cnt (s : State) (i : Nat) (adr : Nat) : (setFailed s i).cnt adr = s.cnt adr := by
  simp [State.cnt]

@[simp] theorem setFailed_ports (s : State) (i : Nat) : (setFailed s i).ports = s.ports := by
  unfold setFailed
  simp

@[simp] theorem setFailed_port (s : State) (i : Nat) (prt : Nat) : (setFailed s i).port prt = s.port prt := by
  simp [State.port]

@[simp] theorem setFailed_ups (s : State) (i : Nat) : (setFailed s i).ups = s.ups := by
  unfold setFailed
  simp

@[simp] theorem setFailed_up (s : State) (i : Nat) (hst : Nat) : (setFailed s i).up hst = s.up hst := by
  simp [State.up]

@[simp] theorem markPort_cnts (s : State) (n cause : Nat) : (markPort s n cause).cnts = s.cnts := by
  unfold markPort
  simp

@[simp] theorem markPort_cnt (s : State) (n cause : Nat) (adr : Nat) : (markPort s n cause).cnt adr = s.cnt adr := by
  simp [State.cnt]

@[simp] theorem markPort_ports (s : State) (n cause : Nat) : (markPort s n cause).ports = s.ports := by
  unfold markPort
  simp

@[simp] theorem markPort_port (s : State) (n cause : Nat) (prt : Nat) : (markPort s n cause).port prt = s.port prt := by
  simp [State.port]

@[simp] theorem markPort_ups (s : State) (n cause : Nat) : (markPort s n cause).ups = s.ups := by
  unfold markPort
  simp

@[simp] theorem markPort_up (s : State) (n cause : Nat) (hst : Nat) : (markPort s n cause).up hst = s.up hst := by
  simp [State.up]

@[simp] theorem modeRefuse_ports (s : State) : (modeRefuse s).ports = s.ports := by
  unfold modeRefuse
  simp

@[simp] theorem modeRefuse_port (s : State) (prt : Nat) : (modeRefuse s).port prt = s.port prt := by
  simp [State.port]

@[simp] theorem modeRefuse_ups (s : State) : (modeRefuse s).ups = s.ups := by
  unfold modeRefuse
  simp

@[simp] theorem modeRefuse_up (s : State) (hst : Nat) : (modeRefuse s).up hst = s.up hst := by
  simp [State.up]

@[simp] theorem modeDone_cnts (s : State) : (modeDone s).cnts = s.cnts := by
  unfold modeDone
  simp

@[simp] theorem modeDone_cnt (s : State) (adr : Nat) : (modeDone s).cnt adr = s.cnt adr := by
  simp [State.cnt]

@[simp] theorem modeDone_ports (s : State) : (modeDone s).ports = s.ports := by
  unfold modeDone
  simp

@[simp] theorem modeDone_port (s : State) (prt : Nat) : (modeDone s).port prt = s.port prt := by
  simp [State.port]

@[simp] theorem modeDone_ups (s : State) : (modeDone s).ups = s.ups := by
  unfold modeDone
  simp

@[simp] theorem modeDone_up (s : State) (hst : Nat) : (modeDone s).up hst = s.up hst := by
  simp [State.up]

@[simp] theorem cmdWake_ports (s : State) : (cmdWake s).ports = s.ports := by
  unfold cmdWake
  simp

@[simp] theorem cmdWake_port (s : State) (prt : Nat) : (cmdWake s).port prt = s.port prt := by
  simp [State.port]

@[simp] theorem cmdWake_ups (s : State) : (cmdWake s).ups = s.ups := by
  unfold cmdWake
  simp

@[simp] theorem cmdWake_up (s : State) (hst : Nat) : (cmdWake s).up hst = s.up hst := by
  simp [State.up]

end State

end Sys2Proof.Machine
end

