-- ==== Sys2Proof/Laws/FramesCrypto.lean ====
section
/-!
SUPPORT. What the operations of Crypto.lean leave unchanged: register fields, counters, ports and upstream ports.
-/

namespace Sys2Proof.Machine

end Sys2Proof.Machine
end

