-- ==== Sys2Proof/Laws/FramesBoot.lean ====
section
/-!
SUPPORT. What the operations of Boot.lean leave unchanged: register fields, counters, ports and upstream ports.
-/

namespace Sys2Proof.Machine

namespace State

@[simp] theorem fwRefuse_flds (s : State) (r : RC) : (fwRefuse s r).flds = s.flds := by
  unfold fwRefuse
  simp

@[simp] theorem fwRefuse_get (s : State) (r : RC) (fld : Fld) : (fwRefuse s r).get fld = s.get fld := by
  simp [State.get]

@[simp] theorem fwRefuse_ports (s : State) (r : RC) : (fwRefuse s r).ports = s.ports := by
  unfold fwRefuse
  simp

@[simp] theorem fwRefuse_port (s : State) (r : RC) (prt : Nat) : (fwRefuse s r).port prt = s.port prt := by
  simp [State.port]

@[simp] theorem fwRefuse_ups (s : State) (r : RC) : (fwRefuse s r).ups = s.ups := by
  unfold fwRefuse
  simp

@[simp] theorem fwRefuse_up (s : State) (r : RC) (hst : Nat) : (fwRefuse s r).up hst = s.up hst := by
  simp [State.up]

@[simp] theorem updRefuse_ports (s : State) (r : RC) : (updRefuse s r).ports = s.ports := by
  unfold updRefuse
  simp

@[simp] theorem updRefuse_port (s : State) (r : RC) (prt : Nat) : (updRefuse s r).port prt = s.port prt := by
  simp [State.port]

@[simp] theorem updRefuse_ups (s : State) (r : RC) : (updRefuse s r).ups = s.ups := by
  unfold updRefuse
  simp

@[simp] theorem updRefuse_up (s : State) (r : RC) (hst : Nat) : (updRefuse s r).up hst = s.up hst := by
  simp [State.up]

@[simp] theorem updDone_cnts (s : State) : (updDone s).cnts = s.cnts := by
  unfold updDone
  simp

@[simp] theorem updDone_cnt (s : State) (adr : Nat) : (updDone s).cnt adr = s.cnt adr := by
  simp [State.cnt]

@[simp] theorem updDone_ports (s : State) : (updDone s).ports = s.ports := by
  unfold updDone
  simp

@[simp] theorem updDone_port (s : State) (prt : Nat) : (updDone s).port prt = s.port prt := by
  simp [State.port]

@[simp] theorem updDone_ups (s : State) : (updDone s).ups = s.ups := by
  unfold updDone
  simp

@[simp] theorem updDone_up (s : State) (hst : Nat) : (updDone s).up hst = s.up hst := by
  simp [State.up]

@[simp] theorem updBegin_ports (s : State) (m : Master) : (updBegin s m).ports = s.ports := by
  unfold updBegin
  simp

@[simp] theorem updBegin_port (s : State) (m : Master) (prt : Nat) : (updBegin s m).port prt = s.port prt := by
  simp [State.port]

@[simp] theorem updBegin_ups (s : State) (m : Master) : (updBegin s m).ups = s.ups := by
  unfold updBegin
  simp

@[simp] theorem updBegin_up (s : State) (m : Master) (hst : Nat) : (updBegin s m).up hst = s.up hst := by
  simp [State.up]

@[simp] theorem eraseAt_flds (s : State) (a : Nat) : (eraseAt s a).flds = s.flds := by
  unfold eraseAt
  simp

@[simp] theorem eraseAt_get (s : State) (a : Nat) (fld : Fld) : (eraseAt s a).get fld = s.get fld := by
  simp [State.get]

@[simp] theorem eraseAt_cnts (s : State) (a : Nat) : (eraseAt s a).cnts = s.cnts := by
  unfold eraseAt
  simp

@[simp] theorem eraseAt_cnt (s : State) (a : Nat) (adr : Nat) : (eraseAt s a).cnt adr = s.cnt adr := by
  simp [State.cnt]

@[simp] theorem eraseAt_ports (s : State) (a : Nat) : (eraseAt s a).ports = s.ports := by
  unfold eraseAt
  simp

@[simp] theorem eraseAt_port (s : State) (a : Nat) (prt : Nat) : (eraseAt s a).port prt = s.port prt := by
  simp [State.port]

@[simp] theorem eraseAt_ups (s : State) (a : Nat) : (eraseAt s a).ups = s.ups := by
  unfold eraseAt
  simp

@[simp] theorem eraseAt_up (s : State) (a : Nat) (hst : Nat) : (eraseAt s a).up hst = s.up hst := by
  simp [State.up]

@[simp] theorem updErase_ports (s : State) (m : Master) : (updErase s m).ports = s.ports := by
  unfold updErase
  simp

@[simp] theorem updErase_port (s : State) (m : Master) (prt : Nat) : (updErase s m).port prt = s.port prt := by
  simp [State.port]

@[simp] theorem updErase_ups (s : State) (m : Master) : (updErase s m).ups = s.ups := by
  unfold updErase
  simp

@[simp] theorem updErase_up (s : State) (m : Master) (hst : Nat) : (updErase s m).up hst = s.up hst := by
  simp [State.up]

@[simp] theorem programAt_flds (s : State) (a : Nat) : (programAt s a).flds = s.flds := by
  unfold programAt
  simp

@[simp] theorem programAt_get (s : State) (a : Nat) (fld : Fld) : (programAt s a).get fld = s.get fld := by
  simp [State.get]

@[simp] theorem programAt_cnts (s : State) (a : Nat) : (programAt s a).cnts = s.cnts := by
  unfold programAt
  simp

@[simp] theorem programAt_cnt (s : State) (a : Nat) (adr : Nat) : (programAt s a).cnt adr = s.cnt adr := by
  simp [State.cnt]

@[simp] theorem programAt_ports (s : State) (a : Nat) : (programAt s a).ports = s.ports := by
  unfold programAt
  simp

@[simp] theorem programAt_port (s : State) (a : Nat) (prt : Nat) : (programAt s a).port prt = s.port prt := by
  simp [State.port]

@[simp] theorem programAt_ups (s : State) (a : Nat) : (programAt s a).ups = s.ups := by
  unfold programAt
  simp

@[simp] theorem programAt_up (s : State) (a : Nat) (hst : Nat) : (programAt s a).up hst = s.up hst := by
  simp [State.up]

@[simp] theorem updProgram_ports (s : State) (m : Master) : (updProgram s m).ports = s.ports := by
  unfold updProgram
  simp

@[simp] theorem updProgram_port (s : State) (m : Master) (prt : Nat) : (updProgram s m).port prt = s.port prt := by
  simp [State.port]

@[simp] theorem updProgram_ups (s : State) (m : Master) : (updProgram s m).ups = s.ups := by
  unfold updProgram
  simp

@[simp] theorem updProgram_up (s : State) (m : Master) (hst : Nat) : (updProgram s m).up hst = s.up hst := by
  simp [State.up]

@[simp] theorem updVerify_ports (s : State) (m : Master) : (updVerify s m).ports = s.ports := by
  unfold updVerify
  simp

@[simp] theorem updVerify_port (s : State) (m : Master) (prt : Nat) : (updVerify s m).port prt = s.port prt := by
  simp [State.port]

@[simp] theorem updVerify_ups (s : State) (m : Master) : (updVerify s m).ups = s.ups := by
  unfold updVerify
  simp

@[simp] theorem updVerify_up (s : State) (m : Master) (hst : Nat) : (updVerify s m).up hst = s.up hst := by
  simp [State.up]

@[simp] theorem updEnd_ports (s : State) (m : Master) : (updEnd s m).ports = s.ports := by
  unfold updEnd
  simp

@[simp] theorem updEnd_port (s : State) (m : Master) (prt : Nat) : (updEnd s m).port prt = s.port prt := by
  simp [State.port]

@[simp] theorem updEnd_ups (s : State) (m : Master) : (updEnd s m).ups = s.ups := by
  unfold updEnd
  simp

@[simp] theorem updEnd_up (s : State) (m : Master) (hst : Nat) : (updEnd s m).up hst = s.up hst := by
  simp [State.up]

@[simp] theorem confirm_ports (s : State) : (confirm s).ports = s.ports := by
  unfold confirm
  simp

@[simp] theorem confirm_port (s : State) (prt : Nat) : (confirm s).port prt = s.port prt := by
  simp [State.port]

@[simp] theorem confirm_ups (s : State) : (confirm s).ups = s.ups := by
  unfold confirm
  simp

@[simp] theorem confirm_up (s : State) (hst : Nat) : (confirm s).up hst = s.up hst := by
  simp [State.up]

end State

end Sys2Proof.Machine
end

