-- ==== Sys2Proof/Laws/FramesFaultCmd.lean ====
section
/-!
SUPPORT. What the operations of FaultCmd.lean leave unchanged: register fields, counters, ports and upstream ports.
-/

namespace Sys2Proof.Machine

namespace State

@[simp] theorem stopEnd_flds (s old : State) : (stopEnd s old).flds = s.flds := by
  unfold stopEnd
  simp

@[simp] theorem stopEnd_get (s old : State) (fld : Fld) : (stopEnd s old).get fld = s.get fld := by
  simp [State.get]

@[simp] theorem stopEnd_cnts (s old : State) : (stopEnd s old).cnts = s.cnts := by
  unfold stopEnd
  simp

@[simp] theorem stopEnd_cnt (s old : State) (adr : Nat) : (stopEnd s old).cnt adr = s.cnt adr := by
  simp [State.cnt]

@[simp] theorem stopEnd_ports (s old : State) : (stopEnd s old).ports = s.ports := by
  unfold stopEnd
  simp

@[simp] theorem stopEnd_port (s old : State) (prt : Nat) : (stopEnd s old).port prt = s.port prt := by
  simp [State.port]

@[simp] theorem stopEnd_ups (s old : State) : (stopEnd s old).ups = s.ups := by
  unfold stopEnd
  simp

@[simp] theorem stopEnd_up (s old : State) (hst : Nat) : (stopEnd s old).up hst = s.up hst := by
  simp [State.up]

@[simp] theorem fcRefuse_flds (s : State) : (fcRefuse s).flds = s.flds := by
  unfold fcRefuse
  simp

@[simp] theorem fcRefuse_get (s : State) (fld : Fld) : (fcRefuse s).get fld = s.get fld := by
  simp [State.get]

@[simp] theorem fcRefuse_ports (s : State) : (fcRefuse s).ports = s.ports := by
  unfold fcRefuse
  simp

@[simp] theorem fcRefuse_port (s : State) (prt : Nat) : (fcRefuse s).port prt = s.port prt := by
  simp [State.port]

@[simp] theorem fcRefuse_ups (s : State) : (fcRefuse s).ups = s.ups := by
  unfold fcRefuse
  simp

@[simp] theorem fcRefuse_up (s : State) (hst : Nat) : (fcRefuse s).up hst = s.up hst := by
  simp [State.up]

@[simp] theorem ventRestart_ports (s : State) : (ventRestart s).ports = s.ports := by
  unfold ventRestart
  simp

@[simp] theorem ventRestart_port (s : State) (prt : Nat) : (ventRestart s).port prt = s.port prt := by
  simp [State.port]

@[simp] theorem ventRestart_ups (s : State) : (ventRestart s).ups = s.ups := by
  unfold ventRestart
  simp

@[simp] theorem ventRestart_up (s : State) (hst : Nat) : (ventRestart s).up hst = s.up hst := by
  simp [State.up]

@[simp] theorem wrFcCmd_ports (s : State) (c : Nat) : (wrFcCmd s c).ports = s.ports := by
  unfold wrFcCmd
  simp

@[simp] theorem wrFcCmd_port (s : State) (c : Nat) (prt : Nat) : (wrFcCmd s c).port prt = s.port prt := by
  simp [State.port]

@[simp] theorem wrFcCmd_ups (s : State) (c : Nat) : (wrFcCmd s c).ups = s.ups := by
  unfold wrFcCmd
  simp

@[simp] theorem wrFcCmd_up (s : State) (c : Nat) (hst : Nat) : (wrFcCmd s c).up hst = s.up hst := by
  simp [State.up]

@[simp] theorem kick_flds (s : State) : (kick s).flds = s.flds := by
  unfold kick
  simp

@[simp] theorem kick_get (s : State) (fld : Fld) : (kick s).get fld = s.get fld := by
  simp [State.get]

@[simp] theorem kick_cnts (s : State) : (kick s).cnts = s.cnts := by
  unfold kick
  simp

@[simp] theorem kick_cnt (s : State) (adr : Nat) : (kick s).cnt adr = s.cnt adr := by
  simp [State.cnt]

@[simp] theorem kick_ports (s : State) : (kick s).ports = s.ports := by
  unfold kick
  simp

@[simp] theorem kick_port (s : State) (prt : Nat) : (kick s).port prt = s.port prt := by
  simp [State.port]

@[simp] theorem kick_ups (s : State) : (kick s).ups = s.ups := by
  unfold kick
  simp

@[simp] theorem kick_up (s : State) (hst : Nat) : (kick s).up hst = s.up hst := by
  simp [State.up]

@[simp] theorem injRefuse_ports (s : State) (r : RC) : (injRefuse s r).ports = s.ports := by
  unfold injRefuse
  simp

@[simp] theorem injRefuse_port (s : State) (r : RC) (prt : Nat) : (injRefuse s r).port prt = s.port prt := by
  simp [State.port]

@[simp] theorem injRefuse_ups (s : State) (r : RC) : (injRefuse s r).ups = s.ups := by
  unfold injRefuse
  simp

@[simp] theorem injRefuse_up (s : State) (r : RC) (hst : Nat) : (injRefuse s r).up hst = s.up hst := by
  simp [State.up]

@[simp] theorem injArm_ports (s : State) (i inst : Nat) : (injArm s i inst).ports = s.ports := by
  unfold injArm
  simp

@[simp] theorem injArm_port (s : State) (i inst : Nat) (prt : Nat) : (injArm s i inst).port prt = s.port prt := by
  simp [State.port]

@[simp] theorem injArm_ups (s : State) (i inst : Nat) : (injArm s i inst).ups = s.ups := by
  unfold injArm
  simp

@[simp] theorem injArm_up (s : State) (i inst : Nat) (hst : Nat) : (injArm s i inst).up hst = s.up hst := by
  simp [State.up]

@[simp] theorem injDisarm_ports (s : State) : (injDisarm s).ports = s.ports := by
  unfold injDisarm
  simp

@[simp] theorem injDisarm_port (s : State) (prt : Nat) : (injDisarm s).port prt = s.port prt := by
  simp [State.port]

@[simp] theorem injDisarm_ups (s : State) : (injDisarm s).ups = s.ups := by
  unfold injDisarm
  simp

@[simp] theorem injDisarm_up (s : State) (hst : Nat) : (injDisarm s).up hst = s.up hst := by
  simp [State.up]

@[simp] theorem wrInj_ports (s : State) (v : Nat) : (wrInj s v).ports = s.ports := by
  unfold wrInj
  split <;> simp

@[simp] theorem wrInj_port (s : State) (v : Nat) (prt : Nat) : (wrInj s v).port prt = s.port prt := by
  simp [State.port]

@[simp] theorem wrInj_ups (s : State) (v : Nat) : (wrInj s v).ups = s.ups := by
  unfold wrInj
  split <;> simp

@[simp] theorem wrInj_up (s : State) (v : Nat) (hst : Nat) : (wrInj s v).up hst = s.up hst := by
  simp [State.up]

end State

end Sys2Proof.Machine
end

