-- ==== Sys2Proof/Laws/FramesAtb.lean ====
section
/-!
SUPPORT. What the operations of Atb.lean leave unchanged: register fields, counters, ports and upstream ports.
-/

namespace Sys2Proof.Machine

namespace State

@[simp] theorem atbRefuse_flds (s : State) (r : RC) : (atbRefuse s r).flds = s.flds := by
  unfold atbRefuse
  simp

@[simp] theorem atbRefuse_get (s : State) (r : RC) (fld : Fld) : (atbRefuse s r).get fld = s.get fld := by
  simp [State.get]

@[simp] theorem atbRefuse_ports (s : State) (r : RC) : (atbRefuse s r).ports = s.ports := by
  unfold atbRefuse
  simp

@[simp] theorem atbRefuse_port (s : State) (r : RC) (prt : Nat) : (atbRefuse s r).port prt = s.port prt := by
  simp [State.port]

@[simp] theorem atbRefuse_ups (s : State) (r : RC) : (atbRefuse s r).ups = s.ups := by
  unfold atbRefuse
  simp

@[simp] theorem atbRefuse_up (s : State) (r : RC) (hst : Nat) : (atbRefuse s r).up hst = s.up hst := by
  simp [State.up]

@[simp] theorem wrAtb_ports (s : State) (v : Nat) : (wrAtb s v).ports = s.ports := by
  unfold wrAtb
  simp

@[simp] theorem wrAtb_port (s : State) (v : Nat) (prt : Nat) : (wrAtb s v).port prt = s.port prt := by
  simp [State.port]

@[simp] theorem wrAtb_ups (s : State) (v : Nat) : (wrAtb s v).ups = s.ups := by
  unfold wrAtb
  simp

@[simp] theorem wrAtb_up (s : State) (v : Nat) (hst : Nat) : (wrAtb s v).up hst = s.up hst := by
  simp [State.up]

end State

end Sys2Proof.Machine
end

