-- ==== Sys2Proof/Laws/FramesFabric.lean ====
section
/-!
SUPPORT. What the operations of Fabric.lean leave unchanged: register fields, counters, ports and upstream ports.
-/

namespace Sys2Proof.Machine

namespace State

@[simp] theorem putField_cnts (s : State) (f : FieldRow) (a i v : Nat) : (putField s f a i v).cnts = s.cnts := by
  unfold putField
  split <;> simp

@[simp] theorem putField_cnt (s : State) (f : FieldRow) (a i v : Nat) (adr : Nat) : (putField s f a i v).cnt adr = s.cnt adr := by
  simp [State.cnt]

@[simp] theorem putField_ports (s : State) (f : FieldRow) (a i v : Nat) : (putField s f a i v).ports = s.ports := by
  unfold putField
  split <;> simp

@[simp] theorem putField_port (s : State) (f : FieldRow) (a i v : Nat) (prt : Nat) : (putField s f a i v).port prt = s.port prt := by
  simp [State.port]

@[simp] theorem putField_ups (s : State) (f : FieldRow) (a i v : Nat) : (putField s f a i v).ups = s.ups := by
  unfold putField
  split <;> simp

@[simp] theorem putField_up (s : State) (f : FieldRow) (a i v : Nat) (hst : Nat) : (putField s f a i v).up hst = s.up hst := by
  simp [State.up]

@[simp] theorem putFields_cnts (s : State) (l : List FieldRow) (a i v : Nat) : (putFields s l a i v).cnts = s.cnts := by
  unfold putFields
  simp

@[simp] theorem putFields_cnt (s : State) (l : List FieldRow) (a i v : Nat) (adr : Nat) : (putFields s l a i v).cnt adr = s.cnt adr := by
  simp [State.cnt]

@[simp] theorem putFields_ports (s : State) (l : List FieldRow) (a i v : Nat) : (putFields s l a i v).ports = s.ports := by
  unfold putFields
  simp

@[simp] theorem putFields_port (s : State) (l : List FieldRow) (a i v : Nat) (prt : Nat) : (putFields s l a i v).port prt = s.port prt := by
  simp [State.port]

@[simp] theorem putFields_ups (s : State) (l : List FieldRow) (a i v : Nat) : (putFields s l a i v).ups = s.ups := by
  unfold putFields
  simp

@[simp] theorem putFields_up (s : State) (l : List FieldRow) (a i v : Nat) (hst : Nat) : (putFields s l a i v).up hst = s.up hst := by
  simp [State.up]

@[simp] theorem wrForgive_flds (s : State) (i v : Nat) : (wrForgive s i v).flds = s.flds := by
  unfold wrForgive
  simp

@[simp] theorem wrForgive_get (s : State) (i v : Nat) (fld : Fld) : (wrForgive s i v).get fld = s.get fld := by
  simp [State.get]

@[simp] theorem wrForgive_cnts (s : State) (i v : Nat) : (wrForgive s i v).cnts = s.cnts := by
  unfold wrForgive
  simp

@[simp] theorem wrForgive_cnt (s : State) (i v : Nat) (adr : Nat) : (wrForgive s i v).cnt adr = s.cnt adr := by
  simp [State.cnt]

@[simp] theorem wrForgive_ports (s : State) (i v : Nat) : (wrForgive s i v).ports = s.ports := by
  unfold wrForgive
  simp

@[simp] theorem wrForgive_port (s : State) (i v : Nat) (prt : Nat) : (wrForgive s i v).port prt = s.port prt := by
  simp [State.port]

@[simp] theorem wrForgive_ups (s : State) (i v : Nat) : (wrForgive s i v).ups = s.ups := by
  unfold wrForgive
  simp

@[simp] theorem wrForgive_up (s : State) (i v : Nat) (hst : Nat) : (wrForgive s i v).up hst = s.up hst := by
  simp [State.up]

@[simp] theorem wrEvRoute_cnts (s : State) (i v : Nat) : (wrEvRoute s i v).cnts = s.cnts := by
  unfold wrEvRoute
  simp

@[simp] theorem wrEvRoute_cnt (s : State) (i v : Nat) (adr : Nat) : (wrEvRoute s i v).cnt adr = s.cnt adr := by
  simp [State.cnt]

@[simp] theorem wrEvRoute_ports (s : State) (i v : Nat) : (wrEvRoute s i v).ports = s.ports := by
  unfold wrEvRoute
  simp

@[simp] theorem wrEvRoute_port (s : State) (i v : Nat) (prt : Nat) : (wrEvRoute s i v).port prt = s.port prt := by
  simp [State.port]

@[simp] theorem wrEvRoute_ups (s : State) (i v : Nat) : (wrEvRoute s i v).ups = s.ups := by
  unfold wrEvRoute
  simp

@[simp] theorem wrEvRoute_up (s : State) (i v : Nat) (hst : Nat) : (wrEvRoute s i v).up hst = s.up hst := by
  simp [State.up]

@[simp] theorem mgmtSend_cnts (s : State) (v : Nat) : (mgmtSend s v).cnts = s.cnts := by
  unfold mgmtSend
  simp

@[simp] theorem mgmtSend_cnt (s : State) (v : Nat) (adr : Nat) : (mgmtSend s v).cnt adr = s.cnt adr := by
  simp [State.cnt]

@[simp] theorem mgmtSend_ports (s : State) (v : Nat) : (mgmtSend s v).ports = s.ports := by
  unfold mgmtSend
  simp

@[simp] theorem mgmtSend_port (s : State) (v : Nat) (prt : Nat) : (mgmtSend s v).port prt = s.port prt := by
  simp [State.port]

@[simp] theorem mgmtSend_ups (s : State) (v : Nat) : (mgmtSend s v).ups = s.ups := by
  unfold mgmtSend
  simp

@[simp] theorem mgmtSend_up (s : State) (v : Nat) (hst : Nat) : (mgmtSend s v).up hst = s.up hst := by
  simp [State.up]

@[simp] theorem cntRec_flds (s : State) (m : Master) (a cmd pre : Nat) : (cntRec s m a cmd pre).flds = s.flds := by
  unfold cntRec
  simp

@[simp] theorem cntRec_get (s : State) (m : Master) (a cmd pre : Nat) (fld : Fld) : (cntRec s m a cmd pre).get fld = s.get fld := by
  simp [State.get]

@[simp] theorem cntRec_ports (s : State) (m : Master) (a cmd pre : Nat) : (cntRec s m a cmd pre).ports = s.ports := by
  unfold cntRec
  simp

@[simp] theorem cntRec_port (s : State) (m : Master) (a cmd pre : Nat) (prt : Nat) : (cntRec s m a cmd pre).port prt = s.port prt := by
  simp [State.port]

@[simp] theorem cntRec_ups (s : State) (m : Master) (a cmd pre : Nat) : (cntRec s m a cmd pre).ups = s.ups := by
  unfold cntRec
  simp

@[simp] theorem cntRec_up (s : State) (m : Master) (a cmd pre : Nat) (hst : Nat) : (cntRec s m a cmd pre).up hst = s.up hst := by
  simp [State.up]

@[simp] theorem clearAt_flds (s : State) (kind a : Nat) : (clearAt s kind a).flds = s.flds := by
  unfold clearAt
  simp

@[simp] theorem clearAt_get (s : State) (kind a : Nat) (fld : Fld) : (clearAt s kind a).get fld = s.get fld := by
  simp [State.get]

@[simp] theorem clearAt_ports (s : State) (kind a : Nat) : (clearAt s kind a).ports = s.ports := by
  unfold clearAt
  simp

@[simp] theorem clearAt_port (s : State) (kind a : Nat) (prt : Nat) : (clearAt s kind a).port prt = s.port prt := by
  simp [State.port]

@[simp] theorem clearAt_ups (s : State) (kind a : Nat) : (clearAt s kind a).ups = s.ups := by
  unfold clearAt
  simp

@[simp] theorem clearAt_up (s : State) (kind a : Nat) (hst : Nat) : (clearAt s kind a).up hst = s.up hst := by
  simp [State.up]

@[simp] theorem clearWhere_flds (s : State) (p : Nat → Bool) : (clearWhere s p).flds = s.flds := by
  unfold clearWhere
  simp

@[simp] theorem clearWhere_get (s : State) (p : Nat → Bool) (fld : Fld) : (clearWhere s p).get fld = s.get fld := by
  simp [State.get]

@[simp] theorem clearWhere_ports (s : State) (p : Nat → Bool) : (clearWhere s p).ports = s.ports := by
  unfold clearWhere
  simp

@[simp] theorem clearWhere_port (s : State) (p : Nat → Bool) (prt : Nat) : (clearWhere s p).port prt = s.port prt := by
  simp [State.port]

@[simp] theorem clearWhere_ups (s : State) (p : Nat → Bool) : (clearWhere s p).ups = s.ups := by
  unfold clearWhere
  simp

@[simp] theorem clearWhere_up (s : State) (p : Nat → Bool) (hst : Nat) : (clearWhere s p).up hst = s.up hst := by
  simp [State.up]

@[simp] theorem clearOne_ports (s : State) (m : Master) : (clearOne s m).ports = s.ports := by
  unfold clearOne
  dsimp only
  split <;> simp

@[simp] theorem clearOne_port (s : State) (m : Master) (prt : Nat) : (clearOne s m).port prt = s.port prt := by
  simp [State.port]

@[simp] theorem clearOne_ups (s : State) (m : Master) : (clearOne s m).ups = s.ups := by
  unfold clearOne
  dsimp only
  split <;> simp

@[simp] theorem clearOne_up (s : State) (m : Master) (hst : Nat) : (clearOne s m).up hst = s.up hst := by
  simp [State.up]

@[simp] theorem clearPrefix_ports (s : State) (m : Master) (p : Nat) : (clearPrefix s m p).ports = s.ports := by
  unfold clearPrefix
  simp

@[simp] theorem clearPrefix_port (s : State) (m : Master) (p : Nat) (prt : Nat) : (clearPrefix s m p).port prt = s.port prt := by
  simp [State.port]

@[simp] theorem clearPrefix_ups (s : State) (m : Master) (p : Nat) : (clearPrefix s m p).ups = s.ups := by
  unfold clearPrefix
  simp

@[simp] theorem clearPrefix_up (s : State) (m : Master) (p : Nat) (hst : Nat) : (clearPrefix s m p).up hst = s.up hst := by
  simp [State.up]

@[simp] theorem clearAll_ports (s : State) (m : Master) : (clearAll s m).ports = s.ports := by
  unfold clearAll
  simp

@[simp] theorem clearAll_port (s : State) (m : Master) (prt : Nat) : (clearAll s m).port prt = s.port prt := by
  simp [State.port]

@[simp] theorem clearAll_ups (s : State) (m : Master) : (clearAll s m).ups = s.ups := by
  unfold clearAll
  simp

@[simp] theorem clearAll_up (s : State) (m : Master) (hst : Nat) : (clearAll s m).up hst = s.up hst := by
  simp [State.up]

@[simp] theorem wrCntCtl_ports (s : State) (m : Master) (v : Nat) : (wrCntCtl s m v).ports = s.ports := by
  unfold wrCntCtl
  split <;> simp

@[simp] theorem wrCntCtl_port (s : State) (m : Master) (v : Nat) (prt : Nat) : (wrCntCtl s m v).port prt = s.port prt := by
  simp [State.port]

@[simp] theorem wrCntCtl_ups (s : State) (m : Master) (v : Nat) : (wrCntCtl s m v).ups = s.ups := by
  unfold wrCntCtl
  split <;> simp

@[simp] theorem wrCntCtl_up (s : State) (m : Master) (v : Nat) (hst : Nat) : (wrCntCtl s m v).up hst = s.up hst := by
  simp [State.up]

@[simp] theorem dropSnap_flds (s : State) (m : Master) (lo : Nat) : (dropSnap s m lo).flds = s.flds := by
  unfold dropSnap
  simp

@[simp] theorem dropSnap_get (s : State) (m : Master) (lo : Nat) (fld : Fld) : (dropSnap s m lo).get fld = s.get fld := by
  simp [State.get]

@[simp] theorem dropSnap_cnts (s : State) (m : Master) (lo : Nat) : (dropSnap s m lo).cnts = s.cnts := by
  unfold dropSnap
  simp

@[simp] theorem dropSnap_cnt (s : State) (m : Master) (lo : Nat) (adr : Nat) : (dropSnap s m lo).cnt adr = s.cnt adr := by
  simp [State.cnt]

@[simp] theorem dropSnap_ports (s : State) (m : Master) (lo : Nat) : (dropSnap s m lo).ports = s.ports := by
  unfold dropSnap
  simp

@[simp] theorem dropSnap_port (s : State) (m : Master) (lo : Nat) (prt : Nat) : (dropSnap s m lo).port prt = s.port prt := by
  simp [State.port]

@[simp] theorem dropSnap_ups (s : State) (m : Master) (lo : Nat) : (dropSnap s m lo).ups = s.ups := by
  unfold dropSnap
  simp

@[simp] theorem dropSnap_up (s : State) (m : Master) (lo : Nat) (hst : Nat) : (dropSnap s m lo).up hst = s.up hst := by
  simp [State.up]

@[simp] theorem takeSnap_flds (s : State) (m : Master) (lo hi : Nat) : (takeSnap s m lo hi).flds = s.flds := by
  unfold takeSnap
  simp

@[simp] theorem takeSnap_get (s : State) (m : Master) (lo hi : Nat) (fld : Fld) : (takeSnap s m lo hi).get fld = s.get fld := by
  simp [State.get]

@[simp] theorem takeSnap_cnts (s : State) (m : Master) (lo hi : Nat) : (takeSnap s m lo hi).cnts = s.cnts := by
  unfold takeSnap
  simp

@[simp] theorem takeSnap_cnt (s : State) (m : Master) (lo hi : Nat) (adr : Nat) : (takeSnap s m lo hi).cnt adr = s.cnt adr := by
  simp [State.cnt]

@[simp] theorem takeSnap_ports (s : State) (m : Master) (lo hi : Nat) : (takeSnap s m lo hi).ports = s.ports := by
  unfold takeSnap
  simp

@[simp] theorem takeSnap_port (s : State) (m : Master) (lo hi : Nat) (prt : Nat) : (takeSnap s m lo hi).port prt = s.port prt := by
  simp [State.port]

@[simp] theorem takeSnap_ups (s : State) (m : Master) (lo hi : Nat) : (takeSnap s m lo hi).ups = s.ups := by
  unfold takeSnap
  simp

@[simp] theorem takeSnap_up (s : State) (m : Master) (lo hi : Nat) (hst : Nat) : (takeSnap s m lo hi).up hst = s.up hst := by
  simp [State.up]

@[simp] theorem slotDrop_flds (s : State) (m : Master) : (slotDrop s m).flds = s.flds := by
  unfold slotDrop
  simp

@[simp] theorem slotDrop_get (s : State) (m : Master) (fld : Fld) : (slotDrop s m).get fld = s.get fld := by
  simp [State.get]

@[simp] theorem slotDrop_cnts (s : State) (m : Master) : (slotDrop s m).cnts = s.cnts := by
  unfold slotDrop
  simp

@[simp] theorem slotDrop_cnt (s : State) (m : Master) (adr : Nat) : (slotDrop s m).cnt adr = s.cnt adr := by
  simp [State.cnt]

@[simp] theorem slotDrop_ports (s : State) (m : Master) : (slotDrop s m).ports = s.ports := by
  unfold slotDrop
  simp

@[simp] theorem slotDrop_port (s : State) (m : Master) (prt : Nat) : (slotDrop s m).port prt = s.port prt := by
  simp [State.port]

@[simp] theorem slotDrop_ups (s : State) (m : Master) : (slotDrop s m).ups = s.ups := by
  unfold slotDrop
  simp

@[simp] theorem slotDrop_up (s : State) (m : Master) (hst : Nat) : (slotDrop s m).up hst = s.up hst := by
  simp [State.up]

end State

end Sys2Proof.Machine
end

