-- ==== Sys2Proof/Laws/FramesRegisters.lean ====
section
/-!
SUPPORT. What the operations of Registers.lean leave unchanged: register fields, counters, ports and upstream ports.
-/

namespace Sys2Proof.Machine

namespace State

@[simp] theorem notice_flds (s : State) (r : LogRec) (u : Nat) : (notice s r u).flds = s.flds := by
  unfold notice
  simp

@[simp] theorem notice_get (s : State) (r : LogRec) (u : Nat) (fld : Fld) : (notice s r u).get fld = s.get fld := by
  simp [State.get]

@[simp] theorem notice_ports (s : State) (r : LogRec) (u : Nat) : (notice s r u).ports = s.ports := by
  unfold notice
  simp

@[simp] theorem notice_port (s : State) (r : LogRec) (u : Nat) (prt : Nat) : (notice s r u).port prt = s.port prt := by
  simp [State.port]

end State

end Sys2Proof.Machine
end

