-- ==== Sys2Proof/Laws/FramesMgmt.lean ====
section
/-!
SUPPORT. What the operations of Mgmt.lean leave unchanged: register fields, counters, ports and upstream ports.
-/

namespace Sys2Proof.Machine

namespace State

@[simp] theorem mgmtTo_flds (s : State) (mcode dest len : Nat) (body : List Nat) : (mgmtTo s mcode dest len body).flds = s.flds := by
  unfold mgmtTo
  simp

@[simp] theorem mgmtTo_get (s : State) (mcode dest len : Nat) (body : List Nat) (fld : Fld) : (mgmtTo s mcode dest len body).get fld = s.get fld := by
  simp [State.get]

@[simp] theorem mgmtTo_cnts (s : State) (mcode dest len : Nat) (body : List Nat) : (mgmtTo s mcode dest len body).cnts = s.cnts := by
  unfold mgmtTo
  simp

@[simp] theorem mgmtTo_cnt (s : State) (mcode dest len : Nat) (body : List Nat) (adr : Nat) : (mgmtTo s mcode dest len body).cnt adr = s.cnt adr := by
  simp [State.cnt]

@[simp] theorem mgmtTo_ports (s : State) (mcode dest len : Nat) (body : List Nat) : (mgmtTo s mcode dest len body).ports = s.ports := by
  unfold mgmtTo
  simp

@[simp] theorem mgmtTo_port (s : State) (mcode dest len : Nat) (body : List Nat) (prt : Nat) : (mgmtTo s mcode dest len body).port prt = s.port prt := by
  simp [State.port]

@[simp] theorem mgmtTo_ups (s : State) (mcode dest len : Nat) (body : List Nat) : (mgmtTo s mcode dest len body).ups = s.ups := by
  unfold mgmtTo
  simp

@[simp] theorem mgmtTo_up (s : State) (mcode dest len : Nat) (body : List Nat) (hst : Nat) : (mgmtTo s mcode dest len body).up hst = s.up hst := by
  simp [State.up]

@[simp] theorem mboxKcl_flds (s : State) (data : List Byte) : (mboxKcl s data).flds = s.flds := by
  unfold mboxKcl
  simp

@[simp] theorem mboxKcl_get (s : State) (data : List Byte) (fld : Fld) : (mboxKcl s data).get fld = s.get fld := by
  simp [State.get]

@[simp] theorem mboxKcl_ports (s : State) (data : List Byte) : (mboxKcl s data).ports = s.ports := by
  unfold mboxKcl
  simp

@[simp] theorem mboxKcl_port (s : State) (data : List Byte) (prt : Nat) : (mboxKcl s data).port prt = s.port prt := by
  simp [State.port]

@[simp] theorem mboxKcl_ups (s : State) (data : List Byte) : (mboxKcl s data).ups = s.ups := by
  unfold mboxKcl
  simp

@[simp] theorem mboxKcl_up (s : State) (data : List Byte) (hst : Nat) : (mboxKcl s data).up hst = s.up hst := by
  simp [State.up]

@[simp] theorem reqDone_flds (s : State) (c : Nat) (mcs : List Nat) : (reqDone s c mcs).flds = s.flds := by
  unfold reqDone
  split <;> simp

@[simp] theorem reqDone_get (s : State) (c : Nat) (mcs : List Nat) (fld : Fld) : (reqDone s c mcs).get fld = s.get fld := by
  simp [State.get]

@[simp] theorem reqDone_cnts (s : State) (c : Nat) (mcs : List Nat) : (reqDone s c mcs).cnts = s.cnts := by
  unfold reqDone
  split <;> simp

@[simp] theorem reqDone_cnt (s : State) (c : Nat) (mcs : List Nat) (adr : Nat) : (reqDone s c mcs).cnt adr = s.cnt adr := by
  simp [State.cnt]

@[simp] theorem reqDone_ports (s : State) (c : Nat) (mcs : List Nat) : (reqDone s c mcs).ports = s.ports := by
  unfold reqDone
  split <;> simp

@[simp] theorem reqDone_port (s : State) (c : Nat) (mcs : List Nat) (prt : Nat) : (reqDone s c mcs).port prt = s.port prt := by
  simp [State.port]

@[simp] theorem reqDone_ups (s : State) (c : Nat) (mcs : List Nat) : (reqDone s c mcs).ups = s.ups := by
  unfold reqDone
  split <;> simp

@[simp] theorem reqDone_up (s : State) (c : Nat) (mcs : List Nat) (hst : Nat) : (reqDone s c mcs).up hst = s.up hst := by
  simp [State.up]

end State

end Sys2Proof.Machine
end

