-- ==== Sys2Proof/Laws/FramesRom.lean ====
section
/-!
SUPPORT. What the operations of Rom.lean leave unchanged: register fields, counters, ports and upstream ports.
-/

namespace Sys2Proof.Machine

namespace State

@[simp] theorem tableSkip_ports (s : State) (i : Nat) : (tableSkip s i).ports = s.ports := by
  unfold tableSkip
  simp

@[simp] theorem tableSkip_port (s : State) (i : Nat) (prt : Nat) : (tableSkip s i).port prt = s.port prt := by
  simp [State.port]

@[simp] theorem tableSkip_ups (s : State) (i : Nat) : (tableSkip s i).ups = s.ups := by
  unfold tableSkip
  simp

@[simp] theorem tableSkip_up (s : State) (i : Nat) (hst : Nat) : (tableSkip s i).up hst = s.up hst := by
  simp [State.up]

@[simp] theorem loadSections_flds (s : State) (b : Nat) (h : Header) : (loadSections s b h).flds = s.flds := by
  unfold loadSections
  simp

@[simp] theorem loadSections_get (s : State) (b : Nat) (h : Header) (fld : Fld) : (loadSections s b h).get fld = s.get fld := by
  simp [State.get]

@[simp] theorem loadSections_cnts (s : State) (b : Nat) (h : Header) : (loadSections s b h).cnts = s.cnts := by
  unfold loadSections
  simp

@[simp] theorem loadSections_cnt (s : State) (b : Nat) (h : Header) (adr : Nat) : (loadSections s b h).cnt adr = s.cnt adr := by
  simp [State.cnt]

@[simp] theorem loadSections_ports (s : State) (b : Nat) (h : Header) : (loadSections s b h).ports = s.ports := by
  unfold loadSections
  simp

@[simp] theorem loadSections_port (s : State) (b : Nat) (h : Header) (prt : Nat) : (loadSections s b h).port prt = s.port prt := by
  simp [State.port]

@[simp] theorem loadSections_ups (s : State) (b : Nat) (h : Header) : (loadSections s b h).ups = s.ups := by
  unfold loadSections
  simp

@[simp] theorem loadSections_up (s : State) (b : Nat) (h : Header) (hst : Nat) : (loadSections s b h).up hst = s.up hst := by
  simp [State.up]

@[simp] theorem bootThread_cnts (s : State) (t a : Nat) : (bootThread s t a).cnts = s.cnts := by
  unfold bootThread
  simp

@[simp] theorem bootThread_cnt (s : State) (t a : Nat) (adr : Nat) : (bootThread s t a).cnt adr = s.cnt adr := by
  simp [State.cnt]

@[simp] theorem bootThread_ports (s : State) (t a : Nat) : (bootThread s t a).ports = s.ports := by
  unfold bootThread
  simp

@[simp] theorem bootThread_port (s : State) (t a : Nat) (prt : Nat) : (bootThread s t a).port prt = s.port prt := by
  simp [State.port]

@[simp] theorem bootThread_ups (s : State) (t a : Nat) : (bootThread s t a).ups = s.ups := by
  unfold bootThread
  simp

@[simp] theorem bootThread_up (s : State) (t a : Nat) (hst : Nat) : (bootThread s t a).up hst = s.up hst := by
  simp [State.up]

@[simp] theorem startImageThreads_cnts (s : State) (h : Header) : (startImageThreads s h).cnts = s.cnts := by
  unfold startImageThreads
  simp

@[simp] theorem startImageThreads_cnt (s : State) (h : Header) (adr : Nat) : (startImageThreads s h).cnt adr = s.cnt adr := by
  simp [State.cnt]

@[simp] theorem startImageThreads_ports (s : State) (h : Header) : (startImageThreads s h).ports = s.ports := by
  unfold startImageThreads
  simp

@[simp] theorem startImageThreads_port (s : State) (h : Header) (prt : Nat) : (startImageThreads s h).port prt = s.port prt := by
  simp [State.port]

@[simp] theorem startImageThreads_ups (s : State) (h : Header) : (startImageThreads s h).ups = s.ups := by
  unfold startImageThreads
  simp

@[simp] theorem startImageThreads_up (s : State) (h : Header) (hst : Nat) : (startImageThreads s h).up hst = s.up hst := by
  simp [State.up]

end State

end Sys2Proof.Machine
end

