-- ==== Sys2Proof/Laws/FramesIssue.lean ====
section
/-!
SUPPORT. What the operations of Issue.lean leave unchanged: register fields, counters, ports and upstream ports.
-/

namespace Sys2Proof.Machine

namespace State

@[simp] theorem nextPc_flds (s : State) (t : Nat) : (nextPc s t).flds = s.flds := by
  unfold nextPc
  simp

@[simp] theorem nextPc_get (s : State) (t : Nat) (fld : Fld) : (nextPc s t).get fld = s.get fld := by
  simp [State.get]

@[simp] theorem nextPc_cnts (s : State) (t : Nat) : (nextPc s t).cnts = s.cnts := by
  unfold nextPc
  simp

@[simp] theorem nextPc_cnt (s : State) (t : Nat) (adr : Nat) : (nextPc s t).cnt adr = s.cnt adr := by
  simp [State.cnt]

@[simp] theorem nextPc_ports (s : State) (t : Nat) : (nextPc s t).ports = s.ports := by
  unfold nextPc
  simp

@[simp] theorem nextPc_port (s : State) (t : Nat) (prt : Nat) : (nextPc s t).port prt = s.port prt := by
  simp [State.port]

@[simp] theorem nextPc_ups (s : State) (t : Nat) : (nextPc s t).ups = s.ups := by
  unfold nextPc
  simp

@[simp] theorem nextPc_up (s : State) (t : Nat) (hst : Nat) : (nextPc s t).up hst = s.up hst := by
  simp [State.up]

@[simp] theorem result_flds (s : State) (t rd : Nat) (v : Word) : (result s t rd v).flds = s.flds := by
  unfold result
  simp

@[simp] theorem result_get (s : State) (t rd : Nat) (v : Word) (fld : Fld) : (result s t rd v).get fld = s.get fld := by
  simp [State.get]

@[simp] theorem result_cnts (s : State) (t rd : Nat) (v : Word) : (result s t rd v).cnts = s.cnts := by
  unfold result
  simp

@[simp] theorem result_cnt (s : State) (t rd : Nat) (v : Word) (adr : Nat) : (result s t rd v).cnt adr = s.cnt adr := by
  simp [State.cnt]

@[simp] theorem result_ports (s : State) (t rd : Nat) (v : Word) : (result s t rd v).ports = s.ports := by
  unfold result
  simp

@[simp] theorem result_port (s : State) (t rd : Nat) (v : Word) (prt : Nat) : (result s t rd v).port prt = s.port prt := by
  simp [State.port]

@[simp] theorem result_ups (s : State) (t rd : Nat) (v : Word) : (result s t rd v).ups = s.ups := by
  unfold result
  simp

@[simp] theorem result_up (s : State) (t rd : Nat) (v : Word) (hst : Nat) : (result s t rd v).up hst = s.up hst := by
  simp [State.up]

@[simp] theorem stallT_flds (s : State) (t : Nat) : (stallT s t).flds = s.flds := by
  unfold stallT
  simp

@[simp] theorem stallT_get (s : State) (t : Nat) (fld : Fld) : (stallT s t).get fld = s.get fld := by
  simp [State.get]

@[simp] theorem stallT_cnts (s : State) (t : Nat) : (stallT s t).cnts = s.cnts := by
  unfold stallT
  simp

@[simp] theorem stallT_cnt (s : State) (t : Nat) (adr : Nat) : (stallT s t).cnt adr = s.cnt adr := by
  simp [State.cnt]

@[simp] theorem stallT_ports (s : State) (t : Nat) : (stallT s t).ports = s.ports := by
  unfold stallT
  simp

@[simp] theorem stallT_port (s : State) (t : Nat) (prt : Nat) : (stallT s t).port prt = s.port prt := by
  simp [State.port]

@[simp] theorem stallT_ups (s : State) (t : Nat) : (stallT s t).ups = s.ups := by
  unfold stallT
  simp

@[simp] theorem stallT_up (s : State) (t : Nat) (hst : Nat) : (stallT s t).up hst = s.up hst := by
  simp [State.up]

@[simp] theorem setLres_flds (s : State) (t : Nat) : (setLres s t).flds = s.flds := by
  unfold setLres
  simp

@[simp] theorem setLres_get (s : State) (t : Nat) (fld : Fld) : (setLres s t).get fld = s.get fld := by
  simp [State.get]

@[simp] theorem setLres_cnts (s : State) (t : Nat) : (setLres s t).cnts = s.cnts := by
  unfold setLres
  simp

@[simp] theorem setLres_cnt (s : State) (t : Nat) (adr : Nat) : (setLres s t).cnt adr = s.cnt adr := by
  simp [State.cnt]

@[simp] theorem setLres_ports (s : State) (t : Nat) : (setLres s t).ports = s.ports := by
  unfold setLres
  simp

@[simp] theorem setLres_port (s : State) (t : Nat) (prt : Nat) : (setLres s t).port prt = s.port prt := by
  simp [State.port]

@[simp] theorem setLres_ups (s : State) (t : Nat) : (setLres s t).ups = s.ups := by
  unfold setLres
  simp

@[simp] theorem setLres_up (s : State) (t : Nat) (hst : Nat) : (setLres s t).up hst = s.up hst := by
  simp [State.up]

@[simp] theorem freeTake_flds (s : State) (n : Nat) : (freeTake s n).flds = s.flds := by
  unfold freeTake
  simp

@[simp] theorem freeTake_get (s : State) (n : Nat) (fld : Fld) : (freeTake s n).get fld = s.get fld := by
  simp [State.get]

@[simp] theorem freeTake_cnts (s : State) (n : Nat) : (freeTake s n).cnts = s.cnts := by
  unfold freeTake
  simp

@[simp] theorem freeTake_cnt (s : State) (n : Nat) (adr : Nat) : (freeTake s n).cnt adr = s.cnt adr := by
  simp [State.cnt]

@[simp] theorem freeTake_ports (s : State) (n : Nat) : (freeTake s n).ports = s.ports := by
  unfold freeTake
  simp

@[simp] theorem freeTake_port (s : State) (n : Nat) (prt : Nat) : (freeTake s n).port prt = s.port prt := by
  simp [State.port]

@[simp] theorem freeTake_ups (s : State) (n : Nat) : (freeTake s n).ups = s.ups := by
  unfold freeTake
  simp

@[simp] theorem freeTake_up (s : State) (n : Nat) (hst : Nat) : (freeTake s n).up hst = s.up hst := by
  simp [State.up]

@[simp] theorem putBytes_flds (s : State) (t a : Nat) (l : List Byte) : (putBytes s t a l).flds = s.flds := by
  unfold putBytes
  simp

@[simp] theorem putBytes_get (s : State) (t a : Nat) (l : List Byte) (fld : Fld) : (putBytes s t a l).get fld = s.get fld := by
  simp [State.get]

@[simp] theorem putBytes_cnts (s : State) (t a : Nat) (l : List Byte) : (putBytes s t a l).cnts = s.cnts := by
  unfold putBytes
  simp

@[simp] theorem putBytes_cnt (s : State) (t a : Nat) (l : List Byte) (adr : Nat) : (putBytes s t a l).cnt adr = s.cnt adr := by
  simp [State.cnt]

@[simp] theorem putBytes_ports (s : State) (t a : Nat) (l : List Byte) : (putBytes s t a l).ports = s.ports := by
  unfold putBytes
  simp

@[simp] theorem putBytes_port (s : State) (t a : Nat) (l : List Byte) (prt : Nat) : (putBytes s t a l).port prt = s.port prt := by
  simp [State.port]

@[simp] theorem putBytes_ups (s : State) (t a : Nat) (l : List Byte) : (putBytes s t a l).ups = s.ups := by
  unfold putBytes
  simp

@[simp] theorem putBytes_up (s : State) (t a : Nat) (l : List Byte) (hst : Nat) : (putBytes s t a l).up hst = s.up hst := by
  simp [State.up]

@[simp] theorem primRefuse_flds (s : State) (t code : Nat) : (primRefuse s t code).1.flds = s.flds := by
  unfold primRefuse
  simp

@[simp] theorem primRefuse_get (s : State) (t code : Nat) (fld : Fld) : (primRefuse s t code).1.get fld = s.get fld := by
  simp [State.get]

@[simp] theorem primRefuse_ports (s : State) (t code : Nat) : (primRefuse s t code).1.ports = s.ports := by
  unfold primRefuse
  simp

@[simp] theorem primRefuse_port (s : State) (t code : Nat) (prt : Nat) : (primRefuse s t code).1.port prt = s.port prt := by
  simp [State.port]

@[simp] theorem primRefuse_ups (s : State) (t code : Nat) : (primRefuse s t code).1.ups = s.ups := by
  unfold primRefuse
  simp

@[simp] theorem primRefuse_up (s : State) (t code : Nat) (hst : Nat) : (primRefuse s t code).1.up hst = s.up hst := by
  simp [State.up]

end State

end Sys2Proof.Machine
end

