-- ==== Sys2Proof/Laws/FramesAlu.lean ====
section
/-!
SUPPORT. What the operations of Alu.lean leave unchanged: register fields, counters, ports and upstream ports.
-/

namespace Sys2Proof.Machine

end Sys2Proof.Machine
end

