-- ==== Sys2Proof/Laws/FramesPrim.lean ====
section
/-!
SUPPORT. What the operations of Prim.lean leave unchanged: register fields, counters, ports and upstream ports.
-/

namespace Sys2Proof.Machine

namespace State

@[simp] theorem keepPdRes_cnts (s old : State) (k : Nat) : (keepPdRes s old k).cnts = s.cnts := by
  unfold keepPdRes
  simp

@[simp] theorem keepPdRes_cnt (s old : State) (k : Nat) (adr : Nat) : (keepPdRes s old k).cnt adr = s.cnt adr := by
  simp [State.cnt]

@[simp] theorem keepPdRes_ports (s old : State) (k : Nat) : (keepPdRes s old k).ports = s.ports := by
  unfold keepPdRes
  simp

@[simp] theorem keepPdRes_port (s old : State) (k : Nat) (prt : Nat) : (keepPdRes s old k).port prt = s.port prt := by
  simp [State.port]

@[simp] theorem keepPdRes_ups (s old : State) (k : Nat) : (keepPdRes s old k).ups = s.ups := by
  unfold keepPdRes
  simp

@[simp] theorem keepPdRes_up (s old : State) (k : Nat) (hst : Nat) : (keepPdRes s old k).up hst = s.up hst := by
  simp [State.up]

@[simp] theorem pdPrimRefuse_flds (s : State) (k code : Nat) : (pdPrimRefuse s k code).1.flds = s.flds := by
  unfold pdPrimRefuse
  simp

@[simp] theorem pdPrimRefuse_get (s : State) (k code : Nat) (fld : Fld) : (pdPrimRefuse s k code).1.get fld = s.get fld := by
  simp [State.get]

@[simp] theorem pdPrimRefuse_ports (s : State) (k code : Nat) : (pdPrimRefuse s k code).1.ports = s.ports := by
  unfold pdPrimRefuse
  simp

@[simp] theorem pdPrimRefuse_port (s : State) (k code : Nat) (prt : Nat) : (pdPrimRefuse s k code).1.port prt = s.port prt := by
  simp [State.port]

@[simp] theorem pdPrimRefuse_ups (s : State) (k code : Nat) : (pdPrimRefuse s k code).1.ups = s.ups := by
  unfold pdPrimRefuse
  simp

@[simp] theorem pdPrimRefuse_up (s : State) (k code : Nat) (hst : Nat) : (pdPrimRefuse s k code).1.up hst = s.up hst := by
  simp [State.up]

end State

end Sys2Proof.Machine
end

