-- ==== Sys2Proof/Laws/FramesRomService.lean ====
section
/-!
SUPPORT. What the operations of RomService.lean leave unchanged: register fields, counters, ports and upstream ports.
-/

namespace Sys2Proof.Machine

namespace State

@[simp] theorem eretT_flds (s : State) (t : Nat) : (eretT s t).flds = s.flds := by
  unfold eretT
  simp

@[simp] theorem eretT_get (s : State) (t : Nat) (fld : Fld) : (eretT s t).get fld = s.get fld := by
  simp [State.get]

@[simp] theorem eretT_cnts (s : State) (t : Nat) : (eretT s t).cnts = s.cnts := by
  unfold eretT
  simp

@[simp] theorem eretT_cnt (s : State) (t : Nat) (adr : Nat) : (eretT s t).cnt adr = s.cnt adr := by
  simp [State.cnt]

@[simp] theorem eretT_ports (s : State) (t : Nat) : (eretT s t).ports = s.ports := by
  unfold eretT
  simp

@[simp] theorem eretT_port (s : State) (t : Nat) (prt : Nat) : (eretT s t).port prt = s.port prt := by
  simp [State.port]

@[simp] theorem eretT_ups (s : State) (t : Nat) : (eretT s t).ups = s.ups := by
  unfold eretT
  simp

@[simp] theorem eretT_up (s : State) (t : Nat) (hst : Nat) : (eretT s t).up hst = s.up hst := by
  simp [State.up]

@[simp] theorem romRestart_flds (s : State) : (romRestart s).flds = s.flds := by
  unfold romRestart
  simp

@[simp] theorem romRestart_get (s : State) (fld : Fld) : (romRestart s).get fld = s.get fld := by
  simp [State.get]

@[simp] theorem romRestart_cnts (s : State) : (romRestart s).cnts = s.cnts := by
  unfold romRestart
  simp

@[simp] theorem romRestart_cnt (s : State) (adr : Nat) : (romRestart s).cnt adr = s.cnt adr := by
  simp [State.cnt]

@[simp] theorem romRestart_ports (s : State) : (romRestart s).ports = s.ports := by
  unfold romRestart
  simp

@[simp] theorem romRestart_port (s : State) (prt : Nat) : (romRestart s).port prt = s.port prt := by
  simp [State.port]

@[simp] theorem romRestart_ups (s : State) : (romRestart s).ups = s.ups := by
  unfold romRestart
  simp

@[simp] theorem romRestart_up (s : State) (hst : Nat) : (romRestart s).up hst = s.up hst := by
  simp [State.up]

@[simp] theorem romFaultNotice_flds (s : State) : (romFaultNotice s).flds = s.flds := by
  unfold romFaultNotice
  simp

@[simp] theorem romFaultNotice_get (s : State) (fld : Fld) : (romFaultNotice s).get fld = s.get fld := by
  simp [State.get]

@[simp] theorem romFaultNotice_ports (s : State) : (romFaultNotice s).ports = s.ports := by
  unfold romFaultNotice
  simp

@[simp] theorem romFaultNotice_port (s : State) (prt : Nat) : (romFaultNotice s).port prt = s.port prt := by
  simp [State.port]

@[simp] theorem romFaultNotice_ups (s : State) : (romFaultNotice s).ups = s.ups := by
  unfold romFaultNotice
  simp

@[simp] theorem romFaultNotice_up (s : State) (hst : Nat) : (romFaultNotice s).up hst = s.up hst := by
  simp [State.up]

@[simp] theorem romStall_flds (s : State) : (romStall s).flds = s.flds := by
  unfold romStall
  simp

@[simp] theorem romStall_get (s : State) (fld : Fld) : (romStall s).get fld = s.get fld := by
  simp [State.get]

@[simp] theorem romStall_ports (s : State) : (romStall s).ports = s.ports := by
  unfold romStall
  simp

@[simp] theorem romStall_port (s : State) (prt : Nat) : (romStall s).port prt = s.port prt := by
  simp [State.port]

@[simp] theorem romStall_ups (s : State) : (romStall s).ups = s.ups := by
  unfold romStall
  simp

@[simp] theorem romStall_up (s : State) (hst : Nat) : (romStall s).up hst = s.up hst := by
  simp [State.up]

end State

end Sys2Proof.Machine
end

