-- ==== Sys2Proof/Laws/FramesEventIsa.lean ====
section
/-!
SUPPORT. What the operations of EventIsa.lean leave unchanged: register fields, counters, ports and upstream ports.
-/

namespace Sys2Proof.Machine

namespace State

@[simp] theorem timerSet_flds (s : State) (t j v : Nat) (p : Bool) : (timerSet s t j v p).flds = s.flds := by
  unfold timerSet
  simp

@[simp] theorem timerSet_get (s : State) (t j v : Nat) (p : Bool) (fld : Fld) : (timerSet s t j v p).get fld = s.get fld := by
  simp [State.get]

@[simp] theorem timerSet_cnts (s : State) (t j v : Nat) (p : Bool) : (timerSet s t j v p).cnts = s.cnts := by
  unfold timerSet
  simp

@[simp] theorem timerSet_cnt (s : State) (t j v : Nat) (p : Bool) (adr : Nat) : (timerSet s t j v p).cnt adr = s.cnt adr := by
  simp [State.cnt]

@[simp] theorem timerSet_ports (s : State) (t j v : Nat) (p : Bool) : (timerSet s t j v p).ports = s.ports := by
  unfold timerSet
  simp

@[simp] theorem timerSet_port (s : State) (t j v : Nat) (p : Bool) (prt : Nat) : (timerSet s t j v p).port prt = s.port prt := by
  simp [State.port]

@[simp] theorem timerSet_ups (s : State) (t j v : Nat) (p : Bool) : (timerSet s t j v p).ups = s.ups := by
  unfold timerSet
  simp

@[simp] theorem timerSet_up (s : State) (t j v : Nat) (p : Bool) (hst : Nat) : (timerSet s t j v p).up hst = s.up hst := by
  simp [State.up]

end State

end Sys2Proof.Machine
end

