-- ==== Sys2Proof/Laws/FramesConsole.lean ====
section
/-!
SUPPORT. What the operations of Console.lean leave unchanged: register fields, counters, ports and upstream ports.
-/

namespace Sys2Proof.Machine

namespace State

@[simp] theorem conFreeOne_ports (s : State) (n : Nat) : (conFreeOne s n).ports = s.ports := by
  unfold conFreeOne
  simp

@[simp] theorem conFreeOne_port (s : State) (n : Nat) (prt : Nat) : (conFreeOne s n).port prt = s.port prt := by
  simp [State.port]

@[simp] theorem conFreeOne_ups (s : State) (n : Nat) : (conFreeOne s n).ups = s.ups := by
  unfold conFreeOne
  simp

@[simp] theorem conFreeOne_up (s : State) (n : Nat) (hst : Nat) : (conFreeOne s n).up hst = s.up hst := by
  simp [State.up]

@[simp] theorem freeAfter_ports (s old : State) : (freeAfter s old).ports = s.ports := by
  unfold freeAfter
  simp

@[simp] theorem freeAfter_port (s old : State) (prt : Nat) : (freeAfter s old).port prt = s.port prt := by
  simp [State.port]

@[simp] theorem freeAfter_ups (s old : State) : (freeAfter s old).ups = s.ups := by
  unfold freeAfter
  simp

@[simp] theorem freeAfter_up (s old : State) (hst : Nat) : (freeAfter s old).up hst = s.up hst := by
  simp [State.up]

@[simp] theorem conFreeHeld_ports (s : State) : (conFreeHeld s).ports = s.ports := by
  unfold conFreeHeld
  simp

@[simp] theorem conFreeHeld_port (s : State) (prt : Nat) : (conFreeHeld s).port prt = s.port prt := by
  simp [State.port]

@[simp] theorem conFreeHeld_ups (s : State) : (conFreeHeld s).ups = s.ups := by
  unfold conFreeHeld
  simp

@[simp] theorem conFreeHeld_up (s : State) (hst : Nat) : (conFreeHeld s).up hst = s.up hst := by
  simp [State.up]

@[simp] theorem pinFail_ports (s : State) : (pinFail s).ports = s.ports := by
  unfold pinFail
  simp

@[simp] theorem pinFail_port (s : State) (prt : Nat) : (pinFail s).port prt = s.port prt := by
  simp [State.port]

@[simp] theorem pinFail_ups (s : State) : (pinFail s).ups = s.ups := by
  unfold pinFail
  simp

@[simp] theorem pinFail_up (s : State) (hst : Nat) : (pinFail s).up hst = s.up hst := by
  simp [State.up]

@[simp] theorem holdOne_ports (s : State) (n : Nat) : (holdOne s n).ports = s.ports := by
  unfold holdOne
  simp

@[simp] theorem holdOne_port (s : State) (n : Nat) (prt : Nat) : (holdOne s n).port prt = s.port prt := by
  simp [State.port]

@[simp] theorem holdOne_ups (s : State) (n : Nat) : (holdOne s n).ups = s.ups := by
  unfold holdOne
  simp

@[simp] theorem holdOne_up (s : State) (n : Nat) (hst : Nat) : (holdOne s n).up hst = s.up hst := by
  simp [State.up]

@[simp] theorem conPass_flds (s : State) (text : List Nat) : (conPass s text).flds = s.flds := by
  unfold conPass
  simp

@[simp] theorem conPass_get (s : State) (text : List Nat) (fld : Fld) : (conPass s text).get fld = s.get fld := by
  simp [State.get]

@[simp] theorem conPass_ports (s : State) (text : List Nat) : (conPass s text).ports = s.ports := by
  unfold conPass
  simp

@[simp] theorem conPass_port (s : State) (text : List Nat) (prt : Nat) : (conPass s text).port prt = s.port prt := by
  simp [State.port]

@[simp] theorem conPass_ups (s : State) (text : List Nat) : (conPass s text).ups = s.ups := by
  unfold conPass
  simp

@[simp] theorem conPass_up (s : State) (text : List Nat) (hst : Nat) : (conPass s text).up hst = s.up hst := by
  simp [State.up]

end State

end Sys2Proof.Machine
end

