-- ==== Sys2Proof/Laws/FramesConsoleLine.lean ====
section
/-!
SUPPORT. What the operations of ConsoleLine.lean leave unchanged: register fields, counters, ports and upstream ports.
-/

namespace Sys2Proof.Machine

namespace State

@[simp] theorem lineErr_flds (s : State) (name : String) : (lineErr s name).flds = s.flds := by
  unfold lineErr
  simp

@[simp] theorem lineErr_get (s : State) (name : String) (fld : Fld) : (lineErr s name).get fld = s.get fld := by
  simp [State.get]

@[simp] theorem lineErr_ports (s : State) (name : String) : (lineErr s name).ports = s.ports := by
  unfold lineErr
  simp

@[simp] theorem lineErr_port (s : State) (name : String) (prt : Nat) : (lineErr s name).port prt = s.port prt := by
  simp [State.port]

@[simp] theorem lineErr_ups (s : State) (name : String) : (lineErr s name).ups = s.ups := by
  unfold lineErr
  simp

@[simp] theorem lineErr_up (s : State) (name : String) (hst : Nat) : (lineErr s name).up hst = s.up hst := by
  simp [State.up]

end State

end Sys2Proof.Machine
end

