-- ==== Sys2Proof/Laws/KeepsOps.lean ====
section
/-!
SUPPORT. What no operation changes: the variant, the queue of waiting commands and the JTAG port; and that every operation keeps
`State.Inv`. One lemma per operation, in the order of the files.
-/

namespace Sys2Proof

theorem Tbl.sorted_cons {α : Type} (e : Nat × α) (r : Tbl α) :
    Tbl.sorted (e :: r) = true ↔ (∀ x ∈ r, e.1 < x.1) ∧ Tbl.sorted r = true := by
  induction r generalizing e with
  | nil => simp [Tbl.sorted]
  | cons x r ih =>
    rw [show Tbl.sorted (e :: x :: r) = (decide (e.1 < x.1) && Tbl.sorted (x :: r)) from rfl]
    simp only [Bool.and_eq_true, decide_eq_true_eq, List.mem_cons, forall_eq_or_imp]
    constructor
    · rintro ⟨h1, h2⟩
      exact ⟨⟨h1, fun y hy => Nat.lt_trans h1 (((ih x).1 h2).1 y hy)⟩, h2⟩
    · rintro ⟨⟨h1, _⟩, h2⟩
      exact ⟨h1, h2⟩

theorem Tbl.mem_erase {α : Type} (t : Tbl α) (k : Nat) (e : Nat × α) : e ∈ t.erase k ↔ e ∈ t ∧ e.1 ≠ k := by
  induction t with
  | nil => simp [Tbl.erase]
  | cons x r ih =>
    obtain ⟨k', v⟩ := x
    by_cases h : k' = k
    · subst h
      simp only [Tbl.erase, if_true, ih, List.mem_cons]
      constructor
      · rintro ⟨h1, h2⟩; exact ⟨.inr h1, h2⟩
      · rintro ⟨rfl | h1, h2⟩
        · exact absurd rfl h2
        · exact ⟨h1, h2⟩
    · simp only [Tbl.erase, h, if_false, List.mem_cons, ih]
      constructor
      · rintro (rfl | ⟨h1, h2⟩)
        · exact ⟨.inl rfl, h⟩
        · exact ⟨.inr h1, h2⟩
      · rintro ⟨rfl | h1, h2⟩
        · exact .inl rfl
        · exact .inr ⟨h1, h2⟩

theorem Tbl.mem_ins {α : Type} (t : Tbl α) (k : Nat) (v : α) (e : Nat × α) : e ∈ t.ins k v ↔ e = (k, v) ∨ e ∈ t := by
  induction t with
  | nil => simp [Tbl.ins]
  | cons x r ih =>
    obtain ⟨k', w⟩ := x
    simp only [Tbl.ins]
    split
    · simp
    · simp only [List.mem_cons, ih]
      constructor
      · rintro (h | h | h)
        · exact .inr (.inl h)
        · exact .inl h
        · exact .inr (.inr h)
      · rintro (h | h | h)
        · exact .inr (.inl h)
        · exact .inl h
        · exact .inr (.inr h)

theorem Tbl.sorted_erase {α : Type} (t : Tbl α) (k : Nat) (h : Tbl.sorted t = true) : Tbl.sorted (t.erase k) = true := by
  induction t with
  | nil => simp [Tbl.erase, Tbl.sorted]
  | cons x r ih =>
    obtain ⟨k', v⟩ := x
    rw [Tbl.sorted_cons] at h
    simp only [Tbl.erase]
    split
    · exact ih h.2
    · rw [Tbl.sorted_cons]
      exact ⟨fun y hy => h.1 y ((Tbl.mem_erase r k y).1 hy).1, ih h.2⟩

theorem Tbl.sorted_ins {α : Type} (t : Tbl α) (k : Nat) (v : α) (h : Tbl.sorted t = true) (hk : ∀ e ∈ t, e.1 ≠ k) :
    Tbl.sorted (t.ins k v) = true := by
  induction t with
  | nil => simp [Tbl.ins, Tbl.sorted]
  | cons x r ih =>
    obtain ⟨k', w⟩ := x
    have h' := (Tbl.sorted_cons _ _).1 h
    have hne : k' ≠ k := hk (k', w) (List.mem_cons_self ..)
    simp only [Tbl.ins]
    split
    · rename_i hlt
      rw [Tbl.sorted_cons]
      refine ⟨?_, h⟩
      intro y hy
      rcases List.mem_cons.1 hy with rfl | hy
      · exact hlt
      · exact Nat.lt_trans hlt (h'.1 y hy)
    · rename_i hlt
      rw [Tbl.sorted_cons]
      refine ⟨?_, ih h'.2 fun e he => hk e (List.mem_cons_of_mem _ he)⟩
      intro y hy
      rcases (Tbl.mem_ins r k v y).1 hy with rfl | hy
      · exact Nat.lt_of_le_of_ne (Nat.not_lt.1 hlt) hne
      · exact h'.1 y hy

theorem Tbl.sorted_erase_ins {α : Type} (t : Tbl α) (k : Nat) (v : α) (h : Tbl.sorted t = true) :
    Tbl.sorted ((t.erase k).ins k v) = true :=
  Tbl.sorted_ins _ _ _ (Tbl.sorted_erase t k h) fun e he => ((Tbl.mem_erase t k e).1 he).2

theorem Tbl.sorted_set {α : Type} [DecidableEq α] (t : Tbl α) (d : α) (k : Nat) (v : α) (h : Tbl.sorted t = true) :
    Tbl.sorted (Tbl.set t d k v) = true := by
  unfold Tbl.set
  split
  · exact Tbl.sorted_erase t k h
  · exact Tbl.sorted_erase_ins t k v h

theorem Tbl.mem_set {α : Type} [DecidableEq α] (t : Tbl α) (d : α) (k : Nat) (v : α) (e : Nat × α) (h : e ∈ Tbl.set t d k v) :
    e ∈ t ∨ (e = (k, v) ∧ v ≠ d) := by
  unfold Tbl.set at h
  split at h
  · exact .inl ((Tbl.mem_erase t k e).1 h).1
  · rename_i hv
    rcases (Tbl.mem_ins _ _ _ _).1 h with h | h
    · exact .inr ⟨h, hv⟩
    · exact .inl ((Tbl.mem_erase t k e).1 h).1

theorem Tbl.wf_iff {α : Type} [DecidableEq α] (t : Tbl α) (d : α) :
    Tbl.wf t d = true ↔ Tbl.sorted t = true ∧ ∀ e ∈ t, e.2 ≠ d := by
  simp [Tbl.wf, List.all_eq_true]

theorem Tbl.wf_set {α : Type} [DecidableEq α] (t : Tbl α) (d : α) (k : Nat) (v : α) (h : Tbl.wf t d = true) :
    Tbl.wf (Tbl.set t d k v) d = true := by
  rw [Tbl.wf_iff] at *
  refine ⟨Tbl.sorted_set t d k v h.1, fun e he => ?_⟩
  rcases Tbl.mem_set t d k v e he with h1 | ⟨rfl, h1⟩
  · exact h.2 e h1
  · exact h1

theorem Tbl.sorted_filter {α : Type} (t : Tbl α) (p : Nat × α → Bool) (h : Tbl.sorted t = true) :
    Tbl.sorted (t.filter p) = true := by
  induction t with
  | nil => simp [Tbl.sorted]
  | cons x r ih =>
    rw [Tbl.sorted_cons] at h
    rw [List.filter_cons]
    split
    · rw [Tbl.sorted_cons]
      exact ⟨fun y hy => h.1 y (List.mem_filter.1 hy).1, ih h.2⟩
    · exact ih h.2

theorem Tbl.wf_filter {α : Type} [DecidableEq α] (t : Tbl α) (d : α) (p : Nat × α → Bool) (h : Tbl.wf t d = true) :
    Tbl.wf (t.filter p) d = true := by
  rw [Tbl.wf_iff] at *
  exact ⟨Tbl.sorted_filter t p h.1, fun e he => h.2 e (List.mem_filter.1 he).1⟩

theorem Tbl.get_cases {α : Type} (t : Tbl α) (d : α) (k : Nat) : Tbl.get t d k = d ∨ (k, Tbl.get t d k) ∈ t := by
  induction t with
  | nil => exact .inl rfl
  | cons x r ih =>
    obtain ⟨k', v⟩ := x
    simp only [Tbl.get]
    split
    · rename_i h; subst h; exact .inr (List.mem_cons_self ..)
    · exact ih.imp id (List.mem_cons_of_mem _)

theorem Tbl.wf_fold {α β : Type} [DecidableEq α] (d : α) (f : Tbl α → β → Tbl α) (l : List β) (t : Tbl α)
    (hf : ∀ t b, Tbl.wf t d = true → Tbl.wf (f t b) d = true) (h : Tbl.wf t d = true) : Tbl.wf (l.foldl f t) d = true := by
  induction l generalizing t with
  | nil => exact h
  | cons b r ih => exact ih _ (hf t b h)

namespace Machine

/-- Memory operations keep the canonical form. -/
@[simp] theorem Memory.wf_nil (d : Byte) : Memory.wf [] d = true := rfl

@[simp] theorem loadBytes_wf (m : Tbl Byte) (a : Nat) (l : List Byte) (h : Memory.wf m 0 = true) : Memory.wf (State.loadBytes m a l) 0 = true :=
  Tbl.wf_fold 0 _ _ _ (fun _ _ h => Tbl.wf_set _ _ _ _ h) h

theorem reset_memories_wf : Memory.wf State.reset.tk.dmem 0 = true ∧ Memory.wf State.reset.tk.imem 0 = true ∧
    Memory.wf State.reset.boot.flash 0xFF = true :=
  ⟨rfl, rfl, rfl⟩

/-- What an operation keeps of an earlier state. -/
structure Keeps (s0 s : State) : Prop where
  variant : s.variant = s0.variant
  pending : s.pending = s0.pending
  jtag : s.jtag = s0.jtag
  inv : s0.Inv → s.Inv

namespace Keeps

theorem refl (s : State) : Keeps s s := ⟨rfl, rfl, rfl, id⟩

theorem trans {a b c : State} (h : Keeps a b) (g : Keeps b c) : Keeps a c :=
  ⟨g.variant.trans h.variant, g.pending.trans h.pending, g.jtag.trans h.jtag, fun i => g.inv (h.inv i)⟩

/-- An update that leaves the fields Inv speaks of. -/
theorem of_eq {s0 s t : State} (h : Keeps s0 s) (h1 : t.variant = s.variant) (h2 : t.pending = s.pending) (h3 : t.jtag = s.jtag)
    (h4 : t.cnts = s.cnts) (h5 : t.bytes = s.bytes) (h6 : t.flds = s.flds) (h7 : t.staged = s.staged)
    (h8 : t.tk.dmem = s.tk.dmem) (h9 : t.tk.imem = s.tk.imem) (h10 : t.threads = s.threads)
    (h11 : t.boot.flash = s.boot.flash) : Keeps s0 t where
  variant := h1.trans h.variant
  pending := h2.trans h.pending
  jtag := h3.trans h.jtag
  inv := fun i => by
    have j := h.inv i
    exact ⟨h4 ▸ j.cnts_wf, h4 ▸ j.cnts_le, h5 ▸ j.bytes_wf, h5 ▸ j.bytes_lt, h6 ▸ j.flds_sorted, h7 ▸ j.staged_sorted,
      h8 ▸ j.dmem_wf, h9 ▸ j.imem_wf, h10 ▸ j.loc_wf, h11 ▸ j.flash_wf⟩

@[simp] theorem foldl {α : Type} {s0 s : State} (f : State → α → State) (l : List α) (hf : ∀ s a, Keeps s0 s → Keeps s0 (f s a))
    (h : Keeps s0 s) : Keeps s0 (l.foldl f s) := by
  induction l generalizing s with
  | nil => exact h
  | cons a r ih => exact ih (hf s a h)

@[simp] theorem foldl_fst {α β : Type} {s0 : State} (f : State × β → α → State × β) (l : List α) (x : State × β)
    (hf : ∀ x a, Keeps s0 x.1 → Keeps s0 (f x a).1) (h : Keeps s0 x.1) : Keeps s0 (l.foldl f x).1 := by
  induction l generalizing x with
  | nil => exact h
  | cons a r ih => exact ih (f x a) (hf x a h)

@[simp] theorem ite {s0 a b : State} (c : Prop) [Decidable c] (h1 : Keeps s0 a) (h2 : Keeps s0 b) : Keeps s0 (if c then a else b) := by
  split
  · exact h1
  · exact h2

@[simp] theorem ite_fst {β : Type} {s0 : State} {a b : State × β} (c : Prop) [Decidable c] (h1 : Keeps s0 a.1) (h2 : Keeps s0 b.1) :
    Keeps s0 (if c then a else b).1 := by
  split
  · exact h1
  · exact h2

end Keeps

/-- A command that completes and keeps what every operation keeps. -/
def KeepsR (s0 : State) (r : Res State) : Prop := ∃ t, r = .next t ∧ Keeps s0 t

@[simp] theorem KeepsR.next {s0 t : State} (h : Keeps s0 t) : KeepsR s0 (.next t) := ⟨t, rfl, h⟩

@[simp] theorem KeepsR.ite {s0 : State} {a b : Res State} (c : Prop) [Decidable c] (h1 : KeepsR s0 a) (h2 : KeepsR s0 b) :
    KeepsR s0 (if c then a else b) := by
  split
  · exact h1
  · exact h2

namespace State

theorem set_inv {s : State} (f : Fld) (v : Nat) (h : s.Inv) : (s.set f v).Inv :=
  ⟨h.cnts_wf, h.cnts_le, h.bytes_wf, h.bytes_lt, Tbl.sorted_set _ _ _ _ h.flds_sorted, h.staged_sorted,
    h.dmem_wf, h.imem_wf, h.loc_wf, h.flash_wf⟩

theorem cnts_inv {s : State} (a v : Nat) (hv : v ≤ 0xFFFF) (h : s.Inv) : ({ s with cnts := Tbl.set s.cnts 0 a v } : State).Inv :=
  ⟨Tbl.wf_set _ _ _ _ h.cnts_wf, fun e he => by
    rcases Tbl.mem_set _ _ _ _ e he with h1 | ⟨rfl, _⟩
    · exact h.cnts_le e h1
    · exact hv, h.bytes_wf, h.bytes_lt, h.flds_sorted, h.staged_sorted,
    h.dmem_wf, h.imem_wf, h.loc_wf, h.flash_wf⟩

theorem bytes_inv {s : State} (a v : Nat) (hv : v < 2 ^ 64) (h : s.Inv) : ({ s with bytes := Tbl.set s.bytes 0 a v } : State).Inv :=
  ⟨h.cnts_wf, h.cnts_le, Tbl.wf_set _ _ _ _ h.bytes_wf, fun e he => by
    rcases Tbl.mem_set _ _ _ _ e he with h1 | ⟨rfl, _⟩
    · exact h.bytes_lt e h1
    · exact hv, h.flds_sorted, h.staged_sorted,
    h.dmem_wf, h.imem_wf, h.loc_wf, h.flash_wf⟩

end State



namespace State

@[simp] theorem set_keeps {b0 : State} (s : State) (f : Fld) (v : Nat) (hk0 : Keeps b0 s) : Keeps b0 (set s f v) := by
  exact ⟨hk0.variant, hk0.pending, hk0.jtag, fun i => set_inv f v (hk0.inv i)⟩

@[simp] theorem stage_keeps {b0 : State} (s : State) (f : Fld) (v : Nat) (hk0 : Keeps b0 s) : Keeps b0 (stage s f v) := by
  exact ⟨hk0.variant, hk0.pending, hk0.jtag, fun i => have j := hk0.inv i; ⟨j.cnts_wf, j.cnts_le, j.bytes_wf, j.bytes_lt, j.flds_sorted, Tbl.sorted_erase_ins _ _ _ j.staged_sorted,
    j.dmem_wf, j.imem_wf, j.loc_wf, j.flash_wf⟩⟩

@[simp] theorem unstage_keeps {b0 : State} (s : State) (f : Fld) (hk0 : Keeps b0 s) : Keeps b0 (unstage s f) := by
  exact ⟨hk0.variant, hk0.pending, hk0.jtag, fun i => have j := hk0.inv i; ⟨j.cnts_wf, j.cnts_le, j.bytes_wf, j.bytes_lt, j.flds_sorted, Tbl.sorted_erase _ _ j.staged_sorted,
    j.dmem_wf, j.imem_wf, j.loc_wf, j.flash_wf⟩⟩

@[simp] theorem apply_keeps {b0 : State} (s : State) (f : Fld) (hk0 : Keeps b0 s) : Keeps b0 (apply s f) := by
  unfold apply
  simp (maxDischargeDepth := 100) (contextual := true) [*]

@[simp] theorem inc_keeps {b0 : State} (s : State) (a : Nat) (hk0 : Keeps b0 s) : Keeps b0 (inc s a) := by
  exact ⟨hk0.variant, hk0.pending, hk0.jtag, fun i => cnts_inv _ _ (Nat.min_le_right ..) (hk0.inv i)⟩

@[simp] theorem incBy_keeps {b0 : State} (s : State) (a n : Nat) (hk0 : Keeps b0 s) : Keeps b0 (incBy s a n) := by
  exact ⟨hk0.variant, hk0.pending, hk0.jtag, fun i => cnts_inv _ _ (Nat.min_le_right ..) (hk0.inv i)⟩

@[simp] theorem addBytes_keeps {b0 : State} (s : State) (lo n : Nat) (hk0 : Keeps b0 s) : Keeps b0 (addBytes s lo n) := by
  exact ⟨hk0.variant, hk0.pending, hk0.jtag, fun i => bytes_inv _ _ (Nat.mod_lt _ (by decide)) (hk0.inv i)⟩

@[simp] theorem emit_keeps {b0 : State} (s : State) (o : Out) (hk0 : Keeps b0 s) : Keeps b0 (emit s o) := by
  exact Keeps.of_eq hk0 rfl rfl rfl rfl rfl rfl rfl rfl rfl rfl rfl

@[simp] theorem freeNext_keeps {b0 : State} (s : State) (hk0 : Keeps b0 s) : Keeps b0 (freeNext s) := by
  exact Keeps.of_eq hk0 rfl rfl rfl rfl rfl rfl rfl rfl rfl rfl rfl

@[simp] theorem enterMode_keeps {b0 : State} (s : State) (m : Mode) (hk0 : Keeps b0 s) : Keeps b0 (enterMode s m) := by
  exact Keeps.of_eq hk0 rfl rfl rfl rfl rfl rfl rfl rfl rfl rfl rfl

@[simp] theorem setDormant_keeps {b0 : State} (s : State) (b : Bool) (hk0 : Keeps b0 s) : Keeps b0 (setDormant s b) := by
  exact Keeps.of_eq hk0 rfl rfl rfl rfl rfl rfl rfl rfl rfl rfl rfl

@[simp] theorem setTb_keeps {b0 : State} (s : State) (v : Nat) (hk0 : Keeps b0 s) : Keeps b0 (setTb s v) := by
  exact Keeps.of_eq hk0 rfl rfl rfl rfl rfl rfl rfl rfl rfl rfl rfl

@[simp] theorem answer_keeps {b0 : State} (s : State) (r : RC) (hk0 : Keeps b0 s) : Keeps b0 (answer s r) := by
  exact Keeps.of_eq hk0 rfl rfl rfl rfl rfl rfl rfl rfl rfl rfl rfl

@[simp] theorem answerData_keeps {b0 : State} (s : State) (v : Nat) (hk0 : Keeps b0 s) : Keeps b0 (answerData s v) := by
  exact Keeps.of_eq hk0 rfl rfl rfl rfl rfl rfl rfl rfl rfl rfl rfl

theorem thread_loc_wf {s : State} (h : ∀ e ∈ s.threads, Memory.wf e.2.loc 0 = true) (t : Nat) :
    Memory.wf (s.thread t).loc 0 = true := by
  unfold thread
  rcases Tbl.get_cases s.threads {} t with h1 | h1
  · rw [h1]; rfl
  · exact h _ h1

@[simp] theorem modThread_keeps {b0 : State} (s : State) (t : Nat) (f : Thread → Thread) (hk0 : Keeps b0 s)
    (hf : ∀ x, Memory.wf x.loc 0 = true → Memory.wf (f x).loc 0 = true) : Keeps b0 (modThread s t f) :=
  ⟨hk0.variant, hk0.pending, hk0.jtag, fun i => have j := hk0.inv i
    ⟨j.cnts_wf, j.cnts_le, j.bytes_wf, j.bytes_lt, j.flds_sorted, j.staged_sorted, j.dmem_wf, j.imem_wf, fun e he => by
      rcases Tbl.mem_set _ _ _ _ e he with h1 | ⟨rfl, _⟩
      · exact j.loc_wf e h1
      · exact hf _ (thread_loc_wf j.loc_wf t), j.flash_wf⟩⟩

@[simp] theorem modThread_clear_keeps {b0 : State} (s : State) (t : Nat) (f : Thread → Thread) (hk0 : Keeps b0 s)
    (hf : ∀ x, (f x).loc = []) : Keeps b0 (modThread s t f) :=
  modThread_keeps s t f hk0 fun x _ => by rw [hf x]; rfl

@[simp] theorem modPort_keeps {b0 : State} (s : State) (i : Nat) (f : Port → Port) (hk0 : Keeps b0 s) : Keeps b0 (modPort s i f) := by
  exact Keeps.of_eq hk0 rfl rfl rfl rfl rfl rfl rfl rfl rfl rfl rfl

@[simp] theorem modUp_keeps {b0 : State} (s : State) (i : Nat) (f : Up → Up) (hk0 : Keeps b0 s) : Keeps b0 (modUp s i f) := by
  exact Keeps.of_eq hk0 rfl rfl rfl rfl rfl rfl rfl rfl rfl rfl rfl

@[simp] theorem modEng_keeps {b0 : State} (s : State) (i : Nat) (f : Engine → Engine) (hk0 : Keeps b0 s) : Keeps b0 (modEng s i f) := by
  exact Keeps.of_eq hk0 rfl rfl rfl rfl rfl rfl rfl rfl rfl rfl rfl

@[simp] theorem modPath_keeps {b0 : State} (s : State) (i : Nat) (f : Path → Path) (hk0 : Keeps b0 s) : Keeps b0 (modPath s i f) := by
  exact Keeps.of_eq hk0 rfl rfl rfl rfl rfl rfl rfl rfl rfl rfl rfl

@[simp] theorem modChan_keeps {b0 : State} (s : State) (i : Nat) (f : Chan → Chan) (hk0 : Keeps b0 s) : Keeps b0 (modChan s i f) := by
  exact Keeps.of_eq hk0 rfl rfl rfl rfl rfl rfl rfl rfl rfl rfl rfl

@[simp] theorem modTt_keeps {b0 : State} (s : State) (i : Nat) (f : Tt → Tt) (hk0 : Keeps b0 s) : Keeps b0 (modTt s i f) := by
  exact Keeps.of_eq hk0 rfl rfl rfl rfl rfl rfl rfl rfl rfl rfl rfl

@[simp] theorem modQueue_keeps {b0 : State} (s : State) (i : Nat) (f : Queue → Queue) (hk0 : Keeps b0 s) : Keeps b0 (modQueue s i f) := by
  exact Keeps.of_eq hk0 rfl rfl rfl rfl rfl rfl rfl rfl rfl rfl rfl

@[simp] theorem modEgress_keeps {b0 : State} (s : State) (i : Nat) (f : Egress → Egress) (hk0 : Keeps b0 s) : Keeps b0 (modEgress s i f) := by
  exact Keeps.of_eq hk0 rfl rfl rfl rfl rfl rfl rfl rfl rfl rfl rfl

@[simp] theorem modPol_keeps {b0 : State} (s : State) (i : Nat) (f : Policer → Policer) (hk0 : Keeps b0 s) : Keeps b0 (modPol s i f) := by
  exact Keeps.of_eq hk0 rfl rfl rfl rfl rfl rfl rfl rfl rfl rfl rfl

@[simp] theorem modKlink_keeps {b0 : State} (s : State) (i : Nat) (f : KLink → KLink) (hk0 : Keeps b0 s) : Keeps b0 (modKlink s i f) := by
  exact Keeps.of_eq hk0 rfl rfl rfl rfl rfl rfl rfl rfl rfl rfl rfl

@[simp] theorem modBsn_keeps {b0 : State} (s : State) (f : Basin → Basin) (hk0 : Keeps b0 s) : Keeps b0 (modBsn s f) := by
  exact Keeps.of_eq hk0 rfl rfl rfl rfl rfl rfl rfl rfl rfl rfl rfl

@[simp] theorem modFlt_keeps {b0 : State} (s : State) (f : Faults → Faults) (hk0 : Keeps b0 s) : Keeps b0 (modFlt s f) := by
  exact Keeps.of_eq hk0 rfl rfl rfl rfl rfl rfl rfl rfl rfl rfl rfl

@[simp] theorem modPins_keeps {b0 : State} (s : State) (f : Pins → Pins) (hk0 : Keeps b0 s) : Keeps b0 (modPins s f) := by
  exact Keeps.of_eq hk0 rfl rfl rfl rfl rfl rfl rfl rfl rfl rfl rfl

@[simp] theorem modTk_keeps {b0 : State} (s : State) (f : Torik → Torik) (hk0 : Keeps b0 s)
    (hd : ∀ x, Memory.wf x.dmem 0 = true → Memory.wf (f x).dmem 0 = true)
    (hi : ∀ x, Memory.wf x.imem 0 = true → Memory.wf (f x).imem 0 = true) : Keeps b0 (modTk s f) :=
  ⟨hk0.variant, hk0.pending, hk0.jtag, fun i => have j := hk0.inv i
    ⟨j.cnts_wf, j.cnts_le, j.bytes_wf, j.bytes_lt, j.flds_sorted, j.staged_sorted, hd _ j.dmem_wf, hi _ j.imem_wf, j.loc_wf,
      j.flash_wf⟩⟩

@[simp] theorem modTk_clear_keeps {b0 : State} (s : State) (f : Torik → Torik) (hk0 : Keeps b0 s) (hd : ∀ x, (f x).dmem = [])
    (hi : ∀ x, (f x).imem = []) : Keeps b0 (modTk s f) :=
  modTk_keeps s f hk0 (fun x _ => by rw [hd x]; rfl) fun x _ => by rw [hi x]; rfl

@[simp] theorem modFab_keeps {b0 : State} (s : State) (f : Fabric → Fabric) (hk0 : Keeps b0 s) : Keeps b0 (modFab s f) := by
  exact Keeps.of_eq hk0 rfl rfl rfl rfl rfl rfl rfl rfl rfl rfl rfl

@[simp] theorem modLog_keeps {b0 : State} (s : State) (f : Log → Log) (hk0 : Keeps b0 s) : Keeps b0 (modLog s f) := by
  exact Keeps.of_eq hk0 rfl rfl rfl rfl rfl rfl rfl rfl rfl rfl rfl

@[simp] theorem modBoot_keeps {b0 : State} (s : State) (f : Boot → Boot) (hk0 : Keeps b0 s)
    (hf : ∀ x, Memory.wf x.flash 0xFF = true → Memory.wf (f x).flash 0xFF = true) : Keeps b0 (modBoot s f) :=
  ⟨hk0.variant, hk0.pending, hk0.jtag, fun i => have j := hk0.inv i
    ⟨j.cnts_wf, j.cnts_le, j.bytes_wf, j.bytes_lt, j.flds_sorted, j.staged_sorted, j.dmem_wf, j.imem_wf, j.loc_wf, hf _ j.flash_wf⟩⟩

@[simp] theorem modBrg_keeps {b0 : State} (s : State) (f : Bridges → Bridges) (hk0 : Keeps b0 s) : Keeps b0 (modBrg s f) := by
  exact Keeps.of_eq hk0 rfl rfl rfl rfl rfl rfl rfl rfl rfl rfl rfl

@[simp] theorem modFlow_keeps {b0 : State} (s : State) (f : Flow → Flow) (hk0 : Keeps b0 s) : Keeps b0 (modFlow s f) := by
  exact Keeps.of_eq hk0 rfl rfl rfl rfl rfl rfl rfl rfl rfl rfl rfl

@[simp] theorem modKcl_keeps {b0 : State} (s : State) (f : Kcl → Kcl) (hk0 : Keeps b0 s) : Keeps b0 (modKcl s f) := by
  exact Keeps.of_eq hk0 rfl rfl rfl rfl rfl rfl rfl rfl rfl rfl rfl

@[simp] theorem modSvc_keeps {b0 : State} (s : State) (f : Svc → Svc) (hk0 : Keeps b0 s) : Keeps b0 (modSvc s f) := by
  exact Keeps.of_eq hk0 rfl rfl rfl rfl rfl rfl rfl rfl rfl rfl rfl

@[simp] theorem logRec_keeps {b0 : State} (s : State) (kind code arg0 arg1 : Nat) (hk0 : Keeps b0 s) : Keeps b0 (logRec s kind code arg0 arg1) := by
  unfold logRec
  split
  · exact Keeps.of_eq hk0 rfl rfl rfl rfl rfl rfl rfl rfl rfl rfl rfl
  · exact inc_keeps _ _ (Keeps.of_eq hk0 rfl rfl rfl rfl rfl rfl rfl rfl rfl rfl rfl)

@[simp] theorem logOpen_keeps {b0 : State} (s : State) (kind code arg0 : Nat) (hk0 : Keeps b0 s) : Keeps b0 (logOpen s kind code arg0) := by
  unfold logOpen
  simp (maxDischargeDepth := 100) (contextual := true) [*]

@[simp] theorem setEpisode_keeps {b0 : State} (s : State) (code i : Nat) (e : Episode) (hk0 : Keeps b0 s) : Keeps b0 (setEpisode s code i e) := by
  exact Keeps.of_eq hk0 rfl rfl rfl rfl rfl rfl rfl rfl rfl rfl rfl

@[simp] theorem watch_keeps {b0 : State} (s : State) (code i : Nat) (lvl : Bool) (v : Nat) (hk0 : Keeps b0 s) : Keeps b0 (watch s code i lvl v) := by
  unfold watch
  first
    | (simp (maxDischargeDepth := 100) (contextual := true) [*]; done)
    | (apply Keeps.of_eq hk0 <;> with_reducible rfl)
    | (try dsimp only
       repeat' split
       all_goals first | with_reducible assumption | simp (maxDischargeDepth := 100) (contextual := true) [*])

@[simp] theorem watchTick_keeps {b0 : State} (s : State) (code i : Nat) (hk0 : Keeps b0 s) : Keeps b0 (watchTick s code i) := by
  unfold watchTick
  simp (maxDischargeDepth := 100) (contextual := true) [*]

@[simp] theorem watchSeen_keeps {b0 : State} (s : State) (code i : Nat) (hk0 : Keeps b0 s) : Keeps b0 (watchSeen s code i) := by
  unfold watchSeen
  simp (maxDischargeDepth := 100) (contextual := true) [*]

@[simp] theorem post_keeps {b0 : State} (s : State) (t e : Nat) (hk0 : Keeps b0 s) : Keeps b0 (post s t e) := by
  unfold post
  simp (maxDischargeDepth := 100) (contextual := true) [*]

@[simp] theorem postRouted_keeps {b0 : State} (s : State) (e : Nat) (hk0 : Keeps b0 s) : Keeps b0 (postRouted s e) := by
  unfold postRouted
  simp (maxDischargeDepth := 100) (contextual := true) [*]

@[simp] theorem postPd_keeps {b0 : State} (s : State) (k : Nat) (hk0 : Keeps b0 s) : Keeps b0 (postPd s k) := by
  unfold postPd
  simp (maxDischargeDepth := 100) (contextual := true) [*]

@[simp] theorem postPort_keeps {b0 : State} (s : State) (k : Nat) (hk0 : Keeps b0 s) : Keeps b0 (postPort s k) := by
  unfold postPort
  simp (maxDischargeDepth := 100) (contextual := true) [*]

@[simp] theorem kTransmit_keeps {b0 : State} (s : State) (u : Nat) (f : KFrame) (hk0 : Keeps b0 s) : Keeps b0 (kTransmit s u f) := by
  unfold kTransmit
  simp (maxDischargeDepth := 100) (contextual := true) [*]

@[simp] theorem kSend_keeps {b0 : State} (s : State) (u : Nat) (f : KFrame) (hk0 : Keeps b0 s) : Keeps b0 (kSend s u f) := by
  unfold kSend
  simp (maxDischargeDepth := 100) (contextual := true) [*]

@[simp] theorem kRoute_keeps {b0 : State} (s : State) (f : KFrame) (hk0 : Keeps b0 s) : Keeps b0 (kRoute s f) := by
  unfold kRoute
  first
    | (simp (maxDischargeDepth := 100) (contextual := true) [*]; done)
    | (apply Keeps.of_eq hk0 <;> with_reducible rfl)
    | (try dsimp only
       repeat' split
       all_goals first | with_reducible assumption | simp (maxDischargeDepth := 100) (contextual := true) [*])

@[simp] theorem portOp_keeps {b0 : State} (s : State) (c : Nat) (args : List Nat) (hk0 : Keeps b0 s) : Keeps b0 (portOp s c args) := by
  unfold portOp
  simp (maxDischargeDepth := 100) (contextual := true) [*]

@[simp] theorem portStatus_keeps {b0 : State} (s : State) (n : Nat) (hk0 : Keeps b0 s) : Keeps b0 (portStatus s n) := by
  unfold portStatus
  first
    | (simp (maxDischargeDepth := 100) (contextual := true) [*]; done)
    | (apply Keeps.of_eq hk0 <;> with_reducible rfl)
    | (try dsimp only
       repeat' split
       all_goals first | with_reducible assumption | simp (maxDischargeDepth := 100) (contextual := true) [*])

@[simp] theorem setPort_keeps {b0 : State} (s : State) (k : Nat) (f : Fld) (v : Nat) (hk0 : Keeps b0 s) : Keeps b0 (setPort s k f v) := by
  unfold setPort
  simp (maxDischargeDepth := 100) (contextual := true) [*]

@[simp] theorem fltFall_keeps {b0 : State} (s : State) (i inst : Nat) (hk0 : Keeps b0 s) : Keeps b0 (fltFall s i inst) := by
  unfold fltFall
  simp (maxDischargeDepth := 100) (contextual := true) [*]

@[simp] theorem stallClear_keeps {b0 : State} (s : State) (n : Nat) (hk0 : Keeps b0 s) : Keeps b0 (stallClear s n) := by
  unfold stallClear
  simp (maxDischargeDepth := 100) (contextual := true) [*]

@[simp] theorem modeNote_keeps {b0 : State} (s old : State) (hk0 : Keeps b0 s) : Keeps b0 (modeNote s old) := by
  unfold modeNote
  simp (maxDischargeDepth := 100) (contextual := true) [*]


end State

open State

theorem act_keeps {b0 : State} (s : State) (f : State → State) (hk0 : Keeps b0 s) (hf : ∀ s, Keeps b0 s → Keeps b0 (f s)) : KeepsR b0 (act s f) := by
  exact KeepsR.next (Keeps.ite _ (hf s hk0) hk0)

end Machine

end Sys2Proof
end

