-- ==== Sys2Proof/Laws/KeepsWake.lean ====
section
/-!
SUPPORT. Keeps, for the operations of Wake.lean.
-/

namespace Sys2Proof

namespace Machine

namespace State

@[simp] theorem sleepRefresh_keeps {b0 : State} (s : State) (u : Nat) (hk0 : Keeps b0 s) : Keeps b0 (sleepRefresh s u) := by
  unfold sleepRefresh
  simp (maxDischargeDepth := 100) (contextual := true) [*]

@[simp] theorem dormantExit_keeps {b0 : State} (s : State) (hk0 : Keeps b0 s) : Keeps b0 (dormantExit s) := by
  unfold dormantExit
  simp (maxDischargeDepth := 100) (contextual := true) [*]

@[simp] theorem slotCmd_keeps {b0 : State} (s : State) (i code val : Nat) (hk0 : Keeps b0 s) : Keeps b0 (slotCmd s i code val) := by
  unfold slotCmd
  simp (maxDischargeDepth := 100) (contextual := true) [*]

@[simp] theorem wakeNote_keeps {b0 : State} (s : State) (n cause : Nat) (hk0 : Keeps b0 s) : Keeps b0 (wakeNote s n cause) := by
  unfold wakeNote
  simp (maxDischargeDepth := 100) (contextual := true) [*]

@[simp] theorem bhWake_keeps {b0 : State} (s : State) (u b : Nat) (hk0 : Keeps b0 s) : Keeps b0 (bhWake s u b) := by
  unfold bhWake
  simp (maxDischargeDepth := 100) (contextual := true) [*]

@[simp] theorem wakeAt_keeps {b0 : State} (s : State) (u h n cause : Nat) (hk0 : Keeps b0 s) : Keeps b0 (wakeAt s u h n cause) := by
  unfold wakeAt
  simp (maxDischargeDepth := 100) (contextual := true) [*]

@[simp] theorem u3Wake_keeps {b0 : State} (s : State) (u : Nat) (hk0 : Keeps b0 s) : Keeps b0 (u3Wake s u) := by
  unfold u3Wake
  simp (maxDischargeDepth := 100) (contextual := true) [*]

@[simp] theorem portChangeWake_keeps {b0 : State} (s : State) (n bit : Nat) (ss : Bool) (hk0 : Keeps b0 s) : Keeps b0 (portChangeWake s n bit ss) := by
  unfold portChangeWake
  first
    | (simp (maxDischargeDepth := 100) (contextual := true) [*]; done)
    | (apply Keeps.of_eq hk0 <;> with_reducible rfl)
    | (try dsimp only
       repeat' split
       all_goals first | with_reducible assumption | simp (maxDischargeDepth := 100) (contextual := true) [*])

@[simp] theorem setSs_keeps {b0 : State} (s : State) (n v : Nat) (hk0 : Keeps b0 s) : Keeps b0 (setSs s n v) := by
  unfold setSs
  simp (maxDischargeDepth := 100) (contextual := true) [*]

end State

end Machine

end Sys2Proof
end

