-- ==== Sys2Proof/Laws/KeepsCaldera.lean ====
section
/-!
SUPPORT. Keeps, for the operations of Caldera.lean.
-/

namespace Sys2Proof

namespace Machine

namespace State

@[simp] theorem qRefresh_keeps {b0 : State} (s : State) (q : Nat) (hk0 : Keeps b0 s) : Keeps b0 (qRefresh s q) := by
  unfold qRefresh
  simp (maxDischargeDepth := 100) (contextual := true) [*]

@[simp] theorem qAdmit_keeps {b0 : State} (s : State) (q : Nat) (p : Packet) (hk0 : Keeps b0 s) : Keeps b0 (qAdmit s q p) := by
  unfold qAdmit
  simp (maxDischargeDepth := 100) (contextual := true) [*]

@[simp] theorem qRequest_keeps {b0 : State} (s : State) (q : Nat) (p : Packet) (hk0 : Keeps b0 s) : Keeps b0 (qRequest s q p).1 := by
  unfold qRequest
  simp (maxDischargeDepth := 100) (contextual := true) [*]

@[simp] theorem qStallTt_keeps {b0 : State} (s : State) (q n w : Nat) (hk0 : Keeps b0 s) : Keeps b0 (qStallTt s q n w) := by
  unfold qStallTt
  simp (maxDischargeDepth := 100) (contextual := true) [*]

@[simp] theorem qGrant_keeps {b0 : State} (s : State) (q : Nat) (hk0 : Keeps b0 s) : Keeps b0 (qGrant s q).1 := by
  unfold qGrant
  first
    | (simp (maxDischargeDepth := 100) (contextual := true) [*]; done)
    | (apply Keeps.of_eq hk0 <;> with_reducible rfl)
    | (try dsimp only
       repeat' split
       all_goals first | with_reducible assumption | simp (maxDischargeDepth := 100) (contextual := true) [*])

@[simp] theorem qRelease_keeps {b0 : State} (s : State) (q : Nat) (hk0 : Keeps b0 s) : Keeps b0 (qRelease s q) := by
  unfold qRelease
  simp (maxDischargeDepth := 100) (contextual := true) [*]

@[simp] theorem modPkt_keeps {b0 : State} (s : State) (q o : Nat) (f : Packet → Packet) (hk0 : Keeps b0 s) : Keeps b0 (modPkt s q o f) := by
  unfold modPkt
  simp (maxDischargeDepth := 100) (contextual := true) [*]

@[simp] theorem qDrop_keeps {b0 : State} (s : State) (q o : Nat) (hk0 : Keeps b0 s) : Keeps b0 (qDrop s q o) := by
  unfold qDrop
  simp (maxDischargeDepth := 100) (contextual := true) [*]

@[simp] theorem freeHeld_keeps {b0 : State} (s : State) (e : Nat) (hk0 : Keeps b0 s) : Keeps b0 (freeHeld s e) := by
  unfold freeHeld
  first
    | (simp (maxDischargeDepth := 100) (contextual := true) [*]; done)
    | (apply Keeps.of_eq hk0 <;> with_reducible rfl)
    | (try dsimp only
       repeat' split
       all_goals first | with_reducible assumption | simp (maxDischargeDepth := 100) (contextual := true) [*])

@[simp] theorem holdsEnd_keeps {b0 : State} (s : State) (out : Hold → Bool) (hk0 : Keeps b0 s) : Keeps b0 (holdsEnd s out) := by
  unfold holdsEnd
  simp (maxDischargeDepth := 100) (contextual := true) [*]

end State

end Machine

end Sys2Proof
end

