-- ==== Sys2Proof/Laws/KeepsSvc.lean ====
section
/-!
SUPPORT. Keeps, for the operations of Svc.lean.
-/

namespace Sys2Proof

namespace Machine

namespace State

@[simp] theorem conLine_keeps {b0 : State} (s : State) (text : String) (hk0 : Keeps b0 s) : Keeps b0 (conLine s text) := by
  unfold conLine
  simp (maxDischargeDepth := 100) (contextual := true) [*]

@[simp] theorem conNums_keeps {b0 : State} (s : State) (l : List Nat) (hk0 : Keeps b0 s) : Keeps b0 (conNums s l) := by
  unfold conNums
  simp (maxDischargeDepth := 100) (contextual := true) [*]

@[simp] theorem conPrompt_keeps {b0 : State} (s : State) (hk0 : Keeps b0 s) : Keeps b0 (conPrompt s) := by
  unfold conPrompt
  simp (maxDischargeDepth := 100) (contextual := true) [*]

@[simp] theorem conOk_keeps {b0 : State} (s : State) (hk0 : Keeps b0 s) : Keeps b0 (conOk s) := by
  unfold conOk
  simp (maxDischargeDepth := 100) (contextual := true) [*]

@[simp] theorem conErr_keeps {b0 : State} (s : State) (name : String) (hk0 : Keeps b0 s) : Keeps b0 (conErr s name) := by
  unfold conErr
  simp (maxDischargeDepth := 100) (contextual := true) [*]

@[simp] theorem conRc_keeps {b0 : State} (s : State) (r : RC) (hk0 : Keeps b0 s) : Keeps b0 (conRc s r) := by
  unfold conRc
  simp (maxDischargeDepth := 100) (contextual := true) [*]

@[simp] theorem svcRec_keeps {b0 : State} (s : State) (code arg1 : Nat) (hk0 : Keeps b0 s) : Keeps b0 (svcRec s code arg1) := by
  unfold svcRec
  simp (maxDischargeDepth := 100) (contextual := true) [*]

@[simp] theorem passedEnd_keeps {b0 : State} (s : State) (tag : Nat) (stall : Bool) (hk0 : Keeps b0 s) : Keeps b0 (passedEnd s tag stall) := by
  unfold passedEnd
  simp (maxDischargeDepth := 100) (contextual := true) [*]

@[simp] theorem passedDrop_keeps {b0 : State} (s : State) (name : String) (hk0 : Keeps b0 s) : Keeps b0 (passedDrop s name) := by
  unfold passedDrop
  first
    | (simp (maxDischargeDepth := 100) (contextual := true) [*]; done)
    | (apply Keeps.of_eq hk0 <;> with_reducible rfl)
    | (try dsimp only
       repeat' split
       all_goals first | with_reducible assumption | simp (maxDischargeDepth := 100) (contextual := true) [*])

@[simp] theorem setHeld_keeps {b0 : State} (s : State) (n : Nat) (on : Bool) (hk0 : Keeps b0 s) : Keeps b0 (setHeld s n on) := by
  unfold setHeld
  simp (maxDischargeDepth := 100) (contextual := true) [*]

@[simp] theorem freeHold_keeps {b0 : State} (s : State) (n : Nat) (refused : Bool) (hk0 : Keeps b0 s) : Keeps b0 (freeHold s n refused) := by
  unfold freeHold
  simp (maxDischargeDepth := 100) (contextual := true) [*]

@[simp] theorem svcSafe_keeps {b0 : State} (s : State) (hk0 : Keeps b0 s) : Keeps b0 (svcSafe s) := by
  unfold svcSafe
  simp (maxDischargeDepth := 100) (contextual := true) [*]

end State

end Machine

end Sys2Proof
end

