-- ==== Sys2Proof/Laws/KeepsPath.lean ====
section
/-!
SUPPORT. Keeps, for the operations of Path.lean.
-/

namespace Sys2Proof

namespace Machine

namespace State

@[simp] theorem setPp_keeps {b0 : State} (s : State) (k v : Nat) (hk0 : Keeps b0 s) : Keeps b0 (setPp s k v) := by
  unfold setPp
  simp (maxDischargeDepth := 100) (contextual := true) [*]

@[simp] theorem refreshCause_keeps {b0 : State} (s : State) (n : Nat) (hk0 : Keeps b0 s) : Keeps b0 (refreshCause s n) := by
  unfold refreshCause
  simp (maxDischargeDepth := 100) (contextual := true) [*]

@[simp] theorem setPs_keeps {b0 : State} (s : State) (n v : Nat) (hk0 : Keeps b0 s) : Keeps b0 (setPs s n v) := by
  unfold setPs
  simp (maxDischargeDepth := 100) (contextual := true) [*]

@[simp] theorem dropRoutes_keeps {b0 : State} (s : State) (n : Nat) (hk0 : Keeps b0 s) : Keeps b0 (dropRoutes s n) := by
  unfold dropRoutes
  first
    | (simp (maxDischargeDepth := 100) (contextual := true) [*]; done)
    | (apply Keeps.of_eq hk0 <;> with_reducible rfl)
    | (try dsimp only
       repeat' split
       all_goals first | with_reducible assumption | simp (maxDischargeDepth := 100) (contextual := true) [*])

@[simp] theorem dropEps_keeps {b0 : State} (s : State) (n : Nat) (hk0 : Keeps b0 s) : Keeps b0 (dropEps s n) := by
  unfold dropEps
  simp (maxDischargeDepth := 100) (contextual := true) [*]

@[simp] theorem dropHolds_keeps {b0 : State} (s : State) (n : Nat) (hk0 : Keeps b0 s) : Keeps b0 (dropHolds s n) := by
  unfold dropHolds
  simp (maxDischargeDepth := 100) (contextual := true) [*]

@[simp] theorem ttDrop_keeps {b0 : State} (s : State) (n : Nat) (out : Split → Bool) (hk0 : Keeps b0 s) : Keeps b0 (ttDrop s n out) := by
  unfold ttDrop
  simp (maxDischargeDepth := 100) (contextual := true) [*]

@[simp] theorem dropSplits_keeps {b0 : State} (s : State) (n : Nat) (hk0 : Keeps b0 s) : Keeps b0 (dropSplits s n) := by
  unfold dropSplits
  simp (maxDischargeDepth := 100) (contextual := true) [*]

@[simp] theorem portGone_keeps {b0 : State} (s : State) (n : Nat) (hk0 : Keeps b0 s) : Keeps b0 (portGone s n) := by
  unfold portGone
  simp (maxDischargeDepth := 100) (contextual := true) [*]

@[simp] theorem usb3Off_keeps {b0 : State} (s : State) (u : Nat) (hk0 : Keeps b0 s) : Keeps b0 (usb3Off s u) := by
  unfold usb3Off
  simp (maxDischargeDepth := 100) (contextual := true) [*]

@[simp] theorem termsOff_keeps {b0 : State} (s : State) (k : Nat) (hk0 : Keeps b0 s) : Keeps b0 (termsOff s k) := by
  unfold termsOff
  simp (maxDischargeDepth := 100) (contextual := true) [*]

@[simp] theorem dropNext_keeps {b0 : State} (s : State) (k : Nat) (hk0 : Keeps b0 s) : Keeps b0 (dropNext s k) := by
  unfold dropNext
  simp (maxDischargeDepth := 100) (contextual := true) [*]

@[simp] theorem dropContract_keeps {b0 : State} (s : State) (k : Nat) (hk0 : Keeps b0 s) : Keeps b0 (dropContract s k) := by
  unfold dropContract
  simp (maxDischargeDepth := 100) (contextual := true) [*]

@[simp] theorem pdPostEntry_keeps {b0 : State} (s : State) (k kind cause : Nat) (hk0 : Keeps b0 s) : Keeps b0 (pdPostEntry s k kind cause) := by
  unfold pdPostEntry
  simp (maxDischargeDepth := 100) (contextual := true) [*]

@[simp] theorem abortTransition_keeps {b0 : State} (s : State) (k reason : Nat) (hk0 : Keeps b0 s) : Keeps b0 (abortTransition s k reason) := by
  unfold abortTransition
  simp (maxDischargeDepth := 100) (contextual := true) [*]

@[simp] theorem pathQuiet_keeps {b0 : State} (s : State) (k : Nat) (hk0 : Keeps b0 s) : Keeps b0 (pathQuiet s k) := by
  unfold pathQuiet
  simp (maxDischargeDepth := 100) (contextual := true) [*]

@[simp] theorem hardOff_keeps {b0 : State} (s : State) (k : Nat) (fin : DisEnd) (hk0 : Keeps b0 s) : Keeps b0 (hardOff s k fin) := by
  unfold hardOff
  simp (maxDischargeDepth := 100) (contextual := true) [*]

@[simp] theorem softOff_keeps {b0 : State} (s : State) (k : Nat) (hk0 : Keeps b0 s) : Keeps b0 (softOff s k) := by
  unfold softOff
  simp (maxDischargeDepth := 100) (contextual := true) [*]

@[simp] theorem retryReset_keeps {b0 : State} (s : State) (k : Nat) (hk0 : Keeps b0 s) : Keeps b0 (retryReset s k) := by
  unfold retryReset
  simp (maxDischargeDepth := 100) (contextual := true) [*]

@[simp] theorem reseat_keeps {b0 : State} (s : State) (k : Nat) (hk0 : Keeps b0 s) : Keeps b0 (reseat s k) := by
  unfold reseat
  simp (maxDischargeDepth := 100) (contextual := true) [*]

@[simp] theorem pwrOkFall_keeps {b0 : State} (s : State) (n : Nat) (hk0 : Keeps b0 s) : Keeps b0 (pwrOkFall s n) := by
  unfold pwrOkFall
  simp (maxDischargeDepth := 100) (contextual := true) [*]

@[simp] theorem romSlope_keeps {b0 : State} (s : State) (x gen : Nat) (hk0 : Keeps b0 s) : Keeps b0 (romSlope s x gen) := by
  unfold romSlope
  simp (maxDischargeDepth := 100) (contextual := true) [*]

@[simp] theorem romTrip_keeps {b0 : State} (s : State) (k i : Nat) (pps raise : Bool) (hk0 : Keeps b0 s) : Keeps b0 (romTrip s k i pps raise) := by
  unfold romTrip
  simp (maxDischargeDepth := 100) (contextual := true) [*]

end State

end Machine

end Sys2Proof
end

