-- ==== Sys2Proof/Laws/KeepsSafe.lean ====
section
/-!
SUPPORT. Keeps, for the operations of Safe.lean.
-/

namespace Sys2Proof

namespace Machine

namespace State

@[simp] theorem allPorts_keeps {b0 : State} (s : State) (f : State → Nat → State) (hk0 : Keeps b0 s) (hf : ∀ s a1, Keeps b0 s → Keeps b0 (f s a1)) : Keeps b0 (allPorts s f) := by
  unfold allPorts
  simp (maxDischargeDepth := 100) (contextual := true) [*]

@[simp] theorem ccPassive_keeps {b0 : State} (s : State) (u : Nat) (hk0 : Keeps b0 s) : Keeps b0 (ccPassive s u) := by
  unfold ccPassive
  simp (maxDischargeDepth := 100) (contextual := true) [*]

@[simp] theorem dropEnables_keeps {b0 : State} (s : State) (hk0 : Keeps b0 s) : Keeps b0 (dropEnables s) := by
  unfold dropEnables
  simp (maxDischargeDepth := 100) (contextual := true) [*]

@[simp] theorem upTermsOff_keeps {b0 : State} (s : State) (u : Nat) (hk0 : Keeps b0 s) : Keeps b0 (upTermsOff s u) := by
  unfold upTermsOff
  simp (maxDischargeDepth := 100) (contextual := true) [*]

@[simp] theorem allUps_keeps {b0 : State} (s : State) (f : State → Nat → State) (hk0 : Keeps b0 s) (hf : ∀ s a1, Keeps b0 s → Keeps b0 (f s a1)) : Keeps b0 (allUps s f) := by
  unfold allUps
  simp (maxDischargeDepth := 100) (contextual := true) [*]

@[simp] theorem haltThread_keeps {b0 : State} (s : State) (t : Nat) (hk0 : Keeps b0 s) : Keeps b0 (haltThread s t) := by
  unfold haltThread
  exact modThread_keeps _ _ _ hk0 fun x hx => by split <;> exact hx

@[simp] theorem basinClear_keeps {b0 : State} (s : State) (hk0 : Keeps b0 s) : Keeps b0 (basinClear s) := by
  unfold basinClear
  simp (maxDischargeDepth := 100) (contextual := true) [*]

@[simp] theorem updateAbort_keeps {b0 : State} (s : State) (hk0 : Keeps b0 s) : Keeps b0 (updateAbort s) := by
  unfold updateAbort
  simp (maxDischargeDepth := 100) (contextual := true) [*]

@[simp] theorem selftestAbort_keeps {b0 : State} (s : State) (hk0 : Keeps b0 s) : Keeps b0 (selftestAbort s) := by
  unfold selftestAbort
  simp (maxDischargeDepth := 100) (contextual := true) [*]

@[simp] theorem injExpire_keeps {b0 : State} (s : State) (hk0 : Keeps b0 s) : Keeps b0 (injExpire s) := by
  unfold injExpire
  simp (maxDischargeDepth := 100) (contextual := true) [*]

@[simp] theorem safeEntry_keeps {b0 : State} (s : State) (entry fsrc : Nat) (hk0 : Keeps b0 s) : Keeps b0 (safeEntry s entry fsrc) := by
  unfold safeEntry
  simp (maxDischargeDepth := 100) (contextual := true) [*]

@[simp] theorem keep_keeps {b0 : State} (s old : State) (f : Fld) (hk0 : Keeps b0 s) : Keeps b0 (keep s old f) := by
  unfold keep
  simp (maxDischargeDepth := 100) (contextual := true) [*]

@[simp] theorem keepFuses_keeps {b0 : State} (s old : State) (hk0 : Keeps b0 s) : Keeps b0 (keepFuses s old) := by
  unfold keepFuses
  simp (maxDischargeDepth := 100) (contextual := true) [*]

theorem resetOf_flds_sorted (v : Variant) : Tbl.sorted (resetOf v).flds = true := by cases v <;> rfl

@[simp] theorem resetBase_keeps {b0 : State} (s : State) (hk0 : Keeps b0 s) : Keeps b0 (resetBase s) := by
  exact ⟨hk0.variant, hk0.pending, hk0.jtag, fun i =>
    ⟨rfl, (by intro e he; cases he), rfl, (by intro e he; cases he), resetOf_flds_sorted s.variant, rfl, rfl, rfl, (by intro e he; cases he),
      (hk0.inv i).flash_wf⟩⟩

@[simp] theorem keepCounts_keeps {b0 : State} (s : State) (old : State) (h1 : Keeps b0 s) (h2 : Keeps b0 old) :
    Keeps b0 (keepCounts s old) :=
  ⟨h1.variant, h1.pending, h1.jtag, fun i => have a := h1.inv i; have b := h2.inv i
    ⟨b.cnts_wf, b.cnts_le, b.bytes_wf, b.bytes_lt, a.flds_sorted, a.staged_sorted, a.dmem_wf, a.imem_wf,
      a.loc_wf, a.flash_wf⟩⟩

@[simp] theorem resetBegin_keeps {b0 : State} (s : State) (kind : Nat) (hk0 : Keeps b0 s) : Keeps b0 (resetBegin s kind) := by
  unfold resetBegin
  simp (maxDischargeDepth := 100) (contextual := true) [*]

end State

end Machine

end Sys2Proof
end

