-- ==== Sys2Proof/Laws/KeepsFault.lean ====
section
/-!
SUPPORT. Keeps, for the operations of Fault.lean.
-/

namespace Sys2Proof

namespace Machine

namespace State

@[simp] theorem ventStop_keeps {b0 : State} (s : State) (i : Nat) (hk0 : Keeps b0 s) : Keeps b0 (ventStop s i) := by
  unfold ventStop
  simp (maxDischargeDepth := 100) (contextual := true) [*]

@[simp] theorem fltAssert_keeps {b0 : State} (s : State) (i inst : Nat) (hk0 : Keeps b0 s) : Keeps b0 (fltAssert s i inst) := by
  unfold fltAssert
  simp (maxDischargeDepth := 100) (contextual := true) [*]

@[simp] theorem faultOnset_keeps {b0 : State} (s : State) (i inst detail : Nat) (hk0 : Keeps b0 s) : Keeps b0 (faultOnset s i inst detail) := by
  unfold faultOnset
  simp (maxDischargeDepth := 100) (contextual := true) [*]

@[simp] theorem regRec_keeps {b0 : State} (s : State) (code addr : Nat) (m : Master) (extra : Nat) (hk0 : Keeps b0 s) : Keeps b0 (regRec s code addr m extra) := by
  unfold regRec
  simp (maxDischargeDepth := 100) (contextual := true) [*]

@[simp] theorem regRecBy_keeps {b0 : State} (s : State) (code addr : Nat) (m : Option Master) (hk0 : Keeps b0 s) : Keeps b0 (regRecBy s code addr m) := by
  unfold regRecBy
  split
  · exact regRec_keeps _ _ _ _ _ hk0
  · exact logOpen_keeps _ _ _ _ hk0

@[simp] theorem accErr_keeps {b0 : State} (s : State) (cntr code addr : Nat) (m : Master) (hk0 : Keeps b0 s) : Keeps b0 (accErr s cntr code addr m) := by
  unfold accErr
  simp (maxDischargeDepth := 100) (contextual := true) [*]

@[simp] theorem privViol_keeps {b0 : State} (s : State) (cntr code addr : Nat) (m : Master) (hk0 : Keeps b0 s) : Keeps b0 (privViol s cntr code addr m) := by
  unfold privViol
  simp (maxDischargeDepth := 100) (contextual := true) [*]

end State

end Machine

end Sys2Proof
end

