-- ==== Sys2Proof/Laws/KeepsBasin.lean ====
section
/-!
SUPPORT. Keeps, for the operations of Basin.lean.
-/

namespace Sys2Proof

namespace Machine

namespace State

@[simp] theorem setUq_keeps {b0 : State} (s : State) (k : Nat) (e : UqEntry) (hk0 : Keeps b0 s) : Keeps b0 (setUq s k e) := by
  unfold setUq
  simp (maxDischargeDepth := 100) (contextual := true) [*]

@[simp] theorem releaseGrant_keeps {b0 : State} (s : State) (k : Nat) (hk0 : Keeps b0 s) : Keeps b0 (releaseGrant s k) := by
  unfold releaseGrant
  simp (maxDischargeDepth := 100) (contextual := true) [*]

@[simp] theorem shedPowerOff_keeps {b0 : State} (s : State) (hk0 : Keeps b0 s) : Keeps b0 (shedPowerOff s) := by
  unfold shedPowerOff
  first
    | (simp (maxDischargeDepth := 100) (contextual := true) [*]; done)
    | (apply Keeps.of_eq hk0 <;> with_reducible rfl)
    | (try dsimp only
       repeat' split
       all_goals first | with_reducible assumption | simp (maxDischargeDepth := 100) (contextual := true) [*])

@[simp] theorem shedRelease_keeps {b0 : State} (s : State) (hk0 : Keeps b0 s) : Keeps b0 (shedRelease s) := by
  unfold shedRelease
  first
    | (simp (maxDischargeDepth := 100) (contextual := true) [*]; done)
    | (apply Keeps.of_eq hk0 <;> with_reducible rfl)
    | (try dsimp only
       repeat' split
       all_goals first | with_reducible assumption | simp (maxDischargeDepth := 100) (contextual := true) [*])

@[simp] theorem refreshOver_keeps {b0 : State} (s : State) (hk0 : Keeps b0 s) : Keeps b0 (refreshOver s) := by
  unfold refreshOver
  simp (maxDischargeDepth := 100) (contextual := true) [*]

@[simp] theorem basinRefresh_keeps {b0 : State} (s0 : State) (hk0 : Keeps b0 s0) : Keeps b0 (basinRefresh s0) := by
  unfold basinRefresh
  extract_lets s cause old hw lvl s1 s2 s3 s4 s5 s6
  have h1 : Keeps b0 s1 := set_keeps _ _ _ (set_keeps _ _ _ (refreshOver_keeps _ hk0))
  have h2 : Keeps b0 s2 := Keeps.ite _ h1 (postRouted_keeps _ _ (logRec_keeps _ _ _ _ _ h1))
  have h3 : Keeps b0 s3 := Keeps.ite _ (faultOnset_keeps _ _ _ _ h2) (fltFall_keeps _ _ _ h2)
  have h4 : Keeps b0 s4 := Keeps.ite _ (inc_keeps _ _ h3) h3
  have h5 : Keeps b0 s5 := Keeps.ite _ (allPorts_keeps _ _ h4 fun s a h => releaseGrant_keeps s a h) h4
  have h6 : Keeps b0 s6 := Keeps.ite _ (shedPowerOff_keeps _ h5) (Keeps.ite _ (shedRelease_keeps _ h5) h5)
  exact modeNote_keeps _ _ h6

@[simp] theorem scanVisit_keeps {b0 : State} (s : State) (blocked : List Nat) (l : List Nat) (hk0 : Keeps b0 s) : Keeps b0 (scanVisit s blocked l) := by
  revert hk0
  fun_induction scanVisit s blocked l <;> intro hk0 <;> first | with_reducible assumption | (simp (maxDischargeDepth := 100) (contextual := true) [*]; done) | simp_all (maxDischargeDepth := 100) (contextual := true)

@[simp] theorem scan_keeps {b0 : State} (s : State) (hk0 : Keeps b0 s) : Keeps b0 (scan s) := by
  unfold scan
  simp (maxDischargeDepth := 100) (contextual := true) [*]

@[simp] theorem creditRefuse_keeps {b0 : State} (s : State) (hk0 : Keeps b0 s) : Keeps b0 (creditRefuse s).1 := by
  unfold creditRefuse
  simp (maxDischargeDepth := 100) (contextual := true) [*]

@[simp] theorem charge_keeps {b0 : State} (s : State) (k d : Nat) (hk0 : Keeps b0 s) : Keeps b0 (charge s k d) := by
  unfold charge
  simp (maxDischargeDepth := 100) (contextual := true) [*]

@[simp] theorem take_keeps {b0 : State} (s : State) (k d : Nat) (hk0 : Keeps b0 s) : Keeps b0 (take s k d).1 := by
  unfold take
  simp (maxDischargeDepth := 100) (contextual := true) [*]

@[simp] theorem takeQ_keeps {b0 : State} (s : State) (k d : Nat) (hk0 : Keeps b0 s) : Keeps b0 (takeQ s k d).1 := by
  unfold takeQ
  simp (maxDischargeDepth := 100) (contextual := true) [*]

@[simp] theorem give_keeps {b0 : State} (s : State) (k d : Nat) (hk0 : Keeps b0 s) : Keeps b0 (give s k d).1 := by
  unfold give
  simp (maxDischargeDepth := 100) (contextual := true) [*]

@[simp] theorem cancel_keeps {b0 : State} (s : State) (k : Nat) (hk0 : Keeps b0 s) : Keeps b0 (cancel s k).1 := by
  unfold cancel
  simp (maxDischargeDepth := 100) (contextual := true) [*]

@[simp] theorem creditReturn_keeps {b0 : State} (s : State) (k : Nat) (hk0 : Keeps b0 s) : Keeps b0 (creditReturn s k) := by
  unfold creditReturn
  simp (maxDischargeDepth := 100) (contextual := true) [*]

@[simp] theorem forcedTake_keeps {b0 : State} (s : State) (k : Nat) (hk0 : Keeps b0 s) : Keeps b0 (forcedTake s k) := by
  unfold forcedTake
  simp (maxDischargeDepth := 100) (contextual := true) [*]

@[simp] theorem admitOver_keeps {b0 : State} (s : State) (hk0 : Keeps b0 s) : Keeps b0 (admitOver s) := by
  unfold admitOver
  simp (maxDischargeDepth := 100) (contextual := true) [*]

@[simp] theorem admitOnce_keeps {b0 : State} (s0 : State) (hk0 : Keeps b0 s0) : Keeps b0 (admitOnce s0) := by
  unfold admitOnce
  first
    | (simp (maxDischargeDepth := 100) (contextual := true) [*]; done)
    | (apply Keeps.of_eq hk0 <;> with_reducible rfl)
    | (try dsimp only
       repeat' split
       all_goals first | with_reducible assumption | simp (maxDischargeDepth := 100) (contextual := true) [*])

@[simp] theorem energyOf_keeps {b0 : State} (s : State) (pw : List Nat) (g : Nat) (hk0 : Keeps b0 s) : Keeps b0 (energyOf s pw g) := by
  unfold energyOf
  simp (maxDischargeDepth := 100) (contextual := true) [*]

@[simp] theorem energyTick_keeps {b0 : State} (s : State) (hk0 : Keeps b0 s) : Keeps b0 (energyTick s) := by
  unfold energyTick
  simp (maxDischargeDepth := 100) (contextual := true) [*]

@[simp] theorem heatTick_keeps {b0 : State} (s : State) (hk0 : Keeps b0 s) : Keeps b0 (heatTick s) := by
  unfold heatTick
  simp (maxDischargeDepth := 100) (contextual := true) [*]

@[simp] theorem dieRead_keeps {b0 : State} (s : State) (i v : Nat) (hk0 : Keeps b0 s) : Keeps b0 (dieRead s i v) := by
  unfold dieRead
  simp (maxDischargeDepth := 100) (contextual := true) [*]

@[simp] theorem diesRead_keeps {b0 : State} (s : State) (i : Nat) (l : List Nat) (hk0 : Keeps b0 s) : Keeps b0 (diesRead s i l) := by
  revert hk0
  fun_induction diesRead s i l <;> intro hk0 <;> first | with_reducible assumption | (simp (maxDischargeDepth := 100) (contextual := true) [*]; done) | simp_all (maxDischargeDepth := 100) (contextual := true)

@[simp] theorem ageTick_keeps {b0 : State} (s : State) (hk0 : Keeps b0 s) : Keeps b0 (ageTick s) := by
  unfold ageTick
  simp (maxDischargeDepth := 100) (contextual := true) [*]

@[simp] theorem basinTick_keeps {b0 : State} (s : State) (temps : List Nat) (hk0 : Keeps b0 s) : Keeps b0 (basinTick s temps) := by
  unfold basinTick
  simp (maxDischargeDepth := 100) (contextual := true) [*]


end State

open State

theorem execBasinTick_keeps {b0 : State} (temps : List Nat) (s : State) (hk0 : Keeps b0 s) : KeepsR b0 (execBasinTick temps s) := by
  unfold execBasinTick
  exact act_keeps _ _ hk0 (fun s hk0 => by simp (maxDischargeDepth := 100) (contextual := true) [*])

theorem execGrantExpiry_keeps {b0 : State} (k : Nat) (s : State) (hk0 : Keeps b0 s) : KeepsR b0 (execGrantExpiry k s) := by
  unfold execGrantExpiry
  exact act_keeps _ _ hk0 (fun s hk0 => by simp (maxDischargeDepth := 100) (contextual := true) [*])

theorem execSensorSelfTest_keeps {b0 : State} (i diff : Nat) (s : State) (hk0 : Keeps b0 s) : KeepsR b0 (execSensorSelfTest i diff s) := by
  unfold execSensorSelfTest
  exact act_keeps _ _ hk0 (fun s hk0 => by simp (maxDischargeDepth := 100) (contextual := true) [*])

theorem execBoardSensorRead_keeps {b0 : State} (j : Nat) (valid : Bool) (temp : Nat) (s : State) (hk0 : Keeps b0 s) : KeepsR b0 (execBoardSensorRead j valid temp s) := by
  unfold execBoardSensorRead
  exact act_keeps _ _ hk0 (fun s hk0 => by simp (maxDischargeDepth := 100) (contextual := true) [*])


namespace State

@[simp] theorem wrBoardCfg_keeps {b0 : State} (s : State) (j v : Nat) (hk0 : Keeps b0 s) : Keeps b0 (wrBoardCfg s j v) := by
  unfold wrBoardCfg
  simp (maxDischargeDepth := 100) (contextual := true) [*]

@[simp] theorem wrShedLevel_keeps {b0 : State} (s : State) (v : Nat) (hk0 : Keeps b0 s) : Keeps b0 (wrShedLevel s v) := by
  unfold wrShedLevel
  simp (maxDischargeDepth := 100) (contextual := true) [*]

@[simp] theorem wrCap_keeps {b0 : State} (s : State) (g v : Nat) (hk0 : Keeps b0 s) : Keeps b0 (wrCap s g v) := by
  unfold wrCap
  simp (maxDischargeDepth := 100) (contextual := true) [*]


end State

open State

theorem execBoardSensorConfigWrite_keeps {b0 : State} (j v : Nat) (s : State) (hk0 : Keeps b0 s) : KeepsR b0 (execBoardSensorConfigWrite j v s) := by
  unfold execBoardSensorConfigWrite
  exact act_keeps _ _ hk0 (fun s hk0 => by simp (maxDischargeDepth := 100) (contextual := true) [*])

theorem execShedPowerOff_keeps {b0 : State} (s : State) (hk0 : Keeps b0 s) : KeepsR b0 (execShedPowerOff s) := by
  unfold execShedPowerOff
  exact act_keeps _ _ hk0 (fun s hk0 => by simp (maxDischargeDepth := 100) (contextual := true) [*])

theorem execShedPortRelease_keeps {b0 : State} (s : State) (hk0 : Keeps b0 s) : KeepsR b0 (execShedPortRelease s) := by
  unfold execShedPortRelease
  exact act_keeps _ _ hk0 (fun s hk0 => by simp (maxDischargeDepth := 100) (contextual := true) [*])

theorem execShedLevelWrite_keeps {b0 : State} (v : Nat) (s : State) (hk0 : Keeps b0 s) : KeepsR b0 (execShedLevelWrite v s) := by
  unfold execShedLevelWrite
  exact act_keeps _ _ hk0 (fun s hk0 => by simp (maxDischargeDepth := 100) (contextual := true) [*])

theorem execCapWrite_keeps {b0 : State} (g v : Nat) (s : State) (hk0 : Keeps b0 s) : KeepsR b0 (execCapWrite g v s) := by
  unfold execCapWrite
  exact act_keeps _ _ hk0 (fun s hk0 => by simp (maxDischargeDepth := 100) (contextual := true) [*])

end Machine

end Sys2Proof
end

