-- ==== Sys2Proof/Laws/KeepsQueue.lean ====
section
/-!
SUPPORT. Keeps, for the operations of Queue.lean.
-/

namespace Sys2Proof

namespace Machine

namespace State

@[simp] theorem qFlush_keeps {b0 : State} (s : State) (q : Nat) (hk0 : Keeps b0 s) : Keeps b0 (qFlush s q) := by
  unfold qFlush
  simp (maxDischargeDepth := 100) (contextual := true) [*]

@[simp] theorem qConsider_keeps {b0 : State} (s : State) (q : Nat) (hk0 : Keeps b0 s) : Keeps b0 (qConsider s q) := by
  unfold qConsider
  simp (maxDischargeDepth := 100) (contextual := true) [*]

@[simp] theorem qFlushEnd_keeps {b0 : State} (s : State) (q : Nat) (hk0 : Keeps b0 s) : Keeps b0 (qFlushEnd s q) := by
  unfold qFlushEnd
  simp (maxDischargeDepth := 100) (contextual := true) [*]

@[simp] theorem wrQcfg_keeps {b0 : State} (s : State) (q v : Nat) (hk0 : Keeps b0 s) : Keeps b0 (wrQcfg s q v) := by
  unfold wrQcfg
  simp (maxDischargeDepth := 100) (contextual := true) [*]

@[simp] theorem qParity_keeps {b0 : State} (s : State) (q : Nat) (hk0 : Keeps b0 s) : Keeps b0 (qParity s q) := by
  unfold qParity
  simp (maxDischargeDepth := 100) (contextual := true) [*]

@[simp] theorem qUse_keeps {b0 : State} (s : State) (q : Nat) (hk0 : Keeps b0 s) : Keeps b0 (qUse s q) := by
  unfold qUse
  simp (maxDischargeDepth := 100) (contextual := true) [*]

@[simp] theorem protBank_keeps {b0 : State} (s : State) (b : Nat) (hk0 : Keeps b0 s) : Keeps b0 (protBank s b) := by
  unfold protBank
  simp (maxDischargeDepth := 100) (contextual := true) [*]

@[simp] theorem wrProt_keeps {b0 : State} (s : State) (v : Nat) (hk0 : Keeps b0 s) : Keeps b0 (wrProt s v) := by
  unfold wrProt
  simp (maxDischargeDepth := 100) (contextual := true) [*]

@[simp] theorem parityNote_keeps {b0 : State} (s : State) (b n : Nat) (hk0 : Keeps b0 s) : Keeps b0 (parityNote s b n) := by
  unfold parityNote
  simp (maxDischargeDepth := 100) (contextual := true) [*]

@[simp] theorem corrNote_keeps {b0 : State} (s : State) (b n : Nat) (hk0 : Keeps b0 s) : Keeps b0 (corrNote s b n) := by
  unfold corrNote
  simp (maxDischargeDepth := 100) (contextual := true) [*]

@[simp] theorem readError_keeps {b0 : State} (s : State) (q o one two : Nat) (hk0 : Keeps b0 s) : Keeps b0 (readError s q o one two) := by
  unfold readError
  first
    | (simp (maxDischargeDepth := 100) (contextual := true) [*]; done)
    | (apply Keeps.of_eq hk0 <;> with_reducible rfl)
    | (try dsimp only
       repeat' split
       all_goals first | with_reducible assumption | simp (maxDischargeDepth := 100) (contextual := true) [*])

@[simp] theorem epParity_keeps {b0 : State} (s : State) (e : Nat) (hk0 : Keeps b0 s) : Keeps b0 (epParity s e) := by
  unfold epParity
  simp (maxDischargeDepth := 100) (contextual := true) [*]

@[simp] theorem epLookup_keeps {b0 : State} (s : State) (n addr epn : Nat) (dirIn : Bool) (hk0 : Keeps b0 s) : Keeps b0 (epLookup s n addr epn dirIn).1 := by
  unfold epLookup
  first
    | (simp (maxDischargeDepth := 100) (contextual := true) [*]; done)
    | (apply Keeps.of_eq hk0 <;> with_reducible rfl)
    | (try dsimp only
       repeat' split
       all_goals first | with_reducible assumption | simp (maxDischargeDepth := 100) (contextual := true) [*])

@[simp] theorem epApply_keeps {b0 : State} (s : State) (e : Nat) (hk0 : Keeps b0 s) : Keeps b0 (epApply s e) := by
  unfold epApply
  simp (maxDischargeDepth := 100) (contextual := true) [*]

end State

end Machine

end Sys2Proof
end

