-- ==== Sys2Proof/Laws/KeepsEndpoints.lean ====
section
/-!
SUPPORT. Keeps, for the operations of Endpoints.lean.
-/

namespace Sys2Proof

namespace Machine

namespace State

@[simp] theorem epInstall_keeps {b0 : State} (s : State) (n addr : Nat) (d : EpDesc) (hk0 : Keeps b0 s) : Keeps b0 (epInstall s n addr d) := by
  unfold epInstall
  first
    | (simp (maxDischargeDepth := 100) (contextual := true) [*]; done)
    | (apply Keeps.of_eq hk0 <;> with_reducible rfl)
    | (try dsimp only
       repeat' split
       all_goals first | with_reducible assumption | simp (maxDischargeDepth := 100) (contextual := true) [*])

@[simp] theorem modDev_keeps {b0 : State} (s : State) (n addr : Nat) (f : DevCfg → DevCfg) (hk0 : Keeps b0 s) : Keeps b0 (modDev s n addr f) := by
  unfold modDev
  simp (maxDischargeDepth := 100) (contextual := true) [*]

@[simp] theorem devSeen_keeps {b0 : State} (s : State) (n addr : Nat) (x : Seen) (hk0 : Keeps b0 s) : Keeps b0 (devSeen s n addr x) := by
  unfold devSeen
  first
    | (simp (maxDischargeDepth := 100) (contextual := true) [*]; done)
    | (apply Keeps.of_eq hk0 <;> with_reducible rfl)
    | (try dsimp only
       repeat' split
       all_goals first | with_reducible assumption | simp (maxDischargeDepth := 100) (contextual := true) [*])

end State

end Machine

end Sys2Proof
end

