-- ==== Sys2Proof/Laws/KeepsMeter.lean ====
section
/-!
SUPPORT. Keeps, for the operations of Meter.lean.
-/

namespace Sys2Proof

namespace Machine

namespace State

@[simp] theorem plParity_keeps {b0 : State} (s : State) (p : Nat) (hk0 : Keeps b0 s) : Keeps b0 (plParity s p) := by
  unfold plParity
  simp (maxDischargeDepth := 100) (contextual := true) [*]

@[simp] theorem plUse_keeps {b0 : State} (s : State) (p : Nat) (hk0 : Keeps b0 s) : Keeps b0 (plUse s p) := by
  unfold plUse
  simp (maxDischargeDepth := 100) (contextual := true) [*]

@[simp] theorem plCount_keeps {b0 : State} (s : State) (p b : Nat) (c : Colour) (hk0 : Keeps b0 s) : Keeps b0 (plCount s p b c) := by
  unfold plCount
  first
    | (simp (maxDischargeDepth := 100) (contextual := true) [*]; done)
    | (apply Keeps.of_eq hk0 <;> with_reducible rfl)
    | (try dsimp only
       repeat' split
       all_goals first | with_reducible assumption | simp (maxDischargeDepth := 100) (contextual := true) [*])

@[simp] theorem stageMeter_keeps {b0 : State} (s0 : State) (p b : Nat) (pre : Colour) (safe : Bool) (hk0 : Keeps b0 s0) : Keeps b0 (stageMeter s0 p b pre safe).1 := by
  unfold stageMeter
  simp (maxDischargeDepth := 100) (contextual := true) [*]

@[simp] theorem meterBoth_keeps {b0 : State} (s : State) (a b len : Nat) (pre : Colour) (safe : Bool) (hk0 : Keeps b0 s) : Keeps b0 (meterBoth s a b len pre safe).1 := by
  unfold meterBoth
  simp (maxDischargeDepth := 100) (contextual := true) [*]

@[simp] theorem holdBegin_keeps {b0 : State} (s : State) (p e1 len path : Nat) (pkt : Option (Nat × Nat)) (hk0 : Keeps b0 s) : Keeps b0 (holdBegin s p e1 len path pkt) := by
  unfold holdBegin
  simp (maxDischargeDepth := 100) (contextual := true) [*]

@[simp] theorem modHold_keeps {b0 : State} (s : State) (e : Nat) (f : Hold → Hold) (hk0 : Keeps b0 s) : Keeps b0 (modHold s e f) := by
  unfold modHold
  simp (maxDischargeDepth := 100) (contextual := true) [*]

@[simp] theorem dropHold_keeps {b0 : State} (s : State) (e : Nat) (hk0 : Keeps b0 s) : Keeps b0 (dropHold s e) := by
  unfold dropHold
  simp (maxDischargeDepth := 100) (contextual := true) [*]

@[simp] theorem holdAnswer_keeps {b0 : State} (s : State) (h : Hold) (hk0 : Keeps b0 s) : Keeps b0 (holdAnswer s h) := by
  unfold holdAnswer
  first
    | (simp (maxDischargeDepth := 100) (contextual := true) [*]; done)
    | (apply Keeps.of_eq hk0 <;> with_reducible rfl)
    | (try dsimp only
       repeat' split
       all_goals first | with_reducible assumption | simp (maxDischargeDepth := 100) (contextual := true) [*])

@[simp] theorem releasePkt_keeps {b0 : State} (s : State) (q o : Nat) (c : Colour) (hk0 : Keeps b0 s) : Keeps b0 (releasePkt s q o c) := by
  unfold releasePkt
  first
    | (simp (maxDischargeDepth := 100) (contextual := true) [*]; done)
    | (apply Keeps.of_eq hk0 <;> with_reducible rfl)
    | (try dsimp only
       repeat' split
       all_goals first | with_reducible assumption | simp (maxDischargeDepth := 100) (contextual := true) [*])

@[simp] theorem releaseBehind_keeps {b0 : State} (s : State) (p q : Nat) (l : List Packet) (hk0 : Keeps b0 s) : Keeps b0 (releaseBehind s p q l) := by
  revert hk0
  fun_induction releaseBehind s p q l <;> intro hk0 <;> first | with_reducible assumption | (simp (maxDischargeDepth := 100) (contextual := true) [*]; done) | simp_all (maxDischargeDepth := 100) (contextual := true)

@[simp] theorem holdTry_keeps {b0 : State} (s : State) (h : Hold) (hk0 : Keeps b0 s) : Keeps b0 (holdTry s h) := by
  unfold holdTry
  first
    | (simp (maxDischargeDepth := 100) (contextual := true) [*]; done)
    | (apply Keeps.of_eq hk0 <;> with_reducible rfl)
    | (try dsimp only
       repeat' split
       all_goals first | with_reducible assumption | simp (maxDischargeDepth := 100) (contextual := true) [*])

@[simp] theorem holdsTry_keeps {b0 : State} (s : State) (p : Nat) (hk0 : Keeps b0 s) : Keeps b0 (holdsTry s p) := by
  unfold holdsTry
  simp (maxDischargeDepth := 100) (contextual := true) [*]

@[simp] theorem holdForce_keeps {b0 : State} (s : State) (h : Hold) (hk0 : Keeps b0 s) : Keeps b0 (holdForce s h) := by
  unfold holdForce
  first
    | (simp (maxDischargeDepth := 100) (contextual := true) [*]; done)
    | (apply Keeps.of_eq hk0 <;> with_reducible rfl)
    | (try dsimp only
       repeat' split
       all_goals first | with_reducible assumption | simp (maxDischargeDepth := 100) (contextual := true) [*])

@[simp] theorem plApply_keeps {b0 : State} (s : State) (p : Nat) (hk0 : Keeps b0 s) : Keeps b0 (plApply s p) := by
  unfold plApply
  simp (maxDischargeDepth := 100) (contextual := true) [*]

@[simp] theorem plBoundary_keeps {b0 : State} (s : State) (p : Nat) (hk0 : Keeps b0 s) : Keeps b0 (plBoundary s p) := by
  unfold plBoundary
  first
    | (simp (maxDischargeDepth := 100) (contextual := true) [*]; done)
    | (apply Keeps.of_eq hk0 <;> with_reducible rfl)
    | (try dsimp only
       repeat' split
       all_goals first | with_reducible assumption | simp (maxDischargeDepth := 100) (contextual := true) [*])

end State

end Machine

end Sys2Proof
end

