-- ==== Sys2Proof/Laws/KeepsPowerPath.lean ====
section
/-!
SUPPORT. Keeps, for the operations of PowerPath.lean.
-/

namespace Sys2Proof

namespace Machine

namespace State

@[simp] theorem setTarget_keeps {b0 : State} (s : State) (k t : Nat) (hk0 : Keeps b0 s) : Keeps b0 (setTarget s k t) := by
  unfold setTarget
  simp (maxDischargeDepth := 100) (contextual := true) [*]

@[simp] theorem newTarget_keeps {b0 : State} (s : State) (k t : Nat) (hk0 : Keeps b0 s) : Keeps b0 (newTarget s k t) := by
  unfold newTarget
  simp (maxDischargeDepth := 100) (contextual := true) [*]

@[simp] theorem rampStart_keeps {b0 : State} (s : State) (k : Nat) (hk0 : Keeps b0 s) : Keeps b0 (rampStart s k) := by
  unfold rampStart
  simp (maxDischargeDepth := 100) (contextual := true) [*]

@[simp] theorem stuckOff_keeps {b0 : State} (s : State) (k cause : Nat) (hk0 : Keeps b0 s) : Keeps b0 (stuckOff s k cause) := by
  unfold stuckOff
  simp (maxDischargeDepth := 100) (contextual := true) [*]

@[simp] theorem powerGood_keeps {b0 : State} (s : State) (k : Nat) (hk0 : Keeps b0 s) : Keeps b0 (powerGood s k) := by
  unfold powerGood
  simp (maxDischargeDepth := 100) (contextual := true) [*]

@[simp] theorem rampComplete_keeps {b0 : State} (s : State) (k : Nat) (hk0 : Keeps b0 s) : Keeps b0 (rampComplete s k) := by
  unfold rampComplete
  simp (maxDischargeDepth := 100) (contextual := true) [*]

@[simp] theorem groupUv_keeps {b0 : State} (s : State) (k : Nat) (hk0 : Keeps b0 s) : Keeps b0 (groupUv s k) := by
  unfold groupUv
  simp (maxDischargeDepth := 100) (contextual := true) [*]

@[simp] theorem trip_keeps {b0 : State} (s : State) (k cause : Nat) (hk0 : Keeps b0 s) : Keeps b0 (trip s k cause) := by
  unfold trip
  simp (maxDischargeDepth := 100) (contextual := true) [*]

@[simp] theorem dischargeEnd_keeps {b0 : State} (s : State) (k : Nat) (hk0 : Keeps b0 s) : Keeps b0 (dischargeEnd s k) := by
  unfold dischargeEnd
  extract_lets s1_ s2_ s3_ s4_
  have hs1_ : Keeps b0 s1_ := by
        unfold s1_
        first | (simp (maxDischargeDepth := 100) (contextual := true) [*]; done) | (repeat' split) <;> first | with_reducible assumption | simp (maxDischargeDepth := 100) (contextual := true) [*]
  have hs2_ : Keeps b0 s2_ := by
        unfold s2_
        first | (simp (maxDischargeDepth := 100) (contextual := true) [*]; done) | (repeat' split) <;> first | with_reducible assumption | simp (maxDischargeDepth := 100) (contextual := true) [*]
  have hs3_ : Keeps b0 s3_ := by
        unfold s3_
        first | (simp (maxDischargeDepth := 100) (contextual := true) [*]; done) | (repeat' split) <;> first | with_reducible assumption | simp (maxDischargeDepth := 100) (contextual := true) [*]
  have hs4_ : Keeps b0 s4_ := by
        unfold s4_
        first | (simp (maxDischargeDepth := 100) (contextual := true) [*]; done) | (repeat' split) <;> first | with_reducible assumption | simp (maxDischargeDepth := 100) (contextual := true) [*]
  first | (simp (maxDischargeDepth := 100) (contextual := true) [*]; done) | (repeat' split) <;> first | with_reducible assumption | simp (maxDischargeDepth := 100) (contextual := true) [*]

@[simp] theorem hrSafe0V_keeps {b0 : State} (s : State) (k : Nat) (hk0 : Keeps b0 s) : Keeps b0 (hrSafe0V s k) := by
  unfold hrSafe0V
  simp (maxDischargeDepth := 100) (contextual := true) [*]

@[simp] theorem hrSinkEnd_keeps {b0 : State} (s : State) (k : Nat) (hk0 : Keeps b0 s) : Keeps b0 (hrSinkEnd s k) := by
  unfold hrSinkEnd
  simp (maxDischargeDepth := 100) (contextual := true) [*]

@[simp] theorem refreshTimer_keeps {b0 : State} (s : State) (k : Nat) (hk0 : Keeps b0 s) : Keeps b0 (refreshTimer s k) := by
  unfold refreshTimer
  simp (maxDischargeDepth := 100) (contextual := true) [*]

@[simp] theorem currentSample_keeps {b0 : State} (s : State) (k i : Nat) (hk0 : Keeps b0 s) : Keeps b0 (currentSample s k i) := by
  unfold currentSample
  simp (maxDischargeDepth := 100) (contextual := true) [*]

@[simp] theorem ppsLimit_keeps {b0 : State} (s : State) (k i : Nat) (hk0 : Keeps b0 s) : Keeps b0 (ppsLimit s k i) := by
  unfold ppsLimit
  simp (maxDischargeDepth := 100) (contextual := true) [*]

@[simp] theorem vbusSample_keeps {b0 : State} (s : State) (k v : Nat) (hk0 : Keeps b0 s) : Keeps b0 (vbusSample s k v) := by
  unfold vbusSample
  simp (maxDischargeDepth := 100) (contextual := true) [*]

@[simp] theorem ppRefuse_keeps {b0 : State} (s : State) (k : Nat) (hk0 : Keeps b0 s) : Keeps b0 (ppRefuse s k) := by
  unfold ppRefuse
  simp (maxDischargeDepth := 100) (contextual := true) [*]

@[simp] theorem ppDone_keeps {b0 : State} (s : State) (k : Nat) (hk0 : Keeps b0 s) : Keeps b0 (ppDone s k) := by
  unfold ppDone
  simp (maxDischargeDepth := 100) (contextual := true) [*]

@[simp] theorem ppOn_keeps {b0 : State} (s : State) (k : Nat) (hk0 : Keeps b0 s) : Keeps b0 (ppOn s k) := by
  unfold ppOn
  simp (maxDischargeDepth := 100) (contextual := true) [*]

@[simp] theorem commandOff_keeps {b0 : State} (s : State) (k : Nat) (hk0 : Keeps b0 s) : Keeps b0 (commandOff s k) := by
  unfold commandOff
  simp (maxDischargeDepth := 100) (contextual := true) [*]

@[simp] theorem ppOff_keeps {b0 : State} (s : State) (k : Nat) (hk0 : Keeps b0 s) : Keeps b0 (ppOff s k) := by
  unfold ppOff
  simp (maxDischargeDepth := 100) (contextual := true) [*]

@[simp] theorem ppRelease_keeps {b0 : State} (s : State) (k : Nat) (hk0 : Keeps b0 s) : Keeps b0 (ppRelease s k) := by
  unfold ppRelease
  simp (maxDischargeDepth := 100) (contextual := true) [*]

@[simp] theorem ppClear_keeps {b0 : State} (s : State) (k : Nat) (hk0 : Keeps b0 s) : Keeps b0 (ppClear s k) := by
  unfold ppClear
  simp (maxDischargeDepth := 100) (contextual := true) [*]

@[simp] theorem atPort_keeps {b0 : State} (s : State) (k : Nat) (f : State → State) (hk0 : Keeps b0 s) (hf : ∀ s, Keeps b0 s → Keeps b0 (f s)) : Keeps b0 (atPort s k f) := by
  unfold atPort
  simp (maxDischargeDepth := 100) (contextual := true) [*]


end State

open State

theorem execRampStart_keeps {b0 : State} (k : Nat) (s : State) (hk0 : Keeps b0 s) : KeepsR b0 (execRampStart k s) := by
  unfold execRampStart
  exact act_keeps _ _ hk0 (fun s hk0 => by simp (maxDischargeDepth := 100) (contextual := true) [*])

theorem execPrecheckEnd_keeps {b0 : State} (k : Nat) (s : State) (hk0 : Keeps b0 s) : KeepsR b0 (execPrecheckEnd k s) := by
  unfold execPrecheckEnd
  exact act_keeps _ _ hk0 (fun s hk0 => by simp (maxDischargeDepth := 100) (contextual := true) [*])

theorem execFetShort_keeps {b0 : State} (k v : Nat) (s : State) (hk0 : Keeps b0 s) : KeepsR b0 (execFetShort k v s) := by
  unfold execFetShort
  exact act_keeps _ _ hk0 (fun s hk0 => by simp (maxDischargeDepth := 100) (contextual := true) [*])

theorem execSlopeEnd_keeps {b0 : State} (k : Nat) (s : State) (hk0 : Keeps b0 s) : KeepsR b0 (execSlopeEnd k s) := by
  unfold execSlopeEnd
  exact act_keeps _ _ hk0 (fun s hk0 => by simp (maxDischargeDepth := 100) (contextual := true) [*])

theorem execGateRiseEnd_keeps {b0 : State} (k : Nat) (gateOk : Bool) (s : State) (hk0 : Keeps b0 s) : KeepsR b0 (execGateRiseEnd k gateOk s) := by
  unfold execGateRiseEnd
  exact act_keeps _ _ hk0 (fun s hk0 => by simp (maxDischargeDepth := 100) (contextual := true) [*])

theorem execPowerGood_keeps {b0 : State} (k : Nat) (s : State) (hk0 : Keeps b0 s) : KeepsR b0 (execPowerGood k s) := by
  unfold execPowerGood
  exact act_keeps _ _ hk0 (fun s hk0 => by simp (maxDischargeDepth := 100) (contextual := true) [*])

theorem execFastTrip_keeps {b0 : State} (k : Nat) (s : State) (hk0 : Keeps b0 s) : KeepsR b0 (execFastTrip k s) := by
  unfold execFastTrip
  exact act_keeps _ _ hk0 (fun s hk0 => by simp (maxDischargeDepth := 100) (contextual := true) [*])

theorem execSlowTrip_keeps {b0 : State} (k : Nat) (s : State) (hk0 : Keeps b0 s) : KeepsR b0 (execSlowTrip k s) := by
  unfold execSlowTrip
  exact act_keeps _ _ hk0 (fun s hk0 => by simp (maxDischargeDepth := 100) (contextual := true) [*])

theorem execOvTrip_keeps {b0 : State} (k : Nat) (s : State) (hk0 : Keeps b0 s) : KeepsR b0 (execOvTrip k s) := by
  unfold execOvTrip
  exact act_keeps _ _ hk0 (fun s hk0 => by simp (maxDischargeDepth := 100) (contextual := true) [*])

theorem execRetryWaitEnd_keeps {b0 : State} (k : Nat) (s : State) (hk0 : Keeps b0 s) : KeepsR b0 (execRetryWaitEnd k s) := by
  unfold execRetryWaitEnd
  exact act_keeps _ _ hk0 (fun s hk0 => by simp (maxDischargeDepth := 100) (contextual := true) [*])

theorem execRetryCountReset_keeps {b0 : State} (k : Nat) (s : State) (hk0 : Keeps b0 s) : KeepsR b0 (execRetryCountReset k s) := by
  unfold execRetryCountReset
  exact act_keeps _ _ hk0 (fun s hk0 => by simp (maxDischargeDepth := 100) (contextual := true) [*])

theorem execVsetTrim_keeps {b0 : State} (k : Nat) (s : State) (hk0 : Keeps b0 s) : KeepsR b0 (execVsetTrim k s) := by
  unfold execVsetTrim
  exact act_keeps _ _ hk0 (fun s hk0 => by simp (maxDischargeDepth := 100) (contextual := true) [*])

theorem execVsetSlewDone_keeps {b0 : State} (k : Nat) (s : State) (hk0 : Keeps b0 s) : KeepsR b0 (execVsetSlewDone k s) := by
  unfold execVsetSlewDone
  exact act_keeps _ _ hk0 (fun s hk0 => by simp (maxDischargeDepth := 100) (contextual := true) [*])

theorem execVsetPwmPeriod_keeps {b0 : State} (k : Nat) (s : State) (hk0 : Keeps b0 s) : KeepsR b0 (execVsetPwmPeriod k s) := by
  unfold execVsetPwmPeriod
  exact act_keeps _ _ hk0 (fun s hk0 => by simp (maxDischargeDepth := 100) (contextual := true) [*])

theorem execDischargeGateTimeout_keeps {b0 : State} (k : Nat) (s : State) (hk0 : Keeps b0 s) : KeepsR b0 (execDischargeGateTimeout k s) := by
  unfold execDischargeGateTimeout
  exact act_keeps _ _ hk0 (fun s hk0 => by simp (maxDischargeDepth := 100) (contextual := true) [*])

theorem execVbusDischarged_keeps {b0 : State} (k v : Nat) (s : State) (hk0 : Keeps b0 s) : KeepsR b0 (execVbusDischarged k v s) := by
  unfold execVbusDischarged
  exact act_keeps _ _ hk0 (fun s hk0 => by simp (maxDischargeDepth := 100) (contextual := true) [*])

theorem execDischargeSlow_keeps {b0 : State} (k : Nat) (s : State) (hk0 : Keeps b0 s) : KeepsR b0 (execDischargeSlow k s) := by
  unfold execDischargeSlow
  exact act_keeps _ _ hk0 (fun s hk0 => by simp (maxDischargeDepth := 100) (contextual := true) [*])

theorem execPpOn_keeps {b0 : State} (k : Nat) (s : State) (hk0 : Keeps b0 s) : KeepsR b0 (execPpOn k s) := by
  unfold execPpOn
  exact act_keeps _ _ hk0 (fun s hk0 => by simp (maxDischargeDepth := 100) (contextual := true) [*])

theorem execPpOff_keeps {b0 : State} (k : Nat) (s : State) (hk0 : Keeps b0 s) : KeepsR b0 (execPpOff k s) := by
  unfold execPpOff
  exact act_keeps _ _ hk0 (fun s hk0 => by simp (maxDischargeDepth := 100) (contextual := true) [*])

theorem execPpRelease_keeps {b0 : State} (k : Nat) (s : State) (hk0 : Keeps b0 s) : KeepsR b0 (execPpRelease k s) := by
  unfold execPpRelease
  exact act_keeps _ _ hk0 (fun s hk0 => by simp (maxDischargeDepth := 100) (contextual := true) [*])

theorem execClearStuck_keeps {b0 : State} (k : Nat) (s : State) (hk0 : Keeps b0 s) : KeepsR b0 (execClearStuck k s) := by
  unfold execClearStuck
  exact act_keeps _ _ hk0 (fun s hk0 => by simp (maxDischargeDepth := 100) (contextual := true) [*])

theorem execSlowTripSample_keeps {b0 : State} (k : Nat) (isVbus : Bool) (v : Nat) (s : State) (hk0 : Keeps b0 s) : KeepsR b0 (execSlowTripSample k isVbus v s) := by
  unfold execSlowTripSample
  exact act_keeps _ _ hk0 (fun s hk0 => by simp (maxDischargeDepth := 100) (contextual := true) [*])

end Machine

end Sys2Proof
end

