-- ==== Sys2Proof/Laws/KeepsBridge.lean ====
section
/-!
SUPPORT. Keeps, for the operations of Bridge.lean.
-/

namespace Sys2Proof

namespace Machine

namespace State

@[simp] theorem stopWaiting_keeps {b0 : State} (s : State) (n : Nat) (hk0 : Keeps b0 s) : Keeps b0 (stopWaiting s n) := by
  unfold stopWaiting
  simp (maxDischargeDepth := 100) (contextual := true) [*]

@[simp] theorem connectChannel_keeps {b0 : State} (s : State) (n c : Nat) (hk0 : Keeps b0 s) : Keeps b0 (connectChannel s n c) := by
  unfold connectChannel
  simp (maxDischargeDepth := 100) (contextual := true) [*]

@[simp] theorem assignChannel_keeps {b0 : State} (s : State) (n : Nat) (hk0 : Keeps b0 s) : Keeps b0 (assignChannel s n) := by
  unfold assignChannel
  first
    | (simp (maxDischargeDepth := 100) (contextual := true) [*]; done)
    | (apply Keeps.of_eq hk0 <;> with_reducible rfl)
    | (try dsimp only
       repeat' split
       all_goals first | with_reducible assumption | simp (maxDischargeDepth := 100) (contextual := true) [*])

@[simp] theorem serveWaiting_keeps {b0 : State} (s : State) (hk0 : Keeps b0 s) : Keeps b0 (serveWaiting s) := by
  unfold serveWaiting
  try dsimp only
  repeat' (first | with_reducible assumption | (simp (maxDischargeDepth := 100) (contextual := true) [*]; done) | refine Keeps.ite _ ?_ ?_ | refine Keeps.foldl _ _ (fun s a hk0 => ?_) ?_ | split)

@[simp] theorem releaseChannel_keeps {b0 : State} (s : State) (n : Nat) (hk0 : Keeps b0 s) : Keeps b0 (releaseChannel s n) := by
  unfold releaseChannel
  first
    | (simp (maxDischargeDepth := 100) (contextual := true) [*]; done)
    | (apply Keeps.of_eq hk0 <;> with_reducible rfl)
    | (try dsimp only
       repeat' split
       all_goals first | with_reducible assumption | simp (maxDischargeDepth := 100) (contextual := true) [*])

@[simp] theorem overvoltOpen_keeps {b0 : State} (s : State) (n : Nat) (hk0 : Keeps b0 s) : Keeps b0 (overvoltOpen s n) := by
  unfold overvoltOpen
  first
    | (simp (maxDischargeDepth := 100) (contextual := true) [*]; done)
    | (apply Keeps.of_eq hk0 <;> with_reducible rfl)
    | (try dsimp only
       repeat' split
       all_goals first | with_reducible assumption | simp (maxDischargeDepth := 100) (contextual := true) [*])

@[simp] theorem channelMoved_keeps {b0 : State} (s : State) (n : Nat) (hk0 : Keeps b0 s) : Keeps b0 (channelMoved s n) := by
  unfold channelMoved
  first
    | (simp (maxDischargeDepth := 100) (contextual := true) [*]; done)
    | (apply Keeps.of_eq hk0 <;> with_reducible rfl)
    | (try dsimp only
       repeat' split
       all_goals first | with_reducible assumption | simp (maxDischargeDepth := 100) (contextual := true) [*])

@[simp] theorem wrSbCfg_keeps {b0 : State} (s : State) (c v : Nat) (hk0 : Keeps b0 s) : Keeps b0 (wrSbCfg s c v) := by
  unfold wrSbCfg
  first
    | (simp (maxDischargeDepth := 100) (contextual := true) [*]; done)
    | (apply Keeps.of_eq hk0 <;> with_reducible rfl)
    | (try dsimp only
       repeat' split
       all_goals first | with_reducible assumption | simp (maxDischargeDepth := 100) (contextual := true) [*])


end State

open State

theorem execSbConfigWrite_keeps {b0 : State} (c v : Nat) (s : State) (hk0 : Keeps b0 s) : KeepsR b0 (execSbConfigWrite c v s) := by
  unfold execSbConfigWrite
  exact act_keeps _ _ hk0 (fun s hk0 => by simp (maxDischargeDepth := 100) (contextual := true) [*])

theorem execSetLineCoding_keeps {b0 : State} (u c rate bits parity stopBits : Nat) (s : State) (hk0 : Keeps b0 s) : KeepsR b0 (execSetLineCoding u c rate bits parity stopBits s) := by
  unfold execSetLineCoding
  exact act_keeps _ _ hk0 (fun s hk0 => by simp (maxDischargeDepth := 100) (contextual := true) [*])

theorem execBridgeRxData_keeps {b0 : State} (line : BridgePin) (bytes : List Byte) (s : State) (hk0 : Keeps b0 s) : KeepsR b0 (execBridgeRxData line bytes s) := by
  unfold execBridgeRxData
  exact act_keeps _ _ hk0 (fun s hk0 => by simp (maxDischargeDepth := 100) (contextual := true) [*])

theorem execBridgeTxData_keeps {b0 : State} (src : BridgeFrom) (c : Nat) (bytes : List Byte) (s : State) (hk0 : Keeps b0 s) : KeepsR b0 (execBridgeTxData src c bytes s) := by
  unfold execBridgeTxData
  exact act_keeps _ _ hk0 (fun s hk0 => by cases src <;> simp (maxDischargeDepth := 100) (contextual := true) [*])

end Machine

end Sys2Proof
end

