-- ==== Sys2Proof/Laws/KeepsTree.lean ====
section
/-!
SUPPORT. Keeps, for the operations of Tree.lean.
-/

namespace Sys2Proof

namespace Machine

namespace State

@[simp] theorem connectPort_keeps {b0 : State} (s : State) (n : Nat) (hk0 : Keeps b0 s) : Keeps b0 (connectPort s n) := by
  unfold connectPort
  simp (maxDischargeDepth := 100) (contextual := true) [*]

@[simp] theorem usb3On_keeps {b0 : State} (s : State) (u : Nat) (hk0 : Keeps b0 s) : Keeps b0 (usb3On s u) := by
  unfold usb3On
  simp (maxDischargeDepth := 100) (contextual := true) [*]

@[simp] theorem usb3Refresh_keeps {b0 : State} (s : State) (u : Nat) (hk0 : Keeps b0 s) : Keeps b0 (usb3Refresh s u) := by
  unfold usb3Refresh
  simp (maxDischargeDepth := 100) (contextual := true) [*]

@[simp] theorem ssTreeNote_keeps {b0 : State} (s old : State) (u : Nat) (hk0 : Keeps b0 s) : Keeps b0 (ssTreeNote s old u) := by
  unfold ssTreeNote
  simp (maxDischargeDepth := 100) (contextual := true) [*]

@[simp] theorem restPort_keeps {b0 : State} (s : State) (n : Nat) (hk0 : Keeps b0 s) : Keeps b0 (restPort s n) := by
  unfold restPort
  simp (maxDischargeDepth := 100) (contextual := true) [*]

@[simp] theorem leaveSlot_keeps {b0 : State} (s : State) (n : Nat) (hk0 : Keeps b0 s) : Keeps b0 (leaveSlot s n) := by
  unfold leaveSlot
  first
    | (simp (maxDischargeDepth := 100) (contextual := true) [*]; done)
    | (apply Keeps.of_eq hk0 <;> with_reducible rfl)
    | (try dsimp only
       repeat' split
       all_goals first | with_reducible assumption | simp (maxDischargeDepth := 100) (contextual := true) [*])

@[simp] theorem enterSlot_keeps {b0 : State} (s : State) (n u h l : Nat) (hk0 : Keeps b0 s) : Keeps b0 (enterSlot s n u h l) := by
  unfold enterSlot
  simp (maxDischargeDepth := 100) (contextual := true) [*]

@[simp] theorem hidePort_keeps {b0 : State} (s : State) (n cause : Nat) (hk0 : Keeps b0 s) : Keeps b0 (hidePort s n cause) := by
  unfold hidePort
  simp (maxDischargeDepth := 100) (contextual := true) [*]

@[simp] theorem flushPort_keeps {b0 : State} (s : State) (n : Nat) (tt data : Bool) (hk0 : Keeps b0 s) : Keeps b0 (flushPort s n tt data) := by
  unfold flushPort
  simp (maxDischargeDepth := 100) (contextual := true) [*]

@[simp] theorem presAsk_keeps {b0 : State} (s : State) (n : Nat) (hk0 : Keeps b0 s) : Keeps b0 (presAsk s n) := by
  unfold presAsk
  first
    | (simp (maxDischargeDepth := 100) (contextual := true) [*]; done)
    | (apply Keeps.of_eq hk0 <;> with_reducible rfl)
    | (try dsimp only
       repeat' split
       all_goals first | with_reducible assumption | simp (maxDischargeDepth := 100) (contextual := true) [*])

@[simp] theorem presDrop_keeps {b0 : State} (s : State) (n : Nat) (hk0 : Keeps b0 s) : Keeps b0 (presDrop s n) := by
  unfold presDrop
  first
    | (simp (maxDischargeDepth := 100) (contextual := true) [*]; done)
    | (apply Keeps.of_eq hk0 <;> with_reducible rfl)
    | (try dsimp only
       repeat' split
       all_goals first | with_reducible assumption | simp (maxDischargeDepth := 100) (contextual := true) [*])

@[simp] theorem presentPort_keeps {b0 : State} (s : State) (n : Nat) (hk0 : Keeps b0 s) : Keeps b0 (presentPort s n) := by
  unfold presentPort
  first
    | (simp (maxDischargeDepth := 100) (contextual := true) [*]; done)
    | (apply Keeps.of_eq hk0 <;> with_reducible rfl)
    | (try dsimp only
       repeat' split
       all_goals first | with_reducible assumption | simp (maxDischargeDepth := 100) (contextual := true) [*])

@[simp] theorem moveStart_keeps {b0 : State} (s : State) (n : Nat) (hk0 : Keeps b0 s) : Keeps b0 (moveStart s n) := by
  unfold moveStart
  extract_lets was_ s0_ s1_ s2_ s3_ s4_
  have hs0_ : Keeps b0 s0_ := by
        unfold s0_
        first | (simp (maxDischargeDepth := 100) (contextual := true) [*]; done) | (repeat' split) <;> first | with_reducible assumption | simp (maxDischargeDepth := 100) (contextual := true) [*]
  have hs1_ : Keeps b0 s1_ := by
        unfold s1_
        first | (simp (maxDischargeDepth := 100) (contextual := true) [*]; done) | (repeat' split) <;> first | with_reducible assumption | simp (maxDischargeDepth := 100) (contextual := true) [*]
  have hs2_ : Keeps b0 s2_ := by
        unfold s2_
        first | (simp (maxDischargeDepth := 100) (contextual := true) [*]; done) | (repeat' split) <;> first | with_reducible assumption | simp (maxDischargeDepth := 100) (contextual := true) [*]
  have hs3_ : Keeps b0 s3_ := by
        unfold s3_
        first | (simp (maxDischargeDepth := 100) (contextual := true) [*]; done) | (repeat' split) <;> first | with_reducible assumption | simp (maxDischargeDepth := 100) (contextual := true) [*]
  have hs4_ : Keeps b0 s4_ := by
        unfold s4_
        first | (simp (maxDischargeDepth := 100) (contextual := true) [*]; done) | (repeat' split) <;> first | with_reducible assumption | simp (maxDischargeDepth := 100) (contextual := true) [*]
  first | (simp (maxDischargeDepth := 100) (contextual := true) [*]; done) | (repeat' split) <;> first | with_reducible assumption | simp (maxDischargeDepth := 100) (contextual := true) [*]

@[simp] theorem wrPMap_keeps {b0 : State} (s : State) (n v : Nat) (hk0 : Keeps b0 s) : Keeps b0 (wrPMap s n v) := by
  unfold wrPMap
  first
    | (simp (maxDischargeDepth := 100) (contextual := true) [*]; done)
    | (apply Keeps.of_eq hk0 <;> with_reducible rfl)
    | (try dsimp only
       repeat' split
       all_goals first | with_reducible assumption | simp (maxDischargeDepth := 100) (contextual := true) [*])

@[simp] theorem treeEvt_keeps {b0 : State} (s : State) (u ev : Nat) (hk0 : Keeps b0 s) : Keeps b0 (treeEvt s u ev) := by
  unfold treeEvt
  simp (maxDischargeDepth := 100) (contextual := true) [*]

@[simp] theorem dropRequests_keeps {b0 : State} (s : State) (u : Nat) (ss : Bool) (hk0 : Keeps b0 s) : Keeps b0 (dropRequests s u ss) := by
  unfold dropRequests
  simp (maxDischargeDepth := 100) (contextual := true) [*]

@[simp] theorem resetSleep_keeps {b0 : State} (s : State) (n : Nat) (hk0 : Keeps b0 s) : Keeps b0 (resetSleep s n) := by
  unfold resetSleep
  simp (maxDischargeDepth := 100) (contextual := true) [*]

@[simp] theorem updateReset_keeps {b0 : State} (s : State) (u : Nat) (hk0 : Keeps b0 s) : Keeps b0 (updateReset s u) := by
  unfold updateReset
  simp (maxDischargeDepth := 100) (contextual := true) [*]

@[simp] theorem dropControl_keeps {b0 : State} (s : State) (n : Nat) (hk0 : Keeps b0 s) : Keeps b0 (dropControl s n) := by
  unfold dropControl
  simp (maxDischargeDepth := 100) (contextual := true) [*]

@[simp] theorem resetSide_keeps {b0 : State} (s : State) (u : Nat) (ss : Bool) (hk0 : Keeps b0 s) : Keeps b0 (resetSide s u ss) := by
  unfold resetSide
  simp (maxDischargeDepth := 100) (contextual := true) [*]

@[simp] theorem resetHubs_keeps {b0 : State} (s : State) (u : Nat) (ss : Bool) (hk0 : Keeps b0 s) : Keeps b0 (resetHubs s u ss) := by
  unfold resetHubs
  simp (maxDischargeDepth := 100) (contextual := true) [*]

@[simp] theorem resetPorts_keeps {b0 : State} (s : State) (u : Nat) (ss : Bool) (hk0 : Keeps b0 s) : Keeps b0 (resetPorts s u ss) := by
  unfold resetPorts
  simp (maxDischargeDepth := 100) (contextual := true) [*]

@[simp] theorem treeResetBegin_keeps {b0 : State} (s : State) (u : Nat) (hk0 : Keeps b0 s) : Keeps b0 (treeResetBegin s u) := by
  unfold treeResetBegin
  simp (maxDischargeDepth := 100) (contextual := true) [*]

end State

end Machine

end Sys2Proof
end

