-- ==== Sys2Proof/Laws/KeepsPortReq.lean ====
section
/-!
SUPPORT. Keeps, for the operations of PortReq.lean.
-/

namespace Sys2Proof

namespace Machine

namespace State

@[simp] theorem answerHost_keeps {b0 : State} (s : State) (n : Nat) (ack : Bool) (data : List Nat) (hk0 : Keeps b0 s) : Keeps b0 (answerHost s n ack data) := by
  unfold answerHost
  first
    | (simp (maxDischargeDepth := 100) (contextual := true) [*]; done)
    | (apply Keeps.of_eq hk0 <;> with_reducible rfl)
    | (try dsimp only
       repeat' split
       all_goals first | with_reducible assumption | simp (maxDischargeDepth := 100) (contextual := true) [*])

@[simp] theorem exitStart_keeps {b0 : State} (s : State) (n : Nat) (hk0 : Keeps b0 s) : Keeps b0 (exitStart s n) := by
  unfold exitStart
  simp (maxDischargeDepth := 100) (contextual := true) [*]

@[simp] theorem takeOver_keeps {b0 : State} (s : State) (n : Nat) (hk0 : Keeps b0 s) : Keeps b0 (takeOver s n) := by
  unfold takeOver
  simp (maxDischargeDepth := 100) (contextual := true) [*]

@[simp] theorem resetPort_keeps {b0 : State} (s : State) (n : Nat) (ss : Bool) (hk0 : Keeps b0 s) : Keeps b0 (resetPort s n ss) := by
  unfold resetPort
  have key : ∀ t, Keeps b0 t → Keeps b0 (match s.treeAt n with
      | some u => t.modUp u fun x => { x with target0 := some (.port n) }
      | none => t) := by
    intro t ht; split <;> simp [ht]
  refine Keeps.ite _ ?_ hk0
  refine Keeps.ite _ ?_ (key _ ?_)
  · simp (maxDischargeDepth := 100) (contextual := true) [*]
  · simp (maxDischargeDepth := 100) (contextual := true) [*]

@[simp] theorem warmReset_keeps {b0 : State} (s : State) (n : Nat) (hk0 : Keeps b0 s) : Keeps b0 (warmReset s n) := by
  unfold warmReset
  simp (maxDischargeDepth := 100) (contextual := true) [*]

@[simp] theorem clearChange_keeps {b0 : State} (s : State) (n f : Nat) (hk0 : Keeps b0 s) : Keeps b0 (clearChange s n f) := by
  unfold clearChange
  simp (maxDischargeDepth := 100) (contextual := true) [*]

@[simp] theorem repeatUp_keeps {b0 : State} (s : State) (n : Nat) (hk0 : Keeps b0 s) : Keeps b0 (repeatUp s n) := by
  unfold repeatUp
  first
    | (simp (maxDischargeDepth := 100) (contextual := true) [*]; done)
    | (apply Keeps.of_eq hk0 <;> with_reducible rfl)
    | (try dsimp only
       repeat' split
       all_goals first | with_reducible assumption | simp (maxDischargeDepth := 100) (contextual := true) [*])

@[simp] theorem l1Refuse_keeps {b0 : State} (s : State) (n : Nat) (hk0 : Keeps b0 s) : Keeps b0 (l1Refuse s n) := by
  unfold l1Refuse
  simp (maxDischargeDepth := 100) (contextual := true) [*]

@[simp] theorem portReq_keeps {b0 : State} (s : State) (n : Nat) (r : Req) (hk0 : Keeps b0 s) : Keeps b0 (portReq s n r) := by
  cases r <;> simp only [portReq] <;> simp (maxDischargeDepth := 100) (contextual := true) [*]

@[simp] theorem modLport_keeps {b0 : State} (s : State) (u l : Nat) (f : LPort → LPort) (hk0 : Keeps b0 s) : Keeps b0 (modLport s u l f) := by
  unfold modLport
  simp (maxDischargeDepth := 100) (contextual := true) [*]

@[simp] theorem hubReq_keeps {b0 : State} (s : State) (u : Nat) (t : Target) (r : Req) (hk0 : Keeps b0 s) : Keeps b0 (hubReq s u t r) := by
  unfold hubReq
  first
    | (simp (maxDischargeDepth := 100) (contextual := true) [*]; done)
    | (apply Keeps.of_eq hk0 <;> with_reducible rfl)
    | (try dsimp only
       repeat' split
       all_goals first | with_reducible assumption | simp (maxDischargeDepth := 100) (contextual := true) [*])

@[simp] theorem ownReq_keeps {b0 : State} (s : State) (u : Nat) (t : Target) (r : Req) (hk0 : Keeps b0 s) : Keeps b0 (ownReq s u t r) := by
  unfold ownReq
  first
    | (simp (maxDischargeDepth := 100) (contextual := true) [*]; done)
    | (apply Keeps.of_eq hk0 <;> with_reducible rfl)
    | (try dsimp only
       repeat' split
       all_goals first | with_reducible assumption | simp (maxDischargeDepth := 100) (contextual := true) [*])

@[simp] theorem slotReq_keeps {b0 : State} (s : State) (u i : Nat) (r : Req) (hk0 : Keeps b0 s) : Keeps b0 (slotReq s u i r) := by
  unfold slotReq
  first
    | (simp (maxDischargeDepth := 100) (contextual := true) [*]; done)
    | (apply Keeps.of_eq hk0 <;> with_reducible rfl)
    | (try dsimp only
       repeat' split
       all_goals first | with_reducible assumption | simp (maxDischargeDepth := 100) (contextual := true) [*])

@[simp] theorem emptyReq_keeps {b0 : State} (s : State) (u h l : Nat) (r : Req) (hk0 : Keeps b0 s) : Keeps b0 (emptyReq s u h l r) := by
  unfold emptyReq
  first
    | (simp (maxDischargeDepth := 100) (contextual := true) [*]; done)
    | (apply Keeps.of_eq hk0 <;> with_reducible rfl)
    | (try dsimp only
       repeat' split
       all_goals first | with_reducible assumption | simp (maxDischargeDepth := 100) (contextual := true) [*])

@[simp] theorem hostReq_keeps {b0 : State} (s : State) (u h l : Nat) (r : Req) (hk0 : Keeps b0 s) : Keeps b0 (hostReq s u h l r) := by
  unfold hostReq
  first
    | (simp (maxDischargeDepth := 100) (contextual := true) [*]; done)
    | (apply Keeps.of_eq hk0 <;> with_reducible rfl)
    | (try dsimp only
       repeat' split
       all_goals first | with_reducible assumption | simp (maxDischargeDepth := 100) (contextual := true) [*])

@[simp] theorem hostReqAck_keeps {b0 : State} (s : State) (u h l : Nat) (r : Req) (hk0 : Keeps b0 s) : Keeps b0 (hostReqAck s u h l r) := by
  unfold hostReqAck
  first
    | (simp (maxDischargeDepth := 100) (contextual := true) [*]; done)
    | (apply Keeps.of_eq hk0 <;> with_reducible rfl)
    | (try dsimp only
       repeat' split
       all_goals first | with_reducible assumption | simp (maxDischargeDepth := 100) (contextual := true) [*])

end State

end Machine

end Sys2Proof
end

