-- ==== Sys2Proof/Laws/KeepsHub.lean ====
section
/-!
SUPPORT. Keeps, for the operations of Hub.lean.
-/

namespace Sys2Proof

namespace Machine

namespace State

@[simp] theorem atD_keeps {b0 : State} (s : State) (n : Nat) (f : State → State) (hk0 : Keeps b0 s) (hf : ∀ s, Keeps b0 s → Keeps b0 (f s)) : Keeps b0 (atD s n f) := by
  unfold atD
  simp (maxDischargeDepth := 100) (contextual := true) [*]

@[simp] theorem atU_keeps {b0 : State} (s : State) (u : Nat) (f : State → State) (hk0 : Keeps b0 s) (hf : ∀ s, Keeps b0 s → Keeps b0 (f s)) : Keeps b0 (atU s u f) := by
  unfold atU
  simp (maxDischargeDepth := 100) (contextual := true) [*]

@[simp] theorem mgmtToken_keeps {b0 : State} (s : State) (u epn : Nat) (dirIn : Bool) (hk0 : Keeps b0 s) : Keeps b0 (mgmtToken s u epn dirIn) := by
  unfold mgmtToken
  first
    | (simp (maxDischargeDepth := 100) (contextual := true) [*]; done)
    | (apply Keeps.of_eq hk0 <;> with_reducible rfl)
    | (try dsimp only
       repeat' split
       all_goals first | with_reducible assumption | simp (maxDischargeDepth := 100) (contextual := true) [*])

@[simp] theorem repeatTo_keeps {b0 : State} (s : State) (u : Nat) (l : List Nat) (hk0 : Keeps b0 s) : Keeps b0 (repeatTo s u l) := by
  unfold repeatTo
  simp (maxDischargeDepth := 100) (contextual := true) [*]

@[simp] theorem portToken_keeps {b0 : State} (s : State) (u n addr epn : Nat) (dirIn : Bool) (len : Nat) (hk0 : Keeps b0 s) : Keeps b0 (portToken s u n addr epn dirIn len) := by
  unfold portToken
  simp (maxDischargeDepth := 100) (contextual := true) [*]

@[simp] theorem upPartner_keeps {b0 : State} (s : State) (u : Nat) (hk0 : Keeps b0 s) : Keeps b0 (upPartner s u) := by
  unfold upPartner
  simp (maxDischargeDepth := 100) (contextual := true) [*]

@[simp] theorem upPartnerGone_keeps {b0 : State} (s : State) (u : Nat) (hk0 : Keeps b0 s) : Keeps b0 (upPartnerGone s u) := by
  unfold upPartnerGone
  simp (maxDischargeDepth := 100) (contextual := true) [*]

@[simp] theorem hostGone_keeps {b0 : State} (s : State) (u : Nat) (hk0 : Keeps b0 s) : Keeps b0 (hostGone s u) := by
  unfold hostGone
  simp (maxDischargeDepth := 100) (contextual := true) [*]


end State

open State

theorem execPortMapWrite_keeps {b0 : State} (n v : Nat) (s : State) (hk0 : Keeps b0 s) : KeepsR b0 (execPortMapWrite n v s) := by
  unfold execPortMapWrite
  exact act_keeps _ _ hk0 (fun s hk0 => by simp (maxDischargeDepth := 100) (contextual := true) [*])

theorem execMoveSe0End_keeps {b0 : State} (k : Nat) (s : State) (hk0 : Keeps b0 s) : KeepsR b0 (execMoveSe0End k s) := by
  unfold execMoveSe0End
  first
    | refine act_keeps _ _ hk0 (fun s hk0 => ?_)
    | refine tcAct_keeps _ _ _ hk0 (fun s hk0 => ?_)
    | refine KeepsR.next ?_
  first
    | (simp (maxDischargeDepth := 100) (contextual := true) [*]; done)
    | (try dsimp only
       repeat' split
       all_goals first | with_reducible assumption | simp (maxDischargeDepth := 100) (contextual := true) [*])

theorem execEnumStall_keeps {b0 : State} (n : Nat) (s : State) (hk0 : Keeps b0 s) : KeepsR b0 (execEnumStall n s) := by
  unfold execEnumStall
  first
    | refine act_keeps _ _ hk0 (fun s hk0 => ?_)
    | refine tcAct_keeps _ _ _ hk0 (fun s hk0 => ?_)
    | refine KeepsR.next ?_
  first
    | (simp (maxDischargeDepth := 100) (contextual := true) [*]; done)
    | (try dsimp only
       repeat' split
       all_goals first | with_reducible assumption | simp (maxDischargeDepth := 100) (contextual := true) [*])

@[simp] theorem takeAddress_keeps {b0 : State} (s : State) (t : Target) (a : Nat) (hk0 : Keeps b0 s) : Keeps b0 (takeAddress s t a) := by
  unfold takeAddress
  first
    | (simp (maxDischargeDepth := 100) (contextual := true) [*]; done)
    | (apply Keeps.of_eq hk0 <;> with_reducible rfl)
    | (try dsimp only
       repeat' split
       all_goals first | with_reducible assumption | simp (maxDischargeDepth := 100) (contextual := true) [*])

theorem execSetAddressComplete_keeps {b0 : State} (u a : Nat) (ss : Bool) (h l : Nat) (s : State) (hk0 : Keeps b0 s) : KeepsR b0 (execSetAddressComplete u a ss h l s) := by
  unfold execSetAddressComplete
  first
    | refine act_keeps _ _ hk0 (fun s hk0 => ?_)
    | refine tcAct_keeps _ _ _ hk0 (fun s hk0 => ?_)
    | refine KeepsR.next ?_
  refine atU_keeps _ _ _ hk0 (fun s hk0 => ?_)
  try dsimp only
  repeat' (first | with_reducible assumption | (simp (maxDischargeDepth := 100) (contextual := true) [*]; done) | refine Keeps.ite _ ?_ ?_ | refine Keeps.foldl _ _ (fun s a hk0 => ?_) ?_ | split)

theorem execSetPortReset_keeps {b0 : State} (u h l : Nat) (ss : Bool) (s : State) (hk0 : Keeps b0 s) : KeepsR b0 (execSetPortReset u h l ss s) := by
  unfold execSetPortReset
  exact act_keeps _ _ hk0 (fun s hk0 => by simp (maxDischargeDepth := 100) (contextual := true) [*])

theorem execUsb2PortResetEnd_keeps {b0 : State} (n : Nat) (chirp : Bool) (s : State) (hk0 : Keeps b0 s) : KeepsR b0 (execUsb2PortResetEnd n chirp s) := by
  unfold execUsb2PortResetEnd
  exact act_keeps _ _ hk0 (fun s hk0 => by simp (maxDischargeDepth := 100) (contextual := true) [*])

theorem execBhPortReset_keeps {b0 : State} (u h l : Nat) (s : State) (hk0 : Keeps b0 s) : KeepsR b0 (execBhPortReset u h l s) := by
  unfold execBhPortReset
  exact act_keeps _ _ hk0 (fun s hk0 => by simp (maxDischargeDepth := 100) (contextual := true) [*])

theorem execHotResetEscalation_keeps {b0 : State} (n : Nat) (s : State) (hk0 : Keeps b0 s) : KeepsR b0 (execHotResetEscalation n s) := by
  unfold execHotResetEscalation
  exact act_keeps _ _ hk0 (fun s hk0 => by simp (maxDischargeDepth := 100) (contextual := true) [*])

theorem execWarmResetLfpsEnd_keeps {b0 : State} (n : Nat) (s : State) (hk0 : Keeps b0 s) : KeepsR b0 (execWarmResetLfpsEnd n s) := by
  unfold execWarmResetLfpsEnd
  exact act_keeps _ _ hk0 (fun s hk0 => by simp (maxDischargeDepth := 100) (contextual := true) [*])

theorem execWarmResetFail_keeps {b0 : State} (n : Nat) (s : State) (hk0 : Keeps b0 s) : KeepsR b0 (execWarmResetFail n s) := by
  unfold execWarmResetFail
  exact act_keeps _ _ hk0 (fun s hk0 => by simp (maxDischargeDepth := 100) (contextual := true) [*])

theorem execDeviceConnect_keeps {b0 : State} (n sp : Nat) (ss : Bool) (s : State) (hk0 : Keeps b0 s) : KeepsR b0 (execDeviceConnect n sp ss s) := by
  unfold execDeviceConnect
  exact act_keeps _ _ hk0 (fun s hk0 => by simp (maxDischargeDepth := 100) (contextual := true) [*])

theorem execDeviceDisconnect_keeps {b0 : State} (n : Nat) (s : State) (hk0 : Keeps b0 s) : KeepsR b0 (execDeviceDisconnect n s) := by
  unfold execDeviceDisconnect
  exact act_keeps _ _ hk0 (fun s hk0 => by simp (maxDischargeDepth := 100) (contextual := true) [*])

theorem execPortEnableError_keeps {b0 : State} (n : Nat) (s : State) (hk0 : Keeps b0 s) : KeepsR b0 (execPortEnableError n s) := by
  unfold execPortEnableError
  exact act_keeps _ _ hk0 (fun s hk0 => by simp (maxDischargeDepth := 100) (contextual := true) [*])

theorem execClearPortEnable_keeps {b0 : State} (u h l : Nat) (s : State) (hk0 : Keeps b0 s) : KeepsR b0 (execClearPortEnable u h l s) := by
  unfold execClearPortEnable
  exact act_keeps _ _ hk0 (fun s hk0 => by simp (maxDischargeDepth := 100) (contextual := true) [*])

theorem execSetPortPower_keeps {b0 : State} (u h l : Nat) (s : State) (hk0 : Keeps b0 s) : KeepsR b0 (execSetPortPower u h l s) := by
  unfold execSetPortPower
  exact act_keeps _ _ hk0 (fun s hk0 => by simp (maxDischargeDepth := 100) (contextual := true) [*])

theorem execClearPortPower_keeps {b0 : State} (u h l : Nat) (s : State) (hk0 : Keeps b0 s) : KeepsR b0 (execClearPortPower u h l s) := by
  unfold execClearPortPower
  exact act_keeps _ _ hk0 (fun s hk0 => by simp (maxDischargeDepth := 100) (contextual := true) [*])

theorem execUpstreamBusReset_keeps {b0 : State} (u : Nat) (ss : Bool) (s : State) (hk0 : Keeps b0 s) : KeepsR b0 (execUpstreamBusReset u ss s) := by
  unfold execUpstreamBusReset
  exact act_keeps _ _ hk0 (fun s hk0 => by simp (maxDischargeDepth := 100) (contextual := true) [*])

theorem execBusResetEnd_keeps {b0 : State} (side : BusSide) (s : State) (hk0 : Keeps b0 s) : KeepsR b0 (execBusResetEnd side s) := by
  unfold execBusResetEnd
  first
    | refine act_keeps _ _ hk0 (fun s hk0 => ?_)
    | refine tcAct_keeps _ _ _ hk0 (fun s hk0 => ?_)
    | refine KeepsR.next ?_
  refine atU_keeps _ _ _ hk0 (fun s hk0 => ?_)
  try dsimp only
  repeat' (first | with_reducible assumption | (simp (maxDischargeDepth := 100) (contextual := true) [*]; done) | refine Keeps.ite _ ?_ ?_ | refine Keeps.foldl _ _ (fun s a hk0 => ?_) ?_ | split)

theorem execHsDownstreamToken_keeps {b0 : State} (u addr epn : Nat) (dirIn : Bool) (pay : Payload) (s : State) (hk0 : Keeps b0 s) : KeepsR b0 (execHsDownstreamToken u addr epn dirIn pay s) := by
  unfold execHsDownstreamToken
  first
    | refine act_keeps _ _ hk0 (fun s hk0 => ?_)
    | refine tcAct_keeps _ _ _ hk0 (fun s hk0 => ?_)
    | refine KeepsR.next ?_
  refine atU_keeps _ _ _ hk0 (fun s hk0 => ?_)
  try dsimp only
  repeat' (first | with_reducible assumption | (simp (maxDischargeDepth := 100) (contextual := true) [*]; done) | refine Keeps.ite _ ?_ ?_ | refine Keeps.foldl _ _ (fun s a hk0 => ?_) ?_ | split)

theorem execSetHubDepth_keeps {b0 : State} (u h d : Nat) (s : State) (hk0 : Keeps b0 s) : KeepsR b0 (execSetHubDepth u h d s) := by
  unfold execSetHubDepth
  exact act_keeps _ _ hk0 (fun s hk0 => by simp (maxDischargeDepth := 100) (contextual := true) [*])

@[simp] theorem hostMeets_keeps {b0 : State} (s : State) (hs : Bool) (n : Nat) (hk0 : Keeps b0 s) : Keeps b0 (hostMeets s hs n) := by
  unfold hostMeets
  simp (maxDischargeDepth := 100) (contextual := true) [*]

@[simp] theorem State_hostLink_keeps {b0 : State} (s : State) (u : Nat) (hs : Bool) (hk0 : Keeps b0 s) : Keeps b0 (State.hostLink s u hs) := by
  unfold State.hostLink
  simp (maxDischargeDepth := 100) (contextual := true) [*]

theorem execUpstreamHostAttach_keeps {b0 : State} (u : Nat) (hs : Bool) (s : State) (hk0 : Keeps b0 s) : KeepsR b0 (execUpstreamHostAttach u hs s) := by
  unfold execUpstreamHostAttach
  exact act_keeps _ _ hk0 (fun s hk0 => by simp (maxDischargeDepth := 100) (contextual := true) [*])

theorem execSsUpstreamAbsent_keeps {b0 : State} (u : Nat) (s : State) (hk0 : Keeps b0 s) : KeepsR b0 (execSsUpstreamAbsent u s) := by
  unfold execSsUpstreamAbsent
  exact act_keeps _ _ hk0 (fun s hk0 => by simp (maxDischargeDepth := 100) (contextual := true) [*])

theorem execSsUpstreamU0_keeps {b0 : State} (u gen : Nat) (s : State) (hk0 : Keeps b0 s) : KeepsR b0 (execSsUpstreamU0 u gen s) := by
  unfold execSsUpstreamU0
  exact act_keeps _ _ hk0 (fun s hk0 => by simp (maxDischargeDepth := 100) (contextual := true) [*])

theorem execSsUpstreamLoss_keeps {b0 : State} (u : Nat) (s : State) (hk0 : Keeps b0 s) : KeepsR b0 (execSsUpstreamLoss u s) := by
  unfold execSsUpstreamLoss
  exact act_keeps _ _ hk0 (fun s hk0 => by simp (maxDischargeDepth := 100) (contextual := true) [*])

theorem execUpstreamHostDetach_keeps {b0 : State} (u : Nat) (s : State) (hk0 : Keeps b0 s) : KeepsR b0 (execUpstreamHostDetach u s) := by
  unfold execUpstreamHostDetach
  exact act_keeps _ _ hk0 (fun s hk0 => by simp (maxDischargeDepth := 100) (contextual := true) [*])

end Machine

end Sys2Proof
end

