-- ==== Sys2Proof/Laws/KeepsSplit.lean ====
section
/-!
SUPPORT. Keeps, for the operations of Split.lean.
-/

namespace Sys2Proof

namespace Machine

namespace State

@[simp] theorem ttAnswer_keeps {b0 : State} (s : State) (n : Nat) (sig : Usb2) (hk0 : Keeps b0 s) : Keeps b0 (ttAnswer s n sig) := by
  unfold ttAnswer
  first
    | (simp (maxDischargeDepth := 100) (contextual := true) [*]; done)
    | (apply Keeps.of_eq hk0 <;> with_reducible rfl)
    | (try dsimp only
       repeat' split
       all_goals first | with_reducible assumption | simp (maxDischargeDepth := 100) (contextual := true) [*])

@[simp] theorem ttErr_keeps {b0 : State} (s : State) (n : Nat) (hk0 : Keeps b0 s) : Keeps b0 (ttErr s n) := by
  unfold ttErr
  simp (maxDischargeDepth := 100) (contextual := true) [*]

@[simp] theorem ttMeter_keeps {b0 : State} (s : State) (n e1 : Nat) (dirIn : Bool) (len : Nat) (hk0 : Keeps b0 s) : Keeps b0 (ttMeter s n e1 dirIn len).1 := by
  unfold ttMeter
  simp (maxDischargeDepth := 100) (contextual := true) [*]

@[simp] theorem ttAccept_keeps {b0 : State} (s : State) (n addr epn : Nat) (dirIn : Bool) (len : Nat) (hk0 : Keeps b0 s) : Keeps b0 (ttAccept s n addr epn dirIn len).1 := by
  unfold ttAccept
  first
    | (simp (maxDischargeDepth := 100) (contextual := true) [*]; done)
    | (apply Keeps.of_eq hk0 <;> with_reducible rfl)
    | (try dsimp only
       repeat' split
       all_goals first | with_reducible assumption | simp (maxDischargeDepth := 100) (contextual := true) [*])

@[simp] theorem ttMakeRoom_keeps {b0 : State} (s : State) (n : Nat) (hk0 : Keeps b0 s) : Keeps b0 (ttMakeRoom s n) := by
  unfold ttMakeRoom
  first
    | (simp (maxDischargeDepth := 100) (contextual := true) [*]; done)
    | (apply Keeps.of_eq hk0 <;> with_reducible rfl)
    | (try dsimp only
       repeat' split
       all_goals first | with_reducible assumption | simp (maxDischargeDepth := 100) (contextual := true) [*])

@[simp] theorem ttDeliver_keeps {b0 : State} (s : State) (n : Nat) (x : Split) (one two : Nat) (hk0 : Keeps b0 s) : Keeps b0 (ttDeliver s n x one two) := by
  unfold ttDeliver
  first
    | (simp (maxDischargeDepth := 100) (contextual := true) [*]; done)
    | (apply Keeps.of_eq hk0 <;> with_reducible rfl)
    | (try dsimp only
       repeat' split
       all_goals first | with_reducible assumption | simp (maxDischargeDepth := 100) (contextual := true) [*])


end State

open State

theorem execPeriodicStartSplit_keeps {b0 : State} (n addr epn : Nat) (dirIn : Bool) (len : Nat) (s : State) (hk0 : Keeps b0 s) : KeepsR b0 (execPeriodicStartSplit n addr epn dirIn len s) := by
  unfold execPeriodicStartSplit
  first
    | refine act_keeps _ _ hk0 (fun s hk0 => ?_)
    | refine tcAct_keeps _ _ _ hk0 (fun s hk0 => ?_)
    | refine KeepsR.next ?_
  first
    | (simp (maxDischargeDepth := 100) (contextual := true) [*]; done)
    | (try dsimp only
       repeat' split
       all_goals first | with_reducible assumption | simp (maxDischargeDepth := 100) (contextual := true) [*])

theorem execPeriodicCompleteSplit_keeps {b0 : State} (n addr epn : Nat) (dirIn : Bool) (errs : WordErrs) (s : State) (hk0 : Keeps b0 s) : KeepsR b0 (execPeriodicCompleteSplit n addr epn dirIn errs s) := by
  unfold execPeriodicCompleteSplit
  first
    | refine act_keeps _ _ hk0 (fun s hk0 => ?_)
    | refine tcAct_keeps _ _ _ hk0 (fun s hk0 => ?_)
    | refine KeepsR.next ?_
  first
    | (simp (maxDischargeDepth := 100) (contextual := true) [*]; done)
    | (try dsimp only
       repeat' split
       all_goals first | with_reducible assumption | simp (maxDischargeDepth := 100) (contextual := true) [*])

theorem execNonperiodicStartSplit_keeps {b0 : State} (n addr epn : Nat) (dirIn : Bool) (len : Nat) (s : State) (hk0 : Keeps b0 s) : KeepsR b0 (execNonperiodicStartSplit n addr epn dirIn len s) := by
  unfold execNonperiodicStartSplit
  first
    | refine act_keeps _ _ hk0 (fun s hk0 => ?_)
    | refine tcAct_keeps _ _ _ hk0 (fun s hk0 => ?_)
    | refine KeepsR.next ?_
  first
    | (simp (maxDischargeDepth := 100) (contextual := true) [*]; done)
    | (try dsimp only
       repeat' split
       all_goals first | with_reducible assumption | simp (maxDischargeDepth := 100) (contextual := true) [*])

theorem execNonperiodicCompleteSplit_keeps {b0 : State} (n addr epn : Nat) (dirIn : Bool) (fin : SplitEnd) (s : State) (hk0 : Keeps b0 s) : KeepsR b0 (execNonperiodicCompleteSplit n addr epn dirIn fin s) := by
  unfold execNonperiodicCompleteSplit
  first
    | refine act_keeps _ _ hk0 (fun s hk0 => ?_)
    | refine tcAct_keeps _ _ _ hk0 (fun s hk0 => ?_)
    | refine KeepsR.next ?_
  first
    | (simp (maxDischargeDepth := 100) (contextual := true) [*]; done)
    | (try dsimp only
       repeat' split
       all_goals first | with_reducible assumption | simp (maxDischargeDepth := 100) (contextual := true) [*])

theorem execTtTransactionDone_keeps {b0 : State} (n addr epn : Nat) (dirIn : Bool) (res len : Nat) (errs : WordErrs) (s : State) (hk0 : Keeps b0 s) : KeepsR b0 (execTtTransactionDone n addr epn dirIn res len errs s) := by
  unfold execTtTransactionDone
  first
    | refine act_keeps _ _ hk0 (fun s hk0 => ?_)
    | refine tcAct_keeps _ _ _ hk0 (fun s hk0 => ?_)
    | refine KeepsR.next ?_
  first
    | (simp (maxDischargeDepth := 100) (contextual := true) [*]; done)
    | (try dsimp only
       repeat' split
       all_goals first | with_reducible assumption | simp (maxDischargeDepth := 100) (contextual := true) [*])

theorem execClearTtBuffer_keeps {b0 : State} (u h l addr epn : Nat) (s : State) (hk0 : Keeps b0 s) : KeepsR b0 (execClearTtBuffer u h l addr epn s) := by
  unfold execClearTtBuffer
  exact act_keeps _ _ hk0 (fun s hk0 => by simp (maxDischargeDepth := 100) (contextual := true) [*])

theorem execResetTt_keeps {b0 : State} (u h l _value : Nat) (s : State) (hk0 : Keeps b0 s) : KeepsR b0 (execResetTt u h l _value s) := by
  unfold execResetTt
  exact act_keeps _ _ hk0 (fun s hk0 => by simp (maxDischargeDepth := 100) (contextual := true) [*])

theorem execGetTtState_keeps {b0 : State} (u : Nat) (s : State) (hk0 : Keeps b0 s) : KeepsR b0 (execGetTtState u s) := by
  unfold execGetTtState
  exact act_keeps _ _ hk0 (fun s hk0 => by simp (maxDischargeDepth := 100) (contextual := true) [*])

theorem execStopTt_keeps {b0 : State} (u : Nat) (s : State) (hk0 : Keeps b0 s) : KeepsR b0 (execStopTt u s) := by
  unfold execStopTt
  exact act_keeps _ _ hk0 (fun s hk0 => by simp (maxDischargeDepth := 100) (contextual := true) [*])

end Machine

end Sys2Proof
end

