-- ==== Sys2Proof/Laws/KeepsSched.lean ====
section
/-!
SUPPORT. Keeps, for the operations of Sched.lean.
-/

namespace Sys2Proof

namespace Machine

namespace State

@[simp] theorem gateRefresh_keeps {b0 : State} (s : State) (x : Nat) (hk0 : Keeps b0 s) : Keeps b0 (gateRefresh s x) := by
  unfold gateRefresh
  simp (maxDischargeDepth := 100) (contextual := true) [*]

@[simp] theorem gatesRefresh_keeps {b0 : State} (s : State) (hk0 : Keeps b0 s) : Keeps b0 (gatesRefresh s) := by
  unfold gatesRefresh
  simp (maxDischargeDepth := 100) (contextual := true) [*]

@[simp] theorem shParity_keeps {b0 : State} (s : State) (x : Nat) (hk0 : Keeps b0 s) : Keeps b0 (shParity s x) := by
  unfold shParity
  simp (maxDischargeDepth := 100) (contextual := true) [*]

@[simp] theorem shUse_keeps {b0 : State} (s : State) (x : Nat) (hk0 : Keeps b0 s) : Keeps b0 (shUse s x) := by
  unfold shUse
  simp (maxDischargeDepth := 100) (contextual := true) [*]

@[simp] theorem shTick_keeps {b0 : State} (s0 : State) (x : Nat) (hk0 : Keeps b0 s0) : Keeps b0 (shTick s0 x) := by
  unfold shTick
  simp (maxDischargeDepth := 100) (contextual := true) [*]

@[simp] theorem shApply_keeps {b0 : State} (s : State) (x : Nat) (hk0 : Keeps b0 s) : Keeps b0 (shApply s x) := by
  unfold shApply
  simp (maxDischargeDepth := 100) (contextual := true) [*]

@[simp] theorem deferOnce_keeps {b0 : State} (s : State) (x cntr : Nat) (p : Packet) (hk0 : Keeps b0 s) : Keeps b0 (deferOnce s x cntr p) := by
  unfold deferOnce
  simp (maxDischargeDepth := 100) (contextual := true) [*]

@[simp] theorem pickClass_keeps {b0 : State} (s : State) (x cls left : Nat) (per : Option Nat) (hk0 : Keeps b0 s) : Keeps b0 (pickClass s x cls left per).1 := by
  unfold pickClass
  simp (maxDischargeDepth := 100) (contextual := true) [*]

@[simp] theorem drr_keeps {b0 : State} (s : State) (x : Nat) (green : Bool) (left : Nat) (ms : List Nat) (heads : List (Nat × Packet)) (fuel : Nat) (hk0 : Keeps b0 s) : Keeps b0 (drr s x green left ms heads fuel).1 := by
  revert hk0
  fun_induction drr s x green left ms heads fuel <;> intro hk0 <;> first | with_reducible assumption | (simp (maxDischargeDepth := 100) (contextual := true) [*]; done) | simp_all (maxDischargeDepth := 100) (contextual := true)

@[simp] theorem keepCur_keeps {b0 : State} (s : State) (x m : Nat) (topped : List Nat) (hk0 : Keeps b0 s) : Keeps b0 (keepCur s x m topped) := by
  unfold keepCur
  simp (maxDischargeDepth := 100) (contextual := true) [*]

@[simp] theorem pickBulk_keeps {b0 : State} (s : State) (x left : Nat) (hk0 : Keeps b0 s) : Keeps b0 (pickBulk s x left).1 := by
  unfold pickBulk
  first
    | (simp (maxDischargeDepth := 100) (contextual := true) [*]; done)
    | (apply Keeps.of_eq hk0 <;> with_reducible rfl)
    | (try dsimp only
       repeat' split
       all_goals first | with_reducible assumption | simp (maxDischargeDepth := 100) (contextual := true) [*])

@[simp] theorem orPick_keeps {b0 : State} (r : State × Option (Nat × Packet)) (f : State → State × Option (Nat × Packet))
    (h : Keeps b0 r.1) (hf : ∀ s, Keeps b0 s → Keeps b0 (f s).1) : Keeps b0 (orPick r f).1 := by
  unfold orPick
  split
  · exact h
  · exact hf _ h

@[simp] theorem pick_keeps {b0 : State} (s : State) (x left : Nat) (hk0 : Keeps b0 s) : Keeps b0 (pick s x left).1 := by
  unfold pick
  try dsimp only
  repeat' (first | with_reducible assumption | (simp (maxDischargeDepth := 100) (contextual := true) [*]; done) | refine Keeps.ite _ ?_ ?_ | refine Keeps.foldl _ _ (fun s a hk0 => ?_) ?_ | split)

@[simp] theorem startPkt_keeps {b0 : State} (s : State) (x q : Nat) (p : Packet) (hk0 : Keeps b0 s) : Keeps b0 (startPkt s x q p) := by
  unfold startPkt
  simp (maxDischargeDepth := 100) (contextual := true) [*]

@[simp] theorem sendOut_keeps {b0 : State} (s : State) (x : Nat) (p : Packet) (hk0 : Keeps b0 s) : Keeps b0 (sendOut s x p) := by
  unfold sendOut
  simp (maxDischargeDepth := 100) (contextual := true) [*]

end State

end Machine

end Sys2Proof
end

