-- ==== Sys2Proof/Laws/KeepsSuper.lean ====
section
/-!
SUPPORT. Keeps, for the operations of Super.lean.
-/

namespace Sys2Proof

namespace Machine

namespace State

@[simp] theorem kOwe_keeps {b0 : State} (s : State) (v vc len : Nat) (hk0 : Keeps b0 s) : Keeps b0 (kOwe s v vc len) := by
  unfold kOwe
  simp (maxDischargeDepth := 100) (contextual := true) [*]

@[simp] theorem admitted_keeps {b0 : State} (s : State) (q o : Nat) (p : Packet) (hk0 : Keeps b0 s) : Keeps b0 (admitted s q o p) := by
  unfold admitted
  simp (maxDischargeDepth := 100) (contextual := true) [*]

@[simp] theorem afterRequest_keeps {b0 : State} (s : State) (k q : Nat) (p : Packet) (r : Adm) (hk0 : Keeps b0 s) : Keeps b0 (afterRequest s k q p r) := by
  unfold afterRequest
  first
    | (simp (maxDischargeDepth := 100) (contextual := true) [*]; done)
    | (apply Keeps.of_eq hk0 <;> with_reducible rfl)
    | (try dsimp only
       repeat' split
       all_goals first | with_reducible assumption | simp (maxDischargeDepth := 100) (contextual := true) [*])

@[simp] theorem ingest_keeps {b0 : State} (s : State) (k q : Nat) (p : Packet) (hk0 : Keeps b0 s) : Keeps b0 (ingest s k q p) := by
  unfold ingest
  first
    | (simp (maxDischargeDepth := 100) (contextual := true) [*]; done)
    | (apply Keeps.of_eq hk0 <;> with_reducible rfl)
    | (try dsimp only
       repeat' split
       all_goals first | with_reducible assumption | simp (maxDischargeDepth := 100) (contextual := true) [*])

@[simp] theorem toLinkQueue_keeps {b0 : State} (s : State) (k v : Nat) (p : Packet) (hk0 : Keeps b0 s) : Keeps b0 (toLinkQueue s k v p) := by
  unfold toLinkQueue
  simp (maxDischargeDepth := 100) (contextual := true) [*]

@[simp] theorem kIngest_keeps {b0 : State} (s : State) (v q : Nat) (p : Packet) (hk0 : Keeps b0 s) : Keeps b0 (kIngest s v q p) := by
  unfold kIngest
  simp (maxDischargeDepth := 100) (contextual := true) [*]

@[simp] theorem kPump_keeps {b0 : State} (s : State) (v vc : Nat) (hk0 : Keeps b0 s) : Keeps b0 (kPump s v vc) := by
  unfold kPump
  simp (maxDischargeDepth := 100) (contextual := true) [*]

@[simp] theorem touchPort_keeps {b0 : State} (s : State) (n : Nat) (hk0 : Keeps b0 s) : Keeps b0 (touchPort s n) := by
  unfold touchPort
  simp (maxDischargeDepth := 100) (contextual := true) [*]

@[simp] theorem touchUp_keeps {b0 : State} (s : State) (u : Nat) (hk0 : Keeps b0 s) : Keeps b0 (touchUp s u) := by
  unfold touchUp
  simp (maxDischargeDepth := 100) (contextual := true) [*]

@[simp] theorem upNotice_keeps {b0 : State} (s : State) (n : Nat) (sig : SsSig) (epn : Nat) (hk0 : Keeps b0 s) : Keeps b0 (upNotice s n sig epn) := by
  unfold upNotice
  first
    | (simp (maxDischargeDepth := 100) (contextual := true) [*]; done)
    | (apply Keeps.of_eq hk0 <;> with_reducible rfl)
    | (try dsimp only
       repeat' split
       all_goals first | with_reducible assumption | simp (maxDischargeDepth := 100) (contextual := true) [*])

@[simp] theorem queueDown_keeps {b0 : State} (s : State) (k : Nat) (link : Option Nat) (n : Nat) (p : Packet) (seq : Nat) (hk0 : Keeps b0 s) : Keeps b0 (queueDown s k link n p seq) := by
  unfold queueDown
  first
    | (simp (maxDischargeDepth := 100) (contextual := true) [*]; done)
    | (apply Keeps.of_eq hk0 <;> with_reducible rfl)
    | (try dsimp only
       repeat' split
       all_goals first | with_reducible assumption | simp (maxDischargeDepth := 100) (contextual := true) [*])

@[simp] theorem deferPkt_keeps {b0 : State} (s : State) (n : Nat) (p : Packet) (hk0 : Keeps b0 s) : Keeps b0 (deferPkt s n p) := by
  unfold deferPkt
  simp (maxDischargeDepth := 100) (contextual := true) [*]

@[simp] theorem deliverDown_keeps {b0 : State} (s : State) (k : Nat) (link : Option Nat) (n : Nat) (p : Packet) (seq : Nat) (hk0 : Keeps b0 s) : Keeps b0 (deliverDown s k link n p seq) := by
  unfold deliverDown
  simp (maxDischargeDepth := 100) (contextual := true) [*]

@[simp] theorem toPort_keeps {b0 : State} (s : State) (u n : Nat) (p : Packet) (seq : Nat) (hk0 : Keeps b0 s) : Keeps b0 (toPort s u n p seq) := by
  unfold toPort
  simp (maxDischargeDepth := 100) (contextual := true) [*]

@[simp] theorem toSlot_keeps {b0 : State} (s : State) (u i : Nat) (p : Packet) (hk0 : Keeps b0 s) : Keeps b0 (toSlot s u i p) := by
  unfold toSlot
  first
    | (simp (maxDischargeDepth := 100) (contextual := true) [*]; done)
    | (apply Keeps.of_eq hk0 <;> with_reducible rfl)
    | (try dsimp only
       repeat' split
       all_goals first | with_reducible assumption | simp (maxDischargeDepth := 100) (contextual := true) [*])

@[simp] theorem toHub_keeps {b0 : State} (s : State) (u : Nat) (p : Packet) (hk0 : Keeps b0 s) : Keeps b0 (toHub s u p) := by
  unfold toHub
  simp (maxDischargeDepth := 100) (contextual := true) [*]

@[simp] theorem queueUp_keeps {b0 : State} (s : State) (n x : Nat) (p : Packet) (hk0 : Keeps b0 s) : Keeps b0 (queueUp s n x p) := by
  unfold queueUp
  first
    | (simp (maxDischargeDepth := 100) (contextual := true) [*]; done)
    | (apply Keeps.of_eq hk0 <;> with_reducible rfl)
    | (try dsimp only
       repeat' split
       all_goals first | with_reducible assumption | simp (maxDischargeDepth := 100) (contextual := true) [*])

@[simp] theorem egressStart_keeps {b0 : State} (s : State) (x left : Nat) (hk0 : Keeps b0 s) : Keeps b0 (egressStart s x left) := by
  unfold egressStart
  first
    | (simp (maxDischargeDepth := 100) (contextual := true) [*]; done)
    | (apply Keeps.of_eq hk0 <;> with_reducible rfl)
    | (try dsimp only
       repeat' split
       all_goals first | with_reducible assumption | simp (maxDischargeDepth := 100) (contextual := true) [*])

@[simp] theorem egressEnd_keeps {b0 : State} (s : State) (x q o : Nat) (hk0 : Keeps b0 s) : Keeps b0 (egressEnd s x q o) := by
  unfold egressEnd
  first
    | (simp (maxDischargeDepth := 100) (contextual := true) [*]; done)
    | (apply Keeps.of_eq hk0 <;> with_reducible rfl)
    | (try dsimp only
       repeat' split
       all_goals first | with_reducible assumption | simp (maxDischargeDepth := 100) (contextual := true) [*])

@[simp] theorem cutEnd_keeps {b0 : State} (s : State) (q o one two : Nat) (hk0 : Keeps b0 s) : Keeps b0 (cutEnd s q o one two) := by
  unfold cutEnd
  first
    | (simp (maxDischargeDepth := 100) (contextual := true) [*]; done)
    | (apply Keeps.of_eq hk0 <;> with_reducible rfl)
    | (try dsimp only
       repeat' split
       all_goals first | with_reducible assumption | simp (maxDischargeDepth := 100) (contextual := true) [*])

@[simp] theorem abortWrite_keeps {b0 : State} (s : State) (q : Nat) (hk0 : Keeps b0 s) : Keeps b0 (abortWrite s q) := by
  unfold abortWrite
  first
    | (simp (maxDischargeDepth := 100) (contextual := true) [*]; done)
    | (apply Keeps.of_eq hk0 <;> with_reducible rfl)
    | (try dsimp only
       repeat' split
       all_goals first | with_reducible assumption | simp (maxDischargeDepth := 100) (contextual := true) [*])

@[simp] theorem flushDone_keeps {b0 : State} (s : State) (q : Nat) (hk0 : Keeps b0 s) : Keeps b0 (flushDone s q) := by
  unfold flushDone
  simp (maxDischargeDepth := 100) (contextual := true) [*]

@[simp] theorem wrFlush_keeps {b0 : State} (s : State) (q : Nat) (hk0 : Keeps b0 s) : Keeps b0 (wrFlush s q) := by
  unfold wrFlush
  simp (maxDischargeDepth := 100) (contextual := true) [*]

@[simp] theorem forgive_keeps {b0 : State} (s : State) (x : Nat) (hk0 : Keeps b0 s) : Keeps b0 (forgive s x) := by
  unfold forgive
  first
    | (simp (maxDischargeDepth := 100) (contextual := true) [*]; done)
    | (apply Keeps.of_eq hk0 <;> with_reducible rfl)
    | (try dsimp only
       repeat' split
       all_goals first | with_reducible assumption | simp (maxDischargeDepth := 100) (contextual := true) [*])

@[simp] theorem erdyDeferred_keeps {b0 : State} (s : State) (n : Nat) (hk0 : Keeps b0 s) : Keeps b0 (erdyDeferred s n) := by
  unfold erdyDeferred
  simp (maxDischargeDepth := 100) (contextual := true) [*]

@[simp] theorem forwardWake_keeps {b0 : State} (s : State) (n : Nat) (hk0 : Keeps b0 s) : Keeps b0 (forwardWake s n) := by
  unfold forwardWake
  first
    | (simp (maxDischargeDepth := 100) (contextual := true) [*]; done)
    | (apply Keeps.of_eq hk0 <;> with_reducible rfl)
    | (try dsimp only
       repeat' split
       all_goals first | with_reducible assumption | simp (maxDischargeDepth := 100) (contextual := true) [*])

@[simp] theorem flushWakes_keeps {b0 : State} (s : State) (u : Nat) (hk0 : Keeps b0 s) : Keeps b0 (flushWakes s u) := by
  unfold flushWakes
  simp (maxDischargeDepth := 100) (contextual := true) [*]


end State

open State

theorem execSsDownstreamPacket_keeps {b0 : State} (u route addr epn : Nat) (dirIn : Bool) (ty : Nat) (pay : Payload) (seq numP : Nat) (whole : Bool) (s : State) (hk0 : Keeps b0 s) : KeepsR b0 (execSsDownstreamPacket u route addr epn dirIn ty pay seq numP whole s) := by
  unfold execSsDownstreamPacket
  first
    | refine act_keeps _ _ hk0 (fun s hk0 => ?_)
    | refine tcAct_keeps _ _ _ hk0 (fun s hk0 => ?_)
    | refine KeepsR.next ?_
  refine atU_keeps _ _ _ hk0 (fun s hk0 => ?_)
  first
    | (simp (maxDischargeDepth := 100) (contextual := true) [*]; done)
    | (try dsimp only
       repeat' split
       all_goals first | with_reducible assumption | simp (maxDischargeDepth := 100) (contextual := true) [*])

theorem execSsUpstreamPacket_keeps {b0 : State} (n addr epn : Nat) (dirIn : Bool) (ty len numP : Nat) (whole : Bool) (s : State) (hk0 : Keeps b0 s) : KeepsR b0 (execSsUpstreamPacket n addr epn dirIn ty len numP whole s) := by
  unfold execSsUpstreamPacket
  first
    | refine act_keeps _ _ hk0 (fun s hk0 => ?_)
    | refine tcAct_keeps _ _ _ hk0 (fun s hk0 => ?_)
    | refine KeepsR.next ?_
  refine atD_keeps _ _ _ hk0 (fun s hk0 => ?_)
  first
    | (simp (maxDischargeDepth := 100) (contextual := true) [*]; done)
    | (try dsimp only
       repeat' split
       all_goals first | with_reducible assumption | simp (maxDischargeDepth := 100) (contextual := true) [*])

theorem execItpReceived_keeps {b0 : State} (u : Nat) (s : State) (hk0 : Keeps b0 s) : KeepsR b0 (execItpReceived u s) := by
  unfold execItpReceived
  first
    | refine act_keeps _ _ hk0 (fun s hk0 => ?_)
    | refine tcAct_keeps _ _ _ hk0 (fun s hk0 => ?_)
    | refine KeepsR.next ?_
  refine atU_keeps _ _ _ hk0 (fun s hk0 => ?_)
  try dsimp only
  repeat' (first | with_reducible assumption | (simp (maxDischargeDepth := 100) (contextual := true) [*]; done) | refine Keeps.ite _ ?_ ?_ | refine Keeps.foldl _ _ (fun s a hk0 => ?_) ?_ | split)

theorem execItpReleaseTimeout_keeps {b0 : State} (u : Nat) (s : State) (hk0 : Keeps b0 s) : KeepsR b0 (execItpReleaseTimeout u s) := by
  unfold execItpReleaseTimeout
  first
    | refine act_keeps _ _ hk0 (fun s hk0 => ?_)
    | refine tcAct_keeps _ _ _ hk0 (fun s hk0 => ?_)
    | refine KeepsR.next ?_
  first
    | (simp (maxDischargeDepth := 100) (contextual := true) [*]; done)
    | (try dsimp only
       repeat' split
       all_goals first | with_reducible assumption | simp (maxDischargeDepth := 100) (contextual := true) [*])

theorem execQueueWriteRequest_keeps {b0 : State} (q src x cls len : Nat) (s : State) (hk0 : Keeps b0 s) : KeepsR b0 (execQueueWriteRequest q src x cls len s) := by
  unfold execQueueWriteRequest
  exact act_keeps _ _ hk0 (fun s hk0 => by simp (maxDischargeDepth := 100) (contextual := true) [*])

theorem execQueueSpaceGranted_keeps {b0 : State} (q : Nat) (s : State) (hk0 : Keeps b0 s) : KeepsR b0 (execQueueSpaceGranted q s) := by
  unfold execQueueSpaceGranted
  first
    | refine act_keeps _ _ hk0 (fun s hk0 => ?_)
    | refine tcAct_keeps _ _ _ hk0 (fun s hk0 => ?_)
    | refine KeepsR.next ?_
  first
    | (simp (maxDischargeDepth := 100) (contextual := true) [*]; done)
    | (try dsimp only
       repeat' split
       all_goals first | with_reducible assumption | simp (maxDischargeDepth := 100) (contextual := true) [*])

theorem execQueueConfigWrite_keeps {b0 : State} (q v : Nat) (s : State) (hk0 : Keeps b0 s) : KeepsR b0 (execQueueConfigWrite q v s) := by
  unfold execQueueConfigWrite
  exact act_keeps _ _ hk0 (fun s hk0 => by simp (maxDischargeDepth := 100) (contextual := true) [*])

theorem execCutThroughStart_keeps {b0 : State} (rd : QueueRead) (words left : Nat) (s : State) (hk0 : Keeps b0 s) : KeepsR b0 (execCutThroughStart rd words left s) := by
  unfold execCutThroughStart
  first
    | refine act_keeps _ _ hk0 (fun s hk0 => ?_)
    | refine tcAct_keeps _ _ _ hk0 (fun s hk0 => ?_)
    | refine KeepsR.next ?_
  first
    | (simp (maxDischargeDepth := 100) (contextual := true) [*]; done)
    | (try dsimp only
       repeat' split
       all_goals first | with_reducible assumption | simp (maxDischargeDepth := 100) (contextual := true) [*])

theorem execCutThroughAbort_keeps {b0 : State} (rd : QueueRead) (s : State) (hk0 : Keeps b0 s) : KeepsR b0 (execCutThroughAbort rd s) := by
  unfold execCutThroughAbort
  first
    | refine act_keeps _ _ hk0 (fun s hk0 => ?_)
    | refine tcAct_keeps _ _ _ hk0 (fun s hk0 => ?_)
    | refine KeepsR.next ?_
  first
    | (simp (maxDischargeDepth := 100) (contextual := true) [*]; done)
    | (try dsimp only
       repeat' split
       all_goals first | with_reducible assumption | simp (maxDischargeDepth := 100) (contextual := true) [*])

theorem execEgressPick_keeps {b0 : State} (x left : Nat) (s : State) (hk0 : Keeps b0 s) : KeepsR b0 (execEgressPick x left s) := by
  unfold execEgressPick
  exact act_keeps _ _ hk0 (fun s hk0 => by simp (maxDischargeDepth := 100) (contextual := true) [*])

theorem execPacketStaged_keeps {b0 : State} (x : Nat) (errs : WordErrs) (s : State) (hk0 : Keeps b0 s) : KeepsR b0 (execPacketStaged x errs s) := by
  unfold execPacketStaged
  first
    | refine act_keeps _ _ hk0 (fun s hk0 => ?_)
    | refine tcAct_keeps _ _ _ hk0 (fun s hk0 => ?_)
    | refine KeepsR.next ?_
  first
    | (simp (maxDischargeDepth := 100) (contextual := true) [*]; done)
    | (try dsimp only
       repeat' split
       all_goals first | with_reducible assumption | simp (maxDischargeDepth := 100) (contextual := true) [*])

theorem execEpisodeSeenRead_keeps {b0 : State} (q : Nat) (s : State) (hk0 : Keeps b0 s) : KeepsR b0 (execEpisodeSeenRead q s) := by
  unfold execEpisodeSeenRead
  exact act_keeps _ _ hk0 (fun s hk0 => by simp (maxDischargeDepth := 100) (contextual := true) [*])

theorem execProtectionWrite_keeps {b0 : State} (v : Nat) (s : State) (hk0 : Keeps b0 s) : KeepsR b0 (execProtectionWrite v s) := by
  unfold execProtectionWrite
  exact act_keeps _ _ hk0 (fun s hk0 => by simp (maxDischargeDepth := 100) (contextual := true) [*])

theorem execQueueFlush_keeps {b0 : State} (q : Nat) (s : State) (hk0 : Keeps b0 s) : KeepsR b0 (execQueueFlush q s) := by
  unfold execQueueFlush
  exact act_keeps _ _ hk0 (fun s hk0 => by simp (maxDischargeDepth := 100) (contextual := true) [*])

theorem execFlushBoundary_keeps {b0 : State} (q : Nat) (s : State) (hk0 : Keeps b0 s) : KeepsR b0 (execFlushBoundary q s) := by
  unfold execFlushBoundary
  exact act_keeps _ _ hk0 (fun s hk0 => by simp (maxDischargeDepth := 100) (contextual := true) [*])

theorem execFlushProducerTimeout_keeps {b0 : State} (q : Nat) (s : State) (hk0 : Keeps b0 s) : KeepsR b0 (execFlushProducerTimeout q s) := by
  unfold execFlushProducerTimeout
  first
    | refine act_keeps _ _ hk0 (fun s hk0 => ?_)
    | refine tcAct_keeps _ _ _ hk0 (fun s hk0 => ?_)
    | refine KeepsR.next ?_
  first
    | (simp (maxDischargeDepth := 100) (contextual := true) [*]; done)
    | (try dsimp only
       repeat' split
       all_goals first | with_reducible assumption | simp (maxDischargeDepth := 100) (contextual := true) [*])

theorem execRedHoldForced_keeps {b0 : State} (p : Nat) (s : State) (hk0 : Keeps b0 s) : KeepsR b0 (execRedHoldForced p s) := by
  unfold execRedHoldForced
  first
    | refine act_keeps _ _ hk0 (fun s hk0 => ?_)
    | refine tcAct_keeps _ _ _ hk0 (fun s hk0 => ?_)
    | refine KeepsR.next ?_
  first
    | (simp (maxDischargeDepth := 100) (contextual := true) [*]; done)
    | (try dsimp only
       repeat' split
       all_goals first | with_reducible assumption | simp (maxDischargeDepth := 100) (contextual := true) [*])

theorem execForgive_keeps {b0 : State} (x : Nat) (s : State) (hk0 : Keeps b0 s) : KeepsR b0 (execForgive x s) := by
  unfold execForgive
  exact act_keeps _ _ hk0 (fun s hk0 => by simp (maxDischargeDepth := 100) (contextual := true) [*])

theorem execSsLinkU0_keeps {b0 : State} (n gen : Nat) (s : State) (hk0 : Keeps b0 s) : KeepsR b0 (execSsLinkU0 n gen s) := by
  unfold execSsLinkU0
  first
    | refine act_keeps _ _ hk0 (fun s hk0 => ?_)
    | refine tcAct_keeps _ _ _ hk0 (fun s hk0 => ?_)
    | refine KeepsR.next ?_
  refine atD_keeps _ _ _ hk0 (fun s hk0 => ?_)
  try dsimp only
  repeat' (first | with_reducible assumption | (simp (maxDischargeDepth := 100) (contextual := true) [*]; done) | refine Keeps.ite _ ?_ ?_ | refine Keeps.foldl _ _ (fun s a hk0 => ?_) ?_ | split)

end Machine

end Sys2Proof
end

