-- ==== Sys2Proof/Laws/KeepsLinkPower.lean ====
section
/-!
SUPPORT. Keeps, for the operations of LinkPower.lean.
-/

namespace Sys2Proof

namespace Machine

namespace State

@[simp] theorem repeatK_keeps {b0 : State} (s : State) (u : Nat) (hk0 : Keeps b0 s) : Keeps b0 (repeatK s u) := by
  unfold repeatK
  simp (maxDischargeDepth := 100) (contextual := true) [*]

@[simp] theorem collide_keeps {b0 : State} (s : State) (u n : Nat) (hk0 : Keeps b0 s) : Keeps b0 (collide s u n) := by
  unfold collide
  first
    | (simp (maxDischargeDepth := 100) (contextual := true) [*]; done)
    | (apply Keeps.of_eq hk0 <;> with_reducible rfl)
    | (try dsimp only
       repeat' split
       all_goals first | with_reducible assumption | simp (maxDischargeDepth := 100) (contextual := true) [*])

@[simp] theorem treeWake_keeps {b0 : State} (s : State) (n : Nat) (hk0 : Keeps b0 s) : Keeps b0 (treeWake s n) := by
  unfold treeWake
  simp (maxDischargeDepth := 100) (contextual := true) [*]

@[simp] theorem lateWake_keeps {b0 : State} (s : State) (u n : Nat) (hk0 : Keeps b0 s) : Keeps b0 (lateWake s u n) := by
  unfold lateWake
  first
    | (simp (maxDischargeDepth := 100) (contextual := true) [*]; done)
    | (apply Keeps.of_eq hk0 <;> with_reducible rfl)
    | (try dsimp only
       repeat' split
       all_goals first | with_reducible assumption | simp (maxDischargeDepth := 100) (contextual := true) [*])

@[simp] theorem l1Done_keeps {b0 : State} (s : State) (n code : Nat) (hk0 : Keeps b0 s) : Keeps b0 (l1Done s n code) := by
  unfold l1Done
  first
    | (simp (maxDischargeDepth := 100) (contextual := true) [*]; done)
    | (apply Keeps.of_eq hk0 <;> with_reducible rfl)
    | (try dsimp only
       repeat' split
       all_goals first | with_reducible assumption | simp (maxDischargeDepth := 100) (contextual := true) [*])

@[simp] theorem upInitiate_keeps {b0 : State} (s : State) (u : Nat) (en : Bool) (ls : Nat) (sig : SsSig) (hk0 : Keeps b0 s) : Keeps b0 (upInitiate s u en ls sig) := by
  unfold upInitiate
  simp (maxDischargeDepth := 100) (contextual := true) [*]

@[simp] theorem sendU3_keeps {b0 : State} (s : State) (n : Nat) (hk0 : Keeps b0 s) : Keeps b0 (sendU3 s n) := by
  unfold sendU3
  simp (maxDischargeDepth := 100) (contextual := true) [*]

@[simp] theorem deferHeld_keeps {b0 : State} (s : State) (n : Nat) (hk0 : Keeps b0 s) : Keeps b0 (deferHeld s n) := by
  unfold deferHeld
  simp (maxDischargeDepth := 100) (contextual := true) [*]


end State

open State

theorem execTreeSuspend_keeps {b0 : State} (u : Nat) (s : State) (hk0 : Keeps b0 s) : KeepsR b0 (execTreeSuspend u s) := by
  unfold execTreeSuspend
  exact act_keeps _ _ hk0 (fun s hk0 => by simp (maxDischargeDepth := 100) (contextual := true) [*])

theorem execSetPortSuspend_keeps {b0 : State} (u h l : Nat) (s : State) (hk0 : Keeps b0 s) : KeepsR b0 (execSetPortSuspend u h l s) := by
  unfold execSetPortSuspend
  exact act_keeps _ _ hk0 (fun s hk0 => by simp (maxDischargeDepth := 100) (contextual := true) [*])

theorem execClearPortSuspend_keeps {b0 : State} (u h l : Nat) (s : State) (hk0 : Keeps b0 s) : KeepsR b0 (execClearPortSuspend u h l s) := by
  unfold execClearPortSuspend
  exact act_keeps _ _ hk0 (fun s hk0 => by simp (maxDischargeDepth := 100) (contextual := true) [*])

theorem execPortResumeEnd_keeps {b0 : State} (n : Nat) (s : State) (hk0 : Keeps b0 s) : KeepsR b0 (execPortResumeEnd n s) := by
  unfold execPortResumeEnd
  exact act_keeps _ _ hk0 (fun s hk0 => by simp (maxDischargeDepth := 100) (contextual := true) [*])

theorem execHostResume_keeps {b0 : State} (u : Nat) (s : State) (hk0 : Keeps b0 s) : KeepsR b0 (execHostResume u s) := by
  unfold execHostResume
  exact act_keeps _ _ hk0 (fun s hk0 => by simp (maxDischargeDepth := 100) (contextual := true) [*])

theorem execHostResumeEnd_keeps {b0 : State} (u : Nat) (s : State) (hk0 : Keeps b0 s) : KeepsR b0 (execHostResumeEnd u s) := by
  unfold execHostResumeEnd
  exact act_keeps _ _ hk0 (fun s hk0 => by simp (maxDischargeDepth := 100) (contextual := true) [*])

theorem execDeviceResume_keeps {b0 : State} (n : Nat) (s : State) (hk0 : Keeps b0 s) : KeepsR b0 (execDeviceResume n s) := by
  unfold execDeviceResume
  first
    | refine act_keeps _ _ hk0 (fun s hk0 => ?_)
    | refine tcAct_keeps _ _ _ hk0 (fun s hk0 => ?_)
    | refine KeepsR.next ?_
  refine atD_keeps _ _ _ hk0 (fun s hk0 => ?_)
  first
    | (simp (maxDischargeDepth := 100) (contextual := true) [*]; done)
    | (try dsimp only
       repeat' split
       all_goals first | with_reducible assumption | simp (maxDischargeDepth := 100) (contextual := true) [*])

theorem execDeviceWake_keeps {b0 : State} (n : Nat) (s : State) (hk0 : Keeps b0 s) : KeepsR b0 (execDeviceWake n s) := by
  unfold execDeviceWake
  first
    | refine act_keeps _ _ hk0 (fun s hk0 => ?_)
    | refine tcAct_keeps _ _ _ hk0 (fun s hk0 => ?_)
    | refine KeepsR.next ?_
  refine atD_keeps _ _ _ hk0 (fun s hk0 => ?_)
  first
    | (simp (maxDischargeDepth := 100) (contextual := true) [*]; done)
    | (try dsimp only
       repeat' split
       all_goals first | with_reducible assumption | simp (maxDischargeDepth := 100) (contextual := true) [*])

theorem execUpstreamWakeDriveStart_keeps {b0 : State} (u : Nat) (s : State) (hk0 : Keeps b0 s) : KeepsR b0 (execUpstreamWakeDriveStart u s) := by
  unfold execUpstreamWakeDriveStart
  exact act_keeps _ _ hk0 (fun s hk0 => by simp (maxDischargeDepth := 100) (contextual := true) [*])

theorem execUpstreamWakeDriveEnd_keeps {b0 : State} (u : Nat) (s : State) (hk0 : Keeps b0 s) : KeepsR b0 (execUpstreamWakeDriveEnd u s) := by
  unfold execUpstreamWakeDriveEnd
  exact act_keeps _ _ hk0 (fun s hk0 => by simp (maxDischargeDepth := 100) (contextual := true) [*])

theorem execWakeNoHostResume_keeps {b0 : State} (u : Nat) (s : State) (hk0 : Keeps b0 s) : KeepsR b0 (execWakeNoHostResume u s) := by
  unfold execWakeNoHostResume
  first
    | refine act_keeps _ _ hk0 (fun s hk0 => ?_)
    | refine tcAct_keeps _ _ _ hk0 (fun s hk0 => ?_)
    | refine KeepsR.next ?_
  refine atU_keeps _ _ _ hk0 (fun s hk0 => ?_)
  try dsimp only
  repeat' (first | with_reducible assumption | (simp (maxDischargeDepth := 100) (contextual := true) [*]; done) | refine Keeps.ite _ ?_ ?_ | refine Keeps.foldl _ _ (fun s a hk0 => ?_) ?_ | split)

theorem execSetAndTestPortL1_keeps {b0 : State} (u h l addr besl : Nat) (rwe : Bool) (s : State) (hk0 : Keeps b0 s) : KeepsR b0 (execSetAndTestPortL1 u h l addr besl rwe s) := by
  unfold execSetAndTestPortL1
  exact act_keeps _ _ hk0 (fun s hk0 => by simp (maxDischargeDepth := 100) (contextual := true) [*])

theorem execL1TokenResponse_keeps {b0 : State} (n resp : Nat) (s : State) (hk0 : Keeps b0 s) : KeepsR b0 (execL1TokenResponse n resp s) := by
  unfold execL1TokenResponse
  first
    | refine act_keeps _ _ hk0 (fun s hk0 => ?_)
    | refine tcAct_keeps _ _ _ hk0 (fun s hk0 => ?_)
    | refine KeepsR.next ?_
  first
    | (simp (maxDischargeDepth := 100) (contextual := true) [*]; done)
    | (try dsimp only
       repeat' split
       all_goals first | with_reducible assumption | simp (maxDischargeDepth := 100) (contextual := true) [*])

theorem execL1TokenTimeout_keeps {b0 : State} (n : Nat) (s : State) (hk0 : Keeps b0 s) : KeepsR b0 (execL1TokenTimeout n s) := by
  unfold execL1TokenTimeout
  exact act_keeps _ _ hk0 (fun s hk0 => by simp (maxDischargeDepth := 100) (contextual := true) [*])

theorem execUpstreamLpmToken_keeps {b0 : State} (u : Nat) (s : State) (hk0 : Keeps b0 s) : KeepsR b0 (execUpstreamLpmToken u s) := by
  unfold execUpstreamLpmToken
  exact act_keeps _ _ hk0 (fun s hk0 => by simp (maxDischargeDepth := 100) (contextual := true) [*])

theorem execUpstreamL1Exit_keeps {b0 : State} (u : Nat) (s : State) (hk0 : Keeps b0 s) : KeepsR b0 (execUpstreamL1Exit u s) := by
  unfold execUpstreamL1Exit
  exact act_keeps _ _ hk0 (fun s hk0 => by simp (maxDischargeDepth := 100) (contextual := true) [*])

theorem execSetPortU1Timeout_keeps {b0 : State} (u h l v : Nat) (s : State) (hk0 : Keeps b0 s) : KeepsR b0 (execSetPortU1Timeout u h l v s) := by
  unfold execSetPortU1Timeout
  exact act_keeps _ _ hk0 (fun s hk0 => by simp (maxDischargeDepth := 100) (contextual := true) [*])

theorem execSetPortU2Timeout_keeps {b0 : State} (u h l v : Nat) (s : State) (hk0 : Keeps b0 s) : KeepsR b0 (execSetPortU2Timeout u h l v s) := by
  unfold execSetPortU2Timeout
  exact act_keeps _ _ hk0 (fun s hk0 => by simp (maxDischargeDepth := 100) (contextual := true) [*])

theorem execU1IdleTimeout_keeps {b0 : State} (n : Nat) (s : State) (hk0 : Keeps b0 s) : KeepsR b0 (execU1IdleTimeout n s) := by
  unfold execU1IdleTimeout
  exact act_keeps _ _ hk0 (fun s hk0 => by simp (maxDischargeDepth := 100) (contextual := true) [*])

theorem execU2InactivityTimeout_keeps {b0 : State} (n : Nat) (s : State) (hk0 : Keeps b0 s) : KeepsR b0 (execU2InactivityTimeout n s) := by
  unfold execU2InactivityTimeout
  exact act_keeps _ _ hk0 (fun s hk0 => by simp (maxDischargeDepth := 100) (contextual := true) [*])

theorem execDeviceLgo_keeps {b0 : State} (n k : Nat) (s : State) (hk0 : Keeps b0 s) : KeepsR b0 (execDeviceLgo n k s) := by
  unfold execDeviceLgo
  exact act_keeps _ _ hk0 (fun s hk0 => by simp (maxDischargeDepth := 100) (contextual := true) [*])

theorem execUxExit_keeps {b0 : State} (n : Nat) (s : State) (hk0 : Keeps b0 s) : KeepsR b0 (execUxExit n s) := by
  unfold execUxExit
  exact act_keeps _ _ hk0 (fun s hk0 => by simp (maxDischargeDepth := 100) (contextual := true) [*])

theorem execUxExitTimeout_keeps {b0 : State} (n : Nat) (s : State) (hk0 : Keeps b0 s) : KeepsR b0 (execUxExitTimeout n s) := by
  unfold execUxExitTimeout
  exact act_keeps _ _ hk0 (fun s hk0 => by simp (maxDischargeDepth := 100) (contextual := true) [*])

theorem execRecoveryFail_keeps {b0 : State} (n : Nat) (s : State) (hk0 : Keeps b0 s) : KeepsR b0 (execRecoveryFail n s) := by
  unfold execRecoveryFail
  exact act_keeps _ _ hk0 (fun s hk0 => by simp (maxDischargeDepth := 100) (contextual := true) [*])

theorem execSetPortLinkStateU3_keeps {b0 : State} (u h l : Nat) (s : State) (hk0 : Keeps b0 s) : KeepsR b0 (execSetPortLinkStateU3 u h l s) := by
  unfold execSetPortLinkStateU3
  exact act_keeps _ _ hk0 (fun s hk0 => by simp (maxDischargeDepth := 100) (contextual := true) [*])

theorem execSetPortLinkStateU0_keeps {b0 : State} (u h l : Nat) (s : State) (hk0 : Keeps b0 s) : KeepsR b0 (execSetPortLinkStateU0 u h l s) := by
  unfold execSetPortLinkStateU0
  exact act_keeps _ _ hk0 (fun s hk0 => by simp (maxDischargeDepth := 100) (contextual := true) [*])

theorem execDeviceU3Exit_keeps {b0 : State} (n : Nat) (s : State) (hk0 : Keeps b0 s) : KeepsR b0 (execDeviceU3Exit n s) := by
  unfold execDeviceU3Exit
  exact act_keeps _ _ hk0 (fun s hk0 => by simp (maxDischargeDepth := 100) (contextual := true) [*])

theorem execUpstreamLgo_keeps {b0 : State} (u k : Nat) (s : State) (hk0 : Keeps b0 s) : KeepsR b0 (execUpstreamLgo u k s) := by
  unfold execUpstreamLgo
  exact act_keeps _ _ hk0 (fun s hk0 => by simp (maxDischargeDepth := 100) (contextual := true) [*])

theorem execUpstreamU1Initiate_keeps {b0 : State} (u : Nat) (s : State) (hk0 : Keeps b0 s) : KeepsR b0 (execUpstreamU1Initiate u s) := by
  unfold execUpstreamU1Initiate
  exact act_keeps _ _ hk0 (fun s hk0 => by simp (maxDischargeDepth := 100) (contextual := true) [*])

theorem execUpstreamU2Initiate_keeps {b0 : State} (u : Nat) (s : State) (hk0 : Keeps b0 s) : KeepsR b0 (execUpstreamU2Initiate u s) := by
  unfold execUpstreamU2Initiate
  exact act_keeps _ _ hk0 (fun s hk0 => by simp (maxDischargeDepth := 100) (contextual := true) [*])

theorem execUpstreamUxExit_keeps {b0 : State} (u : Nat) (s : State) (hk0 : Keeps b0 s) : KeepsR b0 (execUpstreamUxExit u s) := by
  unfold execUpstreamUxExit
  exact act_keeps _ _ hk0 (fun s hk0 => by simp (maxDischargeDepth := 100) (contextual := true) [*])

theorem execUpstreamU3Entry_keeps {b0 : State} (u : Nat) (s : State) (hk0 : Keeps b0 s) : KeepsR b0 (execUpstreamU3Entry u s) := by
  unfold execUpstreamU3Entry
  exact act_keeps _ _ hk0 (fun s hk0 => by simp (maxDischargeDepth := 100) (contextual := true) [*])

theorem execUpstreamU3Exit_keeps {b0 : State} (u : Nat) (s : State) (hk0 : Keeps b0 s) : KeepsR b0 (execUpstreamU3Exit u s) := by
  unfold execUpstreamU3Exit
  exact act_keeps _ _ hk0 (fun s hk0 => by simp (maxDischargeDepth := 100) (contextual := true) [*])

theorem execDormantEntry_keeps {b0 : State} (s : State) (hk0 : Keeps b0 s) : KeepsR b0 (execDormantEntry s) := by
  unfold execDormantEntry
  exact act_keeps _ _ hk0 (fun s hk0 => by simp (maxDischargeDepth := 100) (contextual := true) [*])

end Machine

end Sys2Proof
end

