-- ==== Sys2Proof/Laws/KeepsPd.lean ====
section
/-!
SUPPORT. Keeps, for the operations of Pd.lean.
-/

namespace Sys2Proof

namespace Machine

namespace State

@[simp] theorem setTxEntry_keeps {b0 : State} (s : State) (k : Nat) (l : List Nat) (hk0 : Keeps b0 s) : Keeps b0 (setTxEntry s k l) := by
  unfold setTxEntry
  simp (maxDischargeDepth := 100) (contextual := true) [*]

@[simp] theorem pdNote_keeps {b0 : State} (s : State) (k : Nat) (sent : Bool) (h : Nat) (hk0 : Keeps b0 s) : Keeps b0 (pdNote s k sent h) := by
  unfold pdNote
  simp (maxDischargeDepth := 100) (contextual := true) [*]

@[simp] theorem pdRefuse_keeps {b0 : State} (s : State) (k : Nat) (r : RC) (hk0 : Keeps b0 s) : Keeps b0 (pdRefuse s k r) := by
  unfold pdRefuse
  simp (maxDischargeDepth := 100) (contextual := true) [*]

@[simp] theorem pdDone_keeps {b0 : State} (s : State) (k : Nat) (hk0 : Keeps b0 s) : Keeps b0 (pdDone s k) := by
  unfold pdDone
  simp (maxDischargeDepth := 100) (contextual := true) [*]

@[simp] theorem sinkTxRefresh_keeps {b0 : State} (s : State) (k : Nat) (hk0 : Keeps b0 s) : Keeps b0 (sinkTxRefresh s k) := by
  unfold sinkTxRefresh
  simp (maxDischargeDepth := 100) (contextual := true) [*]

@[simp] theorem txComplete_keeps {b0 : State} (s : State) (k st : Nat) (hk0 : Keeps b0 s) : Keeps b0 (txComplete s k st) := by
  unfold txComplete
  simp (maxDischargeDepth := 100) (contextual := true) [*]

@[simp] theorem txAbandon_keeps {b0 : State} (s : State) (k : Nat) (hk0 : Keeps b0 s) : Keeps b0 (txAbandon s k) := by
  unfold txAbandon
  first
    | (simp (maxDischargeDepth := 100) (contextual := true) [*]; done)
    | (apply Keeps.of_eq hk0 <;> with_reducible rfl)
    | (try dsimp only
       repeat' split
       all_goals first | with_reducible assumption | simp (maxDischargeDepth := 100) (contextual := true) [*])

@[simp] theorem txDiscard_keeps {b0 : State} (s : State) (k : Nat) (hk0 : Keeps b0 s) : Keeps b0 (txDiscard s k) := by
  unfold txDiscard
  first
    | (simp (maxDischargeDepth := 100) (contextual := true) [*]; done)
    | (apply Keeps.of_eq hk0 <;> with_reducible rfl)
    | (try dsimp only
       repeat' split
       all_goals first | with_reducible assumption | simp (maxDischargeDepth := 100) (contextual := true) [*])

@[simp] theorem rxPop_keeps {b0 : State} (s : State) (k : Nat) (hk0 : Keeps b0 s) : Keeps b0 (rxPop s k) := by
  unfold rxPop
  first
    | (simp (maxDischargeDepth := 100) (contextual := true) [*]; done)
    | (apply Keeps.of_eq hk0 <;> with_reducible rfl)
    | (try dsimp only
       repeat' split
       all_goals first | with_reducible assumption | simp (maxDischargeDepth := 100) (contextual := true) [*])

@[simp] theorem hrStart_keeps {b0 : State} (s : State) (k : Nat) (sent : Bool) (hk0 : Keeps b0 s) : Keeps b0 (hrStart s k sent) := by
  unfold hrStart
  simp (maxDischargeDepth := 100) (contextual := true) [*]

@[simp] theorem hrSend_keeps {b0 : State} (s : State) (k : Nat) (hk0 : Keeps b0 s) : Keeps b0 (hrSend s k) := by
  unfold hrSend
  simp (maxDischargeDepth := 100) (contextual := true) [*]

@[simp] theorem wrPdNext_keeps {b0 : State} (s : State) (k v : Nat) (hk0 : Keeps b0 s) : Keeps b0 (wrPdNext s k v) := by
  unfold wrPdNext
  simp (maxDischargeDepth := 100) (contextual := true) [*]

@[simp] theorem transDone_keeps {b0 : State} (s : State) (k : Nat) (hk0 : Keeps b0 s) : Keeps b0 (transDone s k) := by
  unfold transDone
  simp (maxDischargeDepth := 100) (contextual := true) [*]

@[simp] theorem transStart_keeps {b0 : State} (s : State) (k pos : Nat) (hk0 : Keeps b0 s) : Keeps b0 (transStart s k pos) := by
  unfold transStart
  simp (maxDischargeDepth := 100) (contextual := true) [*]

@[simp] theorem transEnd_keeps {b0 : State} (s : State) (k : Nat) (hk0 : Keeps b0 s) : Keeps b0 (transEnd s k) := by
  unfold transEnd
  simp (maxDischargeDepth := 100) (contextual := true) [*]

@[simp] theorem setVconn_keeps {b0 : State} (s : State) (k : Nat) (on : Bool) (hk0 : Keeps b0 s) : Keeps b0 (setVconn s k on) := by
  unfold setVconn
  simp (maxDischargeDepth := 100) (contextual := true) [*]

@[simp] theorem swapBegin_keeps {b0 : State} (s : State) (k sw : Nat) (hk0 : Keeps b0 s) : Keeps b0 (swapBegin s k sw) := by
  unfold swapBegin
  simp (maxDischargeDepth := 100) (contextual := true) [*]

@[simp] theorem swapReady_keeps {b0 : State} (s : State) (k : Nat) (sent : Bool) (hk0 : Keeps b0 s) : Keeps b0 (swapReady s k sent) := by
  unfold swapReady
  first
    | (simp (maxDischargeDepth := 100) (contextual := true) [*]; done)
    | (apply Keeps.of_eq hk0 <;> with_reducible rfl)
    | (try dsimp only
       repeat' split
       all_goals first | with_reducible assumption | simp (maxDischargeDepth := 100) (contextual := true) [*])

@[simp] theorem txEffect_keeps {b0 : State} (s : State) (k h : Nat) (w1 : Nat) (hk0 : Keeps b0 s) : Keeps b0 (txEffect s k h w1) := by
  unfold txEffect
  first
    | (simp (maxDischargeDepth := 100) (contextual := true) [*]; done)
    | (apply Keeps.of_eq hk0 <;> with_reducible rfl)
    | (try dsimp only
       repeat' split
       all_goals first | with_reducible assumption | simp (maxDischargeDepth := 100) (contextual := true) [*])

@[simp] theorem txGo_keeps {b0 : State} (s : State) (k : Nat) (hk0 : Keeps b0 s) : Keeps b0 (txGo s k).1 := by
  unfold txGo
  first
    | (simp (maxDischargeDepth := 100) (contextual := true) [*]; done)
    | (apply Keeps.of_eq hk0 <;> with_reducible rfl)
    | (try dsimp only
       repeat' split
       all_goals first | with_reducible assumption | simp (maxDischargeDepth := 100) (contextual := true) [*])

@[simp] theorem pdWatchdog_keeps {b0 : State} (s : State) (k which : Nat) (hk0 : Keeps b0 s) : Keeps b0 (pdWatchdog s k which) := by
  unfold pdWatchdog
  simp (maxDischargeDepth := 100) (contextual := true) [*]

@[simp] theorem vdmEffect_keeps {b0 : State} (s : State) (k w1 : Nat) (hk0 : Keeps b0 s) : Keeps b0 (vdmEffect s k w1) := by
  unfold vdmEffect
  simp (maxDischargeDepth := 100) (contextual := true) [*]

@[simp] theorem cableEffect_keeps {b0 : State} (s : State) (k w1 cable : Nat) (hk0 : Keeps b0 s) : Keeps b0 (cableEffect s k w1 cable) := by
  unfold cableEffect
  simp (maxDischargeDepth := 100) (contextual := true) [*]

@[simp] theorem answerEffect_keeps {b0 : State} (s : State) (k : Nat) (yes : Bool) (hk0 : Keeps b0 s) : Keeps b0 (answerEffect s k yes) := by
  unfold answerEffect
  simp (maxDischargeDepth := 100) (contextual := true) [*]

@[simp] theorem sinkContract_keeps {b0 : State} (s : State) (k : Nat) (hk0 : Keeps b0 s) : Keeps b0 (sinkContract s k) := by
  unfold sinkContract
  simp (maxDischargeDepth := 100) (contextual := true) [*]

@[simp] theorem controlEffect_keeps {b0 : State} (s : State) (k h : Nat) (hk0 : Keeps b0 s) : Keeps b0 (controlEffect s k h) := by
  unfold controlEffect
  try dsimp only
  repeat' (first | with_reducible assumption | (simp (maxDischargeDepth := 100) (contextual := true) [*]; done) | refine Keeps.ite _ ?_ ?_ | refine Keeps.foldl _ _ (fun s a hk0 => ?_) ?_ | split)

@[simp] theorem rxEffect_keeps {b0 : State} (s : State) (k h w1 : Nat) (hk0 : Keeps b0 s) : Keeps b0 (rxEffect s k h w1) := by
  unfold rxEffect
  try dsimp only
  repeat' (first | with_reducible assumption | (simp (maxDischargeDepth := 100) (contextual := true) [*]; done) | refine Keeps.ite _ ?_ ?_ | refine Keeps.foldl _ _ (fun s a hk0 => ?_) ?_ | split)


end State

open State

theorem execPdMessageReceived_keeps {b0 : State} (k kind bytes h : Nat) (objs : List Nat) (s : State) (hk0 : Keeps b0 s) : KeepsR b0 (execPdMessageReceived k kind bytes h objs s) := by
  unfold execPdMessageReceived
  exact act_keeps _ _ hk0 (fun s hk0 => by simp (maxDischargeDepth := 100) (contextual := true) [*])

theorem execPdRetryTimeout_keeps {b0 : State} (k : Nat) (s : State) (hk0 : Keeps b0 s) : KeepsR b0 (execPdRetryTimeout k s) := by
  unfold execPdRetryTimeout
  exact act_keeps _ _ hk0 (fun s hk0 => by simp (maxDischargeDepth := 100) (contextual := true) [*])

theorem execPdTxStart_keeps {b0 : State} (k : Nat) (s : State) (hk0 : Keeps b0 s) : KeepsR b0 (execPdTxStart k s) := by
  unfold execPdTxStart
  first
    | refine act_keeps _ _ hk0 (fun s hk0 => ?_)
    | refine tcAct_keeps _ _ _ hk0 (fun s hk0 => ?_)
    | refine KeepsR.next ?_
  first
    | (simp (maxDischargeDepth := 100) (contextual := true) [*]; done)
    | (try dsimp only
       repeat' split
       all_goals first | with_reducible assumption | simp (maxDischargeDepth := 100) (contextual := true) [*])

theorem execPdTxComplete_keeps {b0 : State} (k : Nat) (s : State) (hk0 : Keeps b0 s) : KeepsR b0 (execPdTxComplete k s) := by
  unfold execPdTxComplete
  exact act_keeps _ _ hk0 (fun s hk0 => by simp (maxDischargeDepth := 100) (contextual := true) [*])


namespace State

@[simp] theorem pdTxGo_keeps {b0 : State} (s : State) (k : Nat) (hk0 : Keeps b0 s) : Keeps b0 (pdTxGo s k) := by
  unfold pdTxGo
  simp (maxDischargeDepth := 100) (contextual := true) [*]

@[simp] theorem pdRxPop_keeps {b0 : State} (s : State) (k : Nat) (hk0 : Keeps b0 s) : Keeps b0 (pdRxPop s k) := by
  unfold pdRxPop
  simp (maxDischargeDepth := 100) (contextual := true) [*]

@[simp] theorem pdHardReset_keeps {b0 : State} (s : State) (k : Nat) (hk0 : Keeps b0 s) : Keeps b0 (pdHardReset s k) := by
  unfold pdHardReset
  simp (maxDischargeDepth := 100) (contextual := true) [*]

@[simp] theorem pdCableReset_keeps {b0 : State} (s : State) (k : Nat) (hk0 : Keeps b0 s) : Keeps b0 (pdCableReset s k) := by
  unfold pdCableReset
  simp (maxDischargeDepth := 100) (contextual := true) [*]


end State

open State

theorem execTxGo_keeps {b0 : State} (k : Nat) (s : State) (hk0 : Keeps b0 s) : KeepsR b0 (execTxGo k s) := by
  unfold execTxGo
  exact act_keeps _ _ hk0 (fun s hk0 => by simp (maxDischargeDepth := 100) (contextual := true) [*])

theorem execRxPop_keeps {b0 : State} (k : Nat) (s : State) (hk0 : Keeps b0 s) : KeepsR b0 (execRxPop k s) := by
  unfold execRxPop
  exact act_keeps _ _ hk0 (fun s hk0 => by simp (maxDischargeDepth := 100) (contextual := true) [*])

theorem execHardReset_keeps {b0 : State} (k : Nat) (s : State) (hk0 : Keeps b0 s) : KeepsR b0 (execHardReset k s) := by
  unfold execHardReset
  exact act_keeps _ _ hk0 (fun s hk0 => by simp (maxDischargeDepth := 100) (contextual := true) [*])

theorem execCableReset_keeps {b0 : State} (k : Nat) (s : State) (hk0 : Keeps b0 s) : KeepsR b0 (execCableReset k s) := by
  unfold execCableReset
  exact act_keeps _ _ hk0 (fun s hk0 => by simp (maxDischargeDepth := 100) (contextual := true) [*])

theorem execHardResetReceived_keeps {b0 : State} (k : Nat) (s : State) (hk0 : Keeps b0 s) : KeepsR b0 (execHardResetReceived k s) := by
  unfold execHardResetReceived
  exact act_keeps _ _ hk0 (fun s hk0 => by simp (maxDischargeDepth := 100) (contextual := true) [*])

theorem execCableResetReceived_keeps {b0 : State} (k : Nat) (s : State) (hk0 : Keeps b0 s) : KeepsR b0 (execCableResetReceived k s) := by
  unfold execCableResetReceived
  exact act_keeps _ _ hk0 (fun s hk0 => by simp (maxDischargeDepth := 100) (contextual := true) [*])

theorem execTpshardresetEnd_keeps {b0 : State} (k : Nat) (s : State) (hk0 : Keeps b0 s) : KeepsR b0 (execTpshardresetEnd k s) := by
  unfold execTpshardresetEnd
  exact act_keeps _ _ hk0 (fun s hk0 => by simp (maxDischargeDepth := 100) (contextual := true) [*])

theorem execTsrcrecoverEnd_keeps {b0 : State} (k : Nat) (s : State) (hk0 : Keeps b0 s) : KeepsR b0 (execTsrcrecoverEnd k s) := by
  unfold execTsrcrecoverEnd
  exact act_keeps _ _ hk0 (fun s hk0 => by simp (maxDischargeDepth := 100) (contextual := true) [*])

theorem execHrVsafe5vTimeout_keeps {b0 : State} (k : Nat) (s : State) (hk0 : Keeps b0 s) : KeepsR b0 (execHrVsafe5vTimeout k s) := by
  unfold execHrVsafe5vTimeout
  exact act_keeps _ _ hk0 (fun s hk0 => by simp (maxDischargeDepth := 100) (contextual := true) [*])

theorem execPdNextWrite_keeps {b0 : State} (k v : Nat) (s : State) (hk0 : Keeps b0 s) : KeepsR b0 (execPdNextWrite k v s) := by
  unfold execPdNextWrite
  exact act_keeps _ _ hk0 (fun s hk0 => by simp (maxDischargeDepth := 100) (contextual := true) [*])

theorem execTsrctransitionEnd_keeps {b0 : State} (k : Nat) (s : State) (hk0 : Keeps b0 s) : KeepsR b0 (execTsrctransitionEnd k s) := by
  unfold execTsrctransitionEnd
  exact act_keeps _ _ hk0 (fun s hk0 => by simp (maxDischargeDepth := 100) (contextual := true) [*])

theorem execTransitionDone_keeps {b0 : State} (k : Nat) (s : State) (hk0 : Keeps b0 s) : KeepsR b0 (execTransitionDone k s) := by
  unfold execTransitionDone
  exact act_keeps _ _ hk0 (fun s hk0 => by simp (maxDischargeDepth := 100) (contextual := true) [*])

theorem execTransitionTimeout_keeps {b0 : State} (k : Nat) (s : State) (hk0 : Keeps b0 s) : KeepsR b0 (execTransitionTimeout k s) := by
  unfold execTransitionTimeout
  exact act_keeps _ _ hk0 (fun s hk0 => by simp (maxDischargeDepth := 100) (contextual := true) [*])

theorem execEprKeepaliveExpiry_keeps {b0 : State} (k : Nat) (s : State) (hk0 : Keeps b0 s) : KeepsR b0 (execEprKeepaliveExpiry k s) := by
  unfold execEprKeepaliveExpiry
  exact act_keeps _ _ hk0 (fun s hk0 => by simp (maxDischargeDepth := 100) (contextual := true) [*])

theorem execPpsTimeout_keeps {b0 : State} (k : Nat) (s : State) (hk0 : Keeps b0 s) : KeepsR b0 (execPpsTimeout k s) := by
  unfold execPpsTimeout
  exact act_keeps _ _ hk0 (fun s hk0 => by simp (maxDischargeDepth := 100) (contextual := true) [*])

theorem execFrSwapSignal_keeps {b0 : State} (u : Nat) (s : State) (hk0 : Keeps b0 s) : KeepsR b0 (execFrSwapSignal u s) := by
  unfold execFrSwapSignal
  exact act_keeps _ _ hk0 (fun s hk0 => by simp (maxDischargeDepth := 100) (contextual := true) [*])

end Machine

end Sys2Proof
end

