-- ==== Sys2Proof/Laws/KeepsPdPolicy.lean ====
section
/-!
SUPPORT. Keeps, for the operations of PdPolicy.lean.
-/

namespace Sys2Proof

namespace Machine

namespace State

@[simp] theorem sendEntry_keeps {b0 : State} (s : State) (k : Nat) (l : List Nat) (hk0 : Keeps b0 s) : Keeps b0 (sendEntry s k l).1 := by
  unfold sendEntry
  simp (maxDischargeDepth := 100) (contextual := true) [*]

@[simp] theorem modPdPol_keeps {b0 : State} (s : State) (k : Nat) (f : PdPolicy → PdPolicy) (hk0 : Keeps b0 s) : Keeps b0 (modPdPol s k f) := by
  unfold modPdPol
  simp (maxDischargeDepth := 100) (contextual := true) [*]

@[simp] theorem pdPush_keeps {b0 : State} (s : State) (k : Nat) (l : List Nat) (hk0 : Keeps b0 s) : Keeps b0 (pdPush s k l) := by
  unfold pdPush
  simp (maxDischargeDepth := 100) (contextual := true) [*]

@[simp] theorem pdFormed_keeps {b0 : State} (s : State) (k : Nat) (hk0 : Keeps b0 s) : Keeps b0 (pdFormed s k) := by
  unfold pdFormed
  simp (maxDischargeDepth := 100) (contextual := true) [*]

@[simp] theorem pdSend_keeps {b0 : State} (s : State) (k : Nat) (hk0 : Keeps b0 s) : Keeps b0 (pdSend s k) := by
  unfold pdSend
  first
    | (simp (maxDischargeDepth := 100) (contextual := true) [*]; done)
    | (apply Keeps.of_eq hk0 <;> with_reducible rfl)
    | (try dsimp only
       repeat' split
       all_goals first | with_reducible assumption | simp (maxDischargeDepth := 100) (contextual := true) [*])

@[simp] theorem pdAccept_keeps {b0 : State} (s : State) (k kind v i back : Nat) (hk0 : Keeps b0 s) : Keeps b0 (pdAccept s k kind v i back) := by
  unfold pdAccept
  simp (maxDischargeDepth := 100) (contextual := true) [*]

@[simp] theorem pdReject_keeps {b0 : State} (s : State) (k : Nat) (parked : Bool) (hk0 : Keeps b0 s) : Keeps b0 (pdReject s k parked) := by
  unfold pdReject
  simp (maxDischargeDepth := 100) (contextual := true) [*]

@[simp] theorem pdWait_keeps {b0 : State} (s : State) (k w : Nat) (hk0 : Keeps b0 s) : Keeps b0 (pdWait s k w) := by
  unfold pdWait
  simp (maxDischargeDepth := 100) (contextual := true) [*]

@[simp] theorem pdRequest_keeps {b0 : State} (s : State) (k w : Nat) (hk0 : Keeps b0 s) : Keeps b0 (pdRequest s k w) := by
  unfold pdRequest
  first
    | (simp (maxDischargeDepth := 100) (contextual := true) [*]; done)
    | (apply Keeps.of_eq hk0 <;> with_reducible rfl)
    | (try dsimp only
       repeat' split
       all_goals first | with_reducible assumption | simp (maxDischargeDepth := 100) (contextual := true) [*])

@[simp] theorem pdVdm_keeps {b0 : State} (s : State) (k : Nat) (objs : List Nat) (hk0 : Keeps b0 s) : Keeps b0 (pdVdm s k objs) := by
  unfold pdVdm
  simp (maxDischargeDepth := 100) (contextual := true) [*]

@[simp] theorem pdBist_keeps {b0 : State} (s : State) (k w : Nat) (hk0 : Keeps b0 s) : Keeps b0 (pdBist s k w) := by
  unfold pdBist
  simp (maxDischargeDepth := 100) (contextual := true) [*]

@[simp] theorem pdAnswer_keeps {b0 : State} (s : State) (k h : Nat) (objs : List Nat) (hk0 : Keeps b0 s) : Keeps b0 (pdAnswer s k h objs) := by
  unfold pdAnswer
  first
    | (simp (maxDischargeDepth := 100) (contextual := true) [*]; done)
    | (apply Keeps.of_eq hk0 <;> with_reducible rfl)
    | (try dsimp only
       repeat' split
       all_goals first | with_reducible assumption | simp (maxDischargeDepth := 100) (contextual := true) [*])

@[simp] theorem pdEntry_keeps {b0 : State} (s : State) (k : Nat) (hk0 : Keeps b0 s) : Keeps b0 (pdEntry s k) := by
  unfold pdEntry
  first
    | (simp (maxDischargeDepth := 100) (contextual := true) [*]; done)
    | (apply Keeps.of_eq hk0 <;> with_reducible rfl)
    | (try dsimp only
       repeat' split
       all_goals first | with_reducible assumption | simp (maxDischargeDepth := 100) (contextual := true) [*])

@[simp] theorem pdPower_keeps {b0 : State} (s : State) (k : Nat) (hk0 : Keeps b0 s) : Keeps b0 (pdPower s k) := by
  unfold pdPower
  simp (maxDischargeDepth := 100) (contextual := true) [*]

@[simp] theorem pdGrant_keeps {b0 : State} (s : State) (k : Nat) (hk0 : Keeps b0 s) : Keeps b0 (pdGrant s k) := by
  unfold pdGrant
  simp (maxDischargeDepth := 100) (contextual := true) [*]

@[simp] theorem pdEvent_keeps {b0 : State} (s : State) (k : Nat) (hk0 : Keeps b0 s) : Keeps b0 (pdEvent s k) := by
  unfold pdEvent
  simp (maxDischargeDepth := 100) (contextual := true) [*]

@[simp] theorem pdTick_keeps {b0 : State} (s : State) (k : Nat) (hk0 : Keeps b0 s) : Keeps b0 (pdTick s k) := by
  unfold pdTick
  simp (maxDischargeDepth := 100) (contextual := true) [*]

end State

end Machine

end Sys2Proof
end

