-- ==== Sys2Proof/Laws/KeepsTypeC.lean ====
section
/-!
SUPPORT. Keeps, for the operations of TypeC.lean.
-/

namespace Sys2Proof

namespace Machine

namespace State

@[simp] theorem setTc_keeps {b0 : State} (s : State) (n v : Nat) (hk0 : Keeps b0 s) : Keeps b0 (setTc s n v) := by
  unfold setTc
  simp (maxDischargeDepth := 100) (contextual := true) [*]

@[simp] theorem attachDone_keeps {b0 : State} (s : State) (n : Nat) (hk0 : Keeps b0 s) : Keeps b0 (attachDone s n) := by
  unfold attachDone
  first
    | (simp (maxDischargeDepth := 100) (contextual := true) [*]; done)
    | (apply Keeps.of_eq hk0 <;> with_reducible rfl)
    | (try dsimp only
       repeat' split
       all_goals first | with_reducible assumption | simp (maxDischargeDepth := 100) (contextual := true) [*])

@[simp] theorem attachGate_keeps {b0 : State} (s : State) (n : Nat) (hk0 : Keeps b0 s) : Keeps b0 (attachGate s n) := by
  unfold attachGate
  simp (maxDischargeDepth := 100) (contextual := true) [*]

@[simp] theorem resumeTc_keeps {b0 : State} (s : State) (n ret : Nat) (pwr : Bool) (hk0 : Keeps b0 s) : Keeps b0 (resumeTc s n ret pwr) := by
  unfold resumeTc
  simp (maxDischargeDepth := 100) (contextual := true) [*]

@[simp] theorem checkStart_keeps {b0 : State} (s : State) (n : Nat) (c : Check) (hk0 : Keeps b0 s) : Keeps b0 (checkStart s n c) := by
  unfold checkStart
  simp (maxDischargeDepth := 100) (contextual := true) [*]

@[simp] theorem steamEnd_keeps {b0 : State} (s : State) (n : Nat) (hk0 : Keeps b0 s) : Keeps b0 (steamEnd s n) := by
  unfold steamEnd
  simp (maxDischargeDepth := 100) (contextual := true) [*]

@[simp] theorem steamLeave_keeps {b0 : State} (s : State) (n : Nat) (hk0 : Keeps b0 s) : Keeps b0 (steamLeave s n) := by
  unfold steamLeave
  simp (maxDischargeDepth := 100) (contextual := true) [*]

@[simp] theorem steamEnter_keeps {b0 : State} (s : State) (n : Nat) (hk0 : Keeps b0 s) : Keeps b0 (steamEnter s n) := by
  unfold steamEnter
  simp (maxDischargeDepth := 100) (contextual := true) [*]

@[simp] theorem attachOver_keeps {b0 : State} (s : State) (n : Nat) (hk0 : Keeps b0 s) : Keeps b0 (attachOver s n) := by
  unfold attachOver
  simp (maxDischargeDepth := 100) (contextual := true) [*]

@[simp] theorem detachNote_keeps {b0 : State} (s : State) (n : Nat) (hk0 : Keeps b0 s) : Keeps b0 (detachNote s n) := by
  unfold detachNote
  simp (maxDischargeDepth := 100) (contextual := true) [*]

@[simp] theorem detachReport_keeps {b0 : State} (s : State) (n : Nat) (hk0 : Keeps b0 s) : Keeps b0 (detachReport s n) := by
  unfold detachReport
  simp (maxDischargeDepth := 100) (contextual := true) [*]

@[simp] theorem tcOverride_keeps {b0 : State} (s : State) (n : Nat) (hk0 : Keeps b0 s) : Keeps b0 (tcOverride s n) := by
  unfold tcOverride
  simp (maxDischargeDepth := 100) (contextual := true) [*]

@[simp] theorem reseatDet_keeps {b0 : State} (s : State) (n : Nat) (hk0 : Keeps b0 s) : Keeps b0 (reseatDet s n) := by
  unfold reseatDet
  simp (maxDischargeDepth := 100) (contextual := true) [*]

@[simp] theorem tcRecheck_keeps {b0 : State} (s : State) (n : Nat) (hk0 : Keeps b0 s) : Keeps b0 (tcRecheck s n) := by
  unfold tcRecheck
  simp (maxDischargeDepth := 100) (contextual := true) [*]

@[simp] theorem wrTcCmd_keeps {b0 : State} (s : State) (n v : Nat) (hk0 : Keeps b0 s) : Keeps b0 (wrTcCmd s n v) := by
  unfold wrTcCmd
  simp (maxDischargeDepth := 100) (contextual := true) [*]

@[simp] theorem wrCradle_keeps {b0 : State} (s : State) (n v : Nat) (hk0 : Keeps b0 s) : Keeps b0 (wrCradle s n v) := by
  unfold wrCradle
  simp (maxDischargeDepth := 100) (contextual := true) [*]


end State

open State

theorem tcAct_keeps {b0 : State} (s : State) (n : Nat) (f : State → State) (hk0 : Keeps b0 s) (hf : ∀ s, Keeps b0 s → Keeps b0 (f s)) : KeepsR b0 (tcAct s n f) := by
  unfold tcAct
  exact act_keeps _ _ hk0 (fun s hk0 => by simp (maxDischargeDepth := 100) (contextual := true) [*])

theorem execCcAttach_keeps {b0 : State} (n cc1 cc2 : Nat) (s : State) (hk0 : Keeps b0 s) : KeepsR b0 (execCcAttach n cc1 cc2 s) := by
  unfold execCcAttach
  exact act_keeps _ _ hk0 (fun s hk0 => by simp (maxDischargeDepth := 100) (contextual := true) [*])

theorem execAttachDebounceEnd_keeps {b0 : State} (n : Nat) (s : State) (hk0 : Keeps b0 s) : KeepsR b0 (execAttachDebounceEnd n s) := by
  unfold execAttachDebounceEnd
  exact act_keeps _ _ hk0 (fun s hk0 => by simp (maxDischargeDepth := 100) (contextual := true) [*])

theorem execMoistureCheckDone_keeps {b0 : State} (n cc1 cc2 sbu1 sbu2 : Nat) (s : State) (hk0 : Keeps b0 s) : KeepsR b0 (execMoistureCheckDone n cc1 cc2 sbu1 sbu2 s) := by
  unfold execMoistureCheckDone
  first
    | refine act_keeps _ _ hk0 (fun s hk0 => ?_)
    | refine tcAct_keeps _ _ _ hk0 (fun s hk0 => ?_)
    | refine KeepsR.next ?_
  first
    | (simp (maxDischargeDepth := 100) (contextual := true) [*]; done)
    | (try dsimp only
       repeat' split
       all_goals first | with_reducible assumption | simp (maxDischargeDepth := 100) (contextual := true) [*])

theorem execSeatConfirmed_keeps {b0 : State} (n : Nat) (s : State) (hk0 : Keeps b0 s) : KeepsR b0 (execSeatConfirmed n s) := by
  unfold execSeatConfirmed
  exact act_keeps _ _ hk0 (fun s hk0 => by simp (maxDischargeDepth := 100) (contextual := true) [*])

theorem execSeatLoss_keeps {b0 : State} (n : Nat) (s : State) (hk0 : Keeps b0 s) : KeepsR b0 (execSeatLoss n s) := by
  unfold execSeatLoss
  exact act_keeps _ _ hk0 (fun s hk0 => by simp (maxDischargeDepth := 100) (contextual := true) [*])

theorem execErrorRecoveryEnd_keeps {b0 : State} (n cc1 cc2 : Nat) (s : State) (hk0 : Keeps b0 s) : KeepsR b0 (execErrorRecoveryEnd n cc1 cc2 s) := by
  unfold execErrorRecoveryEnd
  exact act_keeps _ _ hk0 (fun s hk0 => by simp (maxDischargeDepth := 100) (contextual := true) [*])

@[simp] theorem pinsOpen_keeps {b0 : State} (s : State) (n : Nat) (hk0 : Keeps b0 s) : Keeps b0 (pinsOpen s n) := by
  unfold pinsOpen
  simp (maxDischargeDepth := 100) (contextual := true) [*]

@[simp] theorem pullAbort_keeps {b0 : State} (s : State) (n : Nat) (hk0 : Keeps b0 s) : Keeps b0 (pullAbort s n) := by
  unfold pullAbort
  simp (maxDischargeDepth := 100) (contextual := true) [*]

theorem execCcOpen_keeps {b0 : State} (n : Nat) (s : State) (hk0 : Keeps b0 s) : KeepsR b0 (execCcOpen n s) := by
  unfold execCcOpen
  exact act_keeps _ _ hk0 (fun s hk0 => by simp (maxDischargeDepth := 100) (contextual := true) [*])

theorem execDetachCancelled_keeps {b0 : State} (n cc1 cc2 : Nat) (s : State) (hk0 : Keeps b0 s) : KeepsR b0 (execDetachCancelled n cc1 cc2 s) := by
  unfold execDetachCancelled
  exact act_keeps _ _ hk0 (fun s hk0 => by simp (maxDischargeDepth := 100) (contextual := true) [*])

theorem execTpddebounceEnd_keeps {b0 : State} (n : Nat) (s : State) (hk0 : Keeps b0 s) : KeepsR b0 (execTpddebounceEnd n s) := by
  unfold execTpddebounceEnd
  exact act_keeps _ _ hk0 (fun s hk0 => by simp (maxDischargeDepth := 100) (contextual := true) [*])

theorem execDetachReported_keeps {b0 : State} (n : Nat) (s : State) (hk0 : Keeps b0 s) : KeepsR b0 (execDetachReported n s) := by
  unfold execDetachReported
  exact act_keeps _ _ hk0 (fun s hk0 => by simp (maxDischargeDepth := 100) (contextual := true) [*])

theorem execMoistureRetest_keeps {b0 : State} (n : Nat) (s : State) (hk0 : Keeps b0 s) : KeepsR b0 (execMoistureRetest n s) := by
  unfold execMoistureRetest
  exact act_keeps _ _ hk0 (fun s hk0 => by simp (maxDischargeDepth := 100) (contextual := true) [*])

theorem execOverride_keeps {b0 : State} (n : Nat) (s : State) (hk0 : Keeps b0 s) : KeepsR b0 (execOverride n s) := by
  unfold execOverride
  exact act_keeps _ _ hk0 (fun s hk0 => by simp (maxDischargeDepth := 100) (contextual := true) [*])

theorem execRecheck_keeps {b0 : State} (n : Nat) (s : State) (hk0 : Keeps b0 s) : KeepsR b0 (execRecheck n s) := by
  unfold execRecheck
  exact act_keeps _ _ hk0 (fun s hk0 => by simp (maxDischargeDepth := 100) (contextual := true) [*])

theorem execCradleWrite_keeps {b0 : State} (n v : Nat) (s : State) (hk0 : Keeps b0 s) : KeepsR b0 (execCradleWrite n v s) := by
  unfold execCradleWrite
  exact act_keeps _ _ hk0 (fun s hk0 => by simp (maxDischargeDepth := 100) (contextual := true) [*])

theorem execVconnTrip_keeps {b0 : State} (n : Nat) (s : State) (hk0 : Keeps b0 s) : KeepsR b0 (execVconnTrip n s) := by
  unfold execVconnTrip
  exact act_keeps _ _ hk0 (fun s hk0 => by simp (maxDischargeDepth := 100) (contextual := true) [*])

theorem execSbuOvervoltage_keeps {b0 : State} (n : Nat) (s : State) (hk0 : Keeps b0 s) : KeepsR b0 (execSbuOvervoltage n s) := by
  unfold execSbuOvervoltage
  exact act_keeps _ _ hk0 (fun s hk0 => by simp (maxDischargeDepth := 100) (contextual := true) [*])

theorem execDrpToggle_keeps {b0 : State} (u : Nat) (s : State) (hk0 : Keeps b0 s) : KeepsR b0 (execDrpToggle u s) := by
  unfold execDrpToggle
  exact act_keeps _ _ hk0 (fun s hk0 => by simp (maxDischargeDepth := 100) (contextual := true) [*])

end Machine

end Sys2Proof
end

