-- ==== Sys2Proof/Laws/KeepsClock.lean ====
section
/-!
SUPPORT. Keeps, for the operations of Clock.lean.
-/

namespace Sys2Proof

namespace Machine

namespace State

@[simp] theorem portLost_keeps {b0 : State} (s : State) (k : Nat) (hk0 : Keeps b0 s) : Keeps b0 (portLost s k) := by
  unfold portLost
  first
    | (simp (maxDischargeDepth := 100) (contextual := true) [*]; done)
    | (apply Keeps.of_eq hk0 <;> with_reducible rfl)
    | (try dsimp only
       repeat' split
       all_goals first | with_reducible assumption | simp (maxDischargeDepth := 100) (contextual := true) [*])

@[simp] theorem dieLost_keeps {b0 : State} (s : State) (d : Nat) (hk0 : Keeps b0 s) : Keeps b0 (dieLost s d) := by
  unfold dieLost
  simp (maxDischargeDepth := 100) (contextual := true) [*]

@[simp] theorem presentOwn_keeps {b0 : State} (s : State) (u l : Nat) (here : Bool) (hk0 : Keeps b0 s) : Keeps b0 (presentOwn s u l here) := by
  unfold presentOwn
  simp (maxDischargeDepth := 100) (contextual := true) [*]

@[simp] theorem recauseHidden_keeps {b0 : State} (s : State) (n : Nat) (hk0 : Keeps b0 s) : Keeps b0 (recauseHidden s n) := by
  unfold recauseHidden
  simp (maxDischargeDepth := 100) (contextual := true) [*]

@[simp] theorem hideInvalid_keeps {b0 : State} (s : State) (u : Nat) (hk0 : Keeps b0 s) : Keeps b0 (hideInvalid s u) := by
  unfold hideInvalid
  try dsimp only
  repeat' (first | with_reducible assumption | (simp (maxDischargeDepth := 100) (contextual := true) [*]; done) | refine Keeps.ite _ ?_ ?_ | refine Keeps.foldl _ _ (fun s a hk0 => ?_) ?_ | split)

@[simp] theorem applyHubs_keeps {b0 : State} (s : State) (u : Nat) (hk0 : Keeps b0 s) : Keeps b0 (applyHubs s u) := by
  unfold applyHubs
  simp (maxDischargeDepth := 100) (contextual := true) [*]

@[simp] theorem applyMgmt_keeps {b0 : State} (s : State) (u : Nat) (hk0 : Keeps b0 s) : Keeps b0 (applyMgmt s u) := by
  unfold applyMgmt
  simp (maxDischargeDepth := 100) (contextual := true) [*]

@[simp] theorem retryHidden_keeps {b0 : State} (s : State) (n : Nat) (hk0 : Keeps b0 s) : Keeps b0 (retryHidden s n) := by
  unfold retryHidden
  first
    | (simp (maxDischargeDepth := 100) (contextual := true) [*]; done)
    | (apply Keeps.of_eq hk0 <;> with_reducible rfl)
    | (try dsimp only
       repeat' split
       all_goals first | with_reducible assumption | simp (maxDischargeDepth := 100) (contextual := true) [*])

@[simp] theorem applyMoves_keeps {b0 : State} (s : State) (u : Nat) (hk0 : Keeps b0 s) : Keeps b0 (applyMoves s u) := by
  unfold applyMoves
  simp (maxDischargeDepth := 100) (contextual := true) [*]

@[simp] theorem applyEgress_keeps {b0 : State} (s : State) (x : Nat) (hk0 : Keeps b0 s) : Keeps b0 (applyEgress s x) := by
  unfold applyEgress
  simp (maxDischargeDepth := 100) (contextual := true) [*]

@[simp] theorem applyPort_keeps {b0 : State} (s : State) (n : Nat) (hk0 : Keeps b0 s) : Keeps b0 (applyPort s n) := by
  unfold applyPort
  simp (maxDischargeDepth := 100) (contextual := true) [*]

@[simp] theorem applyEps_keeps {b0 : State} (s : State) (t : Option Nat) (hk0 : Keeps b0 s) : Keeps b0 (applyEps s t) := by
  unfold applyEps
  simp (maxDischargeDepth := 100) (contextual := true) [*]

@[simp] theorem applyUpPolicers_keeps {b0 : State} (s : State) (u : Nat) (hk0 : Keeps b0 s) : Keeps b0 (applyUpPolicers s u) := by
  unfold applyUpPolicers
  simp (maxDischargeDepth := 100) (contextual := true) [*]

@[simp] theorem applyGroups_keeps {b0 : State} (s : State) (here : Grp → Bool) (hk0 : Keeps b0 s) : Keeps b0 (applyGroups s here) := by
  unfold applyGroups
  simp (maxDischargeDepth := 100) (contextual := true) [*]

@[simp] theorem frameStart_keeps {b0 : State} (s : State) (u : Nat) (hk0 : Keeps b0 s) : Keeps b0 (frameStart s u) := by
  unfold frameStart
  try dsimp only
  repeat' (first | with_reducible assumption | (simp (maxDischargeDepth := 100) (contextual := true) [*]; done) | refine Keeps.ite _ ?_ ?_ | refine Keeps.foldl _ _ (fun s a hk0 => ?_) ?_ | split)

@[simp] theorem applySlots_keeps {b0 : State} (s : State) (u : Nat) (hk0 : Keeps b0 s) : Keeps b0 (applySlots s u) := by
  unfold applySlots
  simp (maxDischargeDepth := 100) (contextual := true) [*]

@[simp] theorem ttBoundary_keeps {b0 : State} (s : State) (n now : Nat) (frame : Bool) (hk0 : Keeps b0 s) : Keeps b0 (ttBoundary s n now frame) := by
  unfold ttBoundary
  simp (maxDischargeDepth := 100) (contextual := true) [*]

@[simp] theorem mfStep_keeps {b0 : State} (s : State) (u : Nat) (hk0 : Keeps b0 s) : Keeps b0 (mfStep s u) := by
  unfold mfStep
  simp (maxDischargeDepth := 100) (contextual := true) [*]

@[simp] theorem boundary_keeps {b0 : State} (s : State) (u : Nat) (hk0 : Keeps b0 s) : Keeps b0 (boundary s u) := by
  unfold boundary
  simp (maxDischargeDepth := 100) (contextual := true) [*]

@[simp] theorem tbTick_keeps {b0 : State} (s : State) (hk0 : Keeps b0 s) : Keeps b0 (tbTick s) := by
  unfold tbTick
  simp (maxDischargeDepth := 100) (contextual := true) [*]

@[simp] theorem levelsTick_keeps {b0 : State} (s : State) (hk0 : Keeps b0 s) : Keeps b0 (levelsTick s) := by
  unfold levelsTick
  simp (maxDischargeDepth := 100) (contextual := true) [*]

@[simp] theorem rootGone_keeps {b0 : State} (s : State) (hk0 : Keeps b0 s) : Keeps b0 (rootGone s) := by
  unfold rootGone
  simp (maxDischargeDepth := 100) (contextual := true) [*]


end State

open State

theorem execPaLinkLoss_keeps {b0 : State} (d : Nat) (s : State) (hk0 : Keeps b0 s) : KeepsR b0 (execPaLinkLoss d s) := by
  unfold execPaLinkLoss
  exact act_keeps _ _ hk0 (fun s hk0 => by simp (maxDischargeDepth := 100) (contextual := true) [*])

theorem execRootClockLoss_keeps {b0 : State} (s : State) (hk0 : Keeps b0 s) : KeepsR b0 (execRootClockLoss s) := by
  unfold execRootClockLoss
  exact act_keeps _ _ hk0 (fun s hk0 => by simp (maxDischargeDepth := 100) (contextual := true) [*])

theorem execPllUnlock_keeps {b0 : State} (s : State) (hk0 : Keeps b0 s) : KeepsR b0 (execPllUnlock s) := by
  unfold execPllUnlock
  exact act_keeps _ _ hk0 (fun s hk0 => by simp (maxDischargeDepth := 100) (contextual := true) [*])

theorem execSofReceived_keeps {b0 : State} (u frame : Nat) (s : State) (hk0 : Keeps b0 s) : KeepsR b0 (execSofReceived u frame s) := by
  unfold execSofReceived
  exact act_keeps _ _ hk0 (fun s hk0 => by simp (maxDischargeDepth := 100) (contextual := true) [*])

theorem execMicroframeBoundary_keeps {b0 : State} (u : Nat) (s : State) (hk0 : Keeps b0 s) : KeepsR b0 (execMicroframeBoundary u s) := by
  unfold execMicroframeBoundary
  exact act_keeps _ _ hk0 (fun s hk0 => by simp (maxDischargeDepth := 100) (contextual := true) [*])

theorem execTbTick125us_keeps {b0 : State} (s : State) (hk0 : Keeps b0 s) : KeepsR b0 (execTbTick125us s) := by
  unfold execTbTick125us
  exact act_keeps _ _ hk0 (fun s hk0 => by simp (maxDischargeDepth := 100) (contextual := true) [*])

theorem execShaperTickUpdate_keeps {b0 : State} (s : State) (hk0 : Keeps b0 s) : KeepsR b0 (execShaperTickUpdate s) := by
  unfold execShaperTickUpdate
  first
    | refine act_keeps _ _ hk0 (fun s hk0 => ?_)
    | refine tcAct_keeps _ _ _ hk0 (fun s hk0 => ?_)
    | refine KeepsR.next ?_
  try dsimp only
  repeat' (first | with_reducible assumption | (simp (maxDischargeDepth := 100) (contextual := true) [*]; done) | refine Keeps.ite _ ?_ ?_ | refine Keeps.foldl _ _ (fun s a hk0 => ?_) ?_ | split)

theorem execOneMsTick_keeps {b0 : State} (s : State) (hk0 : Keeps b0 s) : KeepsR b0 (execOneMsTick s) := by
  unfold execOneMsTick
  exact act_keeps _ _ hk0 (fun s hk0 => by simp (maxDischargeDepth := 100) (contextual := true) [*])

end Machine

end Sys2Proof
end

