-- ==== Sys2Proof/Laws/KeepsKclLink.lean ====
section
/-!
SUPPORT. Keeps, for the operations of KclLink.lean.
-/

namespace Sys2Proof

namespace Machine

namespace State

@[simp] theorem atK_keeps {b0 : State} (s : State) (u : Nat) (f : State → State) (hk0 : Keeps b0 s) (hf : ∀ s, Keeps b0 s → Keeps b0 (f s)) : Keeps b0 (atK s u f) := by
  unfold atK
  simp (maxDischargeDepth := 100) (contextual := true) [*]

@[simp] theorem setLst_keeps {b0 : State} (s : State) (u v : Nat) (hk0 : Keeps b0 s) : Keeps b0 (setLst s u v) := by
  unfold setLst
  simp (maxDischargeDepth := 100) (contextual := true) [*]

@[simp] theorem linkFrame_keeps {b0 : State} (s : State) (u lcode : Nat) (args : List Nat) (hk0 : Keeps b0 s) : Keeps b0 (linkFrame s u lcode args) := by
  unfold linkFrame
  simp (maxDischargeDepth := 100) (contextual := true) [*]

@[simp] theorem mgmtOn_keeps {b0 : State} (s : State) (u mcode dest hops : Nat) (body : List Nat) (hk0 : Keeps b0 s) : Keeps b0 (mgmtOn s u mcode dest hops body) := by
  unfold mgmtOn
  simp (maxDischargeDepth := 100) (contextual := true) [*]

@[simp] theorem mgmtFlood_keeps {b0 : State} (s : State) (except_ mcode hops : Nat) (body : List Nat) (hk0 : Keeps b0 s) : Keeps b0 (mgmtFlood s except_ mcode hops body) := by
  unfold mgmtFlood
  simp (maxDischargeDepth := 100) (contextual := true) [*]

@[simp] theorem kPumpTx_keeps {b0 : State} (s : State) (u fuel : Nat) (hk0 : Keeps b0 s) : Keeps b0 (kPumpTx s u fuel) := by
  revert hk0
  fun_induction kPumpTx s u fuel <;> intro hk0 <;> first | with_reducible assumption | (simp (maxDischargeDepth := 100) (contextual := true) [*]; done) | simp_all (maxDischargeDepth := 100) (contextual := true)

@[simp] theorem kFlush_keeps {b0 : State} (s : State) (u : Nat) (hk0 : Keeps b0 s) : Keeps b0 (kFlush s u) := by
  unfold kFlush
  simp (maxDischargeDepth := 100) (contextual := true) [*]

@[simp] theorem kForward_keeps {b0 : State} (s : State) (u : Nat) (f : KFrame) (hk0 : Keeps b0 s) : Keeps b0 (kForward s u f) := by
  unfold kForward
  first
    | (simp (maxDischargeDepth := 100) (contextual := true) [*]; done)
    | (apply Keeps.of_eq hk0 <;> with_reducible rfl)
    | (try dsimp only
       repeat' split
       all_goals first | with_reducible assumption | simp (maxDischargeDepth := 100) (contextual := true) [*])

@[simp] theorem kAccept_keeps {b0 : State} (s : State) (u seq vc len : Nat) (f : State → State) (hk0 : Keeps b0 s) (hf : ∀ s, Keeps b0 s → Keeps b0 (f s)) : Keeps b0 (kAccept s u seq vc len f) := by
  unfold kAccept
  simp (maxDischargeDepth := 100) (contextual := true) [*]

@[simp] theorem modRoutes_keeps {b0 : State} (s : State) (f : List RouteE → List RouteE) (hk0 : Keeps b0 s) : Keeps b0 (modRoutes s f) := by
  unfold modRoutes
  simp (maxDischargeDepth := 100) (contextual := true) [*]

@[simp] theorem routeFlood_keeps {b0 : State} (s : State) (hk0 : Keeps b0 s) : Keeps b0 (routeFlood s) := by
  unfold routeFlood
  simp (maxDischargeDepth := 100) (contextual := true) [*]

@[simp] theorem presSuspend_keeps {b0 : State} (s : State) (n cause : Nat) (hk0 : Keeps b0 s) : Keeps b0 (presSuspend s n cause) := by
  unfold presSuspend
  simp (maxDischargeDepth := 100) (contextual := true) [*]

@[simp] theorem presReturn_keeps {b0 : State} (s : State) (n : Nat) (hk0 : Keeps b0 s) : Keeps b0 (presReturn s n) := by
  unfold presReturn
  simp (maxDischargeDepth := 100) (contextual := true) [*]

@[simp] theorem ownerBudget_keeps {b0 : State} (s : State) (n : Nat) (hk0 : Keeps b0 s) : Keeps b0 (ownerBudget s n) := by
  unfold ownerBudget
  first
    | (simp (maxDischargeDepth := 100) (contextual := true) [*]; done)
    | (apply Keeps.of_eq hk0 <;> with_reducible rfl)
    | (try dsimp only
       repeat' split
       all_goals first | with_reducible assumption | simp (maxDischargeDepth := 100) (contextual := true) [*])

@[simp] theorem slotBudget_keeps {b0 : State} (s : State) (i : Nat) (hk0 : Keeps b0 s) : Keeps b0 (slotBudget s i) := by
  unfold slotBudget
  simp (maxDischargeDepth := 100) (contextual := true) [*]

@[simp] theorem budgetCheck_keeps {b0 : State} (s : State) (hk0 : Keeps b0 s) : Keeps b0 (budgetCheck s) := by
  unfold budgetCheck
  simp (maxDischargeDepth := 100) (contextual := true) [*]

@[simp] theorem lossFrames_keeps {b0 : State} (s : State) (u : Nat) (l : List Nat) (fuel : Nat) (hk0 : Keeps b0 s) : Keeps b0 (lossFrames s u l fuel) := by
  revert hk0
  fun_induction lossFrames s u l fuel <;> intro hk0 <;> first | with_reducible assumption | (simp (maxDischargeDepth := 100) (contextual := true) [*]; done) | simp_all (maxDischargeDepth := 100) (contextual := true)

@[simp] theorem sendLoss_keeps {b0 : State} (s : State) (except_ : Nat) (l : List Nat) (hk0 : Keeps b0 s) : Keeps b0 (sendLoss s except_ l) := by
  unfold sendLoss
  simp (maxDischargeDepth := 100) (contextual := true) [*]

@[simp] theorem leaveUp_keeps {b0 : State} (s : State) (u v : Nat) (hk0 : Keeps b0 s) : Keeps b0 (leaveUp s u v) := by
  unfold leaveUp
  simp (maxDischargeDepth := 100) (contextual := true) [*]

@[simp] theorem retrain_keeps {b0 : State} (s : State) (u : Nat) (hk0 : Keeps b0 s) : Keeps b0 (retrain s u) := by
  unfold retrain
  simp (maxDischargeDepth := 100) (contextual := true) [*]

@[simp] theorem allLinks_keeps {b0 : State} (s : State) (v : Nat) (hk0 : Keeps b0 s) : Keeps b0 (allLinks s v) := by
  unfold allLinks
  simp (maxDischargeDepth := 100) (contextual := true) [*]

@[simp] theorem idNote_keeps {b0 : State} (s old : State) (hk0 : Keeps b0 s) : Keeps b0 (idNote s old) := by
  unfold idNote
  simp (maxDischargeDepth := 100) (contextual := true) [*]

@[simp] theorem takeId_keeps {b0 : State} (s : State) (id : Nat) (hk0 : Keeps b0 s) : Keeps b0 (takeId s id) := by
  unfold takeId
  simp (maxDischargeDepth := 100) (contextual := true) [*]

@[simp] theorem askId_keeps {b0 : State} (s : State) (hk0 : Keeps b0 s) : Keeps b0 (askId s) := by
  unfold askId
  simp (maxDischargeDepth := 100) (contextual := true) [*]

@[simp] theorem noId_keeps {b0 : State} (s : State) (st cause : Nat) (hk0 : Keeps b0 s) : Keeps b0 (noId s st cause) := by
  unfold noId
  simp (maxDischargeDepth := 100) (contextual := true) [*]

@[simp] theorem holdId_keeps {b0 : State} (s : State) (id die : Nat) (hk0 : Keeps b0 s) : Keeps b0 (holdId s id die) := by
  unfold holdId
  simp (maxDischargeDepth := 100) (contextual := true) [*]

@[simp] theorem becomeRoot_keeps {b0 : State} (s : State) (hk0 : Keeps b0 s) : Keeps b0 (becomeRoot s) := by
  unfold becomeRoot
  simp (maxDischargeDepth := 100) (contextual := true) [*]

@[simp] theorem announce_keeps {b0 : State} (s : State) (except_ : Nat) (hk0 : Keeps b0 s) : Keeps b0 (announce s except_) := by
  unfold announce
  first
    | (simp (maxDischargeDepth := 100) (contextual := true) [*]; done)
    | (apply Keeps.of_eq hk0 <;> with_reducible rfl)
    | (try dsimp only
       repeat' split
       all_goals first | with_reducible assumption | simp (maxDischargeDepth := 100) (contextual := true) [*])

@[simp] theorem becomeLink_keeps {b0 : State} (s : State) (u v : Nat) (hk0 : Keeps b0 s) : Keeps b0 (becomeLink s u v) := by
  unfold becomeLink
  simp (maxDischargeDepth := 100) (contextual := true) [*]

@[simp] theorem usbStart_keeps {b0 : State} (s : State) (u : Nat) (hk0 : Keeps b0 s) : Keeps b0 (usbStart s u) := by
  unfold usbStart
  simp (maxDischargeDepth := 100) (contextual := true) [*]

@[simp] theorem wrUcfg_keeps {b0 : State} (s : State) (u v : Nat) (hk0 : Keeps b0 s) : Keeps b0 (wrUcfg s u v) := by
  unfold wrUcfg
  simp (maxDischargeDepth := 100) (contextual := true) [*]


end State

open State

theorem execKclAutoDetect_keeps {b0 : State} (u : Nat) (s : State) (hk0 : Keeps b0 s) : KeepsR b0 (execKclAutoDetect u s) := by
  unfold execKclAutoDetect
  exact act_keeps _ _ hk0 (fun s hk0 => by simp (maxDischargeDepth := 100) (contextual := true) [*])

theorem execKclTerminationDetect_keeps {b0 : State} (u : Nat) (s : State) (hk0 : Keeps b0 s) : KeepsR b0 (execKclTerminationDetect u s) := by
  unfold execKclTerminationDetect
  exact act_keeps _ _ hk0 (fun s hk0 => by simp (maxDischargeDepth := 100) (contextual := true) [*])

theorem execKclPollLock_keeps {b0 : State} (u : Nat) (s : State) (hk0 : Keeps b0 s) : KeepsR b0 (execKclPollLock u s) := by
  unfold execKclPollLock
  exact act_keeps _ _ hk0 (fun s hk0 => by simp (maxDischargeDepth := 100) (contextual := true) [*])

theorem execKclConfigDone_keeps {b0 : State} (u : Nat) (swap : Bool) (ver peerLink : Nat) (hasId : Bool) (peerChip peerDie : Nat) (s : State) (hk0 : Keeps b0 s) : KeepsR b0 (execKclConfigDone u swap ver peerLink hasId peerChip peerDie s) := by
  unfold execKclConfigDone
  exact act_keeps _ _ hk0 (fun s hk0 => by simp (maxDischargeDepth := 100) (contextual := true) [*])

theorem execKclTrainTimeout_keeps {b0 : State} (u : Nat) (oneLane : Bool) (s : State) (hk0 : Keeps b0 s) : KeepsR b0 (execKclTrainTimeout u oneLane s) := by
  unfold execKclTrainTimeout
  exact act_keeps _ _ hk0 (fun s hk0 => by simp (maxDischargeDepth := 100) (contextual := true) [*])

theorem execKclTrainRetry_keeps {b0 : State} (u : Nat) (s : State) (hk0 : Keeps b0 s) : KeepsR b0 (execKclTrainRetry u s) := by
  unfold execKclTrainRetry
  exact act_keeps _ _ hk0 (fun s hk0 => by simp (maxDischargeDepth := 100) (contextual := true) [*])

theorem execLack_keeps {b0 : State} (u seq : Nat) (s : State) (hk0 : Keeps b0 s) : KeepsR b0 (execLack u seq s) := by
  unfold execLack
  first
    | refine act_keeps _ _ hk0 (fun s hk0 => ?_)
    | refine tcAct_keeps _ _ _ hk0 (fun s hk0 => ?_)
    | refine KeepsR.next ?_
  refine atK_keeps _ _ _ hk0 (fun s hk0 => ?_)
  first
    | (simp (maxDischargeDepth := 100) (contextual := true) [*]; done)
    | (try dsimp only
       repeat' split
       all_goals first | with_reducible assumption | simp (maxDischargeDepth := 100) (contextual := true) [*])

theorem execLnak_keeps {b0 : State} (u seq : Nat) (s : State) (hk0 : Keeps b0 s) : KeepsR b0 (execLnak u seq s) := by
  unfold execLnak
  exact act_keeps _ _ hk0 (fun s hk0 => by simp (maxDischargeDepth := 100) (contextual := true) [*])

theorem execCredit_keeps {b0 : State} (u vc n : Nat) (s : State) (hk0 : Keeps b0 s) : KeepsR b0 (execCredit u vc n s) := by
  unfold execCredit
  exact act_keeps _ _ hk0 (fun s hk0 => by simp (maxDischargeDepth := 100) (contextual := true) [*])

theorem execKeepalive_keeps {b0 : State} (_u : Nat) (s : State) (hk0 : Keeps b0 s) : KeepsR b0 (execKeepalive _u s) := by
  unfold execKeepalive
  exact act_keeps _ _ hk0 (fun s hk0 => by simp (maxDischargeDepth := 100) (contextual := true) [*])

theorem execProbe_keeps {b0 : State} (u tb : Nat) (s : State) (hk0 : Keeps b0 s) : KeepsR b0 (execProbe u tb s) := by
  unfold execProbe
  exact act_keeps _ _ hk0 (fun s hk0 => by simp (maxDischargeDepth := 100) (contextual := true) [*])

theorem execProbeEcho_keeps {b0 : State} (u tb rtt : Nat) (s : State) (hk0 : Keeps b0 s) : KeepsR b0 (execProbeEcho u tb rtt s) := by
  unfold execProbeEcho
  exact act_keeps _ _ hk0 (fun s hk0 => by simp (maxDischargeDepth := 100) (contextual := true) [*])

theorem execFrameError_keeps {b0 : State} (u : Nat) (unknown : Bool) (seq vc len : Nat) (s : State) (hk0 : Keeps b0 s) : KeepsR b0 (execFrameError u unknown seq vc len s) := by
  unfold execFrameError
  exact act_keeps _ _ hk0 (fun s hk0 => by simp (maxDischargeDepth := 100) (contextual := true) [*])

theorem execLackTimer_keeps {b0 : State} (u : Nat) (s : State) (hk0 : Keeps b0 s) : KeepsR b0 (execLackTimer u s) := by
  unfold execLackTimer
  exact act_keeps _ _ hk0 (fun s hk0 => by simp (maxDischargeDepth := 100) (contextual := true) [*])

theorem execCreditTimer_keeps {b0 : State} (u : Nat) (s : State) (hk0 : Keeps b0 s) : KeepsR b0 (execCreditTimer u s) := by
  unfold execCreditTimer
  exact act_keeps _ _ hk0 (fun s hk0 => by simp (maxDischargeDepth := 100) (contextual := true) [*])

theorem execKeepaliveTimer_keeps {b0 : State} (u : Nat) (s : State) (hk0 : Keeps b0 s) : KeepsR b0 (execKeepaliveTimer u s) := by
  unfold execKeepaliveTimer
  exact act_keeps _ _ hk0 (fun s hk0 => by simp (maxDischargeDepth := 100) (contextual := true) [*])

theorem execKclLinkLoss_keeps {b0 : State} (u : Nat) (s : State) (hk0 : Keeps b0 s) : KeepsR b0 (execKclLinkLoss u s) := by
  unfold execKclLinkLoss
  exact act_keeps _ _ hk0 (fun s hk0 => by simp (maxDischargeDepth := 100) (contextual := true) [*])

theorem execProbeTimer_keeps {b0 : State} (u : Nat) (s : State) (hk0 : Keeps b0 s) : KeepsR b0 (execProbeTimer u s) := by
  unfold execProbeTimer
  exact act_keeps _ _ hk0 (fun s hk0 => by simp (maxDischargeDepth := 100) (contextual := true) [*])

theorem execRouteFrame_keeps {b0 : State} (u seq origin rseq hops lat : Nat) (s : State) (hk0 : Keeps b0 s) : KeepsR b0 (execRouteFrame u seq origin rseq hops lat s) := by
  unfold execRouteFrame
  exact act_keeps _ _ hk0 (fun s hk0 => by simp (maxDischargeDepth := 100) (contextual := true) [*])

theorem execRouteLoss_keeps {b0 : State} (u seq : Nat) (origins : List Nat) (s : State) (hk0 : Keeps b0 s) : KeepsR b0 (execRouteLoss u seq origins s) := by
  unfold execRouteLoss
  exact act_keeps _ _ hk0 (fun s hk0 => by simp (maxDischargeDepth := 100) (contextual := true) [*])

theorem execRouteFloodTimer_keeps {b0 : State} (s : State) (hk0 : Keeps b0 s) : KeepsR b0 (execRouteFloodTimer s) := by
  unfold execRouteFloodTimer
  exact act_keeps _ _ hk0 (fun s hk0 => by simp (maxDischargeDepth := 100) (contextual := true) [*])

theorem execRouteEntryExpiry_keeps {b0 : State} (origin u : Nat) (s : State) (hk0 : Keeps b0 s) : KeepsR b0 (execRouteEntryExpiry origin u s) := by
  unfold execRouteEntryExpiry
  exact act_keeps _ _ hk0 (fun s hk0 => by simp (maxDischargeDepth := 100) (contextual := true) [*])

theorem execRootFrame_keeps {b0 : State} (u seq die rid : Nat) (s : State) (hk0 : Keeps b0 s) : KeepsR b0 (execRootFrame u seq die rid s) := by
  unfold execRootFrame
  exact act_keeps _ _ hk0 (fun s hk0 => by simp (maxDischargeDepth := 100) (contextual := true) [*])

theorem execRootAnnounceTimer_keeps {b0 : State} (s : State) (hk0 : Keeps b0 s) : KeepsR b0 (execRootAnnounceTimer s) := by
  unfold execRootAnnounceTimer
  exact act_keeps _ _ hk0 (fun s hk0 => by simp (maxDischargeDepth := 100) (contextual := true) [*])

theorem execRootLost_keeps {b0 : State} (s : State) (hk0 : Keeps b0 s) : KeepsR b0 (execRootLost s) := by
  unfold execRootLost
  exact act_keeps _ _ hk0 (fun s hk0 => by simp (maxDischargeDepth := 100) (contextual := true) [*])

theorem execIdReq_keeps {b0 : State} (u seq die : Nat) (fixed : Bool) (want : Nat) (s : State) (hk0 : Keeps b0 s) : KeepsR b0 (execIdReq u seq die fixed want s) := by
  unfold execIdReq
  first
    | refine act_keeps _ _ hk0 (fun s hk0 => ?_)
    | refine tcAct_keeps _ _ _ hk0 (fun s hk0 => ?_)
    | refine KeepsR.next ?_
  refine kAccept_keeps _ _ _ _ _ _ hk0 (fun s hk0 => ?_)
  try dsimp only
  repeat' (first | with_reducible assumption | (simp (maxDischargeDepth := 100) (contextual := true) [*]; done) | refine Keeps.ite _ ?_ ?_ | refine Keeps.foldl _ _ (fun s a hk0 => ?_) ?_ | split)

@[simp] theorem relayBack_keeps {b0 : State} (s : State) (die mcode arg : Nat) (hk0 : Keeps b0 s) : Keeps b0 (relayBack s die mcode arg) := by
  unfold relayBack
  first
    | (simp (maxDischargeDepth := 100) (contextual := true) [*]; done)
    | (apply Keeps.of_eq hk0 <;> with_reducible rfl)
    | (try dsimp only
       repeat' split
       all_goals first | with_reducible assumption | simp (maxDischargeDepth := 100) (contextual := true) [*])

theorem execIdGrant_keeps {b0 : State} (u seq die id : Nat) (s : State) (hk0 : Keeps b0 s) : KeepsR b0 (execIdGrant u seq die id s) := by
  unfold execIdGrant
  exact act_keeps _ _ hk0 (fun s hk0 => by simp (maxDischargeDepth := 100) (contextual := true) [*])

theorem execIdClaim_keeps {b0 : State} (u seq dest die id : Nat) (s : State) (hk0 : Keeps b0 s) : KeepsR b0 (execIdClaim u seq dest die id s) := by
  unfold execIdClaim
  exact act_keeps _ _ hk0 (fun s hk0 => by simp (maxDischargeDepth := 100) (contextual := true) [*])

theorem execIdRefuse_keeps {b0 : State} (u seq die cause : Nat) (s : State) (hk0 : Keeps b0 s) : KeepsR b0 (execIdRefuse u seq die cause s) := by
  unfold execIdRefuse
  exact act_keeps _ _ hk0 (fun s hk0 => by simp (maxDischargeDepth := 100) (contextual := true) [*])

theorem execIdClaimTimer_keeps {b0 : State} (s : State) (hk0 : Keeps b0 s) : KeepsR b0 (execIdClaimTimer s) := by
  unfold execIdClaimTimer
  exact act_keeps _ _ hk0 (fun s hk0 => by simp (maxDischargeDepth := 100) (contextual := true) [*])

theorem execIdFreeTimeout_keeps {b0 : State} (id : Nat) (s : State) (hk0 : Keeps b0 s) : KeepsR b0 (execIdFreeTimeout id s) := by
  unfold execIdFreeTimeout
  exact act_keeps _ _ hk0 (fun s hk0 => by simp (maxDischargeDepth := 100) (contextual := true) [*])

theorem execIdReqRetry_keeps {b0 : State} (s : State) (hk0 : Keeps b0 s) : KeepsR b0 (execIdReqRetry s) := by
  unfold execIdReqRetry
  exact act_keeps _ _ hk0 (fun s hk0 => by simp (maxDischargeDepth := 100) (contextual := true) [*])

end Machine

end Sys2Proof
end

