-- ==== Sys2Proof/Laws/KeepsKcl.lean ====
section
/-!
SUPPORT. Keeps, for the operations of Kcl.lean.
-/

namespace Sys2Proof

namespace Machine

namespace State

@[simp] theorem modSlot_keeps {b0 : State} (s : State) (i : Nat) (f : Slot → Slot) (hk0 : Keeps b0 s) : Keeps b0 (modSlot s i f) := by
  unfold modSlot
  simp (maxDischargeDepth := 100) (contextual := true) [*]

@[simp] theorem slotGone_keeps {b0 : State} (s : State) (i : Nat) (hk0 : Keeps b0 s) : Keeps b0 (slotGone s i) := by
  unfold slotGone
  refine modKcl_keeps _ _ ?_
  apply Keeps.of_eq hk0 <;> with_reducible rfl

@[simp] theorem freeSlot_keeps {b0 : State} (s : State) (i : Nat) (hk0 : Keeps b0 s) : Keeps b0 (freeSlot s i) := by
  unfold freeSlot
  first
    | (simp (maxDischargeDepth := 100) (contextual := true) [*]; done)
    | (apply Keeps.of_eq hk0 <;> with_reducible rfl)
    | (try dsimp only
       repeat' split
       all_goals first | with_reducible assumption | simp (maxDischargeDepth := 100) (contextual := true) [*])

@[simp] theorem presReply_keeps {b0 : State} (s : State) (c op port arg : Nat) (hk0 : Keeps b0 s) : Keeps b0 (presReply s c op port arg) := by
  unfold presReply
  simp (maxDischargeDepth := 100) (contextual := true) [*]

@[simp] theorem presAccept_keeps {b0 : State} (s : State) (c port u h l lat : Nat) (ss : Bool) (hk0 : Keeps b0 s) : Keeps b0 (presAccept s c port u h l lat ss) := by
  unfold presAccept
  extract_lets s1_ s2_
  have hs1_ : Keeps b0 s1_ := by
        unfold s1_
        first | (simp (maxDischargeDepth := 100) (contextual := true) [*]; done) | (repeat' split) <;> first | with_reducible assumption | simp (maxDischargeDepth := 100) (contextual := true) [*]
  have hs2_ : Keeps b0 s2_ := by
        unfold s2_
        first | (simp (maxDischargeDepth := 100) (contextual := true) [*]; done) | (repeat' split) <;> first | with_reducible assumption | simp (maxDischargeDepth := 100) (contextual := true) [*]
  first | (simp (maxDischargeDepth := 100) (contextual := true) [*]; done) | (repeat' split) <;> first | with_reducible assumption | simp (maxDischargeDepth := 100) (contextual := true) [*]

@[simp] theorem portopIn_keeps {b0 : State} (s : State) (u seq dest : Nat) (args : List Nat) (f : State → State) (hk0 : Keeps b0 s) (hf : ∀ s, Keeps b0 s → Keeps b0 (f s)) : Keeps b0 (portopIn s u seq dest args f) := by
  unfold portopIn
  simp (maxDischargeDepth := 100) (contextual := true) [*]

@[simp] theorem treeEvtPort_keeps {b0 : State} (s : State) (ev n : Nat) (hk0 : Keeps b0 s) : Keeps b0 (treeEvtPort s ev n) := by
  unfold treeEvtPort
  extract_lets ss_ tree_
  first | (simp (maxDischargeDepth := 100) (contextual := true) [*]; done) | (repeat' split) <;> first | with_reducible assumption | simp (maxDischargeDepth := 100) (contextual := true) [*]

@[simp] theorem kDrop_keeps {b0 : State} (s : State) (u : Nat) (p : Packet) (hk0 : Keeps b0 s) : Keeps b0 (kDrop s u p) := by
  unfold kDrop
  simp (maxDischargeDepth := 100) (contextual := true) [*]

@[simp] theorem kToLink_keeps {b0 : State} (s : State) (u v : Nat) (p : Packet) (hk0 : Keeps b0 s) : Keeps b0 (kToLink s u v p) := by
  unfold kToLink
  simp (maxDischargeDepth := 100) (contextual := true) [*]

@[simp] theorem kMeter_keeps {b0 : State} (s : State) (u exit : Nat) (p : Packet) (hk0 : Keeps b0 s) : Keeps b0 (kMeter s u exit p).1 := by
  unfold kMeter
  simp (maxDischargeDepth := 100) (contextual := true) [*]

@[simp] theorem kTransit_keeps {b0 : State} (s : State) (u dest : Nat) (p : Packet) (hk0 : Keeps b0 s) : Keeps b0 (kTransit s u dest p) := by
  unfold kTransit
  first
    | (simp (maxDischargeDepth := 100) (contextual := true) [*]; done)
    | (apply Keeps.of_eq hk0 <;> with_reducible rfl)
    | (try dsimp only
       repeat' split
       all_goals first | with_reducible assumption | simp (maxDischargeDepth := 100) (contextual := true) [*])

@[simp] theorem toGroup_keeps {b0 : State} (s : State) (u c : Nat) (p : Packet) (hk0 : Keeps b0 s) : Keeps b0 (toGroup s u c p) := by
  unfold toGroup
  first
    | (simp (maxDischargeDepth := 100) (contextual := true) [*]; done)
    | (apply Keeps.of_eq hk0 <;> with_reducible rfl)
    | (try dsimp only
       repeat' split
       all_goals first | with_reducible assumption | simp (maxDischargeDepth := 100) (contextual := true) [*])

@[simp] theorem itpFromLink_keeps {b0 : State} (s : State) (u : Nat) (p : Packet) (hk0 : Keeps b0 s) : Keeps b0 (itpFromLink s u p) := by
  unfold itpFromLink
  simp (maxDischargeDepth := 100) (contextual := true) [*]

@[simp] theorem toOwned_keeps {b0 : State} (s : State) (u n : Nat) (p : Packet) (pseq : Nat) (hk0 : Keeps b0 s) : Keeps b0 (toOwned s u n p pseq) := by
  unfold toOwned
  simp (maxDischargeDepth := 100) (contextual := true) [*]

@[simp] theorem modProxy_keeps {b0 : State} (s : State) (j : Nat) (f : Proxy → Proxy) (hk0 : Keeps b0 s) : Keeps b0 (modProxy s j f) := by
  unfold modProxy
  simp (maxDischargeDepth := 100) (contextual := true) [*]

@[simp] theorem freeProxy_keeps {b0 : State} (s : State) (j : Nat) (hk0 : Keeps b0 s) : Keeps b0 (freeProxy s j) := by
  unfold freeProxy
  simp (maxDischargeDepth := 100) (contextual := true) [*]

@[simp] theorem proxySend_keeps {b0 : State} (s : State) (u i pk epn : Nat) (dirIn : Bool) (len : Nat) (args : List Nat) (hk0 : Keeps b0 s) : Keeps b0 (proxySend s u i pk epn dirIn len args) := by
  unfold proxySend
  first
    | (simp (maxDischargeDepth := 100) (contextual := true) [*]; done)
    | (apply Keeps.of_eq hk0 <;> with_reducible rfl)
    | (try dsimp only
       repeat' split
       all_goals first | with_reducible assumption | simp (maxDischargeDepth := 100) (contextual := true) [*])

@[simp] theorem proxyOpen_keeps {b0 : State} (s : State) (u : Nat) (p : Proxy) (dirIn : Bool) (len : Nat) (hk0 : Keeps b0 s) : Keeps b0 (proxyOpen s u p dirIn len).1 := by
  unfold proxyOpen
  simp (maxDischargeDepth := 100) (contextual := true) [*]

@[simp] theorem upAnswer_keeps {b0 : State} (s : State) (u : Nat) (sig : Usb2) (hk0 : Keeps b0 s) : Keeps b0 (upAnswer s u sig) := by
  unfold upAnswer
  simp (maxDischargeDepth := 100) (contextual := true) [*]

@[simp] theorem afterSetup_keeps {b0 : State} (s : State) (u i epn : Nat) (f : State → State) (hk0 : Keeps b0 s) (hf : ∀ s, Keeps b0 s → Keeps b0 (f s)) : Keeps b0 (afterSetup s u i epn f) := by
  unfold afterSetup
  first
    | (simp (maxDischargeDepth := 100) (contextual := true) [*]; done)
    | (apply Keeps.of_eq hk0 <;> with_reducible rfl)
    | (try dsimp only
       repeat' split
       all_goals first | with_reducible assumption | simp (maxDischargeDepth := 100) (contextual := true) [*])

@[simp] theorem proxyInToken_keeps {b0 : State} (s : State) (u i addr epn : Nat) (ack : Bool) (hk0 : Keeps b0 s) : Keeps b0 (proxyInToken s u i addr epn ack) := by
  unfold proxyInToken
  first
    | (simp (maxDischargeDepth := 100) (contextual := true) [*]; done)
    | (apply Keeps.of_eq hk0 <;> with_reducible rfl)
    | (try dsimp only
       repeat' split
       all_goals first | with_reducible assumption | simp (maxDischargeDepth := 100) (contextual := true) [*])

@[simp] theorem proxyOutToken_keeps {b0 : State} (s : State) (u i addr epn pid len : Nat) (ping : Bool) (hk0 : Keeps b0 s) : Keeps b0 (proxyOutToken s u i addr epn pid len ping) := by
  unfold proxyOutToken
  first
    | (simp (maxDischargeDepth := 100) (contextual := true) [*]; done)
    | (apply Keeps.of_eq hk0 <;> with_reducible rfl)
    | (try dsimp only
       repeat' split
       all_goals first | with_reducible assumption | simp (maxDischargeDepth := 100) (contextual := true) [*])

@[simp] theorem proxySetup_keeps {b0 : State} (s : State) (u i addr epn len : Nat) (hk0 : Keeps b0 s) : Keeps b0 (proxySetup s u i addr epn len) := by
  unfold proxySetup
  simp (maxDischargeDepth := 100) (contextual := true) [*]

@[simp] theorem proxyIsoIn_keeps {b0 : State} (s : State) (u i addr epn : Nat) (hk0 : Keeps b0 s) : Keeps b0 (proxyIsoIn s u i addr epn) := by
  unfold proxyIsoIn
  first
    | (simp (maxDischargeDepth := 100) (contextual := true) [*]; done)
    | (apply Keeps.of_eq hk0 <;> with_reducible rfl)
    | (try dsimp only
       repeat' split
       all_goals first | with_reducible assumption | simp (maxDischargeDepth := 100) (contextual := true) [*])

@[simp] theorem proxyStart_keeps {b0 : State} (s : State) (u i addr epn : Nat) (dirIn : Bool) (len : Nat) (per : Bool) (hk0 : Keeps b0 s) : Keeps b0 (proxyStart s u i addr epn dirIn len per) := by
  unfold proxyStart
  simp (maxDischargeDepth := 100) (contextual := true) [*]

@[simp] theorem proxyComplete_keeps {b0 : State} (s : State) (u i epn : Nat) (hk0 : Keeps b0 s) : Keeps b0 (proxyComplete s u i epn) := by
  unfold proxyComplete
  first
    | (simp (maxDischargeDepth := 100) (contextual := true) [*]; done)
    | (apply Keeps.of_eq hk0 <;> with_reducible rfl)
    | (try dsimp only
       repeat' split
       all_goals first | with_reducible assumption | simp (maxDischargeDepth := 100) (contextual := true) [*])

@[simp] theorem proxyResult_keeps {b0 : State} (s : State) (n kind epn : Nat) (dirIn : Bool) (pid res len : Nat) (hk0 : Keeps b0 s) : Keeps b0 (proxyResult s n kind epn dirIn pid res len) := by
  unfold proxyResult
  first
    | (simp (maxDischargeDepth := 100) (contextual := true) [*]; done)
    | (apply Keeps.of_eq hk0 <;> with_reducible rfl)
    | (try dsimp only
       repeat' split
       all_goals first | with_reducible assumption | simp (maxDischargeDepth := 100) (contextual := true) [*])

@[simp] theorem proxyArrive_keeps {b0 : State} (s : State) (gchip port epn : Nat) (dirIn toHost : Bool) (kind pid res len : Nat) (hk0 : Keeps b0 s) : Keeps b0 (proxyArrive s gchip port epn dirIn toHost kind pid res len) := by
  unfold proxyArrive
  first
    | (simp (maxDischargeDepth := 100) (contextual := true) [*]; done)
    | (apply Keeps.of_eq hk0 <;> with_reducible rfl)
    | (try dsimp only
       repeat' split
       all_goals first | with_reducible assumption | simp (maxDischargeDepth := 100) (contextual := true) [*])


end State

open State

theorem execPresReq_keeps {b0 : State} (u seq dest gchip port t h l : Nat) (own : OwnerPort) (s : State) (hk0 : Keeps b0 s) : KeepsR b0 (execPresReq u seq dest gchip port t h l own s) := by
  unfold execPresReq
  exact act_keeps _ _ hk0 (fun s hk0 => by simp (maxDischargeDepth := 100) (contextual := true) [*])

theorem execPresAck_keeps {b0 : State} (u seq dest n lat : Nat) (s : State) (hk0 : Keeps b0 s) : KeepsR b0 (execPresAck u seq dest n lat s) := by
  unfold execPresAck
  first
    | refine act_keeps _ _ hk0 (fun s hk0 => ?_)
    | refine tcAct_keeps _ _ _ hk0 (fun s hk0 => ?_)
    | refine KeepsR.next ?_
  refine portopIn_keeps _ _ _ _ _ _ hk0 (fun s hk0 => ?_)
  first
    | (simp (maxDischargeDepth := 100) (contextual := true) [*]; done)
    | (try dsimp only
       repeat' split
       all_goals first | with_reducible assumption | simp (maxDischargeDepth := 100) (contextual := true) [*])

theorem execPresNak_keeps {b0 : State} (u seq dest n cause : Nat) (s : State) (hk0 : Keeps b0 s) : KeepsR b0 (execPresNak u seq dest n cause s) := by
  unfold execPresNak
  exact act_keeps _ _ hk0 (fun s hk0 => by simp (maxDischargeDepth := 100) (contextual := true) [*])

theorem execPresEnd_keeps {b0 : State} (u seq dest gchip port : Nat) (s : State) (hk0 : Keeps b0 s) : KeepsR b0 (execPresEnd u seq dest gchip port s) := by
  unfold execPresEnd
  first
    | refine act_keeps _ _ hk0 (fun s hk0 => ?_)
    | refine tcAct_keeps _ _ _ hk0 (fun s hk0 => ?_)
    | refine KeepsR.next ?_
  refine portopIn_keeps _ _ _ _ _ _ hk0 (fun s hk0 => ?_)
  first
    | (simp (maxDischargeDepth := 100) (contextual := true) [*]; done)
    | (try dsimp only
       repeat' split
       all_goals first | with_reducible assumption | simp (maxDischargeDepth := 100) (contextual := true) [*])

theorem execPortSt_keeps {b0 : State} (u seq dest gchip port st speed ss chg : Nat) (wake : Bool) (s : State) (hk0 : Keeps b0 s) : KeepsR b0 (execPortSt u seq dest gchip port st speed ss chg wake s) := by
  unfold execPortSt
  first
    | refine act_keeps _ _ hk0 (fun s hk0 => ?_)
    | refine tcAct_keeps _ _ _ hk0 (fun s hk0 => ?_)
    | refine KeepsR.next ?_
  refine portopIn_keeps _ _ _ _ _ _ hk0 (fun s hk0 => ?_)
  first
    | (simp (maxDischargeDepth := 100) (contextual := true) [*]; done)
    | (try dsimp only
       repeat' split
       all_goals first | with_reducible assumption | simp (maxDischargeDepth := 100) (contextual := true) [*])

theorem execPortCmd_keeps {b0 : State} (u seq dest n code val : Nat) (s : State) (hk0 : Keeps b0 s) : KeepsR b0 (execPortCmd u seq dest n code val s) := by
  unfold execPortCmd
  first
    | refine act_keeps _ _ hk0 (fun s hk0 => ?_)
    | refine tcAct_keeps _ _ _ hk0 (fun s hk0 => ?_)
    | refine KeepsR.next ?_
  refine portopIn_keeps _ _ _ _ _ _ hk0 (fun s hk0 => ?_)
  first
    | (simp (maxDischargeDepth := 100) (contextual := true) [*]; done)
    | (try dsimp only
       repeat' split
       all_goals first | with_reducible assumption | simp (maxDischargeDepth := 100) (contextual := true) [*])

theorem execPortRsp_keeps {b0 : State} (u seq dest gchip port res : Nat) (s : State) (hk0 : Keeps b0 s) : KeepsR b0 (execPortRsp u seq dest gchip port res s) := by
  unfold execPortRsp
  first
    | refine act_keeps _ _ hk0 (fun s hk0 => ?_)
    | refine tcAct_keeps _ _ _ hk0 (fun s hk0 => ?_)
    | refine KeepsR.next ?_
  refine portopIn_keeps _ _ _ _ _ _ hk0 (fun s hk0 => ?_)
  first
    | (simp (maxDischargeDepth := 100) (contextual := true) [*]; done)
    | (try dsimp only
       repeat' split
       all_goals first | with_reducible assumption | simp (maxDischargeDepth := 100) (contextual := true) [*])

theorem execTreeEvt_keeps {b0 : State} (u seq dest c t ev : Nat) (s : State) (hk0 : Keeps b0 s) : KeepsR b0 (execTreeEvt u seq dest c t ev s) := by
  unfold execTreeEvt
  exact act_keeps _ _ hk0 (fun s hk0 => by simp (maxDischargeDepth := 100) (contextual := true) [*])

theorem execSofSync_keeps {b0 : State} (u seq dest c t frame : Nat) (s : State) (hk0 : Keeps b0 s) : KeepsR b0 (execSofSync u seq dest c t frame s) := by
  unfold execSofSync
  exact act_keeps _ _ hk0 (fun s hk0 => by simp (maxDischargeDepth := 100) (contextual := true) [*])

theorem execSofSyncSend_keeps {b0 : State} (s : State) (hk0 : Keeps b0 s) : KeepsR b0 (execSofSyncSend s) := by
  unfold execSofSyncSend
  exact act_keeps _ _ hk0 (fun s hk0 => by simp (maxDischargeDepth := 100) (contextual := true) [*])

theorem execPresNoAnswer_keeps {b0 : State} (n : Nat) (s : State) (hk0 : Keeps b0 s) : KeepsR b0 (execPresNoAnswer n s) := by
  unfold execPresNoAnswer
  exact act_keeps _ _ hk0 (fun s hk0 => by simp (maxDischargeDepth := 100) (contextual := true) [*])

theorem execPresReqRetry_keeps {b0 : State} (n : Nat) (s : State) (hk0 : Keeps b0 s) : KeepsR b0 (execPresReqRetry n s) := by
  unfold execPresReqRetry
  exact act_keeps _ _ hk0 (fun s hk0 => by simp (maxDischargeDepth := 100) (contextual := true) [*])

theorem execPortopTimeout_keeps {b0 : State} (i : Nat) (s : State) (hk0 : Keeps b0 s) : KeepsR b0 (execPortopTimeout i s) := by
  unfold execPortopTimeout
  first
    | refine act_keeps _ _ hk0 (fun s hk0 => ?_)
    | refine tcAct_keeps _ _ _ hk0 (fun s hk0 => ?_)
    | refine KeepsR.next ?_
  first
    | (simp (maxDischargeDepth := 100) (contextual := true) [*]; done)
    | (try dsimp only
       repeat' split
       all_goals first | with_reducible assumption | simp (maxDischargeDepth := 100) (contextual := true) [*])

theorem execDataFrame_keeps {b0 : State} (u seq dest gchip port epn : Nat) (dirIn : Bool) (colour : Nat) (poison toHost : Bool) (kind : Nat) (per : Bool) (addr len pseq numP : Nat) (s : State) (hk0 : Keeps b0 s) : KeepsR b0 (execDataFrame u seq dest gchip port epn dirIn colour poison toHost kind per addr len pseq numP s) := by
  unfold execDataFrame
  exact act_keeps _ _ hk0 (fun s hk0 => by simp (maxDischargeDepth := 100) (contextual := true) [*])

theorem execProxyFrame_keeps {b0 : State} (u seq dest gchip port epn : Nat) (dirIn toHost : Bool) (kind pid res : Nat) (body : FrameData) (s : State) (hk0 : Keeps b0 s) : KeepsR b0 (execProxyFrame u seq dest gchip port epn dirIn toHost kind pid res body s) := by
  unfold execProxyFrame
  exact act_keeps _ _ hk0 (fun s hk0 => by simp (maxDischargeDepth := 100) (contextual := true) [*])

theorem execIsopfFrame_keeps {b0 : State} (u seq dest gchip port epn : Nat) (dirIn toHost : Bool) (body : FrameData) (s : State) (hk0 : Keeps b0 s) : KeepsR b0 (execIsopfFrame u seq dest gchip port epn dirIn toHost body s) := by
  unfold execIsopfFrame
  refine act_keeps _ _ hk0 (fun s hk0 => ?_)
  refine gatesRefresh_keeps _ (kAccept_keeps _ _ _ _ _ _ hk0 (fun s hk0 => ?_))
  try dsimp only
  repeat' (first | with_reducible assumption | (simp (maxDischargeDepth := 100) (contextual := true) [*]; done) | refine Keeps.ite _ ?_ ?_ | refine Keeps.foldl _ _ (fun s a hk0 => ?_) ?_ | split)

theorem execProxyHostToken_keeps {b0 : State} (u addr epn kind pid len : Nat) (dirIn ack : Bool) (s : State) (hk0 : Keeps b0 s) : KeepsR b0 (execProxyHostToken u addr epn kind pid len dirIn ack s) := by
  unfold execProxyHostToken
  first
    | refine act_keeps _ _ hk0 (fun s hk0 => ?_)
    | refine tcAct_keeps _ _ _ hk0 (fun s hk0 => ?_)
    | refine KeepsR.next ?_
  refine atU_keeps _ _ _ hk0 (fun s hk0 => ?_)
  first
    | (simp (maxDischargeDepth := 100) (contextual := true) [*]; done)
    | (try dsimp only
       repeat' split
       all_goals first | with_reducible assumption | simp (maxDischargeDepth := 100) (contextual := true) [*])

theorem execIsoPrefetchPoll_keeps {b0 : State} (n epn len : Nat) (s : State) (hk0 : Keeps b0 s) : KeepsR b0 (execIsoPrefetchPoll n epn len s) := by
  unfold execIsoPrefetchPoll
  first
    | refine act_keeps _ _ hk0 (fun s hk0 => ?_)
    | refine tcAct_keeps _ _ _ hk0 (fun s hk0 => ?_)
    | refine KeepsR.next ?_
  first
    | (simp (maxDischargeDepth := 100) (contextual := true) [*]; done)
    | (try dsimp only
       repeat' split
       all_goals first | with_reducible assumption | simp (maxDischargeDepth := 100) (contextual := true) [*])

theorem execProxyEntryTimeout_keeps {b0 : State} (j : Nat) (s : State) (hk0 : Keeps b0 s) : KeepsR b0 (execProxyEntryTimeout j s) := by
  unfold execProxyEntryTimeout
  exact act_keeps _ _ hk0 (fun s hk0 => by simp (maxDischargeDepth := 100) (contextual := true) [*])

end Machine

end Sys2Proof
end

