-- ==== Sys2Proof/Laws/KeepsTorik.lean ====
section
/-!
SUPPORT. Keeps, for the operations of Torik.lean.
-/

namespace Sys2Proof

namespace Machine

namespace State

@[simp] theorem setG_keeps {b0 : State} (s : State) (t r : Nat) (v : Word) (hk0 : Keeps b0 s) : Keeps b0 (setG s t r v) := by
  unfold setG
  simp (maxDischargeDepth := 100) (contextual := true) [*]

@[simp] theorem tRefuse_keeps {b0 : State} (s : State) (t : Nat) (hk0 : Keeps b0 s) : Keeps b0 (tRefuse s t) := by
  unfold tRefuse
  simp (maxDischargeDepth := 100) (contextual := true) [*]

@[simp] theorem tDone_keeps {b0 : State} (s : State) (t : Nat) (hk0 : Keeps b0 s) : Keeps b0 (tDone s t) := by
  unfold tDone
  simp (maxDischargeDepth := 100) (contextual := true) [*]

@[simp] theorem threadOff_keeps {b0 : State} (s : State) (t : Nat) (hk0 : Keeps b0 s) : Keeps b0 (threadOff s t) := by
  unfold threadOff
  simp (maxDischargeDepth := 100) (contextual := true) [*]

@[simp] theorem tStart_keeps {b0 : State} (s : State) (t : Nat) (hk0 : Keeps b0 s) : Keeps b0 (tStart s t) := by
  unfold tStart
  simp (maxDischargeDepth := 100) (contextual := true) [*]

@[simp] theorem tHalt_keeps {b0 : State} (s : State) (t : Nat) (hk0 : Keeps b0 s) : Keeps b0 (tHalt s t) := by
  unfold tHalt
  first
    | (simp (maxDischargeDepth := 100) (contextual := true) [*]; done)
    | (apply Keeps.of_eq hk0 <;> with_reducible rfl)
    | (try dsimp only
       repeat' split
       all_goals first | with_reducible assumption | simp (maxDischargeDepth := 100) (contextual := true) [*])

@[simp] theorem tResume_keeps {b0 : State} (s : State) (t : Nat) (hk0 : Keeps b0 s) : Keeps b0 (tResume s t) := by
  unfold tResume
  simp (maxDischargeDepth := 100) (contextual := true) [*]

@[simp] theorem tStop_keeps {b0 : State} (s : State) (t : Nat) (hk0 : Keeps b0 s) : Keeps b0 (tStop s t) := by
  unfold tStop
  first
    | (simp (maxDischargeDepth := 100) (contextual := true) [*]; done)
    | (apply Keeps.of_eq hk0 <;> with_reducible rfl)
    | (try dsimp only
       repeat' split
       all_goals first | with_reducible assumption | simp (maxDischargeDepth := 100) (contextual := true) [*])

@[simp] theorem wrTctl_keeps {b0 : State} (s : State) (t c : Nat) (hk0 : Keeps b0 s) : Keeps b0 (wrTctl s t c) := by
  unfold wrTctl
  first
    | (simp (maxDischargeDepth := 100) (contextual := true) [*]; done)
    | (apply Keeps.of_eq hk0 <;> with_reducible rfl)
    | (try dsimp only
       repeat' split
       all_goals first | with_reducible assumption | simp (maxDischargeDepth := 100) (contextual := true) [*])

@[simp] theorem opComplete_keeps {b0 : State} (s : State) (t : Nat) (hk0 : Keeps b0 s) : Keeps b0 (opComplete s t) := by
  unfold opComplete
  first
    | (simp (maxDischargeDepth := 100) (contextual := true) [*]; done)
    | (apply Keeps.of_eq hk0 <;> with_reducible rfl)
    | (try dsimp only
       repeat' split
       all_goals first | with_reducible assumption | simp (maxDischargeDepth := 100) (contextual := true) [*])

@[simp] theorem exception_keeps {b0 : State} (s : State) (t cause : Nat) (epc : Word) (eaddr : Nat) (hk0 : Keeps b0 s) : Keeps b0 (exception s t cause epc eaddr) := by
  unfold exception
  first
    | (simp (maxDischargeDepth := 100) (contextual := true) [*]; done)
    | (apply Keeps.of_eq hk0 <;> with_reducible rfl)
    | (try dsimp only
       repeat' split
       all_goals first | with_reducible assumption | simp (maxDischargeDepth := 100) (contextual := true) [*])

@[simp] theorem takeEvent_keeps {b0 : State} (s : State) (t e : Nat) (hk0 : Keeps b0 s) : Keeps b0 (takeEvent s t e) := by
  unfold takeEvent
  simp (maxDischargeDepth := 100) (contextual := true) [*]

@[simp] theorem waitEnd_keeps {b0 : State} (s : State) (t rd : Nat) (hk0 : Keeps b0 s) : Keeps b0 (waitEnd s t rd) := by
  unfold waitEnd
  first
    | (simp (maxDischargeDepth := 100) (contextual := true) [*]; done)
    | (apply Keeps.of_eq hk0 <;> with_reducible rfl)
    | (try dsimp only
       repeat' split
       all_goals first | with_reducible assumption | simp (maxDischargeDepth := 100) (contextual := true) [*])

@[simp] theorem setMbox_keeps {b0 : State} (s : State) (i : Nat) (l : List MboxEntry) (hk0 : Keeps b0 s) : Keeps b0 (setMbox s i l) := by
  unfold setMbox
  simp (maxDischargeDepth := 100) (contextual := true) [*]

@[simp] theorem mboxAdd_keeps {b0 : State} (s : State) (i kind target : Nat) (payload : List Byte) (hk0 : Keeps b0 s) : Keeps b0 (mboxAdd s i kind target payload) := by
  unfold mboxAdd
  simp (maxDischargeDepth := 100) (contextual := true) [*]

@[simp] theorem snoopFeature_keeps {b0 : State} (s : State) (u target : Nat) (ss on : Bool) (val : Nat) (hk0 : Keeps b0 s) : Keeps b0 (snoopFeature s u target ss on val) := by
  unfold snoopFeature
  try dsimp only
  repeat' (first | with_reducible assumption | (simp (maxDischargeDepth := 100) (contextual := true) [*]; done) | refine Keeps.ite _ ?_ ?_ | refine Keeps.foldl _ _ (fun s a hk0 => ?_) ?_ | split)

@[simp] theorem snoopPort_keeps {b0 : State} (s : State) (u target : Nat) (ss : Bool) (req val idx : Nat) (hk0 : Keeps b0 s) : Keeps b0 (snoopPort s u target ss req val idx) := by
  unfold snoopPort
  try dsimp only
  repeat' (first | with_reducible assumption | (simp (maxDischargeDepth := 100) (contextual := true) [*]; done) | refine Keeps.ite _ ?_ ?_ | refine Keeps.foldl _ _ (fun s a hk0 => ?_) ?_ | split)

@[simp] theorem snoop_keeps {b0 : State} (s : State) (u target : Nat) (ss : Bool) (w1 w2 : Nat) (hk0 : Keeps b0 s) : Keeps b0 (snoop s u target ss w1 w2) := by
  unfold snoop
  first
    | (simp (maxDischargeDepth := 100) (contextual := true) [*]; done)
    | (apply Keeps.of_eq hk0 <;> with_reducible rfl)
    | (try dsimp only
       repeat' split
       all_goals first | with_reducible assumption | simp (maxDischargeDepth := 100) (contextual := true) [*])


end State

open State

theorem execStart_keeps {b0 : State} (t : Nat) (s : State) (hk0 : Keeps b0 s) : KeepsR b0 (execStart t s) := by
  unfold execStart
  exact act_keeps _ _ hk0 (fun s hk0 => by simp (maxDischargeDepth := 100) (contextual := true) [*])

theorem execHalt_keeps {b0 : State} (t : Nat) (s : State) (hk0 : Keeps b0 s) : KeepsR b0 (execHalt t s) := by
  unfold execHalt
  exact act_keeps _ _ hk0 (fun s hk0 => by simp (maxDischargeDepth := 100) (contextual := true) [*])

theorem execResume_keeps {b0 : State} (t : Nat) (s : State) (hk0 : Keeps b0 s) : KeepsR b0 (execResume t s) := by
  unfold execResume
  exact act_keeps _ _ hk0 (fun s hk0 => by simp (maxDischargeDepth := 100) (contextual := true) [*])

theorem execStop_keeps {b0 : State} (t : Nat) (s : State) (hk0 : Keeps b0 s) : KeepsR b0 (execStop t s) := by
  unfold execStop
  exact act_keeps _ _ hk0 (fun s hk0 => by simp (maxDischargeDepth := 100) (contextual := true) [*])

theorem execOperationComplete_keeps {b0 : State} (t : Nat) (s : State) (hk0 : Keeps b0 s) : KeepsR b0 (execOperationComplete t s) := by
  unfold execOperationComplete
  exact act_keeps _ _ hk0 (fun s hk0 => by simp (maxDischargeDepth := 100) (contextual := true) [*])

theorem execThreadTimerExpiry_keeps {b0 : State} (t j : Nat) (s : State) (hk0 : Keeps b0 s) : KeepsR b0 (execThreadTimerExpiry t j s) := by
  unfold execThreadTimerExpiry
  exact act_keeps _ _ hk0 (fun s hk0 => by simp (maxDischargeDepth := 100) (contextual := true) [*])

theorem execHostRequestEntry_keeps {b0 : State} (u target : Nat) (ss : Bool) (w1 w2 : Nat) (data : List Byte) (s : State) (hk0 : Keeps b0 s) : KeepsR b0 (execHostRequestEntry u target ss w1 w2 data s) := by
  unfold execHostRequestEntry
  exact act_keeps _ _ hk0 (fun s hk0 => by simp (maxDischargeDepth := 100) (contextual := true) [*])

theorem execHostRequestTimeout_keeps {b0 : State} (u tag : Nat) (s : State) (hk0 : Keeps b0 s) : KeepsR b0 (execHostRequestTimeout u tag s) := by
  unfold execHostRequestTimeout
  exact act_keeps _ _ hk0 (fun s hk0 => by simp (maxDischargeDepth := 100) (contextual := true) [*])

end Machine

end Sys2Proof
end

