-- ==== Sys2Proof/Laws/KeepsModes.lean ====
section
/-!
SUPPORT. Keeps, for the operations of Modes.lean.
-/

namespace Sys2Proof

namespace Machine

namespace State

@[simp] theorem dieStarved_keeps {b0 : State} (s : State) (d : Nat) (hk0 : Keeps b0 s) : Keeps b0 (dieStarved s d) := by
  unfold dieStarved
  simp (maxDischargeDepth := 100) (contextual := true) [*]

@[simp] theorem setUnit_keeps {b0 : State} (s : State) (i : Nat) (hk0 : Keeps b0 s) : Keeps b0 (setUnit s i) := by
  unfold setUnit
  simp (maxDischargeDepth := 100) (contextual := true) [*]

@[simp] theorem setFailed_keeps {b0 : State} (s : State) (i : Nat) (hk0 : Keeps b0 s) : Keeps b0 (setFailed s i) := by
  unfold setFailed
  simp (maxDischargeDepth := 100) (contextual := true) [*]

@[simp] theorem portReady_keeps {b0 : State} (s : State) (n : Nat) (hk0 : Keeps b0 s) : Keeps b0 (portReady s n) := by
  unfold portReady
  first
    | (simp (maxDischargeDepth := 100) (contextual := true) [*]; done)
    | (apply Keeps.of_eq hk0 <;> with_reducible rfl)
    | (try dsimp only
       repeat' split
       all_goals first | with_reducible assumption | simp (maxDischargeDepth := 100) (contextual := true) [*])

@[simp] theorem readyRefresh_keeps {b0 : State} (s : State) (hk0 : Keeps b0 s) : Keeps b0 (readyRefresh s) := by
  unfold readyRefresh
  simp (maxDischargeDepth := 100) (contextual := true) [*]

@[simp] theorem markPort_keeps {b0 : State} (s : State) (n cause : Nat) (hk0 : Keeps b0 s) : Keeps b0 (markPort s n cause) := by
  unfold markPort
  simp (maxDischargeDepth := 100) (contextual := true) [*]

@[simp] theorem failNote_keeps {b0 : State} (s : State) (idx : Nat) (hk0 : Keeps b0 s) : Keeps b0 (failNote s idx) := by
  unfold failNote
  simp (maxDischargeDepth := 100) (contextual := true) [*]

@[simp] theorem unitFail_keeps {b0 : State} (s : State) (i : Nat) (hk0 : Keeps b0 s) : Keeps b0 (unitFail s i) := by
  unfold unitFail
  simp (maxDischargeDepth := 100) (contextual := true) [*]

@[simp] theorem readyFail_keeps {b0 : State} (s : State) (i cause : Nat) (hk0 : Keeps b0 s) : Keeps b0 (readyFail s i cause) := by
  unfold readyFail
  simp (maxDischargeDepth := 100) (contextual := true) [*]

@[simp] theorem unitStart_keeps {b0 : State} (s : State) (i : Nat) (hk0 : Keeps b0 s) : Keeps b0 (unitStart s i) := by
  unfold unitStart
  simp (maxDischargeDepth := 100) (contextual := true) [*]

@[simp] theorem modeRefuse_keeps {b0 : State} (s : State) (hk0 : Keeps b0 s) : Keeps b0 (modeRefuse s) := by
  unfold modeRefuse
  simp (maxDischargeDepth := 100) (contextual := true) [*]

@[simp] theorem modeDone_keeps {b0 : State} (s : State) (hk0 : Keeps b0 s) : Keeps b0 (modeDone s) := by
  unfold modeDone
  simp (maxDischargeDepth := 100) (contextual := true) [*]

@[simp] theorem cmdSafe_keeps {b0 : State} (s : State) (hk0 : Keeps b0 s) : Keeps b0 (cmdSafe s) := by
  unfold cmdSafe
  simp (maxDischargeDepth := 100) (contextual := true) [*]

@[simp] theorem cmdRelease_keeps {b0 : State} (s : State) (hk0 : Keeps b0 s) : Keeps b0 (cmdRelease s) := by
  unfold cmdRelease
  simp (maxDischargeDepth := 100) (contextual := true) [*]

@[simp] theorem cmdSelftest_keeps {b0 : State} (s : State) (hk0 : Keeps b0 s) : Keeps b0 (cmdSelftest s) := by
  unfold cmdSelftest
  simp (maxDischargeDepth := 100) (contextual := true) [*]

@[simp] theorem cmdReset_keeps {b0 : State} (s : State) (hk0 : Keeps b0 s) : Keeps b0 (cmdReset s) := by
  unfold cmdReset
  simp (maxDischargeDepth := 100) (contextual := true) [*]

@[simp] theorem cmdWake_keeps {b0 : State} (s : State) (hk0 : Keeps b0 s) : Keeps b0 (cmdWake s) := by
  unfold cmdWake
  simp (maxDischargeDepth := 100) (contextual := true) [*]

@[simp] theorem wrModeCtl_keeps {b0 : State} (s : State) (c : Nat) (hk0 : Keeps b0 s) : Keeps b0 (wrModeCtl s c) := by
  unfold wrModeCtl
  first
    | (simp (maxDischargeDepth := 100) (contextual := true) [*]; done)
    | (apply Keeps.of_eq hk0 <;> with_reducible rfl)
    | (try dsimp only
       repeat' split
       all_goals first | with_reducible assumption | simp (maxDischargeDepth := 100) (contextual := true) [*])


end State

open State

theorem execSupplyFall_keeps {b0 : State} (i : Nat) (s : State) (hk0 : Keeps b0 s) : KeepsR b0 (execSupplyFall i s) := by
  unfold execSupplyFall
  first
    | refine act_keeps _ _ hk0 (fun s hk0 => ?_)
    | refine tcAct_keeps _ _ _ hk0 (fun s hk0 => ?_)
    | refine KeepsR.next ?_
  first
    | (simp (maxDischargeDepth := 100) (contextual := true) [*]; done)
    | (try dsimp only
       repeat' split
       all_goals first | with_reducible assumption | simp (maxDischargeDepth := 100) (contextual := true) [*])

theorem execSupplyRise_keeps {b0 : State} (i : Nat) (s : State) (hk0 : Keeps b0 s) : KeepsR b0 (execSupplyRise i s) := by
  unfold execSupplyRise
  first
    | refine act_keeps _ _ hk0 (fun s hk0 => ?_)
    | refine tcAct_keeps _ _ _ hk0 (fun s hk0 => ?_)
    | refine KeepsR.next ?_
  first
    | (simp (maxDischargeDepth := 100) (contextual := true) [*]; done)
    | (try dsimp only
       repeat' split
       all_goals first | with_reducible assumption | simp (maxDischargeDepth := 100) (contextual := true) [*])

theorem execResetNLow_keeps {b0 : State} (s : State) (hk0 : Keeps b0 s) : KeepsR b0 (execResetNLow s) := by
  unfold execResetNLow
  first
    | refine act_keeps _ _ hk0 (fun s hk0 => ?_)
    | refine tcAct_keeps _ _ _ hk0 (fun s hk0 => ?_)
    | refine KeepsR.next ?_
  first
    | (simp (maxDischargeDepth := 100) (contextual := true) [*]; done)
    | (try dsimp only
       repeat' split
       all_goals first | with_reducible assumption | simp (maxDischargeDepth := 100) (contextual := true) [*])

theorem execResetNHigh_keeps {b0 : State} (s : State) (hk0 : Keeps b0 s) : KeepsR b0 (execResetNHigh s) := by
  unfold execResetNHigh
  first
    | refine act_keeps _ _ hk0 (fun s hk0 => ?_)
    | refine tcAct_keeps _ _ _ hk0 (fun s hk0 => ?_)
    | refine KeepsR.next ?_
  first
    | (simp (maxDischargeDepth := 100) (contextual := true) [*]; done)
    | (try dsimp only
       repeat' split
       all_goals first | with_reducible assumption | simp (maxDischargeDepth := 100) (contextual := true) [*])

theorem execHoldEnd_keeps {b0 : State} (s : State) (hk0 : Keeps b0 s) : KeepsR b0 (execHoldEnd s) := by
  unfold execHoldEnd
  exact KeepsR.next (Keeps.ite _ (modThread_clear_keeps _ _ _ (by simp (maxDischargeDepth := 100) (contextual := true) [*]) (fun _ => rfl)) hk0)

theorem execPllLock_keeps {b0 : State} (s : State) (hk0 : Keeps b0 s) : KeepsR b0 (execPllLock s) := by
  unfold execPllLock
  exact act_keeps _ _ hk0 (fun s hk0 => by simp (maxDischargeDepth := 100) (contextual := true) [*])

theorem execPllLockTimeout_keeps {b0 : State} (s : State) (hk0 : Keeps b0 s) : KeepsR b0 (execPllLockTimeout s) := by
  unfold execPllLockTimeout
  exact act_keeps _ _ hk0 (fun s hk0 => by simp (maxDischargeDepth := 100) (contextual := true) [*])

theorem execRiseEntry_keeps {b0 : State} (romOk : Bool) (s : State) (hk0 : Keeps b0 s) : KeepsR b0 (execRiseEntry romOk s) := by
  unfold execRiseEntry
  refine act_keeps _ _ hk0 (fun s hk0 => Keeps.ite _ ?_ hk0)
  extract_lets s0_ s1_ s2_
  have h0 : Keeps b0 s0_ := set_keeps _ _ _ hk0
  have h1 : Keeps b0 s1_ := modTk_keeps _ _ (logRec_keeps _ _ _ _ _ (enterMode_keeps _ _ (setTb_keeps _ _ h0))) (fun _ _ => rfl) (fun _ _ => rfl)
  have h2 : Keeps b0 s2_ := modPins_keeps _ _ (set_keeps _ _ _ (modThread_clear_keeps _ _ _ h1 (fun _ => rfl)))
  refine Keeps.ite _ (by simp (maxDischargeDepth := 100) (contextual := true) [*]) ?_
  simp (maxDischargeDepth := 100) (contextual := true) [*]

theorem execUnitReady_keeps {b0 : State} (i : Nat) (s : State) (hk0 : Keeps b0 s) : KeepsR b0 (execUnitReady i s) := by
  unfold execUnitReady
  exact act_keeps _ _ hk0 (fun s hk0 => by simp (maxDischargeDepth := 100) (contextual := true) [*])

theorem execCalibrationFail_keeps {b0 : State} (i : Nat) (s : State) (hk0 : Keeps b0 s) : KeepsR b0 (execCalibrationFail i s) := by
  unfold execCalibrationFail
  exact act_keeps _ _ hk0 (fun s hk0 => by simp (maxDischargeDepth := 100) (contextual := true) [*])

theorem execReadinessTimeout_keeps {b0 : State} (i : Nat) (s : State) (hk0 : Keeps b0 s) : KeepsR b0 (execReadinessTimeout i s) := by
  unfold execReadinessTimeout
  exact act_keeps _ _ hk0 (fun s hk0 => by simp (maxDischargeDepth := 100) (contextual := true) [*])

theorem execModeSafe_keeps {b0 : State} (s : State) (hk0 : Keeps b0 s) : KeepsR b0 (execModeSafe s) := by
  unfold execModeSafe
  exact act_keeps _ _ hk0 (fun s hk0 => by simp (maxDischargeDepth := 100) (contextual := true) [*])

theorem execRelease_keeps {b0 : State} (s : State) (hk0 : Keeps b0 s) : KeepsR b0 (execRelease s) := by
  unfold execRelease
  exact act_keeps _ _ hk0 (fun s hk0 => by simp (maxDischargeDepth := 100) (contextual := true) [*])

theorem execSelftest_keeps {b0 : State} (s : State) (hk0 : Keeps b0 s) : KeepsR b0 (execSelftest s) := by
  unfold execSelftest
  exact act_keeps _ _ hk0 (fun s hk0 => by simp (maxDischargeDepth := 100) (contextual := true) [*])

theorem execSelftestEnd_keeps {b0 : State} (first : Nat) (s : State) (hk0 : Keeps b0 s) : KeepsR b0 (execSelftestEnd first s) := by
  unfold execSelftestEnd
  exact act_keeps _ _ hk0 (fun s hk0 => by simp (maxDischargeDepth := 100) (contextual := true) [*])

theorem execModeReset_keeps {b0 : State} (s : State) (hk0 : Keeps b0 s) : KeepsR b0 (execModeReset s) := by
  unfold execModeReset
  exact act_keeps _ _ hk0 (fun s hk0 => by simp (maxDischargeDepth := 100) (contextual := true) [*])

theorem execWake_keeps {b0 : State} (s : State) (hk0 : Keeps b0 s) : KeepsR b0 (execWake s) := by
  unfold execWake
  exact act_keeps _ _ hk0 (fun s hk0 => by simp (maxDischargeDepth := 100) (contextual := true) [*])

end Machine

end Sys2Proof
end

