-- ==== Sys2Proof/Laws/KeepsBoot.lean ====
section
/-!
SUPPORT. Keeps, for the operations of Boot.lean.
-/

namespace Sys2Proof

namespace Machine

namespace State

@[simp] theorem fwRefuse_keeps {b0 : State} (s : State) (r : RC) (hk0 : Keeps b0 s) : Keeps b0 (fwRefuse s r) := by
  unfold fwRefuse
  simp (maxDischargeDepth := 100) (contextual := true) [*]

@[simp] theorem updRefuse_keeps {b0 : State} (s : State) (r : RC) (hk0 : Keeps b0 s) : Keeps b0 (updRefuse s r) := by
  unfold updRefuse
  simp (maxDischargeDepth := 100) (contextual := true) [*]

@[simp] theorem updDone_keeps {b0 : State} (s : State) (hk0 : Keeps b0 s) : Keeps b0 (updDone s) := by
  unfold updDone
  simp (maxDischargeDepth := 100) (contextual := true) [*]

@[simp] theorem updBegin_keeps {b0 : State} (s : State) (m : Master) (hk0 : Keeps b0 s) : Keeps b0 (updBegin s m) := by
  unfold updBegin
  simp (maxDischargeDepth := 100) (contextual := true) [*]

@[simp] theorem eraseAt_keeps {b0 : State} (s : State) (a : Nat) (hk0 : Keeps b0 s) : Keeps b0 (eraseAt s a) := by
  exact modBoot_keeps _ _ hk0 fun x hx => Tbl.wf_filter _ _ _ hx

@[simp] theorem updErase_keeps {b0 : State} (s : State) (m : Master) (hk0 : Keeps b0 s) : Keeps b0 (updErase s m) := by
  unfold updErase
  simp (maxDischargeDepth := 100) (contextual := true) [*]

@[simp] theorem programAt_keeps {b0 : State} (s : State) (a : Nat) (hk0 : Keeps b0 s) : Keeps b0 (programAt s a) := by
  unfold programAt
  refine modBoot_keeps _ _ hk0 fun x hx => ?_
  unfold Memory.wf at *
  dsimp only
  exact Tbl.wf_fold _ _ _ _ (fun _ _ h => Tbl.wf_set _ _ _ _ h) hx

@[simp] theorem updProgram_keeps {b0 : State} (s : State) (m : Master) (hk0 : Keeps b0 s) : Keeps b0 (updProgram s m) := by
  unfold updProgram
  simp (maxDischargeDepth := 100) (contextual := true) [*]

@[simp] theorem updVerify_keeps {b0 : State} (s : State) (m : Master) (hk0 : Keeps b0 s) : Keeps b0 (updVerify s m) := by
  unfold updVerify
  simp (maxDischargeDepth := 100) (contextual := true) [*]

@[simp] theorem updEnd_keeps {b0 : State} (s : State) (m : Master) (hk0 : Keeps b0 s) : Keeps b0 (updEnd s m) := by
  unfold updEnd
  simp (maxDischargeDepth := 100) (contextual := true) [*]

@[simp] theorem wrUpdCtl_keeps {b0 : State} (s : State) (m : Master) (c : Nat) (hk0 : Keeps b0 s) : Keeps b0 (wrUpdCtl s m c) := by
  unfold wrUpdCtl
  first
    | (simp (maxDischargeDepth := 100) (contextual := true) [*]; done)
    | (apply Keeps.of_eq hk0 <;> with_reducible rfl)
    | (try dsimp only
       repeat' split
       all_goals first | with_reducible assumption | simp (maxDischargeDepth := 100) (contextual := true) [*])

@[simp] theorem flashReady_keeps {b0 : State} (s : State) (hk0 : Keeps b0 s) : Keeps b0 (flashReady s) := by
  unfold flashReady
  first
    | (simp (maxDischargeDepth := 100) (contextual := true) [*]; done)
    | (apply Keeps.of_eq hk0 <;> with_reducible rfl)
    | (try dsimp only
       repeat' split
       all_goals first | with_reducible assumption | simp (maxDischargeDepth := 100) (contextual := true) [*])

@[simp] theorem confirm_keeps {b0 : State} (s : State) (hk0 : Keeps b0 s) : Keeps b0 (confirm s) := by
  unfold confirm
  simp (maxDischargeDepth := 100) (contextual := true) [*]

@[simp] theorem bootReset_keeps {b0 : State} (s : State) (hk0 : Keeps b0 s) : Keeps b0 (bootReset s) := by
  unfold bootReset
  simp (maxDischargeDepth := 100) (contextual := true) [*]

@[simp] theorem wrFuse_keeps {b0 : State} (s : State) (m : Master) (i v : Nat) (hk0 : Keeps b0 s) : Keeps b0 (wrFuse s m i v) := by
  unfold wrFuse
  simp (maxDischargeDepth := 100) (contextual := true) [*]


end State

open State

theorem execConfirm_keeps {b0 : State} (s : State) (hk0 : Keeps b0 s) : KeepsR b0 (execConfirm s) := by
  unfold execConfirm
  exact act_keeps _ _ hk0 (fun s hk0 => by simp (maxDischargeDepth := 100) (contextual := true) [*])

theorem execConfirmTimeout_keeps {b0 : State} (s : State) (hk0 : Keeps b0 s) : KeepsR b0 (execConfirmTimeout s) := by
  unfold execConfirmTimeout
  exact act_keeps _ _ hk0 (fun s hk0 => by simp (maxDischargeDepth := 100) (contextual := true) [*])

theorem execFuseWrite_keeps {b0 : State} (m : Master) (i v : Nat) (s : State) (hk0 : Keeps b0 s) : KeepsR b0 (execFuseWrite m i v s) := by
  unfold execFuseWrite
  exact act_keeps _ _ hk0 (fun s hk0 => by simp (maxDischargeDepth := 100) (contextual := true) [*])

theorem execUpdBegin_keeps {b0 : State} (m : Master) (s : State) (hk0 : Keeps b0 s) : KeepsR b0 (execUpdBegin m s) := by
  unfold execUpdBegin
  exact act_keeps _ _ hk0 (fun s hk0 => by simp (maxDischargeDepth := 100) (contextual := true) [*])

theorem execErase_keeps {b0 : State} (m : Master) (s : State) (hk0 : Keeps b0 s) : KeepsR b0 (execErase m s) := by
  unfold execErase
  exact act_keeps _ _ hk0 (fun s hk0 => by simp (maxDischargeDepth := 100) (contextual := true) [*])

theorem execProgram_keeps {b0 : State} (m : Master) (s : State) (hk0 : Keeps b0 s) : KeepsR b0 (execProgram m s) := by
  unfold execProgram
  exact act_keeps _ _ hk0 (fun s hk0 => by simp (maxDischargeDepth := 100) (contextual := true) [*])

theorem execVerify_keeps {b0 : State} (m : Master) (s : State) (hk0 : Keeps b0 s) : KeepsR b0 (execVerify m s) := by
  unfold execVerify
  exact act_keeps _ _ hk0 (fun s hk0 => by simp (maxDischargeDepth := 100) (contextual := true) [*])

theorem execUpdEnd_keeps {b0 : State} (m : Master) (s : State) (hk0 : Keeps b0 s) : KeepsR b0 (execUpdEnd m s) := by
  unfold execUpdEnd
  exact act_keeps _ _ hk0 (fun s hk0 => by simp (maxDischargeDepth := 100) (contextual := true) [*])

theorem execFlashOpComplete_keeps {b0 : State} (s : State) (hk0 : Keeps b0 s) : KeepsR b0 (execFlashOpComplete s) := by
  unfold execFlashOpComplete
  exact act_keeps _ _ hk0 (fun s hk0 => by simp (maxDischargeDepth := 100) (contextual := true) [*])

theorem execUpdateTimeout_keeps {b0 : State} (s : State) (hk0 : Keeps b0 s) : KeepsR b0 (execUpdateTimeout s) := by
  unfold execUpdateTimeout
  exact act_keeps _ _ hk0 (fun s hk0 => by simp (maxDischargeDepth := 100) (contextual := true) [*])

end Machine

end Sys2Proof
end

