-- ==== Sys2Proof/Laws/KeepsFaultCmd.lean ====
section
/-!
SUPPORT. Keeps, for the operations of FaultCmd.lean.
-/

namespace Sys2Proof

namespace Machine

namespace State

@[simp] theorem stopEnd_keeps {b0 : State} (s old : State) (hk0 : Keeps b0 s) : Keeps b0 (stopEnd s old) := by
  unfold stopEnd
  simp (maxDischargeDepth := 100) (contextual := true) [*]

@[simp] theorem setClass_keeps {b0 : State} (s : State) (i c : Nat) (hk0 : Keeps b0 s) : Keeps b0 (setClass s i c) := by
  unfold setClass
  first
    | (simp (maxDischargeDepth := 100) (contextual := true) [*]; done)
    | (apply Keeps.of_eq hk0 <;> with_reducible rfl)
    | (try dsimp only
       repeat' split
       all_goals first | with_reducible assumption | simp (maxDischargeDepth := 100) (contextual := true) [*])

@[simp] theorem wrReact_keeps {b0 : State} (s : State) (j v : Nat) (hk0 : Keeps b0 s) : Keeps b0 (wrReact s j v) := by
  unfold wrReact
  simp (maxDischargeDepth := 100) (contextual := true) [*]

@[simp] theorem fcRefuse_keeps {b0 : State} (s : State) (hk0 : Keeps b0 s) : Keeps b0 (fcRefuse s) := by
  unfold fcRefuse
  simp (maxDischargeDepth := 100) (contextual := true) [*]

@[simp] theorem ventRestart_keeps {b0 : State} (s : State) (hk0 : Keeps b0 s) : Keeps b0 (ventRestart s) := by
  unfold ventRestart
  simp (maxDischargeDepth := 100) (contextual := true) [*]

@[simp] theorem wrFcCmd_keeps {b0 : State} (s : State) (c : Nat) (hk0 : Keeps b0 s) : Keeps b0 (wrFcCmd s c) := by
  unfold wrFcCmd
  simp (maxDischargeDepth := 100) (contextual := true) [*]

@[simp] theorem kick_keeps {b0 : State} (s : State) (hk0 : Keeps b0 s) : Keeps b0 (kick s) := by
  unfold kick
  simp (maxDischargeDepth := 100) (contextual := true) [*]

@[simp] theorem wrSw_keeps {b0 : State} (s : State) (v : Nat) (hk0 : Keeps b0 s) : Keeps b0 (wrSw s v) := by
  unfold wrSw
  simp (maxDischargeDepth := 100) (contextual := true) [*]

@[simp] theorem injRefuse_keeps {b0 : State} (s : State) (r : RC) (hk0 : Keeps b0 s) : Keeps b0 (injRefuse s r) := by
  unfold injRefuse
  simp (maxDischargeDepth := 100) (contextual := true) [*]

@[simp] theorem injArm_keeps {b0 : State} (s : State) (i inst : Nat) (hk0 : Keeps b0 s) : Keeps b0 (injArm s i inst) := by
  unfold injArm
  simp (maxDischargeDepth := 100) (contextual := true) [*]

@[simp] theorem injDisarm_keeps {b0 : State} (s : State) (hk0 : Keeps b0 s) : Keeps b0 (injDisarm s) := by
  unfold injDisarm
  simp (maxDischargeDepth := 100) (contextual := true) [*]

@[simp] theorem wrInj_keeps {b0 : State} (s : State) (v : Nat) (hk0 : Keeps b0 s) : Keeps b0 (wrInj s v) := by
  unfold wrInj
  first
    | (simp (maxDischargeDepth := 100) (contextual := true) [*]; done)
    | (apply Keeps.of_eq hk0 <;> with_reducible rfl)
    | (try dsimp only
       repeat' split
       all_goals first | with_reducible assumption | simp (maxDischargeDepth := 100) (contextual := true) [*])

@[simp] theorem threadMemErr_keeps {b0 : State} (s : State) (t detail : Nat) (hk0 : Keeps b0 s) : Keeps b0 (threadMemErr s t detail) := by
  unfold threadMemErr
  simp (maxDischargeDepth := 100) (contextual := true) [*]

@[simp] theorem sourceOnset_keeps {b0 : State} (s : State) (i inst detail : Nat) (hk0 : Keeps b0 s) : Keeps b0 (sourceOnset s i inst detail) := by
  unfold sourceOnset
  first
    | (simp (maxDischargeDepth := 100) (contextual := true) [*]; done)
    | (apply Keeps.of_eq hk0 <;> with_reducible rfl)
    | (try dsimp only
       repeat' split
       all_goals first | with_reducible assumption | simp (maxDischargeDepth := 100) (contextual := true) [*])


end State

open State

theorem execFaultOnset_keeps {b0 : State} (i inst detail : Nat) (s : State) (hk0 : Keeps b0 s) : KeepsR b0 (execFaultOnset i inst detail s) := by
  unfold execFaultOnset
  exact act_keeps _ _ hk0 (fun s hk0 => by simp (maxDischargeDepth := 100) (contextual := true) [*])

theorem execFaultHoldExpiry_keeps {b0 : State} (i : Nat) (s : State) (hk0 : Keeps b0 s) : KeepsR b0 (execFaultHoldExpiry i s) := by
  unfold execFaultHoldExpiry
  exact act_keeps _ _ hk0 (fun s hk0 => by simp (maxDischargeDepth := 100) (contextual := true) [*])

theorem execReactionClassWrite_keeps {b0 : State} (j v : Nat) (s : State) (hk0 : Keeps b0 s) : KeepsR b0 (execReactionClassWrite j v s) := by
  unfold execReactionClassWrite
  exact act_keeps _ _ hk0 (fun s hk0 => by simp (maxDischargeDepth := 100) (contextual := true) [*])

theorem execRestart_keeps {b0 : State} (s : State) (hk0 : Keeps b0 s) : KeepsR b0 (execRestart s) := by
  unfold execRestart
  exact act_keeps _ _ hk0 (fun s hk0 => by simp (maxDischargeDepth := 100) (contextual := true) [*])

theorem execVentAutoRestart_keeps {b0 : State} (s : State) (hk0 : Keeps b0 s) : KeepsR b0 (execVentAutoRestart s) := by
  unfold execVentAutoRestart
  exact act_keeps _ _ hk0 (fun s hk0 => by simp (maxDischargeDepth := 100) (contextual := true) [*])

theorem execKick_keeps {b0 : State} (s : State) (hk0 : Keeps b0 s) : KeepsR b0 (execKick s) := by
  unfold execKick
  exact act_keeps _ _ hk0 (fun s hk0 => by simp (maxDischargeDepth := 100) (contextual := true) [*])

theorem execWatchdogExpiry_keeps {b0 : State} (s : State) (hk0 : Keeps b0 s) : KeepsR b0 (execWatchdogExpiry s) := by
  unfold execWatchdogExpiry
  exact act_keeps _ _ hk0 (fun s hk0 => by simp (maxDischargeDepth := 100) (contextual := true) [*])

theorem execConverterCheck_keeps {b0 : State} (d i : Nat) (ok : Bool) (s : State) (hk0 : Keeps b0 s) : KeepsR b0 (execConverterCheck d i ok s) := by
  unfold execConverterCheck
  exact act_keeps _ _ hk0 (fun s hk0 => by simp (maxDischargeDepth := 100) (contextual := true) [*])

theorem execSoftwareSourceWrite_keeps {b0 : State} (v : Nat) (s : State) (hk0 : Keeps b0 s) : KeepsR b0 (execSoftwareSourceWrite v s) := by
  unfold execSoftwareSourceWrite
  exact act_keeps _ _ hk0 (fun s hk0 => by simp (maxDischargeDepth := 100) (contextual := true) [*])

theorem execArm_keeps {b0 : State} (i inst : Nat) (s : State) (hk0 : Keeps b0 s) : KeepsR b0 (execArm i inst s) := by
  unfold execArm
  exact act_keeps _ _ hk0 (fun s hk0 => by simp (maxDischargeDepth := 100) (contextual := true) [*])

theorem execDisarm_keeps {b0 : State} (s : State) (hk0 : Keeps b0 s) : KeepsR b0 (execDisarm s) := by
  unfold execDisarm
  exact act_keeps _ _ hk0 (fun s hk0 => by simp (maxDischargeDepth := 100) (contextual := true) [*])

theorem execInjectionExpiry_keeps {b0 : State} (s : State) (hk0 : Keeps b0 s) : KeepsR b0 (execInjectionExpiry s) := by
  unfold execInjectionExpiry
  exact act_keeps _ _ hk0 (fun s hk0 => by simp (maxDischargeDepth := 100) (contextual := true) [*])

end Machine

end Sys2Proof
end

