-- ==== Sys2Proof/Laws/KeepsAtb.lean ====
section
/-!
SUPPORT. Keeps, for the operations of Atb.lean.
-/

namespace Sys2Proof

namespace Machine

namespace State

@[simp] theorem atbRefuse_keeps {b0 : State} (s : State) (r : RC) (hk0 : Keeps b0 s) : Keeps b0 (atbRefuse s r) := by
  unfold atbRefuse
  simp (maxDischargeDepth := 100) (contextual := true) [*]

@[simp] theorem wrAtb_keeps {b0 : State} (s : State) (v : Nat) (hk0 : Keeps b0 s) : Keeps b0 (wrAtb s v) := by
  unfold wrAtb
  first
    | (simp (maxDischargeDepth := 100) (contextual := true) [*]; done)
    | (apply Keeps.of_eq hk0 <;> with_reducible rfl)
    | (try dsimp only
       repeat' split
       all_goals first | with_reducible assumption | simp (maxDischargeDepth := 100) (contextual := true) [*])


end State

open State

theorem execAtbRouteWrite_keeps {b0 : State} (v : Nat) (s : State) (hk0 : Keeps b0 s) : KeepsR b0 (execAtbRouteWrite v s) := by
  unfold execAtbRouteWrite
  exact act_keeps _ _ hk0 (fun s hk0 => by simp (maxDischargeDepth := 100) (contextual := true) [*])

theorem execAtbSettled_keeps {b0 : State} (s : State) (hk0 : Keeps b0 s) : KeepsR b0 (execAtbSettled s) := by
  unfold execAtbSettled
  exact act_keeps _ _ hk0 (fun s hk0 => by simp (maxDischargeDepth := 100) (contextual := true) [*])

end Machine

end Sys2Proof
end

