-- ==== Sys2Proof/Laws/KeepsFabric.lean ====
section
/-!
SUPPORT. Keeps, for the operations of Fabric.lean.
-/

namespace Sys2Proof

namespace Machine

theorem byBase_mem {α : Type} {l : List (Nat × α)} {b : Nat} {f : α} (h : State.byBase l b = some f) : ∃ e ∈ l, e.2 = f := by
  unfold State.byBase at h
  obtain ⟨e, h1, h2⟩ := Option.map_eq_some_iff.1 h
  exact ⟨e, List.mem_of_find?_eq_some h1, h2⟩


namespace State

@[simp] theorem voteFix_keeps {b0 : State} (s : State) (a : Nat) (m : Option Master) (hk0 : Keeps b0 s) : Keeps b0 (voteFix s a m) := by
  unfold voteFix
  simp (maxDischargeDepth := 100) (contextual := true) [*]

@[simp] theorem putField_keeps {b0 : State} (s : State) (f : FieldRow) (a i v : Nat) (hk0 : Keeps b0 s) : Keeps b0 (putField s f a i v) := by
  unfold putField
  first
    | (simp (maxDischargeDepth := 100) (contextual := true) [*]; done)
    | (apply Keeps.of_eq hk0 <;> with_reducible rfl)
    | (try dsimp only
       repeat' split
       all_goals first | with_reducible assumption | simp (maxDischargeDepth := 100) (contextual := true) [*])

@[simp] theorem putFields_keeps {b0 : State} (s : State) (l : List FieldRow) (a i v : Nat) (hk0 : Keeps b0 s) : Keeps b0 (putFields s l a i v) := by
  unfold putFields
  simp (maxDischargeDepth := 100) (contextual := true) [*]

@[simp] theorem settle_keeps {b0 : State} (s : State) (r : RegRow) (i : Nat) (hk0 : Keeps b0 s) : Keeps b0 (settle s r i) := by
  unfold settle
  simp (maxDischargeDepth := 100) (contextual := true) [*]

@[simp] theorem wrForgive_keeps {b0 : State} (s : State) (i v : Nat) (hk0 : Keeps b0 s) : Keeps b0 (wrForgive s i v) := by
  unfold wrForgive
  simp (maxDischargeDepth := 100) (contextual := true) [*]

@[simp] theorem writeOpen_keeps {b0 : State} (s : State) (m : Master) (r : RegRow) (i a v : Nat) (hk0 : Keeps b0 s) : Keeps b0 (writeOpen s m r i a v) := by
  have key : ∀ e ∈ openWrites, ∀ (s : State) (m : Master) (i v : Nat), Keeps b0 s → Keeps b0 (e.2 s m i v) := by
    simp only [openWrites, List.forall_mem_cons]
    refine ⟨?_, ?_, ?_, ?_, ?_, ?_, ?_, ?_, ?_, ?_⟩
    all_goals
      first
      | (intro s m i v hk0
         try dsimp only
         repeat' (first | with_reducible assumption | (simp (maxDischargeDepth := 100) (contextual := true) [*]; done) | refine Keeps.ite _ ?_ ?_ | split)
         done)
      | exact fun e he => (List.not_mem_nil he).elim
  unfold writeOpen
  skip
  skip
  split
  · rename_i f hf
    obtain ⟨e, he, rfl⟩ := byBase_mem hf
    exact key e he _ _ _ _ hk0
  · simp (maxDischargeDepth := 100) (contextual := true) [*]

@[simp] theorem wrPpCmd_keeps {b0 : State} (s : State) (m : Master) (k v : Nat) (hk0 : Keeps b0 s) : Keeps b0 (wrPpCmd s m k v) := by
  unfold wrPpCmd
  first
    | (simp (maxDischargeDepth := 100) (contextual := true) [*]; done)
    | (apply Keeps.of_eq hk0 <;> with_reducible rfl)
    | (try dsimp only
       repeat' split
       all_goals first | with_reducible assumption | simp (maxDischargeDepth := 100) (contextual := true) [*])

@[simp] theorem wrPdCmd_keeps {b0 : State} (s : State) (k v : Nat) (hk0 : Keeps b0 s) : Keeps b0 (wrPdCmd s k v) := by
  unfold wrPdCmd
  first
    | (simp (maxDischargeDepth := 100) (contextual := true) [*]; done)
    | (apply Keeps.of_eq hk0 <;> with_reducible rfl)
    | (try dsimp only
       repeat' split
       all_goals first | with_reducible assumption | simp (maxDischargeDepth := 100) (contextual := true) [*])

@[simp] theorem wrEvRoute_keeps {b0 : State} (s : State) (i v : Nat) (hk0 : Keeps b0 s) : Keeps b0 (wrEvRoute s i v) := by
  unfold wrEvRoute
  simp (maxDischargeDepth := 100) (contextual := true) [*]

@[simp] theorem wrKlCfg_keeps {b0 : State} (s : State) (v : Nat) (hk0 : Keeps b0 s) : Keeps b0 (wrKlCfg s v) := by
  unfold wrKlCfg
  simp (maxDischargeDepth := 100) (contextual := true) [*]

@[simp] theorem mgmtSend_keeps {b0 : State} (s : State) (v : Nat) (hk0 : Keeps b0 s) : Keeps b0 (mgmtSend s v) := by
  unfold mgmtSend
  simp (maxDischargeDepth := 100) (contextual := true) [*]

@[simp] theorem cntRec_keeps {b0 : State} (s : State) (m : Master) (a cmd pre : Nat) (hk0 : Keeps b0 s) : Keeps b0 (cntRec s m a cmd pre) := by
  unfold cntRec
  simp (maxDischargeDepth := 100) (contextual := true) [*]

@[simp] theorem clearAt_keeps {b0 : State} (s : State) (kind a : Nat) (hk0 : Keeps b0 s) : Keeps b0 (clearAt s kind a) := by
  refine ⟨hk0.variant, hk0.pending, hk0.jtag, fun i => ?_⟩
  have j := hk0.inv i
  refine ⟨?_, ?_, ?_, ?_, j.flds_sorted, j.staged_sorted, j.dmem_wf, j.imem_wf, j.loc_wf,
    j.flash_wf⟩ <;> dsimp only [clearAt] <;> split
  · exact Tbl.wf_set _ _ _ _ j.cnts_wf
  · exact j.cnts_wf
  · intro e he
    rcases Tbl.mem_set _ _ _ _ e he with h1 | ⟨rfl, _⟩
    · exact j.cnts_le e h1
    · exact Nat.zero_le _
  · exact j.cnts_le
  · exact Tbl.wf_set _ _ _ _ j.bytes_wf
  · exact j.bytes_wf
  · intro e he
    rcases Tbl.mem_set _ _ _ _ e he with h1 | ⟨rfl, _⟩
    · exact j.bytes_lt e h1
    · exact Nat.two_pow_pos 64
  · exact j.bytes_lt

@[simp] theorem clearWhere_keeps {b0 : State} (s : State) (p : Nat → Bool) (hk0 : Keeps b0 s) : Keeps b0 (clearWhere s p) := by
  refine ⟨hk0.variant, hk0.pending, hk0.jtag, fun i => ?_⟩
  have j := hk0.inv i
  exact ⟨Tbl.wf_filter _ _ _ j.cnts_wf, fun e he => j.cnts_le e (List.mem_filter.1 he).1, Tbl.wf_filter _ _ _ j.bytes_wf,
    fun e he => j.bytes_lt e (List.mem_filter.1 he).1, j.flds_sorted, j.staged_sorted, j.dmem_wf, j.imem_wf, j.loc_wf,
    j.flash_wf⟩

@[simp] theorem clearOne_keeps {b0 : State} (s : State) (m : Master) (hk0 : Keeps b0 s) : Keeps b0 (clearOne s m) := by
  unfold clearOne
  first
    | (simp (maxDischargeDepth := 100) (contextual := true) [*]; done)
    | (apply Keeps.of_eq hk0 <;> with_reducible rfl)
    | (try dsimp only
       repeat' split
       all_goals first | with_reducible assumption | simp (maxDischargeDepth := 100) (contextual := true) [*])

@[simp] theorem clearPrefix_keeps {b0 : State} (s : State) (m : Master) (p : Nat) (hk0 : Keeps b0 s) : Keeps b0 (clearPrefix s m p) := by
  unfold clearPrefix
  simp (maxDischargeDepth := 100) (contextual := true) [*]

@[simp] theorem clearAll_keeps {b0 : State} (s : State) (m : Master) (hk0 : Keeps b0 s) : Keeps b0 (clearAll s m) := by
  unfold clearAll
  simp (maxDischargeDepth := 100) (contextual := true) [*]

@[simp] theorem wrCntCtl_keeps {b0 : State} (s : State) (m : Master) (v : Nat) (hk0 : Keeps b0 s) : Keeps b0 (wrCntCtl s m v) := by
  unfold wrCntCtl
  first
    | (simp (maxDischargeDepth := 100) (contextual := true) [*]; done)
    | (apply Keeps.of_eq hk0 <;> with_reducible rfl)
    | (try dsimp only
       repeat' split
       all_goals first | with_reducible assumption | simp (maxDischargeDepth := 100) (contextual := true) [*])

@[simp] theorem writePriv_keeps {b0 : State} (s : State) (m : Master) (r : RegRow) (i a v : Nat) (hk0 : Keeps b0 s) : Keeps b0 (writePriv s m r i a v) := by
  have key : ∀ e ∈ privWrites, ∀ (s : State) (m : Master) (i v : Nat), Keeps b0 s → Keeps b0 (e.2 s m i v) := by
    simp only [privWrites, List.forall_mem_cons]
    refine ⟨?_, ?_, ?_, ?_, ?_, ?_, ?_, ?_, ?_, ?_, ?_, ?_, ?_, ?_, ?_, ?_, ?_, ?_, ?_, ?_, ?_, ?_, ?_, ?_, ?_⟩
    all_goals
      first
      | (intro s m i v hk0
         try dsimp only
         repeat' (first | with_reducible assumption | (simp (maxDischargeDepth := 100) (contextual := true) [*]; done) | refine Keeps.ite _ ?_ ?_ | split)
         done)
      | exact fun e he => (List.not_mem_nil he).elim
  unfold writePriv
  skip
  skip
  split
  · rename_i f hf
    obtain ⟨e, he, rfl⟩ := byBase_mem hf
    exact key e he _ _ _ _ hk0
  · simp (maxDischargeDepth := 100) (contextual := true) [*]

@[simp] theorem parReset_keeps {b0 : State} (s : State) (r : RegRow) (i a : Nat) (voted : Bool) (m : Option Master) (hk0 : Keeps b0 s) : Keeps b0 (parReset s r i a voted m) := by
  unfold parReset
  simp (maxDischargeDepth := 100) (contextual := true) [*]

@[simp] theorem cfgCheck_keeps {b0 : State} (s : State) (r : RegRow) (i a found : Nat) (m : Option Master) (hk0 : Keeps b0 s) : Keeps b0 (cfgCheck s r i a found m) := by
  unfold cfgCheck
  simp (maxDischargeDepth := 100) (contextual := true) [*]

@[simp] theorem accountsRead_keeps {b0 : State} (s : State) (r : RegRow) (hk0 : Keeps b0 s) : Keeps b0 (accountsRead s r) := by
  unfold accountsRead
  simp (maxDischargeDepth := 100) (contextual := true) [*]

@[simp] theorem readEffect_keeps {b0 : State} (s : State) (r : RegRow) (i a : Nat) (m : Master) (hk0 : Keeps b0 s) : Keeps b0 (readEffect s r i a m) := by
  have key : ∀ e ∈ readEffects, ∀ (s : State) (i : Nat), Keeps b0 s → Keeps b0 (e.2 s i) := by
    simp only [readEffects, List.forall_mem_cons]
    refine ⟨?_, ?_, ?_, ?_, ?_, ?_, ?_, ?_, ?_, ?_, ?_, ?_, ?_, ?_, ?_, ?_⟩
    all_goals
      first
      | (intro s i hk0
         try dsimp only
         repeat' (first | with_reducible assumption | (simp (maxDischargeDepth := 100) (contextual := true) [*]; done) | refine Keeps.ite _ ?_ ?_ | split)
         done)
      | exact fun e he => (List.not_mem_nil he).elim
  unfold readEffect
  extract_lets s1
  have hs1 : Keeps b0 s1 := by simp (maxDischargeDepth := 100) (contextual := true) [s1, hk0]
  split
  · rename_i f hf
    obtain ⟨e, he, rfl⟩ := byBase_mem hf
    exact key e he _ _ hs1
  · simp (maxDischargeDepth := 100) (contextual := true) [*]

@[simp] theorem unmapped_keeps {b0 : State} (s : State) (m : Master) (a : Nat) (hk0 : Keeps b0 s) : Keeps b0 (unmapped s m a) := by
  unfold unmapped
  simp (maxDischargeDepth := 100) (contextual := true) [*]

@[simp] theorem badAccess_keeps {b0 : State} (s : State) (m : Master) (a : Nat) (r : RC) (hk0 : Keeps b0 s) : Keeps b0 (badAccess s m a r) := by
  unfold badAccess
  simp (maxDischargeDepth := 100) (contextual := true) [*]

@[simp] theorem dropSnap_keeps {b0 : State} (s : State) (m : Master) (lo : Nat) (hk0 : Keeps b0 s) : Keeps b0 (dropSnap s m lo) := by
  unfold dropSnap
  simp (maxDischargeDepth := 100) (contextual := true) [*]

@[simp] theorem takeSnap_keeps {b0 : State} (s : State) (m : Master) (lo hi : Nat) (hk0 : Keeps b0 s) : Keeps b0 (takeSnap s m lo hi) := by
  unfold takeSnap
  simp (maxDischargeDepth := 100) (contextual := true) [*]

@[simp] theorem readReg_keeps {b0 : State} (s : State) (m : Master) (a : Nat) (snap : Bool) (hk0 : Keeps b0 s) : Keeps b0 (readReg s m a snap) := by
  unfold readReg
  first
    | (simp (maxDischargeDepth := 100) (contextual := true) [*]; done)
    | (apply Keeps.of_eq hk0 <;> with_reducible rfl)
    | (try dsimp only
       repeat' split
       all_goals first | with_reducible assumption | simp (maxDischargeDepth := 100) (contextual := true) [*])

@[simp] theorem readGuard_keeps {b0 : State} (s : State) (a : Nat) (hk0 : Keeps b0 s) : Keeps b0 (readGuard s a) := by
  unfold readGuard
  simp (maxDischargeDepth := 100) (contextual := true) [*]

@[simp] theorem read32_keeps {b0 : State} (s : State) (m : Master) (a : Nat) (hk0 : Keeps b0 s) : Keeps b0 (read32 s m a) := by
  unfold read32
  simp (maxDischargeDepth := 100) (contextual := true) [*]

@[simp] theorem readLane_keeps {b0 : State} (s : State) (m : Master) (a w : Nat) (hk0 : Keeps b0 s) : Keeps b0 (readLane s m a w) := by
  unfold readLane
  simp (maxDischargeDepth := 100) (contextual := true) [*]

@[simp] theorem read64_keeps {b0 : State} (s : State) (m : Master) (a : Nat) (hk0 : Keeps b0 s) : Keeps b0 (read64 s m a) := by
  unfold read64
  simp (maxDischargeDepth := 100) (contextual := true) [*]

@[simp] theorem slotDrop_keeps {b0 : State} (s : State) (m : Master) (hk0 : Keeps b0 s) : Keeps b0 (slotDrop s m) := by
  unfold slotDrop
  simp (maxDischargeDepth := 100) (contextual := true) [*]

@[simp] theorem slotExpire_keeps {b0 : State} (s : State) (g : GuardSlot) (hk0 : Keeps b0 s) : Keeps b0 (slotExpire s g) := by
  unfold slotExpire
  simp (maxDischargeDepth := 100) (contextual := true) [*]

@[simp] theorem slotHold_keeps {b0 : State} (s : State) (m : Master) (a v : Nat) (hk0 : Keeps b0 s) : Keeps b0 (slotHold s m a v) := by
  unfold slotHold
  first
    | (simp (maxDischargeDepth := 100) (contextual := true) [*]; done)
    | (apply Keeps.of_eq hk0 <;> with_reducible rfl)
    | (try dsimp only
       repeat' split
       all_goals first | with_reducible assumption | simp (maxDischargeDepth := 100) (contextual := true) [*])

@[simp] theorem writeGuarded_keeps {b0 : State} (s : State) (m : Master) (r : RegRow) (i a v : Nat) (hk0 : Keeps b0 s) : Keeps b0 (writeGuarded s m r i a v) := by
  unfold writeGuarded
  simp (maxDischargeDepth := 100) (contextual := true) [*]

@[simp] theorem writeSnap_keeps {b0 : State} (s : State) (m : Master) (a : Nat) (hk0 : Keeps b0 s) : Keeps b0 (writeSnap s m a) := by
  unfold writeSnap
  simp (maxDischargeDepth := 100) (contextual := true) [*]

@[simp] theorem writeReg_keeps {b0 : State} (s : State) (m : Master) (a v : Nat) (hk0 : Keeps b0 s) : Keeps b0 (writeReg s m a v) := by
  unfold writeReg
  first
    | (simp (maxDischargeDepth := 100) (contextual := true) [*]; done)
    | (apply Keeps.of_eq hk0 <;> with_reducible rfl)
    | (try dsimp only
       repeat' split
       all_goals first | with_reducible assumption | simp (maxDischargeDepth := 100) (contextual := true) [*])

@[simp] theorem writeComplement_keeps {b0 : State} (s : State) (m : Master) (a v : Nat) (hk0 : Keeps b0 s) : Keeps b0 (writeComplement s m a v) := by
  unfold writeComplement
  first
    | (simp (maxDischargeDepth := 100) (contextual := true) [*]; done)
    | (apply Keeps.of_eq hk0 <;> with_reducible rfl)
    | (try dsimp only
       repeat' split
       all_goals first | with_reducible assumption | simp (maxDischargeDepth := 100) (contextual := true) [*])

@[simp] theorem write32_keeps {b0 : State} (s : State) (m : Master) (a v : Nat) (hk0 : Keeps b0 s) : Keeps b0 (write32 s m a v) := by
  unfold write32
  simp (maxDischargeDepth := 100) (contextual := true) [*]

end State

end Machine

end Sys2Proof
end

