-- ==== Sys2Proof/Laws/KeepsRegisters.lean ====
section
/-!
SUPPORT. Keeps, for the operations of Registers.lean.
-/

namespace Sys2Proof

namespace Machine

namespace State

@[simp] theorem notice_keeps {b0 : State} (s : State) (r : LogRec) (u : Nat) (hk0 : Keeps b0 s) : Keeps b0 (notice s r u) := by
  unfold notice
  simp (maxDischargeDepth := 100) (contextual := true) [*]

@[simp] theorem logStep_keeps {b0 : State} (s : State) (hk0 : Keeps b0 s) : Keeps b0 (logStep s) := by
  unfold logStep
  first
    | (simp (maxDischargeDepth := 100) (contextual := true) [*]; done)
    | (apply Keeps.of_eq hk0 <;> with_reducible rfl)
    | (try dsimp only
       repeat' split
       all_goals first | with_reducible assumption | simp (maxDischargeDepth := 100) (contextual := true) [*])

@[simp] theorem accessCheck_keeps {b0 : State} (s : State) (m : Master) (a w : Nat) (write : Bool) (hk0 : Keeps b0 s) : Keeps b0 (accessCheck s m a w write) := by
  unfold accessCheck
  simp (maxDischargeDepth := 100) (contextual := true) [*]

@[simp] theorem wrProtSel_keeps {b0 : State} (s : State) (v : Nat) (bad : List Nat) (hk0 : Keeps b0 s) : Keeps b0 (wrProtSel s v bad) := by
  unfold wrProtSel
  refine answer_keeps _ _ (set_keeps _ _ _ ?_)
  repeat' (first | with_reducible assumption | (simp (maxDischargeDepth := 100) (contextual := true) [*]; done) | refine Keeps.ite _ ?_ ?_ | refine Keeps.foldl _ _ (fun s a hk0 => ?_) ?_ | split)

@[simp] theorem hostReads_keeps {b0 : State} (s : State) (u a n : Nat) (hk0 : Keeps b0 s) : Keeps b0 (hostReads s u a n).1 := by
  unfold hostReads
  simp (maxDischargeDepth := 100) (contextual := true) [*]

@[simp] theorem hostWrites_keeps {b0 : State} (s : State) (u a : Nat) (l : List Nat) (hk0 : Keeps b0 s) : Keeps b0 (hostWrites s u a l).1 := by
  unfold hostWrites
  simp (maxDischargeDepth := 100) (contextual := true) [*]

@[simp] theorem atMgmt_keeps {b0 : State} (s : State) (u : Nat) (f : State → State) (hk0 : Keeps b0 s) (hf : ∀ s, Keeps b0 s → Keeps b0 (f s)) : Keeps b0 (atMgmt s u f) := by
  unfold atMgmt
  simp (maxDischargeDepth := 100) (contextual := true) [*]


end State

open State

theorem execAbsentWrite_keeps {b0 : State} (m : Master) (a v : Nat) (s : State) (hk0 : Keeps b0 s) : KeepsR b0 (execAbsentWrite m a v s) := by
  unfold execAbsentWrite
  exact act_keeps _ _ hk0 (fun s hk0 => by simp (maxDischargeDepth := 100) (contextual := true) [*])

theorem execRegisterWrite_keeps {b0 : State} (m : Master) (a v : Nat) (s : State) (hk0 : Keeps b0 s) : KeepsR b0 (execRegisterWrite m a v s) := by
  unfold execRegisterWrite
  exact act_keeps _ _ hk0 (fun s hk0 => by simp (maxDischargeDepth := 100) (contextual := true) [*])

theorem execGuardWrite_keeps {b0 : State} (m : Master) (a v : Nat) (s : State) (hk0 : Keeps b0 s) : KeepsR b0 (execGuardWrite m a v s) := by
  unfold execGuardWrite
  exact act_keeps _ _ hk0 (fun s hk0 => by simp (maxDischargeDepth := 100) (contextual := true) [*])

theorem execGuardExpiry_keeps {b0 : State} (m : Master) (s : State) (hk0 : Keeps b0 s) : KeepsR b0 (execGuardExpiry m s) := by
  unfold execGuardExpiry
  first
    | refine act_keeps _ _ hk0 (fun s hk0 => ?_)
    | refine tcAct_keeps _ _ _ hk0 (fun s hk0 => ?_)
    | refine KeepsR.next ?_
  first
    | (simp (maxDischargeDepth := 100) (contextual := true) [*]; done)
    | (try dsimp only
       repeat' split
       all_goals first | with_reducible assumption | simp (maxDischargeDepth := 100) (contextual := true) [*])

theorem execPairLoRead_keeps {b0 : State} (m : Master) (a : Nat) (s : State) (hk0 : Keeps b0 s) : KeepsR b0 (execPairLoRead m a s) := by
  unfold execPairLoRead
  exact act_keeps _ _ hk0 (fun s hk0 => by simp (maxDischargeDepth := 100) (contextual := true) [*])

theorem execSyncAliasRead_keeps {b0 : State} (m : Master) (a : Nat) (s : State) (hk0 : Keeps b0 s) : KeepsR b0 (execSyncAliasRead m a s) := by
  unfold execSyncAliasRead
  exact act_keeps _ _ hk0 (fun s hk0 => by simp (maxDischargeDepth := 100) (contextual := true) [*])

theorem execUnmappedAccess_keeps {b0 : State} (m : Master) (a : Nat) (s : State) (hk0 : Keeps b0 s) : KeepsR b0 (execUnmappedAccess m a s) := by
  unfold execUnmappedAccess
  exact act_keeps _ _ hk0 (fun s hk0 => by simp (maxDischargeDepth := 100) (contextual := true) [*])

theorem execAccessError_keeps {b0 : State} (m : Master) (a w : Nat) (write : Bool) (s : State) (hk0 : Keeps b0 s) : KeepsR b0 (execAccessError m a w write s) := by
  unfold execAccessError
  exact act_keeps _ _ hk0 (fun s hk0 => by simp (maxDischargeDepth := 100) (contextual := true) [*])

theorem execConfigScrub_keeps {b0 : State} (a found : Nat) (s : State) (hk0 : Keeps b0 s) : KeepsR b0 (execConfigScrub a found s) := by
  unfold execConfigScrub
  first
    | refine act_keeps _ _ hk0 (fun s hk0 => ?_)
    | refine tcAct_keeps _ _ _ hk0 (fun s hk0 => ?_)
    | refine KeepsR.next ?_
  first
    | (simp (maxDischargeDepth := 100) (contextual := true) [*]; done)
    | (try dsimp only
       repeat' split
       all_goals first | with_reducible assumption | simp (maxDischargeDepth := 100) (contextual := true) [*])

theorem execProtSelWrite_keeps {b0 : State} (v : Nat) (bad : List Nat) (s : State) (hk0 : Keeps b0 s) : KeepsR b0 (execProtSelWrite v bad s) := by
  unfold execProtSelWrite
  exact act_keeps _ _ hk0 (fun s hk0 => by simp (maxDischargeDepth := 100) (contextual := true) [*])

theorem execClearOne_keeps {b0 : State} (m : Master) (s : State) (hk0 : Keeps b0 s) : KeepsR b0 (execClearOne m s) := by
  unfold execClearOne
  exact act_keeps _ _ hk0 (fun s hk0 => by simp (maxDischargeDepth := 100) (contextual := true) [*])

theorem execClearPrefix_keeps {b0 : State} (m : Master) (p : Nat) (s : State) (hk0 : Keeps b0 s) : KeepsR b0 (execClearPrefix m p s) := by
  unfold execClearPrefix
  exact act_keeps _ _ hk0 (fun s hk0 => by simp (maxDischargeDepth := 100) (contextual := true) [*])

theorem execClearAll_keeps {b0 : State} (m : Master) (s : State) (hk0 : Keeps b0 s) : KeepsR b0 (execClearAll m s) := by
  unfold execClearAll
  exact act_keeps _ _ hk0 (fun s hk0 => by simp (maxDischargeDepth := 100) (contextual := true) [*])

theorem execLogRecordWrite_keeps {b0 : State} (s : State) (hk0 : Keeps b0 s) : KeepsR b0 (execLogRecordWrite s) := by
  unfold execLogRecordWrite
  exact act_keeps _ _ hk0 (fun s hk0 => by simp (maxDischargeDepth := 100) (contextual := true) [*])

theorem execRegRead_keeps {b0 : State} (u a len : Nat) (s : State) (hk0 : Keeps b0 s) : KeepsR b0 (execRegRead u a len s) := by
  unfold execRegRead
  exact act_keeps _ _ hk0 (fun s hk0 => by simp (maxDischargeDepth := 100) (contextual := true) [*])

theorem execRegWrite_keeps {b0 : State} (u a : Nat) (data : List Nat) (status : Bool) (s : State) (hk0 : Keeps b0 s) : KeepsR b0 (execRegWrite u a data status s) := by
  unfold execRegWrite
  exact act_keeps _ _ hk0 (fun s hk0 => by simp (maxDischargeDepth := 100) (contextual := true) [*])

theorem execGetResult_keeps {b0 : State} (u len : Nat) (s : State) (hk0 : Keeps b0 s) : KeepsR b0 (execGetResult u len s) := by
  unfold execGetResult
  exact act_keeps _ _ hk0 (fun s hk0 => by simp (maxDischargeDepth := 100) (contextual := true) [*])

theorem execLogRead_keeps {b0 : State} (u slot len : Nat) (s : State) (hk0 : Keeps b0 s) : KeepsR b0 (execLogRead u slot len s) := by
  unfold execLogRead
  exact act_keeps _ _ hk0 (fun s hk0 => by simp (maxDischargeDepth := 100) (contextual := true) [*])

theorem execVendorRequestUnknown_keeps {b0 : State} (u req len : Nat) (s : State) (hk0 : Keeps b0 s) : KeepsR b0 (execVendorRequestUnknown u req len s) := by
  unfold execVendorRequestUnknown
  exact act_keeps _ _ hk0 (fun s hk0 => by simp (maxDischargeDepth := 100) (contextual := true) [*])

end Machine

end Sys2Proof
end

