-- ==== Sys2Proof/Laws/KeepsMgmt.lean ====
section
/-!
SUPPORT. Keeps, for the operations of Mgmt.lean.
-/

namespace Sys2Proof

namespace Machine

namespace State

@[simp] theorem mgmtTo_keeps {b0 : State} (s : State) (mcode dest len : Nat) (body : List Nat) (hk0 : Keeps b0 s) : Keeps b0 (mgmtTo s mcode dest len body) := by
  unfold mgmtTo
  simp (maxDischargeDepth := 100) (contextual := true) [*]

@[simp] theorem mgmtIn_keeps {b0 : State} (s : State) (u seq dest src hops mcode len : Nat) (body : List Nat) (f : State → State) (hk0 : Keeps b0 s) (hf : ∀ s, Keeps b0 s → Keeps b0 (f s)) : Keeps b0 (mgmtIn s u seq dest src hops mcode len body f) := by
  unfold mgmtIn
  simp (maxDischargeDepth := 100) (contextual := true) [*]

@[simp] theorem peerReads_keeps {b0 : State} (s : State) (src : Nat) (addrs : List Nat) (hk0 : Keeps b0 s) : Keeps b0 (peerReads s src addrs).1 := by
  unfold peerReads
  simp (maxDischargeDepth := 100) (contextual := true) [*]

@[simp] theorem peerWrites_keeps {b0 : State} (s : State) (src : Nat) (pairs : List (Nat × Nat)) (hk0 : Keeps b0 s) : Keeps b0 (peerWrites s src pairs).1 := by
  unfold peerWrites
  simp (maxDischargeDepth := 100) (contextual := true) [*]

@[simp] theorem mboxKcl_keeps {b0 : State} (s : State) (data : List Byte) (hk0 : Keeps b0 s) : Keeps b0 (mboxKcl s data) := by
  unfold mboxKcl
  simp (maxDischargeDepth := 100) (contextual := true) [*]

@[simp] theorem reqDone_keeps {b0 : State} (s : State) (c : Nat) (mcs : List Nat) (hk0 : Keeps b0 s) : Keeps b0 (reqDone s c mcs) := by
  unfold reqDone
  first
    | (simp (maxDischargeDepth := 100) (contextual := true) [*]; done)
    | (apply Keeps.of_eq hk0 <;> with_reducible rfl)
    | (try dsimp only
       repeat' split
       all_goals first | with_reducible assumption | simp (maxDischargeDepth := 100) (contextual := true) [*])


end State

open State

theorem execRegRd_keeps {b0 : State} (u seq dest src hops : Nat) (addrs : List Nat) (s : State) (hk0 : Keeps b0 s) : KeepsR b0 (execRegRd u seq dest src hops addrs s) := by
  unfold execRegRd
  exact act_keeps _ _ hk0 (fun s hk0 => by simp (maxDischargeDepth := 100) (contextual := true) [*])

theorem execRegWr_keeps {b0 : State} (u seq dest src hops : Nat) (pairs : List (Nat × Nat)) (s : State) (hk0 : Keeps b0 s) : KeepsR b0 (execRegWr u seq dest src hops pairs s) := by
  unfold execRegWr
  exact act_keeps _ _ hk0 (fun s hk0 => by simp (maxDischargeDepth := 100) (contextual := true) [*])

theorem execRegRsp_keeps {b0 : State} (u seq dest src hops : Nat) (data : List Byte) (s : State) (hk0 : Keeps b0 s) : KeepsR b0 (execRegRsp u seq dest src hops data s) := by
  unfold execRegRsp
  exact act_keeps _ _ hk0 (fun s hk0 => by simp (maxDischargeDepth := 100) (contextual := true) [*])

theorem execMbx_keeps {b0 : State} (u seq dest src hops : Nat) (data : List Byte) (s : State) (hk0 : Keeps b0 s) : KeepsR b0 (execMbx u seq dest src hops data s) := by
  unfold execMbx
  exact act_keeps _ _ hk0 (fun s hk0 => by simp (maxDischargeDepth := 100) (contextual := true) [*])

theorem execMbxRsp_keeps {b0 : State} (u seq dest src hops : Nat) (busy : Bool) (s : State) (hk0 : Keeps b0 s) : KeepsR b0 (execMbxRsp u seq dest src hops busy s) := by
  unfold execMbxRsp
  exact act_keeps _ _ hk0 (fun s hk0 => by simp (maxDischargeDepth := 100) (contextual := true) [*])

theorem execMbxRetry_keeps {b0 : State} (dest : Nat) (s : State) (hk0 : Keeps b0 s) : KeepsR b0 (execMbxRetry dest s) := by
  unfold execMbxRetry
  first
    | refine act_keeps _ _ hk0 (fun s hk0 => ?_)
    | refine tcAct_keeps _ _ _ hk0 (fun s hk0 => ?_)
    | refine KeepsR.next ?_
  first
    | (simp (maxDischargeDepth := 100) (contextual := true) [*]; done)
    | (try dsimp only
       repeat' split
       all_goals first | with_reducible assumption | simp (maxDischargeDepth := 100) (contextual := true) [*])

theorem execMgmtSend_keeps {b0 : State} (v : Nat) (s : State) (hk0 : Keeps b0 s) : KeepsR b0 (execMgmtSend v s) := by
  unfold execMgmtSend
  exact act_keeps _ _ hk0 (fun s hk0 => by simp (maxDischargeDepth := 100) (contextual := true) [*])

theorem execMgmtRequestTimeout_keeps {b0 : State} (dest mcode : Nat) (s : State) (hk0 : Keeps b0 s) : KeepsR b0 (execMgmtRequestTimeout dest mcode s) := by
  unfold execMgmtRequestTimeout
  exact act_keeps _ _ hk0 (fun s hk0 => by simp (maxDischargeDepth := 100) (contextual := true) [*])

end Machine

end Sys2Proof
end

