-- ==== Sys2Proof/Laws/KeepsRom.lean ====
section
/-!
SUPPORT. Keeps, for the operations of Rom.lean.
-/

namespace Sys2Proof

namespace Machine

namespace State

@[simp] theorem romPdThreads_keeps {b0 : State} (s : State) (hk0 : Keeps b0 s) : Keeps b0 (romPdThreads s) := by
  unfold romPdThreads
  simp (maxDischargeDepth := 100) (contextual := true) [*]

@[simp] theorem romStart_keeps {b0 : State} (s : State) (hk0 : Keeps b0 s) : Keeps b0 (romStart s) := by
  unfold romStart
  simp (maxDischargeDepth := 100) (contextual := true) [*]

@[simp] theorem tableSkip_keeps {b0 : State} (s : State) (i : Nat) (hk0 : Keeps b0 s) : Keeps b0 (tableSkip s i) := by
  unfold tableSkip
  simp (maxDischargeDepth := 100) (contextual := true) [*]

@[simp] theorem tableEntry_keeps {b0 : State} (s : State) (ext : Bool) (i a v : Nat) (hk0 : Keeps b0 s) : Keeps b0 (tableEntry s ext i a v) := by
  unfold tableEntry
  simp (maxDischargeDepth := 100) (contextual := true) [*]

@[simp] theorem applyTable_keeps {b0 : State} (s : State) (b o n : Nat) (ext : Bool) (hk0 : Keeps b0 s) : Keeps b0 (applyTable s b o n ext) := by
  unfold applyTable
  simp (maxDischargeDepth := 100) (contextual := true) [*]

@[simp] theorem loadSections_keeps {b0 : State} (s : State) (b : Nat) (h : Header) (hk0 : Keeps b0 s) : Keeps b0 (loadSections s b h) := by
  exact modTk_keeps _ _ hk0 (fun _ hx => loadBytes_wf _ _ _ hx) fun _ hx => loadBytes_wf _ _ _ hx

@[simp] theorem bootThread_keeps {b0 : State} (s : State) (t a : Nat) (hk0 : Keeps b0 s) : Keeps b0 (bootThread s t a) := by
  unfold bootThread
  simp (maxDischargeDepth := 100) (contextual := true) [*]

@[simp] theorem startRomThreads_keeps {b0 : State} (s : State) (hk0 : Keeps b0 s) : Keeps b0 (startRomThreads s) := by
  unfold startRomThreads
  simp (maxDischargeDepth := 100) (contextual := true) [*]

@[simp] theorem startImageThreads_keeps {b0 : State} (s : State) (h : Header) (hk0 : Keeps b0 s) : Keeps b0 (startImageThreads s h) := by
  unfold startImageThreads
  simp (maxDischargeDepth := 100) (contextual := true) [*]

@[simp] theorem runBank_keeps {b0 : State} (s : State) (b : Nat) (hk0 : Keeps b0 s) : Keeps b0 (runBank s b) := by
  unfold runBank
  simp (maxDischargeDepth := 100) (contextual := true) [*]

@[simp] theorem runRom_keeps {b0 : State} (s : State) (hk0 : Keeps b0 s) : Keeps b0 (runRom s) := by
  unfold runRom
  simp (maxDischargeDepth := 100) (contextual := true) [*]

@[simp] theorem singleLine_keeps {b0 : State} (s : State) (b : Nat) (quadBad : Bool) (hk0 : Keeps b0 s) : Keeps b0 (singleLine s b quadBad) := by
  unfold singleLine
  simp (maxDischargeDepth := 100) (contextual := true) [*]

@[simp] theorem boot379_keeps {b0 : State} (s : State) (quadBadA quadBadB : Bool) (hk0 : Keeps b0 s) : Keeps b0 (boot379 s quadBadA quadBadB) := by
  unfold boot379
  first
    | (simp (maxDischargeDepth := 100) (contextual := true) [*]; done)
    | (apply Keeps.of_eq hk0 <;> with_reducible rfl)
    | (try dsimp only
       repeat' split
       all_goals first | with_reducible assumption | simp (maxDischargeDepth := 100) (contextual := true) [*])


end State

open State

theorem execImageLoaded_keeps {b0 : State} (quadBadA quadBadB : Bool) (s : State) (hk0 : Keeps b0 s) : KeepsR b0 (execImageLoaded quadBadA quadBadB s) := by
  unfold execImageLoaded
  exact act_keeps _ _ hk0 (fun s hk0 => by simp (maxDischargeDepth := 100) (contextual := true) [*])

end Machine

end Sys2Proof
end

