-- ==== Sys2Proof/Laws/KeepsIssue.lean ====
section
/-!
SUPPORT. Keeps, for the operations of Issue.lean.
-/

namespace Sys2Proof

namespace Machine

namespace State

@[simp] theorem nextPc_keeps {b0 : State} (s : State) (t : Nat) (hk0 : Keeps b0 s) : Keeps b0 (nextPc s t) := by
  unfold nextPc
  simp (maxDischargeDepth := 100) (contextual := true) [*]

@[simp] theorem result_keeps {b0 : State} (s : State) (t rd : Nat) (v : Word) (hk0 : Keeps b0 s) : Keeps b0 (result s t rd v) := by
  unfold result
  simp (maxDischargeDepth := 100) (contextual := true) [*]

@[simp] theorem stallT_keeps {b0 : State} (s : State) (t : Nat) (hk0 : Keeps b0 s) : Keeps b0 (stallT s t) := by
  unfold stallT
  simp (maxDischargeDepth := 100) (contextual := true) [*]

@[simp] theorem checked_keeps {b0 : State} (s : State) (t i a : Nat) (f : State → State) (hk0 : Keeps b0 s) (hf : ∀ s, Keeps b0 s → Keeps b0 (f s)) : Keeps b0 (checked s t i a f) := by
  unfold checked
  simp (maxDischargeDepth := 100) (contextual := true) [*]

@[simp] theorem checkedLoc_keeps {b0 : State} (s : State) (t a : Nat) (f : State → State) (hk0 : Keeps b0 s) (hf : ∀ s, Keeps b0 s → Keeps b0 (f s)) : Keeps b0 (checkedLoc s t a f) := by
  unfold checkedLoc
  simp (maxDischargeDepth := 100) (contextual := true) [*]

@[simp] theorem issue_keeps {b0 : State} (s : State) (t w : Nat) (f : State → State) (hk0 : Keeps b0 s) (hf : ∀ s, Keeps b0 s → Keeps b0 (f s)) : Keeps b0 (issue s t w f) := by
  unfold issue
  first
    | (simp (maxDischargeDepth := 100) (contextual := true) [*]; done)
    | (apply Keeps.of_eq hk0 <;> with_reducible rfl)
    | (try dsimp only
       repeat' split
       all_goals first | with_reducible assumption | simp (maxDischargeDepth := 100) (contextual := true) [*])

@[simp] theorem setLres_keeps {b0 : State} (s : State) (t : Nat) (hk0 : Keeps b0 s) : Keeps b0 (setLres s t) := by
  unfold setLres
  simp (maxDischargeDepth := 100) (contextual := true) [*]

@[simp] theorem freeTake_keeps {b0 : State} (s : State) (n : Nat) (hk0 : Keeps b0 s) : Keeps b0 (freeTake s n) := by
  unfold freeTake
  first
    | (simp (maxDischargeDepth := 100) (contextual := true) [*]; done)
    | (apply Keeps.of_eq hk0 <;> with_reducible rfl)
    | (try dsimp only
       repeat' split
       all_goals first | with_reducible assumption | simp (maxDischargeDepth := 100) (contextual := true) [*])

@[simp] theorem regAccess_keeps {b0 : State} (s : State) (t a : Nat) (acc : State → State) (k : State → State) (hk0 : Keeps b0 s) (hacc : ∀ s, Keeps b0 s → Keeps b0 (acc s)) (hk : ∀ s, Keeps b0 s → Keeps b0 (k s)) : Keeps b0 (regAccess s t a acc k) := by
  unfold regAccess
  simp (maxDischargeDepth := 100) (contextual := true) [*]

@[simp] theorem regLoad_keeps {b0 : State} (s : State) (m : Master) (a w : Nat) (hk0 : Keeps b0 s) : Keeps b0 (regLoad s m a w) := by
  unfold regLoad
  first
    | (simp (maxDischargeDepth := 100) (contextual := true) [*]; done)
    | (apply Keeps.of_eq hk0 <;> with_reducible rfl)
    | (try dsimp only
       repeat' split
       all_goals first | with_reducible assumption | simp (maxDischargeDepth := 100) (contextual := true) [*])

@[simp] theorem regStore_keeps {b0 : State} (s : State) (m : Master) (a w v : Nat) (hk0 : Keeps b0 s) : Keeps b0 (regStore s m a w v) := by
  unfold regStore
  simp (maxDischargeDepth := 100) (contextual := true) [*]

@[simp] theorem load_keeps {b0 : State} (s : State) (t a w : Nat) (k : State → Nat → State) (hk0 : Keeps b0 s) (hk : ∀ s a1, Keeps b0 s → Keeps b0 (k s a1)) : Keeps b0 (load s t a w k) := by
  unfold load
  first
    | (simp (maxDischargeDepth := 100) (contextual := true) [*]; done)
    | (apply Keeps.of_eq hk0 <;> with_reducible rfl)
    | (try dsimp only
       repeat' split
       all_goals first | with_reducible assumption | simp (maxDischargeDepth := 100) (contextual := true) [*])

@[simp] theorem putBytes_keeps {b0 : State} (s : State) (t a : Nat) (l : List Byte) (hk0 : Keeps b0 s) : Keeps b0 (putBytes s t a l) := by
  unfold putBytes
  exact Keeps.ite _ (modTk_keeps _ _ hk0 (fun _ hx => loadBytes_wf _ _ _ hx) fun _ hx => hx)
    (modThread_keeps _ _ _ hk0 fun _ hx => loadBytes_wf _ _ _ hx)

@[simp] theorem putCode_keeps {b0 : State} (s : State) (a : Nat) (l : List Byte) (hk0 : Keeps b0 s) :
    Keeps b0 (s.modTk fun x => { x with imem := loadBytes x.imem a l }) :=
  modTk_keeps _ _ hk0 (fun _ hx => hx) fun _ hx => loadBytes_wf _ _ _ hx

@[simp] theorem store_keeps {b0 : State} (s : State) (t a w v : Nat) (hk0 : Keeps b0 s) : Keeps b0 (store s t a w v) := by
  unfold store
  first
    | (simp (maxDischargeDepth := 100) (contextual := true) [*]; done)
    | (apply Keeps.of_eq hk0 <;> with_reducible rfl)
    | (try dsimp only
       repeat' split
       all_goals first | with_reducible assumption | simp (maxDischargeDepth := 100) (contextual := true) [*])

@[simp] theorem atomic_keeps {b0 : State} (s : State) (t rd a : Nat) (f : Word → Word) (hk0 : Keeps b0 s) : Keeps b0 (atomic s t rd a f) := by
  unfold atomic
  first
    | (simp (maxDischargeDepth := 100) (contextual := true) [*]; done)
    | (apply Keeps.of_eq hk0 <;> with_reducible rfl)
    | (try dsimp only
       repeat' split
       all_goals first | with_reducible assumption | simp (maxDischargeDepth := 100) (contextual := true) [*])

@[simp] theorem prim_keeps {b0 : State} (s : State) (t w rd : Nat) (sys : Bool) (f : State → State × Nat) (hk0 : Keeps b0 s) (hf : ∀ s, Keeps b0 s → Keeps b0 (f s).1) : Keeps b0 (prim s t w rd sys f) := by
  unfold prim
  simp (maxDischargeDepth := 100) (contextual := true) [*]

@[simp] theorem primRefuse_keeps {b0 : State} (s : State) (t code : Nat) (hk0 : Keeps b0 s) : Keeps b0 (primRefuse s t code).1 := by
  unfold primRefuse
  simp (maxDischargeDepth := 100) (contextual := true) [*]

end State

end Machine

end Sys2Proof
end

