-- ==== Sys2Proof/Laws/KeepsAlu.lean ====
section
/-!
SUPPORT. Keeps, for the operations of Alu.lean.
-/

namespace Sys2Proof

namespace Machine

namespace State

@[simp] theorem alu_keeps {b0 : State} (s : State) (t w rd : Nat) (f : State → Word) (hk0 : Keeps b0 s) : Keeps b0 (alu s t w rd f) := by
  unfold alu
  simp (maxDischargeDepth := 100) (contextual := true) [*]

@[simp] theorem branch_keeps {b0 : State} (s : State) (t w off : Nat) (c : State → Bool) (hk0 : Keeps b0 s) : Keeps b0 (branch s t w off c) := by
  unfold branch
  simp (maxDischargeDepth := 100) (contextual := true) [*]

@[simp] theorem jump_keeps {b0 : State} (s : State) (t w rd : Nat) (target : State → Word) (hk0 : Keeps b0 s) : Keeps b0 (jump s t w rd target) := by
  unfold jump
  simp (maxDischargeDepth := 100) (contextual := true) [*]

@[simp] theorem loadTo_keeps {b0 : State} (s : State) (t word rt ra off w : Nat) (ext : Nat → Word) (hk0 : Keeps b0 s) : Keeps b0 (loadTo s t word rt ra off w ext) := by
  unfold loadTo
  simp (maxDischargeDepth := 100) (contextual := true) [*]

@[simp] theorem storeFrom_keeps {b0 : State} (s : State) (t word rt ra off w : Nat) (hk0 : Keeps b0 s) : Keeps b0 (storeFrom s t word rt ra off w) := by
  unfold storeFrom
  simp (maxDischargeDepth := 100) (contextual := true) [*]


end State

open State

theorem execAdd_keeps {b0 : State} (t rd ra rb : Nat) (s : State) (hk0 : Keeps b0 s) : KeepsR b0 (execAdd t rd ra rb s) := by
  unfold execAdd
  exact act_keeps _ _ hk0 (fun s hk0 => by simp (maxDischargeDepth := 100) (contextual := true) [*])

theorem execSub_keeps {b0 : State} (t rd ra rb : Nat) (s : State) (hk0 : Keeps b0 s) : KeepsR b0 (execSub t rd ra rb s) := by
  unfold execSub
  exact act_keeps _ _ hk0 (fun s hk0 => by simp (maxDischargeDepth := 100) (contextual := true) [*])

theorem execAnd_keeps {b0 : State} (t rd ra rb : Nat) (s : State) (hk0 : Keeps b0 s) : KeepsR b0 (execAnd t rd ra rb s) := by
  unfold execAnd
  exact act_keeps _ _ hk0 (fun s hk0 => by simp (maxDischargeDepth := 100) (contextual := true) [*])

theorem execOr_keeps {b0 : State} (t rd ra rb : Nat) (s : State) (hk0 : Keeps b0 s) : KeepsR b0 (execOr t rd ra rb s) := by
  unfold execOr
  exact act_keeps _ _ hk0 (fun s hk0 => by simp (maxDischargeDepth := 100) (contextual := true) [*])

theorem execXor_keeps {b0 : State} (t rd ra rb : Nat) (s : State) (hk0 : Keeps b0 s) : KeepsR b0 (execXor t rd ra rb s) := by
  unfold execXor
  exact act_keeps _ _ hk0 (fun s hk0 => by simp (maxDischargeDepth := 100) (contextual := true) [*])

theorem execSll_keeps {b0 : State} (t rd ra rb : Nat) (s : State) (hk0 : Keeps b0 s) : KeepsR b0 (execSll t rd ra rb s) := by
  unfold execSll
  exact act_keeps _ _ hk0 (fun s hk0 => by simp (maxDischargeDepth := 100) (contextual := true) [*])

theorem execSrl_keeps {b0 : State} (t rd ra rb : Nat) (s : State) (hk0 : Keeps b0 s) : KeepsR b0 (execSrl t rd ra rb s) := by
  unfold execSrl
  exact act_keeps _ _ hk0 (fun s hk0 => by simp (maxDischargeDepth := 100) (contextual := true) [*])

theorem execSra_keeps {b0 : State} (t rd ra rb : Nat) (s : State) (hk0 : Keeps b0 s) : KeepsR b0 (execSra t rd ra rb s) := by
  unfold execSra
  exact act_keeps _ _ hk0 (fun s hk0 => by simp (maxDischargeDepth := 100) (contextual := true) [*])

theorem execSlli_keeps {b0 : State} (t rd ra sh : Nat) (s : State) (hk0 : Keeps b0 s) : KeepsR b0 (execSlli t rd ra sh s) := by
  unfold execSlli
  exact act_keeps _ _ hk0 (fun s hk0 => by simp (maxDischargeDepth := 100) (contextual := true) [*])

theorem execSrli_keeps {b0 : State} (t rd ra sh : Nat) (s : State) (hk0 : Keeps b0 s) : KeepsR b0 (execSrli t rd ra sh s) := by
  unfold execSrli
  exact act_keeps _ _ hk0 (fun s hk0 => by simp (maxDischargeDepth := 100) (contextual := true) [*])

theorem execSrai_keeps {b0 : State} (t rd ra sh : Nat) (s : State) (hk0 : Keeps b0 s) : KeepsR b0 (execSrai t rd ra sh s) := by
  unfold execSrai
  exact act_keeps _ _ hk0 (fun s hk0 => by simp (maxDischargeDepth := 100) (contextual := true) [*])

theorem execSlt_keeps {b0 : State} (t rd ra rb : Nat) (s : State) (hk0 : Keeps b0 s) : KeepsR b0 (execSlt t rd ra rb s) := by
  unfold execSlt
  exact act_keeps _ _ hk0 (fun s hk0 => by simp (maxDischargeDepth := 100) (contextual := true) [*])

theorem execSltu_keeps {b0 : State} (t rd ra rb : Nat) (s : State) (hk0 : Keeps b0 s) : KeepsR b0 (execSltu t rd ra rb s) := by
  unfold execSltu
  exact act_keeps _ _ hk0 (fun s hk0 => by simp (maxDischargeDepth := 100) (contextual := true) [*])

theorem execMul_keeps {b0 : State} (t rd ra rb : Nat) (s : State) (hk0 : Keeps b0 s) : KeepsR b0 (execMul t rd ra rb s) := by
  unfold execMul
  exact act_keeps _ _ hk0 (fun s hk0 => by simp (maxDischargeDepth := 100) (contextual := true) [*])

theorem execMulhu_keeps {b0 : State} (t rd ra rb : Nat) (s : State) (hk0 : Keeps b0 s) : KeepsR b0 (execMulhu t rd ra rb s) := by
  unfold execMulhu
  exact act_keeps _ _ hk0 (fun s hk0 => by simp (maxDischargeDepth := 100) (contextual := true) [*])

theorem execExtu_keeps {b0 : State} (t rd ra sh w1 : Nat) (s : State) (hk0 : Keeps b0 s) : KeepsR b0 (execExtu t rd ra sh w1 s) := by
  unfold execExtu
  exact act_keeps _ _ hk0 (fun s hk0 => by simp (maxDischargeDepth := 100) (contextual := true) [*])

theorem execIns_keeps {b0 : State} (t rd ra sh w1 : Nat) (s : State) (hk0 : Keeps b0 s) : KeepsR b0 (execIns t rd ra sh w1 s) := by
  unfold execIns
  exact act_keeps _ _ hk0 (fun s hk0 => by simp (maxDischargeDepth := 100) (contextual := true) [*])

theorem execClz_keeps {b0 : State} (t rd ra : Nat) (s : State) (hk0 : Keeps b0 s) : KeepsR b0 (execClz t rd ra s) := by
  unfold execClz
  exact act_keeps _ _ hk0 (fun s hk0 => by simp (maxDischargeDepth := 100) (contextual := true) [*])

theorem execAddi_keeps {b0 : State} (t rd ra imm : Nat) (s : State) (hk0 : Keeps b0 s) : KeepsR b0 (execAddi t rd ra imm s) := by
  unfold execAddi
  exact act_keeps _ _ hk0 (fun s hk0 => by simp (maxDischargeDepth := 100) (contextual := true) [*])

theorem execAndi_keeps {b0 : State} (t rd ra imm : Nat) (s : State) (hk0 : Keeps b0 s) : KeepsR b0 (execAndi t rd ra imm s) := by
  unfold execAndi
  exact act_keeps _ _ hk0 (fun s hk0 => by simp (maxDischargeDepth := 100) (contextual := true) [*])

theorem execOri_keeps {b0 : State} (t rd ra imm : Nat) (s : State) (hk0 : Keeps b0 s) : KeepsR b0 (execOri t rd ra imm s) := by
  unfold execOri
  exact act_keeps _ _ hk0 (fun s hk0 => by simp (maxDischargeDepth := 100) (contextual := true) [*])

theorem execXori_keeps {b0 : State} (t rd ra imm : Nat) (s : State) (hk0 : Keeps b0 s) : KeepsR b0 (execXori t rd ra imm s) := by
  unfold execXori
  exact act_keeps _ _ hk0 (fun s hk0 => by simp (maxDischargeDepth := 100) (contextual := true) [*])

theorem execSlti_keeps {b0 : State} (t rd ra imm : Nat) (s : State) (hk0 : Keeps b0 s) : KeepsR b0 (execSlti t rd ra imm s) := by
  unfold execSlti
  exact act_keeps _ _ hk0 (fun s hk0 => by simp (maxDischargeDepth := 100) (contextual := true) [*])

theorem execSltiu_keeps {b0 : State} (t rd ra imm : Nat) (s : State) (hk0 : Keeps b0 s) : KeepsR b0 (execSltiu t rd ra imm s) := by
  unfold execSltiu
  exact act_keeps _ _ hk0 (fun s hk0 => by simp (maxDischargeDepth := 100) (contextual := true) [*])

theorem execLui_keeps {b0 : State} (t rd imm : Nat) (s : State) (hk0 : Keeps b0 s) : KeepsR b0 (execLui t rd imm s) := by
  unfold execLui
  exact act_keeps _ _ hk0 (fun s hk0 => by simp (maxDischargeDepth := 100) (contextual := true) [*])

theorem execJalr_keeps {b0 : State} (t rd ra imm : Nat) (s : State) (hk0 : Keeps b0 s) : KeepsR b0 (execJalr t rd ra imm s) := by
  unfold execJalr
  exact act_keeps _ _ hk0 (fun s hk0 => by simp (maxDischargeDepth := 100) (contextual := true) [*])

theorem execLb_keeps {b0 : State} (t rt ra off : Nat) (s : State) (hk0 : Keeps b0 s) : KeepsR b0 (execLb t rt ra off s) := by
  unfold execLb
  exact act_keeps _ _ hk0 (fun s hk0 => by simp (maxDischargeDepth := 100) (contextual := true) [*])

theorem execLbu_keeps {b0 : State} (t rt ra off : Nat) (s : State) (hk0 : Keeps b0 s) : KeepsR b0 (execLbu t rt ra off s) := by
  unfold execLbu
  exact act_keeps _ _ hk0 (fun s hk0 => by simp (maxDischargeDepth := 100) (contextual := true) [*])

theorem execLh_keeps {b0 : State} (t rt ra off : Nat) (s : State) (hk0 : Keeps b0 s) : KeepsR b0 (execLh t rt ra off s) := by
  unfold execLh
  exact act_keeps _ _ hk0 (fun s hk0 => by simp (maxDischargeDepth := 100) (contextual := true) [*])

theorem execLhu_keeps {b0 : State} (t rt ra off : Nat) (s : State) (hk0 : Keeps b0 s) : KeepsR b0 (execLhu t rt ra off s) := by
  unfold execLhu
  exact act_keeps _ _ hk0 (fun s hk0 => by simp (maxDischargeDepth := 100) (contextual := true) [*])

theorem execLw_keeps {b0 : State} (t rt ra off : Nat) (s : State) (hk0 : Keeps b0 s) : KeepsR b0 (execLw t rt ra off s) := by
  unfold execLw
  exact act_keeps _ _ hk0 (fun s hk0 => by simp (maxDischargeDepth := 100) (contextual := true) [*])

theorem execLwp_keeps {b0 : State} (t rt ra off : Nat) (s : State) (hk0 : Keeps b0 s) : KeepsR b0 (execLwp t rt ra off s) := by
  unfold execLwp
  exact act_keeps _ _ hk0 (fun s hk0 => by simp (maxDischargeDepth := 100) (contextual := true) [*])

theorem execSb_keeps {b0 : State} (t rt ra off : Nat) (s : State) (hk0 : Keeps b0 s) : KeepsR b0 (execSb t rt ra off s) := by
  unfold execSb
  exact act_keeps _ _ hk0 (fun s hk0 => by simp (maxDischargeDepth := 100) (contextual := true) [*])

theorem execSh_keeps {b0 : State} (t rt ra off : Nat) (s : State) (hk0 : Keeps b0 s) : KeepsR b0 (execSh t rt ra off s) := by
  unfold execSh
  exact act_keeps _ _ hk0 (fun s hk0 => by simp (maxDischargeDepth := 100) (contextual := true) [*])

theorem execSw_keeps {b0 : State} (t rt ra off : Nat) (s : State) (hk0 : Keeps b0 s) : KeepsR b0 (execSw t rt ra off s) := by
  unfold execSw
  exact act_keeps _ _ hk0 (fun s hk0 => by simp (maxDischargeDepth := 100) (contextual := true) [*])

theorem execBeq_keeps {b0 : State} (t ra rb off : Nat) (s : State) (hk0 : Keeps b0 s) : KeepsR b0 (execBeq t ra rb off s) := by
  unfold execBeq
  exact act_keeps _ _ hk0 (fun s hk0 => by simp (maxDischargeDepth := 100) (contextual := true) [*])

theorem execBne_keeps {b0 : State} (t ra rb off : Nat) (s : State) (hk0 : Keeps b0 s) : KeepsR b0 (execBne t ra rb off s) := by
  unfold execBne
  exact act_keeps _ _ hk0 (fun s hk0 => by simp (maxDischargeDepth := 100) (contextual := true) [*])

theorem execBlt_keeps {b0 : State} (t ra rb off : Nat) (s : State) (hk0 : Keeps b0 s) : KeepsR b0 (execBlt t ra rb off s) := by
  unfold execBlt
  exact act_keeps _ _ hk0 (fun s hk0 => by simp (maxDischargeDepth := 100) (contextual := true) [*])

theorem execBge_keeps {b0 : State} (t ra rb off : Nat) (s : State) (hk0 : Keeps b0 s) : KeepsR b0 (execBge t ra rb off s) := by
  unfold execBge
  exact act_keeps _ _ hk0 (fun s hk0 => by simp (maxDischargeDepth := 100) (contextual := true) [*])

theorem execBltu_keeps {b0 : State} (t ra rb off : Nat) (s : State) (hk0 : Keeps b0 s) : KeepsR b0 (execBltu t ra rb off s) := by
  unfold execBltu
  exact act_keeps _ _ hk0 (fun s hk0 => by simp (maxDischargeDepth := 100) (contextual := true) [*])

theorem execBgeu_keeps {b0 : State} (t ra rb off : Nat) (s : State) (hk0 : Keeps b0 s) : KeepsR b0 (execBgeu t ra rb off s) := by
  unfold execBgeu
  exact act_keeps _ _ hk0 (fun s hk0 => by simp (maxDischargeDepth := 100) (contextual := true) [*])

theorem execJal_keeps {b0 : State} (t rd off : Nat) (s : State) (hk0 : Keeps b0 s) : KeepsR b0 (execJal t rd off s) := by
  unfold execJal
  exact act_keeps _ _ hk0 (fun s hk0 => by simp (maxDischargeDepth := 100) (contextual := true) [*])

theorem execIllegalEncoding_keeps {b0 : State} (t w : Nat) (s : State) (hk0 : Keeps b0 s) : KeepsR b0 (execIllegalEncoding t w s) := by
  unfold execIllegalEncoding
  exact act_keeps _ _ hk0 (fun s hk0 => by simp (maxDischargeDepth := 100) (contextual := true) [*])

end Machine

end Sys2Proof
end

