-- ==== Sys2Proof/Laws/KeepsPrim.lean ====
section
/-!
SUPPORT. Keeps, for the operations of Prim.lean.
-/

namespace Sys2Proof

namespace Machine

namespace State

@[simp] theorem primPrd_keeps {b0 : State} (s : State) (t rd k off rc : Nat) (hk0 : Keeps b0 s) : Keeps b0 (primPrd s t rd k off rc).1 := by
  unfold primPrd
  simp (maxDischargeDepth := 100) (contextual := true) [*]

@[simp] theorem primPwr_keeps {b0 : State} (s : State) (t k off v mask : Nat) (hk0 : Keeps b0 s) : Keeps b0 (primPwr s t k off v mask).1 := by
  unfold primPwr
  simp (maxDischargeDepth := 100) (contextual := true) [*]

@[simp] theorem keepPdRes_keeps {b0 : State} (s old : State) (k : Nat) (hk0 : Keeps b0 s) : Keeps b0 (keepPdRes s old k) := by
  unfold keepPdRes
  simp (maxDischargeDepth := 100) (contextual := true) [*]

@[simp] theorem pdPrimRefuse_keeps {b0 : State} (s : State) (k code : Nat) (hk0 : Keeps b0 s) : Keeps b0 (pdPrimRefuse s k code).1 := by
  unfold pdPrimRefuse
  simp (maxDischargeDepth := 100) (contextual := true) [*]

@[simp] theorem primPsnd_keeps {b0 : State} (s : State) (t k a : Nat) (hk0 : Keeps b0 s) : Keeps b0 (primPsnd s t k a).1 := by
  unfold primPsnd
  simp (maxDischargeDepth := 100) (contextual := true) [*]

@[simp] theorem primPrcv_keeps {b0 : State} (s : State) (t k a : Nat) (hk0 : Keeps b0 s) : Keeps b0 (primPrcv s t k a).1 := by
  unfold primPrcv
  first
    | (simp (maxDischargeDepth := 100) (contextual := true) [*]; done)
    | (apply Keeps.of_eq hk0 <;> with_reducible rfl)
    | (try dsimp only
       repeat' split
       all_goals first | with_reducible assumption | simp (maxDischargeDepth := 100) (contextual := true) [*])

@[simp] theorem acctUse_keeps {b0 : State} (s : State) (hk0 : Keeps b0 s) : Keeps b0 (acctUse s) := by
  unfold acctUse
  simp (maxDischargeDepth := 100) (contextual := true) [*]

@[simp] theorem primCredit_keeps {b0 : State} (s : State) (k : Nat) (f : State → State × Prim) (hk0 : Keeps b0 s) (hf : ∀ s, Keeps b0 s → Keeps b0 (f s).1) : Keeps b0 (primCredit s k f).1 := by
  unfold primCredit
  simp (maxDischargeDepth := 100) (contextual := true) [*]

@[simp] theorem primQflush_keeps {b0 : State} (s : State) (t q : Nat) (hk0 : Keeps b0 s) : Keeps b0 (primQflush s t q).1 := by
  unfold primQflush
  simp (maxDischargeDepth := 100) (contextual := true) [*]

@[simp] theorem primQget_keeps {b0 : State} (s : State) (t rd q a rc : Nat) (hk0 : Keeps b0 s) : Keeps b0 (primQget s t rd q a rc).1 := by
  unfold primQget
  first
    | (simp (maxDischargeDepth := 100) (contextual := true) [*]; done)
    | (apply Keeps.of_eq hk0 <;> with_reducible rfl)
    | (try dsimp only
       repeat' split
       all_goals first | with_reducible assumption | simp (maxDischargeDepth := 100) (contextual := true) [*])

@[simp] theorem primQput_keeps {b0 : State} (s : State) (t q a c : Nat) (hk0 : Keeps b0 s) : Keeps b0 (primQput s t q a c).1 := by
  unfold primQput
  first
    | (simp (maxDischargeDepth := 100) (contextual := true) [*]; done)
    | (apply Keeps.of_eq hk0 <;> with_reducible rfl)
    | (try dsimp only
       repeat' split
       all_goals first | with_reducible assumption | simp (maxDischargeDepth := 100) (contextual := true) [*])

@[simp] theorem primRget_keeps {b0 : State} (s : State) (t i a : Nat) (hk0 : Keeps b0 s) : Keeps b0 (primRget s t i a).1 := by
  unfold primRget
  first
    | (simp (maxDischargeDepth := 100) (contextual := true) [*]; done)
    | (apply Keeps.of_eq hk0 <;> with_reducible rfl)
    | (try dsimp only
       repeat' split
       all_goals first | with_reducible assumption | simp (maxDischargeDepth := 100) (contextual := true) [*])

@[simp] theorem primRdone_keeps {b0 : State} (s : State) (t i a c : Nat) (hk0 : Keeps b0 s) : Keeps b0 (primRdone s t i a c).1 := by
  unfold primRdone
  simp (maxDischargeDepth := 100) (contextual := true) [*]


end State

open State

theorem execPrd_keeps {b0 : State} (t rd ra rb rc : Nat) (s : State) (hk0 : Keeps b0 s) : KeepsR b0 (execPrd t rd ra rb rc s) := by
  unfold execPrd
  exact act_keeps _ _ hk0 (fun s hk0 => by simp (maxDischargeDepth := 100) (contextual := true) [*])

theorem execPwr_keeps {b0 : State} (t rd ra rb rc : Nat) (s : State) (hk0 : Keeps b0 s) : KeepsR b0 (execPwr t rd ra rb rc s) := by
  unfold execPwr
  exact act_keeps _ _ hk0 (fun s hk0 => by simp (maxDischargeDepth := 100) (contextual := true) [*])

theorem execPwrm_keeps {b0 : State} (t rd ra rb rc : Nat) (s : State) (hk0 : Keeps b0 s) : KeepsR b0 (execPwrm t rd ra rb rc s) := by
  unfold execPwrm
  exact act_keeps _ _ hk0 (fun s hk0 => by simp (maxDischargeDepth := 100) (contextual := true) [*])

theorem execPsnd_keeps {b0 : State} (t rd ra rb : Nat) (s : State) (hk0 : Keeps b0 s) : KeepsR b0 (execPsnd t rd ra rb s) := by
  unfold execPsnd
  exact act_keeps _ _ hk0 (fun s hk0 => by simp (maxDischargeDepth := 100) (contextual := true) [*])

theorem execPrcv_keeps {b0 : State} (t rd ra rb : Nat) (s : State) (hk0 : Keeps b0 s) : KeepsR b0 (execPrcv t rd ra rb s) := by
  unfold execPrcv
  exact act_keeps _ _ hk0 (fun s hk0 => by simp (maxDischargeDepth := 100) (contextual := true) [*])

theorem execTake_keeps {b0 : State} (t rd ra rb : Nat) (s : State) (hk0 : Keeps b0 s) : KeepsR b0 (execTake t rd ra rb s) := by
  unfold execTake
  exact act_keeps _ _ hk0 (fun s hk0 => by simp (maxDischargeDepth := 100) (contextual := true) [*])

theorem execTakeq_keeps {b0 : State} (t rd ra rb : Nat) (s : State) (hk0 : Keeps b0 s) : KeepsR b0 (execTakeq t rd ra rb s) := by
  unfold execTakeq
  exact act_keeps _ _ hk0 (fun s hk0 => by simp (maxDischargeDepth := 100) (contextual := true) [*])

theorem execGive_keeps {b0 : State} (t rd ra rb : Nat) (s : State) (hk0 : Keeps b0 s) : KeepsR b0 (execGive t rd ra rb s) := by
  unfold execGive
  exact act_keeps _ _ hk0 (fun s hk0 => by simp (maxDischargeDepth := 100) (contextual := true) [*])

theorem execCancel_keeps {b0 : State} (t rd ra : Nat) (s : State) (hk0 : Keeps b0 s) : KeepsR b0 (execCancel t rd ra s) := by
  unfold execCancel
  exact act_keeps _ _ hk0 (fun s hk0 => by simp (maxDischargeDepth := 100) (contextual := true) [*])

theorem execAadd_keeps {b0 : State} (t rd ra rb : Nat) (s : State) (hk0 : Keeps b0 s) : KeepsR b0 (execAadd t rd ra rb s) := by
  unfold execAadd
  exact act_keeps _ _ hk0 (fun s hk0 => by simp (maxDischargeDepth := 100) (contextual := true) [*])

theorem execCas_keeps {b0 : State} (t rd ra rb rc : Nat) (s : State) (hk0 : Keeps b0 s) : KeepsR b0 (execCas t rd ra rb rc s) := by
  unfold execCas
  exact act_keeps _ _ hk0 (fun s hk0 => by simp (maxDischargeDepth := 100) (contextual := true) [*])

theorem execEpost_keeps {b0 : State} (t rd ra rb : Nat) (s : State) (hk0 : Keeps b0 s) : KeepsR b0 (execEpost t rd ra rb s) := by
  unfold execEpost
  exact act_keeps _ _ hk0 (fun s hk0 => by simp (maxDischargeDepth := 100) (contextual := true) [*])

theorem execQflush_keeps {b0 : State} (t rd ra : Nat) (s : State) (hk0 : Keeps b0 s) : KeepsR b0 (execQflush t rd ra s) := by
  unfold execQflush
  exact act_keeps _ _ hk0 (fun s hk0 => by simp (maxDischargeDepth := 100) (contextual := true) [*])

theorem execQget_keeps {b0 : State} (t rd ra rb rc : Nat) (s : State) (hk0 : Keeps b0 s) : KeepsR b0 (execQget t rd ra rb rc s) := by
  unfold execQget
  exact act_keeps _ _ hk0 (fun s hk0 => by simp (maxDischargeDepth := 100) (contextual := true) [*])

theorem execQput_keeps {b0 : State} (t rd ra rb rc : Nat) (s : State) (hk0 : Keeps b0 s) : KeepsR b0 (execQput t rd ra rb rc s) := by
  unfold execQput
  exact act_keeps _ _ hk0 (fun s hk0 => by simp (maxDischargeDepth := 100) (contextual := true) [*])

theorem execRget_keeps {b0 : State} (t rd ra rb : Nat) (s : State) (hk0 : Keeps b0 s) : KeepsR b0 (execRget t rd ra rb s) := by
  unfold execRget
  exact act_keeps _ _ hk0 (fun s hk0 => by simp (maxDischargeDepth := 100) (contextual := true) [*])

theorem execRdone_keeps {b0 : State} (t rd ra rb rc : Nat) (s : State) (hk0 : Keeps b0 s) : KeepsR b0 (execRdone t rd ra rb rc s) := by
  unfold execRdone
  exact act_keeps _ _ hk0 (fun s hk0 => by simp (maxDischargeDepth := 100) (contextual := true) [*])

end Machine

end Sys2Proof
end

