-- ==== Sys2Proof/Laws/KeepsRomHost.lean ====
section
/-!
SUPPORT. Keeps, for the operations of RomHost.lean.
-/

namespace Sys2Proof

namespace Machine

namespace State

@[simp] theorem romAnswer_keeps {b0 : State} (s : State) (u : Nat) (hk0 : Keeps b0 s) : Keeps b0 (romAnswer s u) := by
  unfold romAnswer
  first
    | (simp (maxDischargeDepth := 100) (contextual := true) [*]; done)
    | (apply Keeps.of_eq hk0 <;> with_reducible rfl)
    | (try dsimp only
       repeat' split
       all_goals first | with_reducible assumption | simp (maxDischargeDepth := 100) (contextual := true) [*])

@[simp] theorem romTree_keeps {b0 : State} (s : State) (u : Nat) (hk0 : Keeps b0 s) : Keeps b0 (romTree s u) := by
  unfold romTree
  simp (maxDischargeDepth := 100) (contextual := true) [*]

end State

end Machine

end Sys2Proof
end

