-- ==== Sys2Proof/Laws/KeepsRomPolicy.lean ====
section
/-!
SUPPORT. Keeps, for the operations of RomPolicy.lean.
-/

namespace Sys2Proof

namespace Machine

namespace State

@[simp] theorem modWork_keeps {b0 : State} (s : State) (f : RomWork → RomWork) (hk0 : Keeps b0 s) : Keeps b0 (modWork s f) := by
  unfold modWork
  simp (maxDischargeDepth := 100) (contextual := true) [*]

@[simp] theorem shedWatch_keeps {b0 : State} (s : State) (hk0 : Keeps b0 s) : Keeps b0 (shedWatch s) := by
  unfold shedWatch
  simp (maxDischargeDepth := 100) (contextual := true) [*]

@[simp] theorem shedRaise_keeps {b0 : State} (s : State) (v : Nat) (hk0 : Keeps b0 s) : Keeps b0 (shedRaise s v) := by
  unfold shedRaise
  simp (maxDischargeDepth := 100) (contextual := true) [*]

@[simp] theorem shedLevel_keeps {b0 : State} (s : State) (hk0 : Keeps b0 s) : Keeps b0 (shedLevel s) := by
  unfold shedLevel
  simp (maxDischargeDepth := 100) (contextual := true) [*]

@[simp] theorem shedLower_keeps {b0 : State} (s : State) (n : Nat) (hk0 : Keeps b0 s) : Keeps b0 (shedLower s n) := by
  unfold shedLower
  simp (maxDischargeDepth := 100) (contextual := true) [*]

@[simp] theorem shedExit_keeps {b0 : State} (s : State) (hk0 : Keeps b0 s) : Keeps b0 (shedExit s) := by
  unfold shedExit
  simp (maxDischargeDepth := 100) (contextual := true) [*]

@[simp] theorem shedRestore_keeps {b0 : State} (s : State) (hk0 : Keeps b0 s) : Keeps b0 (shedRestore s) := by
  unfold shedRestore
  first
    | (simp (maxDischargeDepth := 100) (contextual := true) [*]; done)
    | (apply Keeps.of_eq hk0 <;> with_reducible rfl)
    | (try dsimp only
       repeat' split
       all_goals first | with_reducible assumption | simp (maxDischargeDepth := 100) (contextual := true) [*])

@[simp] theorem shedVisit_keeps {b0 : State} (s : State) (hk0 : Keeps b0 s) : Keeps b0 (shedVisit s) := by
  unfold shedVisit
  first
    | (simp (maxDischargeDepth := 100) (contextual := true) [*]; done)
    | (apply Keeps.of_eq hk0 <;> with_reducible rfl)
    | (try dsimp only
       repeat' split
       all_goals first | with_reducible assumption | simp (maxDischargeDepth := 100) (contextual := true) [*])

@[simp] theorem romShed_keeps {b0 : State} (s : State) (hk0 : Keeps b0 s) : Keeps b0 (romShed s) := by
  unfold romShed
  simp (maxDischargeDepth := 100) (contextual := true) [*]

@[simp] theorem romAlert_keeps {b0 : State} (s : State) (hk0 : Keeps b0 s) : Keeps b0 (romAlert s) := by
  unfold romAlert
  simp (maxDischargeDepth := 100) (contextual := true) [*]

@[simp] theorem romProt_keeps {b0 : State} (s : State) (v : Nat) (hk0 : Keeps b0 s) : Keeps b0 (romProt s v) := by
  unfold romProt
  simp (maxDischargeDepth := 100) (contextual := true) [*]

@[simp] theorem romBank_keeps {b0 : State} (s : State) (b : Nat) (hk0 : Keeps b0 s) : Keeps b0 (romBank s b) := by
  unfold romBank
  simp (maxDischargeDepth := 100) (contextual := true) [*]

@[simp] theorem romKick_keeps {b0 : State} (s : State) (hk0 : Keeps b0 s) : Keeps b0 (romKick s) := by
  unfold romKick
  simp (maxDischargeDepth := 100) (contextual := true) [*]

@[simp] theorem romTick_keeps {b0 : State} (s : State) (hk0 : Keeps b0 s) : Keeps b0 (romTick s) := by
  unfold romTick
  simp (maxDischargeDepth := 100) (contextual := true) [*]

end State

end Machine

end Sys2Proof
end

