-- ==== Sys2Proof/Laws/KeepsRomService.lean ====
section
/-!
SUPPORT. Keeps, for the operations of RomService.lean.
-/

namespace Sys2Proof

namespace Machine

namespace State

@[simp] theorem releasePort_keeps {b0 : State} (s : State) (k : Nat) (hk0 : Keeps b0 s) : Keeps b0 (releasePort s k).1 := by
  unfold releasePort
  simp (maxDischargeDepth := 100) (contextual := true) [*]

@[simp] theorem releaseTree_keeps {b0 : State} (s : State) (u : Nat) (hk0 : Keeps b0 s) : Keeps b0 (releaseTree s u).1 := by
  unfold releaseTree
  simp (maxDischargeDepth := 100) (contextual := true) [*]

@[simp] theorem consolePut_keeps {b0 : State} (s : State) (t a n : Nat) (hk0 : Keeps b0 s) : Keeps b0 (consolePut s t a n).1 := by
  unfold consolePut
  simp (maxDischargeDepth := 100) (contextual := true) [*]

@[simp] theorem service_keeps {b0 : State} (s : State) (t code : Nat) (sys : Bool) (hk0 : Keeps b0 s) : Keeps b0 (service s t code sys).1 := by
  unfold service
  first
    | (simp (maxDischargeDepth := 100) (contextual := true) [*]; done)
    | (apply Keeps.of_eq hk0 <;> with_reducible rfl)
    | (try dsimp only
       repeat' split
       all_goals first | with_reducible assumption | simp (maxDischargeDepth := 100) (contextual := true) [*])

@[simp] theorem eretT_keeps {b0 : State} (s : State) (t : Nat) (hk0 : Keeps b0 s) : Keeps b0 (eretT s t) := by
  unfold eretT
  simp (maxDischargeDepth := 100) (contextual := true) [*]

@[simp] theorem romHandler_keeps {b0 : State} (s : State) (t code : Nat) (sys : Bool) (hk0 : Keeps b0 s) : Keeps b0 (romHandler s t code sys) := by
  unfold romHandler
  simp (maxDischargeDepth := 100) (contextual := true) [*]

@[simp] theorem trap_keeps {b0 : State} (s : State) (t code : Nat) (hk0 : Keeps b0 s) : Keeps b0 (trap s t code) := by
  unfold trap
  simp (maxDischargeDepth := 100) (contextual := true) [*]

@[simp] theorem romRestart_keeps {b0 : State} (s : State) (hk0 : Keeps b0 s) : Keeps b0 (romRestart s) := by
  unfold romRestart
  simp (maxDischargeDepth := 100) (contextual := true) [*]

@[simp] theorem romFaultNotice_keeps {b0 : State} (s : State) (hk0 : Keeps b0 s) : Keeps b0 (romFaultNotice s) := by
  unfold romFaultNotice
  first
    | (simp (maxDischargeDepth := 100) (contextual := true) [*]; done)
    | (apply Keeps.of_eq hk0 <;> with_reducible rfl)
    | (try dsimp only
       repeat' split
       all_goals first | with_reducible assumption | simp (maxDischargeDepth := 100) (contextual := true) [*])

@[simp] theorem romStall_keeps {b0 : State} (s : State) (hk0 : Keeps b0 s) : Keeps b0 (romStall s) := by
  unfold romStall
  simp (maxDischargeDepth := 100) (contextual := true) [*]

@[simp] theorem romEvent_keeps {b0 : State} (s : State) (t e : Nat) (hk0 : Keeps b0 s) : Keeps b0 (romEvent s t e) := by
  unfold romEvent
  first
    | (simp (maxDischargeDepth := 100) (contextual := true) [*]; done)
    | (apply Keeps.of_eq hk0 <;> with_reducible rfl)
    | (try dsimp only
       repeat' split
       all_goals first | with_reducible assumption | simp (maxDischargeDepth := 100) (contextual := true) [*])

@[simp] theorem waitTake_keeps {b0 : State} (s : State) (t rd : Nat) (hk0 : Keeps b0 s) : Keeps b0 (waitTake s t rd) := by
  unfold waitTake
  first
    | (simp (maxDischargeDepth := 100) (contextual := true) [*]; done)
    | (apply Keeps.of_eq hk0 <;> with_reducible rfl)
    | (try dsimp only
       repeat' split
       all_goals first | with_reducible assumption | simp (maxDischargeDepth := 100) (contextual := true) [*])

end State

end Machine

end Sys2Proof
end

