-- ==== Sys2Proof/Laws/KeepsEventIsa.lean ====
section
/-!
SUPPORT. Keeps, for the operations of EventIsa.lean.
-/

namespace Sys2Proof

namespace Machine

namespace State

@[simp] theorem timerSet_keeps {b0 : State} (s : State) (t j v : Nat) (p : Bool) (hk0 : Keeps b0 s) : Keeps b0 (timerSet s t j v p) := by
  unfold timerSet
  simp (maxDischargeDepth := 100) (contextual := true) [*]


end State

open State

theorem execWait_keeps {b0 : State} (t rd : Nat) (s : State) (hk0 : Keeps b0 s) : KeepsR b0 (execWait t rd s) := by
  unfold execWait
  first
    | refine act_keeps _ _ hk0 (fun s hk0 => ?_)
    | refine tcAct_keeps _ _ _ hk0 (fun s hk0 => ?_)
    | refine KeepsR.next ?_
  refine issue_keeps _ _ _ _ hk0 (fun s hk0 => ?_)
  first
    | (simp (maxDischargeDepth := 100) (contextual := true) [*]; done)
    | (try dsimp only
       repeat' split
       all_goals first | with_reducible assumption | simp (maxDischargeDepth := 100) (contextual := true) [*])

theorem execWaitWake_keeps {b0 : State} (t : Nat) (s : State) (hk0 : Keeps b0 s) : KeepsR b0 (execWaitWake t s) := by
  unfold execWaitWake
  exact act_keeps _ _ hk0 (fun s hk0 => by simp (maxDischargeDepth := 100) (contextual := true) [*])

theorem execEtest_keeps {b0 : State} (t rd : Nat) (s : State) (hk0 : Keeps b0 s) : KeepsR b0 (execEtest t rd s) := by
  unfold execEtest
  first
    | refine act_keeps _ _ hk0 (fun s hk0 => ?_)
    | refine tcAct_keeps _ _ _ hk0 (fun s hk0 => ?_)
    | refine KeepsR.next ?_
  refine issue_keeps _ _ _ _ hk0 (fun s hk0 => ?_)
  first
    | (simp (maxDischargeDepth := 100) (contextual := true) [*]; done)
    | (try dsimp only
       repeat' split
       all_goals first | with_reducible assumption | simp (maxDischargeDepth := 100) (contextual := true) [*])

theorem execEvs_keeps {b0 : State} (t i ra : Nat) (s : State) (hk0 : Keeps b0 s) : KeepsR b0 (execEvs t i ra s) := by
  unfold execEvs
  exact act_keeps _ _ hk0 (fun s hk0 => by simp (maxDischargeDepth := 100) (contextual := true) [*])

theorem execEvc_keeps {b0 : State} (t i ra : Nat) (s : State) (hk0 : Keeps b0 s) : KeepsR b0 (execEvc t i ra s) := by
  unfold execEvc
  exact act_keeps _ _ hk0 (fun s hk0 => by simp (maxDischargeDepth := 100) (contextual := true) [*])

theorem execEvr_keeps {b0 : State} (t rd i : Nat) (s : State) (hk0 : Keeps b0 s) : KeepsR b0 (execEvr t rd i s) := by
  unfold execEvr
  exact act_keeps _ _ hk0 (fun s hk0 => by simp (maxDischargeDepth := 100) (contextual := true) [*])

theorem execEvpr_keeps {b0 : State} (t rd i : Nat) (s : State) (hk0 : Keeps b0 s) : KeepsR b0 (execEvpr t rd i s) := by
  unfold execEvpr
  exact act_keeps _ _ hk0 (fun s hk0 => by simp (maxDischargeDepth := 100) (contextual := true) [*])

theorem execTset_keeps {b0 : State} (t j : Nat) (p : Bool) (ra : Nat) (s : State) (hk0 : Keeps b0 s) : KeepsR b0 (execTset t j p ra s) := by
  unfold execTset
  exact act_keeps _ _ hk0 (fun s hk0 => by simp (maxDischargeDepth := 100) (contextual := true) [*])

theorem execTrd_keeps {b0 : State} (t rd j : Nat) (s : State) (hk0 : Keeps b0 s) : KeepsR b0 (execTrd t rd j s) := by
  unfold execTrd
  exact act_keeps _ _ hk0 (fun s hk0 => by simp (maxDischargeDepth := 100) (contextual := true) [*])

theorem execTrap_keeps {b0 : State} (t code : Nat) (s : State) (hk0 : Keeps b0 s) : KeepsR b0 (execTrap t code s) := by
  unfold execTrap
  exact act_keeps _ _ hk0 (fun s hk0 => by simp (maxDischargeDepth := 100) (contextual := true) [*])

theorem execEret_keeps {b0 : State} (t : Nat) (s : State) (hk0 : Keeps b0 s) : KeepsR b0 (execEret t s) := by
  unfold execEret
  exact act_keeps _ _ hk0 (fun s hk0 => by simp (maxDischargeDepth := 100) (contextual := true) [*])

theorem execTid_keeps {b0 : State} (t rd : Nat) (s : State) (hk0 : Keeps b0 s) : KeepsR b0 (execTid t rd s) := by
  unfold execTid
  exact act_keeps _ _ hk0 (fun s hk0 => by simp (maxDischargeDepth := 100) (contextual := true) [*])

end Machine

end Sys2Proof
end

