-- ==== Sys2Proof/Laws/KeepsConsole.lean ====
section
/-!
SUPPORT. Keeps, for the operations of Console.lean.
-/

namespace Sys2Proof

namespace Machine

namespace State

@[simp] theorem conGate_keeps {b0 : State} (s : State) (need : Nat) (safe : Bool) (f : State → State) (hk0 : Keeps b0 s) (hf : ∀ s, Keeps b0 s → Keeps b0 (f s)) : Keeps b0 (conGate s need safe f) := by
  unfold conGate
  simp (maxDischargeDepth := 100) (contextual := true) [*]

@[simp] theorem conHeld_keeps {b0 : State} (s : State) (k : Nat) (f : State → State) (hk0 : Keeps b0 s) (hf : ∀ s, Keeps b0 s → Keeps b0 (f s)) : Keeps b0 (conHeld s k f) := by
  unfold conHeld
  simp (maxDischargeDepth := 100) (contextual := true) [*]

@[simp] theorem conWrite_keeps {b0 : State} (s : State) (a v : Nat) (hk0 : Keeps b0 s) : Keeps b0 (conWrite s a v).1 := by
  unfold conWrite
  simp (maxDischargeDepth := 100) (contextual := true) [*]

@[simp] theorem conWrites_keeps {b0 : State} (s : State) (l : List (Nat × Nat)) (hk0 : Keeps b0 s) : Keeps b0 (conWrites s l).1 := by
  induction l generalizing s with
  | nil => exact hk0
  | cons e r ih =>
    obtain ⟨a, v⟩ := e
    simp only [conWrites]
    split
    · exact ih _ (conWrite_keeps _ _ _ hk0)
    · exact conWrite_keeps _ _ _ hk0

@[simp] theorem conDo_keeps {b0 : State} (s : State) (l : List (Nat × Nat)) (hk0 : Keeps b0 s) : Keeps b0 (conDo s l) := by
  unfold conDo
  try dsimp only
  repeat' (first | with_reducible assumption | (simp (maxDischargeDepth := 100) (contextual := true) [*]; done) | refine Keeps.ite _ ?_ ?_ | refine Keeps.foldl _ _ (fun s a hk0 => ?_) ?_ | split)

@[simp] theorem conReads_keeps {b0 : State} (s : State) (l : List Nat) (hk0 : Keeps b0 s) : Keeps b0 (conReads s l).1 := by
  unfold conReads
  simp (maxDischargeDepth := 100) (contextual := true) [*]

@[simp] theorem conShow_keeps {b0 : State} (s : State) (l : List Nat) (more : State → List Nat) (hk0 : Keeps b0 s) : Keeps b0 (conShow s l more) := by
  unfold conShow
  simp (maxDischargeDepth := 100) (contextual := true) [*]

@[simp] theorem conView_keeps {b0 : State} (s : State) (safe : Bool) (l : List Nat) (more : State → List Nat) (hk0 : Keeps b0 s) : Keeps b0 (conView s safe l more) := by
  unfold conView
  simp (maxDischargeDepth := 100) (contextual := true) [*]

@[simp] theorem conViewAt_keeps {b0 : State} (s : State) (i last : Nat) (l : List Nat) (more : State → List Nat) (hk0 : Keeps b0 s) : Keeps b0 (conViewAt s i last l more) := by
  unfold conViewAt
  simp (maxDischargeDepth := 100) (contextual := true) [*]

@[simp] theorem conFreeOne_keeps {b0 : State} (s : State) (n : Nat) (hk0 : Keeps b0 s) : Keeps b0 (conFreeOne s n) := by
  unfold conFreeOne
  simp (maxDischargeDepth := 100) (contextual := true) [*]

@[simp] theorem freeAfter_keeps {b0 : State} (s old : State) (hk0 : Keeps b0 s) : Keeps b0 (freeAfter s old) := by
  unfold freeAfter
  simp (maxDischargeDepth := 100) (contextual := true) [*]

@[simp] theorem conFreeHeld_keeps {b0 : State} (s : State) (hk0 : Keeps b0 s) : Keeps b0 (conFreeHeld s) := by
  unfold conFreeHeld
  simp (maxDischargeDepth := 100) (contextual := true) [*]

@[simp] theorem sbDetach_keeps {b0 : State} (s : State) (hk0 : Keeps b0 s) : Keeps b0 (sbDetach s) := by
  unfold sbDetach
  simp (maxDischargeDepth := 100) (contextual := true) [*]

@[simp] theorem serviceEnd_keeps {b0 : State} (s : State) (hk0 : Keeps b0 s) : Keeps b0 (serviceEnd s) := by
  unfold serviceEnd
  simp (maxDischargeDepth := 100) (contextual := true) [*]

@[simp] theorem sessionClose_keeps {b0 : State} (s : State) (why : Nat) (hk0 : Keeps b0 s) : Keeps b0 (sessionClose s why) := by
  unfold sessionClose
  simp (maxDischargeDepth := 100) (contextual := true) [*]

@[simp] theorem conHello_keeps {b0 : State} (s : State) (hasV : Bool) (v : Nat) (hk0 : Keeps b0 s) : Keeps b0 (conHello s hasV v) := by
  unfold conHello
  simp (maxDischargeDepth := 100) (contextual := true) [*]

@[simp] theorem conBye_keeps {b0 : State} (s : State) (hk0 : Keeps b0 s) : Keeps b0 (conBye s) := by
  unfold conBye
  simp (maxDischargeDepth := 100) (contextual := true) [*]

@[simp] theorem conHelp_keeps {b0 : State} (s : State) (hk0 : Keeps b0 s) : Keeps b0 (conHelp s) := by
  unfold conHelp
  simp (maxDischargeDepth := 100) (contextual := true) [*]

@[simp] theorem pinFail_keeps {b0 : State} (s : State) (hk0 : Keeps b0 s) : Keeps b0 (pinFail s) := by
  unfold pinFail
  simp (maxDischargeDepth := 100) (contextual := true) [*]

@[simp] theorem conService_keeps {b0 : State} (s : State) (hasPin : Bool) (pin : Nat) (hk0 : Keeps b0 s) : Keeps b0 (conService s hasPin pin) := by
  unfold conService
  simp (maxDischargeDepth := 100) (contextual := true) [*]

@[simp] theorem conToView_keeps {b0 : State} (s : State) (hk0 : Keeps b0 s) : Keeps b0 (conToView s) := by
  unfold conToView
  simp (maxDischargeDepth := 100) (contextual := true) [*]

@[simp] theorem conBaud_keeps {b0 : State} (s : State) (r : Nat) (hk0 : Keeps b0 s) : Keeps b0 (conBaud s r) := by
  unfold conBaud
  first
    | (simp (maxDischargeDepth := 100) (contextual := true) [*]; done)
    | (apply Keeps.of_eq hk0 <;> with_reducible rfl)
    | (try dsimp only
       repeat' split
       all_goals first | with_reducible assumption | simp (maxDischargeDepth := 100) (contextual := true) [*])

@[simp] theorem conEcho_keeps {b0 : State} (s : State) (on : Bool) (hk0 : Keeps b0 s) : Keeps b0 (conEcho s on) := by
  unfold conEcho
  simp (maxDischargeDepth := 100) (contextual := true) [*]

@[simp] theorem conCap_keeps {b0 : State} (s : State) (hk0 : Keeps b0 s) : Keeps b0 (conCap s) := by
  unfold conCap
  simp (maxDischargeDepth := 100) (contextual := true) [*]

@[simp] theorem conMode_keeps {b0 : State} (s : State) (hk0 : Keeps b0 s) : Keeps b0 (conMode s) := by
  unfold conMode
  simp (maxDischargeDepth := 100) (contextual := true) [*]

@[simp] theorem conReady_keeps {b0 : State} (s : State) (hk0 : Keeps b0 s) : Keeps b0 (conReady s) := by
  unfold conReady
  simp (maxDischargeDepth := 100) (contextual := true) [*]

@[simp] theorem conRst_keeps {b0 : State} (s : State) (hk0 : Keeps b0 s) : Keeps b0 (conRst s) := by
  unfold conRst
  simp (maxDischargeDepth := 100) (contextual := true) [*]

@[simp] theorem conSafe_keeps {b0 : State} (s : State) (hk0 : Keeps b0 s) : Keeps b0 (conSafe s) := by
  unfold conSafe
  simp (maxDischargeDepth := 100) (contextual := true) [*]

@[simp] theorem conBoot_keeps {b0 : State} (s : State) (hk0 : Keeps b0 s) : Keeps b0 (conBoot s) := by
  unfold conBoot
  simp (maxDischargeDepth := 100) (contextual := true) [*]

@[simp] theorem conUpdateStatus_keeps {b0 : State} (s : State) (hk0 : Keeps b0 s) : Keeps b0 (conUpdateStatus s) := by
  unfold conUpdateStatus
  simp (maxDischargeDepth := 100) (contextual := true) [*]

@[simp] theorem conMap_keeps {b0 : State} (s : State) (hk0 : Keeps b0 s) : Keeps b0 (conMap s) := by
  unfold conMap
  simp (maxDischargeDepth := 100) (contextual := true) [*]

@[simp] theorem conPort_keeps {b0 : State} (s : State) (n : Nat) (hk0 : Keeps b0 s) : Keeps b0 (conPort s n) := by
  unfold conPort
  simp (maxDischargeDepth := 100) (contextual := true) [*]

@[simp] theorem conTc_keeps {b0 : State} (s : State) (n : Nat) (hk0 : Keeps b0 s) : Keeps b0 (conTc s n) := by
  unfold conTc
  simp (maxDischargeDepth := 100) (contextual := true) [*]

@[simp] theorem conMoist_keeps {b0 : State} (s : State) (n : Nat) (hk0 : Keeps b0 s) : Keeps b0 (conMoist s n) := by
  unfold conMoist
  simp (maxDischargeDepth := 100) (contextual := true) [*]

@[simp] theorem conLp_keeps {b0 : State} (s : State) (hk0 : Keeps b0 s) : Keeps b0 (conLp s) := by
  unfold conLp
  simp (maxDischargeDepth := 100) (contextual := true) [*]

@[simp] theorem conLpU_keeps {b0 : State} (s : State) (u : Nat) (hk0 : Keeps b0 s) : Keeps b0 (conLpU s u) := by
  unfold conLpU
  simp (maxDischargeDepth := 100) (contextual := true) [*]

@[simp] theorem conLpN_keeps {b0 : State} (s : State) (n : Nat) (hk0 : Keeps b0 s) : Keeps b0 (conLpN s n) := by
  unfold conLpN
  simp (maxDischargeDepth := 100) (contextual := true) [*]

@[simp] theorem conPp_keeps {b0 : State} (s : State) (k : Nat) (hk0 : Keeps b0 s) : Keeps b0 (conPp s k) := by
  unfold conPp
  simp (maxDischargeDepth := 100) (contextual := true) [*]

@[simp] theorem conPd_keeps {b0 : State} (s : State) (k : Nat) (hk0 : Keeps b0 s) : Keeps b0 (conPd s k) := by
  unfold conPd
  simp (maxDischargeDepth := 100) (contextual := true) [*]

@[simp] theorem conPdLog_keeps {b0 : State} (s : State) (k : Nat) (hk0 : Keeps b0 s) : Keeps b0 (conPdLog s k) := by
  unfold conPdLog
  simp (maxDischargeDepth := 100) (contextual := true) [*]

@[simp] theorem conSb_keeps {b0 : State} (s : State) (hk0 : Keeps b0 s) : Keeps b0 (conSb s) := by
  unfold conSb
  simp (maxDischargeDepth := 100) (contextual := true) [*]

@[simp] theorem conBsn_keeps {b0 : State} (s : State) (hk0 : Keeps b0 s) : Keeps b0 (conBsn s) := by
  unfold conBsn
  simp (maxDischargeDepth := 100) (contextual := true) [*]

@[simp] theorem conBsnG_keeps {b0 : State} (s : State) (g : Nat) (hk0 : Keeps b0 s) : Keeps b0 (conBsnG s g) := by
  unfold conBsnG
  simp (maxDischargeDepth := 100) (contextual := true) [*]

@[simp] theorem conTemp_keeps {b0 : State} (s : State) (hk0 : Keeps b0 s) : Keeps b0 (conTemp s) := by
  unfold conTemp
  simp (maxDischargeDepth := 100) (contextual := true) [*]

@[simp] theorem conCaldera_keeps {b0 : State} (s : State) (hk0 : Keeps b0 s) : Keeps b0 (conCaldera s) := by
  unfold conCaldera
  simp (maxDischargeDepth := 100) (contextual := true) [*]

@[simp] theorem conEpt_keeps {b0 : State} (s : State) (hk0 : Keeps b0 s) : Keeps b0 (conEpt s) := by
  unfold conEpt
  simp (maxDischargeDepth := 100) (contextual := true) [*]

@[simp] theorem conEptN_keeps {b0 : State} (s : State) (n : Nat) (hk0 : Keeps b0 s) : Keeps b0 (conEptN s n) := by
  unfold conEptN
  simp (maxDischargeDepth := 100) (contextual := true) [*]

@[simp] theorem conPol_keeps {b0 : State} (s : State) (p : Nat) (hk0 : Keeps b0 s) : Keeps b0 (conPol s p) := by
  unfold conPol
  simp (maxDischargeDepth := 100) (contextual := true) [*]

@[simp] theorem conShp_keeps {b0 : State} (s : State) (x : Nat) (hk0 : Keeps b0 s) : Keeps b0 (conShp s x) := by
  unfold conShp
  simp (maxDischargeDepth := 100) (contextual := true) [*]

@[simp] theorem conSched_keeps {b0 : State} (s : State) (x : Nat) (hk0 : Keeps b0 s) : Keeps b0 (conSched s x) := by
  unfold conSched
  simp (maxDischargeDepth := 100) (contextual := true) [*]

@[simp] theorem conKcl_keeps {b0 : State} (s : State) (hk0 : Keeps b0 s) : Keeps b0 (conKcl s) := by
  unfold conKcl
  simp (maxDischargeDepth := 100) (contextual := true) [*]

@[simp] theorem conKclRoute_keeps {b0 : State} (s : State) (c : Nat) (hk0 : Keeps b0 s) : Keeps b0 (conKclRoute s c) := by
  unfold conKclRoute
  simp (maxDischargeDepth := 100) (contextual := true) [*]

@[simp] theorem conKclPres_keeps {b0 : State} (s : State) (n : Nat) (hk0 : Keeps b0 s) : Keeps b0 (conKclPres s n) := by
  unfold conKclPres
  simp (maxDischargeDepth := 100) (contextual := true) [*]

@[simp] theorem conTk_keeps {b0 : State} (s : State) (hk0 : Keeps b0 s) : Keeps b0 (conTk s) := by
  unfold conTk
  simp (maxDischargeDepth := 100) (contextual := true) [*]

@[simp] theorem conTkT_keeps {b0 : State} (s : State) (t : Nat) (hk0 : Keeps b0 s) : Keeps b0 (conTkT s t) := by
  unfold conTkT
  simp (maxDischargeDepth := 100) (contextual := true) [*]

@[simp] theorem conFault_keeps {b0 : State} (s : State) (hk0 : Keeps b0 s) : Keeps b0 (conFault s) := by
  unfold conFault
  simp (maxDischargeDepth := 100) (contextual := true) [*]

@[simp] theorem conProt_keeps {b0 : State} (s : State) (hk0 : Keeps b0 s) : Keeps b0 (conProt s) := by
  unfold conProt
  simp (maxDischargeDepth := 100) (contextual := true) [*]

@[simp] theorem conLog_keeps {b0 : State} (s : State) (hk0 : Keeps b0 s) : Keeps b0 (conLog s) := by
  unfold conLog
  simp (maxDischargeDepth := 100) (contextual := true) [*]

@[simp] theorem conLogPlume_keeps {b0 : State} (s : State) (hk0 : Keeps b0 s) : Keeps b0 (conLogPlume s) := by
  unfold conLogPlume
  simp (maxDischargeDepth := 100) (contextual := true) [*]

@[simp] theorem conAtb_keeps {b0 : State} (s : State) (hk0 : Keeps b0 s) : Keeps b0 (conAtb s) := by
  unfold conAtb
  simp (maxDischargeDepth := 100) (contextual := true) [*]

@[simp] theorem conRd_keeps {b0 : State} (s : State) (a : Nat) (hk0 : Keeps b0 s) : Keeps b0 (conRd s a) := by
  unfold conRd
  simp (maxDischargeDepth := 100) (contextual := true) [*]

@[simp] theorem holdOne_keeps {b0 : State} (s : State) (n : Nat) (hk0 : Keeps b0 s) : Keeps b0 (holdOne s n) := by
  unfold holdOne
  simp (maxDischargeDepth := 100) (contextual := true) [*]

@[simp] theorem conHold_keeps {b0 : State} (s : State) (n : Nat) (hk0 : Keeps b0 s) : Keeps b0 (conHold s n) := by
  unfold conHold
  simp (maxDischargeDepth := 100) (contextual := true) [*]

@[simp] theorem conHoldAll_keeps {b0 : State} (s : State) (hk0 : Keeps b0 s) : Keeps b0 (conHoldAll s) := by
  unfold conHoldAll
  simp (maxDischargeDepth := 100) (contextual := true) [*]

@[simp] theorem conFree_keeps {b0 : State} (s : State) (n : Nat) (hk0 : Keeps b0 s) : Keeps b0 (conFree s n) := by
  unfold conFree
  simp (maxDischargeDepth := 100) (contextual := true) [*]

@[simp] theorem conFreeAll_keeps {b0 : State} (s : State) (hk0 : Keeps b0 s) : Keeps b0 (conFreeAll s) := by
  unfold conFreeAll
  simp (maxDischargeDepth := 100) (contextual := true) [*]

@[simp] theorem conPpCmd_keeps {b0 : State} (s : State) (k c : Nat) (hk0 : Keeps b0 s) : Keeps b0 (conPpCmd s k c) := by
  unfold conPpCmd
  simp (maxDischargeDepth := 100) (contextual := true) [*]

@[simp] theorem conTcCmd_keeps {b0 : State} (s : State) (n c : Nat) (hk0 : Keeps b0 s) : Keeps b0 (conTcCmd s n c) := by
  unfold conTcCmd
  simp (maxDischargeDepth := 100) (contextual := true) [*]

@[simp] theorem conPdCaps_keeps {b0 : State} (s : State) (k : Nat) (hk0 : Keeps b0 s) : Keeps b0 (conPdCaps s k) := by
  unfold conPdCaps
  try dsimp only
  repeat' (first | with_reducible assumption | (simp (maxDischargeDepth := 100) (contextual := true) [*]; done) | refine Keeps.ite _ ?_ ?_ | refine Keeps.foldl _ _ (fun s a hk0 => ?_) ?_ | split)

@[simp] theorem conPdEprExit_keeps {b0 : State} (s : State) (k : Nat) (hk0 : Keeps b0 s) : Keeps b0 (conPdEprExit s k) := by
  unfold conPdEprExit
  try dsimp only
  repeat' (first | with_reducible assumption | (simp (maxDischargeDepth := 100) (contextual := true) [*]; done) | refine Keeps.ite _ ?_ ?_ | refine Keeps.foldl _ _ (fun s a hk0 => ?_) ?_ | split)

@[simp] theorem conPdHardreset_keeps {b0 : State} (s : State) (k : Nat) (hk0 : Keeps b0 s) : Keeps b0 (conPdHardreset s k) := by
  unfold conPdHardreset
  simp (maxDischargeDepth := 100) (contextual := true) [*]

@[simp] theorem conSbC_keeps {b0 : State} (s : State) (c : Nat) (hk0 : Keeps b0 s) : Keeps b0 (conSbC s c) := by
  unfold conSbC
  simp (maxDischargeDepth := 100) (contextual := true) [*]

@[simp] theorem conSbOff_keeps {b0 : State} (s : State) (hk0 : Keeps b0 s) : Keeps b0 (conSbOff s) := by
  unfold conSbOff
  simp (maxDischargeDepth := 100) (contextual := true) [*]

@[simp] theorem conWr_keeps {b0 : State} (s : State) (a v : Nat) (hk0 : Keeps b0 s) : Keeps b0 (conWr s a v) := by
  unfold conWr
  simp (maxDischargeDepth := 100) (contextual := true) [*]

@[simp] theorem conAtbRoute_keeps {b0 : State} (s : State) (route i : Nat) (hk0 : Keeps b0 s) : Keeps b0 (conAtbRoute s route i) := by
  unfold conAtbRoute
  simp (maxDischargeDepth := 100) (contextual := true) [*]

@[simp] theorem conAtbOff_keeps {b0 : State} (s : State) (hk0 : Keeps b0 s) : Keeps b0 (conAtbOff s) := by
  unfold conAtbOff
  simp (maxDischargeDepth := 100) (contextual := true) [*]

@[simp] theorem conCnt_keeps {b0 : State} (s : State) (l : List (Nat × Nat)) (hk0 : Keeps b0 s) : Keeps b0 (conCnt s l) := by
  unfold conCnt
  simp (maxDischargeDepth := 100) (contextual := true) [*]

@[simp] theorem conFaultInj_keeps {b0 : State} (s : State) (i inst : Nat) (hk0 : Keeps b0 s) : Keeps b0 (conFaultInj s i inst) := by
  unfold conFaultInj
  try dsimp only
  repeat' (first | with_reducible assumption | (simp (maxDischargeDepth := 100) (contextual := true) [*]; done) | refine Keeps.ite _ ?_ ?_ | refine Keeps.foldl _ _ (fun s a hk0 => ?_) ?_ | split)

@[simp] theorem conFaultDisarm_keeps {b0 : State} (s : State) (hk0 : Keeps b0 s) : Keeps b0 (conFaultDisarm s) := by
  unfold conFaultDisarm
  try dsimp only
  repeat' (first | with_reducible assumption | (simp (maxDischargeDepth := 100) (contextual := true) [*]; done) | refine Keeps.ite _ ?_ ?_ | refine Keeps.foldl _ _ (fun s a hk0 => ?_) ?_ | split)

@[simp] theorem conFaultRestart_keeps {b0 : State} (s : State) (hk0 : Keeps b0 s) : Keeps b0 (conFaultRestart s) := by
  unfold conFaultRestart
  simp (maxDischargeDepth := 100) (contextual := true) [*]

@[simp] theorem conUpd_keeps {b0 : State} (s : State) (l : List (Nat × Nat)) (c : Nat) (hk0 : Keeps b0 s) : Keeps b0 (conUpd s l c) := by
  unfold conUpd
  simp (maxDischargeDepth := 100) (contextual := true) [*]

@[simp] theorem offOk_keeps {b0 : State} (s : State) (off : Nat) (f : State → State) (hk0 : Keeps b0 s) (hf : ∀ s, Keeps b0 s → Keeps b0 (f s)) : Keeps b0 (offOk s off f) := by
  unfold offOk
  simp (maxDischargeDepth := 100) (contextual := true) [*]

@[simp] theorem conUpdateErase_keeps {b0 : State} (s : State) (b off : Nat) (hk0 : Keeps b0 s) : Keeps b0 (conUpdateErase s b off) := by
  unfold conUpdateErase
  simp (maxDischargeDepth := 100) (contextual := true) [*]

@[simp] theorem conUpdatePage_keeps {b0 : State} (s : State) (b off : Nat) (data : List Byte) (hk0 : Keeps b0 s) : Keeps b0 (conUpdatePage s b off data) := by
  unfold conUpdatePage
  simp (maxDischargeDepth := 100) (contextual := true) [*]

@[simp] theorem conUpdateVerify_keeps {b0 : State} (s : State) (b : Nat) (hk0 : Keeps b0 s) : Keeps b0 (conUpdateVerify s b) := by
  unfold conUpdateVerify
  simp (maxDischargeDepth := 100) (contextual := true) [*]

@[simp] theorem conModeCtl_keeps {b0 : State} (s : State) (c : Nat) (hk0 : Keeps b0 s) : Keeps b0 (conModeCtl s c) := by
  unfold conModeCtl
  simp (maxDischargeDepth := 100) (contextual := true) [*]

@[simp] theorem testAct_keeps {b0 : State} (s : State) (n k : Nat) (hk0 : Keeps b0 s) : Keeps b0 (testAct s n k) := by
  unfold testAct
  simp (maxDischargeDepth := 100) (contextual := true) [*]

@[simp] theorem testRun_keeps {b0 : State} (s : State) (n k v : Nat) (ok : Bool) (hk0 : Keeps b0 s) : Keeps b0 (testRun s n k v ok) := by
  unfold testRun
  simp (maxDischargeDepth := 100) (contextual := true) [*]

@[simp] theorem conTest_keeps {b0 : State} (s : State) (n : Nat) (hasK : Bool) (k v : Nat) (ok : Bool) (hk0 : Keeps b0 s) : Keeps b0 (conTest s n hasK k v ok) := by
  unfold conTest
  try dsimp only
  repeat' (first | with_reducible assumption | (simp (maxDischargeDepth := 100) (contextual := true) [*]; done) | refine Keeps.ite _ ?_ ?_ | refine Keeps.foldl _ _ (fun s a hk0 => ?_) ?_ | split)

@[simp] theorem conPass_keeps {b0 : State} (s : State) (text : List Nat) (hk0 : Keeps b0 s) : Keeps b0 (conPass s text) := by
  unfold conPass
  simp (maxDischargeDepth := 100) (contextual := true) [*]


end State

open State

theorem execCtrlC_keeps {b0 : State} (s : State) (hk0 : Keeps b0 s) : KeepsR b0 (execCtrlC s) := by
  unfold execCtrlC
  exact act_keeps _ _ hk0 (fun s hk0 => by simp (maxDischargeDepth := 100) (contextual := true) [*])

theorem execConsoleLinePassed_keeps {b0 : State} (text : List Nat) (s : State) (hk0 : Keeps b0 s) : KeepsR b0 (execConsoleLinePassed text s) := by
  unfold execConsoleLinePassed
  exact act_keeps _ _ hk0 (fun s hk0 => by simp (maxDischargeDepth := 100) (contextual := true) [*])

theorem execConsolePassTimeout_keeps {b0 : State} (s : State) (hk0 : Keeps b0 s) : KeepsR b0 (execConsolePassTimeout s) := by
  unfold execConsolePassTimeout
  exact act_keeps _ _ hk0 (fun s hk0 => by simp (maxDischargeDepth := 100) (contextual := true) [*])

theorem execSessionIdleTimeout_keeps {b0 : State} (s : State) (hk0 : Keeps b0 s) : KeepsR b0 (execSessionIdleTimeout s) := by
  unfold execSessionIdleTimeout
  exact act_keeps _ _ hk0 (fun s hk0 => by simp (maxDischargeDepth := 100) (contextual := true) [*])

theorem execPinLockoutEnd_keeps {b0 : State} (s : State) (hk0 : Keeps b0 s) : KeepsR b0 (execPinLockoutEnd s) := by
  unfold execPinLockoutEnd
  exact act_keeps _ _ hk0 (fun s hk0 => by simp (maxDischargeDepth := 100) (contextual := true) [*])

theorem execConHello_keeps {b0 : State} (hasV : Bool) (v : Nat) (s : State) (hk0 : Keeps b0 s) : KeepsR b0 (execConHello hasV v s) := by
  unfold execConHello
  exact act_keeps _ _ hk0 (fun s hk0 => by simp (maxDischargeDepth := 100) (contextual := true) [*])

theorem execConBye_keeps {b0 : State} (s : State) (hk0 : Keeps b0 s) : KeepsR b0 (execConBye s) := by
  unfold execConBye
  exact act_keeps _ _ hk0 (fun s hk0 => by simp (maxDischargeDepth := 100) (contextual := true) [*])

theorem execConHelp_keeps {b0 : State} (s : State) (hk0 : Keeps b0 s) : KeepsR b0 (execConHelp s) := by
  unfold execConHelp
  exact act_keeps _ _ hk0 (fun s hk0 => by simp (maxDischargeDepth := 100) (contextual := true) [*])

theorem execConService_keeps {b0 : State} (hasPin : Bool) (pin : Nat) (s : State) (hk0 : Keeps b0 s) : KeepsR b0 (execConService hasPin pin s) := by
  unfold execConService
  exact act_keeps _ _ hk0 (fun s hk0 => by simp (maxDischargeDepth := 100) (contextual := true) [*])

theorem execConView_keeps {b0 : State} (s : State) (hk0 : Keeps b0 s) : KeepsR b0 (execConView s) := by
  unfold execConView
  exact act_keeps _ _ hk0 (fun s hk0 => by simp (maxDischargeDepth := 100) (contextual := true) [*])

theorem execConBaud_keeps {b0 : State} (r : Nat) (s : State) (hk0 : Keeps b0 s) : KeepsR b0 (execConBaud r s) := by
  unfold execConBaud
  exact act_keeps _ _ hk0 (fun s hk0 => by simp (maxDischargeDepth := 100) (contextual := true) [*])

theorem execConEchoOn_keeps {b0 : State} (s : State) (hk0 : Keeps b0 s) : KeepsR b0 (execConEchoOn s) := by
  unfold execConEchoOn
  exact act_keeps _ _ hk0 (fun s hk0 => by simp (maxDischargeDepth := 100) (contextual := true) [*])

theorem execConEchoOff_keeps {b0 : State} (s : State) (hk0 : Keeps b0 s) : KeepsR b0 (execConEchoOff s) := by
  unfold execConEchoOff
  exact act_keeps _ _ hk0 (fun s hk0 => by simp (maxDischargeDepth := 100) (contextual := true) [*])

theorem execConCap_keeps {b0 : State} (s : State) (hk0 : Keeps b0 s) : KeepsR b0 (execConCap s) := by
  unfold execConCap
  exact act_keeps _ _ hk0 (fun s hk0 => by simp (maxDischargeDepth := 100) (contextual := true) [*])

theorem execConMode_keeps {b0 : State} (s : State) (hk0 : Keeps b0 s) : KeepsR b0 (execConMode s) := by
  unfold execConMode
  exact act_keeps _ _ hk0 (fun s hk0 => by simp (maxDischargeDepth := 100) (contextual := true) [*])

theorem execConReady_keeps {b0 : State} (s : State) (hk0 : Keeps b0 s) : KeepsR b0 (execConReady s) := by
  unfold execConReady
  exact act_keeps _ _ hk0 (fun s hk0 => by simp (maxDischargeDepth := 100) (contextual := true) [*])

theorem execConRst_keeps {b0 : State} (s : State) (hk0 : Keeps b0 s) : KeepsR b0 (execConRst s) := by
  unfold execConRst
  exact act_keeps _ _ hk0 (fun s hk0 => by simp (maxDischargeDepth := 100) (contextual := true) [*])

theorem execConSafe_keeps {b0 : State} (s : State) (hk0 : Keeps b0 s) : KeepsR b0 (execConSafe s) := by
  unfold execConSafe
  exact act_keeps _ _ hk0 (fun s hk0 => by simp (maxDischargeDepth := 100) (contextual := true) [*])

theorem execConBoot_keeps {b0 : State} (s : State) (hk0 : Keeps b0 s) : KeepsR b0 (execConBoot s) := by
  unfold execConBoot
  exact act_keeps _ _ hk0 (fun s hk0 => by simp (maxDischargeDepth := 100) (contextual := true) [*])

theorem execConUpdateStatus_keeps {b0 : State} (s : State) (hk0 : Keeps b0 s) : KeepsR b0 (execConUpdateStatus s) := by
  unfold execConUpdateStatus
  exact act_keeps _ _ hk0 (fun s hk0 => by simp (maxDischargeDepth := 100) (contextual := true) [*])

theorem execConMap_keeps {b0 : State} (s : State) (hk0 : Keeps b0 s) : KeepsR b0 (execConMap s) := by
  unfold execConMap
  exact act_keeps _ _ hk0 (fun s hk0 => by simp (maxDischargeDepth := 100) (contextual := true) [*])

theorem execConPort_keeps {b0 : State} (n : Nat) (s : State) (hk0 : Keeps b0 s) : KeepsR b0 (execConPort n s) := by
  unfold execConPort
  exact act_keeps _ _ hk0 (fun s hk0 => by simp (maxDischargeDepth := 100) (contextual := true) [*])

theorem execConTc_keeps {b0 : State} (n : Nat) (s : State) (hk0 : Keeps b0 s) : KeepsR b0 (execConTc n s) := by
  unfold execConTc
  exact act_keeps _ _ hk0 (fun s hk0 => by simp (maxDischargeDepth := 100) (contextual := true) [*])

theorem execConMoist_keeps {b0 : State} (n : Nat) (s : State) (hk0 : Keeps b0 s) : KeepsR b0 (execConMoist n s) := by
  unfold execConMoist
  exact act_keeps _ _ hk0 (fun s hk0 => by simp (maxDischargeDepth := 100) (contextual := true) [*])

theorem execConLp_keeps {b0 : State} (s : State) (hk0 : Keeps b0 s) : KeepsR b0 (execConLp s) := by
  unfold execConLp
  exact act_keeps _ _ hk0 (fun s hk0 => by simp (maxDischargeDepth := 100) (contextual := true) [*])

theorem execConLpU_keeps {b0 : State} (u : Nat) (s : State) (hk0 : Keeps b0 s) : KeepsR b0 (execConLpU u s) := by
  unfold execConLpU
  exact act_keeps _ _ hk0 (fun s hk0 => by simp (maxDischargeDepth := 100) (contextual := true) [*])

theorem execConLpN_keeps {b0 : State} (n : Nat) (s : State) (hk0 : Keeps b0 s) : KeepsR b0 (execConLpN n s) := by
  unfold execConLpN
  exact act_keeps _ _ hk0 (fun s hk0 => by simp (maxDischargeDepth := 100) (contextual := true) [*])

theorem execConPp_keeps {b0 : State} (k : Nat) (s : State) (hk0 : Keeps b0 s) : KeepsR b0 (execConPp k s) := by
  unfold execConPp
  exact act_keeps _ _ hk0 (fun s hk0 => by simp (maxDischargeDepth := 100) (contextual := true) [*])

theorem execConPd_keeps {b0 : State} (k : Nat) (s : State) (hk0 : Keeps b0 s) : KeepsR b0 (execConPd k s) := by
  unfold execConPd
  exact act_keeps _ _ hk0 (fun s hk0 => by simp (maxDischargeDepth := 100) (contextual := true) [*])

theorem execConPdLog_keeps {b0 : State} (k : Nat) (s : State) (hk0 : Keeps b0 s) : KeepsR b0 (execConPdLog k s) := by
  unfold execConPdLog
  exact act_keeps _ _ hk0 (fun s hk0 => by simp (maxDischargeDepth := 100) (contextual := true) [*])

theorem execConSb_keeps {b0 : State} (s : State) (hk0 : Keeps b0 s) : KeepsR b0 (execConSb s) := by
  unfold execConSb
  exact act_keeps _ _ hk0 (fun s hk0 => by simp (maxDischargeDepth := 100) (contextual := true) [*])

theorem execConBsn_keeps {b0 : State} (s : State) (hk0 : Keeps b0 s) : KeepsR b0 (execConBsn s) := by
  unfold execConBsn
  exact act_keeps _ _ hk0 (fun s hk0 => by simp (maxDischargeDepth := 100) (contextual := true) [*])

theorem execConBsnG_keeps {b0 : State} (g : Nat) (s : State) (hk0 : Keeps b0 s) : KeepsR b0 (execConBsnG g s) := by
  unfold execConBsnG
  exact act_keeps _ _ hk0 (fun s hk0 => by simp (maxDischargeDepth := 100) (contextual := true) [*])

theorem execConTemp_keeps {b0 : State} (s : State) (hk0 : Keeps b0 s) : KeepsR b0 (execConTemp s) := by
  unfold execConTemp
  exact act_keeps _ _ hk0 (fun s hk0 => by simp (maxDischargeDepth := 100) (contextual := true) [*])

theorem execConCaldera_keeps {b0 : State} (s : State) (hk0 : Keeps b0 s) : KeepsR b0 (execConCaldera s) := by
  unfold execConCaldera
  exact act_keeps _ _ hk0 (fun s hk0 => by simp (maxDischargeDepth := 100) (contextual := true) [*])

theorem execConEpt_keeps {b0 : State} (s : State) (hk0 : Keeps b0 s) : KeepsR b0 (execConEpt s) := by
  unfold execConEpt
  exact act_keeps _ _ hk0 (fun s hk0 => by simp (maxDischargeDepth := 100) (contextual := true) [*])

theorem execConEptN_keeps {b0 : State} (n : Nat) (s : State) (hk0 : Keeps b0 s) : KeepsR b0 (execConEptN n s) := by
  unfold execConEptN
  exact act_keeps _ _ hk0 (fun s hk0 => by simp (maxDischargeDepth := 100) (contextual := true) [*])

theorem execConPol_keeps {b0 : State} (p : Nat) (s : State) (hk0 : Keeps b0 s) : KeepsR b0 (execConPol p s) := by
  unfold execConPol
  exact act_keeps _ _ hk0 (fun s hk0 => by simp (maxDischargeDepth := 100) (contextual := true) [*])

theorem execConShp_keeps {b0 : State} (x : Nat) (s : State) (hk0 : Keeps b0 s) : KeepsR b0 (execConShp x s) := by
  unfold execConShp
  exact act_keeps _ _ hk0 (fun s hk0 => by simp (maxDischargeDepth := 100) (contextual := true) [*])

theorem execConSched_keeps {b0 : State} (x : Nat) (s : State) (hk0 : Keeps b0 s) : KeepsR b0 (execConSched x s) := by
  unfold execConSched
  exact act_keeps _ _ hk0 (fun s hk0 => by simp (maxDischargeDepth := 100) (contextual := true) [*])

theorem execConKcl_keeps {b0 : State} (s : State) (hk0 : Keeps b0 s) : KeepsR b0 (execConKcl s) := by
  unfold execConKcl
  exact act_keeps _ _ hk0 (fun s hk0 => by simp (maxDischargeDepth := 100) (contextual := true) [*])

theorem execConKclRoute_keeps {b0 : State} (c : Nat) (s : State) (hk0 : Keeps b0 s) : KeepsR b0 (execConKclRoute c s) := by
  unfold execConKclRoute
  exact act_keeps _ _ hk0 (fun s hk0 => by simp (maxDischargeDepth := 100) (contextual := true) [*])

theorem execConKclPres_keeps {b0 : State} (n : Nat) (s : State) (hk0 : Keeps b0 s) : KeepsR b0 (execConKclPres n s) := by
  unfold execConKclPres
  exact act_keeps _ _ hk0 (fun s hk0 => by simp (maxDischargeDepth := 100) (contextual := true) [*])

theorem execConTk_keeps {b0 : State} (s : State) (hk0 : Keeps b0 s) : KeepsR b0 (execConTk s) := by
  unfold execConTk
  exact act_keeps _ _ hk0 (fun s hk0 => by simp (maxDischargeDepth := 100) (contextual := true) [*])

theorem execConTkT_keeps {b0 : State} (t : Nat) (s : State) (hk0 : Keeps b0 s) : KeepsR b0 (execConTkT t s) := by
  unfold execConTkT
  exact act_keeps _ _ hk0 (fun s hk0 => by simp (maxDischargeDepth := 100) (contextual := true) [*])

theorem execConFault_keeps {b0 : State} (s : State) (hk0 : Keeps b0 s) : KeepsR b0 (execConFault s) := by
  unfold execConFault
  exact act_keeps _ _ hk0 (fun s hk0 => by simp (maxDischargeDepth := 100) (contextual := true) [*])

theorem execConProt_keeps {b0 : State} (s : State) (hk0 : Keeps b0 s) : KeepsR b0 (execConProt s) := by
  unfold execConProt
  exact act_keeps _ _ hk0 (fun s hk0 => by simp (maxDischargeDepth := 100) (contextual := true) [*])

theorem execConLog_keeps {b0 : State} (s : State) (hk0 : Keeps b0 s) : KeepsR b0 (execConLog s) := by
  unfold execConLog
  exact act_keeps _ _ hk0 (fun s hk0 => by simp (maxDischargeDepth := 100) (contextual := true) [*])

theorem execConLogPlume_keeps {b0 : State} (s : State) (hk0 : Keeps b0 s) : KeepsR b0 (execConLogPlume s) := by
  unfold execConLogPlume
  exact act_keeps _ _ hk0 (fun s hk0 => by simp (maxDischargeDepth := 100) (contextual := true) [*])

theorem execConAtb_keeps {b0 : State} (s : State) (hk0 : Keeps b0 s) : KeepsR b0 (execConAtb s) := by
  unfold execConAtb
  exact act_keeps _ _ hk0 (fun s hk0 => by simp (maxDischargeDepth := 100) (contextual := true) [*])

theorem execConRd_keeps {b0 : State} (a : Nat) (s : State) (hk0 : Keeps b0 s) : KeepsR b0 (execConRd a s) := by
  unfold execConRd
  exact act_keeps _ _ hk0 (fun s hk0 => by simp (maxDischargeDepth := 100) (contextual := true) [*])

theorem execConHold_keeps {b0 : State} (n : Nat) (s : State) (hk0 : Keeps b0 s) : KeepsR b0 (execConHold n s) := by
  unfold execConHold
  exact act_keeps _ _ hk0 (fun s hk0 => by simp (maxDischargeDepth := 100) (contextual := true) [*])

theorem execConHoldAll_keeps {b0 : State} (s : State) (hk0 : Keeps b0 s) : KeepsR b0 (execConHoldAll s) := by
  unfold execConHoldAll
  exact act_keeps _ _ hk0 (fun s hk0 => by simp (maxDischargeDepth := 100) (contextual := true) [*])

theorem execConFree_keeps {b0 : State} (n : Nat) (s : State) (hk0 : Keeps b0 s) : KeepsR b0 (execConFree n s) := by
  unfold execConFree
  exact act_keeps _ _ hk0 (fun s hk0 => by simp (maxDischargeDepth := 100) (contextual := true) [*])

theorem execConFreeAll_keeps {b0 : State} (s : State) (hk0 : Keeps b0 s) : KeepsR b0 (execConFreeAll s) := by
  unfold execConFreeAll
  exact act_keeps _ _ hk0 (fun s hk0 => by simp (maxDischargeDepth := 100) (contextual := true) [*])

theorem execConPpOn_keeps {b0 : State} (k : Nat) (s : State) (hk0 : Keeps b0 s) : KeepsR b0 (execConPpOn k s) := by
  unfold execConPpOn
  exact act_keeps _ _ hk0 (fun s hk0 => by simp (maxDischargeDepth := 100) (contextual := true) [*])

theorem execConPpOff_keeps {b0 : State} (k : Nat) (s : State) (hk0 : Keeps b0 s) : KeepsR b0 (execConPpOff k s) := by
  unfold execConPpOff
  exact act_keeps _ _ hk0 (fun s hk0 => by simp (maxDischargeDepth := 100) (contextual := true) [*])

theorem execConPpRelease_keeps {b0 : State} (k : Nat) (s : State) (hk0 : Keeps b0 s) : KeepsR b0 (execConPpRelease k s) := by
  unfold execConPpRelease
  exact act_keeps _ _ hk0 (fun s hk0 => by simp (maxDischargeDepth := 100) (contextual := true) [*])

theorem execConPpClear_keeps {b0 : State} (k : Nat) (s : State) (hk0 : Keeps b0 s) : KeepsR b0 (execConPpClear k s) := by
  unfold execConPpClear
  exact act_keeps _ _ hk0 (fun s hk0 => by simp (maxDischargeDepth := 100) (contextual := true) [*])

theorem execConSteamRelease_keeps {b0 : State} (n : Nat) (s : State) (hk0 : Keeps b0 s) : KeepsR b0 (execConSteamRelease n s) := by
  unfold execConSteamRelease
  exact act_keeps _ _ hk0 (fun s hk0 => by simp (maxDischargeDepth := 100) (contextual := true) [*])

theorem execConTcRecheck_keeps {b0 : State} (n : Nat) (s : State) (hk0 : Keeps b0 s) : KeepsR b0 (execConTcRecheck n s) := by
  unfold execConTcRecheck
  exact act_keeps _ _ hk0 (fun s hk0 => by simp (maxDischargeDepth := 100) (contextual := true) [*])

theorem execConPdCaps_keeps {b0 : State} (k : Nat) (s : State) (hk0 : Keeps b0 s) : KeepsR b0 (execConPdCaps k s) := by
  unfold execConPdCaps
  exact act_keeps _ _ hk0 (fun s hk0 => by simp (maxDischargeDepth := 100) (contextual := true) [*])

theorem execConPdEprExit_keeps {b0 : State} (k : Nat) (s : State) (hk0 : Keeps b0 s) : KeepsR b0 (execConPdEprExit k s) := by
  unfold execConPdEprExit
  exact act_keeps _ _ hk0 (fun s hk0 => by simp (maxDischargeDepth := 100) (contextual := true) [*])

theorem execConPdHardreset_keeps {b0 : State} (k : Nat) (s : State) (hk0 : Keeps b0 s) : KeepsR b0 (execConPdHardreset k s) := by
  unfold execConPdHardreset
  exact act_keeps _ _ hk0 (fun s hk0 => by simp (maxDischargeDepth := 100) (contextual := true) [*])

theorem execConSbC_keeps {b0 : State} (c : Nat) (s : State) (hk0 : Keeps b0 s) : KeepsR b0 (execConSbC c s) := by
  unfold execConSbC
  exact act_keeps _ _ hk0 (fun s hk0 => by simp (maxDischargeDepth := 100) (contextual := true) [*])

theorem execConSbOff_keeps {b0 : State} (s : State) (hk0 : Keeps b0 s) : KeepsR b0 (execConSbOff s) := by
  unfold execConSbOff
  exact act_keeps _ _ hk0 (fun s hk0 => by simp (maxDischargeDepth := 100) (contextual := true) [*])

theorem execConWr_keeps {b0 : State} (a v : Nat) (s : State) (hk0 : Keeps b0 s) : KeepsR b0 (execConWr a v s) := by
  unfold execConWr
  exact act_keeps _ _ hk0 (fun s hk0 => by simp (maxDischargeDepth := 100) (contextual := true) [*])

theorem execConAtbRoute_keeps {b0 : State} (route i : Nat) (s : State) (hk0 : Keeps b0 s) : KeepsR b0 (execConAtbRoute route i s) := by
  unfold execConAtbRoute
  exact act_keeps _ _ hk0 (fun s hk0 => by simp (maxDischargeDepth := 100) (contextual := true) [*])

theorem execConAtbOff_keeps {b0 : State} (s : State) (hk0 : Keeps b0 s) : KeepsR b0 (execConAtbOff s) := by
  unfold execConAtbOff
  exact act_keeps _ _ hk0 (fun s hk0 => by simp (maxDischargeDepth := 100) (contextual := true) [*])

theorem execConTest_keeps {b0 : State} (n : Nat) (hasK : Bool) (k v : Nat) (ok : Bool) (s : State) (hk0 : Keeps b0 s) : KeepsR b0 (execConTest n hasK k v ok s) := by
  unfold execConTest
  exact act_keeps _ _ hk0 (fun s hk0 => by simp (maxDischargeDepth := 100) (contextual := true) [*])

theorem execConCntClearOne_keeps {b0 : State} (a : Nat) (s : State) (hk0 : Keeps b0 s) : KeepsR b0 (execConCntClearOne a s) := by
  unfold execConCntClearOne
  exact act_keeps _ _ hk0 (fun s hk0 => by simp (maxDischargeDepth := 100) (contextual := true) [*])

theorem execConCntClearPrefix_keeps {b0 : State} (p : Nat) (s : State) (hk0 : Keeps b0 s) : KeepsR b0 (execConCntClearPrefix p s) := by
  unfold execConCntClearPrefix
  exact act_keeps _ _ hk0 (fun s hk0 => by simp (maxDischargeDepth := 100) (contextual := true) [*])

theorem execConCntClearAll_keeps {b0 : State} (s : State) (hk0 : Keeps b0 s) : KeepsR b0 (execConCntClearAll s) := by
  unfold execConCntClearAll
  exact act_keeps _ _ hk0 (fun s hk0 => by simp (maxDischargeDepth := 100) (contextual := true) [*])

theorem execConFaultInj_keeps {b0 : State} (i inst : Nat) (s : State) (hk0 : Keeps b0 s) : KeepsR b0 (execConFaultInj i inst s) := by
  unfold execConFaultInj
  exact act_keeps _ _ hk0 (fun s hk0 => by simp (maxDischargeDepth := 100) (contextual := true) [*])

theorem execConFaultDisarm_keeps {b0 : State} (s : State) (hk0 : Keeps b0 s) : KeepsR b0 (execConFaultDisarm s) := by
  unfold execConFaultDisarm
  exact act_keeps _ _ hk0 (fun s hk0 => by simp (maxDischargeDepth := 100) (contextual := true) [*])

theorem execConFaultRestart_keeps {b0 : State} (s : State) (hk0 : Keeps b0 s) : KeepsR b0 (execConFaultRestart s) := by
  unfold execConFaultRestart
  exact act_keeps _ _ hk0 (fun s hk0 => by simp (maxDischargeDepth := 100) (contextual := true) [*])

theorem execConUpdate_keeps {b0 : State} (s : State) (hk0 : Keeps b0 s) : KeepsR b0 (execConUpdate s) := by
  unfold execConUpdate
  exact act_keeps _ _ hk0 (fun s hk0 => by simp (maxDischargeDepth := 100) (contextual := true) [*])

theorem execConUpdateErase_keeps {b0 : State} (b off : Nat) (s : State) (hk0 : Keeps b0 s) : KeepsR b0 (execConUpdateErase b off s) := by
  unfold execConUpdateErase
  exact act_keeps _ _ hk0 (fun s hk0 => by simp (maxDischargeDepth := 100) (contextual := true) [*])

theorem execConUpdatePage_keeps {b0 : State} (b off : Nat) (data : List Byte) (s : State) (hk0 : Keeps b0 s) : KeepsR b0 (execConUpdatePage b off data s) := by
  unfold execConUpdatePage
  exact act_keeps _ _ hk0 (fun s hk0 => by simp (maxDischargeDepth := 100) (contextual := true) [*])

theorem execConUpdateVerify_keeps {b0 : State} (b : Nat) (s : State) (hk0 : Keeps b0 s) : KeepsR b0 (execConUpdateVerify b s) := by
  unfold execConUpdateVerify
  exact act_keeps _ _ hk0 (fun s hk0 => by simp (maxDischargeDepth := 100) (contextual := true) [*])

theorem execConUpdateEnd_keeps {b0 : State} (s : State) (hk0 : Keeps b0 s) : KeepsR b0 (execConUpdateEnd s) := by
  unfold execConUpdateEnd
  exact act_keeps _ _ hk0 (fun s hk0 => by simp (maxDischargeDepth := 100) (contextual := true) [*])

theorem execConSelftest_keeps {b0 : State} (s : State) (hk0 : Keeps b0 s) : KeepsR b0 (execConSelftest s) := by
  unfold execConSelftest
  exact act_keeps _ _ hk0 (fun s hk0 => by simp (maxDischargeDepth := 100) (contextual := true) [*])

theorem execConReset_keeps {b0 : State} (s : State) (hk0 : Keeps b0 s) : KeepsR b0 (execConReset s) := by
  unfold execConReset
  exact act_keeps _ _ hk0 (fun s hk0 => by simp (maxDischargeDepth := 100) (contextual := true) [*])

theorem execConSafeEnter_keeps {b0 : State} (s : State) (hk0 : Keeps b0 s) : KeepsR b0 (execConSafeEnter s) := by
  unfold execConSafeEnter
  exact act_keeps _ _ hk0 (fun s hk0 => by simp (maxDischargeDepth := 100) (contextual := true) [*])

theorem execConSafeRelease_keeps {b0 : State} (s : State) (hk0 : Keeps b0 s) : KeepsR b0 (execConSafeRelease s) := by
  unfold execConSafeRelease
  exact act_keeps _ _ hk0 (fun s hk0 => by simp (maxDischargeDepth := 100) (contextual := true) [*])

theorem execConWake_keeps {b0 : State} (s : State) (hk0 : Keeps b0 s) : KeepsR b0 (execConWake s) := by
  unfold execConWake
  exact act_keeps _ _ hk0 (fun s hk0 => by simp (maxDischargeDepth := 100) (contextual := true) [*])

end Machine

end Sys2Proof
end

