-- ==== Sys2Proof/Laws/KeepsConsoleLine.lean ====
section
/-!
SUPPORT. Keeps, for the operations of ConsoleLine.lean.
-/

namespace Sys2Proof

namespace Machine

/-- What the words of a line do keeps what every operation keeps. -/
def LineKeeps (o : LineAct) : Prop := ∀ f, o = some f → ∀ b0 s, Keeps b0 s → Keeps b0 (f s)

namespace LineKeeps

@[simp] theorem none : LineKeeps none := fun _ h => by cases h

@[simp] theorem some (f : State → State) (h : ∀ b0 s, Keeps b0 s → Keeps b0 (f s)) : LineKeeps (some f) := fun g hg => by
  cases hg; exact h

@[simp] theorem map {α : Type} (o : Option α) (g : α → State → State) (h : ∀ a b0 s, Keeps b0 s → Keeps b0 (g a s)) :
    LineKeeps (o.map g) := by
  cases o with
  | none => exact none
  | some a => exact some _ (h a)

@[simp] theorem bind {α : Type} (o : Option α) (g : α → LineAct) (h : ∀ a, LineKeeps (g a)) : LineKeeps (o.bind g) := by
  cases o with
  | none => exact none
  | some a => exact h a

@[simp] theorem ite (c : Prop) [Decidable c] (a b : LineAct) (ha : LineKeeps a) (hb : LineKeeps b) : LineKeeps (if c then a else b) := by
  split
  · exact ha
  · exact hb

theorem or (a b : LineAct) (ha : LineKeeps a) (hb : LineKeeps b) : LineKeeps (a.or b) := by
  cases a with
  | none => exact hb
  | some f => exact ha

theorem look {α : Type} [BEq α] (l : List (α × (State → State))) (w : α)
    (h : ∀ e ∈ l, ∀ b0 s, Keeps b0 s → Keeps b0 (e.2 s)) : LineKeeps (lookWord l w) := fun f hf => by
  unfold lookWord at hf
  obtain ⟨e, h1, rfl⟩ := Option.map_eq_some_iff.1 hf
  exact h e (List.mem_of_find?_eq_some h1)

end LineKeeps


namespace State

@[simp] theorem conOver_keeps {b0 : State} (s : State) (need : Nat) (hk0 : Keeps b0 s) : Keeps b0 (conOver s need) := by
  unfold conOver
  simp (maxDischargeDepth := 100) (contextual := true) [*]

@[simp] theorem conReg_keeps {b0 : State} (a : Nat) (need : Nat) (f : State → State) (s : State) (hf : ∀ s, Keeps b0 s → Keeps b0 (f s)) (hk0 : Keeps b0 s) : Keeps b0 (conReg a need f s) := by
  unfold conReg
  simp (maxDischargeDepth := 100) (contextual := true) [*]


end State

open State

@[simp] theorem lineTest_keeps {b0 : State} (n : Nat) (hasK : Bool) (k : Nat) (s : State) (hk0 : Keeps b0 s) :
    Keeps b0 (lineTest n hasK k s) := by
  unfold lineTest
  exact freeNext_keeps _ (conTest_keeps _ _ _ _ _ _ hk0)

@[simp] theorem arg1_keeps (w : List Char) (p : List Char → Option Nat) (f : State → Nat → State)
    (h : ∀ n b0 s, Keeps b0 s → Keeps b0 (f s n)) : LineKeeps (arg1 w p f) := LineKeeps.map _ _ h

theorem viewWords_keeps : ∀ e ∈ viewWords, ∀ b0 s, Keeps b0 s → Keeps b0 (e.2 s) := by
  intro e he
  simp only [viewWords, List.mem_cons, List.not_mem_nil, or_false] at he
  rcases he with rfl | rfl | rfl | rfl | rfl | rfl | rfl | rfl | rfl | rfl | rfl | rfl | rfl | rfl | rfl | rfl | rfl | rfl | rfl | rfl | rfl | rfl <;> intro b0 s hk0 <;> simp (maxDischargeDepth := 100) (contextual := true) [*]

theorem serviceWords_keeps : ∀ e ∈ serviceWords, ∀ b0 s, Keeps b0 s → Keeps b0 (e.2 s) := by
  intro e he
  simp only [serviceWords, List.mem_cons, List.not_mem_nil, or_false] at he
  rcases he with rfl | rfl | rfl | rfl <;> intro b0 s hk0 <;> simp (maxDischargeDepth := 100) (contextual := true) [*]

theorem pairWords_keeps : ∀ e ∈ pairWords, ∀ b0 s, Keeps b0 s → Keeps b0 (e.2 s) := by
  intro e he
  simp only [pairWords, List.mem_cons, List.not_mem_nil, or_false] at he
  rcases he with rfl | rfl | rfl | rfl | rfl | rfl | rfl | rfl | rfl | rfl | rfl | rfl | rfl <;> intro b0 s hk0 <;> simp (maxDischargeDepth := 100) (contextual := true) [*]

theorem indexWords_keeps : ∀ e ∈ indexWords, ∀ b0 s n, Keeps b0 s → Keeps b0 (e.2 s n) := by
  intro e he
  simp only [indexWords, List.mem_cons, List.not_mem_nil, or_false] at he
  rcases he with rfl | rfl | rfl | rfl | rfl | rfl | rfl | rfl | rfl <;> intro b0 s n hk0 <;> simp (maxDischargeDepth := 100) (contextual := true) [*]

theorem line1_keeps (w : String) : LineKeeps (line1 w) := by
  unfold line1
  split
  · exact LineKeeps.some _ (fun b0 s hk0 => by simp (maxDischargeDepth := 100) (contextual := true) [*])
  · exact LineKeeps.some _ (fun b0 s hk0 => by simp (maxDischargeDepth := 100) (contextual := true) [*])
  · exact LineKeeps.or _ _ (LineKeeps.look _ _ viewWords_keeps) (LineKeeps.look _ _ serviceWords_keeps)

theorem line2_keeps (w : String) (a : List Char) : LineKeeps (line2 w a) := by
  unfold line2
  split
  · rename_i f hf
    have := LineKeeps.look pairWords _ pairWords_keeps f hf
    exact LineKeeps.some _ this
  · split
    all_goals first
      | (simp (maxDischargeDepth := 100) (contextual := true); done)
      | (split <;> simp (maxDischargeDepth := 100) (contextual := true); done)
      | skip
    intro f hf b0 s hk0
    obtain ⟨g, hg, h2⟩ := Option.bind_eq_some_iff.1 hf
    unfold lookWord at hg
    obtain ⟨e, h1, rfl⟩ := Option.map_eq_some_iff.1 hg
    unfold arg1 at h2
    obtain ⟨n, _, rfl⟩ := Option.map_eq_some_iff.1 h2
    exact indexWords_keeps e (List.mem_of_find?_eq_some h1) b0 s n hk0

theorem line3_keeps (w : String) (a b : List Char) : LineKeeps (line3 w a b) := by
  unfold line3
  split
  all_goals first
    | (simp (maxDischargeDepth := 100) (contextual := true); done)
    | (split <;> simp (maxDischargeDepth := 100) (contextual := true); done)

theorem line4_keeps (w : String) (a b c : List Char) : LineKeeps (line4 w a b c) := by
  unfold line4
  split
  all_goals first
    | (simp (maxDischargeDepth := 100) (contextual := true); done)
    | (split <;> simp (maxDischargeDepth := 100) (contextual := true); done)

theorem line5_keeps (w : String) (a b c d : List Char) : LineKeeps (line5 w a b c d) := by
  unfold line5
  refine LineKeeps.ite _ _ _ ?_ LineKeeps.none
  split
  · exact LineKeeps.some _ (fun b0 s hk0 => by simp (maxDischargeDepth := 100) (contextual := true) [*])
  · exact LineKeeps.none

theorem lineAct_keeps (ws : List (List Char)) : LineKeeps (lineAct ws) := by
  unfold lineAct
  split
  · exact line1_keeps _
  · exact line2_keeps _ _
  · exact line3_keeps _ _ _
  · exact line4_keeps _ _ _ _
  · exact line5_keeps _ _ _ _ _
  · exact LineKeeps.none


namespace State

@[simp] theorem lineErr_keeps {b0 : State} (s : State) (name : String) (hk0 : Keeps b0 s) : Keeps b0 (lineErr s name) := by
  unfold lineErr
  simp (maxDischargeDepth := 100) (contextual := true) [*]

@[simp] theorem conWords_keeps {b0 : State} (s : State) (text : List Nat) (hk0 : Keeps b0 s) : Keeps b0 (conWords s text) := by
  unfold conWords
  split
  · simp [hk0]
  · refine Keeps.ite _ ?_ (by simp [hk0])
    split
    · rename_i f hf
      exact lineAct_keeps _ f hf b0 s hk0
    · simp [hk0]

@[simp] theorem conReceive_keeps {b0 : State} (s : State) (text : List Nat) (bad : Bool) (hk0 : Keeps b0 s) : Keeps b0 (conReceive s text bad) := by
  unfold conReceive
  first
    | (simp (maxDischargeDepth := 100) (contextual := true) [*]; done)
    | (apply Keeps.of_eq hk0 <;> with_reducible rfl)
    | (try dsimp only
       repeat' split
       all_goals first | with_reducible assumption | simp (maxDischargeDepth := 100) (contextual := true) [*])


end State

open State

theorem execConsoleLine_keeps {b0 : State} (text : List Nat) (bad : Bool) (s : State) (hk0 : Keeps b0 s) : KeepsR b0 (execConsoleLine text bad s) := by
  unfold execConsoleLine
  exact act_keeps _ _ hk0 (fun s hk0 => by simp (maxDischargeDepth := 100) (contextual := true) [*])

end Machine

end Sys2Proof
end

