-- ==== Sys2Proof/Laws/KeepsCrypto.lean ====
section
/-!
SUPPORT. Keeps, for the operations of Crypto.lean.
-/

namespace Sys2Proof

namespace Machine


end Machine

end Sys2Proof
end

