-- ==== Sys2Proof/Laws/KeepsJtag.lean ====
section
/-!
SUPPORT. Keeps, for the operations of Jtag.lean.
-/

namespace Sys2Proof

namespace Machine

theorem execExtest_keeps (pre : Nat) (s : State) (hi : s.Inv) :
    ∃ t, execExtest pre s = .next t ∧ t.variant = s.variant ∧ t.pending = s.pending ∧ t.Inv :=
  ⟨_, rfl, rfl, rfl, ⟨hi.cnts_wf, hi.cnts_le, hi.bytes_wf, hi.bytes_lt, hi.flds_sorted, hi.staged_sorted, hi.dmem_wf, hi.imem_wf,
    hi.loc_wf, hi.flash_wf⟩⟩

theorem execSamplePreload_keeps (cells pre : Nat) (s : State) (hi : s.Inv) :
    ∃ t, execSamplePreload cells pre s = .next t ∧ t.variant = s.variant ∧ t.pending = s.pending ∧ t.Inv :=
  ⟨_, rfl, rfl, rfl, ⟨hi.cnts_wf, hi.cnts_le, hi.bytes_wf, hi.bytes_lt, hi.flds_sorted, hi.staged_sorted, hi.dmem_wf, hi.imem_wf,
    hi.loc_wf, hi.flash_wf⟩⟩

theorem execBypass_keeps (s : State) (hi : s.Inv) :
    ∃ t, execBypass s = .next t ∧ t.variant = s.variant ∧ t.pending = s.pending ∧ t.Inv :=
  ⟨_, rfl, rfl, rfl, ⟨hi.cnts_wf, hi.cnts_le, hi.bytes_wf, hi.bytes_lt, hi.flds_sorted, hi.staged_sorted, hi.dmem_wf, hi.imem_wf,
    hi.loc_wf, hi.flash_wf⟩⟩

theorem execTestLogicReset_keeps (s : State) (hi : s.Inv) :
    ∃ t, execTestLogicReset s = .next t ∧ t.variant = s.variant ∧ t.pending = s.pending ∧ t.Inv :=
  ⟨_, rfl, rfl, rfl, ⟨hi.cnts_wf, hi.cnts_le, hi.bytes_wf, hi.bytes_lt, hi.flds_sorted, hi.staged_sorted, hi.dmem_wf, hi.imem_wf,
    hi.loc_wf, hi.flash_wf⟩⟩


end Machine

end Sys2Proof
end

