-- ==== Sys2Proof/WellFormed.lean ====
section
/-!
DEFINITION. Which commands are well formed: each index lies in the range the spec gives it (R8 and the index ranges of
00_scope.md) and each value fits the width of what it names.
-/

namespace Sys2Proof

/-- Every operand lies in the range its place in the spec gives it. -/
def Instr.wellFormed (i : Instr) : Bool :=
  match i with
  | .absentWrite m a v => m.wf && decide (a < 16777216) && decide (v < 4294967296)
  | .paLinkLoss d => decide (d < 2)
  | .rootClockLoss => true
  | .pllUnlock => true
  | .sofReceived u frame => decide (u < 4) && decide (frame < 2048)
  | .microframeBoundary u => decide (u < 4)
  | .tbTick125us => true
  | .shaperTickUpdate => true
  | .oneMsTick => true
  | .portMapWrite n v => decide (n < 96) && decide (v < 4294967296)
  | .moveSe0End k => decide (k < 100)
  | .enumStall n => decide (n < 96)
  | .setAddressComplete u a _ h l => decide (u < 4) && decide (a < 128) && decide (h < 8) && decide (l < 16)
  | .setPortReset u h l _ => decide (u < 4) && decide (h < 8) && decide (l < 16)
  | .usb2PortResetEnd n _ => decide (n < 96)
  | .bhPortReset u h l => decide (u < 4) && decide (h < 8) && decide (l < 16)
  | .hotResetEscalation n => decide (n < 96)
  | .warmResetLfpsEnd n => decide (n < 96)
  | .warmResetFail n => decide (n < 96)
  | .deviceConnect n sp _ => decide (n < 96) && decide (sp < 3)
  | .deviceDisconnect n => decide (n < 96)
  | .portEnableError n => decide (n < 96)
  | .clearPortEnable u h l => decide (u < 4) && decide (h < 8) && decide (l < 16)
  | .setPortPower u h l => decide (u < 4) && decide (h < 8) && decide (l < 16)
  | .clearPortPower u h l => decide (u < 4) && decide (h < 8) && decide (l < 16)
  | .regRead u a len => decide (u < 4) && decide (a < 16777216) && decide (len < 65536)
  | .regWrite u a _ _ => decide (u < 4) && decide (a < 16777216)
  | .getResult u len => decide (u < 4) && decide (len < 65536)
  | .logRead u slot len => decide (u < 4) && decide (slot < 65536) && decide (len < 65536)
  | .vendorRequestUnknown u req len => decide (u < 4) && decide (req < 256) && decide (len < 65536)
  | .upstreamBusReset u _ => decide (u < 4)
  | .busResetEnd side => side.wf
  | .hsDownstreamToken u addr epn _ pay => decide (u < 4) && decide (addr < 128) && decide (epn < 16) && pay.wf
  | .periodicStartSplit n addr epn _ len => decide (n < 96) && decide (addr < 128) && decide (epn < 16) && decide (len < 1024)
  | .periodicCompleteSplit n addr epn _ errs => decide (n < 96) && decide (addr < 128) && decide (epn < 16) && errs.wf
  | .nonperiodicStartSplit n addr epn _ len => decide (n < 96) && decide (addr < 128) && decide (epn < 16) && decide (len < 65)
  | .nonperiodicCompleteSplit n addr epn _ fin => decide (n < 96) && decide (addr < 128) && decide (epn < 16) && fin.wf
  | .ttTransactionDone n addr epn _ res len errs => decide (n < 96) && decide (addr < 128) && decide (epn < 16) && decide (res < 5) && decide (len < 1024) && errs.wf
  | .clearTtBuffer u h l addr epn => decide (u < 4) && decide (h < 8) && decide (l < 16) && decide (addr < 128) && decide (epn < 16)
  | .resetTt u h l value => decide (u < 4) && decide (h < 8) && decide (l < 16) && decide (value < 65536)
  | .getTtState u => decide (u < 4)
  | .stopTt u => decide (u < 4)
  | .setHubDepth u h d => decide (u < 4) && decide (h < 8) && decide (d < 5)
  | .upstreamHostAttach u _ => decide (u < 4)
  | .ssUpstreamAbsent u => decide (u < 4)
  | .ssUpstreamU0 u gen => decide (u < 4) && decide (gen < 4)
  | .ssUpstreamLoss u => decide (u < 4)
  | .ssDownstreamPacket u route addr epn _ ty pay seq numP _ => decide (u < 4) && decide (route < 1048576) && decide (addr < 128) && decide (epn < 16) && decide (ty < 3) && pay.wf && decide (seq < 32) && decide (numP < 32)
  | .ssUpstreamPacket n addr epn _ ty len numP _ => decide (n < 96) && decide (addr < 128) && decide (epn < 16) && decide (ty < 3) && decide (len < 1025) && decide (numP < 32)
  | .itpReceived u => decide (u < 4)
  | .itpReleaseTimeout u => decide (u < 4)
  | .queueWriteRequest q src x cls len => decide (q < 512) && decide (src < 105) && decide (x < 100) && decide (cls < 8) && decide (len < 1025)
  | .queueSpaceGranted q => decide (q < 512)
  | .queueConfigWrite q v => decide (q < 512) && decide (v < 4294967296)
  | .cutThroughStart rd words left => rd.wf && decide (words < 132) && decide (left < 302501)
  | .cutThroughAbort rd => rd.wf
  | .egressPick x left => decide (x < 100) && decide (left < 302501)
  | .packetStaged x errs => decide (x < 100) && errs.wf
  | .episodeSeenRead q => decide (q < 512)
  | .protectionWrite v => decide (v < 4294967296)
  | .queueFlush q => decide (q < 512)
  | .flushBoundary q => decide (q < 512)
  | .flushProducerTimeout q => decide (q < 512)
  | .redHoldForced p => decide (p < 200)
  | .forgive x => decide (x < 100)
  | .treeSuspend u => decide (u < 4)
  | .setPortSuspend u h l => decide (u < 4) && decide (h < 8) && decide (l < 16)
  | .clearPortSuspend u h l => decide (u < 4) && decide (h < 8) && decide (l < 16)
  | .portResumeEnd n => decide (n < 96)
  | .hostResume u => decide (u < 4)
  | .hostResumeEnd u => decide (u < 4)
  | .deviceResume n => decide (n < 96)
  | .deviceWake n => decide (n < 96)
  | .upstreamWakeDriveStart u => decide (u < 4)
  | .upstreamWakeDriveEnd u => decide (u < 4)
  | .wakeNoHostResume u => decide (u < 4)
  | .setAndTestPortL1 u h l addr besl _ => decide (u < 4) && decide (h < 8) && decide (l < 16) && decide (addr < 128) && decide (besl < 16)
  | .l1TokenResponse n resp => decide (n < 96) && decide (resp < 3)
  | .l1TokenTimeout n => decide (n < 96)
  | .upstreamLpmToken u => decide (u < 4)
  | .upstreamL1Exit u => decide (u < 4)
  | .setPortU1Timeout u h l v => decide (u < 4) && decide (h < 8) && decide (l < 16) && decide (v < 256)
  | .setPortU2Timeout u h l v => decide (u < 4) && decide (h < 8) && decide (l < 16) && decide (v < 256)
  | .u1IdleTimeout n => decide (n < 96)
  | .u2InactivityTimeout n => decide (n < 96)
  | .deviceLgo n k => decide (n < 96) && decide (k < 3)
  | .uxExit n => decide (n < 96)
  | .uxExitTimeout n => decide (n < 96)
  | .recoveryFail n => decide (n < 96)
  | .ssLinkU0 n gen => decide (n < 96) && decide (gen < 3)
  | .setPortLinkStateU3 u h l => decide (u < 4) && decide (h < 8) && decide (l < 16)
  | .setPortLinkStateU0 u h l => decide (u < 4) && decide (h < 8) && decide (l < 16)
  | .deviceU3Exit n => decide (n < 96)
  | .upstreamLgo u k => decide (u < 4) && decide (k < 4)
  | .upstreamU1Initiate u => decide (u < 4)
  | .upstreamU2Initiate u => decide (u < 4)
  | .upstreamU3Entry u => decide (u < 4)
  | .upstreamU3Exit u => decide (u < 4)
  | .dormantEntry => true
  | .ccAttach n cc1 cc2 => decide (n < 96) && decide (cc1 < 3) && decide (cc2 < 3)
  | .attachDebounceEnd n => decide (n < 96)
  | .moistureCheckDone n cc1 cc2 sbu1 sbu2 => decide (n < 96) && decide (cc1 < 65536) && decide (cc2 < 65536) && decide (sbu1 < 65536) && decide (sbu2 < 65536)
  | .seatConfirmed n => decide (n < 96)
  | .seatLoss n => decide (n < 96)
  | .errorRecoveryEnd n cc1 cc2 => decide (n < 96) && decide (cc1 < 3) && decide (cc2 < 3)
  | .ccOpen n => decide (n < 96)
  | .detachCancelled n cc1 cc2 => decide (n < 96) && decide (cc1 < 3) && decide (cc2 < 3)
  | .tpddebounceEnd n => decide (n < 96)
  | .detachReported n => decide (n < 96)
  | .moistureRetest n => decide (n < 96)
  | .override n => decide (n < 96)
  | .recheck n => decide (n < 96)
  | .cradleWrite n v => decide (n < 96) && decide (v < 2)
  | .vconnTrip n => decide (n < 96)
  | .sbuOvervoltage n => decide (n < 96)
  | .sbConfigWrite c v => decide (c < 16) && decide (v < 4294967296)
  | .setLineCoding u c rate bits parity stopBits => decide (u < 4) && decide (c < 16) && decide (rate < 4294967296) && decide (bits < 256) && decide (parity < 256) && decide (stopBits < 256)
  | .bridgeRxData line _ => line.wf
  | .bridgeTxData src c _ => src.wf && decide (c < 16)
  | .drpToggle u => decide (u < 4)
  | .pdMessageReceived k kind bytes h _ => decide (k < 100) && decide (kind < 3) && decide (bytes < 31) && decide (h < 65536)
  | .pdRetryTimeout k => decide (k < 100)
  | .pdTxStart k => decide (k < 100)
  | .pdTxComplete k => decide (k < 100)
  | .txGo k => decide (k < 100)
  | .rxPop k => decide (k < 100)
  | .hardReset k => decide (k < 100)
  | .cableReset k => decide (k < 100)
  | .hardResetReceived k => decide (k < 100)
  | .cableResetReceived k => decide (k < 100)
  | .tpshardresetEnd k => decide (k < 100)
  | .tsrcrecoverEnd k => decide (k < 100)
  | .hrVsafe5vTimeout k => decide (k < 100)
  | .pdNextWrite k v => decide (k < 100) && decide (v < 4294967296)
  | .tsrctransitionEnd k => decide (k < 100)
  | .transitionDone k => decide (k < 100)
  | .transitionTimeout k => decide (k < 100)
  | .eprKeepaliveExpiry k => decide (k < 100)
  | .ppsTimeout k => decide (k < 100)
  | .frSwapSignal u => decide (u < 4)
  | .rampStart k => decide (k < 100)
  | .precheckEnd k => decide (k < 100)
  | .fetShort k v => decide (k < 100) && decide (v < 65536)
  | .slopeEnd k => decide (k < 100)
  | .gateRiseEnd k _ => decide (k < 100)
  | .powerGood k => decide (k < 100)
  | .fastTrip k => decide (k < 100)
  | .slowTrip k => decide (k < 100)
  | .ovTrip k => decide (k < 100)
  | .retryWaitEnd k => decide (k < 100)
  | .retryCountReset k => decide (k < 100)
  | .vsetTrim k => decide (k < 100)
  | .vsetSlewDone k => decide (k < 100)
  | .vsetPwmPeriod k => decide (k < 100)
  | .dischargeGateTimeout k => decide (k < 100)
  | .vbusDischarged k v => decide (k < 100) && decide (v < 80)
  | .dischargeSlow k => decide (k < 100)
  | .ppOn k => decide (k < 100)
  | .ppOff k => decide (k < 100)
  | .ppRelease k => decide (k < 100)
  | .clearStuck k => decide (k < 100)
  | .basinTick _ => true
  | .grantExpiry k => decide (k < 100)
  | .sensorSelfTest idx diff => decide (idx < 12) && decide (diff < 65536)
  | .boardSensorRead j _ temp => decide (j < 4) && decide (temp < 65536)
  | .boardSensorConfigWrite j v => decide (j < 4) && decide (v < 4294967296)
  | .shedPowerOff => true
  | .shedPortRelease => true
  | .shedLevelWrite v => decide (v < 8)
  | .capWrite g v => decide (g < 14) && decide (v < 4294967296)
  | .start t => decide (t < 64)
  | .halt t => decide (t < 64)
  | .resume t => decide (t < 64)
  | .stop t => decide (t < 64)
  | .waitWake t => decide (t < 64)
  | .operationComplete t => decide (t < 64)
  | .threadTimerExpiry t j => decide (t < 64) && decide (j < 4)
  | .hostRequestEntry u target _ w1 w2 _ => decide (u < 4) && decide (target < 9) && decide (w1 < 4294967296) && decide (w2 < 4294967296)
  | .hostRequestTimeout u tag => decide (u < 4) && decide (tag < 256)
  | .add t rd ra rb => decide (t < 64) && decide (rd < 32) && decide (ra < 32) && decide (rb < 32)
  | .sub t rd ra rb => decide (t < 64) && decide (rd < 32) && decide (ra < 32) && decide (rb < 32)
  | .and t rd ra rb => decide (t < 64) && decide (rd < 32) && decide (ra < 32) && decide (rb < 32)
  | .or t rd ra rb => decide (t < 64) && decide (rd < 32) && decide (ra < 32) && decide (rb < 32)
  | .xor t rd ra rb => decide (t < 64) && decide (rd < 32) && decide (ra < 32) && decide (rb < 32)
  | .sll t rd ra rb => decide (t < 64) && decide (rd < 32) && decide (ra < 32) && decide (rb < 32)
  | .srl t rd ra rb => decide (t < 64) && decide (rd < 32) && decide (ra < 32) && decide (rb < 32)
  | .sra t rd ra rb => decide (t < 64) && decide (rd < 32) && decide (ra < 32) && decide (rb < 32)
  | .slli t rd ra amt => decide (t < 64) && decide (rd < 32) && decide (ra < 32) && decide (amt < 32)
  | .srli t rd ra amt => decide (t < 64) && decide (rd < 32) && decide (ra < 32) && decide (amt < 32)
  | .srai t rd ra amt => decide (t < 64) && decide (rd < 32) && decide (ra < 32) && decide (amt < 32)
  | .slt t rd ra rb => decide (t < 64) && decide (rd < 32) && decide (ra < 32) && decide (rb < 32)
  | .sltu t rd ra rb => decide (t < 64) && decide (rd < 32) && decide (ra < 32) && decide (rb < 32)
  | .mul t rd ra rb => decide (t < 64) && decide (rd < 32) && decide (ra < 32) && decide (rb < 32)
  | .mulhu t rd ra rb => decide (t < 64) && decide (rd < 32) && decide (ra < 32) && decide (rb < 32)
  | .extu t rd ra amt w1 => decide (t < 64) && decide (rd < 32) && decide (ra < 32) && decide (amt < 32) && decide (w1 < 32)
  | .ins t rd ra amt w1 => decide (t < 64) && decide (rd < 32) && decide (ra < 32) && decide (amt < 32) && decide (w1 < 32)
  | .clz t rd ra => decide (t < 64) && decide (rd < 32) && decide (ra < 32)
  | .addi t rd ra imm => decide (t < 64) && decide (rd < 32) && decide (ra < 32) && decide (imm < 65536)
  | .andi t rd ra imm => decide (t < 64) && decide (rd < 32) && decide (ra < 32) && decide (imm < 65536)
  | .ori t rd ra imm => decide (t < 64) && decide (rd < 32) && decide (ra < 32) && decide (imm < 65536)
  | .xori t rd ra imm => decide (t < 64) && decide (rd < 32) && decide (ra < 32) && decide (imm < 65536)
  | .slti t rd ra imm => decide (t < 64) && decide (rd < 32) && decide (ra < 32) && decide (imm < 65536)
  | .sltiu t rd ra imm => decide (t < 64) && decide (rd < 32) && decide (ra < 32) && decide (imm < 65536)
  | .lui t rd imm => decide (t < 64) && decide (rd < 32) && decide (imm < 65536)
  | .jalr t rd ra imm => decide (t < 64) && decide (rd < 32) && decide (ra < 32) && decide (imm < 65536)
  | .lb t rt ra off => decide (t < 64) && decide (rt < 32) && decide (ra < 32) && decide (off < 65536)
  | .lbu t rt ra off => decide (t < 64) && decide (rt < 32) && decide (ra < 32) && decide (off < 65536)
  | .lh t rt ra off => decide (t < 64) && decide (rt < 32) && decide (ra < 32) && decide (off < 65536)
  | .lhu t rt ra off => decide (t < 64) && decide (rt < 32) && decide (ra < 32) && decide (off < 65536)
  | .lw t rt ra off => decide (t < 64) && decide (rt < 32) && decide (ra < 32) && decide (off < 65536)
  | .lwp t rt ra off => decide (t < 64) && decide (rt < 32) && decide (ra < 32) && decide (off < 65536)
  | .sb t rt ra off => decide (t < 64) && decide (rt < 32) && decide (ra < 32) && decide (off < 65536)
  | .sh t rt ra off => decide (t < 64) && decide (rt < 32) && decide (ra < 32) && decide (off < 65536)
  | .sw t rt ra off => decide (t < 64) && decide (rt < 32) && decide (ra < 32) && decide (off < 65536)
  | .beq t ra rb off => decide (t < 64) && decide (ra < 32) && decide (rb < 32) && decide (off < 65536)
  | .bne t ra rb off => decide (t < 64) && decide (ra < 32) && decide (rb < 32) && decide (off < 65536)
  | .blt t ra rb off => decide (t < 64) && decide (ra < 32) && decide (rb < 32) && decide (off < 65536)
  | .bge t ra rb off => decide (t < 64) && decide (ra < 32) && decide (rb < 32) && decide (off < 65536)
  | .bltu t ra rb off => decide (t < 64) && decide (ra < 32) && decide (rb < 32) && decide (off < 65536)
  | .bgeu t ra rb off => decide (t < 64) && decide (ra < 32) && decide (rb < 32) && decide (off < 65536)
  | .jal t rd off => decide (t < 64) && decide (rd < 32) && decide (off < 2097152)
  | .prd t rd ra rb rc => decide (t < 64) && decide (rd < 32) && decide (ra < 32) && decide (rb < 32) && decide (rc < 32)
  | .pwr t rd ra rb rc => decide (t < 64) && decide (rd < 32) && decide (ra < 32) && decide (rb < 32) && decide (rc < 32)
  | .pwrm t rd ra rb rc => decide (t < 64) && decide (rd < 32) && decide (ra < 32) && decide (rb < 32) && decide (rc < 32)
  | .psnd t rd ra rb => decide (t < 64) && decide (rd < 32) && decide (ra < 32) && decide (rb < 32)
  | .prcv t rd ra rb => decide (t < 64) && decide (rd < 32) && decide (ra < 32) && decide (rb < 32)
  | .take t rd ra rb => decide (t < 64) && decide (rd < 32) && decide (ra < 32) && decide (rb < 32)
  | .takeq t rd ra rb => decide (t < 64) && decide (rd < 32) && decide (ra < 32) && decide (rb < 32)
  | .give t rd ra rb => decide (t < 64) && decide (rd < 32) && decide (ra < 32) && decide (rb < 32)
  | .cancel t rd ra => decide (t < 64) && decide (rd < 32) && decide (ra < 32)
  | .aadd t rd ra rb => decide (t < 64) && decide (rd < 32) && decide (ra < 32) && decide (rb < 32)
  | .cas t rd ra rb rc => decide (t < 64) && decide (rd < 32) && decide (ra < 32) && decide (rb < 32) && decide (rc < 32)
  | .epost t rd ra rb => decide (t < 64) && decide (rd < 32) && decide (ra < 32) && decide (rb < 32)
  | .qflush t rd ra => decide (t < 64) && decide (rd < 32) && decide (ra < 32)
  | .qget t rd ra rb rc => decide (t < 64) && decide (rd < 32) && decide (ra < 32) && decide (rb < 32) && decide (rc < 32)
  | .qput t rd ra rb rc => decide (t < 64) && decide (rd < 32) && decide (ra < 32) && decide (rb < 32) && decide (rc < 32)
  | .rget t rd ra rb => decide (t < 64) && decide (rd < 32) && decide (ra < 32) && decide (rb < 32)
  | .rdone t rd ra rb rc => decide (t < 64) && decide (rd < 32) && decide (ra < 32) && decide (rb < 32) && decide (rc < 32)
  | .wait t rd => decide (t < 64) && decide (rd < 32)
  | .etest t rd => decide (t < 64) && decide (rd < 32)
  | .evs t idx ra => decide (t < 64) && decide (idx < 8) && decide (ra < 32)
  | .evc t idx ra => decide (t < 64) && decide (idx < 8) && decide (ra < 32)
  | .evr t rd idx => decide (t < 64) && decide (rd < 32) && decide (idx < 8)
  | .evpr t rd idx => decide (t < 64) && decide (rd < 32) && decide (idx < 8)
  | .tset t j _ ra => decide (t < 64) && decide (j < 4) && decide (ra < 32)
  | .trd t rd j => decide (t < 64) && decide (rd < 32) && decide (j < 4)
  | .trap t code => decide (t < 64) && decide (code < 256)
  | .eret t => decide (t < 64)
  | .tid t rd => decide (t < 64) && decide (rd < 32)
  | .illegalEncoding t w => decide (t < 64) && decide (w < 4294967296)
  | .imageLoaded _ _ => true
  | .confirm => true
  | .confirmTimeout => true
  | .fuseWrite m idx v => m.wf && decide (idx < 9) && decide (v < 4294967296)
  | .updBegin m => m.wf
  | .erase m => m.wf
  | .program m => m.wf
  | .verify m => m.wf
  | .updEnd m => m.wf
  | .flashOpComplete => true
  | .updateTimeout => true
  | .kclAutoDetect u => decide (u < 4)
  | .kclTerminationDetect u => decide (u < 4)
  | .kclPollLock u => decide (u < 4)
  | .kclConfigDone u _ ver peerLink _ peerChip peerDie => decide (u < 4) && decide (ver < 256) && decide (peerLink < 4) && decide (peerChip < 4096) && decide (peerDie < 18446744073709551616)
  | .kclTrainTimeout u _ => decide (u < 4)
  | .kclTrainRetry u => decide (u < 4)
  | .dataFrame u seq dest gchip port epn _ colour _ _ kind _ addr len pseq numP => decide (u < 4) && decide (seq < 128) && decide (dest < 4096) && decide (gchip < 4096) && decide (port < 128) && decide (epn < 16) && decide (colour < 4) && decide (kind < 4) && decide (addr < 128) && decide (len < 1025) && decide (pseq < 32) && decide (numP < 32)
  | .proxyFrame u seq dest gchip port epn _ _ kind pid res body => decide (u < 4) && decide (seq < 128) && decide (dest < 4096) && decide (gchip < 4096) && decide (port < 128) && decide (epn < 16) && decide (kind < 5) && decide (pid < 2) && decide (res < 7) && body.wf
  | .isopfFrame u seq dest gchip port epn _ _ body => decide (u < 4) && decide (seq < 128) && decide (dest < 4096) && decide (gchip < 4096) && decide (port < 128) && decide (epn < 16) && body.wf
  | .presReq u seq dest gchip port t h l own => decide (u < 4) && decide (seq < 128) && decide (dest < 4096) && decide (gchip < 4096) && decide (port < 96) && decide (t < 4) && decide (h < 8) && decide (l < 16) && own.wf
  | .presAck u seq dest n lat => decide (u < 4) && decide (seq < 128) && decide (dest < 4096) && decide (n < 96) && decide (lat < 8192)
  | .presNak u seq dest n cause => decide (u < 4) && decide (seq < 128) && decide (dest < 4096) && decide (n < 96) && decide (cause < 10)
  | .presEnd u seq dest gchip port => decide (u < 4) && decide (seq < 128) && decide (dest < 4096) && decide (gchip < 4096) && decide (port < 96)
  | .portSt u seq dest gchip port st speed ss chg _ => decide (u < 4) && decide (seq < 128) && decide (dest < 4096) && decide (gchip < 4096) && decide (port < 96) && decide (st < 9) && decide (speed < 4) && decide (ss < 2) && decide (chg < 128)
  | .portCmd u seq dest n code val => decide (u < 4) && decide (seq < 128) && decide (dest < 4096) && decide (n < 96) && decide (code < 19) && decide (val < 4096)
  | .portRsp u seq dest gchip port res => decide (u < 4) && decide (seq < 128) && decide (dest < 4096) && decide (gchip < 4096) && decide (port < 96) && decide (res < 6)
  | .treeEvt u seq dest c t ev => decide (u < 4) && decide (seq < 128) && decide (dest < 4096) && decide (c < 4096) && decide (t < 4) && decide (ev < 8)
  | .sofSync u seq dest c t frame => decide (u < 4) && decide (seq < 128) && decide (dest < 4096) && decide (c < 4096) && decide (t < 4) && decide (frame < 2048)
  | .sofSyncSend => true
  | .proxyHostToken u addr epn kind pid len _ _ => decide (u < 4) && decide (addr < 128) && decide (epn < 16) && decide (kind < 9) && decide (pid < 2) && decide (len < 1025)
  | .isoPrefetchPoll n epn len => decide (n < 96) && decide (epn < 16) && decide (len < 1025)
  | .proxyEntryTimeout j => decide (j < 256)
  | .regRd u seq dest src hops _ => decide (u < 4) && decide (seq < 128) && decide (dest < 4096) && decide (src < 4096) && decide (hops < 4096)
  | .regWr u seq dest src hops _ => decide (u < 4) && decide (seq < 128) && decide (dest < 4096) && decide (src < 4096) && decide (hops < 4096)
  | .regRsp u seq dest src hops _ => decide (u < 4) && decide (seq < 128) && decide (dest < 4096) && decide (src < 4096) && decide (hops < 4096)
  | .mbx u seq dest src hops _ => decide (u < 4) && decide (seq < 128) && decide (dest < 4096) && decide (src < 4096) && decide (hops < 4096)
  | .mbxRsp u seq dest src hops _ => decide (u < 4) && decide (seq < 128) && decide (dest < 4096) && decide (src < 4096) && decide (hops < 4096)
  | .mbxRetry dest => decide (dest < 4096)
  | .routeFrame u seq origin rseq hops lat => decide (u < 4) && decide (seq < 128) && decide (origin < 4096) && decide (rseq < 65536) && decide (hops < 4096) && decide (lat < 4294967296)
  | .rootFrame u seq die rid => decide (u < 4) && decide (seq < 128) && decide (die < 18446744073709551616) && decide (rid < 4096)
  | .idReq u seq die _ want => decide (u < 4) && decide (seq < 128) && decide (die < 18446744073709551616) && decide (want < 4096)
  | .idGrant u seq die id => decide (u < 4) && decide (seq < 128) && decide (die < 18446744073709551616) && decide (id < 4096)
  | .idClaim u seq dest die id => decide (u < 4) && decide (seq < 128) && decide (dest < 4096) && decide (die < 18446744073709551616) && decide (id < 4096)
  | .idRefuse u seq die cause => decide (u < 4) && decide (seq < 128) && decide (die < 18446744073709551616) && decide (cause < 3)
  | .routeLoss u seq _ => decide (u < 4) && decide (seq < 128)
  | .lack u seq => decide (u < 4) && decide (seq < 128)
  | .lnak u seq => decide (u < 4) && decide (seq < 128)
  | .credit u vc n => decide (u < 4) && decide (vc < 3) && decide (n < 65536)
  | .keepalive u => decide (u < 4)
  | .probe u tb => decide (u < 4) && decide (tb < 4294967296)
  | .probeEcho u tb rtt => decide (u < 4) && decide (tb < 4294967296) && decide (rtt < 65536)
  | .frameError u _ seq vc len => decide (u < 4) && decide (seq < 128) && decide (vc < 3) && decide (len < 1041)
  | .lackTimer u => decide (u < 4)
  | .creditTimer u => decide (u < 4)
  | .keepaliveTimer u => decide (u < 4)
  | .kclLinkLoss u => decide (u < 4)
  | .routeFloodTimer => true
  | .routeEntryExpiry origin u => decide (origin < 4096) && decide (u < 4)
  | .rootAnnounceTimer => true
  | .rootLost => true
  | .idClaimTimer => true
  | .idFreeTimeout id => decide (id < 4096)
  | .idReqRetry => true
  | .probeTimer u => decide (u < 4)
  | .presNoAnswer n => decide (n < 96)
  | .presReqRetry n => decide (n < 96)
  | .portopTimeout idx => decide (idx < 448)
  | .mgmtSend v => decide (v < 4294967296)
  | .mgmtRequestTimeout dest mcode => decide (dest < 4096) && decide (mcode < 16)
  | .supplyFall idx => decide (idx < 7)
  | .supplyRise idx => decide (idx < 7)
  | .resetNLow => true
  | .resetNHigh => true
  | .holdEnd => true
  | .pllLock => true
  | .pllLockTimeout => true
  | .riseEntry _ => true
  | .unitReady idx => decide (idx < 160)
  | .calibrationFail idx => decide (idx < 160)
  | .readinessTimeout idx => decide (idx < 160)
  | .modeSafe => true
  | .release => true
  | .selftest => true
  | .selftestEnd first => decide (first < 65536)
  | .modeReset => true
  | .wake => true
  | .registerWrite m a v => m.wf && decide (a < 16777216) && decide (v < 4294967296)
  | .guardWrite m a v => m.wf && decide (a < 4194304) && decide (v < 4294967296)
  | .guardExpiry m => m.wf
  | .pairLoRead m a => m.wf && decide (a < 16777216)
  | .syncAliasRead m a => m.wf && decide (a < 4194304)
  | .unmappedAccess m a => m.wf && decide (a < 16777216)
  | .accessError m a w _ => m.wf && decide (a < 16777216) && decide (w < 9)
  | .configScrub a found => decide (a < 4194304) && decide (found < 4)
  | .protSelWrite v _ => decide (v < 2)
  | .clearOne m => m.wf
  | .clearPrefix m p => m.wf && decide (p < 16)
  | .clearAll m => m.wf
  | .logRecordWrite => true
  | .faultOnset idx inst detail => decide (idx < 64) && decide (inst < 4096) && decide (detail < 4294967296)
  | .faultHoldExpiry idx => decide (idx < 64)
  | .reactionClassWrite j v => decide (j < 4) && decide (v < 4294967296)
  | .restart => true
  | .ventAutoRestart => true
  | .kick => true
  | .watchdogExpiry => true
  | .converterCheck d idx _ => decide (d < 2) && decide (idx < 16)
  | .softwareSourceWrite v => decide (v < 256)
  | .arm idx inst => decide (idx < 64) && decide (inst < 1048576)
  | .disarm => true
  | .injectionExpiry => true
  | .atbRouteWrite v => decide (v < 4294967296)
  | .atbSettled => true
  | .consoleLine _ _ => true
  | .ctrlC => true
  | .consoleLinePassed _ => true
  | .consolePassTimeout => true
  | .sessionIdleTimeout => true
  | .pinLockoutEnd => true
  | .conHello _ v => decide (v < 4096)
  | .conBye => true
  | .conHelp => true
  | .conService _ pin => decide (pin < 65536)
  | .conView => true
  | .conBaud r => decide (r < 4294967296)
  | .conEchoOn => true
  | .conEchoOff => true
  | .conCap => true
  | .conMode => true
  | .conReady => true
  | .conRst => true
  | .conSafe => true
  | .conBoot => true
  | .conUpdateStatus => true
  | .conMap => true
  | .conPort n => decide (n < 65536)
  | .conTc n => decide (n < 65536)
  | .conMoist n => decide (n < 65536)
  | .conLp => true
  | .conLpU u => decide (u < 65536)
  | .conLpN n => decide (n < 65536)
  | .conPp k => decide (k < 65536)
  | .conPd k => decide (k < 65536)
  | .conPdLog k => decide (k < 65536)
  | .conSb => true
  | .conBsn => true
  | .conBsnG g => decide (g < 65536)
  | .conTemp => true
  | .conCaldera => true
  | .conEpt => true
  | .conEptN n => decide (n < 65536)
  | .conPol p => decide (p < 65536)
  | .conShp x => decide (x < 65536)
  | .conSched x => decide (x < 65536)
  | .conKcl => true
  | .conKclRoute c => decide (c < 65536)
  | .conKclPres n => decide (n < 65536)
  | .conTk => true
  | .conTkT t => decide (t < 65536)
  | .conFault => true
  | .conProt => true
  | .conLog => true
  | .conLogPlume => true
  | .conAtb => true
  | .conRd a => decide (a < 16777216)
  | .conHold n => decide (n < 65536)
  | .conHoldAll => true
  | .conFree n => decide (n < 65536)
  | .conFreeAll => true
  | .conPpOn k => decide (k < 65536)
  | .conPpOff k => decide (k < 65536)
  | .conPpRelease k => decide (k < 65536)
  | .conPpClear k => decide (k < 65536)
  | .conSteamRelease n => decide (n < 65536)
  | .conTcRecheck n => decide (n < 65536)
  | .conPdCaps k => decide (k < 65536)
  | .conPdEprExit k => decide (k < 65536)
  | .conPdHardreset k => decide (k < 65536)
  | .conSbC c => decide (c < 65536)
  | .conSbOff => true
  | .conWr a v => decide (a < 16777216) && decide (v < 4294967296)
  | .conAtbRoute route idx => decide (route < 256) && decide (idx < 256)
  | .conAtbOff => true
  | .conTest n _ k v _ => decide (n < 65536) && decide (k < 65536) && decide (v < 4294967296)
  | .conCntClearOne a => decide (a < 16777216)
  | .conCntClearPrefix p => decide (p < 16)
  | .conCntClearAll => true
  | .conFaultInj idx inst => decide (idx < 64) && decide (inst < 1048576)
  | .conFaultDisarm => true
  | .conFaultRestart => true
  | .conUpdate => true
  | .conUpdateErase b off => decide (b < 2) && decide (off < 4294967296)
  | .conUpdatePage b off _ => decide (b < 2) && decide (off < 4294967296)
  | .conUpdateVerify b => decide (b < 2)
  | .conUpdateEnd => true
  | .conSelftest => true
  | .conReset => true
  | .conSafeEnter => true
  | .conSafeRelease => true
  | .conWake => true
  | .extest pre => decide (pre < 21778071482940061661655974875633165533184)
  | .samplePreload cells pre => decide (cells < 21778071482940061661655974875633165533184) && decide (pre < 21778071482940061661655974875633165533184)
  | .bypass => true
  | .testLogicReset => true
  | .upstreamHostDetach u => decide (u < 4)
  | .upstreamUxExit u => decide (u < 4)
  | .slowTripSample k _ v => decide (k < 100) && decide (v < 65536)

end Sys2Proof
end

