-- ==== Sys2Proof/Tests/Slice0.lean ====
section
/-!
SUPPORT. The author's own tests: ill-formed commands are refused, worked examples of the spec, and for each statement that has
hypotheses states and operands that meet them, clause by clause.
-/

open Sys2Proof Sys2Proof.Machine Sys2Proof.Machine.State

namespace Sys2Proof.Tests

set_option Elab.async false

/-! ### WellFormed: one command per check, at the first value the check refuses and at the last it lets pass -/

theorem test_illFormedRefused_0 : ([
  .absentWrite (.thread 64 true) 0 0,
  .absentWrite (.host 4) 0 0,
  .absentWrite (.peer 4096) 0 0,
  .absentWrite .boot 16777216 0,
  .absentWrite .boot 0 4294967296,
  .paLinkLoss 2,
  .sofReceived 4 0,
  .sofReceived 0 2048,
  .portMapWrite 96 0,
  .moveSe0End 100,
  .setAddressComplete 0 128 false 0 0,
  .setAddressComplete 0 0 false 8 0,
  .setAddressComplete 0 0 false 0 16,
  .deviceConnect 0 3 false,
  .regRead 0 0 65536,
  .logRead 0 65536 0,
  .vendorRequestUnknown 0 256 0,
  .busResetEnd ⟨4, false⟩,
  .hsDownstreamToken 0 128 0 false ⟨0, .nothing⟩,
  .hsDownstreamToken 0 0 16 false ⟨0, .nothing⟩] : List Instr).all (fun i => !i.wellFormed) = true := by decide +kernel

theorem test_illFormedRefused_1 : ([
  .hsDownstreamToken 0 0 0 false ⟨1025, .nothing⟩,
  .hsDownstreamToken 0 0 0 false ⟨0, .setConfig 256⟩,
  .hsDownstreamToken 0 0 0 false ⟨0, .setInterface 256 0⟩,
  .hsDownstreamToken 0 0 0 false ⟨0, .setInterface 0 256⟩,
  .periodicStartSplit 0 0 0 false 1024,
  .periodicCompleteSplit 0 0 0 false ⟨132, 0⟩,
  .periodicCompleteSplit 0 0 0 false ⟨0, 132⟩,
  .nonperiodicStartSplit 0 0 0 false 65,
  .nonperiodicCompleteSplit 0 0 0 false ⟨⟨132, 0⟩, .nothing⟩,
  .nonperiodicCompleteSplit 0 0 0 false ⟨⟨0, 0⟩, .setConfig 256⟩,
  .ttTransactionDone 0 0 0 false 5 0 ⟨0, 0⟩,
  .resetTt 0 0 0 65536,
  .setHubDepth 0 0 5,
  .ssUpstreamU0 0 4,
  .ssDownstreamPacket 0 1048576 0 0 false 0 ⟨0, .nothing⟩ 0 0 false,
  .ssDownstreamPacket 0 0 0 0 false 3 ⟨0, .nothing⟩ 0 0 false,
  .ssDownstreamPacket 0 0 0 0 false 0 ⟨0, .nothing⟩ 32 0 false,
  .ssDownstreamPacket 0 0 0 0 false 0 ⟨0, .nothing⟩ 0 32 false,
  .ssUpstreamPacket 0 0 0 false 0 1025 0 false,
  .queueWriteRequest 512 0 0 0 0] : List Instr).all (fun i => !i.wellFormed) = true := by decide +kernel

theorem test_illFormedRefused_2 : ([
  .queueWriteRequest 0 105 0 0 0,
  .queueWriteRequest 0 0 100 0 0,
  .queueWriteRequest 0 0 0 8 0,
  .cutThroughStart ⟨512, 0, 0⟩ 0 0,
  .cutThroughStart ⟨0, 0, 0⟩ 132 0,
  .cutThroughStart ⟨0, 0, 0⟩ 0 302501,
  .redHoldForced 200,
  .setAndTestPortL1 0 0 0 0 16 false,
  .l1TokenResponse 0 3,
  .setPortU1Timeout 0 0 0 256,
  .deviceLgo 0 3,
  .ssLinkU0 0 3,
  .upstreamLgo 0 4,
  .ccAttach 0 3 0,
  .ccAttach 0 0 3,
  .moistureCheckDone 0 65536 0 0 0,
  .moistureCheckDone 0 0 65536 0 0,
  .moistureCheckDone 0 0 0 65536 0,
  .moistureCheckDone 0 0 0 0 65536,
  .cradleWrite 0 2] : List Instr).all (fun i => !i.wellFormed) = true := by decide +kernel

theorem test_illFormedRefused_3 : ([
  .sbConfigWrite 16 0,
  .setLineCoding 0 0 4294967296 0 0 0,
  .setLineCoding 0 0 0 256 0 0,
  .setLineCoding 0 0 0 0 256 0,
  .setLineCoding 0 0 0 0 0 256,
  .bridgeRxData ⟨16, 0⟩ [],
  .bridgeRxData ⟨0, 3⟩ [],
  .bridgeTxData (.host 4) 0 [],
  .pdMessageReceived 0 3 0 0 [],
  .pdMessageReceived 0 0 31 0 [],
  .pdMessageReceived 0 0 0 65536 [],
  .fetShort 0 65536,
  .vbusDischarged 0 80,
  .sensorSelfTest 12 0,
  .sensorSelfTest 0 65536,
  .boardSensorRead 4 false 0,
  .boardSensorRead 0 false 65536,
  .shedLevelWrite 8,
  .capWrite 14 0,
  .start 64] : List Instr).all (fun i => !i.wellFormed) = true := by decide +kernel

theorem test_illFormedRefused_4 : ([
  .hostRequestEntry 0 9 false 0 0 [],
  .hostRequestEntry 0 0 false 4294967296 0 [],
  .hostRequestEntry 0 0 false 0 4294967296 [],
  .hostRequestTimeout 0 256,
  .add 0 32 0 0,
  .add 0 0 32 0,
  .add 0 0 0 32,
  .slli 0 0 0 32,
  .extu 0 0 0 0 32,
  .addi 0 0 0 65536,
  .lb 0 32 0 0,
  .lb 0 0 0 65536,
  .jal 0 0 2097152,
  .prd 0 0 0 0 32,
  .evs 0 8 0,
  .trap 0 256,
  .illegalEncoding 0 4294967296,
  .fuseWrite .boot 9 0,
  .kclConfigDone 0 false 256 0 false 0 0,
  .kclConfigDone 0 false 0 4 false 0 0] : List Instr).all (fun i => !i.wellFormed) = true := by decide +kernel

theorem test_illFormedRefused_5 : ([
  .kclConfigDone 0 false 0 0 false 4096 0,
  .kclConfigDone 0 false 0 0 false 0 18446744073709551616,
  .dataFrame 0 128 0 0 0 0 false 0 false false 0 false 0 0 0 0,
  .dataFrame 0 0 4096 0 0 0 false 0 false false 0 false 0 0 0 0,
  .dataFrame 0 0 0 4096 0 0 false 0 false false 0 false 0 0 0 0,
  .dataFrame 0 0 0 0 128 0 false 0 false false 0 false 0 0 0 0,
  .dataFrame 0 0 0 0 0 0 false 4 false false 0 false 0 0 0 0,
  .dataFrame 0 0 0 0 0 0 false 0 false false 4 false 0 0 0 0,
  .dataFrame 0 0 0 0 0 0 false 0 false false 0 false 0 0 32 0,
  .proxyFrame 0 0 0 0 0 0 false false 5 0 0 ⟨0, 0, false⟩,
  .proxyFrame 0 0 0 0 0 0 false false 0 2 0 ⟨0, 0, false⟩,
  .proxyFrame 0 0 0 0 0 0 false false 0 0 7 ⟨0, 0, false⟩,
  .proxyFrame 0 0 0 0 0 0 false false 0 0 0 ⟨1025, 0, false⟩,
  .proxyFrame 0 0 0 0 0 0 false false 0 0 0 ⟨0, 4, false⟩,
  .presReq 0 0 0 0 96 0 0 0 ⟨0, false⟩,
  .presReq 0 0 0 0 0 4 0 0 ⟨0, false⟩,
  .presReq 0 0 0 0 0 0 0 0 ⟨8192, false⟩,
  .presAck 0 0 0 0 8192,
  .presNak 0 0 0 0 10,
  .portSt 0 0 0 0 0 9 0 0 0 false] : List Instr).all (fun i => !i.wellFormed) = true := by decide +kernel

theorem test_illFormedRefused_6 : ([
  .portSt 0 0 0 0 0 0 4 0 0 false,
  .portSt 0 0 0 0 0 0 0 2 0 false,
  .portSt 0 0 0 0 0 0 0 0 128 false,
  .portCmd 0 0 0 0 19 0,
  .portCmd 0 0 0 0 0 4096,
  .portRsp 0 0 0 0 0 6,
  .treeEvt 0 0 0 4096 0 0,
  .treeEvt 0 0 0 0 0 8,
  .proxyHostToken 0 0 0 9 0 0 false false,
  .proxyEntryTimeout 256,
  .regRd 0 0 0 4096 0 [],
  .regRd 0 0 0 0 4096 [],
  .routeFrame 0 0 4096 0 0 0,
  .routeFrame 0 0 0 65536 0 0,
  .routeFrame 0 0 0 0 0 4294967296,
  .rootFrame 0 0 18446744073709551616 0,
  .rootFrame 0 0 0 4096,
  .idReq 0 0 0 false 4096,
  .idGrant 0 0 0 4096,
  .idRefuse 0 0 0 3] : List Instr).all (fun i => !i.wellFormed) = true := by decide +kernel

theorem test_illFormedRefused_7 : ([
  .credit 0 3 0,
  .credit 0 0 65536,
  .probe 0 4294967296,
  .probeEcho 0 0 65536,
  .frameError 0 false 0 0 1041,
  .portopTimeout 448,
  .mgmtRequestTimeout 0 16,
  .supplyFall 7,
  .unitReady 160,
  .selftestEnd 65536,
  .guardWrite .boot 4194304 0,
  .accessError .boot 0 9 false,
  .configScrub 0 4,
  .clearPrefix .boot 16,
  .faultOnset 64 0 0,
  .faultOnset 0 4096 0,
  .faultOnset 0 0 4294967296,
  .converterCheck 0 16 false,
  .arm 0 1048576,
  .conHello false 4096] : List Instr).all (fun i => !i.wellFormed) = true := by decide +kernel

theorem test_illFormedRefused_8 : ([
  .conService false 65536,
  .conBaud 4294967296,
  .conLpU 65536,
  .conPp 65536,
  .conBsnG 65536,
  .conPol 65536,
  .conShp 65536,
  .conKclRoute 65536,
  .conTkT 65536,
  .conAtbRoute 256 0,
  .conAtbRoute 0 256,
  .conUpdateErase 2 0,
  .conUpdateErase 0 4294967296,
  .extest 21778071482940061661655974875633165533184,
  .samplePreload 21778071482940061661655974875633165533184 0] : List Instr).all (fun i => !i.wellFormed) = true := by decide +kernel

theorem test_edgeFormedPasses_0 : ([
  .absentWrite (.thread 63 true) 0 0,
  .absentWrite (.host 3) 0 0,
  .absentWrite (.peer 4095) 0 0,
  .absentWrite .boot 16777215 0,
  .absentWrite .boot 0 4294967295,
  .paLinkLoss 1,
  .sofReceived 3 0,
  .sofReceived 0 2047,
  .portMapWrite 95 0,
  .moveSe0End 99,
  .setAddressComplete 0 127 false 0 0,
  .setAddressComplete 0 0 false 7 0,
  .setAddressComplete 0 0 false 0 15,
  .deviceConnect 0 2 false,
  .regRead 0 0 65535,
  .logRead 0 65535 0,
  .vendorRequestUnknown 0 255 0,
  .busResetEnd ⟨3, false⟩,
  .hsDownstreamToken 0 127 0 false ⟨0, .nothing⟩,
  .hsDownstreamToken 0 0 15 false ⟨0, .nothing⟩] : List Instr).all (fun i => i.wellFormed) = true := by decide +kernel

theorem test_edgeFormedPasses_1 : ([
  .hsDownstreamToken 0 0 0 false ⟨1024, .nothing⟩,
  .hsDownstreamToken 0 0 0 false ⟨0, .setConfig 255⟩,
  .hsDownstreamToken 0 0 0 false ⟨0, .setInterface 255 0⟩,
  .hsDownstreamToken 0 0 0 false ⟨0, .setInterface 0 255⟩,
  .periodicStartSplit 0 0 0 false 1023,
  .periodicCompleteSplit 0 0 0 false ⟨131, 0⟩,
  .periodicCompleteSplit 0 0 0 false ⟨0, 131⟩,
  .nonperiodicStartSplit 0 0 0 false 64,
  .nonperiodicCompleteSplit 0 0 0 false ⟨⟨131, 0⟩, .nothing⟩,
  .nonperiodicCompleteSplit 0 0 0 false ⟨⟨0, 0⟩, .setConfig 255⟩,
  .ttTransactionDone 0 0 0 false 4 0 ⟨0, 0⟩,
  .resetTt 0 0 0 65535,
  .setHubDepth 0 0 4,
  .ssUpstreamU0 0 3,
  .ssDownstreamPacket 0 1048575 0 0 false 0 ⟨0, .nothing⟩ 0 0 false,
  .ssDownstreamPacket 0 0 0 0 false 2 ⟨0, .nothing⟩ 0 0 false,
  .ssDownstreamPacket 0 0 0 0 false 0 ⟨0, .nothing⟩ 31 0 false,
  .ssDownstreamPacket 0 0 0 0 false 0 ⟨0, .nothing⟩ 0 31 false,
  .ssUpstreamPacket 0 0 0 false 0 1024 0 false,
  .queueWriteRequest 511 0 0 0 0] : List Instr).all (fun i => i.wellFormed) = true := by decide +kernel

theorem test_edgeFormedPasses_2 : ([
  .queueWriteRequest 0 104 0 0 0,
  .queueWriteRequest 0 0 99 0 0,
  .queueWriteRequest 0 0 0 7 0,
  .cutThroughStart ⟨511, 0, 0⟩ 0 0,
  .cutThroughStart ⟨0, 0, 0⟩ 131 0,
  .cutThroughStart ⟨0, 0, 0⟩ 0 302500,
  .redHoldForced 199,
  .setAndTestPortL1 0 0 0 0 15 false,
  .l1TokenResponse 0 2,
  .setPortU1Timeout 0 0 0 255,
  .deviceLgo 0 2,
  .ssLinkU0 0 2,
  .upstreamLgo 0 3,
  .ccAttach 0 2 0,
  .ccAttach 0 0 2,
  .moistureCheckDone 0 65535 0 0 0,
  .moistureCheckDone 0 0 65535 0 0,
  .moistureCheckDone 0 0 0 65535 0,
  .moistureCheckDone 0 0 0 0 65535,
  .cradleWrite 0 1] : List Instr).all (fun i => i.wellFormed) = true := by decide +kernel

theorem test_edgeFormedPasses_3 : ([
  .sbConfigWrite 15 0,
  .setLineCoding 0 0 4294967295 0 0 0,
  .setLineCoding 0 0 0 255 0 0,
  .setLineCoding 0 0 0 0 255 0,
  .setLineCoding 0 0 0 0 0 255,
  .bridgeRxData ⟨15, 0⟩ [],
  .bridgeRxData ⟨0, 2⟩ [],
  .bridgeTxData (.host 3) 0 [],
  .pdMessageReceived 0 2 0 0 [],
  .pdMessageReceived 0 0 30 0 [],
  .pdMessageReceived 0 0 0 65535 [],
  .fetShort 0 65535,
  .vbusDischarged 0 79,
  .sensorSelfTest 11 0,
  .sensorSelfTest 0 65535,
  .boardSensorRead 3 false 0,
  .boardSensorRead 0 false 65535,
  .shedLevelWrite 7,
  .capWrite 13 0,
  .start 63] : List Instr).all (fun i => i.wellFormed) = true := by decide +kernel

theorem test_edgeFormedPasses_4 : ([
  .hostRequestEntry 0 8 false 0 0 [],
  .hostRequestEntry 0 0 false 4294967295 0 [],
  .hostRequestEntry 0 0 false 0 4294967295 [],
  .hostRequestTimeout 0 255,
  .add 0 31 0 0,
  .add 0 0 31 0,
  .add 0 0 0 31,
  .slli 0 0 0 31,
  .extu 0 0 0 0 31,
  .addi 0 0 0 65535,
  .lb 0 31 0 0,
  .lb 0 0 0 65535,
  .jal 0 0 2097151,
  .prd 0 0 0 0 31,
  .evs 0 7 0,
  .trap 0 255,
  .illegalEncoding 0 4294967295,
  .fuseWrite .boot 8 0,
  .kclConfigDone 0 false 255 0 false 0 0,
  .kclConfigDone 0 false 0 3 false 0 0] : List Instr).all (fun i => i.wellFormed) = true := by decide +kernel

theorem test_edgeFormedPasses_5 : ([
  .kclConfigDone 0 false 0 0 false 4095 0,
  .kclConfigDone 0 false 0 0 false 0 18446744073709551615,
  .dataFrame 0 127 0 0 0 0 false 0 false false 0 false 0 0 0 0,
  .dataFrame 0 0 4095 0 0 0 false 0 false false 0 false 0 0 0 0,
  .dataFrame 0 0 0 4095 0 0 false 0 false false 0 false 0 0 0 0,
  .dataFrame 0 0 0 0 127 0 false 0 false false 0 false 0 0 0 0,
  .dataFrame 0 0 0 0 0 0 false 3 false false 0 false 0 0 0 0,
  .dataFrame 0 0 0 0 0 0 false 0 false false 3 false 0 0 0 0,
  .dataFrame 0 0 0 0 0 0 false 0 false false 0 false 0 0 31 0,
  .proxyFrame 0 0 0 0 0 0 false false 4 0 0 ⟨0, 0, false⟩,
  .proxyFrame 0 0 0 0 0 0 false false 0 1 0 ⟨0, 0, false⟩,
  .proxyFrame 0 0 0 0 0 0 false false 0 0 6 ⟨0, 0, false⟩,
  .proxyFrame 0 0 0 0 0 0 false false 0 0 0 ⟨1024, 0, false⟩,
  .proxyFrame 0 0 0 0 0 0 false false 0 0 0 ⟨0, 3, false⟩,
  .presReq 0 0 0 0 95 0 0 0 ⟨0, false⟩,
  .presReq 0 0 0 0 0 3 0 0 ⟨0, false⟩,
  .presReq 0 0 0 0 0 0 0 0 ⟨8191, false⟩,
  .presAck 0 0 0 0 8191,
  .presNak 0 0 0 0 9,
  .portSt 0 0 0 0 0 8 0 0 0 false] : List Instr).all (fun i => i.wellFormed) = true := by decide +kernel

theorem test_edgeFormedPasses_6 : ([
  .portSt 0 0 0 0 0 0 3 0 0 false,
  .portSt 0 0 0 0 0 0 0 1 0 false,
  .portSt 0 0 0 0 0 0 0 0 127 false,
  .portCmd 0 0 0 0 18 0,
  .portCmd 0 0 0 0 0 4095,
  .portRsp 0 0 0 0 0 5,
  .treeEvt 0 0 0 4095 0 0,
  .treeEvt 0 0 0 0 0 7,
  .proxyHostToken 0 0 0 8 0 0 false false,
  .proxyEntryTimeout 255,
  .regRd 0 0 0 4095 0 [],
  .regRd 0 0 0 0 4095 [],
  .routeFrame 0 0 4095 0 0 0,
  .routeFrame 0 0 0 65535 0 0,
  .routeFrame 0 0 0 0 0 4294967295,
  .rootFrame 0 0 18446744073709551615 0,
  .rootFrame 0 0 0 4095,
  .idReq 0 0 0 false 4095,
  .idGrant 0 0 0 4095,
  .idRefuse 0 0 0 2] : List Instr).all (fun i => i.wellFormed) = true := by decide +kernel

theorem test_edgeFormedPasses_7 : ([
  .credit 0 2 0,
  .credit 0 0 65535,
  .probe 0 4294967295,
  .probeEcho 0 0 65535,
  .frameError 0 false 0 0 1040,
  .portopTimeout 447,
  .mgmtRequestTimeout 0 15,
  .supplyFall 6,
  .unitReady 159,
  .selftestEnd 65535,
  .guardWrite .boot 4194303 0,
  .accessError .boot 0 8 false,
  .configScrub 0 3,
  .clearPrefix .boot 15,
  .faultOnset 63 0 0,
  .faultOnset 0 4095 0,
  .faultOnset 0 0 4294967295,
  .converterCheck 0 15 false,
  .arm 0 1048575,
  .conHello false 4095] : List Instr).all (fun i => i.wellFormed) = true := by decide +kernel

theorem test_edgeFormedPasses_8 : ([
  .conService false 65535,
  .conBaud 4294967295,
  .conLpU 65535,
  .conPp 65535,
  .conBsnG 65535,
  .conPol 65535,
  .conShp 65535,
  .conKclRoute 65535,
  .conTkT 65535,
  .conAtbRoute 255 0,
  .conAtbRoute 0 255,
  .conUpdateErase 1 0,
  .conUpdateErase 0 4294967295,
  .extest 21778071482940061661655974875633165533183,
  .samplePreload 21778071482940061661655974875633165533183 0] : List Instr).all (fun i => i.wellFormed) = true := by decide +kernel

/-! ### States of the tests -/

/-- A part in RUN: every upstream and PA unit ready, clocks present. -/
def wit : State := { State.reset with mode := .run, pins := { State.reset.pins with paEnable := [true, true], pllLocked := true } }

/-- A part in HOLD. -/
def witHold : State := { State.reset with mode := .hold }

/-- Thread 0 runs, in user mode, at the word w at the start of instruction memory. -/
def witUser (w : Nat) : State :=
  { wit.modThread 0 fun z => { z with pc := 0, priv := false } with
    tk := { wit.tk with imem := (List.range 4).foldl (fun m i => Tbl.set m 0 i (BitVec.ofNat 8 (w / 256 ^ i))) [] } }

/-- The row and index of a mapped address. -/
def witRow (a : Nat) (h : (regAt a).isSome = true) : RegRow × Nat := (regAt a).get h

theorem witRow_is (a : Nat) (h : (regAt a).isSome = true) : regAt a = some ((witRow a h).1, (witRow a h).2) := (Option.some_get h).symm

/-- U3 is a numbered cascade link of chip 0. -/
def witLink : State := wit |>.set KL_CFG.EN 1 |>.set (U_TREEST.LINK 3) 4 |>.set (KL_LST.STATE 3) 5 |>.set KL_ID.STATE 1

/-- The root's table with every ID held. -/
def witIds (k n : Nat) : Tbl IdEntry := (List.range' k n).map fun i => (i, ⟨true, i + 1⟩)

def witFull : State := (witLink.set KL_ID.ROOT 1).modKcl fun k => { k with ids := witIds 0 4096 }

theorem witIds_get (n k i : Nat) (h : k ≤ i) (h2 : i < k + n) : (Tbl.get (witIds k n) {} i).held = true := by
  induction n generalizing k with
  | zero => omega
  | succ n ih =>
    by_cases e : k = i
    · subst e; simp [witIds, Tbl.get, List.range'_succ]
    · have := ih (k + 1) (by omega) (by omega)
      simpa [witIds, Tbl.get, List.range'_succ, e] using this

theorem witFull_idFor : (witFull.frameIn 3 0 0 16).idFor 0 = none := by
  have hk : (witFull.frameIn 3 0 0 16).kcl.ids = witIds 0 4096 := rfl
  have h0 : (witIds 0 4096).find? (fun e => e.2.die == 0 && (e.2.held || decide (0 ≠ 0))) = none := by
    simp [List.find?_eq_none, witIds]
  unfold idFor
  rw [hk, h0]
  simp only [List.find?_eq_none, List.mem_range]
  intro i hi
  simp [witIds_get 4096 0 i (by omega) (by omega)]

/-- The step answers a next state that passes a test. -/
def witNext (s : State) (f : State → Bool) : Bool :=
  match step s with
  | .next t => f t
  | .fault _ => false
  | .refused _ => false

/-! ### Worked examples of the spec -/

/-- 00_scope.md, worked example 1: G_CAP_UNITS of the three variants. -/
theorem test_capUnits :
    ({ wit with variant := .klh9610 } : State).valueAt R.G_CAP_UNITS true = 0xB1121460 ∧
    ({ wit with variant := .klh9600 } : State).valueAt R.G_CAP_UNITS true = 0xB1021C60 ∧
    ({ wit with variant := .klh4800 } : State).valueAt R.G_CAP_UNITS true = 0xB1210A30 := by decide +kernel

/-- 03_superspeed_caldera.md, worked example 1: the route string reaches D20 through back hub 1, with the front hub at depth 1. -/
theorem test_routeString :
    (wit |>.modUp 0 (fun z => { z with depth := 1, bhNow := 2 }) |>.modPort 20 (fun z => { z with slot := some (0, 1, 8) })).routeOf 0
      0x008E3 = some (.port 20) := by decide +kernel

/-- 03_superspeed_caldera.md, worked example 2: pointers of a queue of 4,096 words. -/
theorem test_pointers :
    let q := fun wr rd => ((wit.set (CD_QCFG.SIZE 5) 6).modQueue 5 fun z => { z with wr := wr, rd := rd }).qOcc 5
    q 0x1005 0x0F80 = 133 ∧ q 0x0010 0x1010 = 4096 ∧ q 0x1010 0x1010 = 0 := by decide +kernel

/-- 04_traffic_manager.md, worked example 1: packets 19, 20 and 40 of the device on D5. -/
theorem test_policer :
    meter { tc := 1568, tp := 21568 } 1024 .green = (.green, { tc := 544, tp := 20544 }) ∧
    meter { tc := 544, tp := 20544 } 1024 .green = (.yellow, { tc := 544, tp := 19520 }) ∧
    meter { tc := 544, tp := 64 } 1024 .green = (.red, { tc := 544, tp := 64 }) := by decide +kernel

/-- 11_torik_instructions.md, worked example 1: four encodings. -/
theorem test_encodings :
    wE 0x01 3 0 0 = 0xF4600800 ∧ wI 0x20 3 4 0x11 = 0x80640011 ∧ wR 0x18 16 15 3 28 = 0x020F1F18 ∧ wJ 0x28 0 0x1FFFD1 = 0xA01FFFD1 ∧
    [0xF4600800, 0x80640011, 0x020F1F18, 0xA01FFFD1].all legalWord = true ∧ legalWord 0 = false := by decide +kernel

/-- 13_cascade.md, worked example 1: a round trip of 0.58 µs gives a hop latency of 1.19 µs. -/
theorem test_hopLatency : (278 * 5 + 47) / 48 + 90 = 119 := by decide

/-- 15_register_interface.md, worked example 1: the guard's two writes set CRADLE; a system thread and the host read it back. -/
theorem test_guard :
    let a := R.P_TC_CFG 17
    let s0 := wit |>.set (P_TC_CFG.ATTACH_DB 17) 0x96 |>.set (P_TC_CFG.SEAT_DB 17) 0x14 |>.set (P_TC_CFG.RP_ADV 17) 1
    let s1 := s0.write32 (.host 1) a 0x009614F9
    let s2 := s1.write32 (.host 1) (a + 0x400000) 0xFF69EB06
    (s0.read32 (.host 1) a).fab.data = 0x00961439 ∧ s1.fab.rc = .pend ∧ s1.get (P_TC_CFG.CRADLE 17) = 0 ∧ s2.fab.rc = .ok ∧
    (s2.read32 (.thread 0 true) a).fab.data = 0x009614F9 ∧ (s2.read32 (.host 1) a).fab.data = 0x00961439 := by decide +kernel

/-- 15_register_interface.md, worked example 2: the words of a PLUME record. -/
theorem test_plumeRecord :
    let s := { wit with log := { wit.log with slots := Tbl.set [] {} 0x2A7 ⟨80000000000, 0x0F, 0x01, 0x28, 0x00030DAC⟩ } }
    [0, 1, 2, 3].map (s.logWord 0x2A7) = [0xA05F2000, 0x0F010012, 0x00000028, 0x00030DAC] := by decide +kernel

/-- 16_register_map.md, worked example 1: addresses. -/
theorem test_addresses : R.P_TC_CFG 17 = 0x104420 ∧ R.TM_PL_GRN_LO 10 = 0x0402A0 := by decide

/-! ### Single steps -/

/-- ADD with rd = ra, from instruction ROM, wraps; g0 stays 0 (R353). -/
theorem test_addWraps :
    witNext { (wit.setG 0 1 0xFFFFFFFF).setG 0 2 2 with pending := [.add 0 1 1 2] }
      (fun t => decide (t.g 0 1 = 1 ∧ t.g 0 0 = 0 ∧ (t.thread 0).pc = 0x40004)) = true := by decide +kernel

/-- A store of a half word at the top of shared memory, and the byte before it (R356). -/
theorem test_storeHalf :
    witNext { (wit.setG 0 1 0x1001FFFE).setG 0 2 0x12345678 with pending := [.sh 0 2 1 0] }
      (fun t => decide (Tbl.get t.tk.dmem 0 0x1FFFE = 0x78 ∧ Tbl.get t.tk.dmem 0 0x1FFFF = 0x56 ∧ Tbl.get t.tk.dmem 0 0x1FFFD = 0)) =
      true := by decide +kernel

/-- RESTART is refused while VENT is not latched, and counted (R518). -/
theorem test_restartRefused :
    witNext { wit with pending := [.restart] }
      (fun t => decide (t.cnt R.FC_REJ_CNT = 1 ∧ t.get FC_CMD.RESULT = 1 ∧ t.pending = [])) = true := by decide +kernel

/-- The table gives no bits: no word spells a command. -/
theorem test_decodeNone : decodeTableWord 32 0xF4600800 = none := rfl

/-- A field of a register meets the hypothesis of ResetFields. -/
theorem test_witness_ResetFields :
    ∃ r ∈ regRows, ∃ i < r.count, ∃ f ∈ r.fields, (f.fld (r.base + r.stride * i) i).key ≠ G_RST_CAUSE.RST_CNT.key := by
  have h : (regRows.any fun r => decide (0 < r.count) &&
      r.fields.any fun f => decide ((f.fld (r.base + r.stride * 0) 0).key ≠ G_RST_CAUSE.RST_CNT.key)) = true := by decide +kernel
  obtain ⟨r, hr, h⟩ := List.any_eq_true.mp h
  rw [Bool.and_eq_true] at h
  obtain ⟨f, hf, h2⟩ := List.any_eq_true.mp h.2
  exact ⟨r, hr, 0, of_decide_eq_true h.1, f, hf, of_decide_eq_true h2⟩

/-! ### The hypotheses of each statement are met -/

section Witnesses

theorem test_witness_FrontCommandRuns :
    (∃ (c : Instr) (s : State) (rest : List Instr), s.pending = c :: rest) :=
  ⟨.bypass, { wit with pending := [.bypass] }, [], rfl⟩

theorem test_witness_EmptyQueueIdles :
    (∃ (s : State), s.pending = []) :=
  ⟨wit, by decide +kernel⟩

theorem test_witness_StepKeepsInvariant :
    (∃ s t : State, s.Inv ∧ step s = .next t) :=
  ⟨{ wit with cnts := [(R.G_ABSENT_WR_CNT, 0xFFFF)] }, _, ⟨by decide +kernel, by decide +kernel, by decide +kernel, by decide +kernel, by decide +kernel, by decide +kernel, by decide +kernel,
    by decide +kernel, by decide +kernel, by decide +kernel⟩, rfl⟩

theorem test_witness_OnlyJtagMovesJtag :
    (∃ (c : Instr) (s : State) (t : State), exec c s = .next t) :=
  ⟨.bypass, wit, _, rfl⟩

theorem test_witness_HeldPartIsInert :
    (∃ (s : State), s.alive = false) :=
  ⟨witHold, by decide +kernel⟩

theorem test_witness_CapabilityRegisters :
    (∃ (s : State), s.variant = .klh9600) ∧
    (∃ (s : State), s.variant = .klh9610) ∧
    (∃ (s : State), s.variant = .klh4800) ∧
    (∃ (n : Nat), n < 96) ∧
    (∃ (c : Instr) (s : State) (t : State), exec c s = .next t) :=
  ⟨⟨{ wit with mode := .run, variant := .klh9600 }, by decide +kernel⟩,
   ⟨{ wit with mode := .run, variant := .klh9610 }, by decide +kernel⟩,
   ⟨{ wit with mode := .run, variant := .klh4800 }, by decide +kernel⟩,
   ⟨95, by decide +kernel⟩,
   ⟨.bypass, wit, _, rfl⟩⟩

theorem test_witness_AbsentUnits :
    (∃ (s : State) (a : Nat) (r : _) (i : Nat), regAt (regOf a) = some (r, i) ∧ a % 4 = 0 ∧ isGuard a = false ∧ s.pins.clockAbsent = false ∧ s.absent (regOf a) = true) :=
  ⟨{ wit with variant := .klh4800 }, R.P_CAP 95, (witRow (regOf (R.P_CAP 95)) (by decide +kernel)).1, (witRow (regOf (R.P_CAP 95)) (by decide +kernel)).2, witRow_is _ _, by decide +kernel, by decide +kernel, by decide +kernel, by decide +kernel⟩

theorem test_witness_EventCounters :
    (∃ (s : State) (a : Nat) (r : _) (i : Nat), regAt (regOf a) = some (r, i) ∧ r.kind = 1 ∧ a % 4 = 0 ∧ isGuard a = false ∧ s.pins.clockAbsent = false ∧ s.absent (regOf a) = false) ∧
    (∃ (kind : _), kind ≠ rstPor) :=
  ⟨⟨wit, R.G_ABSENT_WR_CNT, (witRow (regOf (R.G_ABSENT_WR_CNT)) (by decide +kernel)).1, (witRow (regOf (R.G_ABSENT_WR_CNT)) (by decide +kernel)).2, witRow_is _ _, by decide +kernel, by decide +kernel, by decide +kernel, by decide +kernel, by decide +kernel⟩,
   ⟨rstPin, by decide +kernel⟩⟩

theorem test_witness_ResetBegins :
    (∃ (kind : _), kind ≠ rstPor ∧ kind < 16) ∧
    (∃ (i : Nat), i < 8) ∧
    (∃ (kind : _), kind ≠ rstPor) :=
  ⟨⟨15, by decide +kernel⟩,
   ⟨7, by decide +kernel⟩,
   ⟨rstPin, by decide +kernel⟩⟩

theorem test_witness_SafeEntry :
    (∃ (s : State), s.alive = true ∧ s.mode ≠ .safe) ∧
    (∃ (s : State), s.mode = .safe) :=
  ⟨⟨wit, by decide +kernel⟩,
   ⟨{ wit with mode := .safe }, by decide +kernel⟩⟩

theorem test_witness_InterruptLine :
    (∃ (s : State), s.alive = true) ∧
    (∃ (s : State), (s.mode = .off ∨ s.mode = .hold)) ∧
    (∃ (s : State) (j : Nat), s.alive = true ∧ j < 8 ∧ s.fltClass (56 + j) = 1) :=
  ⟨⟨wit, by decide +kernel⟩,
   ⟨{ wit with mode := .off }, by decide +kernel⟩,
   ⟨wit |>.set (FC_REACT.CLASS 3) (4 ^ 15), 7, by decide +kernel⟩⟩

theorem test_witness_ResultWrites :
    (∃ (rd : _), rd ≠ 0) :=
  ⟨1, by decide +kernel⟩

theorem test_witness_StoredBytes :
    (∃ (a : Nat), 0x10000000 ≤ a ∧ a < 0x20000000) ∧
    (∃ (a : Nat), 0x20000000 ≤ a) ∧
    (∃ (a : Nat), a < 0x20000000) ∧
    (∃ (t : Nat) (a : Nat) (u : Nat), 0x20000000 ≤ a ∧ u ≠ t) :=
  ⟨⟨0x1FFFFFFF, by decide +kernel⟩,
   ⟨0x20000000, by decide +kernel⟩,
   ⟨0x1FFFFFFF, by decide +kernel⟩,
   ⟨0, 0x20000000, 1, by decide +kernel⟩⟩

theorem test_witness_ExceptionEntry :
    (∃ (s : State) (t : Nat), (s.thread t).exc = false) ∧
    (∃ (s : State) (t : Nat), (s.thread t).exc = true ∧ s.fltClass 15 < 2) :=
  ⟨⟨wit |>.modThread 0 (fun z => { z with exc := false }), 0, by decide +kernel⟩,
   ⟨wit |>.modThread 0 (fun z => { z with exc := true }), 0, by decide +kernel⟩⟩

theorem test_witness_GuardTwoSteps :
    (∃ (s : State) (u : Nat) (a : Nat) (r : _) (i : Nat), regAt (regOf a) = some (r, i) ∧ a % 4 = 0 ∧ isGuard a = false ∧ s.pins.clockAbsent = false ∧ s.absent (regOf a) = false ∧ hasPriv r = true ∧ openFields r = [] ∧ byBase openWrites r.base = none ∧ s.slotOf (.host u) = none) :=
  ⟨wit, 3, R.PP_TRIP 99, (witRow (regOf (R.PP_TRIP 99)) (by decide +kernel)).1, (witRow (regOf (R.PP_TRIP 99)) (by decide +kernel)).2, witRow_is _ _, by decide +kernel, by decide +kernel, by decide +kernel, by decide +kernel, by decide +kernel, List.isEmpty_iff.mp (by decide +kernel), Option.isNone_iff_eq_none.mp (by decide +kernel), by decide +kernel⟩

theorem test_witness_PolicerResult :
    (∃ (s : State) (p : _), s.plMode p = 0) ∧
    (∃ (s : State) (p : _), (s.plMode p = 1 ∨ s.plMode p = 2) ∧ s.injMatches 22 p = false) ∧
    (∃ s : State, ∃ p, s.injMatches 22 p = false) :=
  ⟨⟨wit, 199, by decide +kernel⟩,
   ⟨wit |>.set (TM_PL_CFG.MODE 199) 2, 199, by decide +kernel⟩,
   ⟨wit, 199, by decide +kernel⟩⟩

theorem test_witness_QueueAdmission :
    (∃ (s : State) (q : Nat), (s.queue q).wr < 2 * s.qSize q ∧ (s.queue q).rd < 2 * s.qSize q) ∧
    (∃ (s : State) (q : Nat) (p : Packet), s.on (CD_QST.EN_ACT q) = true ∧ s.qSize q < p.w) ∧
    (∃ (s : State) (q : Nat) (p : Packet), s.on (CD_QST.EN_ACT q) = true ∧ (s.queue q).wait = [] ∧ p.w ≤ s.qFree q ∧ p.w ≤ s.qSize q) ∧
    (∃ (s : State) (q : Nat) (p : Packet), s.on (CD_QST.EN_ACT q) = true ∧ s.qFree q < p.w ∧ p.w ≤ s.qSize q) ∧
    (∃ (q : Nat) (x : Nat), x ≠ q) :=
  ⟨⟨wit, 3, by decide +kernel⟩,
   ⟨wit |>.set (CD_QST.EN_ACT 3) 1, 3, { w := 65 }, by decide +kernel⟩,
   ⟨wit |>.set (CD_QST.EN_ACT 3) 1 |>.modQueue 3 (fun z => { z with wait := [] }), 3, { w := 64 }, by decide +kernel⟩,
   ⟨wit |>.set (CD_QST.EN_ACT 3) 1 |>.modQueue 3 (fun z => { z with wr := 1 }), 3, { w := 64 }, by decide +kernel⟩,
   ⟨511, 0, by decide +kernel⟩⟩

theorem test_witness_ConsoleGates :
    (∃ (s : State), s.conOpen 0 = true ∧ s.get SV_ST.SESSION < 2) ∧
    (∃ (s : State), s.conOpen 0 = true ∧ s.get SV_ST.SESSION = 0) ∧
    (∃ (s : State), s.mode = .safe ∧ s.svc.passed = none) :=
  ⟨⟨wit |>.set SV_ST.SESSION 0, by decide +kernel⟩,
   ⟨wit |>.set SV_ST.SESSION 0 |>.set SV_ST.SESSION 0, by decide +kernel⟩,
   ⟨{ wit with mode := .safe }, by decide +kernel⟩⟩

theorem test_witness_JtagRows :
    (∃ (s : State), s.pins.resetN = false ∧ s.mode = .hold) ∧
    (∃ (s : State), (s.pins.resetN = true ∨ s.mode ≠ .hold)) :=
  ⟨⟨witHold.modPins fun p => { p with resetN := false }, by decide +kernel⟩,
   ⟨wit, by decide +kernel⟩⟩

theorem test_witness_HubPortRows :
    (∃ (s : State) (n : Nat), s.alive = true ∧ s.kHere n = true) ∧
    (∃ (s : State) (k : Nat), s.alive = true ∧ k < 96 ∧ (s.port k).move = .se0 ∧ (∀ c u h l, s.placeOf k ≠ .there c u h l)) ∧
    (∃ (s : State) (u : Nat), s.alive = true ∧ (s.up u).mgmtMove = .se0) ∧
    (∃ (s : State) (n : Nat) (u : Nat), s.alive = true ∧ s.treeAt n = some u ∧ s.get (U_TREEST.LINK u) ≠ 0 ∧ s.get (U_TREE.ENUM_TO u) ≠ 0 ∧ s.get (P_PORTST.ENUM_STALL n) = 0 ∧ s.ps n = Ps.disabled) ∧
    (∃ (s : State) (u : Nat) (a : Nat) (n : Nat), s.hostSide u = true ∧ (s.up u).target0 = some (.port n) ∧ n < 96 ∧ a < 128) ∧
    (∃ (s : State) (u : Nat) (a : Nat) (h : Nat) (l : Nat) (n : Nat), s.hostSide u = true ∧ s.get (U_TREEST.USB3_HUB u) ≠ 0 ∧ l ≠ 0 ∧ s.carrier u h l true = some (.port n) ∧ n < 96 ∧ s.get (P_PORTST.SS_LINK n) ≠ 0 ∧ a < 128) ∧
    (∃ (s : State) (u : Nat) (h : Nat) (l : Nat) (n : Nat), s.hostSide u = true ∧ s.carrier u h l false = some (.port n) ∧ s.get (P_PORTST.SS_LINK n) = 0 ∧ (s.ps n = Ps.enabled ∨ s.ps n = Ps.disabled ∨ s.ps n = Ps.suspended)) ∧
    (∃ (s : State) (n : Nat), s.alive = true ∧ n < 96 ∧ (s.port n).rst = 1 ∧ s.ps n = Ps.resetting ∧ (s.port n).dev = 2 ∧ s.treeAt n = none) ∧
    (∃ (s : State) (u : Nat) (h : Nat) (l : Nat) (n : Nat), s.hostSide u = true ∧ s.carrier u h l true = some (.port n) ∧ n < 96 ∧ s.get (P_PORTST.SS_LINK n) = 1 ∧ s.ps n = Ps.enabled) ∧
    (∃ (s : State) (n : Nat), s.alive = true ∧ (s.port n).rst = 2) ∧
    (∃ (s : State) (n : Nat), s.alive = true ∧ n < 96 ∧ (s.port n).rst = 3) ∧
    (∃ (s : State) (n : Nat), s.alive = true ∧ n < 96 ∧ (s.port n).rst = 4) ∧
    (∃ (s : State) (n : Nat), s.portSide n = true) ∧
    (∃ (s : State) (n : Nat), s.alive = true ∧ n < 96 ∧ s.ps n = Ps.enabled) ∧
    (∃ (s : State) (u : Nat) (h : Nat) (l : Nat) (n : Nat), s.hostSide u = true ∧ s.carrier u h l false = some (.port n) ∧ n < 96 ∧ s.get (P_PORTST.SS_LINK n) = 0 ∧ s.ps n = Ps.enabled) ∧
    (∃ (s : State) (u : Nat) (h : Nat) (l : Nat) (n : Nat), s.hostSide u = true ∧ s.get (U_TREE.HOST_PWR u) ≠ 0 ∧ s.carrier u h l false = some (.port n)) ∧
    (∃ (s : State) (u : Nat), s.hostSide u = true ∧ s.get (U_TREE.HOST_PWR u) = 0) :=
  ⟨⟨wit, 95, by decide +kernel⟩,
   ⟨wit.modPort 95 fun z => { z with move := .se0 }, 95, by decide +kernel, by decide +kernel, by decide +kernel, (fun c u h l e => absurd (show wit.placeOf 95 = .unmapped by decide +kernel) (by rw [show wit.placeOf 95 = .there c u h l from e]; nofun))⟩,
   ⟨wit |>.modUp 3 (fun z => { z with mgmtMove := .se0 }), 3, by decide +kernel⟩,
   ⟨wit |>.set (U_TREEST.LINK 3) 1 |>.set (U_TREE.ENUM_TO 3) 1 |>.set (P_PORTST.ENUM_STALL 95) 0 |>.set (P_PORTST.STATE 95) Ps.disabled |>.modPort 95 (fun z => { z with slot := some (3, 1, 1) }), 95, 3, by decide +kernel⟩,
   ⟨wit |>.modUp 3 (fun z => { z with target0 := some (.port 95) }), 3, 127, 95, by decide +kernel⟩,
   ⟨wit |>.set (U_TREEST.USB3_HUB 3) 1 |>.modPort 95 (fun z => { z with slot := some (3, 0, 1) }) |>.set (P_PORTST.SS_LINK 95) 1, 3, 127, 0, 1, 95, by decide +kernel⟩,
   ⟨wit |>.modPort 95 (fun z => { z with slot := some (3, 0, 1) }) |>.set (P_PORTST.SS_LINK 95) 0 |>.set (P_PORTST.STATE 95) Ps.enabled, 3, 0, 1, 95, by decide +kernel⟩,
   ⟨wit |>.modPort 95 (fun z => { z with rst := 1 }) |>.set (P_PORTST.STATE 95) Ps.resetting |>.modPort 95 (fun z => { z with dev := 2 }), 95, by decide +kernel⟩,
   ⟨wit |>.modPort 95 (fun z => { z with slot := some (3, 0, 1) }) |>.set (P_PORTST.SS_LINK 95) 1 |>.set (P_PORTST.STATE 95) Ps.enabled, 3, 0, 1, 95, by decide +kernel⟩,
   ⟨wit |>.modPort 95 (fun z => { z with rst := 2 }), 95, by decide +kernel⟩,
   ⟨wit |>.modPort 95 (fun z => { z with rst := 3 }), 95, by decide +kernel⟩,
   ⟨wit |>.modPort 95 (fun z => { z with rst := 4 }), 95, by decide +kernel⟩,
   ⟨wit, 95, by decide +kernel⟩,
   ⟨wit |>.set (P_PORTST.STATE 95) Ps.enabled, 95, by decide +kernel⟩,
   ⟨wit |>.modPort 95 (fun z => { z with slot := some (3, 0, 1) }) |>.set (P_PORTST.SS_LINK 95) 0 |>.set (P_PORTST.STATE 95) Ps.enabled, 3, 0, 1, 95, by decide +kernel⟩,
   ⟨wit |>.set (U_TREE.HOST_PWR 3) 1 |>.modPort 95 (fun z => { z with slot := some (3, 0, 1) }), 3, 0, 1, 95, by decide +kernel⟩,
   ⟨wit |>.set (U_TREE.HOST_PWR 3) 0, 3, by decide +kernel⟩⟩

theorem test_witness_HubTreeRows :
    (∃ (s : State) (u : Nat), s.hostSide u = true) ∧
    (∃ (s : State) (u : Nat), s.hostSide u = true ∧ (s.up u).rstHs = true) ∧
    (∃ (s : State) (u : Nat), s.hostSide u = true ∧ (s.up u).rstSs = true) ∧
    (∃ (s : State) (u : Nat) (addr : Nat) (n : Nat), s.hostSide u = true ∧ (s.up u).rstHs = false ∧ s.get (U_TREEST.LINK u) ≠ 0 ∧ s.get (U_LPST.HS_STATE u) = Hs.active ∧ addr ≠ 0 ∧ (s.up u).routes.find? (fun e => e.1 == addr) = some (addr, .port n)) ∧
    (∃ (s : State) (u : Nat) (addr : Nat), s.hostSide u = true ∧ (s.up u).rstHs = false ∧ s.get (U_TREEST.LINK u) ≠ 0 ∧ s.get (U_LPST.HS_STATE u) = Hs.active ∧ addr ≠ 0 ∧ (s.up u).routes.find? (fun e => e.1 == addr) = none) ∧
    (∃ (s : State) (u : Nat) (h : Nat), s.hostSide u = true ∧ h ≠ 0) ∧
    (∃ (s : State) (u : Nat), s.hostSide u = true ∧ u < 4 ∧ (s.up u).attached = true ∧ s.get (PD_ST.DATA_ROLE (96 + u)) = 0) ∧
    (∃ (s : State) (u : Nat), s.hostSide u = true ∧ u < 4 ∧ (s.up u).attached = false ∧ (s.up u).rp = false) ∧
    (∃ (s : State) (u : Nat), s.hostSide u = true ∧ u < 4 ∧ (s.up u).attached = false ∧ (s.up u).rp = true) ∧
    (∃ (s : State) (u : Nat), s.hostSide u = true ∧ (s.get (U_TREEST.LINK u) = 2 ∨ s.get (U_TREEST.LINK u) = 1)) ∧
    (∃ (s : State) (u : Nat), s.hostSide u = true ∧ u < 4 ∧ (hasSs s.variant = true ∨ s.ssTree u = true) ∧ s.get (U_TREEST.LINK u) = 2) ∧
    (∃ (s : State) (u : Nat), s.hostSide u = true ∧ (s.up u).gen ≠ 0 ∧ s.get (U_TREEST.LINK u) = 3) ∧
    (∃ (s : State) (u : Nat), s.hostSide u = true ∧ s.get (U_TREEST.LINK u) = 3 ∧ s.portsIn u = [] ∧ u < 4 ∧ (s.up u).gen ≠ 0) ∧
    (∃ (s : State) (u : Nat), s.hostSide u = true ∧ u < 4) ∧
    (∃ (s : State) (u : Nat), s.hostSide u = true ∧ u < 4 ∧ s.portsIn u = []) ∧
    (∃ (s : State) (target : Nat), target ≤ 7 ∧ s.descRec 1 = none ∧ s.descRec 2 = none) ∧
    (∃ (target : Nat), target ≤ 7) :=
  ⟨⟨wit, 3, by decide +kernel⟩,
   ⟨wit |>.modUp 3 (fun z => { z with rstHs := true }), 3, by decide +kernel⟩,
   ⟨wit |>.modUp 3 (fun z => { z with rstSs := true }), 3, by decide +kernel⟩,
   ⟨wit |>.modUp 3 (fun z => { z with rstHs := false }) |>.set (U_TREEST.LINK 3) 1 |>.set (U_LPST.HS_STATE 3) Hs.active |>.modUp 3 (fun z => { z with routes := Tbl.ins [] 127 (.port 95) }), 3, 127, 95, by decide +kernel⟩,
   ⟨wit |>.modUp 3 (fun z => { z with rstHs := false }) |>.set (U_TREEST.LINK 3) 1 |>.set (U_LPST.HS_STATE 3) Hs.active, 3, 127, by decide +kernel⟩,
   ⟨wit, 3, 1, by decide +kernel⟩,
   ⟨wit |>.modUp 3 (fun z => { z with attached := true }) |>.set (PD_ST.DATA_ROLE (96 + 3)) 0, 3, by decide +kernel⟩,
   ⟨wit |>.modUp 3 (fun z => { z with attached := false }) |>.modUp 3 (fun z => { z with rp := false }), 3, by decide +kernel⟩,
   ⟨wit |>.modUp 3 (fun z => { z with attached := false }) |>.modUp 3 (fun z => { z with rp := true }), 3, by decide +kernel⟩,
   ⟨wit |>.set (U_TREEST.LINK 3) 2, 3, by decide +kernel⟩,
   ⟨wit |>.set (U_TREEST.LINK 3) 2 |>.modPort 95 (fun z => { z with slot := some (3, 1, 1) }), 3, by decide +kernel⟩,
   ⟨wit |>.set (U_TREEST.LINK 3) 3 |>.modUp 3 (fun z => { z with gen := 1 }), 3, by decide +kernel⟩,
   ⟨wit |>.set (U_TREEST.LINK 3) 3 |>.modUp 3 (fun z => { z with gen := 1 }), 3, by decide +kernel⟩,
   ⟨wit, 3, by decide +kernel⟩,
   ⟨wit, 3, by decide +kernel⟩,
   ⟨wit, 7, by decide +kernel⟩,
   ⟨7, by decide +kernel⟩⟩

theorem test_witness_SplitRows :
    (∃ (s : State) (n : Nat) (addr : Nat) (epn : Nat) (dirIn : _) (len : Nat) (o : _), s.alive = true ∧ s.ttServes n = true ∧ (s.tt n).flush = false ∧ ((s.tt n).per.filter fun x => x.y == s.ttNow n + 1).length < 16 ∧ ((s.ttMakeRoom n).ttAccept n addr epn dirIn len).2 = some o) ∧
    (∃ (s : State) (n : Nat), s.alive = true ∧ s.ttServes n = true ∧ (s.tt n).flush = true) ∧
    (∃ (s : State) (n : Nat) (addr : Nat) (epn : Nat) (dirIn : _) (x : Split), s.alive = true ∧ s.ttServes n = true ∧ s.ttDue n addr epn dirIn = some x ∧ x.st ≠ .pending) ∧
    (∃ (s : State) (n : Nat) (addr : Nat) (epn : Nat) (dirIn : _) (x : Split), s.alive = true ∧ s.ttServes n = true ∧ s.ttDue n addr epn dirIn = some x ∧ x.st = .pending ∧ s.ttRunning n = some x) ∧
    (∃ (s : State) (n : Nat) (addr : Nat) (epn : Nat) (dirIn : _) (x : Split), s.alive = true ∧ s.ttServes n = true ∧ s.ttDue n addr epn dirIn = some x ∧ x.st = .pending ∧ s.ttRunning n ≠ some x) ∧
    (∃ (s : State) (n : Nat) (addr : Nat) (epn : Nat) (dirIn : _), s.alive = true ∧ s.ttServes n = true ∧ s.ttDue n addr epn dirIn = none ∧ ((s.tt n).per.any fun x => splitIs addr epn dirIn x && decide (s.ttNow n < x.y + 1)) = true) ∧
    (∃ (s : State) (n : Nat) (addr : Nat) (epn : Nat) (dirIn : _), s.alive = true ∧ s.ttServes n = true ∧ (∀ x ∈ (s.tt n).per, splitIs addr epn dirIn x = false)) ∧
    (∃ (s : State) (n : Nat) (addr : Nat) (epn : Nat) (dirIn : _) (len : Nat) (o : _), s.alive = true ∧ s.ttServes n = true ∧ (s.tt n).flush = false ∧ (s.tt n).np.length < 4 ∧ (s.ttAccept n addr epn dirIn len).2 = some o) ∧
    (∃ (s : State) (n : Nat), s.alive = true ∧ s.ttServes n = true ∧ 4 ≤ (s.tt n).np.length) ∧
    (∃ (s : State) (n : Nat) (addr : Nat) (epn : Nat) (dirIn : _) (x : Split), s.alive = true ∧ s.ttServes n = true ∧ (s.tt n).np.find? (splitIs addr epn dirIn) = some x ∧ x.st ≠ .pending) ∧
    (∃ (s : State) (n : Nat) (addr : Nat) (epn : Nat) (dirIn : _) (x : Split), s.alive = true ∧ s.ttServes n = true ∧ (s.tt n).np.find? (splitIs addr epn dirIn) = some x ∧ x.st = .pending) ∧
    (∃ (s : State) (n : Nat) (addr : Nat) (epn : Nat) (res : _) (x : Split), s.alive = true ∧ s.ttServes n = true ∧ (s.tt n).per = [] ∧ (s.tt n).np = [x] ∧ x.addr = addr ∧ x.epn = epn ∧ x.dirIn = true ∧ x.st = .pending ∧ res ≠ 0) ∧
    (∃ (s : State) (n : Nat) (addr : Nat) (epn : Nat) (x : Split), s.alive = true ∧ s.ttServes n = true ∧ s.ttRunning n = some x ∧ splitIs addr epn true x = true) ∧
    (∃ (s : State) (u : Nat) (h : Nat) (l : Nat) (n : Nat), s.hostSide u = true ∧ s.carrier u h l false = some (.port n)) ∧
    (∃ (s : State) (u : Nat) (h : Nat) (l : Nat) (n : Nat), s.hostSide u = true ∧ s.carrier u h l false = some (.port n) ∧ Tbl.get (s.up u).alts 0 h = 1) ∧
    (∃ (s : State) (u : Nat) (h : Nat), s.alive = true ∧ Tbl.get (s.up u).alts 0 h ≠ 1) ∧
    (∃ (s : State), s.alive = true) :=
  ⟨⟨wit |>.set (P_PORTST.STATE 95) Ps.enabled |>.set (P_PORTST.SPEED 95) 1 |>.modTt 95 (fun z => { z with flush := false }) |>.set (CD_QST.EN_ACT 0) 1, 95, 0, 0, true, 0, 0, by decide +kernel⟩,
   ⟨wit |>.set (P_PORTST.STATE 95) Ps.enabled |>.set (P_PORTST.SPEED 95) 1 |>.modTt 95 (fun z => { z with flush := true }), 95, by decide +kernel⟩,
   ⟨wit |>.set (P_PORTST.STATE 95) Ps.enabled |>.set (P_PORTST.SPEED 95) 1 |>.modTt 95 (fun z => { z with per := [⟨127, 15, true, 1, 0, .done, 0, false⟩] }) |>.setTb 120000, 95, 127, 15, true, ⟨127, 15, true, 1, 0, .done, 0, false⟩, by decide +kernel⟩,
   ⟨wit |>.set (P_PORTST.STATE 95) Ps.enabled |>.set (P_PORTST.SPEED 95) 1 |>.modTt 95 (fun z => { z with per := [⟨127, 15, true, 1, 0, .pending, 0, false⟩] }) |>.setTb 120000, 95, 127, 15, true, ⟨127, 15, true, 1, 0, .pending, 0, false⟩, by decide +kernel⟩,
   ⟨wit |>.set (P_PORTST.STATE 95) Ps.enabled |>.set (P_PORTST.SPEED 95) 1 |>.modTt 95 (fun z => { z with per := [⟨126, 15, true, 0, 0, .pending, 0, false⟩, ⟨127, 15, true, 1, 0, .pending, 0, false⟩] }) |>.setTb 120000, 95, 127, 15, true, ⟨127, 15, true, 1, 0, .pending, 0, false⟩, by decide +kernel⟩,
   ⟨wit |>.set (P_PORTST.STATE 95) Ps.enabled |>.set (P_PORTST.SPEED 95) 1 |>.modTt 95 (fun z => { z with per := [⟨127, 15, true, 1, 0, .pending, 0, false⟩] }), 95, 127, 15, true, by decide +kernel⟩,
   ⟨wit |>.set (P_PORTST.STATE 95) Ps.enabled |>.set (P_PORTST.SPEED 95) 1, 95, 127, 15, true, by decide +kernel⟩,
   ⟨wit |>.set (P_PORTST.STATE 95) Ps.enabled |>.set (P_PORTST.SPEED 95) 1 |>.modTt 95 (fun z => { z with flush := false }) |>.set (CD_QST.EN_ACT 0) 1, 95, 0, 0, true, 0, 0, by decide +kernel⟩,
   ⟨wit |>.set (P_PORTST.STATE 95) Ps.enabled |>.set (P_PORTST.SPEED 95) 1 |>.modTt 95 (fun z => { z with np := List.replicate 4 ⟨127, 15, true, 1, 0, .pending, 0, false⟩ }), 95, by decide +kernel⟩,
   ⟨wit |>.set (P_PORTST.STATE 95) Ps.enabled |>.set (P_PORTST.SPEED 95) 1 |>.modTt 95 (fun z => { z with np := [⟨127, 15, true, 1, 0, .done, 0, false⟩] }), 95, 127, 15, true, ⟨127, 15, true, 1, 0, .done, 0, false⟩, by decide +kernel⟩,
   ⟨wit |>.set (P_PORTST.STATE 95) Ps.enabled |>.set (P_PORTST.SPEED 95) 1 |>.modTt 95 (fun z => { z with np := [⟨127, 15, true, 1, 0, .pending, 0, false⟩] }), 95, 127, 15, true, ⟨127, 15, true, 1, 0, .pending, 0, false⟩, by decide +kernel⟩,
   ⟨wit |>.set (P_PORTST.STATE 95) Ps.enabled |>.set (P_PORTST.SPEED 95) 1 |>.modTt 95 (fun z => { z with np := [⟨127, 15, true, 1, 0, .pending, 0, false⟩] }), 95, 127, 15, 1, ⟨127, 15, true, 1, 0, .pending, 0, false⟩, by decide +kernel⟩,
   ⟨wit |>.set (P_PORTST.STATE 95) Ps.enabled |>.set (P_PORTST.SPEED 95) 1 |>.modTt 95 (fun z => { z with per := [⟨127, 15, true, 1, 0, .pending, 0, false⟩] }) |>.setTb 120000, 95, 127, 15, ⟨127, 15, true, 1, 0, .pending, 0, false⟩, by decide +kernel⟩,
   ⟨wit |>.modPort 95 (fun z => { z with slot := some (3, 0, 1) }), 3, 0, 1, 95, by decide +kernel⟩,
   ⟨wit |>.modPort 95 (fun z => { z with slot := some (3, 0, 1) }) |>.modUp 3 (fun z => { z with alts := Tbl.set [] 0 0 1 }), 3, 0, 1, 95, by decide +kernel⟩,
   ⟨wit, 3, 1, by decide +kernel⟩,
   ⟨wit, by decide +kernel⟩⟩

theorem test_witness_PacketRows :
    (∃ (s : State) (u : Nat) (route : Nat) (n : Nat), s.hostSide u = true ∧ s.get (U_LPST.SS_LS u) = Ls.u0 ∧ s.get (U_TREEST.USB3_HUB u) ≠ 0 ∧ (s.touchUp u).routeOf u route = some (.port n)) ∧
    (∃ (s : State) (u : Nat) (route : Nat), s.hostSide u = true ∧ s.get (U_LPST.SS_LS u) = Ls.u0 ∧ s.get (U_TREEST.USB3_HUB u) ≠ 0 ∧ (s.touchUp u).routeOf u route = none) ∧
    (∃ (s : State) (n : Nat) (u : Nat), s.portSide n = true ∧ s.ssConnected n = true ∧ s.get (P_LPST.SS_LS n) = Ls.u0 ∧ (s.touchPort n).treeAt n = some u) ∧
    (∃ (s : State) (u : Nat) (l : List Nat), s.hostSide u = true ∧ s.get (U_LPST.SS_LS u) = Ls.u0 ∧ s.get (U_TREEST.USB3_HUB u) ≠ 0 ∧ ((s.portsIn u).filter fun n => s.ssConnected n && decide (s.get (P_LPST.SS_LS n) = Ls.u0)) = l ∧ l ≠ []) ∧
    (∃ (s : State) (u : Nat), s.hostSide u = true ∧ s.get (U_LPST.SS_LS u) = Ls.u0 ∧ s.get (U_TREEST.USB3_HUB u) ≠ 0 ∧ s.portsIn u = [] ∧ (s.touchUp u).slotsIn u = []) ∧
    (∃ (s : State) (u : Nat) (p : Packet), s.alive = true ∧ (s.queue (s.get (U_QSEL.ITPQ u))).pkts.find? (fun p => !p.gone && p.kind == 3) = some p) ∧
    (∃ (s : State) (cls : _), s.alive = true ∧ cls < 4) ∧
    (∃ (s : State) (q : Nat), s.alive = true ∧ (s.queue q).wait = []) ∧
    (∃ (s : State) (q : Nat) (p : Packet) (a : Adm), s.alive = true ∧ (s.qGrant q).2 = some (p, a) ∧ p.src < 100) ∧
    (∃ (s : State), s.alive = true) ∧
    (∃ (s : State) (q : Nat), s.alive = true ∧ s.unfinished q = none) ∧
    (∃ (s : State) (q : Nat) (p : Packet) (k : Packet) (words : Nat), s.alive = true ∧ s.unfinished q = some p ∧ (s.modPkt q p.order fun k => { k with written := max k.written (min words k.w) }).pktAt q p.order = some k ∧ k.started = true) ∧
    (∃ (s : State) (q : Nat) (p : Packet) (k : Packet) (words : Nat), s.alive = true ∧ s.unfinished q = some p ∧ (s.modPkt q p.order fun k => { k with written := max k.written (min words k.w) }).pktAt q p.order = some k ∧ k.started = false ∧ (s.modPkt q p.order fun k => { k with written := max k.written (min words k.w) }).ctReady q k = true ∧ k.egress < 100 ∧ (s.modPkt q p.order fun k => { k with written := max k.written (min words k.w) }).egressIdle k.egress = true) ∧
    (∃ (s : State) (q : Nat) (p : Packet), s.alive = true ∧ (s.queue q).pkts.find? (fun p => !p.gone && p.started && p.cut) = some p) ∧
    (∃ (s : State) (x : Nat) (left : Nat) (q : Nat) (p : Packet), s.alive = true ∧ s.egressRoom x = true ∧ (s.pick x left).2 = some (q, p)) ∧
    (∃ (s : State) (x : Nat) (q : Nat) (o : Nat) (rest : List (Nat × Nat)) (p : Packet), s.alive = true ∧ (s.egress x).stage = (q, o) :: rest ∧ s.pktAt q o = some p ∧ p.written = p.w) ∧
    (∃ (s : State), s.alive = true ∧ s.get G_READY.CALDERA ≠ 0) ∧
    (∃ (s : State), s.alive = true ∧ s.get G_READY.CALDERA = 0) ∧
    (∃ (s : State) (q : Nat), s.alive = true ∧ s.flushWaits q = false) ∧
    (∃ (s : State) (q : Nat), s.alive = true ∧ s.get (CD_QST.FLUSH_BUSY q) ≠ 0 ∧ s.unfinished q = none) ∧
    (∃ (s : State) (q : Nat) (p : Packet), s.alive = true ∧ s.get (CD_QST.FLUSH_BUSY q) ≠ 0 ∧ s.unfinished q = some p ∧ p.started = true) ∧
    (∃ (s : State) (p : Nat) (h : Hold), s.alive = true ∧ s.flow.holds.find? (fun h => h.pol == p && decide (s.redMax p < h.age)) = some h) ∧
    (∃ (s : State) (n : Nat), s.portSide n = true ∧ s.get (P_PORTST.SS_LINK n) ≠ 0 ∧ s.get (P_LPST.SS_LS n) = Ls.recovery ∧ (s.port n).rst = 0 ∧ (s.port n).fnWake = false) ∧
    (∃ (s : State) (n : Nat), s.portSide n = true ∧ s.get (P_PORTST.SS_LINK n) ≠ 0 ∧ s.get (P_LPST.SS_LS n) = Ls.polling ∧ (s.port n).rst = 4 ∧ (s.port n).fnWake = false) ∧
    (∃ (s : State) (n : Nat) (addr : Nat) (d : EpDesc) (e : Nat), n < 96 ∧ addr < 128 ∧ d.ty < 4 ∧ e < 2048 ∧ s.epRoom n addr (d.epAddr % 16) (decide (128 ≤ d.epAddr)) d.ty = some e) ∧
    (∃ (s : State) (n : Nat) (addr : Nat) (epn : Nat) (dirIn : _) (ty : Nat), s.epHeld n addr epn dirIn = none ∧ ty ≠ 1 ∧ ty ≠ 3) ∧
    (∃ (s : State) (n : Nat) (addr : Nat) (epn : Nat) (dirIn : _) (ty : Nat), s.epHeld n addr epn dirIn = none ∧ (ty = 1 ∨ ty = 3)) ∧
    (∃ (s : State) (e : Nat), s.epVictim = some e) ∧
    (∃ (s : State) (b : Nat), b < 32 ∧ s.parTwice b = true ∧ (s.get CD_PROT.SECDED).testBit b = false ∧ (s.get CD_PROT_PEND.PEND).testBit b = false) :=
  ⟨⟨wit |>.set (U_LPST.SS_LS 3) Ls.u0 |>.set (U_TREEST.USB3_HUB 3) 1 |>.modPort 95 (fun z => { z with slot := some (3, 0, 1) }), 3, 1, 95, by decide +kernel⟩,
   ⟨wit |>.set (U_LPST.SS_LS 3) Ls.u0 |>.set (U_TREEST.USB3_HUB 3) 1, 3, 1, by decide +kernel⟩,
   ⟨wit |>.set (P_LPST.SS_LS 95) Ls.u0 |>.set (P_PORTST.SS_LINK 95) 1 |>.set (P_PORTST.STATE 95) Ps.enabled |>.modPort 95 (fun z => { z with slot := some (3, 1, 1) }), 95, 3, by decide +kernel⟩,
   ⟨wit |>.set (U_LPST.SS_LS 3) Ls.u0 |>.set (U_TREEST.USB3_HUB 3) 1 |>.set (P_PORTST.SS_LINK 95) 1 |>.set (P_PORTST.STATE 95) Ps.enabled |>.set (P_LPST.SS_LS 95) Ls.u0 |>.modPort 95 (fun z => { z with slot := some (3, 0, 1) }), 3, [95], by decide +kernel⟩,
   ⟨wit |>.set (U_LPST.SS_LS 3) Ls.u0 |>.set (U_TREEST.USB3_HUB 3) 1, 3, by decide +kernel⟩,
   ⟨wit |>.modQueue 0 (fun z => { z with pkts := [{ kind := 3 }] }), 3, { kind := 3 }, by decide +kernel⟩,
   ⟨wit, 3, by decide +kernel⟩,
   ⟨wit |>.modQueue 511 (fun z => { z with wait := [] }), 511, by decide +kernel⟩,
   ⟨wit |>.set (CD_QST.EN_ACT 3) 1 |>.modQueue 3 (fun z => { z with wait := [{ src := 99 }] }), 3, { src := 99 }, .admitted 0, by decide +kernel⟩,
   ⟨wit, by decide +kernel⟩,
   ⟨wit, 3, by decide +kernel⟩,
   ⟨wit |>.modQueue 3 (fun z => { z with pkts := [{ w := 4, started := true }] }), 3, { w := 4, started := true }, { w := 4, started := true, written := 4 }, 4, by decide +kernel⟩,
   ⟨wit |>.set (U_LPST.SS_LS 3) Ls.u0 |>.set (U_TREEST.LINK 3) 3 |>.modUp 3 (fun z => { z with gen := 1 }) |>.set (CD_QTHR.CT_WORDS 3) 1 |>.modQueue 3 (fun z => { z with pkts := [{ w := 40, written := 1, egress := 99 }] }), 3, { w := 40, written := 1, egress := 99 }, { w := 40, written := 30, egress := 99 }, 30, by decide +kernel⟩,
   ⟨wit |>.modQueue 3 (fun z => { z with pkts := [{ started := true, cut := true }] }), 3, { started := true, cut := true }, by decide +kernel⟩,
   ⟨wit |>.set (U_LPST.SS_LS 3) Ls.u0 |>.set (U_TREEST.LINK 3) 3 |>.modUp 3 (fun z => { z with gen := 1 }) |>.modQueue 3 (fun z => { z with wr := 3, pkts := [{ egress := 99 }] }), 99, 100000, 3, { egress := 99 }, by decide +kernel, by decide +kernel, by decide +kernel⟩,
   ⟨wit |>.modQueue 3 (fun z => { z with pkts := [{ poison := true }] }) |>.modEgress 99 (fun z => { z with stage := [(3, 0)] }), 99, 3, 0, [], { poison := true }, by decide +kernel⟩,
   ⟨wit |>.set G_READY.CALDERA 1, by decide +kernel⟩,
   ⟨wit |>.set G_READY.CALDERA 0, by decide +kernel⟩,
   ⟨wit, 3, by decide +kernel⟩,
   ⟨wit |>.set (CD_QST.FLUSH_BUSY 3) 1, 3, by decide +kernel⟩,
   ⟨wit |>.set (CD_QST.FLUSH_BUSY 3) 1 |>.modQueue 3 (fun z => { z with pkts := [{ w := 4, started := true }] }), 3, { w := 4, started := true }, by decide +kernel⟩,
   ⟨wit |>.modFlow (fun d => { d with holds := [⟨199, 2047, 1024, 3, none, 0, 0, 0⟩] }) |>.set (TM_PL_CFG.RED_MAX 199) 2, 199, ⟨199, 2047, 1024, 3, none, 0, 0, 0⟩, by decide +kernel⟩,
   ⟨wit |>.set (P_PORTST.SS_LINK 95) 1 |>.set (P_LPST.SS_LS 95) Ls.recovery |>.modPort 95 (fun z => { z with rst := 0 }) |>.modPort 95 (fun z => { z with fnWake := false }), 95, by decide +kernel⟩,
   ⟨wit |>.set (P_PORTST.SS_LINK 95) 1 |>.set (P_LPST.SS_LS 95) Ls.polling |>.modPort 95 (fun z => { z with rst := 4 }) |>.modPort 95 (fun z => { z with fnWake := false }), 95, by decide +kernel⟩,
   ⟨wit, 95, 127, ⟨1, 0, 0, 0x8F, 3⟩, 0, by decide +kernel⟩,
   ⟨wit, 95, 0, 0, false, 0, by decide +kernel⟩,
   ⟨wit, 95, 0, 0, false, 3, by decide +kernel⟩,
   ⟨wit |>.set (EP_KEY.VALID 2047) 1 |>.set (EP_KEY.TYPE 2047) 2, 2047, by decide +kernel⟩,
   ⟨wit |>.set CD_PROT.SECDED 0 |>.modFlow (fun d => { d with parErr := Tbl.set [] (0, 0) 31 (1, 2) }), 31, by decide +kernel⟩⟩

theorem test_witness_SuspendRows :
    (∃ (s : State) (u : Nat), s.hostSide u = true ∧ s.get (U_LPST.HS_STATE u) = Hs.active ∧ s.get (U_TREEST.LINK u) ≠ 0 ∧ s.sidePorts u false = []) ∧
    (∃ (s : State) (u : Nat), s.hostSide u = true ∧ s.get (U_LPST.HS_STATE u) ≠ Hs.active) ∧
    (∃ (s : State) (u : Nat) (h : Nat) (l : Nat) (n : Nat), s.hostSide u = true ∧ s.carrier u h l false = some (.port n) ∧ n < 96 ∧ s.ps n = Ps.enabled ∧ s.get (P_PORTST.SS_LINK n) = 0 ∧ (s.port n).devK = false) ∧
    (∃ (s : State) (u : Nat) (h : Nat) (l : Nat) (n : Nat), s.hostSide u = true ∧ s.carrier u h l false = some (.port n) ∧ n < 96 ∧ s.ps n = Ps.suspended ∧ s.get (P_LPST.SUSP_KIND n) = Susp.selective ∧ (s.port n).resume = 0) ∧
    (∃ (s : State) (n : Nat), s.alive = true ∧ n < 96 ∧ s.ps n = Ps.suspended ∧ (s.port n).resume = 1) ∧
    (∃ (s : State) (n : Nat), s.alive = true ∧ n < 96 ∧ s.ps n = Ps.suspended ∧ (s.port n).resume = 2) ∧
    (∃ (s : State) (u : Nat), s.hostSide u = true ∧ s.get (U_LPST.HS_STATE u) = Hs.driving ∧ s.dormant = false) ∧
    (∃ (s : State) (u : Nat), s.hostSide u = true ∧ s.get (U_LPST.HS_STATE u) = Hs.suspended ∧ (s.up u).wakePend = false) ∧
    (∃ (s : State) (u : Nat), s.hostSide u = true ∧ s.get (U_LPST.HS_STATE u) = Hs.resuming ∧ s.portsIn u = [] ∧ s.treeKind u = []) ∧
    (∃ (s : State) (u : Nat), s.hostSide u = true ∧ s.get (U_LPST.HS_STATE u) = Hs.resuming) ∧
    (∃ (s : State) (n : Nat), s.portSide n = true ∧ n < 96 ∧ s.get (P_PORTST.SS_LINK n) = 0 ∧ (s.port n).slot = none ∧ s.ps n = Ps.suspended ∧ s.get (P_LPST.SUSP_KIND n) = Susp.selective) ∧
    (∃ (s : State) (n : Nat) (u : Nat) (h : Nat) (l : Nat), s.portSide n = true ∧ n < 96 ∧ (s.port n).slot = some (u, h, l)) ∧
    (∃ (s : State) (u : Nat), s.hostSide u = true ∧ (s.up u).wakePend = true ∧ s.get (U_LPST.HS_STATE u) = Hs.suspended ∧ s.dormant = false) ∧
    (∃ (s : State) (u : Nat), s.hostSide u = true ∧ s.get (U_LPST.HS_STATE u) = Hs.driving ∧ (s.up u).hostK = false) ∧
    (∃ (s : State) (u : Nat) (n : Nat) (h : Nat) (l : Nat), s.hostSide u = true ∧ s.get (U_LPST.HS_STATE u) = Hs.suspended ∧ (s.up u).wakePend = false ∧ s.portsIn u = [n] ∧ (s.port n).slot = some (u, h, l)) ∧
    (∃ (s : State) (u : Nat) (h : Nat) (l : Nat) (n : Nat) (addr : Nat), s.hostSide u = true ∧ s.carrier u h l false = some (.port n) ∧ n < 96 ∧ s.ps n = Ps.enabled ∧ 2 ≤ s.get (P_PORTST.SPEED n) ∧ s.get (P_PORTST.ADDR_VALID n) ≠ 0 ∧ s.get (P_PORTST.ADDR n) = addr ∧ (s.port n).devK = false) ∧
    (∃ (s : State) (n : Nat) (besl : Nat) (rwe : _), s.alive = true ∧ n < 96 ∧ besl < 16 ∧ (s.port n).l1Ask = some (besl, rwe)) ∧
    (∃ (s : State) (n : Nat) (resp : _) (a : Nat × Bool), s.alive = true ∧ n < 96 ∧ (s.port n).l1Ask = some a ∧ 1 ≤ resp ∧ resp ≤ 2) ∧
    (∃ (s : State) (n : Nat), s.alive = true ∧ n < 96 ∧ (s.port n).l1Ask ≠ none) ∧
    (∃ (s : State) (u : Nat), s.hostSide u = true ∧ s.get (U_LPST.HS_STATE u) = Hs.active ∧ s.l1Allowed u = true) ∧
    (∃ (s : State) (u : Nat), s.hostSide u = true ∧ s.l1Allowed u = false) ∧
    (∃ (s : State) (u : Nat), s.hostSide u = true ∧ s.get (U_LPST.HS_STATE u) = Hs.l1 ∧ s.dormant = false) ∧
    (∃ (s : State), s.mode = .run ∧ s.dormant = false ∧ s.hostFacing ≠ [] ∧ (∀ u ∈ s.hostFacing, s.asleepNow u = true) ∧ s.flow.barred = false) :=
  ⟨⟨wit |>.set (U_LPST.HS_STATE 3) Hs.active |>.set (U_TREEST.LINK 3) 1, 3, by decide +kernel⟩,
   ⟨wit |>.set (U_LPST.HS_STATE 3) Hs.suspended, 3, by decide +kernel⟩,
   ⟨wit |>.modPort 95 (fun z => { z with slot := some (3, 0, 1) }) |>.set (P_PORTST.STATE 95) Ps.enabled |>.set (P_PORTST.SS_LINK 95) 0 |>.modPort 95 (fun z => { z with devK := false }), 3, 0, 1, 95, by decide +kernel⟩,
   ⟨wit |>.modPort 95 (fun z => { z with slot := some (3, 0, 1) }) |>.set (P_PORTST.STATE 95) Ps.suspended |>.set (P_LPST.SUSP_KIND 95) Susp.selective |>.modPort 95 (fun z => { z with resume := 0 }), 3, 0, 1, 95, by decide +kernel⟩,
   ⟨wit |>.set (P_PORTST.STATE 95) Ps.suspended |>.modPort 95 (fun z => { z with resume := 1 }), 95, by decide +kernel⟩,
   ⟨wit |>.set (P_PORTST.STATE 95) Ps.suspended |>.modPort 95 (fun z => { z with resume := 2 }), 95, by decide +kernel⟩,
   ⟨wit |>.set (U_LPST.HS_STATE 3) Hs.driving, 3, by decide +kernel⟩,
   ⟨wit |>.set (U_LPST.HS_STATE 3) Hs.suspended |>.modUp 3 (fun z => { z with wakePend := false }), 3, by decide +kernel⟩,
   ⟨wit |>.set (U_LPST.HS_STATE 3) Hs.resuming, 3, by decide +kernel⟩,
   ⟨wit |>.set (U_LPST.HS_STATE 3) Hs.resuming, 3, by decide +kernel⟩,
   ⟨wit |>.set (P_PORTST.SS_LINK 95) 0 |>.modPort 95 (fun z => { z with slot := none }) |>.set (P_PORTST.STATE 95) Ps.suspended |>.set (P_LPST.SUSP_KIND 95) Susp.selective, 95, by decide +kernel⟩,
   ⟨wit |>.modPort 95 (fun z => { z with slot := some (3, 1, 1) }), 95, 3, 1, 1, by decide +kernel⟩,
   ⟨wit |>.modUp 3 (fun z => { z with wakePend := true }) |>.set (U_LPST.HS_STATE 3) Hs.suspended, 3, by decide +kernel⟩,
   ⟨wit |>.set (U_LPST.HS_STATE 3) Hs.driving |>.modUp 3 (fun z => { z with hostK := false }), 3, by decide +kernel⟩,
   ⟨wit |>.set (U_LPST.HS_STATE 3) Hs.suspended |>.modUp 3 (fun z => { z with wakePend := false }) |>.modPort 95 (fun z => { z with slot := some (3, 1, 1) }) |>.modPort 95 (fun z => { z with slot := some (3, 1, 1) }), 3, 95, 1, 1, by decide +kernel⟩,
   ⟨wit |>.modPort 95 (fun z => { z with slot := some (3, 0, 1) }) |>.set (P_PORTST.STATE 95) Ps.enabled |>.set (P_PORTST.SPEED 95) 2 |>.set (P_PORTST.ADDR_VALID 95) 1 |>.set (P_PORTST.ADDR 95) 0 |>.modPort 95 (fun z => { z with devK := false }), 3, 0, 1, 95, 0, by decide +kernel⟩,
   ⟨wit |>.modPort 95 (fun z => { z with l1Ask := some (15, false) }), 95, 15, false, by decide +kernel⟩,
   ⟨wit |>.modPort 95 (fun z => { z with l1Ask := some (15, true) }), 95, 2, (15, true), by decide +kernel⟩,
   ⟨wit |>.modPort 95 (fun z => { z with l1Ask := some (15, true) }), 95, by decide +kernel⟩,
   ⟨wit |>.set (U_LPST.HS_STATE 3) Hs.active, 3, by decide +kernel⟩,
   ⟨wit |>.set (U_LP_CFG.L1_EN 3) 0, 3, by decide +kernel⟩,
   ⟨wit |>.set (U_LPST.HS_STATE 3) Hs.l1, 3, by decide +kernel⟩,
   ⟨wit, by decide +kernel⟩⟩

theorem test_witness_LinkRows :
    (∃ (s : State) (u : Nat) (h : Nat) (l : Nat) (v : Nat) (n : Nat), s.hostSide u = true ∧ s.carrier u h l true = some (.port n) ∧ n < 96 ∧ v < 256) ∧
    (∃ (s : State) (n : Nat), s.portSide n = true ∧ n < 96 ∧ s.get (P_LPST.SS_LS n) = Ls.u0 ∧ 1 ≤ s.get (P_LPTO.U1_TIMEOUT n) ∧ s.get (P_LPTO.U1_TIMEOUT n) ≤ 0xFE ∧ s.linkQueued n = false) ∧
    (∃ (s : State) (n : Nat), s.portSide n = true ∧ n < 96 ∧ s.get (P_LPST.SS_LS n) = Ls.u1 ∧ 1 ≤ s.get (P_LPTO.U2_TIMEOUT n) ∧ s.get (P_LPTO.U2_TIMEOUT n) ≤ 0xFE ∧ (s.port n).exiting = false) ∧
    (∃ (s : State) (n : Nat) (k : Nat), s.portSide n = true ∧ n < 96 ∧ s.get (P_LPST.SS_LS n) = Ls.u0 ∧ ((k = 1 ∧ s.get (P_LPTO.U1_TIMEOUT n) ≠ 0 ∨ k = 2 ∧ s.get (P_LPTO.U2_TIMEOUT n) ≠ 0))) ∧
    (∃ (s : State) (n : Nat) (k : Nat), s.portSide n = true ∧ n < 96 ∧ s.get (P_LPST.SS_LS n) = Ls.u0 ∧ ((k = 1 ∧ s.get (P_LPTO.U1_TIMEOUT n) = 0 ∨ k = 2 ∧ s.get (P_LPTO.U2_TIMEOUT n) = 0))) ∧
    (∃ (s : State) (n : Nat), s.portSide n = true ∧ n < 96 ∧ (s.get (P_LPST.SS_LS n) = Ls.u1 ∨ s.get (P_LPST.SS_LS n) = Ls.u2) ∧ (s.port n).exiting = false) ∧
    (∃ (s : State) (n : Nat), s.portSide n = true ∧ n < 96 ∧ (s.get (P_LPST.SS_LS n) = Ls.u1 ∨ s.get (P_LPST.SS_LS n) = Ls.u2) ∧ (s.port n).exiting = true) ∧
    (∃ (s : State) (n : Nat), s.portSide n = true ∧ n < 96 ∧ s.get (P_LPST.SS_LS n) = Ls.recovery ∧ (s.port n).exiting = true) ∧
    (∃ (s : State) (u : Nat) (h : Nat) (l : Nat) (n : Nat), s.hostSide u = true ∧ s.carrier u h l true = some (.port n) ∧ n < 96 ∧ s.get (P_PORTST.SS_LINK n) ≠ 0 ∧ s.get (P_LPST.SS_LS n) ≤ Ls.u2) ∧
    (∃ (s : State) (u : Nat) (h : Nat) (l : Nat) (n : Nat), s.hostSide u = true ∧ s.carrier u h l true = some (.port n) ∧ n < 96 ∧ s.get (P_PORTST.SS_LINK n) ≠ 0 ∧ s.get (P_LPST.SS_LS n) = Ls.u3 ∧ (s.port n).exiting = false) ∧
    (∃ (s : State) (n : Nat), s.portSide n = true ∧ n < 96 ∧ s.get (P_LPST.SS_LS n) = Ls.u3) ∧
    (∃ (s : State) (u : Nat), s.hostSide u = true ∧ s.get (U_LPST.SS_LS u) = Ls.u0 ∧ s.get (U_TREEST.USB3_HUB u) ≠ 0) ∧
    (∃ (s : State) (u : Nat) (k : Nat), s.hostSide u = true ∧ s.get (U_LPST.SS_LS u) = Ls.u0 ∧ s.get (U_TREEST.USB3_HUB u) ≠ 0 ∧ (k = 1 ∨ k = 2) ∧ s.egressQueued (96 + u) = true) ∧
    (∃ (s : State) (u : Nat) (k : Nat), s.hostSide u = true ∧ s.get (U_LPST.SS_LS u) = Ls.u0 ∧ s.get (U_TREEST.USB3_HUB u) ≠ 0 ∧ (k = 1 ∨ k = 2) ∧ s.egressQueued (96 + u) = false) ∧
    (∃ (s : State) (u : Nat), s.hostSide u = true ∧ (s.up u).u1En = true ∧ s.get (U_LP_CFG.US_INIT_EN u) ≠ 0 ∧ s.get (U_LPST.SS_LS u) = Ls.u0 ∧ s.get (U_TREEST.USB3_HUB u) ≠ 0 ∧ s.egressQueued (96 + u) = false ∧ s.linksLow u = true) ∧
    (∃ (s : State) (u : Nat), s.hostSide u = true ∧ (s.up u).u2En = true ∧ s.get (U_LP_CFG.US_INIT_EN u) ≠ 0 ∧ s.get (U_LPST.SS_LS u) = Ls.u0 ∧ s.get (U_TREEST.USB3_HUB u) ≠ 0 ∧ s.egressQueued (96 + u) = false ∧ s.linksLow u = true) ∧
    (∃ (s : State) (u : Nat), s.hostSide u = true ∧ (s.get (U_LPST.SS_LS u) = Ls.u1 ∨ s.get (U_LPST.SS_LS u) = Ls.u2)) ∧
    (∃ (s : State) (u : Nat), s.hostSide u = true ∧ s.get (U_LPST.SS_LS u) ≤ Ls.u2 ∧ s.get (U_TREEST.USB3_HUB u) ≠ 0 ∧ s.sidePorts u true = []) ∧
    (∃ (s : State) (u : Nat), s.hostSide u = true ∧ s.get (U_LPST.SS_LS u) = Ls.u3 ∧ (s.up u).wakeFwd = [] ∧ s.dormant = false) ∧
    (∃ (s : State) (u : Nat), s.hostSide u = true ∧ s.get (U_LPST.SS_LS u) = Ls.u3) :=
  ⟨⟨wit |>.modPort 95 (fun z => { z with slot := some (3, 0, 1) }), 3, 0, 1, 0, 95, by decide +kernel⟩,
   ⟨wit |>.set (P_LPST.SS_LS 95) Ls.u0 |>.set (P_LPTO.U1_TIMEOUT 95) 1, 95, by decide +kernel⟩,
   ⟨wit |>.set (P_LPST.SS_LS 95) Ls.u1 |>.set (P_LPTO.U2_TIMEOUT 95) 1 |>.modPort 95 (fun z => { z with exiting := false }), 95, by decide +kernel⟩,
   ⟨wit |>.set (P_LPST.SS_LS 95) Ls.u0 |>.set (P_LPTO.U2_TIMEOUT 95) 1, 95, 2, by decide +kernel⟩,
   ⟨wit |>.set (P_LPST.SS_LS 95) Ls.u0, 95, 2, by decide +kernel⟩,
   ⟨wit |>.set (P_LPST.SS_LS 95) Ls.u1 |>.modPort 95 (fun z => { z with exiting := false }), 95, by decide +kernel⟩,
   ⟨wit |>.set (P_LPST.SS_LS 95) Ls.u1 |>.modPort 95 (fun z => { z with exiting := true }), 95, by decide +kernel⟩,
   ⟨wit |>.set (P_LPST.SS_LS 95) Ls.recovery |>.modPort 95 (fun z => { z with exiting := true }), 95, by decide +kernel⟩,
   ⟨wit |>.modPort 95 (fun z => { z with slot := some (3, 0, 1) }) |>.set (P_PORTST.SS_LINK 95) 1 |>.set (P_LPST.SS_LS 95) Ls.u2, 3, 0, 1, 95, by decide +kernel⟩,
   ⟨wit |>.modPort 95 (fun z => { z with slot := some (3, 0, 1) }) |>.set (P_PORTST.SS_LINK 95) 1 |>.set (P_LPST.SS_LS 95) Ls.u3 |>.modPort 95 (fun z => { z with exiting := false }), 3, 0, 1, 95, by decide +kernel⟩,
   ⟨wit |>.set (P_LPST.SS_LS 95) Ls.u3, 95, by decide +kernel⟩,
   ⟨wit |>.set (U_LPST.SS_LS 3) Ls.u0 |>.set (U_TREEST.USB3_HUB 3) 1, 3, by decide +kernel⟩,
   ⟨wit |>.set (U_LPST.SS_LS 3) Ls.u0 |>.set (U_TREEST.USB3_HUB 3) 1 |>.modQueue 0 (fun z => { z with pkts := [{ egress := 99 }] }), 3, 2, by decide +kernel⟩,
   ⟨wit |>.set (U_LPST.SS_LS 3) Ls.u0 |>.set (U_TREEST.USB3_HUB 3) 1, 3, 2, by decide +kernel⟩,
   ⟨wit |>.modUp 3 (fun z => { z with u1En := true }) |>.set (U_LP_CFG.US_INIT_EN 3) 1 |>.set (U_LPST.SS_LS 3) Ls.u0 |>.set (U_TREEST.USB3_HUB 3) 1, 3, by decide +kernel⟩,
   ⟨wit |>.modUp 3 (fun z => { z with u2En := true }) |>.set (U_LP_CFG.US_INIT_EN 3) 1 |>.set (U_LPST.SS_LS 3) Ls.u0 |>.set (U_TREEST.USB3_HUB 3) 1, 3, by decide +kernel⟩,
   ⟨wit |>.set (U_LPST.SS_LS 3) Ls.u1, 3, by decide +kernel⟩,
   ⟨wit |>.set (U_TREEST.USB3_HUB 3) 1 |>.set (U_LPST.SS_LS 3) Ls.u2, 3, by decide +kernel⟩,
   ⟨wit |>.set (U_LPST.SS_LS 3) Ls.u3 |>.modUp 3 (fun z => { z with wakeFwd := [] }), 3, by decide +kernel⟩,
   ⟨wit |>.set (U_LPST.SS_LS 3) Ls.u3, 3, by decide +kernel⟩⟩

theorem test_witness_TypeCRows :
    (∃ (s : State) (n : Nat) (c : _), s.tcSide n = true ∧ n < 96 ∧ s.tc n = Tc.unattached ∧ (s.port n).steam = false ∧ (c = 0 ∨ c = 1)) ∧
    (∃ (s : State) (n : Nat), s.tcSide n = true ∧ n < 96 ∧ s.tc n = Tc.attachWait ∧ s.get (P_TCST.CC1 n) = 1 ∧ s.get (P_TCST.CC2 n) = 1) ∧
    (∃ (s : State) (n : Nat), s.tcSide n = true ∧ n < 96 ∧ s.tc n = Tc.attachWait ∧ s.get (P_TCST.CC1 n) = 2 ∧ s.get (P_TCST.CC2 n) = 0 ∧ s.get (P_TC_CFG.MOIST_EN n) = 1) ∧
    (∃ (s : State) (n : Nat) (cc1 : Nat) (cc2 : Nat) (sbu1 : _) (sbu2 : _), s.tcSide n = true ∧ n < 96 ∧ s.tc n = Tc.checking ∧ s.moistFail n cc1 cc2 sbu1 sbu2 ≠ 0) ∧
    (∃ (s : State) (n : Nat) (cc1 : Nat) (cc2 : Nat) (sbu1 : _) (sbu2 : _), s.tcSide n = true ∧ s.tc n = Tc.checking ∧ s.moistFail n cc1 cc2 sbu1 sbu2 = 0 ∧ (s.port n).steam = false ∧ (s.port n).check = .attach) ∧
    (∃ (s : State) (n : Nat), s.alive = true ∧ n < 96 ∧ s.dsHere n = true ∧ s.get (P_TC_CFG.CRADLE n) = 0 ∧ s.tc n ≠ Tc.seatWait) ∧
    (∃ (s : State) (n : Nat), s.tcSide n = true ∧ n < 96 ∧ s.tc n = Tc.seatWait ∧ s.get (P_TC_CFG.CRADLE n) ≠ 0 ∧ (s.port n).seatGone = false) ∧
    (∃ (s : State) (n : Nat), s.alive = true ∧ n < 96 ∧ s.dsHere n = true ∧ s.get (P_TC_CFG.CRADLE n) = 0) ∧
    (∃ (s : State) (n : Nat), s.alive = true ∧ n < 96 ∧ s.dsHere n = true ∧ s.get (P_TC_CFG.CRADLE n) ≠ 0 ∧ s.get (P_TCST.PWR_OK n) ≠ 0) ∧
    (∃ (s : State) (n : Nat), s.tcSide n = true ∧ n < 96 ∧ s.tc n = Tc.errorRecovery) ∧
    (∃ (s : State) (n : Nat), s.tcSide n = true ∧ n < 96 ∧ s.get (P_TCST.CC1 n) = 2 ∧ s.tc n = Tc.attached ∧ (s.port n).steam = false) ∧
    (∃ (s : State) (n : Nat), s.tcSide n = true ∧ n < 96 ∧ (s.port n).det = 1 ∧ (s.port n).steam = false ∧ (s.port n).detAbort = false ∧ (s.port n).checkRet ≠ Tc.checking) ∧
    (∃ (s : State) (n : Nat), s.tcSide n = true ∧ n < 96 ∧ (s.port n).det = 1 ∧ (s.port n).steam = false ∧ (s.port n).detAbort = true ∧ (s.port n).checkRet ≠ Tc.checking) ∧
    (∃ (s : State) (n : Nat), s.tcSide n = true ∧ (s.port n).det = 1) ∧
    (∃ (s : State) (n : Nat), s.tcSide n = true ∧ (s.port n).det = 2 ∧ (s.port n).steam = false) ∧
    (∃ (s : State) (n : Nat), s.tcSide n = true ∧ (s.port n).det = 2 ∧ (s.port n).steam = true) ∧
    (∃ (s : State) (n : Nat), s.tcSide n = true ∧ s.tc n = Tc.steamHold) ∧
    (∃ (s : State) (n : Nat), s.alive = true ∧ s.kHere n = true ∧ s.kReady n = true ∧ (s.port n).steam = true) ∧
    (∃ (s : State) (n : Nat), s.alive = true ∧ s.kHere n = true ∧ (s.port n).steam = false) ∧
    (∃ (s : State) (n : Nat), s.alive = true ∧ s.kHere n = true ∧ n < 96 ∧ s.tcLive n = true ∧ s.vbusLow n = true ∧ s.tc n = Tc.unattached ∧ s.get (P_TCST.PWR_OK n) = 0) ∧
    (∃ (s : State) (n : Nat), s.alive = true ∧ s.kHere n = true ∧ s.vbusLow n = false) ∧
    (∃ (s : State) (n : Nat) (v : Nat), s.alive = true ∧ s.kHere n = true ∧ s.get (P_TC_CFG.CRADLE n) = 0 ∧ s.get (P_TCST.PWR_OK n) = 0 ∧ n < 96 ∧ v < 2) ∧
    (∃ (s : State) (n : Nat), s.tcSide n = true ∧ s.get (P_TCST.VCONN_ON n) ≠ 0) ∧
    (∃ (s : State) (n : Nat), s.tcSide n = true) ∧
    (∃ (s : State) (u : Nat), s.alive = true ∧ s.usHere u = true ∧ s.get (U_TC_CFG.DRP u) ≠ 0 ∧ (s.up u).attached = false ∧ s.dieUp (96 + u) = true) ∧
    (∃ (s : State) (u : Nat), s.alive = true ∧ s.get (U_TC_CFG.DRP u) = 0) :=
  ⟨⟨wit |>.set (P_READY.READY 95) 1 |>.set (P_TCST.TC_STATE 95) Tc.unattached |>.modPort 95 (fun z => { z with steam := false }), 95, 0, by decide +kernel⟩,
   ⟨wit |>.set (P_READY.READY 95) 1 |>.set (P_TCST.TC_STATE 95) Tc.attachWait |>.set (P_TCST.CC1 95) 1 |>.set (P_TCST.CC2 95) 1, 95, by decide +kernel⟩,
   ⟨wit |>.set (P_READY.READY 95) 1 |>.set (P_TCST.TC_STATE 95) Tc.attachWait |>.set (P_TCST.CC1 95) 2 |>.set (P_TCST.CC2 95) 0 |>.set (P_TC_CFG.MOIST_EN 95) 1, 95, by decide +kernel⟩,
   ⟨wit |>.set (P_READY.READY 95) 1 |>.set (P_TCST.TC_STATE 95) Tc.checking, 95, 0, 0, 0, 0, by decide +kernel⟩,
   ⟨wit |>.set (P_READY.READY 95) 1 |>.set (P_TCST.TC_STATE 95) Tc.checking |>.modPort 95 (fun z => { z with check := .attach }) |>.set (P_TCST.CC1 95) 2, 95, 640, 40000, 40000, 40000, by decide +kernel⟩,
   ⟨wit |>.set (P_TC_CFG.CRADLE 95) 0, 95, by decide +kernel⟩,
   ⟨wit |>.set (P_READY.READY 95) 1 |>.set (P_TCST.TC_STATE 95) Tc.seatWait |>.set (P_TC_CFG.CRADLE 95) 1 |>.modPort 95 (fun z => { z with seatGone := false }), 95, by decide +kernel⟩,
   ⟨wit |>.set (P_TC_CFG.CRADLE 95) 0, 95, by decide +kernel⟩,
   ⟨wit |>.set (P_TC_CFG.CRADLE 95) 1 |>.set (P_TCST.PWR_OK 95) 1, 95, by decide +kernel⟩,
   ⟨wit |>.set (P_READY.READY 95) 1 |>.set (P_TCST.TC_STATE 95) Tc.errorRecovery, 95, by decide +kernel⟩,
   ⟨wit |>.set (P_READY.READY 95) 1 |>.set (P_TCST.CC1 95) 2 |>.set (P_TCST.TC_STATE 95) Tc.attached |>.modPort 95 (fun z => { z with steam := false }), 95, by decide +kernel⟩,
   ⟨wit |>.set (P_READY.READY 95) 1 |>.modPort 95 (fun z => { z with det := 1 }) |>.modPort 95 (fun z => { z with steam := false }) |>.modPort 95 (fun z => { z with detAbort := false }), 95, by decide +kernel⟩,
   ⟨wit |>.set (P_READY.READY 95) 1 |>.modPort 95 (fun z => { z with det := 1 }) |>.modPort 95 (fun z => { z with steam := false }) |>.modPort 95 (fun z => { z with detAbort := true }), 95, by decide +kernel⟩,
   ⟨wit |>.set (P_READY.READY 95) 1 |>.modPort 95 (fun z => { z with det := 1 }), 95, by decide +kernel⟩,
   ⟨wit |>.set (P_READY.READY 95) 1 |>.modPort 95 (fun z => { z with det := 2 }) |>.modPort 95 (fun z => { z with steam := false }), 95, by decide +kernel⟩,
   ⟨wit |>.set (P_READY.READY 95) 1 |>.modPort 95 (fun z => { z with det := 2 }) |>.modPort 95 (fun z => { z with steam := true }), 95, by decide +kernel⟩,
   ⟨wit |>.set (P_READY.READY 95) 1 |>.set (P_TCST.TC_STATE 95) Tc.steamHold, 95, by decide +kernel⟩,
   ⟨wit |>.set (P_READY.READY 95) 1 |>.modPort 95 (fun z => { z with steam := true }), 95, by decide +kernel⟩,
   ⟨wit |>.modPort 95 (fun z => { z with steam := false }), 95, by decide +kernel⟩,
   ⟨wit |>.set (P_TCST.TC_STATE 95) Tc.unattached |>.set (P_TCST.PWR_OK 95) 0 |>.set (P_READY.READY 95) 1, 95, by decide +kernel⟩,
   ⟨wit |>.set (PP_MEAS.VBUS 95) 500, 95, by decide +kernel⟩,
   ⟨wit |>.set (P_TC_CFG.CRADLE 95) 0 |>.set (P_TCST.PWR_OK 95) 0, 95, 1, by decide +kernel⟩,
   ⟨wit |>.set (P_READY.READY 95) 1 |>.set (P_TCST.VCONN_ON 95) 1, 95, by decide +kernel⟩,
   ⟨wit |>.set (P_READY.READY 95) 1, 95, by decide +kernel⟩,
   ⟨wit |>.set (U_TC_CFG.DRP 3) 1 |>.modUp 3 (fun z => { z with attached := false }), 3, by decide +kernel⟩,
   ⟨wit |>.set (U_TC_CFG.DRP 3) 0, 3, by decide +kernel⟩⟩

theorem test_witness_BridgeRows :
    (∃ (s : State) (c : _), s.alive = true ∧ c < sbChannels s.variant) ∧
    (∃ (s : State) (u : Nat) (c : _) (rate : Nat) (bits : Nat) (parity : Nat) (stopBits : Nat), s.alive = true ∧ s.usHere u = true ∧ c < sbChannels s.variant ∧ (s.up u).chNow.testBit c = true ∧ 1200 ≤ rate ∧ rate ≤ 3000000 ∧ (bits = 7 ∨ bits = 8) ∧ parity ≤ 2 ∧ (stopBits = 1 ∨ stopBits = 2)) ∧
    (∃ (s : State) (u : Nat) (c : _) (rate : Nat), s.alive = true ∧ s.usHere u = true ∧ c < sbChannels s.variant ∧ rate < 1200) ∧
    (∃ (s : State) (c : _) (bytes : _), s.alive = true ∧ s.chCarries c = true ∧ ((s.chan c).rx ++ bytes).length ≤ 4096 ∧ s.get (G_SB_CFG.CONSOLE c) = 0) ∧
    (∃ (s : State) (c : _), s.alive = true ∧ s.chCarries c = true ∧ s.get (G_SB_CFG.CONSOLE c) ≠ 0) ∧
    (∃ (s : State) (u : Nat) (c : _), s.alive = true ∧ s.chCarries c = true ∧ s.get (G_SB_CFG.CONSOLE c) = 0 ∧ s.chShown u c = true) ∧
    (∃ (s : State) (c : _), s.alive = true ∧ s.get (G_SB_CFG.CONSOLE c) ≠ 0) :=
  ⟨⟨wit, 0, by decide +kernel⟩,
   ⟨wit |>.modUp 3 (fun z => { z with chNow := 2 ^ 15 }), 3, 15, 3000000, 8, 2, 2, by decide +kernel⟩,
   ⟨wit, 3, 15, 1199, by decide +kernel⟩,
   ⟨wit |>.set (G_SB_CFG.ACTIVE 15) 1 |>.set (G_SB_CFG.CUR_PORT 15) 95 |>.set (P_TCST.SBU_ST 95) 1, 15, [], by decide +kernel⟩,
   ⟨wit |>.set (G_SB_CFG.ACTIVE 15) 1 |>.set (G_SB_CFG.CUR_PORT 15) 95 |>.set (P_TCST.SBU_ST 95) 1 |>.modUp 3 (fun z => { z with mgmtNow := true, chNow := 2 ^ 15 }) |>.set (G_SB_CFG.CONSOLE 15) 1, 15, by decide +kernel⟩,
   ⟨wit |>.set (G_SB_CFG.ACTIVE 15) 1 |>.set (G_SB_CFG.CUR_PORT 15) 95 |>.set (P_TCST.SBU_ST 95) 1 |>.modUp 3 (fun z => { z with mgmtNow := true, chNow := 2 ^ 15 }), 3, 15, by decide +kernel⟩,
   ⟨wit |>.set (G_SB_CFG.CONSOLE 15) 1, 15, by decide +kernel⟩⟩

theorem test_witness_PdMessageRows :
    (∃ (s : State) (k : Nat), s.alive = true ∧ s.pdHears k = true ∧ (s.eng k).tx = .idle ∧ 4 ≤ (s.eng k).rx.length) ∧
    (∃ (s : State) (k : Nat) (h : Nat), s.alive = true ∧ s.pdHears k = true ∧ (s.eng k).tx = .idle ∧ (s.eng k).rx.length < 4 ∧ (s.eng k).held = [] ∧ Tbl.get (s.eng k).rxId 0 2 ≠ pdMsgId h + 1 ∧ s.extBarred k h = false) ∧
    (∃ (s : State) (k : Nat), s.alive = true ∧ (s.eng k).tx = .wire ∧ s.get (PD_ST.REV k) = 1 ∧ (s.eng k).retries < 3) ∧
    (∃ (s : State) (k : Nat), s.alive = true ∧ (s.eng k).tx = .wire ∧ s.get (PD_ST.REV k) ≠ 1 ∧ 2 ≤ (s.eng k).retries) ∧
    (∃ (s : State) (k : Nat), s.alive = true ∧ (s.eng k).tx = .waitIdle ∧ (s.eng k).txWords.headD 0 / 2 ^ 29 % 8 ≠ 3) ∧
    (∃ (s : State) (k : Nat), s.alive = true ∧ (s.eng k).tx = .wire ∧ (s.eng k).txWords.headD 0 / 2 ^ 29 % 8 = 1 ∧ ((s.eng k).txWords.headD 0).testBit 22 = false) ∧
    (∃ (s : State) (k : Nat), s.alive = true ∧ s.kHere k = true ∧ s.get (PD_CFG.EN k) = 0) ∧
    (∃ (s : State) (k : Nat), s.alive = true ∧ s.kHere k = true ∧ s.get (PD_CFG.EN k) ≠ 0 ∧ s.kReady k = true ∧ (s.eng k).tx = .idle ∧ s.partner k = true ∧ s.get (PD_ST.HR_SEQ k) = 0 ∧ s.txWord k 0 / 2 ^ 29 % 8 = 0 ∧ 2 ≤ s.txWord k 0 / 2 ^ 24 % 32 ∧ s.txWord k 0 / 2 ^ 24 % 32 ≤ 30 ∧ (s.txWord k 0).testBit 23 = false ∧ s.extBarred k (s.txWord k 0) = false) ∧
    (∃ (s : State) (k : Nat) (e : List Nat) (r : List (List Nat)), s.alive = true ∧ s.kHere k = true ∧ (s.eng k).rx = e :: r ∧ r.length < 4 ∧ (s.eng k).held = []) ∧
    (∃ (s : State) (k : Nat), s.alive = true ∧ s.kHere k = true ∧ (s.eng k).rx = []) :=
  ⟨⟨wit |>.set (PD_CFG.EN 99) 1 |>.modEng 99 (fun z => { z with tx := .idle }) |>.modEng 99 (fun z => { z with rx := [[], [], [], []] }), 99, by decide +kernel⟩,
   ⟨wit |>.set (PD_CFG.EN 99) 1 |>.modEng 99 (fun z => { z with tx := .idle }) |>.modEng 99 (fun z => { z with held := [] }), 99, 0, by decide +kernel⟩,
   ⟨wit |>.modEng 99 (fun z => { z with tx := .wire }) |>.set (PD_ST.REV 99) 1, 99, by decide +kernel⟩,
   ⟨wit |>.modEng 99 (fun z => { z with tx := .wire }) |>.modEng 99 (fun z => { z with retries := 2 }), 99, by decide +kernel⟩,
   ⟨wit |>.modEng 99 (fun z => { z with tx := .waitIdle }), 99, by decide +kernel⟩,
   ⟨wit |>.modEng 99 (fun z => { z with tx := .wire }) |>.modEng 99 (fun z => { z with txWords := [2 ^ 29] }), 99, by decide +kernel⟩,
   ⟨wit |>.set (PD_CFG.EN 99) 0, 99, by decide +kernel⟩,
   ⟨wit |>.set (PD_CFG.EN 99) 1 |>.set G_READY.US 15 |>.modEng 99 (fun z => { z with tx := .idle }) |>.modUp 3 (fun z => { z with attached := true }) |>.set (PD_ST.HR_SEQ 99) 0 |>.set (PD_TXW0.WORD 99) (2 * 2 ^ 24), 99, by decide +kernel⟩,
   ⟨wit |>.modEng 99 (fun z => { z with rx := [[1], [2], [3], [4]] }), 99, [1], [[2], [3], [4]], by decide +kernel⟩,
   ⟨wit |>.modEng 99 (fun z => { z with rx := [] }), 99, by decide +kernel⟩⟩

theorem test_witness_PdContractRows :
    (∃ (s : State) (k : Nat), s.alive = true ∧ s.kHere k = true ∧ s.get (PD_CFG.EN k) ≠ 0 ∧ s.partner k = true ∧ s.get (PD_ST.HR_SEQ k) = 0 ∧ s.kReady k = true) ∧
    (∃ (s : State) (k : Nat), s.alive = true ∧ s.kHere k = true ∧ s.get (PD_ST.HR_SEQ k) ≠ 0) ∧
    (∃ (s : State) (k : Nat), s.alive = true ∧ s.kHere k = true ∧ s.get (PD_CFG.EN k) ≠ 0 ∧ s.vconnOn k = true ∧ s.kReady k = true) ∧
    (∃ (s : State) (k : Nat), s.alive = true ∧ k < 96 ∧ s.pdHears k = true ∧ s.partner k = true ∧ s.get (PD_ST.HR_SEQ k) = 0) ∧
    (∃ (s : State) (k : Nat), s.alive = true ∧ s.pdHears k = true) ∧
    (∃ (s : State) (k : Nat), s.alive = true ∧ (s.eng k).hr = .psHardReset) ∧
    (∃ (s : State) (k : Nat), s.alive = true ∧ (s.eng k).hr = .srcRecover ∧ (s.eng k).vconnBefore = false) ∧
    (∃ (s : State) (k : Nat), s.alive = true ∧ (s.eng k).hr = .srcRecover ∧ (s.eng k).vconnBefore = true ∧ s.partner k = true) ∧
    (∃ (s : State) (k : Nat), s.alive = true ∧ (s.eng k).hr = .turnOn) ∧
    (∃ (s : State) (k : Nat) (v : Nat), s.alive = true ∧ s.kHere k = true ∧ s.get (PD_ST.IN_TRANS k) = 0 ∧ s.get (PD_CFG.EN k) ≠ 0 ∧ s.nextOk k (v / 2 ^ 29 % 8) (v / 65536 % 8192) (v % 512) = true) ∧
    (∃ (s : State) (k : Nat) (v : Nat), s.alive = true ∧ s.kHere k = true ∧ s.get (PD_ST.IN_TRANS k) = 0 ∧ s.get (PD_CFG.EN k) ≠ 0 ∧ s.nextOk k (v / 2 ^ 29 % 8) (v / 65536 % 8192) (v % 512) = false) ∧
    (∃ (s : State) (k : Nat), s.alive = true ∧ (s.eng k).trans = .srcTransition) ∧
    (∃ (s : State) (k : Nat), s.alive = true ∧ (s.eng k).trans = .slew ∧ s.vbusMv k = 20 * s.get (PD_NEXT.VOLT k)) ∧
    (∃ (s : State) (k : Nat), s.alive = true ∧ (s.eng k).trans = .slew) ∧
    (∃ (s : State) (k : Nat), s.alive = true ∧ s.get (PD_ST.EPR_MODE k) ≠ 0 ∧ s.get (PD_CFG.EN k) ≠ 0) ∧
    (∃ (s : State) (k : Nat), s.alive = true ∧ s.get (PD_ST.CONTRACT k) = 2 ∧ s.get (PD_ST.KIND k) = 1 ∧ s.get (PD_CFG.EN k) ≠ 0) ∧
    (∃ (s : State) (u : Nat), s.alive = true ∧ s.usHere u = true ∧ s.get (PD_CFG.FRS_EN (96 + u)) ≠ 0 ∧ s.get (PD_CFG.EN (96 + u)) ≠ 0 ∧ s.get (PD_ST.PWR_ROLE (96 + u)) = 0 ∧ s.get (PD_ST.CONTRACT (96 + u)) ≠ 0) ∧
    (∃ (s : State) (k : Nat) (w : Nat) (kind : _) (v : Nat) (i : Nat), s.rdoTerms k w = some (kind, v, i) ∧ s.nextOk k kind v i = true ∧ s.get (BSN_CHG.CHARGE k) < contractMw v i ∧ (s.eng k).pol.answered = false ∧ (s.takeQ k (contractMw v i - s.get (BSN_CHG.CHARGE k))).2 ≠ .ok) ∧
    (∃ (s : State) (k : Nat) (w : Nat) (kind : _) (v : Nat) (i : Nat), s.rdoTerms k w = some (kind, v, i) ∧ s.nextOk k kind v i = true ∧ contractMw v i ≤ s.get (BSN_CHG.CHARGE k) ∧ (s.uqOf k).pend = false) ∧
    (∃ (s : State) (k : Nat) (w : Nat), s.rdoTerms k w = none) :=
  ⟨⟨wit |>.set (PD_CFG.EN 99) 1 |>.modUp 3 (fun z => { z with attached := true }) |>.set (PD_ST.HR_SEQ 99) 0 |>.set G_READY.US 15, 99, by decide +kernel⟩,
   ⟨wit |>.set (PD_ST.HR_SEQ 99) 1, 99, by decide +kernel⟩,
   ⟨wit |>.set (PD_CFG.EN 99) 1 |>.set G_READY.US 15 |>.modUp 3 (fun z => { z with vconn := true }), 99, by decide +kernel⟩,
   ⟨wit |>.set (PD_CFG.EN 95) 1 |>.set (P_TCST.TC_STATE 95) 6, 95, by decide +kernel⟩,
   ⟨wit |>.set (PD_CFG.EN 99) 1, 99, by decide +kernel⟩,
   ⟨wit.modEng 99 (fun z => { z with hr := .psHardReset }), 99, by decide +kernel⟩,
   ⟨wit |>.modEng 99 (fun z => { z with hr := .srcRecover }) |>.modEng 99 (fun z => { z with vconnBefore := false }), 99, by decide +kernel⟩,
   ⟨wit |>.modEng 99 (fun z => { z with hr := .srcRecover }) |>.modEng 99 (fun z => { z with vconnBefore := true }) |>.modUp 3 (fun z => { z with attached := true }), 99, by decide +kernel⟩,
   ⟨wit |>.modEng 99 (fun z => { z with hr := .turnOn }), 99, by decide +kernel⟩,
   ⟨wit |>.set (PD_ST.IN_TRANS 99) 0 |>.set (PD_CFG.EN 99) 1 |>.set (PD_CFG.MAX_PWR 99) 100, 99, 1 * 2 ^ 29 + 250 * 65536 + 100, by decide +kernel⟩,
   ⟨wit |>.set (PD_ST.IN_TRANS 99) 0 |>.set (PD_CFG.EN 99) 1, 99, 0, by decide +kernel⟩,
   ⟨wit |>.modEng 99 (fun z => { z with trans := .srcTransition }), 99, by decide +kernel⟩,
   ⟨wit |>.modEng 99 (fun z => { z with trans := .slew }), 99, by decide +kernel⟩,
   ⟨wit |>.modEng 99 (fun z => { z with trans := .slew }), 99, by decide +kernel⟩,
   ⟨wit |>.set (PD_ST.EPR_MODE 99) 1 |>.set (PD_CFG.EN 99) 1, 99, by decide +kernel⟩,
   ⟨wit |>.set (PD_ST.CONTRACT 99) 2 |>.set (PD_ST.KIND 99) 1 |>.set (PD_CFG.EN 99) 1, 99, by decide +kernel⟩,
   ⟨wit |>.set (PD_CFG.FRS_EN (96 + 3)) 1 |>.set (PD_CFG.EN (96 + 3)) 1 |>.set (PD_ST.PWR_ROLE (96 + 3)) 0 |>.set (PD_ST.CONTRACT (96 + 3)) 1, 3, by decide +kernel⟩,
   ⟨wit, 95, 2 ^ 28 + 90 * 2 ^ 10, 0, 250, 90, by decide +kernel⟩,
   ⟨wit |>.set (BSN_CHG.CHARGE 95) 4500, 95, 2 ^ 28 + 90 * 2 ^ 10, 0, 250, 90, by decide +kernel⟩,
   ⟨wit, 99, 0, by decide +kernel⟩⟩

theorem test_witness_PowerRiseRows :
    (∃ (s : State) (k : Nat), s.alive = true ∧ s.rampReady k = true ∧ (s.path k).retrying = false) ∧
    (∃ (s : State) (k : Nat), s.alive = true ∧ s.rampReady k = false) ∧
    (∃ (s : State) (k : Nat), s.alive = true ∧ s.ppState k = Pp.precheck ∧ s.vbusLow k = true) ∧
    (∃ (s : State) (k : Nat), s.alive = true ∧ s.ppState k = Pp.precheck ∧ s.vbusLow k = false) ∧
    (∃ (s : State) (k : Nat) (v : Nat), s.alive = true ∧ s.ppState k = Pp.precheck ∧ 80 ≤ v) ∧
    (∃ (s : State) (v : Nat), s.alive = true ∧ v < 80) ∧
    (∃ (s : State) (k : Nat), s.alive = true ∧ s.ppState k = Pp.slope) ∧
    (∃ (s : State) (k : Nat), s.alive = true ∧ s.ppState k = Pp.enhance) ∧
    (∃ (s : State) (k : Nat), s.alive = true ∧ s.ppState k = Pp.enhance ∧ s.vbusMv k < 4750) ∧
    (∃ (s : State) (k : Nat), s.alive = true ∧ s.ppState k = Pp.enhance ∧ 4750 ≤ s.vbusMv k) ∧
    (∃ (s : State) (k : Nat), s.alive = true ∧ s.ppState k = Pp.enhance ∧ s.get (PP_ST.FTIMER k) = 0 ∧ k < 100 ∧ (s.eng k).hr = .none) ∧
    (∃ (s : State) (k : Nat), s.alive = true ∧ s.pathLive k = true) ∧
    (∃ (s : State) (k : Nat), s.alive = true ∧ s.pathLive k = false ∧ s.ppState k ≠ Pp.discharge) ∧
    (∃ (s : State) (k : Nat), s.alive = true ∧ s.pathLive k = true ∧ (s.path k).oc = true ∧ (s.path k).uv = false) ∧
    (∃ (s : State) (k : Nat), s.alive = true ∧ s.pathLive k = true ∧ (s.path k).oc = false ∧ (s.path k).uv = true) ∧
    (∃ (s : State) (k : Nat), s.alive = true ∧ s.pathLive k = true ∧ (s.path k).ov = true) ∧
    (∃ (s : State) (k : Nat), s.alive = true ∧ s.ppState k = Pp.retryWait) :=
  ⟨⟨wit |>.modPath 99 (fun z => { z with retrying := false }) |>.set G_READY.US 15 |>.set (PD_ST.PWR_ROLE 99) 1, 99, by decide +kernel⟩,
   ⟨wit, 99, by decide +kernel⟩,
   ⟨wit |>.set (PP_ST.STATE 99) Pp.precheck, 99, by decide +kernel⟩,
   ⟨wit |>.set (PP_ST.STATE 99) Pp.precheck |>.set (PP_MEAS.VBUS 99) 500, 99, by decide +kernel⟩,
   ⟨wit |>.set (PP_ST.STATE 99) Pp.precheck, 99, 80, by decide +kernel⟩,
   ⟨wit, 79, by decide +kernel⟩,
   ⟨wit |>.set (PP_ST.STATE 99) Pp.slope, 99, by decide +kernel⟩,
   ⟨wit |>.set (PP_ST.STATE 99) Pp.enhance, 99, by decide +kernel⟩,
   ⟨wit |>.set (PP_ST.STATE 99) Pp.enhance, 99, by decide +kernel⟩,
   ⟨wit |>.set (PP_ST.STATE 99) Pp.enhance |>.set (PP_MEAS.VBUS 99) 475, 99, by decide +kernel⟩,
   ⟨wit |>.set (PP_ST.STATE 99) Pp.enhance |>.set (PP_ST.FTIMER 99) 0 |>.modEng 99 (fun z => { z with hr := .none }), 99, by decide +kernel⟩,
   ⟨wit |>.set (PP_ST.STATE 99) Pp.on, 99, by decide +kernel⟩,
   ⟨wit, 99, by decide +kernel⟩,
   ⟨wit |>.set (PP_ST.STATE 99) Pp.on |>.modPath 99 (fun z => { z with oc := true }) |>.modPath 99 (fun z => { z with uv := false }), 99, by decide +kernel⟩,
   ⟨wit |>.set (PP_ST.STATE 99) Pp.on |>.modPath 99 (fun z => { z with oc := false }) |>.modPath 99 (fun z => { z with uv := true }), 99, by decide +kernel⟩,
   ⟨wit |>.set (PP_ST.STATE 99) Pp.on |>.modPath 99 (fun z => { z with ov := true }), 99, by decide +kernel⟩,
   ⟨wit |>.set (PP_ST.STATE 99) Pp.retryWait, 99, by decide +kernel⟩⟩

theorem test_witness_PowerCommandRows :
    (∃ (s : State) (k : Nat), s.alive = true ∧ s.get (PP_ST.PGOOD k) ≠ 0) ∧
    (∃ (s : State) (k : Nat), s.alive = true ∧ s.get (PP_ST.PGOOD k) ≠ 0 ∧ s.ppState k = Pp.on ∧ (s.path k).target = 5000 ∧ s.get (PP_MEAS.VBUS k) = 500) ∧
    (∃ (s : State) (k : Nat) (t0 : Int), s.alive = true ∧ s.get (PP_ST.PGOOD k) ≠ 0 ∧ s.ppState k = Pp.on ∧ 1005 * (s.path k).target < 1000 * s.vbusMv k ∧ t0 = max (-((max 4 (5 * (s.path k).nominal / 100) : Nat) : Int)) ((s.path k).trim - 1)) ∧
    (∃ (s : State) (k : Nat) (t0 : Int), s.alive = true ∧ s.get (PP_ST.PGOOD k) ≠ 0 ∧ s.ppState k = Pp.on ∧ 1000 * s.vbusMv k < 995 * (s.path k).target ∧ t0 = min ((max 4 (5 * (s.path k).nominal / 100) : Nat) : Int) ((s.path k).trim + 1)) ∧
    (∃ (s : State) (k : Nat), s.alive = true ∧ s.ppState k = Pp.slew ∧ k < 100) ∧
    (∃ (s : State), s.alive = true) ∧
    (∃ (s : State) (k : Nat), s.alive = true ∧ s.ppState k = Pp.discharge ∧ (s.path k).soft = true) ∧
    (∃ (s : State) (k : Nat), s.alive = true ∧ s.ppState k = Pp.discharge) ∧
    (∃ (s : State) (k : Nat), s.alive = true ∧ s.ppState k = Pp.discharge ∧ s.vbusLow k = false) ∧
    (∃ (s : State) (k : Nat), s.alive = true ∧ s.kHere k = true ∧ k < 100 ∧ s.kReady k = true ∧ s.get (PP_ST.CMD_OFF k) ≠ 0) ∧
    (∃ (s : State) (k : Nat), s.alive = true ∧ s.kHere k = true ∧ s.get (PP_ST.CMD_OFF k) = 0 ∧ s.shedOff k = false) ∧
    (∃ (s : State) (k : Nat), s.alive = true ∧ s.kHere k = true ∧ s.kReady k = true ∧ s.get (PP_ST.CMD_OFF k) = 0 ∧ s.shedOff k = false ∧ s.ppState k ≠ Pp.latched ∧ s.ppState k ≠ Pp.stuck) ∧
    (∃ (s : State) (k : Nat), s.alive = true ∧ s.kHere k = true ∧ s.get (PP_ST.CMD_OFF k) ≠ 0) ∧
    (∃ (s : State) (k : Nat), s.alive = true ∧ s.kHere k = true ∧ s.kReady k = true ∧ s.ppState k = Pp.latched) ∧
    (∃ (s : State) (k : Nat), s.alive = true ∧ s.kHere k = true ∧ s.ppState k ≠ Pp.latched) ∧
    (∃ (s : State) (k : Nat), s.alive = true ∧ s.kHere k = true ∧ s.kReady k = true ∧ s.ppState k = Pp.stuck) ∧
    (∃ (s : State) (k : Nat), s.alive = true ∧ s.kHere k = true ∧ s.ppState k ≠ Pp.stuck) ∧
    (∃ (s : State) (k : Nat) (v : Nat), s.alive = true ∧ s.kHere k = true ∧ v < 65536 ∧ s.ppState k = Pp.off) ∧
    (∃ (s : State) (k : Nat) (v : Nat), s.alive = true ∧ s.kHere k = true ∧ s.get (PP_ST.PGOOD k) = 0 ∧ (s.path k).rampDone = false ∧ v < 65536) :=
  ⟨⟨wit |>.set (PP_ST.PGOOD 99) 1, 99, by decide +kernel⟩,
   ⟨wit |>.set (PP_ST.PGOOD 99) 1 |>.set (PP_ST.STATE 99) Pp.on |>.modPath 99 (fun z => { z with target := 5000 }) |>.set (PP_MEAS.VBUS 99) 500, 99, by decide +kernel⟩,
   ⟨wit |>.set (PP_ST.PGOOD 99) 1 |>.set (PP_ST.STATE 99) Pp.on |>.modPath 99 (fun z => { z with target := 5000 }) |>.set (PP_MEAS.VBUS 99) 510, 99, -1, by decide +kernel⟩,
   ⟨wit |>.set (PP_ST.PGOOD 99) 1 |>.set (PP_ST.STATE 99) Pp.on |>.modPath 99 (fun z => { z with target := 5000 }) |>.set (PP_MEAS.VBUS 99) 490, 99, 1, by decide +kernel⟩,
   ⟨wit |>.set (PP_ST.STATE 99) Pp.slew, 99, by decide +kernel⟩,
   ⟨wit, by decide +kernel⟩,
   ⟨wit |>.set (PP_ST.STATE 99) Pp.discharge |>.modPath 99 (fun z => { z with soft := true }), 99, by decide +kernel⟩,
   ⟨wit |>.set (PP_ST.STATE 99) Pp.discharge, 99, by decide +kernel⟩,
   ⟨wit |>.set (PP_ST.STATE 99) Pp.discharge |>.set (PP_MEAS.VBUS 99) 500, 99, by decide +kernel⟩,
   ⟨wit |>.set G_READY.US 15 |>.set (PP_ST.CMD_OFF 99) 1, 99, by decide +kernel⟩,
   ⟨wit |>.set (PP_ST.CMD_OFF 99) 0, 99, by decide +kernel⟩,
   ⟨wit |>.set G_READY.US 15 |>.set (PP_ST.CMD_OFF 99) 0, 99, by decide +kernel⟩,
   ⟨wit |>.set (PP_ST.CMD_OFF 99) 1, 99, by decide +kernel⟩,
   ⟨wit |>.set G_READY.US 15 |>.set (PP_ST.STATE 99) Pp.latched, 99, by decide +kernel⟩,
   ⟨wit, 99, by decide +kernel⟩,
   ⟨wit |>.set G_READY.US 15 |>.set (PP_ST.STATE 99) Pp.stuck, 99, by decide +kernel⟩,
   ⟨wit, 99, by decide +kernel⟩,
   ⟨wit |>.set (PP_ST.STATE 99) Pp.off, 99, 0, by decide +kernel⟩,
   ⟨wit |>.set (PP_ST.PGOOD 99) 0 |>.modPath 99 (fun z => { z with rampDone := false }), 99, 0, by decide +kernel⟩⟩

theorem test_witness_ClockRows :
    (∃ (s : State) (d : Nat), s.alive = true ∧ s.pins.paEnable.getD d false = true) ∧
    (∃ (s : State), s.alive = true ∧ s.fltOn 0 = false) ∧
    (∃ (s : State), s.alive = true ∧ s.pins.pllLocked = true ∧ s.mode ≠ .strap) ∧
    (∃ (s : State) (u : Nat), s.hostSide u = true) ∧
    (∃ (s : State) (u : Nat), s.alive = true ∧ s.usHere u = true ∧ s.dataOn = true ∧ s.mode ≠ .strap ∧ s.pins.clockAbsent = false) ∧
    (∃ (s : State) (u : Nat), s.alive = true ∧ s.usHere u = true ∧ s.dataOn = false ∧ s.mode ≠ .strap ∧ s.pins.clockAbsent = false) ∧
    (∃ (s : State), s.alive = true ∧ s.mode ≠ .strap ∧ s.pins.clockAbsent = false ∧ s.dataOn = true) ∧
    (∃ (s : State), s.alive = true ∧ (s.mode = .strap ∨ s.pins.clockAbsent = true)) ∧
    (∃ (s : State), s.alive = true ∧ s.mode ≠ .strap ∧ s.pins.clockAbsent = false ∧ (s.setTb (s.tb + 480)).dataOn = false) ∧
    (∃ (s : State), s.alive = true ∧ s.mode ≠ .strap ∧ s.pins.clockAbsent = false ∧ (s.setTb (s.tb + 480)).dataOn = true) ∧
    (∃ (s : State), s.alive = true ∧ s.mode ≠ .strap ∧ s.pins.clockAbsent = false) :=
  ⟨⟨wit, 1, by decide +kernel⟩,
   ⟨wit, by decide +kernel⟩,
   ⟨wit, by decide +kernel⟩,
   ⟨wit, 3, by decide +kernel⟩,
   ⟨wit, 3, by decide +kernel⟩,
   ⟨{ wit with mode := .safe }, 3, by decide +kernel⟩,
   ⟨wit, by decide +kernel⟩,
   ⟨{ wit with mode := .strap }, by decide +kernel⟩,
   ⟨{ wit with mode := .safe }, by decide +kernel⟩,
   ⟨wit, by decide +kernel⟩,
   ⟨wit, by decide +kernel⟩⟩

theorem test_witness_BasinRows :
    (∃ (s : State), s.alive = true ∧ s.get G_READY.BASIN ≠ 0) ∧
    (∃ (s : State), s.alive = true ∧ s.get G_READY.BASIN = 0) ∧
    (∃ (s : State) (k : Nat), s.alive = true ∧ (s.uqOf k).grant ≠ 0) ∧
    (∃ (s : State) (k : Nat), s.alive = true ∧ (s.uqOf k).grant = 0) ∧
    (∃ (s : State) (i : Nat) (diff : _), s.alive = true ∧ i ∈ s.dieSensors ∧ diff < 60 ∧ Tbl.get s.bsn.stuck 0 i < 9) ∧
    (∃ (s : State) (j : Nat) (temp : _), s.alive = true ∧ s.boardOn.contains j = true ∧ temp < 4096) ∧
    (∃ (s : State) (j : Nat), s.alive = true ∧ s.boardOn.contains j = true ∧ Tbl.get s.bsn.invalid 0 j < 2) ∧
    (∃ (s : State), s.alive = true) ∧
    (∃ (s : State), s.alive = true ∧ s.get BSN_SHED_ST.LEVEL = 4 ∧ s.get BSN_SHED_ST.CAUSE ≠ 0) ∧
    (∃ (s : State), s.alive = true ∧ s.get BSN_SHED_ST.LEVEL ≠ 4) ∧
    (∃ (s : State), s.alive = true ∧ s.get BSN_SHED_ST.LEVEL < 4) ∧
    (∃ (s : State) (g : Nat), s.alive = true ∧ (g = 13 ∨ s.sgHere g = true)) ∧
    (∃ (s : State), s.boot.work.hotAt ≠ 0 ∧ s.boot.work.hotAt + 2000 ≤ s.workNow ∧ s.workNow < s.boot.work.hotAt + 7000 ∧ s.boot.work.raised < 3 ∧ s.get BSN_SHED_CTL.LEVEL < 3) ∧
    (∃ (s : State), s.boot.work.hotAt ≠ 0 ∧ s.boot.work.hotAt + 7000 ≤ s.workNow ∧ s.boot.work.raised < 4 ∧ s.get BSN_SHED_CTL.LEVEL < 4) ∧
    (∃ (s : State), s.boot.work.hotAt = 0 ∧ s.boot.work.calmAt + 10000 ≤ s.workNow ∧ s.boot.work.wrote ≠ 0 ∧ s.get BSN_SHED_CTL.LEVEL = s.boot.work.wrote) :=
  ⟨⟨wit |>.set G_READY.BASIN 1, by decide +kernel⟩,
   ⟨wit |>.set G_READY.BASIN 0, by decide +kernel⟩,
   ⟨wit |>.setUq 99 { grant := 1 }, 99, by decide +kernel⟩,
   ⟨wit, 99, by decide +kernel⟩,
   ⟨wit, 0, 59, by decide +kernel⟩,
   ⟨wit |>.set (BSN_BRD_CFG.SRC 3) 2, 3, 4095, by decide +kernel⟩,
   ⟨wit |>.set (BSN_BRD_CFG.SRC 3) 2, 3, by decide +kernel⟩,
   ⟨wit, by decide +kernel⟩,
   ⟨wit |>.set BSN_SHED_ST.LEVEL 4 |>.set BSN_SHED_ST.CAUSE 1, by decide +kernel⟩,
   ⟨wit, by decide +kernel⟩,
   ⟨wit, by decide +kernel⟩,
   ⟨wit, 12, by decide +kernel⟩,
   ⟨wit |>.modBoot (fun z => { z with work := { z.work with hotAt := 1 } }) |>.setTb 1440000000, by decide +kernel⟩,
   ⟨wit |>.modBoot (fun z => { z with work := { z.work with hotAt := 1 } }) |>.setTb 3840000000, by decide +kernel⟩,
   ⟨wit |>.modBoot (fun z => { z with work := { z.work with calmAt := 1, wrote := 3 } }) |>.set BSN_SHED_CTL.LEVEL 3 |>.setTb 5280000000, by decide +kernel⟩⟩

theorem test_witness_ModeRows :
    (∃ (s : State) (i : Nat), 1 ≤ i ∧ i < 4 ∧ s.mode ≠ .off) ∧
    (∃ (s : State) (i : Nat), i < 4 ∧ s.mode = .off ∧ ((s.pins.supply.set i true).take 4).all id = true ∧ s.pins.supply.length = 7) ∧
    (∃ (s : State), s.alive = true) ∧
    (∃ (s : State), s.alive = false) ∧
    (∃ (s : State), s.mode = .hold ∧ s.pins.resetN = true ∧ s.logicUp = true) ∧
    (∃ (s : State), s.mode = .strap ∧ s.alive = true ∧ s.pins.pllLocked = false) ∧
    (∃ (s : State), s.mode = .strap ∧ s.alive = true ∧ s.pins.pllLocked = true) ∧
    (∃ (s : State), s.mode = .strap ∧ s.alive = true ∧ s.pins.pllLocked = true ∧ (∀ d, s.dieSupplied d = true) ∧ s.variant = .klh9600) ∧
    (∃ (s : State) (i : Nat), s.alive = true ∧ i < 64 ∧ s.awaited i = true ∧ s.unitMay i = true) ∧
    (∃ (s : State) (i : Nat), s.alive = true ∧ s.awaited i = true ∧ i < 64) ∧
    (∃ (s : State) (i : Nat), s.alive = true ∧ s.awaited i = true ∧ 64 ≤ i) ∧
    (∃ (s : State), s.alive = true ∧ s.mode ≠ .safe) ∧
    (∃ (s : State), s.alive = true ∧ s.mode = .safe) ∧
    (∃ (s : State), s.alive = true ∧ s.safeClear = true) ∧
    (∃ (s : State), s.alive = true ∧ s.safeClear = false) ∧
    (∃ (s : State), s.alive = true ∧ s.mode ≠ .run) ∧
    (∃ (s : State), s.alive = true ∧ s.mode = .run ∧ s.get G_UPD_ST.ACTIVE = 0) ∧
    (∃ (s : State), s.alive = true ∧ s.mode = .selftest) ∧
    (∃ (s : State), s.alive = true ∧ s.get G_UPD_ST.BUSY = 0) ∧
    (∃ (s : State), s.alive = true ∧ s.get G_UPD_ST.BUSY ≠ 0) ∧
    (∃ (s : State), s.alive = true ∧ s.dormant = true) ∧
    (∃ (s : State), s.alive = true ∧ s.dormant = false) :=
  ⟨⟨wit, 3, by decide +kernel⟩,
   ⟨{ wit with mode := .off } |>.modPins (fun p => { p with supply := [true, true, true, false, true, true, true] }), 3, by decide +kernel⟩,
   ⟨wit, by decide +kernel⟩,
   ⟨witHold, by decide +kernel⟩,
   ⟨{ wit with mode := .hold }, by decide +kernel⟩,
   ⟨State.reset, by decide +kernel⟩,
   ⟨{ wit with mode := .strap }, by decide +kernel⟩,
   ⟨{ wit with mode := .strap }, by decide +kernel, by decide +kernel, by decide +kernel, (fun d => by have : ∀ e, ([true, true, true, true, true, true, true] : List Bool).getD (5 + e) true = true := (fun e => by rcases e with _ | _ | e <;> first | rfl | simp [List.getElem?_eq_none (show ([true, true, true, true, true, true, true] : List Bool).length ≤ 5 + (e + 1 + 1) by simp; omega)]); exact this d), by decide +kernel⟩,
   ⟨{ wit with mode := .rise }, 1, by decide +kernel⟩,
   ⟨{ wit with mode := .rise }, 1, by decide +kernel⟩,
   ⟨{ wit with mode := .rise }, 159, by decide +kernel⟩,
   ⟨wit, by decide +kernel⟩,
   ⟨{ wit with mode := .safe }, by decide +kernel⟩,
   ⟨{ wit with mode := .safe }, by decide +kernel⟩,
   ⟨wit, by decide +kernel⟩,
   ⟨{ wit with mode := .safe }, by decide +kernel⟩,
   ⟨wit |>.set G_UPD_ST.ACTIVE 0, by decide +kernel⟩,
   ⟨{ wit with mode := .selftest }, by decide +kernel⟩,
   ⟨wit |>.set G_UPD_ST.BUSY 0, by decide +kernel⟩,
   ⟨wit |>.set G_UPD_ST.BUSY 1, by decide +kernel⟩,
   ⟨wit |>.setDormant true, by decide +kernel⟩,
   ⟨wit, by decide +kernel⟩⟩

theorem test_witness_CascadeLinkRows :
    (∃ (s : State) (u : Nat), s.alive = true ∧ s.kOn = true ∧ s.usHere u = true ∧ s.get (KL_UCFG.MODE u) = 2 ∧ s.get (U_TC_CFG.DRP u) = 0 ∧ s.get (U_TREEST.LINK u) = 0 ∧ (s.get G_READY.US).testBit u = true) ∧
    (∃ (s : State) (u : Nat), s.linkSide u = true ∧ s.lst u = Kl.detect) ∧
    (∃ (s : State) (u : Nat), s.linkSide u = true ∧ s.lst u = Kl.poll) ∧
    (∃ (s : State) (u : Nat) (ver : _), s.linkSide u = true ∧ s.lst u = Kl.config ∧ ver < 0x10) ∧
    (∃ (s : State) (u : Nat) (peerDie : _), s.linkSide u = true ∧ s.lst u = Kl.config ∧ (s.klink u).peerDie ≠ peerDie ∧ s.get KL_ID.STATE = 1) ∧
    (∃ (s : State) (u : Nat), s.linkSide u = true ∧ (s.lst u = Kl.poll ∨ s.lst u = Kl.config)) ∧
    (∃ (s : State) (u : Nat), s.linkSide u = true ∧ s.lst u = Kl.down) ∧
    (∃ (s : State) (u : Nat) (seq : Nat) (f : KFrame) (r : List (Nat × KFrame)), s.linkSide u = true ∧ (s.klink u).unacked = (seq, f) :: r ∧ (s.klink u).txq = []) ∧
    (∃ (s : State) (u : Nat) (seq : Nat), s.linkSide u = true ∧ s.linkLive u = true ∧ (s.klink u).lnak = (seq + 1, 3)) ∧
    (∃ (s : State) (u : Nat), s.linkSide u = true ∧ s.linkLive u = true ∧ (s.klink u).lnak = (0, 0) ∧ (s.klink u).unacked = [] ∧ (s.klink u).txq = []) ∧
    (∃ (s : State) (u : Nat), s.linkSide u = true ∧ (s.klink u).txq = []) ∧
    (∃ (s : State), s.alive = true) ∧
    (∃ (s : State) (u : Nat), s.linkSide u = true ∧ s.linkLive u = true) ∧
    (∃ (s : State) (u : Nat) (tb : _) (rtt : _), s.linkSide u = true ∧ (s.klink u).probe = some tb ∧ s.get (KL_LST.VER u) ≠ 0 ∧ (rtt * 5 + 47) / 48 + 90 ≤ 200) ∧
    (∃ (s : State) (u : Nat) (tb : _) (rtt : _), s.linkSide u = true ∧ (s.klink u).probe = some tb ∧ s.get (KL_LST.VER u) ≠ 0 ∧ 200 < (rtt * 5 + 47) / 48 + 90) ∧
    (∃ (s : State) (u : Nat) (seq : Nat), s.linkSide u = true ∧ s.linkTakes u seq = true) ∧
    (∃ (s : State) (u : Nat), s.linkSide u = true ∧ s.linkLive u = true ∧ 0 < (s.klink u).rxCount) ∧
    (∃ (s : State) (u : Nat), s.linkSide u = true ∧ s.linkLive u = true ∧ (s.klink u).txq = []) ∧
    (∃ (s : State) (u : Nat), s.linkSide u = true ∧ s.linkLive u = true ∧ s.get (KL_LST.VER u) ≠ 0) :=
  ⟨⟨wit |>.set KL_CFG.EN 1 |>.set (KL_UCFG.MODE 3) 2 |>.set (U_TC_CFG.DRP 3) 0 |>.set (U_TREEST.LINK 3) 0 |>.set G_READY.US 15, 3, by decide +kernel⟩,
   ⟨wit |>.set KL_CFG.EN 1 |>.set (U_TREEST.LINK 3) 4 |>.set (KL_LST.STATE 3) 5 |>.set (KL_LST.STATE 3) Kl.detect, 3, by decide +kernel⟩,
   ⟨wit |>.set KL_CFG.EN 1 |>.set (U_TREEST.LINK 3) 4 |>.set (KL_LST.STATE 3) 5 |>.set (KL_LST.STATE 3) Kl.poll, 3, by decide +kernel⟩,
   ⟨wit |>.set KL_CFG.EN 1 |>.set (U_TREEST.LINK 3) 4 |>.set (KL_LST.STATE 3) 5 |>.set (KL_LST.STATE 3) Kl.config, 3, 0, by decide +kernel⟩,
   ⟨wit |>.set KL_CFG.EN 1 |>.set (U_TREEST.LINK 3) 4 |>.set (KL_LST.STATE 3) 5 |>.set (KL_LST.STATE 3) Kl.config |>.set KL_ID.STATE 1, 3, 1, by decide +kernel⟩,
   ⟨wit |>.set KL_CFG.EN 1 |>.set (U_TREEST.LINK 3) 4 |>.set (KL_LST.STATE 3) 5 |>.set (KL_LST.STATE 3) Kl.poll, 3, by decide +kernel⟩,
   ⟨wit |>.set KL_CFG.EN 1 |>.set (U_TREEST.LINK 3) 4 |>.set (KL_LST.STATE 3) 5 |>.set (KL_LST.STATE 3) Kl.down, 3, by decide +kernel⟩,
   ⟨wit |>.set KL_CFG.EN 1 |>.set (U_TREEST.LINK 3) 4 |>.set (KL_LST.STATE 3) 5 |>.modKlink 3 (fun z => { z with unacked := (0, ⟨0, 0, 0, 0, []⟩) :: [] }) |>.modKlink 3 (fun z => { z with txq := [] }), 3, 0, ⟨0, 0, 0, 0, []⟩, [], by decide +kernel⟩,
   ⟨wit |>.set KL_CFG.EN 1 |>.set (U_TREEST.LINK 3) 4 |>.set (KL_LST.STATE 3) 5 |>.set KL_CFG.EN 1 |>.set (U_TREEST.LINK 3) 4 |>.set (KL_LST.STATE 3) 5 |>.modKlink 3 (fun z => { z with lnak := (0 + 1, 3) }), 3, 0, by decide +kernel⟩,
   ⟨wit |>.set KL_CFG.EN 1 |>.set (U_TREEST.LINK 3) 4 |>.set (KL_LST.STATE 3) 5 |>.set KL_CFG.EN 1 |>.set (U_TREEST.LINK 3) 4 |>.set (KL_LST.STATE 3) 5 |>.modKlink 3 (fun z => { z with lnak := (0, 0) }) |>.modKlink 3 (fun z => { z with unacked := [] }) |>.modKlink 3 (fun z => { z with txq := [] }), 3, by decide +kernel⟩,
   ⟨wit |>.set KL_CFG.EN 1 |>.set (U_TREEST.LINK 3) 4 |>.set (KL_LST.STATE 3) 5 |>.modKlink 3 (fun z => { z with txq := [] }), 3, by decide +kernel⟩,
   ⟨wit, by decide +kernel⟩,
   ⟨wit |>.set KL_CFG.EN 1 |>.set (U_TREEST.LINK 3) 4 |>.set (KL_LST.STATE 3) 5 |>.set KL_CFG.EN 1 |>.set (U_TREEST.LINK 3) 4 |>.set (KL_LST.STATE 3) 5, 3, by decide +kernel⟩,
   ⟨wit |>.set KL_CFG.EN 1 |>.set (U_TREEST.LINK 3) 4 |>.set (KL_LST.STATE 3) 5 |>.modKlink 3 (fun z => { z with probe := some 0 }) |>.set (KL_LST.VER 3) 1, 3, 0, 1056, by decide +kernel⟩,
   ⟨wit |>.set KL_CFG.EN 1 |>.set (U_TREEST.LINK 3) 4 |>.set (KL_LST.STATE 3) 5 |>.modKlink 3 (fun z => { z with probe := some 0 }) |>.set (KL_LST.VER 3) 1, 3, 0, 1057, by decide +kernel⟩,
   ⟨wit |>.set KL_CFG.EN 1 |>.set (U_TREEST.LINK 3) 4 |>.set (KL_LST.STATE 3) 5 |>.set KL_CFG.EN 1 |>.set (U_TREEST.LINK 3) 4 |>.set (KL_LST.STATE 3) 5 |>.set KL_ID.STATE 1, 3, 0, by decide +kernel⟩,
   ⟨wit |>.set KL_CFG.EN 1 |>.set (U_TREEST.LINK 3) 4 |>.set (KL_LST.STATE 3) 5 |>.set KL_CFG.EN 1 |>.set (U_TREEST.LINK 3) 4 |>.set (KL_LST.STATE 3) 5 |>.modKlink 3 (fun z => { z with rxCount := 15 }), 3, by decide +kernel⟩,
   ⟨wit |>.set KL_CFG.EN 1 |>.set (U_TREEST.LINK 3) 4 |>.set (KL_LST.STATE 3) 5 |>.set KL_CFG.EN 1 |>.set (U_TREEST.LINK 3) 4 |>.set (KL_LST.STATE 3) 5 |>.modKlink 3 (fun z => { z with txq := [] }), 3, by decide +kernel⟩,
   ⟨wit |>.set KL_CFG.EN 1 |>.set (U_TREEST.LINK 3) 4 |>.set (KL_LST.STATE 3) 5 |>.set KL_CFG.EN 1 |>.set (U_TREEST.LINK 3) 4 |>.set (KL_LST.STATE 3) 5 |>.set (KL_LST.VER 3) 1, 3, by decide +kernel⟩⟩

theorem test_witness_CascadeIdRows :
    (∃ (s : State) (u : Nat) (seq : Nat) (origin : _) (rseq : _), s.linkTakes u seq = true ∧ (s.frameIn u seq 0 12).linkUp u = true ∧ (s.frameIn u seq 0 12).toMe origin = false ∧ Tbl.get (s.frameIn u seq 0 12).kcl.seqs 0 origin = rseq + 1) ∧
    (∃ (s : State) (u : Nat) (seq : Nat) (origin : _), s.linkTakes u seq = true ∧ (s.frameIn u seq 0 12).toMe origin = true) ∧
    (∃ (s : State) (u : Nat) (seq : Nat), s.linkTakes u seq = true) ∧
    (∃ (s : State), s.alive = true ∧ s.kOn = true) ∧
    (∃ (s : State), s.alive = true ∧ s.kOn = false) ∧
    (∃ (s : State) (u : Nat) (seq : Nat) (die : _) (d : Nat), s.linkTakes u seq = true ∧ (s.frameIn u seq 0 12).bestDie = some d ∧ d < die ∧ (s.frameIn u seq 0 12).kcl.root ≠ some die) ∧
    (∃ (s : State) (u : Nat) (seq : Nat) (die : _) (d : Nat), s.linkTakes u seq = true ∧ (s.frameIn u seq 0 12).bestDie = some d ∧ d = die ∧ (s.frameIn u seq 0 12).kcl.root = some die) ∧
    (∃ (s : State), s.alive = true ∧ s.kOn = true ∧ s.get KL_ID.ROOT ≠ 0) ∧
    (∃ (s : State), s.alive = true ∧ s.kOn = true ∧ s.bestDie = some s.dieId ∧ s.get KL_ID.ROOT = 0 ∧ s.get KL_CFG.ROOT_EN ≠ 0) ∧
    (∃ (s : State) (d : Nat), s.alive = true ∧ s.kOn = true ∧ s.kcl.root = some d ∧ s.get KL_CFG.ROOT_EN = 0) ∧
    (∃ (s : State) (u : Nat) (seq : Nat) (die : _) (want : _), s.linkTakes u seq = true ∧ (s.frameIn u seq 0 16).get KL_ID.ROOT ≠ 0 ∧ (s.frameIn u seq 0 16).idFreeFor want die = true) ∧
    (∃ (s : State) (u seq die : Nat), s.linkTakes u seq = true ∧ (s.frameIn u seq 0 16).get KL_ID.ROOT ≠ 0 ∧ (s.frameIn u seq 0 16).idFor die = none) ∧
    (∃ (s : State) (u : Nat) (seq : Nat), s.linkTakes u seq = true ∧ (s.frameIn u seq 0 12).numbered = false) ∧
    (∃ (s : State) (u : Nat) (seq : Nat) (die : _) (id : _), s.linkTakes u seq = true ∧ (s.frameIn u seq 0 12).get KL_ID.ROOT ≠ 0 ∧ (s.frameIn u seq 0 12).idFreeFor id die = true) ∧
    (∃ (s : State) (u : Nat) (seq : Nat) (cause : _), s.linkTakes u seq = true ∧ cause ≠ 2) ∧
    (∃ (s : State), s.alive = true ∧ s.kOn = true ∧ s.numbered = true ∧ s.get KL_ID.ROOT ≠ 0) ∧
    (∃ (s : State), s.alive = true ∧ s.kOn = true ∧ s.numbered = true ∧ s.get KL_ID.ROOT = 0) ∧
    (∃ (s : State) (id : _), s.alive = true ∧ s.kOn = true ∧ s.get KL_ID.ROOT ≠ 0 ∧ id ≠ s.get KL_ID.ID) ∧
    (∃ (s : State), s.alive = true ∧ s.kOn = true ∧ s.get KL_ID.STATE = 2) ∧
    (∃ (s : State), s.alive = true ∧ s.get KL_ID.STATE ≠ 2) :=
  ⟨⟨wit |>.set KL_CFG.EN 1 |>.set (U_TREEST.LINK 3) 4 |>.set (KL_LST.STATE 3) 5 |>.set KL_ID.STATE 1 |>.modKcl (fun k => { k with seqs := Tbl.set [] 0 4095 1 }), 3, 0, 4095, 0, by decide +kernel⟩,
   ⟨wit |>.set KL_CFG.EN 1 |>.set (U_TREEST.LINK 3) 4 |>.set (KL_LST.STATE 3) 5 |>.set KL_ID.STATE 1, 3, 0, 0, by decide +kernel⟩,
   ⟨wit |>.set KL_CFG.EN 1 |>.set (U_TREEST.LINK 3) 4 |>.set (KL_LST.STATE 3) 5 |>.set KL_ID.STATE 1, 3, 0, by decide +kernel⟩,
   ⟨wit |>.set KL_CFG.EN 1, by decide +kernel⟩,
   ⟨wit |>.set KL_CFG.EN 0, by decide +kernel⟩,
   ⟨wit |>.set KL_CFG.EN 1 |>.set (U_TREEST.LINK 3) 4 |>.set (KL_LST.STATE 3) 5 |>.set KL_ID.STATE 1 |>.modKcl (fun k => { k with root := some 5 }) |>.set KL_CFG.ROOT_EN 0, 3, 0, 6, 5, by decide +kernel⟩,
   ⟨wit |>.set KL_CFG.EN 1 |>.set (U_TREEST.LINK 3) 4 |>.set (KL_LST.STATE 3) 5 |>.set KL_ID.STATE 1 |>.modKcl (fun k => { k with root := some 5 }) |>.set KL_CFG.ROOT_EN 0, 3, 0, 5, 5, by decide +kernel⟩,
   ⟨wit |>.set KL_CFG.EN 1 |>.set KL_ID.ROOT 1, by decide +kernel⟩,
   ⟨wit |>.set KL_CFG.EN 1 |>.set KL_ID.ROOT 0 |>.set KL_CFG.ROOT_EN 1, by decide +kernel⟩,
   ⟨wit |>.set KL_CFG.EN 1 |>.set KL_CFG.ROOT_EN 0 |>.modKcl (fun k => { k with root := some 5 }) |>.set KL_CFG.ROOT_EN 0, 5, by decide +kernel⟩,
   ⟨wit |>.set KL_CFG.EN 1 |>.set (U_TREEST.LINK 3) 4 |>.set (KL_LST.STATE 3) 5 |>.set KL_ID.STATE 1 |>.set KL_ID.ROOT 1, 3, 0, 1, 4095, by decide +kernel⟩,
   ⟨_, 3, 0, 0, by decide +kernel, by decide +kernel, witFull_idFor⟩,
   ⟨wit |>.set KL_CFG.EN 1 |>.set (U_TREEST.LINK 3) 4 |>.set (KL_LST.STATE 3) 5 |>.set KL_ID.STATE 1 |>.set KL_ID.STATE 2, 3, 0, by decide +kernel⟩,
   ⟨wit |>.set KL_CFG.EN 1 |>.set (U_TREEST.LINK 3) 4 |>.set (KL_LST.STATE 3) 5 |>.set KL_ID.STATE 1 |>.set KL_ID.ROOT 1, 3, 0, 1, 4095, by decide +kernel⟩,
   ⟨wit |>.set KL_CFG.EN 1 |>.set (U_TREEST.LINK 3) 4 |>.set (KL_LST.STATE 3) 5 |>.set KL_ID.STATE 1, 3, 0, 0, by decide +kernel⟩,
   ⟨wit |>.set KL_CFG.EN 1 |>.set KL_ID.ROOT 1 |>.set KL_ID.STATE 1, by decide +kernel⟩,
   ⟨wit |>.set KL_CFG.EN 1 |>.set KL_ID.ROOT 0 |>.set KL_ID.STATE 1, by decide +kernel⟩,
   ⟨wit |>.set KL_CFG.EN 1 |>.set KL_ID.ROOT 1, 4095, by decide +kernel⟩,
   ⟨wit |>.set KL_CFG.EN 1 |>.set KL_ID.STATE 2, by decide +kernel⟩,
   ⟨wit, by decide +kernel⟩⟩

theorem test_witness_CascadePresentRows :
    (∃ (s : State) (u : Nat) (seq : Nat) (dest : _) (gchip : Nat) (port : _) (tr : _) (h : Nat) (l : Nat) (lat : _), s.linkTakes u seq = true ∧ (s.frameIn u seq 0 8).toMe dest = true ∧ (s.frameIn u seq 0 8).presCause gchip port tr h l lat = 0) ∧
    (∃ (s : State) (u : Nat) (seq : Nat) (dest : _) (gchip : Nat) (port : _) (tr : _) (h : Nat) (l : Nat) (lat : _), s.linkTakes u seq = true ∧ (s.frameIn u seq 0 8).toMe dest = true ∧ (s.frameIn u seq 0 8).presCause gchip port tr h l lat ≠ 0) ∧
    (∃ (s : State) (u : Nat) (seq : Nat) (dest : _) (n : Nat) (lat : _) (x : Nat × Nat × Nat × Nat), s.linkTakes u seq = true ∧ (s.frameIn u seq 0 3).toMe dest = true ∧ ((s.frameIn u seq 0 3).port n).presTo = some x ∧ (s.frameIn u seq 0 3).get (KL_PRES.STATE n) = 1 ∧ (s.frameIn u seq 0 3).reach x.1 = none ∧ lat ≤ 8191 ∧ ((s.frameIn u seq 0 3).port n).move = .none) ∧
    (∃ (s : State) (u : Nat) (seq : Nat) (dest : _) (n : Nat) (cause : _) (x : Nat × Nat × Nat × Nat), s.linkTakes u seq = true ∧ (s.frameIn u seq 0 3).toMe dest = true ∧ n < 96 ∧ cause < 16 ∧ ((s.frameIn u seq 0 3).port n).presTo = some x ∧ (s.frameIn u seq 0 3).get (KL_PRES.STATE n) = 1) ∧
    (∃ (s : State) (u : Nat) (seq : Nat) (dest : _) (gchip : Nat) (port : _) (i : Nat), s.linkTakes u seq = true ∧ (s.frameIn u seq 0 3).toMe dest = true ∧ (s.frameIn u seq 0 3).slotFor gchip port = some i) ∧
    (∃ (s : State) (u : Nat) (seq : Nat) (dest : _) (gchip : Nat) (port : _) (i : Nat), s.linkTakes u seq = true ∧ (s.frameIn u seq 0 8).toMe dest = true ∧ (s.frameIn u seq 0 8).slotFor gchip port = some i) ∧
    (∃ (s : State) (u : Nat) (seq : Nat) (dest : _) (n : Nat) (code : _) (val : _) (c : _) (r : Req), s.linkTakes u seq = true ∧ (s.frameIn u seq 0 4).toMe dest = true ∧ (s.frameIn u seq 0 4).presenter n = some c ∧ Req.ofCode code val = some r ∧ code ≠ 8) ∧
    (∃ (s : State) (u : Nat) (seq : Nat) (dest : _) (gchip : Nat) (port : _) (i : Nat) (o : Nat × Nat), s.linkTakes u seq = true ∧ (s.frameIn u seq 0 4).toMe dest = true ∧ (s.frameIn u seq 0 4).slotFor gchip port = some i ∧ (s.frameIn u seq 0 4).kcl.ops.find? (fun o => o.1 == i) = some o) ∧
    (∃ (s : State) (u : Nat) (seq : Nat) (dest : _), s.linkTakes u seq = true ∧ (s.frameIn u seq 0 4).toMe dest = true) ∧
    (∃ (s : State) (n : Nat), s.alive = true ∧ s.get (KL_PRES.STATE n) = 1 ∧ (s.port n).presAck = false) ∧
    (∃ (s : State) (n : Nat), s.alive = true ∧ s.kOn = true ∧ s.get (KL_PRES.STATE n) = 4) ∧
    (∃ (s : State) (i : Nat) (o : Nat × Nat), s.alive = true ∧ s.kcl.ops.find? (fun o => o.1 == i) = some o) :=
  ⟨⟨wit |>.set KL_CFG.EN 1 |>.set (U_TREEST.LINK 3) 4 |>.set (KL_LST.STATE 3) 5 |>.set KL_ID.STATE 1 |>.set (KL_GRP.EN 0) 1 |>.modRoutes (fun _ => [⟨7, 3, 10, 1⟩]) |>.set (KL_BUDGET.BUDGET 0) 1000, 3, 0, 0, 7, 95, 0, 0, 1, 0, by decide +kernel⟩,
   ⟨wit |>.set KL_CFG.EN 1 |>.set (U_TREEST.LINK 3) 4 |>.set (KL_LST.STATE 3) 5 |>.set KL_ID.STATE 1, 3, 0, 0, 0, 0, 0, 1, 1, 0, by decide +kernel⟩,
   ⟨wit |>.set KL_CFG.EN 1 |>.set (U_TREEST.LINK 3) 4 |>.set (KL_LST.STATE 3) 5 |>.set KL_ID.STATE 1 |>.modPort 95 (fun z => { z with presTo := some (0, 0, 1, 1) }) |>.set (KL_PRES.STATE 95) 1, 3, 0, 0, 95, 8191, (0, 0, 1, 1), by decide +kernel⟩,
   ⟨wit |>.set KL_CFG.EN 1 |>.set (U_TREEST.LINK 3) 4 |>.set (KL_LST.STATE 3) 5 |>.set KL_ID.STATE 1 |>.modPort 95 (fun z => { z with presTo := some (0, 0, 1, 1) }) |>.set (KL_PRES.STATE 95) 1, 3, 0, 0, 95, 15, (0, 0, 1, 1), by decide +kernel⟩,
   ⟨wit |>.set KL_CFG.EN 1 |>.set (U_TREEST.LINK 3) 4 |>.set (KL_LST.STATE 3) 5 |>.set KL_ID.STATE 1 |>.modKcl (fun k => { k with slots := Tbl.set [] {} 447 { valid := true, chip := 7, port := 95, shown := true }, ops := [(447, 3)] }), 3, 0, 0, 7, 95, 447, by decide +kernel⟩,
   ⟨wit |>.set KL_CFG.EN 1 |>.set (U_TREEST.LINK 3) 4 |>.set (KL_LST.STATE 3) 5 |>.set KL_ID.STATE 1 |>.modKcl (fun k => { k with slots := Tbl.set [] {} 447 { valid := true, chip := 7, port := 95, shown := true }, ops := [(447, 3)] }), 3, 0, 0, 7, 95, 447, by decide +kernel⟩,
   ⟨witLink |>.modPort 95 (fun z => { z with presTo := some (0, 0, 1, 1) }) |>.set (KL_PRES.STATE 95) 2, 3, 0, 0, 95, 1, 0, 0, _, by decide +kernel, by decide +kernel, by decide +kernel, rfl, by decide +kernel⟩,
   ⟨wit |>.set KL_CFG.EN 1 |>.set (U_TREEST.LINK 3) 4 |>.set (KL_LST.STATE 3) 5 |>.set KL_ID.STATE 1 |>.modKcl (fun k => { k with slots := Tbl.set [] {} 447 { valid := true, chip := 7, port := 95, shown := true }, ops := [(447, 3)] }), 3, 0, 0, 7, 95, 447, (447, 3), by decide +kernel⟩,
   ⟨wit |>.set KL_CFG.EN 1 |>.set (U_TREEST.LINK 3) 4 |>.set (KL_LST.STATE 3) 5 |>.set KL_ID.STATE 1, 3, 0, 0, by decide +kernel⟩,
   ⟨wit |>.set (KL_PRES.STATE 95) 1 |>.modPort 95 (fun z => { z with presAck := false }), 95, by decide +kernel⟩,
   ⟨wit |>.set KL_CFG.EN 1 |>.set (KL_PRES.STATE 95) 4, 95, by decide +kernel⟩,
   ⟨wit |>.modKcl (fun k => { k with slots := Tbl.set [] {} 447 { valid := true, chip := 7, port := 95, shown := true }, ops := [(447, 3)] }), 447, (447, 3), by decide +kernel⟩⟩

theorem test_witness_CascadeDataRows :
    (∃ (s : State) (u : Nat) (seq : Nat) (dest : _) (c : _) (tr : _) (n : Nat), s.linkTakes u seq = true ∧ (s.frameIn u seq 0 4).toMe dest = true ∧ (s.frameIn u seq 0 4).portsOfChip c tr = [n]) ∧
    (∃ (s : State) (u : Nat) (seq : Nat) (dest : _) (v : Nat), s.linkTakes u seq = true ∧ (s.frameIn u seq 0 4).toMe dest = false ∧ (s.frameIn u seq 0 4).linkFor dest (u + 1) = some v) ∧
    (∃ (s : State), s.alive = true ∧ s.kOn = true ∧ s.hostFacing = []) ∧
    (∃ (s : State) (u : Nat), s.alive = true ∧ s.kOn = true ∧ s.hostFacing = [u]) ∧
    (∃ (s : State) (u : Nat) (seq : Nat) (dest : _), s.linkTakes u seq = true ∧ (s.frameIn u seq 2 16).toMe dest = false) ∧
    (∃ (s : State) (u : Nat) (seq : Nat) (dest : _), s.linkTakes u seq = true ∧ (s.frameIn u seq 2 16).toMe dest = true) ∧
    (∃ (s : State) (u : Nat) (seq : Nat) (dest : _) (gchip : Nat) (port : _) (epn : Nat) (dirIn : _) (toHost : _) (kind : _) (pid : _) (res : _) (len : Nat) (colour : Nat) (poison : _) (s0 : State) (p : Packet), s.linkTakes u seq = true ∧ s0 = s.frameIn u seq 2 (16 + len) ∧ s0.toMe dest = true ∧ p = ({ src := 100 + u, kind := 5, cls := 2, port := port, epn := epn, dirIn := dirIn, len := len, w := wordsOf len, written := wordsOf len, owner := gchip + 1, toHost := toHost, args := [kind, pid, res], colour := frameColour s0 u colour, poison := poison } : Packet)) ∧
    (∃ (s : State) (u : Nat) (seq : Nat) (dest : _) (gchip : Nat) (port : _) (epn : Nat) (len : Nat) (colour : Nat) (s0 : State) (s1 : State) (p : Packet), s.linkTakes u seq = true ∧ s0 = s.frameIn u seq 1 (16 + len) ∧ s0.toMe dest = true ∧ p = ({ src := 100 + u, kind := 6, cls := 1, port := port, epn := epn, dirIn := false, len := len, w := wordsOf len, written := wordsOf len, owner := gchip + 1, toHost := false, args := [3, 0, 1], colour := frameColour s0 u colour, poison := false } : Packet) ∧ s1 = ((s0.kMeter u (proxyExit s0 u gchip port epn false false) p).1.kDrop u p) ∧ s1.dsHere port = true ∧ (s1.presenter port).isSome = true) ∧
    (∃ (s : State) (u : Nat) (addr : Nat) (epn : Nat) (i : Nat), s.hostSide u = true ∧ addr ≠ 0 ∧ (s.up u).routes.find? (fun e => e.1 == addr) = some (addr, .remote i) ∧ s.slotShown i = true ∧ s.proxyIdx i epn 2 = none) ∧
    (∃ (s : State) (n : Nat) (epn : Nat) (c : _), s.alive = true ∧ (s.port n).prefetch.find? (fun e => e.1 == epn) = some (epn, c) ∧ 8 ≤ c) ∧
    (∃ (s : State) (n : Nat) (epn : Nat) (c : _), s.alive = true ∧ (s.port n).prefetch.find? (fun e => e.1 == epn) = some (epn, c) ∧ c < 8) ∧
    (∃ (s : State) (j : Nat), s.alive = true ∧ j < s.kcl.proxies.length) :=
  ⟨⟨wit |>.set KL_CFG.EN 1 |>.set (U_TREEST.LINK 3) 4 |>.set (KL_LST.STATE 3) 5 |>.set KL_ID.STATE 1 |>.set (KL_PRES.STATE 95) 2 |>.modPort 95 (fun z => { z with presTo := some (7, 3, 1, 1) }), 3, 0, 0, 7, 3, 95, by decide +kernel⟩,
   ⟨wit |>.set KL_CFG.EN 1 |>.set (U_TREEST.LINK 3) 4 |>.set (KL_LST.STATE 3) 5 |>.set KL_ID.STATE 1 |>.modRoutes (fun _ => [⟨7, 2, 10, 1⟩]) |>.set (KL_LST.STATE 2) 5, 3, 0, 7, 2, by decide +kernel⟩,
   ⟨wit |>.set KL_CFG.EN 1 |>.set (U_TREEST.LINK 0) 4 |>.set (U_TREEST.LINK 1) 4 |>.set (U_TREEST.LINK 2) 4 |>.set (U_TREEST.LINK 3) 4, by decide +kernel⟩,
   ⟨wit |>.set KL_CFG.EN 1 |>.set (U_TREEST.LINK 0) 4 |>.set (U_TREEST.LINK 1) 4 |>.set (U_TREEST.LINK 2) 4, 3, by decide +kernel⟩,
   ⟨wit |>.set KL_CFG.EN 1 |>.set (U_TREEST.LINK 3) 4 |>.set (KL_LST.STATE 3) 5 |>.set KL_ID.STATE 1, 3, 0, 4095, by decide +kernel⟩,
   ⟨wit |>.set KL_CFG.EN 1 |>.set (U_TREEST.LINK 3) 4 |>.set (KL_LST.STATE 3) 5 |>.set KL_ID.STATE 1, 3, 0, 0, by decide +kernel⟩,
   ⟨witLink, 3, 0, 0, 7, 95, 15, true, true, 0, 0, 0, 64, 0, false, _, _, by decide +kernel, rfl, by decide +kernel, rfl⟩,
   ⟨witLink |>.set (KL_PRES.STATE 95) 2 |>.modPort 95 (fun z => { z with presTo := some (7, 3, 1, 1) }), 3, 0, 0, 7, 95, 15, 64, 0, _, _, _, by decide +kernel, rfl, by decide +kernel, rfl, rfl, by decide +kernel, by decide +kernel⟩,
   ⟨wit |>.modKcl (fun k => { k with slots := Tbl.set [] {} 447 { valid := true, chip := 7, port := 95, shown := true }, ops := [(447, 3)] }) |>.modUp 3 (fun z => { z with routes := Tbl.ins [] 127 (.remote 447) }), 3, 127, 0, 447, by decide +kernel⟩,
   ⟨wit |>.modPort 95 (fun z => { z with prefetch := [(15, 8)] }), 95, 15, 8, by decide +kernel⟩,
   ⟨wit |>.modPort 95 (fun z => { z with prefetch := [(15, 7)] }), 95, 15, 7, by decide +kernel⟩,
   ⟨wit |>.modKcl (fun k => { k with proxies := [⟨0, 0, 0, 0, 0, .asked, 0, 0⟩] }), 0, by decide +kernel⟩⟩

theorem test_witness_AluRows :
    (∃ (s : State) (t : Nat) (rd : _) (ra : _) (rb : _), s.fetches t (wR 0x01 rd ra rb 0) = true) ∧
    (∃ (s : State) (t : Nat) (rd : _) (ra : _) (rb : _), s.fetches t (wR 0x02 rd ra rb 0) = true) ∧
    (∃ (s : State) (t : Nat) (rd : _) (ra : _) (rb : _), s.fetches t (wR 0x03 rd ra rb 0) = true) ∧
    (∃ (s : State) (t : Nat) (rd : _) (ra : _) (rb : _), s.fetches t (wR 0x04 rd ra rb 0) = true) ∧
    (∃ (s : State) (t : Nat) (rd : _) (ra : _) (rb : _), s.fetches t (wR 0x05 rd ra rb 0) = true) ∧
    (∃ (s : State) (t : Nat) (rd : _) (ra : _) (rb : _), s.fetches t (wR 0x08 rd ra rb 0) = true) ∧
    (∃ (s : State) (t : Nat) (rd : _) (ra : _) (rb : _), s.fetches t (wR 0x09 rd ra rb 0) = true) ∧
    (∃ (s : State) (t : Nat) (rd : _) (ra : _) (rb : _), s.fetches t (wR 0x0A rd ra rb 0) = true) ∧
    (∃ (s : State) (t : Nat) (rd : _) (ra : _) (sh : _), s.fetches t (wR 0x0C rd ra 0 sh) = true) ∧
    (∃ (s : State) (t : Nat) (rd : _) (ra : _) (sh : _), s.fetches t (wR 0x0D rd ra 0 sh) = true) ∧
    (∃ (s : State) (t : Nat) (rd : _) (ra : _) (sh : _), s.fetches t (wR 0x0E rd ra 0 sh) = true) ∧
    (∃ (s : State) (t : Nat) (rd : _) (ra : _) (rb : _), s.fetches t (wR 0x10 rd ra rb 0) = true) ∧
    (∃ (s : State) (t : Nat) (rd : _) (ra : _) (rb : _), s.fetches t (wR 0x11 rd ra rb 0) = true) ∧
    (∃ (s : State) (t : Nat) (rd : _) (ra : _) (rb : _), s.fetches t (wR 0x14 rd ra rb 0) = true) ∧
    (∃ (s : State) (t : Nat) (rd : _) (ra : _) (rb : _), s.fetches t (wR 0x15 rd ra rb 0) = true) ∧
    (∃ (s : State) (t : Nat) (rd : _) (ra : _) (sh : _) (w1 : _), s.fetches t (wR 0x18 rd ra w1 sh) = true) ∧
    (∃ (s : State) (t : Nat) (rd : _) (ra : _) (sh : _) (w1 : _), s.fetches t (wR 0x19 rd ra w1 sh) = true) ∧
    (∃ (s : State) (t : Nat) (rd : _) (ra : _), s.fetches t (wR 0x1C rd ra 0 0) = true) ∧
    (∃ (s : State) (t : Nat) (rd : _) (ra : _) (imm : _), s.fetches t (wI 0x01 rd ra imm) = true) ∧
    (∃ (s : State) (t : Nat) (rd : _) (ra : _) (imm : _), s.fetches t (wI 0x02 rd ra imm) = true) ∧
    (∃ (s : State) (t : Nat) (rd : _) (ra : _) (imm : _), s.fetches t (wI 0x03 rd ra imm) = true) ∧
    (∃ (s : State) (t : Nat) (rd : _) (ra : _) (imm : _), s.fetches t (wI 0x04 rd ra imm) = true) ∧
    (∃ (s : State) (t : Nat) (rd : _) (ra : _) (imm : _), s.fetches t (wI 0x05 rd ra imm) = true) ∧
    (∃ (s : State) (t : Nat) (rd : _) (ra : _) (imm : _), s.fetches t (wI 0x06 rd ra imm) = true) ∧
    (∃ (s : State) (t : Nat) (rd : _) (imm : _), s.fetches t (wI 0x07 rd 0 imm) = true) :=
  ⟨⟨wit, 0, 0, 0, 0, by decide +kernel⟩,
   ⟨wit, 0, 0, 0, 0, by decide +kernel⟩,
   ⟨wit, 0, 0, 0, 0, by decide +kernel⟩,
   ⟨wit, 0, 0, 0, 0, by decide +kernel⟩,
   ⟨wit, 0, 0, 0, 0, by decide +kernel⟩,
   ⟨wit, 0, 0, 0, 0, by decide +kernel⟩,
   ⟨wit, 0, 0, 0, 0, by decide +kernel⟩,
   ⟨wit, 0, 0, 0, 0, by decide +kernel⟩,
   ⟨wit, 0, 0, 0, 0, by decide +kernel⟩,
   ⟨wit, 0, 0, 0, 0, by decide +kernel⟩,
   ⟨wit, 0, 0, 0, 0, by decide +kernel⟩,
   ⟨wit, 0, 0, 0, 0, by decide +kernel⟩,
   ⟨wit, 0, 0, 0, 0, by decide +kernel⟩,
   ⟨wit, 0, 0, 0, 0, by decide +kernel⟩,
   ⟨wit, 0, 0, 0, 0, by decide +kernel⟩,
   ⟨wit, 0, 0, 0, 0, 0, by decide +kernel⟩,
   ⟨wit, 0, 0, 0, 0, 0, by decide +kernel⟩,
   ⟨wit, 0, 0, 0, by decide +kernel⟩,
   ⟨wit, 0, 0, 0, 0, by decide +kernel⟩,
   ⟨wit, 0, 0, 0, 0, by decide +kernel⟩,
   ⟨wit, 0, 0, 0, 0, by decide +kernel⟩,
   ⟨wit, 0, 0, 0, 0, by decide +kernel⟩,
   ⟨wit, 0, 0, 0, 0, by decide +kernel⟩,
   ⟨wit, 0, 0, 0, 0, by decide +kernel⟩,
   ⟨wit, 0, 0, 0, by decide +kernel⟩⟩

theorem test_witness_LoadRows :
    (∃ (s : State) (t : Nat) (rt : _) (ra : _) (off : _), s.fetches t (wI 0x10 rt ra off) = true ∧ s.dataOk t (s.mAddr t ra off) 1 = true) ∧
    (∃ (s : State) (t : Nat) (rt : _) (ra : _) (off : _), s.fetches t (wI 0x10 rt ra off) = true ∧ s.locOk t (s.mAddr t ra off) 1 = true) ∧
    (∃ (s : State) (t : Nat) (rt : _) (ra : _) (off : _), s.fetches t (wI 0x11 rt ra off) = true ∧ s.dataOk t (s.mAddr t ra off) 1 = true) ∧
    (∃ (s : State) (t : Nat) (rt : _) (ra : _) (off : _), s.fetches t (wI 0x11 rt ra off) = true ∧ s.locOk t (s.mAddr t ra off) 1 = true) ∧
    (∃ (s : State) (t : Nat) (rt : _) (ra : _) (off : _), s.fetches t (wI 0x12 rt ra off) = true ∧ s.dataOk t (s.mAddr t ra off) 2 = true) ∧
    (∃ (s : State) (t : Nat) (rt : _) (ra : _) (off : _), s.fetches t (wI 0x12 rt ra off) = true ∧ s.locOk t (s.mAddr t ra off) 2 = true) ∧
    (∃ (s : State) (t : Nat) (rt : _) (ra : _) (off : _), s.fetches t (wI 0x13 rt ra off) = true ∧ s.dataOk t (s.mAddr t ra off) 2 = true) ∧
    (∃ (s : State) (t : Nat) (rt : _) (ra : _) (off : _), s.fetches t (wI 0x13 rt ra off) = true ∧ s.locOk t (s.mAddr t ra off) 2 = true) ∧
    (∃ (s : State) (t : Nat) (rt : _) (ra : _) (off : _), s.fetches t (wI 0x14 rt ra off) = true ∧ s.dataOk t (s.mAddr t ra off) 4 = true) ∧
    (∃ (s : State) (t : Nat) (rt : _) (ra : _) (off : _), s.fetches t (wI 0x14 rt ra off) = true ∧ s.locOk t (s.mAddr t ra off) 4 = true) ∧
    (∃ (s : State) (t : Nat) (rt : _) (ra : _) (off : _), s.fetches t (wI 0x15 rt ra off) = true ∧ rt % 2 = 0 ∧ s.dataOk t (s.mAddr t ra off) 8 = true) ∧
    (∃ (s : State) (t : Nat) (rt : _) (ra : _) (off : _), s.fetches t (wI 0x15 rt ra off) = true ∧ rt % 2 = 1) ∧
    (∃ (s : State) (t : Nat) (rt : _) (ra : _) (off : _), s.fetches t (wI 0x14 rt ra off) = true ∧ regionAt (s.mAddr t ra off) 4 = .loc ∧ s.mAddr t ra off % 4 ≠ 0) ∧
    (∃ (s : State) (t : Nat) (rt : _) (ra : _) (off : _), s.fetches t (wI 0x14 rt ra off) = true ∧ regionAt (s.mAddr t ra off) 4 = .none ∧ (s.thread t).priv = true) ∧
    (∃ (s : State) (t : Nat) (rt : _) (ra : _) (off : _), s.fetches t (wI 0x14 rt ra off) = true ∧ regionAt (s.mAddr t ra off) 4 = .imem ∧ s.mAddr t ra off % 4 = 0 ∧ (s.thread t).priv = true ∧ s.injMatches 14 0 = false ∧ s.injMatches 13 0 = false) ∧
    (∃ (s : State) (t : Nat) (rt : _) (ra : _) (off : _), s.fetches t (wI 0x14 rt ra off) = true ∧ regionAt (s.mAddr t ra off) 4 = .regs) ∧
    (∃ (s : State) (t : Nat) (rt : _) (ra : _) (off : _), s.fetches t (wI 0x14 rt ra off) = true ∧ (s.thread t).priv = false ∧ s.mAddr t ra off < 0x50000) :=
  ⟨⟨wit |>.setG 0 1 0x1001ffff, 0, 0, 1, 0, by decide +kernel⟩,
   ⟨wit, 0, 0, 0, 0, by decide +kernel⟩,
   ⟨wit |>.setG 0 1 0x1001ffff, 0, 0, 1, 0, by decide +kernel⟩,
   ⟨wit, 0, 0, 0, 0, by decide +kernel⟩,
   ⟨wit |>.setG 0 1 0x1001fffe, 0, 0, 1, 0, by decide +kernel⟩,
   ⟨wit, 0, 0, 0, 0, by decide +kernel⟩,
   ⟨wit |>.setG 0 1 0x1001fffe, 0, 0, 1, 0, by decide +kernel⟩,
   ⟨wit, 0, 0, 0, 0, by decide +kernel⟩,
   ⟨wit |>.setG 0 1 0x1001fffc, 0, 0, 1, 0, by decide +kernel⟩,
   ⟨wit, 0, 0, 0, 0, by decide +kernel⟩,
   ⟨wit |>.setG 0 1 0x1001fff8, 0, 0, 1, 0, by decide +kernel⟩,
   ⟨wit, 0, 1, 0, 0, by decide +kernel⟩,
   ⟨wit, 0, 0, 0, 1, by decide +kernel⟩,
   ⟨wit |>.setG 0 1 0x60000, 0, 0, 1, 0, by decide +kernel⟩,
   ⟨wit |>.setG 0 1 0x3FFFC, 0, 0, 1, 0, by decide +kernel⟩,
   ⟨wit |>.setG 0 1 0x40FFFFFC, 0, 0, 1, 0, by decide +kernel⟩,
   ⟨(witUser (wI 0x14 0 1 0)).setG 0 1 0x4FFFC, 0, 0, 1, 0, by decide +kernel⟩⟩

theorem test_witness_StoreRows :
    (∃ (s : State) (t : Nat) (rt : _) (ra : _) (off : _), s.fetches t (wI 0x18 rt ra off) = true ∧ s.dataOk t (s.mAddr t ra off) 1 = true) ∧
    (∃ (s : State) (t : Nat) (rt : _) (ra : _) (off : _), s.fetches t (wI 0x18 rt ra off) = true ∧ regionAt (s.mAddr t ra off) 1 = .loc ∧ s.mAddr t ra off % 1 = 0) ∧
    (∃ (s : State) (t : Nat) (rt : _) (ra : _) (off : _), s.fetches t (wI 0x19 rt ra off) = true ∧ s.dataOk t (s.mAddr t ra off) 2 = true) ∧
    (∃ (s : State) (t : Nat) (rt : _) (ra : _) (off : _), s.fetches t (wI 0x19 rt ra off) = true ∧ regionAt (s.mAddr t ra off) 2 = .loc ∧ s.mAddr t ra off % 2 = 0) ∧
    (∃ (s : State) (t : Nat) (rt : _) (ra : _) (off : _), s.fetches t (wI 0x1A rt ra off) = true ∧ s.dataOk t (s.mAddr t ra off) 4 = true) ∧
    (∃ (s : State) (t : Nat) (rt : _) (ra : _) (off : _), s.fetches t (wI 0x1A rt ra off) = true ∧ regionAt (s.mAddr t ra off) 4 = .loc ∧ s.mAddr t ra off % 4 = 0) ∧
    (∃ (s : State) (t : Nat) (rt : _) (ra : _) (off : _), s.fetches t (wI 0x1A rt ra off) = true ∧ regionAt (s.mAddr t ra off) 4 = .rom) :=
  ⟨⟨wit |>.setG 0 1 0x1001ffff, 0, 0, 1, 0, by decide +kernel⟩,
   ⟨wit, 0, 0, 0, 0, by decide +kernel⟩,
   ⟨wit |>.setG 0 1 0x1001fffe, 0, 0, 1, 0, by decide +kernel⟩,
   ⟨wit, 0, 0, 0, 0, by decide +kernel⟩,
   ⟨wit |>.setG 0 1 0x1001fffc, 0, 0, 1, 0, by decide +kernel⟩,
   ⟨wit, 0, 0, 0, 0, by decide +kernel⟩,
   ⟨wit |>.setG 0 1 0x4FFFC, 0, 0, 1, 0, by decide +kernel⟩⟩

theorem test_witness_BranchRows :
    (∃ (s : State) (t : Nat) (ra : _) (rb : _) (off : _), s.fetches t (wI 0x20 ra rb off) = true ∧ s.g t ra = s.g t rb) ∧
    (∃ (s : State) (t : Nat) (ra : _) (rb : _) (off : _), s.fetches t (wI 0x20 ra rb off) = true ∧ (¬ (s.g t ra = s.g t rb))) ∧
    (∃ (s : State) (t : Nat) (ra : _) (rb : _) (off : _), s.fetches t (wI 0x21 ra rb off) = true ∧ s.g t ra ≠ s.g t rb) ∧
    (∃ (s : State) (t : Nat) (ra : _) (rb : _) (off : _), s.fetches t (wI 0x21 ra rb off) = true ∧ (¬ (s.g t ra ≠ s.g t rb))) ∧
    (∃ (s : State) (t : Nat) (ra : _) (rb : _) (off : _), s.fetches t (wI 0x22 ra rb off) = true ∧ (s.g t ra).toInt < (s.g t rb).toInt) ∧
    (∃ (s : State) (t : Nat) (ra : _) (rb : _) (off : _), s.fetches t (wI 0x22 ra rb off) = true ∧ (¬ ((s.g t ra).toInt < (s.g t rb).toInt))) ∧
    (∃ (s : State) (t : Nat) (ra : _) (rb : _) (off : _), s.fetches t (wI 0x23 ra rb off) = true ∧ (s.g t rb).toInt ≤ (s.g t ra).toInt) ∧
    (∃ (s : State) (t : Nat) (ra : _) (rb : _) (off : _), s.fetches t (wI 0x23 ra rb off) = true ∧ (¬ ((s.g t rb).toInt ≤ (s.g t ra).toInt))) ∧
    (∃ (s : State) (t : Nat) (ra : _) (rb : _) (off : _), s.fetches t (wI 0x24 ra rb off) = true ∧ (s.g t ra).toNat < (s.g t rb).toNat) ∧
    (∃ (s : State) (t : Nat) (ra : _) (rb : _) (off : _), s.fetches t (wI 0x24 ra rb off) = true ∧ (¬ ((s.g t ra).toNat < (s.g t rb).toNat))) ∧
    (∃ (s : State) (t : Nat) (ra : _) (rb : _) (off : _), s.fetches t (wI 0x25 ra rb off) = true ∧ (s.g t rb).toNat ≤ (s.g t ra).toNat) ∧
    (∃ (s : State) (t : Nat) (ra : _) (rb : _) (off : _), s.fetches t (wI 0x25 ra rb off) = true ∧ (¬ ((s.g t rb).toNat ≤ (s.g t ra).toNat))) ∧
    (∃ (s : State) (t : Nat) (rd : _) (off : _), s.fetches t (wJ 0x28 rd off) = true) ∧
    (∃ (s : State) (t : Nat) (rd : _) (ra : _) (imm : _), s.fetches t (wI 0x08 rd ra imm) = true) ∧
    (∃ (s : State) (t : Nat) (w : Nat), s.fetches t w = true ∧ legalWord w = false) :=
  ⟨⟨wit, 0, 0, 0, 0, by decide +kernel⟩,
   ⟨wit |>.setG 0 1 1, 0, 1, 0, 0, by decide +kernel⟩,
   ⟨wit |>.setG 0 1 1, 0, 1, 0, 0, by decide +kernel⟩,
   ⟨wit, 0, 0, 0, 0, by decide +kernel⟩,
   ⟨wit |>.setG 0 1 0x80000000, 0, 1, 0, 0, by decide +kernel⟩,
   ⟨wit, 0, 0, 0, 0, by decide +kernel⟩,
   ⟨wit, 0, 0, 0, 0, by decide +kernel⟩,
   ⟨wit |>.setG 0 1 0xFFFFFFFF, 0, 1, 0, 0, by decide +kernel⟩,
   ⟨wit |>.setG 0 1 0x80000000, 0, 0, 1, 0, by decide +kernel⟩,
   ⟨wit, 0, 0, 0, 0, by decide +kernel⟩,
   ⟨wit, 0, 0, 0, 0, by decide +kernel⟩,
   ⟨wit |>.setG 0 1 0xFFFFFFFF, 0, 0, 1, 0, by decide +kernel⟩,
   ⟨wit, 0, 0, 0, by decide +kernel⟩,
   ⟨wit, 0, 0, 0, 0, by decide +kernel⟩,
   ⟨wit, 0, 0, by decide +kernel⟩⟩

theorem test_witness_PrimitiveRows :
    (∃ (s : State) (t : Nat) (rd : _) (ra : _) (rb : _) (rc : _) (p : _), s.fetches t (wP 0x01 rd ra rb rc) = true ∧ p = ((s.stallT t).primPrd t rd (s.g t ra).toNat (s.g t rb).toNat rc)) ∧
    (∃ (s : State) (t : Nat) (rd : _) (ra : _) (rb : _) (rc : _) (p : _), s.fetches t (wP 0x02 rd ra rb rc) = true ∧ p = ((s.stallT t).primPwr t (s.g t ra).toNat (s.g t rb).toNat (s.g t rc).toNat (2 ^ 32 - 1))) ∧
    (∃ (s : State) (t : Nat) (rd : _) (ra : _) (rb : _) (rc : _) (p : _), s.fetches t (wP 0x03 rd ra rb rc) = true ∧ p = ((s.stallT t).primPwr t (s.g t ra).toNat (s.g t rb).toNat (s.g t rc).toNat (s.g t rd).toNat)) ∧
    (∃ (s : State) (t : Nat) (rd : _) (ra : _) (rb : _) (p : _), s.fetches t (wP 0x08 rd ra rb 0) = true ∧ (s.thread t).priv = true ∧ p = ((s.stallT t).primPsnd t (s.g t ra).toNat (s.g t rb).toNat)) ∧
    (∃ (s : State) (t : Nat) (rd : _) (ra : _) (rb : _) (p : _), s.fetches t (wP 0x09 rd ra rb 0) = true ∧ (s.thread t).priv = true ∧ p = ((s.stallT t).primPrcv t (s.g t ra).toNat (s.g t rb).toNat)) ∧
    (∃ (s : State) (t : Nat) (rd : _) (ra : _) (rb : _) (p : _), s.fetches t (wP 0x10 rd ra rb 0) = true ∧ (s.thread t).priv = true ∧ p = ((s.stallT t).primCredit (s.g t ra).toNat fun x => x.take (s.g t ra).toNat (s.g t rb).toNat)) ∧
    (∃ (s : State) (t : Nat) (rd : _) (ra : _) (rb : _) (p : _), s.fetches t (wP 0x11 rd ra rb 0) = true ∧ (s.thread t).priv = true ∧ p = ((s.stallT t).primCredit (s.g t ra).toNat fun x => x.takeQ (s.g t ra).toNat (s.g t rb).toNat)) ∧
    (∃ (s : State) (t : Nat) (rd : _) (ra : _) (rb : _) (p : _), s.fetches t (wP 0x12 rd ra rb 0) = true ∧ (s.thread t).priv = true ∧ p = ((s.stallT t).primCredit (s.g t ra).toNat fun x => x.give (s.g t ra).toNat (s.g t rb).toNat)) ∧
    (∃ (s : State) (t : Nat) (rd : _) (ra : _) (p : _), s.fetches t (wP 0x13 rd ra 0 0) = true ∧ (s.thread t).priv = true ∧ p = ((s.stallT t).primCredit (s.g t ra).toNat fun x => x.cancel (s.g t ra).toNat)) ∧
    (∃ (s : State) (t : Nat) (rd : _) (ra : _) (p : _), s.fetches t (wP 0x20 rd ra 0 0) = true ∧ (s.thread t).priv = true ∧ p = ((s.stallT t).primQflush t (s.g t ra).toNat)) ∧
    (∃ (s : State) (t : Nat) (rd : _) (ra : _) (rb : _) (rc : _) (p : _), s.fetches t (wP 0x21 rd ra rb rc) = true ∧ (s.thread t).priv = true ∧ p = ((s.stallT t).primQget t rd (s.g t ra).toNat (s.g t rb).toNat rc)) ∧
    (∃ (s : State) (t : Nat) (rd : _) (ra : _) (rb : _) (rc : _) (p : _), s.fetches t (wP 0x22 rd ra rb rc) = true ∧ (s.thread t).priv = true ∧ p = ((s.stallT t).primQput t (s.g t ra).toNat (s.g t rb).toNat (s.g t rc).toNat)) ∧
    (∃ (s : State) (t : Nat) (rd : _) (ra : _) (rb : _) (p : _), s.fetches t (wP 0x28 rd ra rb 0) = true ∧ (s.thread t).priv = true ∧ p = ((s.stallT t).primRget t (s.g t ra).toNat (s.g t rb).toNat)) ∧
    (∃ (s : State) (t : Nat) (rd : _) (ra : _) (rb : _) (rc : _) (p : _), s.fetches t (wP 0x29 rd ra rb rc) = true ∧ (s.thread t).priv = true ∧ p = ((s.stallT t).primRdone t (s.g t ra).toNat (s.g t rb).toNat (s.g t rc).toNat)) ∧
    (∃ (s : State) (t : Nat) (rd : _) (ra : _) (rb : _), s.fetches t (wP 0x18 rd ra rb 0) = true ∧ s.dataOk t (s.g t ra).toNat 4 = true) ∧
    (∃ (s : State) (t : Nat) (rd : _) (ra : _) (rb : _), s.fetches t (wP 0x18 rd ra rb 0) = true ∧ s.locOk t (s.g t ra).toNat 4 = true) ∧
    (∃ (s : State) (t : Nat) (rd : _) (ra : _) (rb : _) (rc : _), s.fetches t (wP 0x19 rd ra rb rc) = true ∧ s.dataOk t (s.g t ra).toNat 4 = true) ∧
    (∃ (s : State) (t : Nat) (rd : _) (ra : _) (rb : _) (rc : _), s.fetches t (wP 0x19 rd ra rb rc) = true ∧ s.locOk t (s.g t ra).toNat 4 = true) ∧
    (∃ (s : State) (t : Nat) (rd : _) (ra : _) (rb : _), s.fetches t (wP 0x1C rd ra rb 0) = true ∧ 4 ≤ (s.g t rb).toNat ∧ (s.g t rb).toNat ≤ 255 ∧ (s.g t ra).toNat ≤ 63 ∧ (s.thread t).priv = true) ∧
    (∃ (s : State) (t : Nat) (rd : _) (ra : _) (rb : _), s.fetches t (wP 0x1C rd ra rb 0) = true ∧ (s.g t rb).toNat < 4) :=
  ⟨⟨wit, 0, 0, 0, 0, 0, _, ⟨by decide +kernel, rfl⟩⟩,
   ⟨wit, 0, 0, 0, 0, 0, _, ⟨by decide +kernel, rfl⟩⟩,
   ⟨wit, 0, 0, 0, 0, 0, _, ⟨by decide +kernel, rfl⟩⟩,
   ⟨wit |>.modThread 0 (fun z => { z with priv := true }), 0, 0, 0, 0, _, ⟨by decide +kernel, by decide +kernel, rfl⟩⟩,
   ⟨wit |>.modThread 0 (fun z => { z with priv := true }), 0, 0, 0, 0, _, ⟨by decide +kernel, by decide +kernel, rfl⟩⟩,
   ⟨wit |>.modThread 0 (fun z => { z with priv := true }), 0, 0, 0, 0, _, ⟨by decide +kernel, by decide +kernel, rfl⟩⟩,
   ⟨wit |>.modThread 0 (fun z => { z with priv := true }), 0, 0, 0, 0, _, ⟨by decide +kernel, by decide +kernel, rfl⟩⟩,
   ⟨wit |>.modThread 0 (fun z => { z with priv := true }), 0, 0, 0, 0, _, ⟨by decide +kernel, by decide +kernel, rfl⟩⟩,
   ⟨wit |>.modThread 0 (fun z => { z with priv := true }), 0, 0, 0, _, ⟨by decide +kernel, by decide +kernel, rfl⟩⟩,
   ⟨wit |>.modThread 0 (fun z => { z with priv := true }), 0, 0, 0, _, ⟨by decide +kernel, by decide +kernel, rfl⟩⟩,
   ⟨wit |>.modThread 0 (fun z => { z with priv := true }), 0, 0, 0, 0, 0, _, ⟨by decide +kernel, by decide +kernel, rfl⟩⟩,
   ⟨wit |>.modThread 0 (fun z => { z with priv := true }), 0, 0, 0, 0, 0, _, ⟨by decide +kernel, by decide +kernel, rfl⟩⟩,
   ⟨wit |>.modThread 0 (fun z => { z with priv := true }), 0, 0, 0, 0, _, ⟨by decide +kernel, by decide +kernel, rfl⟩⟩,
   ⟨wit |>.modThread 0 (fun z => { z with priv := true }), 0, 0, 0, 0, 0, _, ⟨by decide +kernel, by decide +kernel, rfl⟩⟩,
   ⟨wit |>.setG 0 1 0x1001fffc, 0, 0, 1, 0, by decide +kernel⟩,
   ⟨wit |>.setG 0 1 0x200003FC, 0, 0, 1, 0, by decide +kernel⟩,
   ⟨wit |>.setG 0 1 0x1001fffc, 0, 0, 1, 0, 0, by decide +kernel⟩,
   ⟨wit |>.setG 0 1 0x200003FC, 0, 0, 1, 0, 0, by decide +kernel⟩,
   ⟨wit |>.setG 0 1 63 |>.setG 0 2 255, 0, 0, 1, 2, by decide +kernel⟩,
   ⟨wit, 0, 0, 0, 0, by decide +kernel⟩⟩

theorem test_witness_PrivilegedPrimitives :
    (∃ (s : State) (t : Nat) (rd : _) (ra : _) (rb : _), s.fetches t (wP 0x08 rd ra rb 0) = true ∧ (s.thread t).priv = false) ∧
    (∃ (s : State) (t : Nat) (rd : _) (ra : _) (rb : _), s.fetches t (wP 0x09 rd ra rb 0) = true ∧ (s.thread t).priv = false) ∧
    (∃ (s : State) (t : Nat) (rd : _) (ra : _) (rb : _), s.fetches t (wP 0x10 rd ra rb 0) = true ∧ (s.thread t).priv = false) ∧
    (∃ (s : State) (t : Nat) (rd : _) (ra : _) (rb : _), s.fetches t (wP 0x11 rd ra rb 0) = true ∧ (s.thread t).priv = false) ∧
    (∃ (s : State) (t : Nat) (rd : _) (ra : _) (rb : _), s.fetches t (wP 0x12 rd ra rb 0) = true ∧ (s.thread t).priv = false) ∧
    (∃ (s : State) (t : Nat) (rd : _) (ra : _), s.fetches t (wP 0x13 rd ra 0 0) = true ∧ (s.thread t).priv = false) ∧
    (∃ (s : State) (t : Nat) (rd : _) (ra : _), s.fetches t (wP 0x20 rd ra 0 0) = true ∧ (s.thread t).priv = false) ∧
    (∃ (s : State) (t : Nat) (rd : _) (ra : _) (rb : _) (rc : _), s.fetches t (wP 0x21 rd ra rb rc) = true ∧ (s.thread t).priv = false) ∧
    (∃ (s : State) (t : Nat) (rd : _) (ra : _) (rb : _) (rc : _), s.fetches t (wP 0x22 rd ra rb rc) = true ∧ (s.thread t).priv = false) ∧
    (∃ (s : State) (t : Nat) (rd : _) (ra : _) (rb : _), s.fetches t (wP 0x28 rd ra rb 0) = true ∧ (s.thread t).priv = false) ∧
    (∃ (s : State) (t : Nat) (rd : _) (ra : _) (rb : _) (rc : _), s.fetches t (wP 0x29 rd ra rb rc) = true ∧ (s.thread t).priv = false) :=
  ⟨⟨witUser (wP 0x08 0 0 0 0), 0, 0, 0, 0, by decide +kernel⟩,
   ⟨witUser (wP 0x09 0 0 0 0), 0, 0, 0, 0, by decide +kernel⟩,
   ⟨witUser (wP 0x10 0 0 0 0), 0, 0, 0, 0, by decide +kernel⟩,
   ⟨witUser (wP 0x11 0 0 0 0), 0, 0, 0, 0, by decide +kernel⟩,
   ⟨witUser (wP 0x12 0 0 0 0), 0, 0, 0, 0, by decide +kernel⟩,
   ⟨witUser (wP 0x13 0 0 0 0), 0, 0, 0, by decide +kernel⟩,
   ⟨witUser (wP 0x20 0 0 0 0), 0, 0, 0, by decide +kernel⟩,
   ⟨witUser (wP 0x21 0 0 0 0), 0, 0, 0, 0, 0, by decide +kernel⟩,
   ⟨witUser (wP 0x22 0 0 0 0), 0, 0, 0, 0, 0, by decide +kernel⟩,
   ⟨witUser (wP 0x28 0 0 0 0), 0, 0, 0, 0, by decide +kernel⟩,
   ⟨witUser (wP 0x29 0 0 0 0), 0, 0, 0, 0, 0, by decide +kernel⟩⟩

theorem test_witness_EventRows :
    (∃ (s : State) (t : Nat) (rd : _) (e : _), s.fetches t (wE 0x01 rd 0 0) = true ∧ s.nextEvent t = some e) ∧
    (∃ (s : State) (t : Nat) (rd : _), s.fetches t (wE 0x01 rd 0 0) = true ∧ s.nextEvent t = none) ∧
    (∃ (s : State) (t : Nat), s.alive = true ∧ (s.thread t).state = .wait) ∧
    (∃ (s : State) (t : Nat) (rd : _) (e : _), s.fetches t (wE 0x02 rd 0 0) = true ∧ s.nextEvent t = some e) ∧
    (∃ (s : State) (t : Nat) (rd : _), s.fetches t (wE 0x02 rd 0 0) = true ∧ s.nextEvent t = none) ∧
    (∃ (s : State) (t : Nat) (i : Nat) (ra : _), s.fetches t (wE 0x04 0 ra i) = true) ∧
    (∃ (s : State) (t : Nat) (i : Nat) (ra : _), s.fetches t (wE 0x05 0 ra i) = true) ∧
    (∃ (s : State) (t : Nat) (rd : _) (i : Nat), s.fetches t (wE 0x06 rd 0 i) = true) ∧
    (∃ (s : State) (t : Nat) (rd : _) (i : Nat), s.fetches t (wE 0x07 rd 0 i) = true) ∧
    (∃ (s : State) (t : Nat) (j : Nat) (p : Bool) (ra : _), s.fetches t (wE 0x08 0 ra (j + 4 * p.toNat)) = true ∧ s.g t ra ≠ 0) ∧
    (∃ (s : State) (t : Nat) (j : Nat) (p : Bool) (ra : _), s.fetches t (wE 0x08 0 ra (j + 4 * p.toNat)) = true ∧ s.g t ra = 0) ∧
    (∃ (s : State) (t : Nat) (rd : _) (j : Nat), s.fetches t (wE 0x09 rd 0 j) = true) ∧
    (∃ (s : State) (t : Nat) (code : _), s.fetches t (wE 0x10 0 0 code) = true) ∧
    (∃ (s : State) (t : Nat), s.fetches t (wE 0x11 0 0 0) = true ∧ (s.thread t).priv = true ∧ (s.thread t).exc = true) ∧
    (∃ (s : State) (t : Nat), s.fetches t (wE 0x11 0 0 0) = true ∧ (s.thread t).exc = false) ∧
    (∃ (s : State) (t : Nat) (rd : _), s.fetches t (wE 0x12 rd 0 0) = true) :=
  ⟨⟨wit |>.modThread 0 (fun z => { z with evp := 1#256 <<< 255, eve := 1#256 <<< 255 }), 0, 0, 255, by decide +kernel⟩,
   ⟨wit, 0, 0, by decide +kernel⟩,
   ⟨wit |>.modThread 0 (fun z => { z with state := .wait }), 0, by decide +kernel⟩,
   ⟨wit |>.modThread 0 (fun z => { z with evp := 1#256 <<< 255, eve := 1#256 <<< 255 }), 0, 0, 255, by decide +kernel⟩,
   ⟨wit, 0, 0, by decide +kernel⟩,
   ⟨wit, 0, 0, 0, by decide +kernel⟩,
   ⟨wit, 0, 0, 0, by decide +kernel⟩,
   ⟨wit, 0, 0, 0, by decide +kernel⟩,
   ⟨wit, 0, 0, 0, by decide +kernel⟩,
   ⟨wit |>.setG 0 1 1, 0, 3, true, 1, by decide +kernel⟩,
   ⟨wit, 0, 3, true, 0, by decide +kernel⟩,
   ⟨wit, 0, 0, 0, by decide +kernel⟩,
   ⟨wit, 0, 0, by decide +kernel⟩,
   ⟨wit |>.modThread 0 (fun z => { z with priv := true }) |>.modThread 0 (fun z => { z with exc := true }), 0, by decide +kernel⟩,
   ⟨wit |>.modThread 0 (fun z => { z with exc := false }), 0, by decide +kernel⟩,
   ⟨wit, 0, 0, by decide +kernel⟩⟩

theorem test_witness_ThreadCommandRows :
    (∃ (s : State) (t : Nat), s.alive = true ∧ (s.thread t).state = .off ∧ s.mode ≠ .safe) ∧
    (∃ (s : State) (t : Nat), s.alive = true ∧ (s.thread t).state ≠ .off) ∧
    (∃ (s : State) (t : Nat), s.alive = true ∧ ((s.thread t).state = .run ∨ (s.thread t).state = .wait ∨ (s.thread t).state = .stall)) ∧
    (∃ (s : State) (t : Nat), s.alive = true ∧ (s.thread t).state = .off) ∧
    (∃ (s : State) (t : Nat), s.alive = true ∧ (s.thread t).state = .halt ∧ s.mode ≠ .safe) ∧
    (∃ (s : State) (t : Nat), s.alive = true ∧ (s.thread t).state = .run) ∧
    (∃ (s : State) (t : Nat), s.alive = true ∧ (s.thread t).state = .stall) ∧
    (∃ (s : State) (t : Nat), s.alive = true ∧ (s.thread t).state = .stall ∧ s.putWaits t = false ∧ (s.thread t).after = .continue) ∧
    (∃ (s : State) (t : Nat), s.alive = true ∧ (s.thread t).state = .stall ∧ s.putWaits t = false ∧ (s.thread t).after = .stop) ∧
    (∃ (s : State) (t : Nat) (j : Nat), s.alive = true ∧ (s.timer t j).on = true ∧ (s.timer t j).due ≤ s.timeUs ∧ (s.timer t j).reload = 0 ∧ (s.thread t).state = .run) ∧
    (∃ (s : State) (t : Nat) (j : Nat), s.alive = true ∧ (s.timer t j).on = false) ∧
    (∃ (s : State) (u : Nat) (target : Nat) (w1 : _) (data : List Byte), s.hostSide u = true ∧ s.targetHere u target = true ∧ w1 / 32 % 4 ≠ 2 ∧ data.length ≤ 52 ∧ (∀ m ∈ s.mbox u, m.kind ≠ 0)) ∧
    (∃ (s : State) (u : Nat) (target : Nat) (w1 : _) (data : List Byte), s.hostSide u = true ∧ s.targetHere u target = true ∧ w1 / 32 % 4 ≠ 2 ∧ 52 < data.length) ∧
    (∃ (s : State) (u : Nat) (tag : _) (m : MboxEntry), s.hostSide u = true ∧ m ∈ s.mbox u ∧ m.tag = tag) :=
  ⟨⟨wit |>.modThread 0 (fun z => { z with state := .off }), 0, by decide +kernel⟩,
   ⟨wit, 0, by decide +kernel⟩,
   ⟨wit |>.modThread 0 (fun z => { z with state := .run }), 0, by decide +kernel⟩,
   ⟨wit |>.modThread 0 (fun z => { z with state := .off }), 0, by decide +kernel⟩,
   ⟨wit |>.modThread 0 (fun z => { z with state := .halt }), 0, by decide +kernel⟩,
   ⟨wit |>.modThread 0 (fun z => { z with state := .run }), 0, by decide +kernel⟩,
   ⟨wit |>.modThread 0 (fun z => { z with state := .stall }), 0, by decide +kernel⟩,
   ⟨wit |>.modThread 0 (fun z => { z with state := .stall }) |>.modThread 0 (fun z => { z with after := .continue }), 0, by decide +kernel⟩,
   ⟨wit |>.modThread 0 (fun z => { z with state := .stall }) |>.modThread 0 (fun z => { z with after := .stop }), 0, by decide +kernel⟩,
   ⟨wit |>.modThread 0 (fun z => { z with timers := Tbl.set z.timers {} 3 { on := true } }), 0, 3, by decide +kernel⟩,
   ⟨wit, 0, 0, by decide +kernel⟩,
   ⟨wit, 3, 0, 0, List.replicate 52 0, by decide +kernel, by decide +kernel, by decide +kernel, by decide +kernel, by decide +kernel⟩,
   ⟨wit, 3, 0, 0, List.replicate 53 0, by decide +kernel⟩,
   ⟨{ wit with tk := { wit.tk with mbox := Tbl.set [] [] 3 [⟨1, 0, 255, [], true⟩] } }, 3, 255, ⟨1, 0, 255, [], true⟩, by decide +kernel⟩⟩

theorem test_witness_BootRows :
    (∃ (s : State), s.alive = true ∧ s.boot.confirmWait = true) ∧
    (∃ (s : State), s.alive = true ∧ s.boot.confirmWait = false) ∧
    (∃ (s : State) (m : Master) (i : Nat), s.alive = true ∧ m.privileged = true ∧ i < 8 ∧ s.boot.fuseLock.contains i = false) ∧
    (∃ (s : State) (m : Master) (i : Nat), s.alive = true ∧ m.privileged = true ∧ i < 8 ∧ s.boot.fuseLock.contains i = true) ∧
    (∃ (s : State) (m : Master), s.alive = true ∧ m.privileged = false) ∧
    (∃ (s : State) (m : Master), s.alive = true ∧ s.get G_UPD_ST.ACTIVE = 0 ∧ s.mode ≠ .selftest ∧ s.mode ≠ .safe ∧ m ≠ .boot ∧ s.on G_READY.TORIK = true) ∧
    (∃ (s : State) (m : Master), s.alive = true ∧ (s.get G_UPD_ST.ACTIVE ≠ 0 ∨ m = .boot ∨ s.on G_READY.TORIK = false)) ∧
    (∃ (s : State) (m : Master), s.alive = true ∧ s.updForeign m = false ∧ s.runningBank = false ∧ s.get G_UPD_ADDR.OFFSET % 4096 = 0) ∧
    (∃ (s : State) (m : Master), s.alive = true ∧ s.updForeign m = false ∧ s.runningBank = false ∧ s.get G_UPD_ADDR.OFFSET % 4096 ≠ 0) ∧
    (∃ (s : State) (m : Master), s.alive = true ∧ s.updForeign m = false ∧ s.runningBank = false ∧ s.get G_UPD_ADDR.OFFSET % 256 = 0) ∧
    (∃ (s : State) (m : Master), s.alive = true ∧ s.updForeign m = false ∧ s.runningBank = true) ∧
    (∃ (s : State) (m : Master), s.alive = true ∧ s.updForeign m = false) ∧
    (∃ (s : State) (m : Master), s.alive = true ∧ s.updForeign m = true) ∧
    (∃ (s : State) (b : Nat), s.alive = true ∧ s.get G_UPD_ST.BUSY ≠ 0 ∧ s.boot.op = .verify b ∧ s.boot.abortAfter = false ∧ s.boot.resetAfter = none) ∧
    (∃ (s : State), s.alive = true ∧ s.get G_UPD_ST.BUSY = 0) ∧
    (∃ (s : State), s.alive = true ∧ s.get G_UPD_ST.ACTIVE ≠ 0 ∧ s.get G_UPD_ST.BUSY = 0) ∧
    (∃ (s : State), s.alive = true ∧ s.get G_UPD_ST.ACTIVE = 0) ∧
    (∃ (s : State), s.alive = true ∧ s.mode = .rise ∧ s.unitReady 7 = false ∧ (s.thread 0).state = .run) ∧
    (∃ (s : State), s.alive = true ∧ s.mode ≠ .rise) :=
  ⟨⟨wit |>.modBoot (fun z => { z with confirmWait := true }), by decide +kernel⟩,
   ⟨wit, by decide +kernel⟩,
   ⟨wit, .boot, 7, by decide +kernel⟩,
   ⟨wit |>.modBoot (fun z => { z with fuseLock := [7] }), .boot, 7, by decide +kernel⟩,
   ⟨wit, .console, by decide +kernel⟩,
   ⟨wit |>.set G_UPD_ST.ACTIVE 0 |>.set G_READY.TORIK 1, .console, by decide +kernel⟩,
   ⟨wit |>.set G_UPD_ST.ACTIVE 1, .boot, by decide +kernel⟩,
   ⟨wit |>.set G_UPD_ST.ACTIVE 1 |>.modBoot (fun z => { z with owner := some .boot }), .boot, by decide +kernel⟩,
   ⟨wit |>.set G_UPD_ST.ACTIVE 1 |>.modBoot (fun z => { z with owner := some .boot }) |>.set G_UPD_ADDR.OFFSET 4095, .boot, by decide +kernel⟩,
   ⟨wit |>.set G_UPD_ST.ACTIVE 1 |>.modBoot (fun z => { z with owner := some .boot }), .boot, by decide +kernel⟩,
   ⟨wit |>.set G_UPD_ST.ACTIVE 1 |>.modBoot (fun z => { z with owner := some .boot }) |>.set G_BOOT_ST.SOURCE 1, .boot, by decide +kernel⟩,
   ⟨wit |>.set G_UPD_ST.ACTIVE 1 |>.modBoot (fun z => { z with owner := some .boot }), .boot, by decide +kernel⟩,
   ⟨wit, .boot, by decide +kernel⟩,
   ⟨wit |>.set G_UPD_ST.BUSY 1 |>.modBoot (fun z => { z with op := .verify 1 }), 1, by decide +kernel⟩,
   ⟨wit |>.set G_UPD_ST.BUSY 0, by decide +kernel⟩,
   ⟨wit |>.set G_UPD_ST.ACTIVE 1 |>.set G_UPD_ST.BUSY 0, by decide +kernel⟩,
   ⟨wit |>.set G_UPD_ST.ACTIVE 0, by decide +kernel⟩,
   ⟨{ wit with mode := .rise } |>.modThread 0 (fun z => { z with state := .run }), by decide +kernel⟩,
   ⟨wit, by decide +kernel⟩⟩

theorem test_witness_FaultRows :
    (∃ (s : State) (i : Nat), s.alive = true ∧ 24 ≤ i ∧ i ≤ 45) ∧
    (∃ (s : State) (i : Nat), s.alive = true ∧ 46 ≤ i ∧ i ≤ 55) ∧
    (∃ (s : State), s.alive = true) ∧
    (∃ (s : State), s.alive = true ∧ s.on FC_CFG.VENT_AUTO = false) ∧
    (∃ (s : State), s.alive = true ∧ s.get FC_VENT_ST.LATCHED ≠ 0 ∧ s.stopAsserted = false) ∧
    (∃ (s : State), s.alive = true ∧ (s.get FC_VENT_ST.LATCHED = 0 ∨ s.stopAsserted = true)) ∧
    (∃ (s : State), s.alive = true ∧ s.flt.ventWait = true ∧ s.get FC_CFG.VENT_AUTO ≠ 0 ∧ s.stopAsserted = false ∧ s.get FC_VENT_ST.LATCHED = 0) ∧
    (∃ (s : State), s.alive = true ∧ s.flt.ventWait = false) ∧
    (∃ (s : State), s.alive = true ∧ s.get FC_WDOG.PERIOD ≠ 0) ∧
    (∃ (s : State), s.alive = true ∧ s.get FC_WDOG.PERIOD = 0) ∧
    (∃ (s : State) (d : Nat), s.alive = true ∧ s.dieHere d = true) ∧
    (∃ (s : State) (i : Nat) (inst : _), s.alive = true ∧ i < 64 ∧ inst < 2 ^ 20 ∧ s.injMode = true ∧ s.get FC_INJ_ST.STATE ≠ 1 ∧ s.injBankBar i inst = false ∧ injRange i inst = true) ∧
    (∃ (s : State) (i : Nat) (inst : _), s.alive = true ∧ i < 64 ∧ inst < 2 ^ 20 ∧ s.injMode = false) ∧
    (∃ (s : State), s.alive = true ∧ s.get FC_INJ_ST.STATE = 1) ∧
    (∃ (s : State), s.alive = true ∧ s.get FC_INJ_ST.STATE ≠ 1) :=
  ⟨⟨wit, 45, by decide +kernel⟩,
   ⟨wit, 55, by decide +kernel⟩,
   ⟨wit, by decide +kernel⟩,
   ⟨wit, by decide +kernel⟩,
   ⟨wit |>.set FC_VENT_ST.LATCHED 1, by decide +kernel⟩,
   ⟨wit |>.set FC_VENT_ST.LATCHED 0, by decide +kernel⟩,
   ⟨wit |>.set FC_CFG.VENT_AUTO 1 |>.set FC_VENT_ST.LATCHED 0 |>.modFlt (fun f => { f with ventWait := true }), by decide +kernel⟩,
   ⟨wit, by decide +kernel⟩,
   ⟨wit |>.set FC_WDOG.PERIOD 1, by decide +kernel⟩,
   ⟨wit |>.set FC_WDOG.PERIOD 0, by decide +kernel⟩,
   ⟨wit, 0, by decide +kernel⟩,
   ⟨{ wit with mode := .selftest }, 20, 2047, by decide +kernel⟩,
   ⟨wit, 63, 0, by decide +kernel⟩,
   ⟨wit |>.set FC_INJ_ST.STATE 1, by decide +kernel⟩,
   ⟨wit, by decide +kernel⟩⟩

theorem test_witness_RegisterRows :
    (∃ (s : State) (a : Nat) (r : _) (i : Nat), s.alive = true ∧ regAt (regOf a) = some (r, i) ∧ a % 4 = 0 ∧ isGuard a = false ∧ s.pins.clockAbsent = false ∧ s.absent (regOf a) = true) ∧
    (∃ (s : State) (a : Nat) (r : _) (i : Nat), s.alive = true ∧ regAt (regOf a) = some (r, i) ∧ a % 4 = 0 ∧ isGuard a = false ∧ s.pins.clockAbsent = false ∧ s.absent (regOf a) = false ∧ hasPriv r = false ∧ byBase openWrites r.base = none ∧ openFields r ≠ []) ∧
    (∃ (s : State) (a : Nat) (r : _) (i : Nat), s.alive = true ∧ regAt (regOf a) = some (r, i) ∧ a % 4 = 0 ∧ isGuard a = false ∧ s.pins.clockAbsent = false ∧ s.absent (regOf a) = false ∧ hasPriv r = true ∧ openFields r = [] ∧ byBase openWrites r.base = none) ∧
    (∃ (s : State) (u : Nat) (a : Nat) (r : _) (i : Nat), s.alive = true ∧ regAt (regOf a) = some (r, i) ∧ a % 4 = 0 ∧ isGuard a = false ∧ s.pins.clockAbsent = false ∧ s.absent (regOf a) = false ∧ hasPriv r = true ∧ openFields r = [] ∧ byBase openWrites r.base = none ∧ s.slotOf (.host u) = none) ∧
    (∃ (s : State) (m : Master) (a v : Nat) (r : RegRow) (i : Nat) (g : GuardSlot), s.alive = true ∧ a % 4 = 0 ∧ regAt (regOf a) = some (r, i) ∧ s.slotOf m = some g ∧ g.addr = regOf a ∧ v = 2 ^ 32 - 1 - g.val) ∧
    (∃ (s : State) (m : Master) (a : Nat) (r : _) (i : Nat), s.alive = true ∧ a % 4 = 0 ∧ regAt (regOf a) = some (r, i) ∧ s.slotOf m = none) ∧
    (∃ (s : State) (m : Master) (g : GuardSlot), s.alive = true ∧ s.slotOf m = some g ∧ isRelease g = false) ∧
    (∃ (s : State) (m : Master), s.alive = true ∧ s.slotOf m = none) ∧
    (∃ (s : State), s.alive = true ∧ s.pins.clockAbsent = false) ∧
    (∃ (s : State) (a : Nat) (r : _) (i : Nat), s.alive = true ∧ s.pins.clockAbsent = false ∧ a % 4 = 0 ∧ isGuard a = false ∧ regAt (regOf a) = some (r, i) ∧ r.kind = 2 ∧ s.absent (regOf a) = false) ∧
    (∃ (s : State) (a : Nat), s.alive = true ∧ a % 4 = 0) ∧
    (∃ (s : State) (a : Nat), s.alive = true ∧ regAt (regOf a) = none) ∧
    (∃ (s : State) (a : Nat) (w : Nat), s.alive = true ∧ a % w ≠ 0) ∧
    (∃ (s : State) (a : Nat) (w : Nat), s.alive = true ∧ a % w = 0 ∧ w < 4) ∧
    (∃ (s : State) (a : Nat) (r : _) (i : Nat), s.alive = true ∧ regAt a = some (r, i) ∧ s.absent a = false) ∧
    (∃ (s : State), s.alive = true) ∧
    (∃ (s : State) (a : Nat) (r : _) (i : Nat), s.alive = true ∧ regAt a = some (r, i)) :=
  ⟨⟨{ wit with variant := .klh4800 }, R.P_CAP 95, (witRow (regOf (R.P_CAP 95)) (by decide +kernel)).1, (witRow (regOf (R.P_CAP 95)) (by decide +kernel)).2, by decide +kernel, witRow_is _ _, by decide +kernel, by decide +kernel, by decide +kernel, by decide +kernel⟩,
   ⟨wit, R.PP_CFG 99, (witRow (regOf (R.PP_CFG 99)) (by decide +kernel)).1, (witRow (regOf (R.PP_CFG 99)) (by decide +kernel)).2, by decide +kernel, witRow_is _ _, by decide +kernel, by decide +kernel, by decide +kernel, by decide +kernel, by decide +kernel, Option.isNone_iff_eq_none.mp (by decide +kernel), fun h => absurd (congrArg List.isEmpty h) (by decide +kernel)⟩,
   ⟨wit, R.PP_TRIP 99, (witRow (regOf (R.PP_TRIP 99)) (by decide +kernel)).1, (witRow (regOf (R.PP_TRIP 99)) (by decide +kernel)).2, by decide +kernel, witRow_is _ _, by decide +kernel, by decide +kernel, by decide +kernel, by decide +kernel, by decide +kernel, List.isEmpty_iff.mp (by decide +kernel), Option.isNone_iff_eq_none.mp (by decide +kernel)⟩,
   ⟨wit, 3, R.PP_TRIP 99, (witRow (regOf (R.PP_TRIP 99)) (by decide +kernel)).1, (witRow (regOf (R.PP_TRIP 99)) (by decide +kernel)).2, by decide +kernel, witRow_is _ _, by decide +kernel, by decide +kernel, by decide +kernel, by decide +kernel, by decide +kernel, List.isEmpty_iff.mp (by decide +kernel), Option.isNone_iff_eq_none.mp (by decide +kernel), by decide +kernel⟩,
   ⟨{ wit with fab := { wit.fab with guards := [⟨.host 3, regOf (R.PP_TRIP 99), 1⟩] } }, .host 3, 2 ^ 22 + R.PP_TRIP 99, 2 ^ 32 - 2, (witRow (regOf (2 ^ 22 + R.PP_TRIP 99)) (by decide +kernel)).1, (witRow (regOf (2 ^ 22 + R.PP_TRIP 99)) (by decide +kernel)).2, ⟨.host 3, regOf (R.PP_TRIP 99), 1⟩, by decide +kernel, by decide +kernel, witRow_is _ _, by decide +kernel, by decide +kernel, by decide +kernel⟩,
   ⟨wit, .boot, 2 ^ 22 + R.PP_TRIP 99, (witRow (regOf (2 ^ 22 + R.PP_TRIP 99)) (by decide +kernel)).1, (witRow (regOf (2 ^ 22 + R.PP_TRIP 99)) (by decide +kernel)).2, by decide +kernel, by decide +kernel, witRow_is _ _, by decide +kernel⟩,
   ⟨{ wit with fab := { wit.fab with guards := [⟨.host 3, regOf (R.PP_TRIP 99), 1⟩] } }, .host 3, ⟨.host 3, regOf (R.PP_TRIP 99), 1⟩, by decide +kernel⟩,
   ⟨wit, .boot, by decide +kernel⟩,
   ⟨wit, by decide +kernel⟩,
   ⟨wit, R.TM_PL_GRN_LO 199, (witRow (regOf (R.TM_PL_GRN_LO 199)) (by decide +kernel)).1, (witRow (regOf (R.TM_PL_GRN_LO 199)) (by decide +kernel)).2, by decide +kernel, by decide +kernel, by decide +kernel, by decide +kernel, witRow_is _ _, by decide +kernel, by decide +kernel⟩,
   ⟨wit, 0, by decide +kernel⟩,
   ⟨wit, 0xFFFFFC, by decide +kernel, Option.isNone_iff_eq_none.mp (by decide +kernel)⟩,
   ⟨wit, 2, 4, by decide +kernel⟩,
   ⟨wit, 0, 3, by decide +kernel⟩,
   ⟨wit, R.PP_TRIP 99, (witRow (R.PP_TRIP 99) (by decide +kernel)).1, (witRow (R.PP_TRIP 99) (by decide +kernel)).2, by decide +kernel, witRow_is _ _, by decide +kernel⟩,
   ⟨wit, by decide +kernel⟩,
   ⟨wit, R.PP_TRIP 99, (witRow (R.PP_TRIP 99) (by decide +kernel)).1, (witRow (R.PP_TRIP 99) (by decide +kernel)).2, by decide +kernel, witRow_is _ _⟩⟩

theorem test_witness_CounterLogRows :
    (∃ (s : State) (r : _) (i : Nat), s.alive = true ∧ regAt (4 * s.get G_CNT_ADDR.ADDR) = some (r, i) ∧ r.kind = 1 ∧ s.log.wait.length < 64) ∧
    (∃ (s : State), s.alive = true ∧ regAt (4 * s.get G_CNT_ADDR.ADDR) = none) ∧
    (∃ (s : State) (p : _), s.alive = true ∧ p ≤ 12 ∧ s.log.wait.length < 64) ∧
    (∃ (s : State) (p : _), s.alive = true ∧ 12 < p) ∧
    (∃ (s : State), s.alive = true ∧ s.log.wait.length < 64) ∧
    (∃ (s : State), s.alive = true ∧ s.log.wait = []) ∧
    (∃ (s : State) (r : LogRec) (l : List LogRec), s.alive = true ∧ s.log.wait = r :: l ∧ s.coalesces r = true ∧ s.log.dropped = 0) ∧
    (∃ (s : State) (r : LogRec) (l : List LogRec), s.alive = true ∧ s.log.wait = r :: l ∧ s.coalesces r = false ∧ s.log.dropped = 0) ∧
    (∃ (s : State) (v : Nat), s.alive = true ∧ v < 2 ^ 31) ∧
    (∃ (s : State) (route : Nat) (i : Nat), s.alive = true ∧ route < 256 ∧ i < 256 ∧ s.atbOk route i = false) ∧
    (∃ (s : State) (route : Nat) (i : Nat), s.alive = true ∧ route < 256 ∧ i < 256 ∧ s.atbOk route i = true ∧ (∀ d, atbDie route i = some d → s.atbDead d = false) ∧ s.get SV_ATB.EN = 0) ∧
    (∃ (s : State), s.alive = true ∧ s.get SV_ATB.EN ≠ 0) ∧
    (∃ (s : State), s.alive = true ∧ s.get SV_ATB.EN = 0) :=
  ⟨⟨{ wit with flds := [] } |>.set G_CNT_ADDR.ADDR (R.PP_REJ_CNT 99 / 4), (witRow (4 * ({ wit with flds := [] } |>.set G_CNT_ADDR.ADDR (R.PP_REJ_CNT 99 / 4)).get G_CNT_ADDR.ADDR) (by decide +kernel)).1, (witRow (4 * ({ wit with flds := [] } |>.set G_CNT_ADDR.ADDR (R.PP_REJ_CNT 99 / 4)).get G_CNT_ADDR.ADDR) (by decide +kernel)).2, by decide +kernel, witRow_is _ _, by decide +kernel, by decide +kernel⟩,
   ⟨wit.set G_CNT_ADDR.ADDR 0xFFFFF, by decide +kernel, Option.isNone_iff_eq_none.mp (by decide +kernel)⟩,
   ⟨wit, 12, by decide +kernel⟩,
   ⟨wit, 199, by decide +kernel⟩,
   ⟨wit, by decide +kernel⟩,
   ⟨wit, by decide +kernel⟩,
   ⟨{ wit with log := { wit.log with wait := [⟨0, 2, 1, 95, 0⟩], recent := [⟨0, 2, 1, 95, 0⟩] } }, ⟨0, 2, 1, 95, 0⟩, [], by decide +kernel⟩,
   ⟨{ wit with log := { wit.log with wait := [⟨0, 2, 1, 95, 0⟩] } }, ⟨0, 2, 1, 95, 0⟩, [], by decide +kernel⟩,
   ⟨wit, 2 ^ 31 - 1, by decide +kernel⟩,
   ⟨wit, 0, 0, by decide +kernel⟩,
   ⟨wit, 2, 99, by decide +kernel, by decide +kernel, by decide +kernel, by decide +kernel, (fun d h => by cases h; decide +kernel), by decide +kernel⟩,
   ⟨wit |>.set SV_ATB.EN 1, by decide +kernel⟩,
   ⟨wit |>.set SV_ATB.EN 0, by decide +kernel⟩⟩

theorem test_witness_ManagementRows :
    (∃ (s : State) (u : Nat) (len : Nat), s.alive = true ∧ s.mgmtSide u = true ∧ 4 ≤ len ∧ len ≤ 64 ∧ len % 4 = 0) ∧
    (∃ (s : State) (u : Nat) (len : Nat), s.alive = true ∧ s.mgmtSide u = true ∧ regLen len = false) ∧
    (∃ (s : State) (u : Nat) (data : List Nat), s.alive = true ∧ s.mgmtSide u = true ∧ regLen (4 * data.length) = true) ∧
    (∃ (s : State) (u : Nat) (data : List Nat) (a1 : _) (d1 : List Nat), s.alive = true ∧ s.mgmtSide u = true ∧ regLen (4 * data.length) = true ∧ (s.up u).heldWrite = some (a1, d1)) ∧
    (∃ (s : State) (u : Nat), s.alive = true ∧ s.mgmtSide u = true ∧ (s.up u).last.1 ≠ .ok) ∧
    (∃ (s : State) (u : Nat), s.alive = true ∧ s.mgmtSide u = true ∧ (s.up u).last.1 = .ok) ∧
    (∃ (s : State) (u : Nat) (len : Nat), s.alive = true ∧ s.mgmtSide u = true ∧ len ≠ 8) ∧
    (∃ (s : State) (u : Nat), s.alive = true ∧ s.mgmtSide u = true) ∧
    (∃ (s : State) (u : Nat) (req : _), s.alive = true ∧ s.mgmtSide u = true ∧ 4 < req ∧ req < s.vndFirst) ∧
    (∃ (s : State) (u : Nat) (seq : Nat) (dest : _) (addrs : List Nat), s.linkTakes u seq = true ∧ (s.frameIn u seq 0 (4 * addrs.length)).toMe dest = true) ∧
    (∃ (s : State) (u : Nat) (seq : Nat) (dest : _) (hops : _) (addrs : List Nat), s.linkTakes u seq = true ∧ (s.frameIn u seq 0 (4 * addrs.length)).toMe dest = false ∧ hops = 4095) ∧
    (∃ (s : State) (u : Nat) (seq : Nat) (dest : _) (pairs : List (Nat × Nat)), s.linkTakes u seq = true ∧ (s.frameIn u seq 0 (8 * pairs.length)).toMe dest = true) ∧
    (∃ (s : State) (u : Nat) (seq : Nat) (dest : _) (src : _) (data : List Nat), s.linkTakes u seq = true ∧ (s.frameIn u seq 0 data.length).toMe dest = true ∧ ((s.frameIn u seq 0 data.length).reqDone src [0, 1]).mboxFull = false) ∧
    (∃ (s : State) (u : Nat) (seq : Nat) (dest : _) (data : List Nat), s.linkTakes u seq = true ∧ (s.frameIn u seq 0 data.length).toMe dest = true ∧ (s.frameIn u seq 0 data.length).mboxFull = false) ∧
    (∃ (s : State) (u : Nat) (seq : Nat) (dest : _) (data : List Nat), s.linkTakes u seq = true ∧ (s.frameIn u seq 0 data.length).toMe dest = true ∧ (s.frameIn u seq 0 data.length).mboxFull = true) ∧
    (∃ (s : State) (u : Nat) (seq : Nat) (dest : _), s.linkTakes u seq = true ∧ (s.frameIn u seq 0 4).toMe dest = true) ∧
    (∃ (s : State) (dest : Nat) (body : List Nat), s.alive = true ∧ s.kcl.mbxBusy = [(dest, body, true)]) ∧
    (∃ (s : State), s.alive = true ∧ s.kcl.mbxBusy = []) ∧
    (∃ (s : State), s.alive = true ∧ hasKcl s.variant = true ∧ s.mtxBusy = true) ∧
    (∃ (s : State) (v : Nat), s.alive = true ∧ hasKcl s.variant = true ∧ s.mtxBusy = false ∧ 60 < v % 64) ∧
    (∃ (s : State) (v : Nat), s.alive = true ∧ hasKcl s.variant = true ∧ s.mtxBusy = false ∧ v / 2 ^ 8 % 16 = 2 ∧ v % 64 ≤ 60) ∧
    (∃ (s : State) (dest : _) (mcode : _), s.alive = true ∧ s.kcl.reqs.contains (dest, mcode) = true) ∧
    (∃ (s : State) (dest : _) (mcode : _), s.alive = true ∧ s.kcl.reqs.contains (dest, mcode) = false) :=
  ⟨⟨wit |>.modUp 3 (fun z => { z with mgmtNow := true }), 3, 64, by decide +kernel⟩,
   ⟨wit |>.modUp 3 (fun z => { z with mgmtNow := true }), 3, 0, by decide +kernel⟩,
   ⟨wit |>.modUp 3 (fun z => { z with mgmtNow := true }), 3, List.replicate 16 0, by decide +kernel⟩,
   ⟨wit |>.modUp 3 (fun z => { z with mgmtNow := true }) |>.modUp 3 (fun z => { z with heldWrite := some (0, List.replicate 16 0) }), 3, List.replicate 16 0, 0, List.replicate 16 0, by decide +kernel⟩,
   ⟨wit |>.modUp 3 (fun z => { z with mgmtNow := true }) |>.modUp 3 (fun z => { z with last := (.priv, 1) }), 3, by decide +kernel⟩,
   ⟨wit |>.modUp 3 (fun z => { z with mgmtNow := true }), 3, by decide +kernel⟩,
   ⟨wit |>.modUp 3 (fun z => { z with mgmtNow := true }), 3, 0, by decide +kernel⟩,
   ⟨wit |>.modUp 3 (fun z => { z with mgmtNow := true }), 3, by decide +kernel⟩,
   ⟨wit |>.modUp 3 (fun z => { z with mgmtNow := true }), 3, 0x7F, by decide +kernel⟩,
   ⟨wit |>.set KL_CFG.EN 1 |>.set (U_TREEST.LINK 3) 4 |>.set (KL_LST.STATE 3) 5 |>.set KL_ID.STATE 1, 3, 0, 0, List.replicate 15 0, by decide +kernel⟩,
   ⟨wit |>.set KL_CFG.EN 1 |>.set (U_TREEST.LINK 3) 4 |>.set (KL_LST.STATE 3) 5 |>.set KL_ID.STATE 1, 3, 0, 1, 4095, List.replicate 15 0, by decide +kernel⟩,
   ⟨wit |>.set KL_CFG.EN 1 |>.set (U_TREEST.LINK 3) 4 |>.set (KL_LST.STATE 3) 5 |>.set KL_ID.STATE 1, 3, 0, 0, List.replicate 7 (0, 0), by decide +kernel⟩,
   ⟨wit |>.set KL_CFG.EN 1 |>.set (U_TREEST.LINK 3) 4 |>.set (KL_LST.STATE 3) 5 |>.set KL_ID.STATE 1, 3, 0, 0, 0, List.replicate 60 0, by decide +kernel⟩,
   ⟨wit |>.set KL_CFG.EN 1 |>.set (U_TREEST.LINK 3) 4 |>.set (KL_LST.STATE 3) 5 |>.set KL_ID.STATE 1, 3, 0, 0, List.replicate 60 0, by decide +kernel⟩,
   ⟨{ witLink with tk := { witLink.tk with mbox := Tbl.set [] [] 5 (List.replicate 16 ⟨1, 0, 0, [], false⟩) } }, 3, 0, 0, [], by decide +kernel⟩,
   ⟨wit |>.set KL_CFG.EN 1 |>.set (U_TREEST.LINK 3) 4 |>.set (KL_LST.STATE 3) 5 |>.set KL_ID.STATE 1, 3, 0, 0, by decide +kernel⟩,
   ⟨wit |>.modKcl (fun k => { k with mbxBusy := [(4095, [1], true)] }), 4095, [1], by decide +kernel⟩,
   ⟨wit, by decide +kernel⟩,
   ⟨wit |>.modKcl (fun k => { k with mtx := some ⟨8, 0, 7, 0, []⟩ }) |>.modKlink 3 (fun z => { z with txq := [⟨8, 0, 7, 0, []⟩] }), by decide +kernel⟩,
   ⟨wit, 61, by decide +kernel⟩,
   ⟨wit, 2 * 256 + 60, by decide +kernel⟩,
   ⟨wit |>.modKcl (fun k => { k with reqs := [(4095, 1)] }), 4095, 1, by decide +kernel⟩,
   ⟨wit, 0, 0, by decide +kernel⟩⟩

theorem test_witness_ConsolePortPrints :
    (∃ (s : State), s.conOpen 1 = true) ∧
    (∃ (s : State) (n : Nat), s.conOpen 1 = true ∧ n ≤ 95) ∧
    (∃ (s : State) (u : Nat), s.conOpen 1 = true ∧ u ≤ 3) ∧
    (∃ (s : State) (k : Nat), s.conOpen 1 = true ∧ k ≤ 99) :=
  ⟨⟨wit |>.set SV_ST.SESSION 1, by decide +kernel⟩,
   ⟨wit |>.set SV_ST.SESSION 1, 95, by decide +kernel⟩,
   ⟨wit |>.set SV_ST.SESSION 1, 3, by decide +kernel⟩,
   ⟨wit |>.set SV_ST.SESSION 1, 99, by decide +kernel⟩⟩

theorem test_witness_ConsoleUnitPrints :
    (∃ (s : State), s.conOpen 1 = true) ∧
    (∃ (s : State) (g : Nat), s.conOpen 1 = true ∧ g ≤ 12) ∧
    (∃ (s : State) (n : Nat), s.conOpen 1 = true ∧ n ≤ 95) ∧
    (∃ (s : State) (p : _), s.conOpen 1 = true ∧ p ≤ 199) ∧
    (∃ (s : State) (x : Nat), s.conOpen 1 = true ∧ x ≤ 99) ∧
    (∃ (s : State) (c : _), s.conOpen 1 = true ∧ c ≤ 4095) ∧
    (∃ (s : State) (i : Nat), s.conOpen 1 = true ∧ i ≤ 63) ∧
    (∃ (s : State) (a : Nat), s.conOpen 1 = true ∧ (s.read32 .console a).fab.rc ≠ .ok) ∧
    (∃ (s : State) (a : Nat), s.conOpen 1 = true ∧ (s.read32 .console a).fab.rc = .ok) :=
  ⟨⟨wit |>.set SV_ST.SESSION 1, by decide +kernel⟩,
   ⟨wit |>.set SV_ST.SESSION 1, 12, by decide +kernel⟩,
   ⟨wit |>.set SV_ST.SESSION 1, 95, by decide +kernel⟩,
   ⟨wit |>.set SV_ST.SESSION 1, 199, by decide +kernel⟩,
   ⟨wit |>.set SV_ST.SESSION 1, 99, by decide +kernel⟩,
   ⟨wit |>.set SV_ST.SESSION 1, 4095, by decide +kernel⟩,
   ⟨wit |>.set SV_ST.SESSION 1, 63, by decide +kernel⟩,
   ⟨wit |>.set SV_ST.SESSION 1, 1, by decide +kernel⟩,
   ⟨wit |>.set SV_ST.SESSION 1, 0, by decide +kernel⟩⟩

theorem test_witness_ConsoleSessions :
    (∃ (s : State), s.conOpen 0 = true ∧ s.get SV_ST.SESSION = 0 ∧ s.cnt R.SV_SESSION_CNT < 0xFFFF) ∧
    (∃ (s : State) (v : Nat), s.conOpen 0 = true ∧ v < 0x10) ∧
    (∃ (s : State) (v : Nat), s.conOpen 1 = true ∧ 0x11 ≤ v) ∧
    (∃ (s : State), s.conOpen 1 = true ∧ s.get SV_ST.SESSION = 1) ∧
    (∃ (s : State), s.conOpen 0 = true ∧ s.get SV_ST.SESSION = 0) ∧
    (∃ (s : State), s.conOpen 0 = true) ∧
    (∃ (s : State), s.conOpen 1 = true ∧ s.get SV_CFG.SVC_EN ≠ 0 ∧ s.get SV_ST.LOCKOUT = 0 ∧ s.get SV_CFG.PIN = 0) ∧
    (∃ (s : State) (pin : _), s.conOpen 1 = true ∧ s.get SV_CFG.SVC_EN ≠ 0 ∧ s.get SV_ST.LOCKOUT = 0 ∧ s.get SV_CFG.PIN = pin) ∧
    (∃ (s : State) (pin : _), s.conOpen 1 = true ∧ s.get SV_CFG.SVC_EN ≠ 0 ∧ s.get SV_ST.LOCKOUT = 0 ∧ s.get SV_CFG.PIN ≠ 0 ∧ s.get SV_CFG.PIN ≠ pin ∧ s.svc.pinRun = 2) ∧
    (∃ (s : State), s.conOpen 2 = true ∧ s.get SV_ST.SESSION = 2) ∧
    (∃ (s : State), s.conOpen 1 = true ∧ s.get SV_UART.RC = 0) ∧
    (∃ (s : State), s.conOpen 1 = true ∧ s.get SV_UART.RC ≠ 0) ∧
    (∃ (s : State), s.conOpen 1 = true) ∧
    (∃ (s : State), s.alive = true ∧ s.svc.passed = none ∧ s.mode ≠ .selftest) ∧
    (∃ (s : State) (tag : _), s.conAlive = true ∧ s.svc.passed = some tag ∧ s.mode ≠ .selftest) ∧
    (∃ (s : State), s.mode = .selftest) ∧
    (∃ (s : State), s.conOpen 0 = true ∧ s.conRouted = true ∧ (s.mbox 4).length < 4) ∧
    (∃ (s : State), s.conOpen 0 = true ∧ s.conRouted = true ∧ 4 ≤ (s.mbox 4).length) ∧
    (∃ (s : State) (tag : _), s.alive = true ∧ s.svc.passed = some tag) ∧
    (∃ (s : State), s.alive = true ∧ s.svc.passed = none) ∧
    (∃ (s : State), s.alive = true ∧ s.get SV_ST.SESSION = 1 ∧ s.get SV_CFG.IDLE_TO ≠ 0 ∧ s.svc.passed = none) ∧
    (∃ (s : State), s.alive = true) :=
  ⟨⟨wit |>.set SV_ST.SESSION 0 |>.set SV_ST.SESSION 0, by decide +kernel⟩,
   ⟨wit |>.set SV_ST.SESSION 0, 0, by decide +kernel⟩,
   ⟨wit |>.set SV_ST.SESSION 1, 0x11, by decide +kernel⟩,
   ⟨wit |>.set SV_ST.SESSION 1 |>.set SV_ST.SESSION 1, by decide +kernel⟩,
   ⟨wit |>.set SV_ST.SESSION 0 |>.set SV_ST.SESSION 0, by decide +kernel⟩,
   ⟨wit |>.set SV_ST.SESSION 0, by decide +kernel⟩,
   ⟨wit |>.set SV_ST.SESSION 1 |>.set SV_CFG.SVC_EN 1 |>.set SV_ST.LOCKOUT 0 |>.set SV_CFG.PIN 0, by decide +kernel⟩,
   ⟨wit |>.set SV_ST.SESSION 1 |>.set SV_CFG.SVC_EN 1 |>.set SV_ST.LOCKOUT 0 |>.set SV_CFG.PIN 0, 0, by decide +kernel⟩,
   ⟨wit |>.set SV_ST.SESSION 1 |>.set SV_CFG.SVC_EN 1 |>.set SV_ST.LOCKOUT 0 |>.set SV_CFG.PIN 1 |>.modSvc (fun x => { x with pinRun := 2 }), 9999, by decide +kernel⟩,
   ⟨wit |>.set SV_ST.SESSION 2 |>.set SV_ST.SESSION 2, by decide +kernel⟩,
   ⟨wit |>.set SV_ST.SESSION 1 |>.set SV_UART.RC 0, by decide +kernel⟩,
   ⟨wit |>.set SV_ST.SESSION 1 |>.set SV_UART.RC 1, by decide +kernel⟩,
   ⟨wit |>.set SV_ST.SESSION 1, by decide +kernel⟩,
   ⟨wit, by decide +kernel⟩,
   ⟨wit |>.modSvc (fun x => { x with passed := some 255 }), 255, by decide +kernel⟩,
   ⟨{ wit with mode := .selftest }, by decide +kernel⟩,
   ⟨wit |>.set SV_ST.SESSION 0 |>.set (TK_EVROUTE.EN 2 0) 1, by decide +kernel⟩,
   ⟨{ wit with tk := { wit.tk with mbox := Tbl.set [] [] 4 (List.replicate 4 ⟨1, 0, 0, [], false⟩) } } |>.set (TK_EVROUTE.EN 2 0) 1, by decide +kernel⟩,
   ⟨wit |>.modSvc (fun x => { x with passed := some 255 }), 255, by decide +kernel⟩,
   ⟨wit, by decide +kernel⟩,
   ⟨wit |>.set SV_ST.SESSION 1 |>.set SV_CFG.IDLE_TO 1, by decide +kernel⟩,
   ⟨wit, by decide +kernel⟩⟩

theorem test_witness_ConsolePowerCommands :
    (∃ (s : State) (n : Nat), s.conOpen 2 = true ∧ s.dsHere n = true) ∧
    (∃ (s : State) (n : Nat), s.conOpen 2 = true ∧ s.dsHere n = false) ∧
    (∃ (s : State), s.conOpen 2 = true) ∧
    (∃ (s : State) (n : Nat), s.conOpen 2 = true ∧ s.dsHere n = true ∧ s.held n = true) ∧
    (∃ (s : State) (n : Nat), s.conOpen 2 = true ∧ s.dsHere n = true ∧ s.held n = false) ∧
    (∃ (s : State) (k : Nat), s.conHolds k = true) ∧
    (∃ (s : State) (k : Nat), s.conOpen 2 = true ∧ k < 96 ∧ s.kHere k = true ∧ s.held k = false) ∧
    (∃ (s : State) (n : Nat), s.conHolds n = true ∧ n ≤ 95) ∧
    (∃ (s : State) (k : Nat), s.conHolds k = true ∧ s.partner k = true ∧ s.get (PD_ST.PWR_ROLE k) ≠ 0 ∧ s.get (PD_ST.IN_TRANS k) = 0 ∧ s.get (PD_ST.HR_SEQ k) = 0) ∧
    (∃ (s : State) (k : Nat), s.conHolds k = true ∧ s.partner k = false) ∧
    (∃ (s : State) (k : Nat), s.conHolds k = true ∧ s.get (PD_ST.EPR_MODE k) ≠ 0) ∧
    (∃ (s : State) (k : Nat), s.conHolds k = true ∧ s.get (PD_ST.EPR_MODE k) = 0) ∧
    (∃ (s : State) (c : _), s.conOpen 2 = true ∧ s.channels.contains c = true) ∧
    (∃ (s : State) (c : _), s.conOpen 2 = true ∧ s.channels.contains c = false) :=
  ⟨⟨wit |>.set SV_ST.SESSION 2, 95, by decide +kernel⟩,
   ⟨wit |>.set SV_ST.SESSION 2, 96, by decide +kernel⟩,
   ⟨wit |>.set SV_ST.SESSION 2, by decide +kernel⟩,
   ⟨wit |>.set SV_ST.SESSION 2 |>.set (SV_HOLD.HOLD 2) (2 ^ 31), 95, by decide +kernel⟩,
   ⟨wit |>.set SV_ST.SESSION 2, 95, by decide +kernel⟩,
   ⟨wit |>.set SV_ST.SESSION 2, 99, by decide +kernel⟩,
   ⟨wit |>.set SV_ST.SESSION 2, 95, by decide +kernel⟩,
   ⟨wit |>.set SV_ST.SESSION 2 |>.set (SV_HOLD.HOLD 2) (2 ^ 31), 95, by decide +kernel⟩,
   ⟨wit |>.set SV_ST.SESSION 2 |>.modUp 3 (fun z => { z with attached := true }) |>.set (PD_ST.PWR_ROLE 99) 1 |>.set (PD_ST.IN_TRANS 99) 0 |>.set (PD_ST.HR_SEQ 99) 0, 99, by decide +kernel⟩,
   ⟨wit |>.set SV_ST.SESSION 2, 99, by decide +kernel⟩,
   ⟨wit |>.set SV_ST.SESSION 2 |>.set (PD_ST.EPR_MODE 99) 1, 99, by decide +kernel⟩,
   ⟨wit |>.set SV_ST.SESSION 2 |>.set (PD_ST.EPR_MODE 99) 0, 99, by decide +kernel⟩,
   ⟨wit |>.set SV_ST.SESSION 2, 0, by decide +kernel⟩,
   ⟨wit |>.set SV_ST.SESSION 2, 16, by decide +kernel⟩⟩

theorem test_witness_ConsoleServiceCommands :
    (∃ (s : State), s.conOpen 2 = true) ∧
    (∃ (s : State) (i : Nat) (inst : _), s.conOpen 2 = true ∧ i < 64 ∧ inst < 2 ^ 20) ∧
    (∃ (s : State) (off : _), s.conOpen 2 = true ∧ off < 2 ^ 19) ∧
    (∃ (s : State) (off : _), s.conOpen 2 = true ∧ 2 ^ 19 ≤ off) ∧
    (∃ (s : State) (off : Nat) (data : List Byte), s.conOpen 2 = true ∧ off < 2 ^ 19 ∧ data.length = 256) ∧
    (∃ (s : State), s.mode = .safe ∧ s.svc.passed = none ∧ 2 ≤ s.get SV_ST.SESSION) ∧
    (∃ (s : State), s.mode = .safe ∧ s.svc.passed = none) ∧
    (∃ (s : State) (n : Nat), s.conOpen 2 = true ∧ n ∈ [106, 107, 108, 308, 309] ∧ s.mode ≠ .selftest) ∧
    (∃ (s : State) (n : Nat) (k : Nat), s.conHolds k = true ∧ n ∈ [202, 204] ∧ k < 96) ∧
    (∃ (s : State), s.conAlive = true ∧ s.svc.passed = none) ∧
    (∃ (s : State) (tag : _), s.alive = true ∧ s.svc.passed = some tag) :=
  ⟨⟨wit |>.set SV_ST.SESSION 2, by decide +kernel⟩,
   ⟨wit |>.set SV_ST.SESSION 2, 63, 0, by decide +kernel⟩,
   ⟨wit |>.set SV_ST.SESSION 2, 0, by decide +kernel⟩,
   ⟨wit |>.set SV_ST.SESSION 2, 2 ^ 19, by decide +kernel⟩,
   ⟨wit |>.set SV_ST.SESSION 2, 2 ^ 19 - 1, List.replicate 256 0, by decide +kernel⟩,
   ⟨{ wit with mode := .safe } |>.set SV_ST.SESSION 2, by decide +kernel⟩,
   ⟨{ wit with mode := .safe }, by decide +kernel⟩,
   ⟨wit |>.set SV_ST.SESSION 2, 309, by decide +kernel⟩,
   ⟨wit |>.set SV_ST.SESSION 2 |>.set (SV_HOLD.HOLD 2) (2 ^ 31), 204, 95, by decide +kernel⟩,
   ⟨wit, by decide +kernel⟩,
   ⟨wit |>.modSvc (fun x => { x with passed := some 255 }), 255, by decide +kernel⟩⟩

end Witnesses

end Sys2Proof.Tests
end

section
/-!
SUPPORT. What every command keeps: `exec` answers a next state that keeps the variant, the queue of waiting commands, the test port and
`State.Inv`, or changes the test port alone.
-/

namespace Sys2Proof

/-- The four commands of the JTAG port (R570). -/
def Instr.ofTestPort (c : Instr) : Bool :=
  match c with
  | .extest _ => true
  | .samplePreload _ _ => true
  | .bypass => true
  | .testLogicReset => true
  | _ => false

namespace Machine

/-- One arm per command, as `exec` has one, each closed by the law of that command's meaning. -/
theorem exec_keeps_or_testPort (c : Instr) (s : State) :
    KeepsR s (exec c s) ∨ c.ofTestPort = true ∧ ∃ f, exec c s = .next (s.modJtag f) :=
  have hk := Keeps.refl s
  match c with
  | .absentWrite .. => .inl (execAbsentWrite_keeps (hk0 := hk) ..)
  | .paLinkLoss .. => .inl (execPaLinkLoss_keeps (hk0 := hk) ..)
  | .rootClockLoss => .inl (execRootClockLoss_keeps (hk0 := hk) ..)
  | .pllUnlock => .inl (execPllUnlock_keeps (hk0 := hk) ..)
  | .sofReceived .. => .inl (execSofReceived_keeps (hk0 := hk) ..)
  | .microframeBoundary .. => .inl (execMicroframeBoundary_keeps (hk0 := hk) ..)
  | .tbTick125us => .inl (execTbTick125us_keeps (hk0 := hk) ..)
  | .shaperTickUpdate => .inl (execShaperTickUpdate_keeps (hk0 := hk) ..)
  | .oneMsTick => .inl (execOneMsTick_keeps (hk0 := hk) ..)
  | .portMapWrite .. => .inl (execPortMapWrite_keeps (hk0 := hk) ..)
  | .moveSe0End .. => .inl (execMoveSe0End_keeps (hk0 := hk) ..)
  | .enumStall .. => .inl (execEnumStall_keeps (hk0 := hk) ..)
  | .setAddressComplete .. => .inl (execSetAddressComplete_keeps (hk0 := hk) ..)
  | .setPortReset .. => .inl (execSetPortReset_keeps (hk0 := hk) ..)
  | .usb2PortResetEnd .. => .inl (execUsb2PortResetEnd_keeps (hk0 := hk) ..)
  | .bhPortReset .. => .inl (execBhPortReset_keeps (hk0 := hk) ..)
  | .hotResetEscalation .. => .inl (execHotResetEscalation_keeps (hk0 := hk) ..)
  | .warmResetLfpsEnd .. => .inl (execWarmResetLfpsEnd_keeps (hk0 := hk) ..)
  | .warmResetFail .. => .inl (execWarmResetFail_keeps (hk0 := hk) ..)
  | .deviceConnect .. => .inl (execDeviceConnect_keeps (hk0 := hk) ..)
  | .deviceDisconnect .. => .inl (execDeviceDisconnect_keeps (hk0 := hk) ..)
  | .portEnableError .. => .inl (execPortEnableError_keeps (hk0 := hk) ..)
  | .clearPortEnable .. => .inl (execClearPortEnable_keeps (hk0 := hk) ..)
  | .setPortPower .. => .inl (execSetPortPower_keeps (hk0 := hk) ..)
  | .clearPortPower .. => .inl (execClearPortPower_keeps (hk0 := hk) ..)
  | .regRead .. => .inl (execRegRead_keeps (hk0 := hk) ..)
  | .regWrite .. => .inl (execRegWrite_keeps (hk0 := hk) ..)
  | .getResult .. => .inl (execGetResult_keeps (hk0 := hk) ..)
  | .logRead .. => .inl (execLogRead_keeps (hk0 := hk) ..)
  | .vendorRequestUnknown .. => .inl (execVendorRequestUnknown_keeps (hk0 := hk) ..)
  | .upstreamBusReset .. => .inl (execUpstreamBusReset_keeps (hk0 := hk) ..)
  | .busResetEnd .. => .inl (execBusResetEnd_keeps (hk0 := hk) ..)
  | .hsDownstreamToken .. => .inl (execHsDownstreamToken_keeps (hk0 := hk) ..)
  | .periodicStartSplit .. => .inl (execPeriodicStartSplit_keeps (hk0 := hk) ..)
  | .periodicCompleteSplit .. => .inl (execPeriodicCompleteSplit_keeps (hk0 := hk) ..)
  | .nonperiodicStartSplit .. => .inl (execNonperiodicStartSplit_keeps (hk0 := hk) ..)
  | .nonperiodicCompleteSplit .. => .inl (execNonperiodicCompleteSplit_keeps (hk0 := hk) ..)
  | .ttTransactionDone .. => .inl (execTtTransactionDone_keeps (hk0 := hk) ..)
  | .clearTtBuffer .. => .inl (execClearTtBuffer_keeps (hk0 := hk) ..)
  | .resetTt u h l v => .inl (execResetTt_keeps u h l v s hk)
  | .getTtState .. => .inl (execGetTtState_keeps (hk0 := hk) ..)
  | .stopTt .. => .inl (execStopTt_keeps (hk0 := hk) ..)
  | .setHubDepth .. => .inl (execSetHubDepth_keeps (hk0 := hk) ..)
  | .upstreamHostAttach .. => .inl (execUpstreamHostAttach_keeps (hk0 := hk) ..)
  | .ssUpstreamAbsent .. => .inl (execSsUpstreamAbsent_keeps (hk0 := hk) ..)
  | .ssUpstreamU0 .. => .inl (execSsUpstreamU0_keeps (hk0 := hk) ..)
  | .ssUpstreamLoss .. => .inl (execSsUpstreamLoss_keeps (hk0 := hk) ..)
  | .ssDownstreamPacket .. => .inl (execSsDownstreamPacket_keeps (hk0 := hk) ..)
  | .ssUpstreamPacket .. => .inl (execSsUpstreamPacket_keeps (hk0 := hk) ..)
  | .itpReceived .. => .inl (execItpReceived_keeps (hk0 := hk) ..)
  | .itpReleaseTimeout .. => .inl (execItpReleaseTimeout_keeps (hk0 := hk) ..)
  | .queueWriteRequest .. => .inl (execQueueWriteRequest_keeps (hk0 := hk) ..)
  | .queueSpaceGranted .. => .inl (execQueueSpaceGranted_keeps (hk0 := hk) ..)
  | .queueConfigWrite .. => .inl (execQueueConfigWrite_keeps (hk0 := hk) ..)
  | .cutThroughStart .. => .inl (execCutThroughStart_keeps (hk0 := hk) ..)
  | .cutThroughAbort .. => .inl (execCutThroughAbort_keeps (hk0 := hk) ..)
  | .egressPick .. => .inl (execEgressPick_keeps (hk0 := hk) ..)
  | .packetStaged .. => .inl (execPacketStaged_keeps (hk0 := hk) ..)
  | .episodeSeenRead .. => .inl (execEpisodeSeenRead_keeps (hk0 := hk) ..)
  | .protectionWrite .. => .inl (execProtectionWrite_keeps (hk0 := hk) ..)
  | .queueFlush .. => .inl (execQueueFlush_keeps (hk0 := hk) ..)
  | .flushBoundary .. => .inl (execFlushBoundary_keeps (hk0 := hk) ..)
  | .flushProducerTimeout .. => .inl (execFlushProducerTimeout_keeps (hk0 := hk) ..)
  | .redHoldForced .. => .inl (execRedHoldForced_keeps (hk0 := hk) ..)
  | .forgive .. => .inl (execForgive_keeps (hk0 := hk) ..)
  | .treeSuspend .. => .inl (execTreeSuspend_keeps (hk0 := hk) ..)
  | .setPortSuspend .. => .inl (execSetPortSuspend_keeps (hk0 := hk) ..)
  | .clearPortSuspend .. => .inl (execClearPortSuspend_keeps (hk0 := hk) ..)
  | .portResumeEnd .. => .inl (execPortResumeEnd_keeps (hk0 := hk) ..)
  | .hostResume .. => .inl (execHostResume_keeps (hk0 := hk) ..)
  | .hostResumeEnd .. => .inl (execHostResumeEnd_keeps (hk0 := hk) ..)
  | .deviceResume .. => .inl (execDeviceResume_keeps (hk0 := hk) ..)
  | .deviceWake .. => .inl (execDeviceWake_keeps (hk0 := hk) ..)
  | .upstreamWakeDriveStart .. => .inl (execUpstreamWakeDriveStart_keeps (hk0 := hk) ..)
  | .upstreamWakeDriveEnd .. => .inl (execUpstreamWakeDriveEnd_keeps (hk0 := hk) ..)
  | .wakeNoHostResume .. => .inl (execWakeNoHostResume_keeps (hk0 := hk) ..)
  | .setAndTestPortL1 .. => .inl (execSetAndTestPortL1_keeps (hk0 := hk) ..)
  | .l1TokenResponse .. => .inl (execL1TokenResponse_keeps (hk0 := hk) ..)
  | .l1TokenTimeout .. => .inl (execL1TokenTimeout_keeps (hk0 := hk) ..)
  | .upstreamLpmToken .. => .inl (execUpstreamLpmToken_keeps (hk0 := hk) ..)
  | .upstreamL1Exit .. => .inl (execUpstreamL1Exit_keeps (hk0 := hk) ..)
  | .setPortU1Timeout .. => .inl (execSetPortU1Timeout_keeps (hk0 := hk) ..)
  | .setPortU2Timeout .. => .inl (execSetPortU2Timeout_keeps (hk0 := hk) ..)
  | .u1IdleTimeout .. => .inl (execU1IdleTimeout_keeps (hk0 := hk) ..)
  | .u2InactivityTimeout .. => .inl (execU2InactivityTimeout_keeps (hk0 := hk) ..)
  | .deviceLgo .. => .inl (execDeviceLgo_keeps (hk0 := hk) ..)
  | .uxExit .. => .inl (execUxExit_keeps (hk0 := hk) ..)
  | .uxExitTimeout .. => .inl (execUxExitTimeout_keeps (hk0 := hk) ..)
  | .recoveryFail .. => .inl (execRecoveryFail_keeps (hk0 := hk) ..)
  | .ssLinkU0 .. => .inl (execSsLinkU0_keeps (hk0 := hk) ..)
  | .setPortLinkStateU3 .. => .inl (execSetPortLinkStateU3_keeps (hk0 := hk) ..)
  | .setPortLinkStateU0 .. => .inl (execSetPortLinkStateU0_keeps (hk0 := hk) ..)
  | .deviceU3Exit .. => .inl (execDeviceU3Exit_keeps (hk0 := hk) ..)
  | .upstreamLgo .. => .inl (execUpstreamLgo_keeps (hk0 := hk) ..)
  | .upstreamU1Initiate .. => .inl (execUpstreamU1Initiate_keeps (hk0 := hk) ..)
  | .upstreamU2Initiate .. => .inl (execUpstreamU2Initiate_keeps (hk0 := hk) ..)
  | .upstreamU3Entry .. => .inl (execUpstreamU3Entry_keeps (hk0 := hk) ..)
  | .upstreamU3Exit .. => .inl (execUpstreamU3Exit_keeps (hk0 := hk) ..)
  | .dormantEntry => .inl (execDormantEntry_keeps (hk0 := hk) ..)
  | .ccAttach .. => .inl (execCcAttach_keeps (hk0 := hk) ..)
  | .attachDebounceEnd .. => .inl (execAttachDebounceEnd_keeps (hk0 := hk) ..)
  | .moistureCheckDone .. => .inl (execMoistureCheckDone_keeps (hk0 := hk) ..)
  | .seatConfirmed .. => .inl (execSeatConfirmed_keeps (hk0 := hk) ..)
  | .seatLoss .. => .inl (execSeatLoss_keeps (hk0 := hk) ..)
  | .errorRecoveryEnd .. => .inl (execErrorRecoveryEnd_keeps (hk0 := hk) ..)
  | .ccOpen .. => .inl (execCcOpen_keeps (hk0 := hk) ..)
  | .detachCancelled .. => .inl (execDetachCancelled_keeps (hk0 := hk) ..)
  | .tpddebounceEnd .. => .inl (execTpddebounceEnd_keeps (hk0 := hk) ..)
  | .detachReported .. => .inl (execDetachReported_keeps (hk0 := hk) ..)
  | .moistureRetest .. => .inl (execMoistureRetest_keeps (hk0 := hk) ..)
  | .override .. => .inl (execOverride_keeps (hk0 := hk) ..)
  | .recheck .. => .inl (execRecheck_keeps (hk0 := hk) ..)
  | .cradleWrite .. => .inl (execCradleWrite_keeps (hk0 := hk) ..)
  | .vconnTrip .. => .inl (execVconnTrip_keeps (hk0 := hk) ..)
  | .sbuOvervoltage .. => .inl (execSbuOvervoltage_keeps (hk0 := hk) ..)
  | .sbConfigWrite .. => .inl (execSbConfigWrite_keeps (hk0 := hk) ..)
  | .setLineCoding .. => .inl (execSetLineCoding_keeps (hk0 := hk) ..)
  | .bridgeRxData .. => .inl (execBridgeRxData_keeps (hk0 := hk) ..)
  | .bridgeTxData .. => .inl (execBridgeTxData_keeps (hk0 := hk) ..)
  | .drpToggle .. => .inl (execDrpToggle_keeps (hk0 := hk) ..)
  | .pdMessageReceived .. => .inl (execPdMessageReceived_keeps (hk0 := hk) ..)
  | .pdRetryTimeout .. => .inl (execPdRetryTimeout_keeps (hk0 := hk) ..)
  | .pdTxStart .. => .inl (execPdTxStart_keeps (hk0 := hk) ..)
  | .pdTxComplete .. => .inl (execPdTxComplete_keeps (hk0 := hk) ..)
  | .txGo .. => .inl (execTxGo_keeps (hk0 := hk) ..)
  | .rxPop .. => .inl (execRxPop_keeps (hk0 := hk) ..)
  | .hardReset .. => .inl (execHardReset_keeps (hk0 := hk) ..)
  | .cableReset .. => .inl (execCableReset_keeps (hk0 := hk) ..)
  | .hardResetReceived .. => .inl (execHardResetReceived_keeps (hk0 := hk) ..)
  | .cableResetReceived .. => .inl (execCableResetReceived_keeps (hk0 := hk) ..)
  | .tpshardresetEnd .. => .inl (execTpshardresetEnd_keeps (hk0 := hk) ..)
  | .tsrcrecoverEnd .. => .inl (execTsrcrecoverEnd_keeps (hk0 := hk) ..)
  | .hrVsafe5vTimeout .. => .inl (execHrVsafe5vTimeout_keeps (hk0 := hk) ..)
  | .pdNextWrite .. => .inl (execPdNextWrite_keeps (hk0 := hk) ..)
  | .tsrctransitionEnd .. => .inl (execTsrctransitionEnd_keeps (hk0 := hk) ..)
  | .transitionDone .. => .inl (execTransitionDone_keeps (hk0 := hk) ..)
  | .transitionTimeout .. => .inl (execTransitionTimeout_keeps (hk0 := hk) ..)
  | .eprKeepaliveExpiry .. => .inl (execEprKeepaliveExpiry_keeps (hk0 := hk) ..)
  | .ppsTimeout .. => .inl (execPpsTimeout_keeps (hk0 := hk) ..)
  | .frSwapSignal .. => .inl (execFrSwapSignal_keeps (hk0 := hk) ..)
  | .rampStart .. => .inl (execRampStart_keeps (hk0 := hk) ..)
  | .precheckEnd .. => .inl (execPrecheckEnd_keeps (hk0 := hk) ..)
  | .fetShort .. => .inl (execFetShort_keeps (hk0 := hk) ..)
  | .slopeEnd .. => .inl (execSlopeEnd_keeps (hk0 := hk) ..)
  | .gateRiseEnd .. => .inl (execGateRiseEnd_keeps (hk0 := hk) ..)
  | .powerGood .. => .inl (execPowerGood_keeps (hk0 := hk) ..)
  | .fastTrip .. => .inl (execFastTrip_keeps (hk0 := hk) ..)
  | .slowTrip .. => .inl (execSlowTrip_keeps (hk0 := hk) ..)
  | .ovTrip .. => .inl (execOvTrip_keeps (hk0 := hk) ..)
  | .retryWaitEnd .. => .inl (execRetryWaitEnd_keeps (hk0 := hk) ..)
  | .retryCountReset .. => .inl (execRetryCountReset_keeps (hk0 := hk) ..)
  | .vsetTrim .. => .inl (execVsetTrim_keeps (hk0 := hk) ..)
  | .vsetSlewDone .. => .inl (execVsetSlewDone_keeps (hk0 := hk) ..)
  | .vsetPwmPeriod .. => .inl (execVsetPwmPeriod_keeps (hk0 := hk) ..)
  | .dischargeGateTimeout .. => .inl (execDischargeGateTimeout_keeps (hk0 := hk) ..)
  | .vbusDischarged .. => .inl (execVbusDischarged_keeps (hk0 := hk) ..)
  | .dischargeSlow .. => .inl (execDischargeSlow_keeps (hk0 := hk) ..)
  | .ppOn .. => .inl (execPpOn_keeps (hk0 := hk) ..)
  | .ppOff .. => .inl (execPpOff_keeps (hk0 := hk) ..)
  | .ppRelease .. => .inl (execPpRelease_keeps (hk0 := hk) ..)
  | .clearStuck .. => .inl (execClearStuck_keeps (hk0 := hk) ..)
  | .basinTick .. => .inl (execBasinTick_keeps (hk0 := hk) ..)
  | .grantExpiry .. => .inl (execGrantExpiry_keeps (hk0 := hk) ..)
  | .sensorSelfTest .. => .inl (execSensorSelfTest_keeps (hk0 := hk) ..)
  | .boardSensorRead .. => .inl (execBoardSensorRead_keeps (hk0 := hk) ..)
  | .boardSensorConfigWrite .. => .inl (execBoardSensorConfigWrite_keeps (hk0 := hk) ..)
  | .shedPowerOff => .inl (execShedPowerOff_keeps (hk0 := hk) ..)
  | .shedPortRelease => .inl (execShedPortRelease_keeps (hk0 := hk) ..)
  | .shedLevelWrite .. => .inl (execShedLevelWrite_keeps (hk0 := hk) ..)
  | .capWrite .. => .inl (execCapWrite_keeps (hk0 := hk) ..)
  | .start .. => .inl (execStart_keeps (hk0 := hk) ..)
  | .halt .. => .inl (execHalt_keeps (hk0 := hk) ..)
  | .resume .. => .inl (execResume_keeps (hk0 := hk) ..)
  | .stop .. => .inl (execStop_keeps (hk0 := hk) ..)
  | .waitWake .. => .inl (execWaitWake_keeps (hk0 := hk) ..)
  | .operationComplete .. => .inl (execOperationComplete_keeps (hk0 := hk) ..)
  | .threadTimerExpiry .. => .inl (execThreadTimerExpiry_keeps (hk0 := hk) ..)
  | .hostRequestEntry .. => .inl (execHostRequestEntry_keeps (hk0 := hk) ..)
  | .hostRequestTimeout .. => .inl (execHostRequestTimeout_keeps (hk0 := hk) ..)
  | .add .. => .inl (execAdd_keeps (hk0 := hk) ..)
  | .sub .. => .inl (execSub_keeps (hk0 := hk) ..)
  | .and .. => .inl (execAnd_keeps (hk0 := hk) ..)
  | .or .. => .inl (execOr_keeps (hk0 := hk) ..)
  | .xor .. => .inl (execXor_keeps (hk0 := hk) ..)
  | .sll .. => .inl (execSll_keeps (hk0 := hk) ..)
  | .srl .. => .inl (execSrl_keeps (hk0 := hk) ..)
  | .sra .. => .inl (execSra_keeps (hk0 := hk) ..)
  | .slli .. => .inl (execSlli_keeps (hk0 := hk) ..)
  | .srli .. => .inl (execSrli_keeps (hk0 := hk) ..)
  | .srai .. => .inl (execSrai_keeps (hk0 := hk) ..)
  | .slt .. => .inl (execSlt_keeps (hk0 := hk) ..)
  | .sltu .. => .inl (execSltu_keeps (hk0 := hk) ..)
  | .mul .. => .inl (execMul_keeps (hk0 := hk) ..)
  | .mulhu .. => .inl (execMulhu_keeps (hk0 := hk) ..)
  | .extu .. => .inl (execExtu_keeps (hk0 := hk) ..)
  | .ins .. => .inl (execIns_keeps (hk0 := hk) ..)
  | .clz .. => .inl (execClz_keeps (hk0 := hk) ..)
  | .addi .. => .inl (execAddi_keeps (hk0 := hk) ..)
  | .andi .. => .inl (execAndi_keeps (hk0 := hk) ..)
  | .ori .. => .inl (execOri_keeps (hk0 := hk) ..)
  | .xori .. => .inl (execXori_keeps (hk0 := hk) ..)
  | .slti .. => .inl (execSlti_keeps (hk0 := hk) ..)
  | .sltiu .. => .inl (execSltiu_keeps (hk0 := hk) ..)
  | .lui .. => .inl (execLui_keeps (hk0 := hk) ..)
  | .jalr .. => .inl (execJalr_keeps (hk0 := hk) ..)
  | .lb .. => .inl (execLb_keeps (hk0 := hk) ..)
  | .lbu .. => .inl (execLbu_keeps (hk0 := hk) ..)
  | .lh .. => .inl (execLh_keeps (hk0 := hk) ..)
  | .lhu .. => .inl (execLhu_keeps (hk0 := hk) ..)
  | .lw .. => .inl (execLw_keeps (hk0 := hk) ..)
  | .lwp .. => .inl (execLwp_keeps (hk0 := hk) ..)
  | .sb .. => .inl (execSb_keeps (hk0 := hk) ..)
  | .sh .. => .inl (execSh_keeps (hk0 := hk) ..)
  | .sw .. => .inl (execSw_keeps (hk0 := hk) ..)
  | .beq .. => .inl (execBeq_keeps (hk0 := hk) ..)
  | .bne .. => .inl (execBne_keeps (hk0 := hk) ..)
  | .blt .. => .inl (execBlt_keeps (hk0 := hk) ..)
  | .bge .. => .inl (execBge_keeps (hk0 := hk) ..)
  | .bltu .. => .inl (execBltu_keeps (hk0 := hk) ..)
  | .bgeu .. => .inl (execBgeu_keeps (hk0 := hk) ..)
  | .jal .. => .inl (execJal_keeps (hk0 := hk) ..)
  | .prd .. => .inl (execPrd_keeps (hk0 := hk) ..)
  | .pwr .. => .inl (execPwr_keeps (hk0 := hk) ..)
  | .pwrm .. => .inl (execPwrm_keeps (hk0 := hk) ..)
  | .psnd .. => .inl (execPsnd_keeps (hk0 := hk) ..)
  | .prcv .. => .inl (execPrcv_keeps (hk0 := hk) ..)
  | .take .. => .inl (execTake_keeps (hk0 := hk) ..)
  | .takeq .. => .inl (execTakeq_keeps (hk0 := hk) ..)
  | .give .. => .inl (execGive_keeps (hk0 := hk) ..)
  | .cancel .. => .inl (execCancel_keeps (hk0 := hk) ..)
  | .aadd .. => .inl (execAadd_keeps (hk0 := hk) ..)
  | .cas .. => .inl (execCas_keeps (hk0 := hk) ..)
  | .epost .. => .inl (execEpost_keeps (hk0 := hk) ..)
  | .qflush .. => .inl (execQflush_keeps (hk0 := hk) ..)
  | .qget .. => .inl (execQget_keeps (hk0 := hk) ..)
  | .qput .. => .inl (execQput_keeps (hk0 := hk) ..)
  | .rget .. => .inl (execRget_keeps (hk0 := hk) ..)
  | .rdone .. => .inl (execRdone_keeps (hk0 := hk) ..)
  | .wait .. => .inl (execWait_keeps (hk0 := hk) ..)
  | .etest .. => .inl (execEtest_keeps (hk0 := hk) ..)
  | .evs .. => .inl (execEvs_keeps (hk0 := hk) ..)
  | .evc .. => .inl (execEvc_keeps (hk0 := hk) ..)
  | .evr .. => .inl (execEvr_keeps (hk0 := hk) ..)
  | .evpr .. => .inl (execEvpr_keeps (hk0 := hk) ..)
  | .tset .. => .inl (execTset_keeps (hk0 := hk) ..)
  | .trd .. => .inl (execTrd_keeps (hk0 := hk) ..)
  | .trap .. => .inl (execTrap_keeps (hk0 := hk) ..)
  | .eret .. => .inl (execEret_keeps (hk0 := hk) ..)
  | .tid .. => .inl (execTid_keeps (hk0 := hk) ..)
  | .illegalEncoding .. => .inl (execIllegalEncoding_keeps (hk0 := hk) ..)
  | .imageLoaded .. => .inl (execImageLoaded_keeps (hk0 := hk) ..)
  | .confirm => .inl (execConfirm_keeps (hk0 := hk) ..)
  | .confirmTimeout => .inl (execConfirmTimeout_keeps (hk0 := hk) ..)
  | .fuseWrite .. => .inl (execFuseWrite_keeps (hk0 := hk) ..)
  | .updBegin .. => .inl (execUpdBegin_keeps (hk0 := hk) ..)
  | .erase .. => .inl (execErase_keeps (hk0 := hk) ..)
  | .program .. => .inl (execProgram_keeps (hk0 := hk) ..)
  | .verify .. => .inl (execVerify_keeps (hk0 := hk) ..)
  | .updEnd .. => .inl (execUpdEnd_keeps (hk0 := hk) ..)
  | .flashOpComplete => .inl (execFlashOpComplete_keeps (hk0 := hk) ..)
  | .updateTimeout => .inl (execUpdateTimeout_keeps (hk0 := hk) ..)
  | .kclAutoDetect .. => .inl (execKclAutoDetect_keeps (hk0 := hk) ..)
  | .kclTerminationDetect .. => .inl (execKclTerminationDetect_keeps (hk0 := hk) ..)
  | .kclPollLock .. => .inl (execKclPollLock_keeps (hk0 := hk) ..)
  | .kclConfigDone .. => .inl (execKclConfigDone_keeps (hk0 := hk) ..)
  | .kclTrainTimeout .. => .inl (execKclTrainTimeout_keeps (hk0 := hk) ..)
  | .kclTrainRetry .. => .inl (execKclTrainRetry_keeps (hk0 := hk) ..)
  | .dataFrame .. => .inl (execDataFrame_keeps (hk0 := hk) ..)
  | .proxyFrame .. => .inl (execProxyFrame_keeps (hk0 := hk) ..)
  | .isopfFrame .. => .inl (execIsopfFrame_keeps (hk0 := hk) ..)
  | .presReq .. => .inl (execPresReq_keeps (hk0 := hk) ..)
  | .presAck .. => .inl (execPresAck_keeps (hk0 := hk) ..)
  | .presNak .. => .inl (execPresNak_keeps (hk0 := hk) ..)
  | .presEnd .. => .inl (execPresEnd_keeps (hk0 := hk) ..)
  | .portSt .. => .inl (execPortSt_keeps (hk0 := hk) ..)
  | .portCmd .. => .inl (execPortCmd_keeps (hk0 := hk) ..)
  | .portRsp .. => .inl (execPortRsp_keeps (hk0 := hk) ..)
  | .treeEvt .. => .inl (execTreeEvt_keeps (hk0 := hk) ..)
  | .sofSync .. => .inl (execSofSync_keeps (hk0 := hk) ..)
  | .sofSyncSend => .inl (execSofSyncSend_keeps (hk0 := hk) ..)
  | .proxyHostToken .. => .inl (execProxyHostToken_keeps (hk0 := hk) ..)
  | .isoPrefetchPoll .. => .inl (execIsoPrefetchPoll_keeps (hk0 := hk) ..)
  | .proxyEntryTimeout .. => .inl (execProxyEntryTimeout_keeps (hk0 := hk) ..)
  | .regRd .. => .inl (execRegRd_keeps (hk0 := hk) ..)
  | .regWr .. => .inl (execRegWr_keeps (hk0 := hk) ..)
  | .regRsp .. => .inl (execRegRsp_keeps (hk0 := hk) ..)
  | .mbx .. => .inl (execMbx_keeps (hk0 := hk) ..)
  | .mbxRsp .. => .inl (execMbxRsp_keeps (hk0 := hk) ..)
  | .mbxRetry .. => .inl (execMbxRetry_keeps (hk0 := hk) ..)
  | .routeFrame .. => .inl (execRouteFrame_keeps (hk0 := hk) ..)
  | .rootFrame .. => .inl (execRootFrame_keeps (hk0 := hk) ..)
  | .idReq .. => .inl (execIdReq_keeps (hk0 := hk) ..)
  | .idGrant .. => .inl (execIdGrant_keeps (hk0 := hk) ..)
  | .idClaim .. => .inl (execIdClaim_keeps (hk0 := hk) ..)
  | .idRefuse .. => .inl (execIdRefuse_keeps (hk0 := hk) ..)
  | .routeLoss .. => .inl (execRouteLoss_keeps (hk0 := hk) ..)
  | .lack .. => .inl (execLack_keeps (hk0 := hk) ..)
  | .lnak .. => .inl (execLnak_keeps (hk0 := hk) ..)
  | .credit .. => .inl (execCredit_keeps (hk0 := hk) ..)
  | .keepalive u => .inl (execKeepalive_keeps u s hk)
  | .probe .. => .inl (execProbe_keeps (hk0 := hk) ..)
  | .probeEcho .. => .inl (execProbeEcho_keeps (hk0 := hk) ..)
  | .frameError .. => .inl (execFrameError_keeps (hk0 := hk) ..)
  | .lackTimer .. => .inl (execLackTimer_keeps (hk0 := hk) ..)
  | .creditTimer .. => .inl (execCreditTimer_keeps (hk0 := hk) ..)
  | .keepaliveTimer .. => .inl (execKeepaliveTimer_keeps (hk0 := hk) ..)
  | .kclLinkLoss .. => .inl (execKclLinkLoss_keeps (hk0 := hk) ..)
  | .routeFloodTimer => .inl (execRouteFloodTimer_keeps (hk0 := hk) ..)
  | .routeEntryExpiry .. => .inl (execRouteEntryExpiry_keeps (hk0 := hk) ..)
  | .rootAnnounceTimer => .inl (execRootAnnounceTimer_keeps (hk0 := hk) ..)
  | .rootLost => .inl (execRootLost_keeps (hk0 := hk) ..)
  | .idClaimTimer => .inl (execIdClaimTimer_keeps (hk0 := hk) ..)
  | .idFreeTimeout .. => .inl (execIdFreeTimeout_keeps (hk0 := hk) ..)
  | .idReqRetry => .inl (execIdReqRetry_keeps (hk0 := hk) ..)
  | .probeTimer .. => .inl (execProbeTimer_keeps (hk0 := hk) ..)
  | .presNoAnswer .. => .inl (execPresNoAnswer_keeps (hk0 := hk) ..)
  | .presReqRetry .. => .inl (execPresReqRetry_keeps (hk0 := hk) ..)
  | .portopTimeout .. => .inl (execPortopTimeout_keeps (hk0 := hk) ..)
  | .mgmtSend .. => .inl (execMgmtSend_keeps (hk0 := hk) ..)
  | .mgmtRequestTimeout .. => .inl (execMgmtRequestTimeout_keeps (hk0 := hk) ..)
  | .supplyFall .. => .inl (execSupplyFall_keeps (hk0 := hk) ..)
  | .supplyRise .. => .inl (execSupplyRise_keeps (hk0 := hk) ..)
  | .resetNLow => .inl (execResetNLow_keeps (hk0 := hk) ..)
  | .resetNHigh => .inl (execResetNHigh_keeps (hk0 := hk) ..)
  | .holdEnd => .inl (execHoldEnd_keeps (hk0 := hk) ..)
  | .pllLock => .inl (execPllLock_keeps (hk0 := hk) ..)
  | .pllLockTimeout => .inl (execPllLockTimeout_keeps (hk0 := hk) ..)
  | .riseEntry .. => .inl (execRiseEntry_keeps (hk0 := hk) ..)
  | .unitReady .. => .inl (execUnitReady_keeps (hk0 := hk) ..)
  | .calibrationFail .. => .inl (execCalibrationFail_keeps (hk0 := hk) ..)
  | .readinessTimeout .. => .inl (execReadinessTimeout_keeps (hk0 := hk) ..)
  | .modeSafe => .inl (execModeSafe_keeps (hk0 := hk) ..)
  | .release => .inl (execRelease_keeps (hk0 := hk) ..)
  | .selftest => .inl (execSelftest_keeps (hk0 := hk) ..)
  | .selftestEnd .. => .inl (execSelftestEnd_keeps (hk0 := hk) ..)
  | .modeReset => .inl (execModeReset_keeps (hk0 := hk) ..)
  | .wake => .inl (execWake_keeps (hk0 := hk) ..)
  | .registerWrite .. => .inl (execRegisterWrite_keeps (hk0 := hk) ..)
  | .guardWrite .. => .inl (execGuardWrite_keeps (hk0 := hk) ..)
  | .guardExpiry .. => .inl (execGuardExpiry_keeps (hk0 := hk) ..)
  | .pairLoRead .. => .inl (execPairLoRead_keeps (hk0 := hk) ..)
  | .syncAliasRead .. => .inl (execSyncAliasRead_keeps (hk0 := hk) ..)
  | .unmappedAccess .. => .inl (execUnmappedAccess_keeps (hk0 := hk) ..)
  | .accessError .. => .inl (execAccessError_keeps (hk0 := hk) ..)
  | .configScrub .. => .inl (execConfigScrub_keeps (hk0 := hk) ..)
  | .protSelWrite .. => .inl (execProtSelWrite_keeps (hk0 := hk) ..)
  | .clearOne .. => .inl (execClearOne_keeps (hk0 := hk) ..)
  | .clearPrefix .. => .inl (execClearPrefix_keeps (hk0 := hk) ..)
  | .clearAll .. => .inl (execClearAll_keeps (hk0 := hk) ..)
  | .logRecordWrite => .inl (execLogRecordWrite_keeps (hk0 := hk) ..)
  | .faultOnset .. => .inl (execFaultOnset_keeps (hk0 := hk) ..)
  | .faultHoldExpiry .. => .inl (execFaultHoldExpiry_keeps (hk0 := hk) ..)
  | .reactionClassWrite .. => .inl (execReactionClassWrite_keeps (hk0 := hk) ..)
  | .restart => .inl (execRestart_keeps (hk0 := hk) ..)
  | .ventAutoRestart => .inl (execVentAutoRestart_keeps (hk0 := hk) ..)
  | .kick => .inl (execKick_keeps (hk0 := hk) ..)
  | .watchdogExpiry => .inl (execWatchdogExpiry_keeps (hk0 := hk) ..)
  | .converterCheck .. => .inl (execConverterCheck_keeps (hk0 := hk) ..)
  | .softwareSourceWrite .. => .inl (execSoftwareSourceWrite_keeps (hk0 := hk) ..)
  | .arm .. => .inl (execArm_keeps (hk0 := hk) ..)
  | .disarm => .inl (execDisarm_keeps (hk0 := hk) ..)
  | .injectionExpiry => .inl (execInjectionExpiry_keeps (hk0 := hk) ..)
  | .atbRouteWrite .. => .inl (execAtbRouteWrite_keeps (hk0 := hk) ..)
  | .atbSettled => .inl (execAtbSettled_keeps (hk0 := hk) ..)
  | .consoleLine .. => .inl (execConsoleLine_keeps (hk0 := hk) ..)
  | .ctrlC => .inl (execCtrlC_keeps (hk0 := hk) ..)
  | .consoleLinePassed .. => .inl (execConsoleLinePassed_keeps (hk0 := hk) ..)
  | .consolePassTimeout => .inl (execConsolePassTimeout_keeps (hk0 := hk) ..)
  | .sessionIdleTimeout => .inl (execSessionIdleTimeout_keeps (hk0 := hk) ..)
  | .pinLockoutEnd => .inl (execPinLockoutEnd_keeps (hk0 := hk) ..)
  | .conHello .. => .inl (execConHello_keeps (hk0 := hk) ..)
  | .conBye => .inl (execConBye_keeps (hk0 := hk) ..)
  | .conHelp => .inl (execConHelp_keeps (hk0 := hk) ..)
  | .conService .. => .inl (execConService_keeps (hk0 := hk) ..)
  | .conView => .inl (execConView_keeps (hk0 := hk) ..)
  | .conBaud .. => .inl (execConBaud_keeps (hk0 := hk) ..)
  | .conEchoOn => .inl (execConEchoOn_keeps (hk0 := hk) ..)
  | .conEchoOff => .inl (execConEchoOff_keeps (hk0 := hk) ..)
  | .conCap => .inl (execConCap_keeps (hk0 := hk) ..)
  | .conMode => .inl (execConMode_keeps (hk0 := hk) ..)
  | .conReady => .inl (execConReady_keeps (hk0 := hk) ..)
  | .conRst => .inl (execConRst_keeps (hk0 := hk) ..)
  | .conSafe => .inl (execConSafe_keeps (hk0 := hk) ..)
  | .conBoot => .inl (execConBoot_keeps (hk0 := hk) ..)
  | .conUpdateStatus => .inl (execConUpdateStatus_keeps (hk0 := hk) ..)
  | .conMap => .inl (execConMap_keeps (hk0 := hk) ..)
  | .conPort .. => .inl (execConPort_keeps (hk0 := hk) ..)
  | .conTc .. => .inl (execConTc_keeps (hk0 := hk) ..)
  | .conMoist .. => .inl (execConMoist_keeps (hk0 := hk) ..)
  | .conLp => .inl (execConLp_keeps (hk0 := hk) ..)
  | .conLpU .. => .inl (execConLpU_keeps (hk0 := hk) ..)
  | .conLpN .. => .inl (execConLpN_keeps (hk0 := hk) ..)
  | .conPp .. => .inl (execConPp_keeps (hk0 := hk) ..)
  | .conPd .. => .inl (execConPd_keeps (hk0 := hk) ..)
  | .conPdLog .. => .inl (execConPdLog_keeps (hk0 := hk) ..)
  | .conSb => .inl (execConSb_keeps (hk0 := hk) ..)
  | .conBsn => .inl (execConBsn_keeps (hk0 := hk) ..)
  | .conBsnG .. => .inl (execConBsnG_keeps (hk0 := hk) ..)
  | .conTemp => .inl (execConTemp_keeps (hk0 := hk) ..)
  | .conCaldera => .inl (execConCaldera_keeps (hk0 := hk) ..)
  | .conEpt => .inl (execConEpt_keeps (hk0 := hk) ..)
  | .conEptN .. => .inl (execConEptN_keeps (hk0 := hk) ..)
  | .conPol .. => .inl (execConPol_keeps (hk0 := hk) ..)
  | .conShp .. => .inl (execConShp_keeps (hk0 := hk) ..)
  | .conSched .. => .inl (execConSched_keeps (hk0 := hk) ..)
  | .conKcl => .inl (execConKcl_keeps (hk0 := hk) ..)
  | .conKclRoute .. => .inl (execConKclRoute_keeps (hk0 := hk) ..)
  | .conKclPres .. => .inl (execConKclPres_keeps (hk0 := hk) ..)
  | .conTk => .inl (execConTk_keeps (hk0 := hk) ..)
  | .conTkT .. => .inl (execConTkT_keeps (hk0 := hk) ..)
  | .conFault => .inl (execConFault_keeps (hk0 := hk) ..)
  | .conProt => .inl (execConProt_keeps (hk0 := hk) ..)
  | .conLog => .inl (execConLog_keeps (hk0 := hk) ..)
  | .conLogPlume => .inl (execConLogPlume_keeps (hk0 := hk) ..)
  | .conAtb => .inl (execConAtb_keeps (hk0 := hk) ..)
  | .conRd .. => .inl (execConRd_keeps (hk0 := hk) ..)
  | .conHold .. => .inl (execConHold_keeps (hk0 := hk) ..)
  | .conHoldAll => .inl (execConHoldAll_keeps (hk0 := hk) ..)
  | .conFree .. => .inl (execConFree_keeps (hk0 := hk) ..)
  | .conFreeAll => .inl (execConFreeAll_keeps (hk0 := hk) ..)
  | .conPpOn .. => .inl (execConPpOn_keeps (hk0 := hk) ..)
  | .conPpOff .. => .inl (execConPpOff_keeps (hk0 := hk) ..)
  | .conPpRelease .. => .inl (execConPpRelease_keeps (hk0 := hk) ..)
  | .conPpClear .. => .inl (execConPpClear_keeps (hk0 := hk) ..)
  | .conSteamRelease .. => .inl (execConSteamRelease_keeps (hk0 := hk) ..)
  | .conTcRecheck .. => .inl (execConTcRecheck_keeps (hk0 := hk) ..)
  | .conPdCaps .. => .inl (execConPdCaps_keeps (hk0 := hk) ..)
  | .conPdEprExit .. => .inl (execConPdEprExit_keeps (hk0 := hk) ..)
  | .conPdHardreset .. => .inl (execConPdHardreset_keeps (hk0 := hk) ..)
  | .conSbC .. => .inl (execConSbC_keeps (hk0 := hk) ..)
  | .conSbOff => .inl (execConSbOff_keeps (hk0 := hk) ..)
  | .conWr .. => .inl (execConWr_keeps (hk0 := hk) ..)
  | .conAtbRoute .. => .inl (execConAtbRoute_keeps (hk0 := hk) ..)
  | .conAtbOff => .inl (execConAtbOff_keeps (hk0 := hk) ..)
  | .conTest .. => .inl (execConTest_keeps (hk0 := hk) ..)
  | .conCntClearOne .. => .inl (execConCntClearOne_keeps (hk0 := hk) ..)
  | .conCntClearPrefix .. => .inl (execConCntClearPrefix_keeps (hk0 := hk) ..)
  | .conCntClearAll => .inl (execConCntClearAll_keeps (hk0 := hk) ..)
  | .conFaultInj .. => .inl (execConFaultInj_keeps (hk0 := hk) ..)
  | .conFaultDisarm => .inl (execConFaultDisarm_keeps (hk0 := hk) ..)
  | .conFaultRestart => .inl (execConFaultRestart_keeps (hk0 := hk) ..)
  | .conUpdate => .inl (execConUpdate_keeps (hk0 := hk) ..)
  | .conUpdateErase .. => .inl (execConUpdateErase_keeps (hk0 := hk) ..)
  | .conUpdatePage .. => .inl (execConUpdatePage_keeps (hk0 := hk) ..)
  | .conUpdateVerify .. => .inl (execConUpdateVerify_keeps (hk0 := hk) ..)
  | .conUpdateEnd => .inl (execConUpdateEnd_keeps (hk0 := hk) ..)
  | .conSelftest => .inl (execConSelftest_keeps (hk0 := hk) ..)
  | .conReset => .inl (execConReset_keeps (hk0 := hk) ..)
  | .conSafeEnter => .inl (execConSafeEnter_keeps (hk0 := hk) ..)
  | .conSafeRelease => .inl (execConSafeRelease_keeps (hk0 := hk) ..)
  | .conWake => .inl (execConWake_keeps (hk0 := hk) ..)
  | .extest .. => .inr ⟨rfl, _, rfl⟩
  | .samplePreload .. => .inr ⟨rfl, _, rfl⟩
  | .bypass => .inr ⟨rfl, _, rfl⟩
  | .testLogicReset => .inr ⟨rfl, _, rfl⟩
  | .upstreamHostDetach .. => .inl (execUpstreamHostDetach_keeps (hk0 := hk) ..)
  | .upstreamUxExit .. => .inl (execUpstreamUxExit_keeps (hk0 := hk) ..)
  | .slowTripSample .. => .inl (execSlowTripSample_keeps (hk0 := hk) ..)

/-- A part's variant is fixed in silicon (R2). -/
theorem exec_variant {c : Instr} {s t : State} (h : exec c s = .next t) : t.variant = s.variant := by
  rcases exec_keeps_or_testPort c s with ⟨t', ht', hk⟩ | ⟨-, f, hf⟩
  · obtain rfl : t = t' := Host.Outcome.next.inj (h.symm.trans ht')
    exact hk.variant
  · obtain rfl : t = s.modJtag f := Host.Outcome.next.inj (h.symm.trans hf)
    rfl

end Machine

end Sys2Proof
end

section
/-!
SUPPORT. The capability registers (R4, R5): they hold no stored field, and what they read is a function of the variant.
-/

namespace Sys2Proof.Machine

namespace State

/-- The catalogue's row of P_CAP, at each of its addresses. -/
theorem regAt_pCap {n : Nat} (hn : n < 96) : regAt (R.P_CAP n) = some (⟨"P_CAP", 0x100000, 0x400, 96, 1, 0, []⟩, n) := by
  have hi : (⟨"P_CAP", 0x100000, 0x400, 96, 1, 0, []⟩ : RegRow).index (R.P_CAP n) = some n := by
    simp [RegRow.index, hn]
  have h0 : (⟨"G_CAP_UNITS", 0x0, 0x0, 1, 0, 0, []⟩ : RegRow).index (R.P_CAP n) = none := by
    simp [RegRow.index]
  simp only [regAt, regRows, regRows0, List.cons_append, findRow, h0, hi]

/-- G_CAP_UNITS shows the units of the variant to every master (R4). -/
theorem valueAt_capUnits (s : State) (priv : Bool) : s.valueAt R.G_CAP_UNITS priv = capUnits s.variant := rfl

/-- P_CAP[n] shows the same to every master (R5). -/
theorem valueAt_pCap (s : State) {n : Nat} (hn : n < 96) (priv : Bool) : s.valueAt (R.P_CAP n) priv = s.pCap n := by
  rw [valueAt, regAt_pCap hn]
  rfl

/-- A present downstream port has all of R5's capabilities but SuperSpeed, which the variant decides; an absent one has none. -/
theorem pCap_eq (s : State) {n : Nat} (hn : n < 96) :
    s.pCap n = if n < dsPorts s.variant then (if hasSs s.variant then 0xFF else 0xFB) else 0 := by
  simp only [pCap, kHere, dsHere, hn, if_true]
  by_cases h : n < dsPorts s.variant <;> simp [h]

/-- P_CAP depends on the variant alone. -/
theorem pCap_congr {s t : State} (h : t.variant = s.variant) {n : Nat} (hn : n < 96) : t.pCap n = s.pCap n := by
  rw [pCap_eq t hn, pCap_eq s hn, h]

end State

/-- Settles O9: what the capability registers read is a function of the variant, and every command keeps the variant. -/
theorem capabilityRegisters : Obligations.CapabilityRegisters := by
  unfold Obligations.CapabilityRegisters
  refine ⟨fun s h => ?_, fun s h => ?_, fun s h => ?_, fun s n hn => ?_, fun c s t hc p => ⟨?_, fun n hn => ?_⟩⟩
  · rw [State.valueAt_capUnits, h]; rfl
  · rw [State.valueAt_capUnits, h]; rfl
  · rw [State.valueAt_capUnits, h]; rfl
  · rw [State.valueAt_pCap s hn, State.pCap_eq s hn]
    cases s.variant <;> simp [dsPorts, hasSs, hn]
  · rw [State.valueAt_capUnits, State.valueAt_capUnits, exec_variant hc]
  · rw [State.valueAt_pCap t hn, State.valueAt_pCap s hn, State.pCap_congr (exec_variant hc) hn]

end Sys2Proof.Machine
end

section
/-!
SUPPORT. Accesses to a register of an absent unit or port (R6).
-/

namespace Sys2Proof.Machine

namespace State

variable {s : State} {a : Nat} {r : RegRow} {i : Nat}

/-- A read of such a register answers 0 and has no other effect. -/
theorem read32_absent (m : Master) (hr : regAt (regOf a) = some (r, i)) (ha : a % 4 = 0) (hg : isGuard a = false)
    (hc : s.pins.clockAbsent = false) (habs : s.absent (regOf a) = true) : s.read32 m a = s.answerData 0 := by
  simp [read32, readReg, ha, hg, hr, hc, habs]

/-- A write to such a register is counted, completes, and has no other effect. -/
theorem write32_absent (m : Master) (v : Nat) (hr : regAt (regOf a) = some (r, i)) (ha : a % 4 = 0) (hg : isGuard a = false)
    (hc : s.pins.clockAbsent = false) (habs : s.absent (regOf a) = true) :
    s.write32 m a v = (s.inc R.G_ABSENT_WR_CNT).answer .ok := by
  simp [write32, writeReg, ha, hg, hr, hc, habs]

end State

/-- Settles O10: a read of an absent unit's register is `answerData 0`, a write is one count of G_ABSENT_WR_CNT and an OK. -/
theorem absentUnits : Obligations.AbsentUnits := by
  unfold Obligations.AbsentUnits
  refine ⟨fun s m a r i hr ha hg hc habs => ?_, fun s m a v r i hr ha hg hc habs => ?_⟩
  · rw [State.read32_absent m hr ha hg hc habs]
    exact ⟨rfl, rfl, rfl, rfl⟩
  · rw [State.write32_absent m v hr ha hg hc habs]
    refine ⟨rfl, rfl, s.cnt_inc_same _, fun b hb => ?_⟩
    exact s.cnt_inc_other _ b (by simpa using hb)

end Sys2Proof.Machine
end

section
/-!
SUPPORT. The interrupt line (R568): what a report below class STOP leaves and asserts, and what a write of FC_SW makes of one source.
-/

namespace Sys2Proof.Machine

namespace State

variable (s : State)

/-! ### The line -/

/-- The mode alone says whether the part is alive. -/
theorem alive_congr {s t : State} (h : t.mode = s.mode) : t.alive = s.alive := by
  unfold alive; rw [h]

/-- The line is low exactly while a source of class NOTIFY or above is asserted in a part that is alive. -/
theorem irqLow_iff : s.irqLow = true ↔ s.alive = true ∧ ∃ i < 64, s.fltOn i = true ∧ 1 ≤ s.fltClass i := by
  simp only [irqLow, Bool.and_eq_true, List.any_eq_true, List.mem_range, decide_eq_true_eq]

/-- Everything is held in reset in OFF and HOLD (R441, R452). -/
theorem alive_eq_false {s : State} (h : s.mode = .off ∨ s.mode = .hold) : s.alive = false := by
  unfold alive; rcases h with h | h <;> rw [h]

/-! ### Reports: the collector's record and event leave the mode and the levels -/

@[simp] theorem logRec_mode (kind code arg0 arg1 : Nat) : (s.logRec kind code arg0 arg1).mode = s.mode := by
  unfold logRec; split <;> rfl

@[simp] theorem logRec_flt (kind code arg0 arg1 : Nat) : (s.logRec kind code arg0 arg1).flt = s.flt := by
  unfold logRec; split <;> rfl

@[simp] theorem post_mode (t e : Nat) : (s.post t e).mode = s.mode := by
  unfold post; simp only [apply_ite State.mode, inc_mode, modThread_mode, ite_self]

@[simp] theorem post_flt (t e : Nat) : (s.post t e).flt = s.flt := by
  unfold post; simp only [apply_ite State.flt, inc_flt, modThread_flt, ite_self]

@[simp] theorem postRouted_mode (e : Nat) : (s.postRouted e).mode = s.mode := by
  unfold postRouted; split <;> simp

@[simp] theorem postRouted_flt (e : Nat) : (s.postRouted e).flt = s.flt := by
  unfold postRouted; split <;> simp

@[simp] theorem fltAssert_mode (i inst : Nat) : (s.fltAssert i inst).mode = s.mode := by
  unfold fltAssert; split <;> rfl

@[simp] theorem fltFall_mode (i inst : Nat) : (s.fltFall i inst).mode = s.mode := by
  unfold fltFall; simp only [apply_ite State.mode, modFlt_mode, ite_self]

/-! ### Levels and classes -/

/-- FC_REACT alone says what class is in use (R516). -/
theorem fltClass_congr {s t : State} {i : Nat} (h : t.get (FC_REACT.CLASS (i / 16)) = s.get (FC_REACT.CLASS (i / 16))) :
    t.fltClass i = s.fltClass i := by
  simp only [fltClass, h]

/-- A field that is no word of FC_REACT decides no class. -/
theorem set_fltClass {i : Nat} {f : Fld} (v : Nat) (h : (FC_REACT.CLASS (i / 16)).key ≠ f.key) :
    (s.set f v).fltClass i = s.fltClass i :=
  fltClass_congr (get_set_other _ _ _ _ h)

@[simp] theorem inc_fltOn (a i : Nat) : (s.inc a).fltOn i = s.fltOn i := rfl

@[simp] theorem logRec_fltOn (kind code arg0 arg1 i : Nat) : (s.logRec kind code arg0 arg1).fltOn i = s.fltOn i := by
  simp only [fltOn, logRec_flt]

@[simp] theorem postRouted_fltOn (e i : Nat) : (s.postRouted e).fltOn i = s.fltOn i := by
  simp only [fltOn, postRouted_flt]

@[simp] theorem modFlt_heldBack_fltOn (h : Faults → List Nat) (i : Nat) :
    (s.modFlt fun f => { f with heldBack := h f }).fltOn i = s.fltOn i := rfl

@[simp] theorem fltAssert_fltOn (i inst : Nat) : (s.fltAssert i inst).fltOn i = true := by
  unfold fltAssert fltOn
  split
  · by_cases h : i ∈ s.flt.events <;> simp [h]
  · by_cases h : (i, inst) ∈ s.flt.levels
    · simpa [h] using Or.inl ⟨inst, h⟩
    · simp [h]

/-- The fall of one source leaves every other asserted. -/
theorem fltFall_fltOn {i k : Nat} (inst : Nat) (hk : k ≠ i) (h : s.fltOn k = true) : (s.fltFall i inst).fltOn k = true := by
  have hl : (s.fltFall i inst).flt.levels = s.flt.levels.filter (fun l => !(l == (i, inst))) := by
    unfold fltFall; simp [apply_ite State.flt, apply_ite Faults.levels]
  have he : (s.fltFall i inst).flt.events = s.flt.events := by
    unfold fltFall; simp [apply_ite State.flt, apply_ite Faults.events]
  simp only [fltOn, hl, he, Bool.or_eq_true, List.any_eq_true, beq_iff_eq, List.mem_filter] at h ⊢
  refine h.imp_left fun ⟨l, hmem, hfst⟩ => ⟨l, ⟨hmem, ?_⟩, hfst⟩
  have : l ≠ (i, inst) := fun e => hk (by rw [← hfst, e])
  simpa using this

/-! ### An onset below class STOP (R515): counted, recorded, perhaps posted, and nothing stopped -/

/-- Below class STOP an onset changes neither the mode nor any field but the injection's state, and the source is asserted. -/
theorem faultOnset_below_stop {s : State} {i : Nat} (hc : s.fltClass i < 2) (inst detail : Nat) :
    (s.faultOnset i inst detail).mode = s.mode ∧ (s.faultOnset i inst detail).fltOn i = true ∧
      ∀ f : Fld, f.key ≠ FC_INJ_ST.STATE.key → (s.faultOnset i inst detail).get f = s.get f := by
  have h2 : ¬ 2 ≤ s.fltClass i := by omega
  have h3 : ¬ 3 ≤ s.fltClass i := by omega
  unfold faultOnset
  split
  · next hon =>
    have hmem : (i, inst) ∈ s.flt.levels := by simpa using hon.2
    refine ⟨rfl, ?_, fun _ _ => rfl⟩
    simp only [fltOn, Bool.or_eq_true, List.any_eq_true, beq_iff_eq]
    exact .inl ⟨_, hmem, rfl⟩
  · simp only [h2, h3, decide_false, Bool.false_and, Bool.false_eq_true, if_false]
    refine ⟨by simp [apply_ite State.mode], ?_, fun f hf => ?_⟩
    · simp [apply_ite (fun t : State => t.fltOn i)]
    · simp [apply_ite (fun t : State => t.get f), get_set_other _ _ _ _ hf]

/-! ### A write of FC_SW (R513) -/

/-- What FC_SW's bit j makes of F(56 + j). -/
def swBit (v : Nat) (s : State) (j : Nat) : State :=
  if v.testBit j then s.faultOnset (56 + j) 0 0 else s.fltFall (56 + j) 0

theorem wrSw_eq_foldl (v : Nat) : s.wrSw v = (List.range 8).foldl (swBit v) (s.set FC_SW.SET v) := rfl

theorem swBit_two_pow_same (j : Nat) : swBit (2 ^ j) s j = s.faultOnset (56 + j) 0 0 := by
  simp [swBit]

theorem swBit_two_pow_other {j k : Nat} (h : k ≠ j) : swBit (2 ^ j) s k = s.fltFall (56 + k) 0 := by
  simp [swBit, h.symm]

/-- Software source j, of class NOTIFY in a part that is alive, pulls the line low once it is asserted. -/
def SwNotify (s : State) (j : Nat) : Prop := s.alive = true ∧ s.fltClass (56 + j) = 1

/-- The four words of FC_REACT lie below FC_CFG and every register after it. -/
theorem react_key_ne {i : Nat} {f : Fld} (hi : i < 64) (hf : R.FC_CFG ≤ f.addr) :
    (FC_REACT.CLASS (i / 16)).key ≠ f.key := by
  have : i / 16 < 4 := by omega
  dsimp only [Fld.key, R.FC_CFG] at *
  omega

theorem SwNotify.set_sw {s : State} {j : Nat} (h : s.SwNotify j) (hj : j < 8) (v : Nat) : (s.set FC_SW.SET v).SwNotify j :=
  ⟨h.1, (set_fltClass s v (react_key_ne (by omega) (by decide))).trans h.2⟩

theorem SwNotify.swBit_two_pow {s : State} {j : Nat} (h : s.SwNotify j) (hj : j < 8) (k : Nat) : (swBit (2 ^ j) s k).SwNotify j := by
  obtain ⟨ha, hc⟩ := h
  by_cases hk : k = j
  · subst hk
    obtain ⟨hmode, -, hget⟩ := faultOnset_below_stop (by omega : s.fltClass (56 + k) < 2) 0 0
    rw [swBit_two_pow_same]
    exact ⟨(alive_congr hmode).trans ha, (fltClass_congr (hget _ (react_key_ne (by omega) (by decide)))).trans hc⟩
  · rw [swBit_two_pow_other s hk]
    exact ⟨(alive_congr (fltFall_mode ..)).trans ha, (fltClass_congr (fltFall_get ..)).trans hc⟩

/-- Bit j asserts source j, and every other bit leaves it asserted. -/
theorem swBit_fltOn {s : State} {j k : Nat} (h : s.SwNotify j) (hon : s.fltOn (56 + j) = true ∨ k = j) :
    (swBit (2 ^ j) s k).fltOn (56 + j) = true := by
  obtain ⟨-, hc⟩ := h
  by_cases hk : k = j
  · subst hk
    rw [swBit_two_pow_same]
    obtain ⟨-, hnew, -⟩ := faultOnset_below_stop (by omega : s.fltClass (56 + k) < 2) 0 0
    exact hnew
  · rw [swBit_two_pow_other s hk]
    exact fltFall_fltOn s 0 (by omega) (hon.resolve_right hk)

/-- Over any bits: source j stays of class NOTIFY, and is asserted at the end if it was before or its bit is among them. -/
theorem foldl_swBit {j : Nat} (hj : j < 8) (l : List Nat) :
    ∀ s : State, s.SwNotify j → s.fltOn (56 + j) = true ∨ j ∈ l →
      (l.foldl (swBit (2 ^ j)) s).SwNotify j ∧ (l.foldl (swBit (2 ^ j)) s).fltOn (56 + j) = true := by
  induction l with
  | nil => exact fun s h hon => ⟨h, hon.resolve_right List.not_mem_nil⟩
  | cons k ks ih =>
    intro s h hon
    have hsplit : (s.fltOn (56 + j) = true ∨ k = j) ∨ j ∈ ks :=
      or_assoc.mpr (hon.imp_right fun hmem => (List.mem_cons.mp hmem).imp_left Eq.symm)
    exact ih _ (h.swBit_two_pow hj k) (hsplit.imp_left (swBit_fltOn h))

/-- A program drives the line through FC_SW (R568). -/
theorem wrSw_two_pow_irqLow {s : State} {j : Nat} (h : s.SwNotify j) (hj : j < 8) : (s.wrSw (2 ^ j)).irqLow = true := by
  rw [wrSw_eq_foldl]
  obtain ⟨⟨ha, hc⟩, hon⟩ := foldl_swBit hj (List.range 8) _ (h.set_sw hj (2 ^ j)) (.inr (List.mem_range.mpr hj))
  exact (irqLow_iff _).mpr ⟨ha, 56 + j, by omega, hon, Nat.le_of_eq hc.symm⟩

end State

/-- Settles O14: the line follows `irqLow_iff`, OFF and HOLD are not alive, and bit j of FC_SW asserts F(56 + j) below class STOP. -/
theorem interruptLine : Obligations.InterruptLine := by
  unfold Obligations.InterruptLine
  refine ⟨fun s ha => ?_, fun s hm => ?_, fun s j ha hj hc => State.wrSw_two_pow_irqLow ⟨ha, hc⟩ hj⟩
  · rw [State.irqLow_iff, ha]
    exact and_iff_right rfl
  · rw [State.irqLow, State.alive_eq_false hm, Bool.false_and]

end Sys2Proof.Machine
end

section
/-!
SUPPORT. Steps: what a command does in a part that is alive and in one that is held, and the invariant over a step.
-/

namespace Sys2Proof.Machine

/-- A command whose meaning acts while the part is alive ends in what its effect makes of the state. -/
theorem ends_act {c : Instr} {s : State} {f : State → State} {Q : State → Prop} {r : Res State} (hr : r = act s f)
    (he : exec c s = r) (ha : s.alive = true) (hq : Q (f s)) : Ends c s Q := by
  refine ⟨f s, ?_, hq⟩
  rw [he, hr, act, if_pos ha]

/-- In OFF and HOLD no effect takes place (R441, R452). -/
theorem act_dead {s : State} {f : State → State} (h : s.alive = false) : act s f = .next s := by
  simp [act, h]

/-- The commands that act in OFF and HOLD too: supplies, RESET_N, the end of HOLD and the JTAG port. -/
def ActsWhenHeld (c : Instr) : Prop :=
  (∃ i, c = .supplyFall i) ∨ (∃ i, c = .supplyRise i) ∨ c = .resetNLow ∨ c = .resetNHigh ∨ c = .holdEnd ∨
    (∃ cells pre, c = .samplePreload cells pre) ∨ (∃ pre, c = .extest pre) ∨ c = .bypass ∨ c = .testLogicReset

/-- Every other command's meaning is an `act`. -/
theorem exec_dead (c : Instr) {s : State} (h : s.alive = false) : exec c s = .next s ∨ ActsWhenHeld c := by
  delta exec
  cases c
  case supplyFall i => exact .inr (.inl ⟨i, rfl⟩)
  case supplyRise i => exact .inr (.inr (.inl ⟨i, rfl⟩))
  case resetNLow => exact .inr (by simp [ActsWhenHeld])
  case resetNHigh => exact .inr (by simp [ActsWhenHeld])
  case holdEnd => exact .inr (by simp [ActsWhenHeld])
  case samplePreload => exact .inr (by simp [ActsWhenHeld])
  case extest => exact .inr (by simp [ActsWhenHeld])
  case bypass => exact .inr (by simp [ActsWhenHeld])
  case testLogicReset => exact .inr (by simp [ActsWhenHeld])
  all_goals
    dsimp only
    exact .inl (act_dead h)

theorem ofTestPort_iff (c : Instr) : c.ofTestPort = true ↔
    (∃ cells pre, c = .samplePreload cells pre) ∨ (∃ pre, c = .extest pre) ∨ c = .bypass ∨ c = .testLogicReset := by
  constructor
  · intro h
    unfold Instr.ofTestPort at h
    split at h <;> simp_all
  · rintro (⟨_, _, rfl⟩ | ⟨_, rfl⟩ | rfl | rfl) <;> rfl

theorem State.Inv.modJtag {s : State} (h : s.Inv) (f : Jtag → Jtag) : (s.modJtag f).Inv := by
  cases h; constructor <;> assumption

theorem State.Inv.setPending {s : State} (h : s.Inv) (l : List Instr) : ({ s with pending := l } : State).Inv := by
  cases h; constructor <;> assumption

theorem exec_inv {c : Instr} {s t : State} (hs : s.Inv) (h : exec c s = .next t) : t.Inv := by
  rcases exec_keeps_or_testPort c s with ⟨t', ht', hk⟩ | ⟨-, f, hf⟩
  · obtain rfl : t = t' := Host.Outcome.next.inj (h.symm.trans ht')
    exact hk.inv hs
  · obtain rfl : t = s.modJtag f := Host.Outcome.next.inj (h.symm.trans hf)
    exact hs.modJtag f

/-- Every command completes, and neither takes from the queue nor adds to it. -/
theorem exec_completes (c : Instr) (s : State) : ∃ t, exec c s = .next t ∧ t.pending = s.pending ∧ t.variant = s.variant := by
  rcases exec_keeps_or_testPort c s with ⟨t, ht, hk⟩ | ⟨-, f, hf⟩
  · exact ⟨t, ht, hk.pending, hk.variant⟩
  · exact ⟨_, hf, rfl, rfl⟩

theorem step_nil {s : State} (h : s.pending = []) : step s = .next s := by
  rw [step, h]

theorem step_cons {s : State} {c : Instr} {rest : List Instr} (h : s.pending = c :: rest) :
    step s = exec c { s with pending := rest } := by
  rw [step, h]

/-- Settles O1: `step` matches on the queue. -/
theorem frontCommandRuns : Obligations.FrontCommandRuns :=
  fun _ _ _ h => step_cons h

/-- Settles O2: `step` matches on the queue. -/
theorem emptyQueueIdles : Obligations.EmptyQueueIdles :=
  fun _ h => step_nil h

/-- Settles O3: every command completes and keeps queue and variant (`exec_completes`). -/
theorem stepTakesFront : Obligations.StepTakesFront := by
  intro s
  cases hp : s.pending with
  | nil => exact ⟨s, step_nil hp, hp, rfl⟩
  | cons c rest =>
    obtain ⟨t, ht, hq, hv⟩ := exec_completes c { s with pending := rest }
    exact ⟨t, (step_cons hp).trans ht, hq, hv⟩

/-- Settles O4: an idle step changes nothing, and every command keeps `State.Inv` (`exec_inv`). -/
theorem stepKeepsInvariant : Obligations.StepKeepsInvariant := by
  intro s t hs h
  cases hp : s.pending with
  | nil => exact Host.Outcome.next.inj ((step_nil hp).symm.trans h) ▸ hs
  | cons c rest => exact exec_inv (hs.setPending rest) ((step_cons hp).symm.trans h)

/-- Settles O5: each table and memory of the reset state is written out. -/
theorem resetInvariant : Obligations.ResetInvariant where
  cnts_wf := rfl
  cnts_le := nofun
  bytes_wf := rfl
  bytes_lt := nofun
  flds_sorted := rfl
  staged_sorted := rfl
  dmem_wf := rfl
  imem_wf := rfl
  loc_wf := by decide
  flash_wf := rfl

/-- Settles O6: a command of another kind keeps the test port (`exec_keeps_or_testPort`). -/
theorem onlyJtagMovesJtag : Obligations.OnlyJtagMovesJtag := by
  intro c s t h
  rcases exec_keeps_or_testPort c s with ⟨t', ht', hk⟩ | ⟨hc, -⟩
  · obtain rfl : t = t' := Host.Outcome.next.inj (h.symm.trans ht')
    exact .inl hk.jtag
  · exact .inr ((ofTestPort_iff c).mp hc)

/-- Settles O7: every meaning but those of `ActsWhenHeld` is an `act`. -/
theorem heldPartIsInert : Obligations.HeldPartIsInert :=
  fun c _ h => exec_dead c h

end Sys2Proof.Machine
end

section
/-!
SUPPORT. The state right after reset.
-/

namespace Sys2Proof.Machine

/-- One field alone is stored at reset: RST_CNT, which counts the reset itself. -/
theorem reset_get (f : Fld) : State.reset.get f = if G_RST_CAUSE.RST_CNT.key = f.key then 1 else f.rst := rfl

theorem reset_thread_off {t : Nat} (h : t ≠ 0) : (State.reset.thread t).state = .off := by
  have : State.reset.thread t = {} := if_neg h.symm
  rw [this]

/-- Settles O8: no other field is stored at reset, and every field's descriptor carries the row's reset value. -/
theorem resetFields : Obligations.ResetFields := by
  refine ⟨fun r _ i _ f _ hne => ?_, rfl, fun _ => rfl, rfl, rfl, rfl, rfl, fun t ht => reset_thread_off ht⟩
  rw [reset_get, if_neg hne.symm]
  rfl

end Sys2Proof.Machine
end

section
/-!
SUPPORT. The register catalogue, as the fabric finds it, and accesses that a register's kind alone decides.
-/

namespace Sys2Proof.Machine

namespace State

/-- A counter's row has no fields and no write of its own. -/
theorem counter_rows : (regRows.all fun r => decide (r.kind ≠ 1) || (r.fields.isEmpty && (byBase openWrites r.base).isNone)) = true := by
  decide +kernel

theorem regAt_mem {a i : Nat} {r : RegRow} (h : regAt a = some (r, i)) : r ∈ regRows :=
  findRow_mem _ _ _ _ h

theorem counter_row {a i : Nat} {r : RegRow} (h : regAt a = some (r, i)) (hk : r.kind = 1) :
    r.fields = [] ∧ byBase openWrites r.base = none := by
  have := List.all_eq_true.1 counter_rows r (regAt_mem h)
  simpa [hk] using this

/-- An address that a row names is its base, or lies among its `count` addresses. -/
theorem index_some {r : RegRow} {a i : Nat} (h : r.index a = some i) :
    a = r.base ∨ ∃ j < r.count, a = r.base + r.stride * j := by
  unfold RegRow.index at h
  split at h
  · split at h
    · exact .inl ‹_›
    · cases h
  · split at h
    · next hc =>
      obtain ⟨hle, hmod, hlt⟩ := hc
      have := Nat.div_add_mod (a - r.base) r.stride
      exact .inr ⟨_, hlt, by omega⟩
    · cases h

theorem findRow_index {l : List RegRow} {a i : Nat} {r : RegRow} (h : findRow l a = some (r, i)) : r.index a = some i := by
  induction l with
  | nil => cases h
  | cons x l ih =>
    unfold findRow at h
    split at h
    · cases h; assumption
    · exact ih h

theorem regAt_index {a i : Nat} {r : RegRow} (h : regAt a = some (r, i)) : r.index a = some i := findRow_index h

/-- Every address of a row of `l` lies outside `k` shifted by d: its range is another, or its addresses differ modulo 64. -/
def apart (d : Nat) (r k : RegRow) : Bool :=
  decide (r.base + r.stride * r.count < k.base + d) || decide (k.base + k.stride * k.count + d ≤ r.base) ||
    (decide (r.stride % 64 = 0) && decide (k.stride % 64 = 0) && decide (r.base % 64 ≠ (k.base + d) % 64))

theorem apart_ne {d : Nat} {r k : RegRow} {a b i j : Nat} (h : apart d r k = true) (hr : r.index a = some i)
    (hk : k.index b = some j) (hc : 0 < k.count ∧ 0 < k.stride) : a ≠ b + d := by
  obtain ⟨hcount, hstride⟩ := hc
  have ha : ∃ n, a = r.base + r.stride * n ∧ r.stride * n ≤ r.stride * r.count := by
    rcases index_some hr with rfl | ⟨n, hn, rfl⟩
    · exact ⟨0, rfl, Nat.zero_le _⟩
    · exact ⟨n, rfl, Nat.mul_le_mul_left _ (Nat.le_of_lt hn)⟩
  have hb : ∃ m, b = k.base + k.stride * m ∧ k.stride * m < k.stride * k.count := by
    rcases index_some hk with rfl | ⟨m, hm, rfl⟩
    · exact ⟨0, rfl, Nat.mul_lt_mul_of_pos_left hcount hstride⟩
    · exact ⟨m, rfl, Nat.mul_lt_mul_of_pos_left hm hstride⟩
  obtain ⟨n, rfl, hn⟩ := ha
  obtain ⟨m, rfl, hm⟩ := hb
  simp only [apart, Bool.or_eq_true, Bool.and_eq_true, decide_eq_true_eq] at h
  rcases h with (h | h) | ⟨⟨h1, h2⟩, h3⟩
  · omega
  · omega
  · intro he
    have e1 : r.stride * n % 64 = 0 := by rw [Nat.mul_mod, h1, Nat.zero_mul, Nat.zero_mod]
    have e2 : k.stride * m % 64 = 0 := by rw [Nat.mul_mod, h2, Nat.zero_mul, Nat.zero_mod]
    omega

/-- No register with a privileged part is a `_LO` of a marked pair or follows one. -/
theorem priv_rows_apart : (regRows.all fun r => !(hasPriv r) || regRows.all fun k => decide (k.kind ≠ 2) ||
    (decide (0 < k.count ∧ 0 < k.stride) && apart 0 r k && apart 4 r k)) = true := by
  decide +kernel

theorem regAt_time : ((regAt R.G_TB_LO).map fun x => hasPriv x.1) = some false ∧ ((regAt (R.G_TB_LO + 4)).map fun x => hasPriv x.1) = some false ∧
    ((regAt R.FC_SUMMARY_LO).map fun x => hasPriv x.1) = some false ∧
    ((regAt (R.FC_SUMMARY_LO + 4)).map fun x => hasPriv x.1) = some false := by
  decide +kernel

theorem ne_of_priv {a b i : Nat} {r : RegRow} (h : regAt a = some (r, i)) (hp : hasPriv r = true)
    (hb : ((regAt b).map fun x => hasPriv x.1) = some false) : a ≠ b := by
  rintro rfl
  simp [h, hp] at hb

/-- A register with a privileged part, or the one below it, is no `_LO` of a marked pair (R468, R510). -/
theorem pairLo_of_priv {a b i d : Nat} {r : RegRow} (h : regAt a = some (r, i)) (hp : hasPriv r = true) (hd : d = 0 ∨ d = 4)
    (hab : a = b + d) : pairLo b = false := by
  obtain ⟨t0, t4, f0, f4⟩ := regAt_time
  have hT : b ≠ R.G_TB_LO := by
    rintro rfl
    rcases hd with rfl | rfl
    · exact ne_of_priv h hp t0 hab
    · exact ne_of_priv h hp t4 hab
  have hF : b ≠ R.FC_SUMMARY_LO := by
    rintro rfl
    rcases hd with rfl | rfl
    · exact ne_of_priv h hp f0 hab
    · exact ne_of_priv h hp f4 hab
  have hr := List.all_eq_true.1 priv_rows_apart r (regAt_mem h)
  simp only [hp, Bool.not_true, Bool.false_or] at hr
  simp only [pairLo, hT, hF, decide_false, Bool.false_or]
  split
  · next k j hk =>
    have := List.all_eq_true.1 hr k (regAt_mem hk)
    simp only [Bool.or_eq_true, Bool.and_eq_true, decide_eq_true_eq] at this
    simp only [decide_eq_false_iff_not]
    intro h2
    obtain ⟨⟨hpos, h0⟩, h4⟩ := this.resolve_left (· h2)
    rcases hd with rfl | rfl
    · exact apart_ne h0 (regAt_index h) (regAt_index hk) hpos hab
    · exact apart_ne h4 (regAt_index h) (regAt_index hk) hpos hab
  · rfl

/-- A write to such a register costs the master no snapshot. -/
theorem writeSnap_of_priv {s : State} {m : Master} {a i : Nat} {r : RegRow} (h : regAt a = some (r, i)) (hp : hasPriv r = true) :
    s.writeSnap m a = s := by
  have h0 : pairLo a = false := pairLo_of_priv h hp (.inl rfl) rfl
  have h4 : (decide (4 ≤ a) && pairLo (a - 4)) = false := by
    by_cases hle : 4 ≤ a
    · rw [pairLo_of_priv h hp (.inr rfl) (b := a - 4) (by omega), Bool.and_false]
    · simp [hle]
  simp [writeSnap, h0, h4]

@[simp] theorem writeSnap_flds (s : State) (m : Master) (a : Nat) : (s.writeSnap m a).flds = s.flds := by
  unfold writeSnap dropSnap
  repeat' split
  all_goals rfl

@[simp] theorem writeSnap_cnts (s : State) (m : Master) (a : Nat) : (s.writeSnap m a).cnts = s.cnts := by
  unfold writeSnap dropSnap
  repeat' split
  all_goals rfl

/-! ### Counters (R492) -/

/-- A register of a counter takes no write. -/
theorem write32_counter {s : State} {m : Master} {a i : Nat} {r : RegRow} (v : Nat) (h : regAt (regOf a) = some (r, i)) (hk : r.kind = 1)
    (ha : a % 4 = 0) (hg : isGuard a = false) (hc : s.pins.clockAbsent = false) (habs : s.absent (regOf a) = false) :
    s.write32 m a v = ((s.writeSnap m (regOf a)).answer .ok) := by
  obtain ⟨hf, ho⟩ := counter_row h hk
  have hp : hasPriv r = false := by simp [hasPriv, hf]
  have hcmd := cmdReg_of_open _ _ _ h hp ho
  have hof : openFields r = [] := by simp [openFields, hf]
  simp [write32, writeReg, h, ha, hg, hc, habs, writeOpen, writeGuarded, hp, ho, hof, hcmd, RC.worse]
  rfl

theorem resetBegin_cnts_kept (s : State) {kind : Nat} (h : kind ≠ rstPor) : (s.resetBegin kind).cnts = s.cnts := by
  have hc : ∀ x : State, (x.keepCounts s).cnts = s.cnts := fun _ => rfl
  simp only [resetBegin, if_neg h]
  rw [foldl_cnts]
  · repeat' split
    all_goals simp [hc]
  · exact fun _ _ => rfl

theorem resetBegin_cnts_por (s : State) : (s.resetBegin rstPor).cnts = [] := by
  simp only [resetBegin, if_true]
  rw [foldl_cnts]
  · simp [resetBase, resetOf]
  · exact fun _ _ => rfl

end State

/-- Settles O11: `inc` is one count, a counter's row has no fields and no write of its own, and only a power-on reset drops the counters. -/
theorem eventCounters : Obligations.EventCounters := by
  refine ⟨fun s a => ⟨s.cnt_inc_same a, fun b hb => s.cnt_inc_other a b (by simpa using hb), rfl⟩,
    fun s m a v r i hr hk ha hg hc habs => ?_, fun s kind h => s.resetBegin_cnts_kept h, fun s => s.resetBegin_cnts_por⟩
  rw [State.write32_counter v hr hk ha hg hc habs]
  exact ⟨by simp, by simp⟩

end Sys2Proof.Machine
end

section
/-!
SUPPORT. A thread's registers and memories: what a result and a store write, and what an exception and its return make of the thread.
-/

namespace Sys2Proof.Machine

namespace State

variable (s : State)

/-! ### Results (R353, R354) -/

theorem setG_thread_other (t r u : Nat) (v : Word) (h : u ≠ t) : (s.setG t r v).thread u = s.thread u := by
  unfold setG
  split
  · rfl
  · exact thread_modThread_other _ _ _ _ h

theorem setG_g (t r x : Nat) (v : Word) : (s.setG t r v).g t x = if x = r ∧ r ≠ 0 then v else s.g t x := by
  unfold setG g
  by_cases h0 : x = 0
  · rw [if_pos h0, if_neg (fun h => h.2 (h.1 ▸ h0)), if_pos h0]
  · by_cases hr : r = 0
    · simp [h0, hr]
    · by_cases hx : x = r <;> simp [h0, hr, hx, Tbl.get_set]

@[simp] theorem nextPc_g (t x : Nat) : (s.nextPc t).g t x = s.g t x := by
  simp [nextPc, g]

theorem result_g (t rd x : Nat) (v : Word) : (s.result t rd v).g t x = if x = rd ∧ rd ≠ 0 then v else s.g t x := by
  rw [result, nextPc_g, setG_g]

theorem result_thread (t rd : Nat) (v : Word) : ((s.result t rd v).thread t).pc = (s.thread t).pc + 4 ∧
    ((s.result t rd v).thread t).loc = (s.thread t).loc := by
  unfold result nextPc setG
  split <;> simp

theorem result_thread_other (t rd u : Nat) (v : Word) (h : u ≠ t) : (s.result t rd v).thread u = s.thread u :=
  (thread_modThread_other _ _ _ _ h).trans (setG_thread_other s t rd u v h)

theorem result_frame (t rd : Nat) (v : Word) : (s.result t rd v).flds = s.flds ∧ (s.result t rd v).cnts = s.cnts ∧
    (s.result t rd v).tk = s.tk := by
  unfold result nextPc setG
  split <;> exact ⟨rfl, rfl, rfl⟩

/-! ### Stores (R356) -/

/-- What a memory reads once the bytes of l stand from a on. -/
theorem loadBytes_get (m : Tbl Byte) (a b : Nat) (l : List Byte) :
    Tbl.get (loadBytes m a l) 0 b = if a ≤ b ∧ b < a + l.length then l.getD (b - a) 0 else Tbl.get m 0 b := by
  suffices h : ∀ n, Tbl.get ((List.range n).foldl (fun m i => Tbl.set m 0 (a + i) (l.getD i 0)) m) 0 b =
      if a ≤ b ∧ b < a + n then l.getD (b - a) 0 else Tbl.get m 0 b from h l.length
  intro n
  induction n with
  | zero => rw [if_neg (by omega)]; rfl
  | succ n ih =>
    rw [List.range_succ, List.foldl_append, List.foldl_cons, List.foldl_nil, Tbl.get_set, ih]
    by_cases hb : b = a + n
    · rw [if_pos hb, if_pos (by omega), hb, Nat.add_sub_cancel_left]
    · rw [if_neg hb]
      by_cases h : a ≤ b ∧ b < a + n
      · rw [if_pos h, if_pos (by omega)]
      · rw [if_neg h, if_neg (by omega)]

theorem putBytes_data {a : Nat} (t : Nat) (l : List Byte) (h : a < 0x20000000) :
    s.putBytes t a l = s.modTk fun x => { x with dmem := loadBytes x.dmem (a - 0x10000000) l } := if_pos h

theorem putBytes_loc {a : Nat} (t : Nat) (l : List Byte) (h : 0x20000000 ≤ a) :
    s.putBytes t a l = s.modThread t fun h => { h with loc := loadBytes h.loc (a - 0x20000000) l } := if_neg (Nat.not_lt.2 h)

end State

/-- Settles O15. -/
theorem resultWrites : Obligations.ResultWrites := by
  refine ⟨fun s t rd v hrd => ⟨?_, fun r hr => ?_⟩, fun s t v r => ?_, fun s t rd v => ?_⟩
  · rw [State.result_g, if_pos ⟨rfl, hrd⟩]
  · rw [State.result_g, if_neg (fun h => hr h.1)]
  · rw [State.result_g, if_neg (fun h => h.2 rfl)]
  · obtain ⟨hpc, hloc⟩ := s.result_thread t rd v
    exact ⟨rfl, hpc, fun u hu => s.result_thread_other t rd u v hu, hloc, s.result_frame t rd v⟩

/-- Settles O16: both memories take bytes by `loadBytes`, which `loadBytes_get` reads. -/
theorem storedBytes : Obligations.StoredBytes := by
  refine ⟨fun s t a l b _ hlt => ?_, fun s t a l b hle => ?_, fun s t a l hlt => ?_, fun s t a l u hle hu => ?_⟩
  · rw [s.putBytes_data t l hlt]
    exact State.loadBytes_get _ _ _ _
  · rw [s.putBytes_loc t l hle, State.thread_modThread_same]
    exact State.loadBytes_get _ _ _ _
  · rw [s.putBytes_data t l hlt]
    exact ⟨rfl, rfl⟩
  · rw [s.putBytes_loc t l hle]
    exact ⟨State.thread_modThread_other _ _ _ _ hu, rfl⟩

namespace State

variable (s : State)

/-! ### Exceptions (R340, R341, R343) -/

/-- The record that an exception of class REGERR or MEMERR leaves first. -/
def exceptionNote (t cause : Nat) (epc : Word) : State :=
  if cause = Ex.regerr then s.logRec 0x08 0x01 t epc.toNat
  else if cause = Ex.memerr then s.logRec 0x08 0x02 t epc.toNat else s

theorem exceptionNote_cases (t cause : Nat) (epc : Word) :
    s.exceptionNote t cause epc = s ∨ ∃ k c a b, s.exceptionNote t cause epc = s.logRec k c a b := by
  unfold exceptionNote
  split
  · exact .inr ⟨_, _, _, _, rfl⟩
  · split
    · exact .inr ⟨_, _, _, _, rfl⟩
    · exact .inl rfl

@[simp] theorem logRec_threads (kind code arg0 arg1 : Nat) : (s.logRec kind code arg0 arg1).threads = s.threads := by
  unfold logRec; split <;> rfl

theorem logRec_cnt_other (kind code arg0 arg1 a : Nat) (h : a ≠ R.G_LOG_DROP_CNT) : (s.logRec kind code arg0 arg1).cnt a = s.cnt a := by
  unfold logRec
  split
  · rfl
  · exact cnt_inc_other _ _ _ h

@[simp] theorem exceptionNote_get (t cause : Nat) (epc : Word) (f : Fld) : (s.exceptionNote t cause epc).get f = s.get f := by
  rcases s.exceptionNote_cases t cause epc with h | ⟨_, _, _, _, h⟩ <;> simp [h]

@[simp] theorem exceptionNote_threads (t cause : Nat) (epc : Word) : (s.exceptionNote t cause epc).threads = s.threads := by
  rcases s.exceptionNote_cases t cause epc with h | ⟨_, _, _, _, h⟩ <;> simp [h]

@[simp] theorem exceptionNote_thread (t cause : Nat) (epc : Word) (u : Nat) : (s.exceptionNote t cause epc).thread u = s.thread u := by
  simp [thread]

theorem exceptionNote_cnt (t cause : Nat) (epc : Word) {a : Nat} (h : a ≠ R.G_LOG_DROP_CNT) :
    (s.exceptionNote t cause epc).cnt a = s.cnt a := by
  rcases s.exceptionNote_cases t cause epc with h' | ⟨_, _, _, _, h'⟩
  · rw [h']
  · rw [h', logRec_cnt_other _ _ _ _ _ _ h]

/-- The fields of a thread's first exception, written after its record. -/
def exceptionSave (t cause : Nat) (epc : Word) (eaddr : Nat) : State :=
  ((((s.exceptionNote t cause epc).set (TK_TEPC.EPC t) epc.toNat).set (TK_TEXC.EPRIV t) (s.thread t).priv.toNat).set
    (TK_TEXC.ECAUSE t) cause).set (TK_TEADDR.EADDR t) eaddr

/-- R340: the first exception of a thread. -/
theorem exception_first {t : Nat} (cause : Nat) (epc : Word) (eaddr : Nat) (h : (s.thread t).exc = false) :
    s.exception t cause epc eaddr = ((s.exceptionSave t cause epc eaddr).inc (R.TK_EXC_CNT t)).modThread t fun h =>
      { h with exc := true, priv := true, state := if h.after = .continue then .run else .stall
               pc := BitVec.ofNat 32 (4 * s.get (TK_TVEC.VEC t)) } := by
  simp only [exception, h, Bool.false_eq_true, if_false]
  rfl

/-- R343: an exception while one is being handled. -/
theorem exception_second {t : Nat} (cause : Nat) (epc : Word) (eaddr : Nat) (h : (s.thread t).exc = true) :
    ∃ w, s.exception t cause epc eaddr = (((s.exceptionNote t cause epc).modThread t fun h => { h with state := .faulted }).logRec
      0x08 0x03 t w).faultOnset 15 t 0 := by
  simp only [exception, h, if_true]
  exact ⟨_, rfl⟩

theorem exceptionSave_get (t cause : Nat) (epc : Word) (eaddr : Nat) :
    (s.exceptionSave t cause epc eaddr).get (TK_TEPC.EPC t) = epc.toNat ∧
    (s.exceptionSave t cause epc eaddr).get (TK_TEXC.EPRIV t) = (s.thread t).priv.toNat ∧
    (s.exceptionSave t cause epc eaddr).get (TK_TEXC.ECAUSE t) = cause % 256 ∧
    (s.exceptionSave t cause epc eaddr).get (TK_TEADDR.EADDR t) = eaddr % 2 ^ 32 := by
  have hepc : epc.toNat % 2 ^ 32 = epc.toNat := Nat.mod_eq_of_lt epc.isLt
  have hpriv : (s.thread t).priv.toNat % 2 = (s.thread t).priv.toNat := by cases (s.thread t).priv <;> rfl
  unfold exceptionSave
  refine ⟨?_, ?_, ?_, ?_⟩
  · refine Eq.trans (b := epc.toNat % 2 ^ 32) ?_ hepc
    simp (disch := (dsimp only [Fld.key]; omega)) only [get_set_same, get_set_other]
  · refine Eq.trans (b := (s.thread t).priv.toNat % 2 ^ 1) ?_ hpriv
    simp (disch := (dsimp only [Fld.key]; omega)) only [get_set_same, get_set_other]
  · refine Eq.trans (b := cause % 2 ^ 8) ?_ rfl
    simp (disch := (dsimp only [Fld.key]; omega)) only [get_set_same, get_set_other]
  · simp only [get_set_same]

/-- No other field is written. -/
theorem exceptionSave_frame (t cause : Nat) (epc : Word) (eaddr : Nat) :
    s.KeepsFlds (s.exceptionSave t cause epc eaddr) [TK_TEPC.EPC t, TK_TEXC.EPRIV t, TK_TEXC.ECAUSE t, TK_TEADDR.EADDR t] := by
  intro g hg
  simp only [List.mem_cons, List.not_mem_nil, or_false, forall_eq_or_imp, forall_eq] at hg
  obtain ⟨h1, h2, h3, h4⟩ := hg
  unfold exceptionSave
  rw [get_set_other _ _ _ _ h4, get_set_other _ _ _ _ h3, get_set_other _ _ _ _ h2, get_set_other _ _ _ _ h1, exceptionNote_get]

theorem exceptionSave_cnt (t cause : Nat) (epc : Word) (eaddr : Nat) {a : Nat} (h : a ≠ R.G_LOG_DROP_CNT) :
    (s.exceptionSave t cause epc eaddr).cnt a = s.cnt a :=
  s.exceptionNote_cnt t cause epc h

@[simp] theorem exceptionSave_thread (t cause : Nat) (epc : Word) (eaddr u : Nat) :
    (s.exceptionSave t cause epc eaddr).thread u = s.thread u :=
  s.exceptionNote_thread t cause epc u

@[simp] theorem fltAssert_threads (i inst : Nat) : (s.fltAssert i inst).threads = s.threads := by
  unfold fltAssert; split <;> rfl

/-- A posted event reaches a thread's pending set alone. -/
theorem post_thread_state (t e u : Nat) : ((s.post t e).thread u).state = (s.thread u).state := by
  unfold post
  split
  · rfl
  · split
    · rfl
    · by_cases h : u = t
      · subst h; simp
      · rw [thread_modThread_other _ _ _ _ h]

theorem postRouted_thread_state (e u : Nat) : ((s.postRouted e).thread u).state = (s.thread u).state := by
  unfold postRouted
  split
  · exact post_thread_state ..
  · rfl

theorem logRec_thread (kind code arg0 arg1 u : Nat) : (s.logRec kind code arg0 arg1).thread u = s.thread u := by
  simp [thread]

/-- Below class STOP an onset moves no thread. -/
theorem faultOnset_thread_state {i : Nat} (hc : s.fltClass i < 2) (inst detail u : Nat) :
    ((s.faultOnset i inst detail).thread u).state = (s.thread u).state := by
  have h2 : ¬ 2 ≤ s.fltClass i := by omega
  have h3 : ¬ 3 ≤ s.fltClass i := by omega
  have hassert : ∀ (x : State) (j k : Nat), (x.fltAssert j k).thread u = x.thread u := fun x j k => by simp [thread]
  have hmod : ∀ (x : State) (f : Faults → Faults), (x.modFlt f).thread u = x.thread u := fun _ _ => rfl
  have hinc : ∀ (x : State) (a : Nat), (x.inc a).thread u = x.thread u := fun _ _ => rfl
  have hset : ∀ (x : State) (f : Fld) (v : Nat), (x.set f v).thread u = x.thread u := fun _ _ _ => rfl
  unfold faultOnset
  split
  · rfl
  · simp only [h2, h3, decide_false, Bool.false_and, Bool.false_eq_true, if_false]
    repeat' split
    all_goals simp only [postRouted_thread_state, logRec_thread, hinc, hmod, hassert, hset]

end State

/-- Settles O17: `exception_first` and `exception_second` say what each kind of entry writes. -/
theorem exceptionEntry : Obligations.ExceptionEntry := by
  refine ⟨fun s t cause epc eaddr h => ?_, fun s t cause epc eaddr h => ?_, fun s t cause epc eaddr h => ?_,
    fun s t cause epc eaddr h => ?_, fun s t cause epc eaddr h hc => ?_⟩
  · rw [State.exception_first s cause epc eaddr h]
    exact s.exceptionSave_get t cause epc eaddr
  · rw [State.exception_first s cause epc eaddr h]
    simp
  · rw [State.exception_first s cause epc eaddr h]
    have : R.TK_EXC_CNT t ≠ R.G_LOG_DROP_CNT := by dsimp only [R.TK_EXC_CNT, R.G_LOG_DROP_CNT]; omega
    exact (State.cnt_inc_same _ _).trans (by rw [s.exceptionSave_cnt t cause epc eaddr this])
  · rw [State.exception_first s cause epc eaddr h]
    exact s.exceptionSave_frame t cause epc eaddr
  · obtain ⟨w, hx⟩ := s.exception_second cause epc eaddr h
    rw [hx]
    have hcl : ((((s.exceptionNote t cause epc).modThread t fun h => { h with state := .faulted }).logRec 0x08 0x03 t w).fltClass 15) < 2 := by
      rwa [State.fltClass_congr (s := s) (by simp)]
    obtain ⟨-, hon, hget⟩ := State.faultOnset_below_stop hcl t 0
    refine ⟨?_, hon, ?_, ?_, ?_⟩
    · rw [State.faultOnset_thread_state _ hcl, State.logRec_thread]
      simp
    all_goals
      rw [hget _ (by dsimp only [Fld.key]; omega)]
      simp

/-- Settles O18. -/
theorem exceptionReturn : Obligations.ExceptionReturn := by
  intro s t
  unfold State.eretT
  refine ⟨?_, ?_, ?_, ?_, ?_, rfl, rfl, fun u hu => State.thread_modThread_other _ _ _ _ hu⟩
  · simp [w32]
  · simp [State.on]
  all_goals simp

end Sys2Proof.Machine
end

section
/-!
SUPPORT. The guard of privileged registers (R487).
-/

namespace Sys2Proof.Machine

namespace State

variable {s : State} {u a i : Nat} {r : RegRow}

/-- Step 1: a host's write of a register whose parts are all privileged is held. -/
theorem write32_hold (v : Nat) (hr : regAt (regOf a) = some (r, i)) (ha : a % 4 = 0) (hg : isGuard a = false)
    (hc : s.pins.clockAbsent = false) (habs : s.absent (regOf a) = false) (hp : hasPriv r = true) (ho : openFields r = [])
    (hw : byBase openWrites r.base = none) (hs : s.slotOf (.host u) = none) :
    s.write32 (.host u) a v = (s.modFab fun f => { f with guards := f.guards ++ [⟨.host u, regOf a, v⟩] }).answer .pend := by
  have hs' : (s.answer .ok).slotOf (.host u) = none := hs
  simp [write32, writeReg, ha, hg, hr, hc, habs, writeSnap_of_priv hr hp, writeOpen, hw, ho, writeGuarded, hp, userThread,
    Master.privileged, slotHold, poolFull, hs', RC.worse]
  rfl

theorem isGuard_image {a : Nat} : isGuard (2 ^ 22 + regOf a) = true := by
  unfold isGuard regOf
  rw [Nat.testBit_two_pow_add_eq, Nat.testBit_lt_two_pow (Nat.mod_lt _ (by decide))]
  rfl

theorem regOf_image {a : Nat} : regOf (2 ^ 22 + regOf a) = regOf a := by
  unfold regOf
  omega

theorem sameMaster_host (u : Nat) : sameMaster (.host u) (.host u) = true := beq_self_eq_true u

/-- The slot just taken is the master's. -/
theorem slotOf_hold {m : Master} {x : Nat} {v : Nat} (hm : sameMaster m m = true) (hs : s.slotOf m = none) (rc : RC) :
    ((s.modFab fun f => { f with guards := f.guards ++ [⟨m, x, v⟩] }).answer rc).slotOf m = some ⟨m, x, v⟩ := by
  unfold slotOf at hs
  simp [slotOf, modFab, answer, List.find?_append, hs, hm]

/-- Emptying the slot just taken leaves the guard as it was. -/
theorem slotDrop_hold {m : Master} {x : Nat} {v : Nat} (hm : sameMaster m m = true) (hs : s.slotOf m = none) (rc : RC) :
    ((s.modFab fun f => { f with guards := f.guards ++ [⟨m, x, v⟩] }).answer rc).slotDrop m = s.answer rc := by
  unfold slotOf at hs
  have hkeep : s.fab.guards.filter (fun g => !(sameMaster g.m m)) = s.fab.guards :=
    List.filter_eq_self.mpr fun g hg => by simpa using List.find?_eq_none.mp hs g hg
  simp [slotDrop, modFab, answer, List.filter_append, hkeep, hm]

/-- Step 2: the complement at the guard address carries the held write out. -/
theorem write32_complement (m : Master) (v : Nat) (hr : regAt (regOf a) = some (r, i)) (ha : a % 4 = 0)
    (hc : s.pins.clockAbsent = false) (hs : s.slotOf m = some ⟨m, regOf a, v⟩) :
    s.write32 m (2 ^ 22 + regOf a) (2 ^ 32 - 1 - v) = (s.slotDrop m).writePriv m r i (regOf a) v := by
  have halign : (2 ^ 22 + regOf a) % 4 = 0 := by unfold regOf; omega
  rw [write32, if_neg (by simpa using halign), isGuard_image, if_pos rfl, regOf_image]
  simp [writeComplement, hr, hc, hs]

end State

/-- Settles O19: the write is held (`write32_hold`), the complement finds it in the slot (`slotOf_hold`) and empties it (`slotDrop_hold`). -/
theorem guardTwoSteps : Obligations.GuardTwoSteps := by
  intro s u a v r i hr ha hg hc habs hp ho hw hs
  rw [State.write32_hold v hr ha hg hc habs hp ho hw hs]
  refine ⟨rfl, rfl, ?_⟩
  have hslot := State.slotOf_hold (x := regOf a) (v := v) (State.sameMaster_host u) hs .pend
  rw [State.write32_complement (.host u) v hr ha (by exact hc) hslot, State.slotDrop_hold (State.sameMaster_host u) hs]

end Sys2Proof.Machine
end

section
/-!
SUPPORT. One metering stage (R127, R128).
-/

namespace Sys2Proof.Machine

namespace State

variable (s : State) {p : Nat}

theorem plUse_unarmed (h : s.injMatches 22 p = false) : s.plUse p = s := by
  simp [plUse, h]

theorem stageMeter_off (b : Nat) (pre : Colour) (safe : Bool) (h : s.plOff p = true) : s.stageMeter p b pre safe = (s, .green) := by
  simp [stageMeter, h]

/-- A stage that meters: the colour of `meter`, promoted where the packet can never be red. -/
theorem stageMeter_on (b : Nat) (pre : Colour) (safe : Bool) (hoff : s.plOff p = false) (hinj : s.injMatches 22 p = false) :
    s.stageMeter p b pre safe =
      (let r := meter (s.pol p) b (if s.plMode p = 2 then pre else .green)
       let s1 := s.modPol p fun _ => r.2
       if r.1 = .red ∧ safe = true then
         (((s1.modPol p fun x => { x with tp := x.tp - b }).inc (R.TM_PL_PROMOTE_CNT p)).plCount p b .yellow, .yellow)
       else (s1.plCount p b r.1, r.1)) := by
  simp [stageMeter, hoff, plUse_unarmed s hinj]

theorem meter_red {x : Policer} {b : Nat} {c : Colour} (h : c = .red ∨ x.tp < b) : meter x b c = (.red, x) := if_pos h

theorem meter_yellow {x : Policer} {b : Nat} {c : Colour} (h1 : c ≠ .red) (h2 : b ≤ x.tp) (h3 : c = .yellow ∨ x.tc < b) :
    meter x b c = (.yellow, { x with tp := x.tp - b }) := by
  rw [meter, if_neg fun h => h.elim h1 fun h => absurd h (by omega), if_pos h3]

theorem meter_green {x : Policer} {b : Nat} {c : Colour} (h1 : c ≠ .red) (h2 : b ≤ x.tp) (h3 : c ≠ .yellow) (h4 : b ≤ x.tc) :
    meter x b c = (.green, { x with tp := x.tp - b, tc := x.tc - b }) := by
  rw [meter, if_neg fun h => h.elim h1 fun h => absurd h (by omega),
    if_neg fun h => h.elim h3 fun h => absurd h (by omega)]

@[simp] theorem plCount_pols (b : Nat) (c : Colour) : (s.plCount p b c).pols = s.pols := by cases c <;> rfl
@[simp] theorem plCount_pol (b : Nat) (c : Colour) (q : Nat) : (s.plCount p b c).pol q = s.pol q := by simp [pol]

@[simp] theorem addBytes_bytes_same (lo n : Nat) : Tbl.get (s.addBytes lo n).bytes 0 lo = (Tbl.get s.bytes 0 lo + n) % 2 ^ 64 := by
  simp [addBytes]

/-- What a stage leaves: fields, every other policer, and every counter but that of promotions. -/
theorem stageMeter_frame (p b : Nat) (pre : Colour) (safe : Bool) (hinj : s.injMatches 22 p = false) :
    (s.stageMeter p b pre safe).1.flds = s.flds ∧ s.KeepsCnts (s.stageMeter p b pre safe).1 [R.TM_PL_PROMOTE_CNT p] ∧
      ∀ q, q ≠ p → (s.stageMeter p b pre safe).1.pol q = s.pol q := by
  have hpol : ∀ (x : State) (f : Policer → Policer) q, q ≠ p → (x.modPol p f).pol q = x.pol q :=
    fun x f q hq => pol_modPol_other _ _ _ _ hq
  by_cases hoff : s.plOff p = true
  · rw [stageMeter_off s b pre safe hoff]
    exact ⟨rfl, fun _ _ => rfl, fun _ _ => rfl⟩
  · rw [stageMeter_on s b pre safe (by simpa using hoff) hinj]
    generalize meter (s.pol p) b _ = r
    dsimp only
    split
    · refine ⟨by simp, fun a ha => ?_, fun q hq => ?_⟩
      · rw [plCount_cnt, cnt_inc_other _ _ _ (by simpa using ha)]
        rfl
      · rw [plCount_pol, inc_pol, hpol _ _ q hq, hpol _ _ q hq]
    · refine ⟨by simp, fun a _ => ?_, fun q hq => ?_⟩
      · rw [plCount_cnt]
        rfl
      · rw [plCount_pol, hpol _ _ q hq]

end State

/-- Settles O20: the cases of `meter` through `stageMeter_on`, and `stageMeter_frame`. -/
theorem policerResult : Obligations.PolicerResult := by
  refine ⟨fun s p b pre safe h => s.stageMeter_off b pre safe (by simp [State.plOff, h]), fun s p b pre safe hmode hinj => ?_,
    fun s p b pre safe hinj => s.stageMeter_frame p b pre safe hinj⟩
  have hoff : s.plOff p = false := by rcases hmode with h | h <;> simp [State.plOff, h]
  rw [State.stageMeter_on s b pre safe hoff hinj]
  dsimp only
  refine ⟨_, rfl, fun ⟨hr, hs⟩ => ?_, fun ⟨hr, hs⟩ => ?_, fun ⟨h1, h2, h3⟩ => ?_, fun ⟨h1, h3, h2, h4⟩ => ?_⟩
  · rw [State.meter_red hr]
    simp [hs, State.plCount]
  · rw [State.meter_red hr]
    simp [hs, State.plCount]
  · rw [State.meter_yellow h1 h2 h3]
    simp [State.plCount]
  · rw [State.meter_green h1 h2 h3 h4]
    simp [State.plCount]

end Sys2Proof.Machine
end

section
/-!
SUPPORT. Pointers of a queue and a producer's request (R101, R102).
-/

namespace Sys2Proof.Machine

namespace State

variable (s : State) (q : Nat)

theorem qSize_pos : 0 < s.qSize q := by exact Nat.mul_pos (by decide) (Nat.two_pow_pos _)

/-- Occupancy by the two pointers, with and without a wrap between them. -/
theorem qOcc_eq (hw : (s.queue q).wr < 2 * s.qSize q) (hr : (s.queue q).rd < 2 * s.qSize q) :
    s.qOcc q = if (s.queue q).rd ≤ (s.queue q).wr then (s.queue q).wr - (s.queue q).rd
      else (s.queue q).wr + 2 * s.qSize q - (s.queue q).rd := by
  unfold qOcc
  split
  · rw [show (s.queue q).wr + 2 * s.qSize q - (s.queue q).rd = (s.queue q).wr - (s.queue q).rd + 2 * s.qSize q by omega,
      Nat.add_mod_right, Nat.mod_eq_of_lt (by omega)]
  · exact Nat.mod_eq_of_lt (by omega)

/-- The read pointer half a round further. -/
theorem half_round_mod {rd S : Nat} (hr : rd < 2 * S) : (rd + S) % (2 * S) = if rd < S then rd + S else rd - S := by
  split
  · exact Nat.mod_eq_of_lt (by omega)
  · rw [show rd + S = rd - S + 2 * S by omega, Nat.add_mod_right, Nat.mod_eq_of_lt (by omega)]

/-! ### What `qRefresh` leaves -/

@[simp] theorem logRec_queues (kind code arg0 arg1 : Nat) : (s.logRec kind code arg0 arg1).queues = s.queues := by
  unfold logRec; split <;> rfl

@[simp] theorem logRec_flow (kind code arg0 arg1 : Nat) : (s.logRec kind code arg0 arg1).flow = s.flow := by
  unfold logRec; split <;> rfl

/-- A watched level ends an episode, begins or extends one, or changes nothing. -/
theorem watch_cases (code i : Nat) (lvl : Bool) (v : Nat) : s.watch code i lvl v = s ∨ ∃ e, s.watch code i lvl v = s.setEpisode code i e ∨
    ∃ k c x y, s.watch code i lvl v = (s.setEpisode code i e).logRec k c x y := by
  unfold watch
  dsimp only
  split
  · exact .inr ⟨_, .inl rfl⟩
  · exact .inr ⟨_, .inl rfl⟩
  · exact .inl rfl
  · split
    · exact .inr ⟨_, .inr ⟨_, _, _, _, rfl⟩⟩
    · exact .inr ⟨_, .inl rfl⟩

@[simp] theorem watch_queues (code i : Nat) (lvl : Bool) (v : Nat) : (s.watch code i lvl v).queues = s.queues := by
  rcases s.watch_cases code i lvl v with h | ⟨e, h | ⟨_, _, _, _, h⟩⟩ <;> simp [h, setEpisode]

@[simp] theorem watch_flow (code i : Nat) (lvl : Bool) (v : Nat) : (s.watch code i lvl v).flow = s.flow := by
  rcases s.watch_cases code i lvl v with h | ⟨e, h | ⟨_, _, _, _, h⟩⟩ <;> simp [h, setEpisode]

theorem watch_cnt_other (code i : Nat) (lvl : Bool) (v : Nat) {a : Nat} (ha : a ≠ R.G_LOG_DROP_CNT) :
    (s.watch code i lvl v).cnt a = s.cnt a := by
  rcases s.watch_cases code i lvl v with h | ⟨e, h | ⟨_, _, _, _, h⟩⟩
  · rw [h]
  · rw [h]; rfl
  · rw [h, logRec_cnt_other _ _ _ _ _ _ ha]; rfl

@[simp] theorem ite_queues (c : Prop) [Decidable c] (a b : State) : (if c then a else b).queues = if c then a.queues else b.queues := by
  split <;> rfl

@[simp] theorem qRefresh_queues : (s.qRefresh q).queues = (s.modQueue q fun x => { x with nak := s.ttStalls q }).queues := by
  simp [qRefresh]

@[simp] theorem qRefresh_flow : (s.qRefresh q).flow = s.flow := by
  simp [qRefresh, apply_ite State.flow]

theorem qRefresh_queue_same : (s.qRefresh q).queue q = { s.queue q with nak := s.ttStalls q } := by
  simp only [queue, qRefresh_queues]
  exact queue_modQueue_same ..

theorem qRefresh_queue_other {x : Nat} (h : x ≠ q) : (s.qRefresh q).queue x = s.queue x := by
  simp only [queue, qRefresh_queues]
  exact queue_modQueue_other _ _ _ _ h

/-- FULL stands while a producer waits. -/
theorem qRefresh_full (h : (s.queue q).wait ≠ []) : (s.qRefresh q).get (CD_QST.FULL q) = 1 := by
  have hw : (s.queue q).wait.isEmpty = false := by simpa using h
  unfold qRefresh
  refine Eq.trans (b := 1 % 2 ^ (CD_QST.FULL q).wid) ?_ rfl
  simp (disch := (dsimp only [Fld.key]; omega)) only [hw, Bool.not_false, Bool.true_or, Bool.toNat_true,
    apply_ite (fun x : State => x.get (CD_QST.FULL q)), get_set_other, watch_get, get_set_same, ite_self]

/-- A stall that sets FULL is counted. -/
theorem qRefresh_full_cnt (h : (s.queue q).wait ≠ []) (h0 : s.get (CD_QST.FULL q) = 0) :
    (s.qRefresh q).cnt (R.CD_QFULL_CNT q) = min (s.cnt (R.CD_QFULL_CNT q) + 1) 0xFFFF := by
  have hw : (s.queue q).wait.isEmpty = false := by simpa using h
  have hf : s.on (CD_QST.FULL q) = false := on_false s h0
  have hdrop : R.CD_QFULL_CNT q ≠ R.G_LOG_DROP_CNT := by dsimp only [R.CD_QFULL_CNT, R.G_LOG_DROP_CNT]; omega
  have hwm : R.CD_QFULL_CNT q ≠ R.CD_QWM_CNT q := by dsimp only [R.CD_QFULL_CNT, R.CD_QWM_CNT]; omega
  have hset : ∀ (x : State) (f : Fld) (v a : Nat), (x.set f v).cnt a = x.cnt a := fun _ _ _ _ => rfl
  have hmod : ∀ (x : State) (f : Queue → Queue) (a : Nat), (x.modQueue q f).cnt a = x.cnt a := fun _ _ _ => rfl
  unfold qRefresh
  simp only [hw, hf, Bool.not_false, Bool.true_or, Bool.and_self, if_true, apply_ite (fun x : State => x.cnt (R.CD_QFULL_CNT q)), hset,
    watch_cnt_other _ _ _ _ _ hdrop, cnt_inc_same, cnt_inc_other _ _ _ hwm, hmod, ite_self]

/-! ### Requests -/

variable {q} {p : Packet}

theorem qRequest_oversize (hen : s.on (CD_QST.EN_ACT q) = true) (h : s.qSize q < p.w) :
    s.qRequest q p = (s.inc (R.CD_OVERSIZE_CNT q), .oversize) := by
  simp [qRequest, hen, h]

theorem qRequest_fits (hen : s.on (CD_QST.EN_ACT q) = true) (hw : (s.queue q).wait = []) (hf : p.w ≤ s.qFree q) (hs : p.w ≤ s.qSize q) :
    s.qRequest q p = (s.qAdmit q p, .admitted s.flow.next) := by
  simp [qRequest, hen, hw, hf, Nat.not_lt.2 hs]

theorem qRequest_stalls (hf : s.qFree q < p.w) (hs : p.w ≤ s.qSize q) :
    s.qRequest q p = ((s.modQueue q fun x => { x with wait := x.wait ++ [p] }).qRefresh q, .stalled) := by
  simp [qRequest, Nat.not_le.2 hf, Nat.not_lt.2 hs]

/-- An admitted packet stands behind the others, with its words reserved. -/
theorem qAdmit_queue : ∃ nak, (s.qAdmit q p).queue q = { s.queue q with
    wr := ((s.queue q).wr + p.w) % (2 * s.qSize q)
    pkts := (s.queue q).pkts ++
      [{ p with order := s.flow.next, body := s.freeCtr, secded := (s.get CD_PROT.SECDED).testBit (s.qBank q) }]
    nak := nak } := by
  unfold qAdmit
  rw [qRefresh_queue_same, freeNext_queue, modFlow_queue, queue_modQueue_same]
  exact ⟨_, rfl⟩

theorem qAdmit_next : (s.qAdmit q p).flow.next = s.flow.next + 1 := by
  unfold qAdmit
  rw [qRefresh_flow]
  rfl

theorem qRequest_other (p : Packet) {x : Nat} (h : x ≠ q) : (s.qRequest q p).1.queue x = s.queue x := by
  unfold qRequest
  split
  · rfl
  · split
    · unfold qAdmit
      rw [qRefresh_queue_other _ _ h, freeNext_queue, modFlow_queue, queue_modQueue_other _ _ _ _ h]
    · rw [qRefresh_queue_other _ _ h]
      exact queue_modQueue_other _ _ _ _ h

end State

/-- Settles O21. -/
theorem queueAdmission : Obligations.QueueAdmission := by
  refine ⟨fun s q hw hr => ?_, fun s q p hen h => s.qRequest_oversize hen h, fun s q p hen hw hf hs => ?_, fun s q p hen hf hs => ?_,
    fun s q p x hx => s.qRequest_other p hx⟩
  · have hpos := s.qSize_pos q
    rw [s.qOcc_eq q hw hr, State.half_round_mod hr]
    constructor <;> split <;> (try split) <;> omega
  · obtain ⟨nak, hq⟩ := s.qAdmit_queue (q := q) (p := p)
    rw [s.qRequest_fits hen hw hf hs]
    exact ⟨rfl, by rw [hq], by rw [hq], by rw [hq], s.qAdmit_next⟩
  · rw [s.qRequest_stalls hf hs]
    have hq := State.queue_modQueue_same s q fun x => { x with wait := x.wait ++ [p] }
    have hwait : ((s.modQueue q fun x => { x with wait := x.wait ++ [p] }).queue q).wait ≠ [] := by simp
    refine ⟨rfl, ?_, ?_, ?_, State.qRefresh_full _ _ hwait, fun h0 => State.qRefresh_full_cnt _ _ hwait h0⟩
    all_goals rw [State.qRefresh_queue_same, hq]

end Sys2Proof.Machine
end

section
/-!
SUPPORT. The test port's rows (R570, R584).
-/

namespace Sys2Proof.Machine

/-- Settles O23: each row's meaning is one update of the test port. -/
theorem jtagRows : Obligations.JtagRows := by
  refine ⟨fun s cells pre => ⟨_, rfl, rfl⟩, fun s pre hr hm => ⟨_, rfl, ?_⟩, fun s pre h => ⟨_, rfl, ?_⟩, fun s => ⟨_, rfl, rfl⟩,
    fun s => ⟨_, rfl, rfl⟩⟩
  · have he : s.extestEnabled = true := by simp [State.extestEnabled, hr, hm]
    rw [he]
    exact ⟨rfl, by simp [State.extestDrives, State.extestEnabled, State.modJtag, hr, hm]⟩
  · have he : s.extestEnabled = false := by rcases h with h | h <;> simp [State.extestEnabled, h]
    rw [he]
    refine ⟨rfl, ?_⟩
    rw [State.extestDrives, Bool.and_eq_false_iff]
    exact .inl he

end Sys2Proof.Machine
end

section
/-!
SUPPORT. Instructions: what a thread makes of the word its PC holds, one rule for each kind of instruction.
-/

namespace Sys2Proof.Machine

section
variable {c : Instr} {s : State} {r : Res State} {Q : State → Prop} {t w : Nat}

/-- An instruction whose word the thread fetches ends in what its meaning makes of the state. -/
theorem ends_issue {f : State → State} (hr : r = act s fun s => s.issue t w f) (he : exec c s = r) (hf : s.fetches t w = true)
    (hq : Q (f s)) : Ends c s Q :=
  ends_act hr he (State.alive_of_fetches hf) (by rwa [s.issue_fetches f hf])

/-- An ALU instruction: its value goes to rd. -/
theorem ends_alu {rd : Nat} {v : State → Word} {x : Word} (hr : r = act s fun s => s.alu t w rd v) (he : exec c s = r)
    (hf : s.fetches t w = true) (hv : v s = x) : Ends c s fun u => u = s.result t rd x :=
  ends_issue hr he hf (by rw [hv])

/-- A comparison gives 1 where it holds. -/
theorem ends_flag {rd : Nat} {b : State → Bool} {p : Prop} [Decidable p] (hr : r = act s fun s => s.alu t w rd fun s => flag (b s))
    (he : exec c s = r) (hf : s.fetches t w = true) (hb : b s = decide p) : Ends c s fun u => u = s.result t rd (if p then 1 else 0) :=
  ends_alu hr he hf (by simp [flag, hb])

/-- A load whose outcome is known. -/
theorem ends_load {rt ra off n : Nat} {ext : Nat → Word} {u : State} (hr : r = act s fun s => s.loadTo t w rt ra off n ext)
    (he : exec c s = r) (hf : s.fetches t w = true) (hl : s.load t (s.mAddr t ra off) n (fun s v => s.result t rt (ext v)) = u) :
    Ends c s fun v => v = u :=
  ends_issue hr he hf hl

/-- A store whose outcome is known. -/
theorem ends_store {rt ra off n : Nat} {u : State} (hr : r = act s fun s => s.storeFrom t w rt ra off n) (he : exec c s = r)
    (hf : s.fetches t w = true) (hl : s.store t (s.mAddr t ra off) n (s.g t rt).toNat = u) : Ends c s fun v => v = u :=
  ends_issue hr he hf hl

/-- A branch that is taken. -/
theorem ends_branch {off : Nat} {b : State → Bool} (hr : r = act s fun s => s.branch t w off b) (he : exec c s = r)
    (hf : s.fetches t w = true) (hb : b s = true) :
    Ends c s fun u => u = s.modThread t fun h => { h with pc := h.pc + 4 + 4 * sext16 off } :=
  ends_issue hr he hf (by rw [if_pos hb])

/-- A branch that is not taken. -/
theorem ends_branch_not {off : Nat} {b : State → Bool} (hr : r = act s fun s => s.branch t w off b) (he : exec c s = r)
    (hf : s.fetches t w = true) (hb : b s = false) : Ends c s fun u => u = s.nextPc t :=
  ends_issue hr he hf (by rw [hb]; rfl)

/-- A jump. -/
theorem ends_jump {rd : Nat} {a : State → Word} (hr : r = act s fun s => s.jump t w rd a) (he : exec c s = r)
    (hf : s.fetches t w = true) :
    Ends c s fun u => u = (s.setG t rd ((s.thread t).pc + 4)).modThread t fun h => { h with pc := a s } :=
  ends_issue hr he hf rfl

/-- A primitive of a thread that may use it answers its result, unless the operation took the thread away. -/
theorem ends_prim {rd : Nat} {sys : Bool} {f : State → State × Nat} {p : State × Nat} (hr : r = act s fun s => s.prim t w rd sys f)
    (he : exec c s = r) (hf : s.fetches t w = true) (hp : sys = true → (s.thread t).priv = true) (hv : p = f (s.stallT t)) :
    Ends c s fun u => u = if p.1.stalled t then p.1.result t rd (w32 p.2) else p.1 := by
  refine ends_issue hr he hf ?_
  have h : (sys && !(s.thread t).priv) = false := by
    cases sys
    · rfl
    · simp [hp rfl]
  rw [h, hv]
  rfl

/-- A system primitive raises PRIV in user mode. -/
theorem ends_prim_user {rd : Nat} {f : State → State × Nat} (hr : r = act s fun s => s.prim t w rd true f) (he : exec c s = r)
    (hf : s.fetches t w = true) (hp : (s.thread t).priv = false) :
    Ends c s fun u => u = s.exception t Ex.priv (s.thread t).pc 0 :=
  ends_issue hr he hf (by rw [hp]; rfl)

end

/-! ### ALU instructions -/

theorem slt_decide (a b : Word) : a.slt b = decide (a.toInt < b.toInt) := by rw [BitVec.slt]

theorem ult_decide (a b : Word) : a.ult b = decide (a.toNat < b.toNat) := by rw [BitVec.ult]

/-- Settles O43: each row is one `alu`, and the comparisons are those of the words' values. -/
theorem aluRows : Obligations.AluRows := by
  refine ⟨?add, ?sub, ?and, ?or, ?xor, ?sll, ?srl, ?sra, ?slli, ?srli, ?srai, ?slt, ?sltu, ?mul, ?mulhu, ?extu, ?ins, ?clz, ?addi,
    ?andi, ?ori, ?xori, ?slti, ?sltiu, ?lui⟩
  case add => exact fun s t rd ra rb h => ends_alu (r := execAdd t rd ra rb s) rfl rfl h rfl
  case sub => exact fun s t rd ra rb h => ends_alu (r := execSub t rd ra rb s) rfl rfl h rfl
  case and => exact fun s t rd ra rb h => ends_alu (r := execAnd t rd ra rb s) rfl rfl h rfl
  case or => exact fun s t rd ra rb h => ends_alu (r := execOr t rd ra rb s) rfl rfl h rfl
  case xor => exact fun s t rd ra rb h => ends_alu (r := execXor t rd ra rb s) rfl rfl h rfl
  case sll => exact fun s t rd ra rb h => ends_alu (r := execSll t rd ra rb s) rfl rfl h rfl
  case srl => exact fun s t rd ra rb h => ends_alu (r := execSrl t rd ra rb s) rfl rfl h rfl
  case sra => exact fun s t rd ra rb h => ends_alu (r := execSra t rd ra rb s) rfl rfl h rfl
  case slli => exact fun s t rd ra sh h => ends_alu (r := execSlli t rd ra sh s) rfl rfl h rfl
  case srli => exact fun s t rd ra sh h => ends_alu (r := execSrli t rd ra sh s) rfl rfl h rfl
  case srai => exact fun s t rd ra sh h => ends_alu (r := execSrai t rd ra sh s) rfl rfl h rfl
  case slt => exact fun s t rd ra rb h => ends_flag (r := execSlt t rd ra rb s) rfl rfl h (slt_decide ..)
  case sltu => exact fun s t rd ra rb h => ends_flag (r := execSltu t rd ra rb s) rfl rfl h (ult_decide ..)
  case mul => exact fun s t rd ra rb h => ends_alu (r := execMul t rd ra rb s) rfl rfl h rfl
  case mulhu => exact fun s t rd ra rb h => ends_alu (r := execMulhu t rd ra rb s) rfl rfl h rfl
  case extu => exact fun s t rd ra sh w1 h => ends_alu (r := execExtu t rd ra sh w1 s) rfl rfl h rfl
  case ins => exact fun s t rd ra sh w1 h => ends_alu (r := execIns t rd ra sh w1 s) rfl rfl h rfl
  case clz => exact fun s t rd ra h => ends_alu (r := execClz t rd ra s) rfl rfl h rfl
  case addi => exact fun s t rd ra imm h => ends_alu (r := execAddi t rd ra imm s) rfl rfl h rfl
  case andi => exact fun s t rd ra imm h => ends_alu (r := execAndi t rd ra imm s) rfl rfl h rfl
  case ori => exact fun s t rd ra imm h => ends_alu (r := execOri t rd ra imm s) rfl rfl h rfl
  case xori => exact fun s t rd ra imm h => ends_alu (r := execXori t rd ra imm s) rfl rfl h rfl
  case slti => exact fun s t rd ra imm h => ends_flag (r := execSlti t rd ra imm s) rfl rfl h (slt_decide ..)
  case sltiu => exact fun s t rd ra imm h => ends_flag (r := execSltiu t rd ra imm s) rfl rfl h (ult_decide ..)
  case lui => exact fun s t rd imm h => ends_alu (r := execLui t rd imm s) rfl rfl h rfl

/-! ### Loads and stores -/

namespace State

variable (s : State) {t a w : Nat} (k : State → Nat → State)

theorem regionAt_regs_le (h : regionAt a w = .regs) : 0x40000000 ≤ a := by
  unfold regionAt at h
  repeat' split at h
  all_goals cases h
  omega

/-- A load in user mode from instruction memory or ROM raises PRIV. -/
theorem load_user (hp : (s.thread t).priv = false) (ha : a < 0x50000) : s.load t a w k = s.exception t Ex.priv (s.thread t).pc a := by
  simp [load, hp, ha]

/-- A misaligned load from local memory raises DALIGN. -/
theorem load_misaligned_loc (hl : regionAt a w = .loc) (ha : a % w ≠ 0) :
    s.load t a w k = s.exception t Ex.dalign (s.thread t).pc a := by
  have := regionAt_loc_le hl
  have hn : ¬ a < 0x50000 := by omega
  simp [load, hn, hl, ha]

/-- A load outside the map raises DACCESS. -/
theorem load_none (hp : (s.thread t).priv = true) (hl : regionAt a w = .none) :
    s.load t a w k = s.exception t Ex.daccess (s.thread t).pc a := by
  simp [load, hp, hl]

/-- A privileged load from instruction memory hands its value on with the thread in STALL. -/
theorem load_imem (hp : (s.thread t).priv = true) (hl : regionAt a w = .imem) (ha : a % w = 0) (h14 : s.injMatches 14 0 = false)
    (h13 : s.injMatches 13 0 = false) : s.load t a w k = k (s.stallT t) (bytesAt s.tk.imem a w) := by
  simp [load, hp, hl, ha, checked, h14, h13]

/-- A load from register space is a register access. -/
theorem load_regs (hl : regionAt a w = .regs) : s.load t a w k =
    s.regAccess t a (fun v => v.regLoad (v.tMaster t) (a - 0x40000000) w) fun v => k v v.fab.data := by
  have := regionAt_regs_le hl
  have hn : ¬ a < 0x50000 := by omega
  simp [load, hn, hl]

theorem regLoad_word (m : Master) : s.regLoad m a 4 = s.read32 m a := by rw [regLoad]

/-- A store to instruction ROM raises DACCESS. -/
theorem store_rom (v : Nat) (hl : regionAt a w = .rom) : s.store t a w v = s.exception t Ex.daccess (s.thread t).pc a := by
  have := regionAt_rom_le hl
  have hn : ¬ a < 0x40000 := by omega
  simp [store, hn, hl]

end State

open State

/-- Settles O44: the outcome of a load by the region it addresses (`load_data`, `load_loc`, …). -/
theorem loadRows : Obligations.LoadRows := by
  refine ⟨?lb, ?lbLoc, ?lbu, ?lbuLoc, ?lh, ?lhLoc, ?lhu, ?lhuLoc, ?lw, ?lwLoc, ?lwp, ?lwpOdd, ?dalign, ?daccess, ?imem, ?regs, ?user⟩
  case lb => exact fun s t rt ra off h hd => ends_load (r := execLb t rt ra off s) rfl rfl h (s.load_data _ hd)
  case lbLoc => exact fun s t rt ra off h hd => ends_load (r := execLb t rt ra off s) rfl rfl h (s.load_loc _ hd)
  case lbu => exact fun s t rt ra off h hd => ends_load (r := execLbu t rt ra off s) rfl rfl h (s.load_data _ hd)
  case lbuLoc => exact fun s t rt ra off h hd => ends_load (r := execLbu t rt ra off s) rfl rfl h (s.load_loc _ hd)
  case lh => exact fun s t rt ra off h hd => ends_load (r := execLh t rt ra off s) rfl rfl h (s.load_data _ hd)
  case lhLoc => exact fun s t rt ra off h hd => ends_load (r := execLh t rt ra off s) rfl rfl h (s.load_loc _ hd)
  case lhu => exact fun s t rt ra off h hd => ends_load (r := execLhu t rt ra off s) rfl rfl h (s.load_data _ hd)
  case lhuLoc => exact fun s t rt ra off h hd => ends_load (r := execLhu t rt ra off s) rfl rfl h (s.load_loc _ hd)
  case lw => exact fun s t rt ra off h hd => ends_load (r := execLw t rt ra off s) rfl rfl h (s.load_data _ hd)
  case lwLoc => exact fun s t rt ra off h hd => ends_load (r := execLw t rt ra off s) rfl rfl h (s.load_loc _ hd)
  case lwp =>
    intro s t rt ra off h he hd
    refine ends_issue (r := execLwp t rt ra off s) rfl rfl h ?_
    rw [if_neg (by omega), s.load_data _ hd]
  case lwpOdd =>
    intro s t rt ra off h ho
    exact ends_issue (r := execLwp t rt ra off s) rfl rfl h (if_pos ho)
  case dalign => exact fun s t rt ra off h hl ha => ends_load (r := execLw t rt ra off s) rfl rfl h (s.load_misaligned_loc _ hl ha)
  case daccess => exact fun s t rt ra off h hl hp => ends_load (r := execLw t rt ra off s) rfl rfl h (s.load_none _ hp hl)
  case imem =>
    exact fun s t rt ra off h hl ha hp h14 h13 => ends_load (r := execLw t rt ra off s) rfl rfl h (s.load_imem _ hp hl ha h14 h13)
  case regs =>
    intro s t rt ra off h hl
    refine ends_load (r := execLw t rt ra off s) rfl rfl h ?_
    simp only [s.load_regs _ hl, regLoad_word]
  case user => exact fun s t rt ra off h hp ha => ends_load (r := execLw t rt ra off s) rfl rfl h (s.load_user _ hp ha)

/-- Settles O45: the outcome of a store by the region it addresses (`store_data`, `store_loc`, `store_rom`). -/
theorem storeRows : Obligations.StoreRows := by
  refine ⟨?sb, ?sbLoc, ?sh, ?shLoc, ?sw, ?swLoc, ?rom⟩
  case sb => exact fun s t rt ra off h hd => ends_store (r := execSb t rt ra off s) rfl rfl h (s.store_data hd)
  case sbLoc => exact fun s t rt ra off h hl ha => ends_store (r := execSb t rt ra off s) rfl rfl h (s.store_loc hl ha)
  case sh => exact fun s t rt ra off h hd => ends_store (r := execSh t rt ra off s) rfl rfl h (s.store_data hd)
  case shLoc => exact fun s t rt ra off h hl ha => ends_store (r := execSh t rt ra off s) rfl rfl h (s.store_loc hl ha)
  case sw => exact fun s t rt ra off h hd => ends_store (r := execSw t rt ra off s) rfl rfl h (s.store_data hd)
  case swLoc => exact fun s t rt ra off h hl ha => ends_store (r := execSw t rt ra off s) rfl rfl h (s.store_loc hl ha)
  case rom => exact fun s t rt ra off h hl => ends_store (r := execSw t rt ra off s) rfl rfl h (s.store_rom _ hl)

/-! ### Branches and jumps -/

/-- Settles O46: each branch by its condition, which the words' values decide. -/
theorem branchRows : Obligations.BranchRows := by
  refine ⟨?beq, ?beqNot, ?bne, ?bneNot, ?blt, ?bltNot, ?bge, ?bgeNot, ?bltu, ?bltuNot, ?bgeu, ?bgeuNot, ?jal, ?jalr, ?illegal⟩
  case beq => exact fun s t ra rb off h hc => ends_branch (r := execBeq t ra rb off s) rfl rfl h (by simpa using hc)
  case beqNot => exact fun s t ra rb off h hc => ends_branch_not (r := execBeq t ra rb off s) rfl rfl h (by simpa using hc)
  case bne => exact fun s t ra rb off h hc => ends_branch (r := execBne t ra rb off s) rfl rfl h (by simpa using hc)
  case bneNot => exact fun s t ra rb off h hc => ends_branch_not (r := execBne t ra rb off s) rfl rfl h (by simpa using hc)
  case blt => exact fun s t ra rb off h hc => ends_branch (r := execBlt t ra rb off s) rfl rfl h (by simpa [slt_decide] using hc)
  case bltNot => exact fun s t ra rb off h hc => ends_branch_not (r := execBlt t ra rb off s) rfl rfl h (by simpa [slt_decide] using hc)
  case bge => exact fun s t ra rb off h hc => ends_branch (r := execBge t ra rb off s) rfl rfl h (by simpa [slt_decide] using hc)
  case bgeNot => exact fun s t ra rb off h hc => ends_branch_not (r := execBge t ra rb off s) rfl rfl h (by simpa [slt_decide] using hc)
  case bltu => exact fun s t ra rb off h hc => ends_branch (r := execBltu t ra rb off s) rfl rfl h (by simpa [ult_decide] using hc)
  case bltuNot => exact fun s t ra rb off h hc => ends_branch_not (r := execBltu t ra rb off s) rfl rfl h (by simpa [ult_decide] using hc)
  case bgeu => exact fun s t ra rb off h hc => ends_branch (r := execBgeu t ra rb off s) rfl rfl h (by simpa [ult_decide] using hc)
  case bgeuNot => exact fun s t ra rb off h hc => ends_branch_not (r := execBgeu t ra rb off s) rfl rfl h (by simpa [ult_decide] using hc)
  case jal => exact fun s t rd off h => ends_jump (r := execJal t rd off s) rfl rfl h
  case jalr => exact fun s t rd ra imm h => ends_jump (r := execJalr t rd ra imm s) rfl rfl h
  case illegal =>
    intro s t w h hw
    refine ends_act (r := execIllegalEncoding t w s) rfl rfl (alive_of_fetches h) ?_
    rw [hw, if_neg (by decide), issue_fetches _ h]

/-! ### Primitives -/

/-- Settles O47: each primitive answers what its own definition gives of the stalled thread; AADD and CAS are `atomic`. -/
theorem primitiveRows : Obligations.PrimitiveRows := by
  refine ⟨?prd, ?pwr, ?pwrm, ?psnd, ?prcv, ?take, ?takeq, ?give, ?cancel, ?qflush, ?qget, ?qput, ?rget, ?rdone, ?aadd, ?aaddLoc,
    ?cas, ?casLoc, ?epost, ?epostLow⟩
  case prd => exact fun s t rd ra rb rc p h hv => ends_prim (r := execPrd t rd ra rb rc s) rfl rfl h nofun (by simpa using hv)
  case pwr => exact fun s t rd ra rb rc p h hv => ends_prim (r := execPwr t rd ra rb rc s) rfl rfl h nofun (by simpa using hv)
  case pwrm => exact fun s t rd ra rb rc p h hv => ends_prim (r := execPwrm t rd ra rb rc s) rfl rfl h nofun (by simpa using hv)
  case psnd => exact fun s t rd ra rb p h hp hv => ends_prim (r := execPsnd t rd ra rb s) rfl rfl h (fun _ => hp) (by simpa using hv)
  case prcv => exact fun s t rd ra rb p h hp hv => ends_prim (r := execPrcv t rd ra rb s) rfl rfl h (fun _ => hp) (by simpa using hv)
  case take => exact fun s t rd ra rb p h hp hv => ends_prim (r := execTake t rd ra rb s) rfl rfl h (fun _ => hp) (by simpa using hv)
  case takeq => exact fun s t rd ra rb p h hp hv => ends_prim (r := execTakeq t rd ra rb s) rfl rfl h (fun _ => hp) (by simpa using hv)
  case give => exact fun s t rd ra rb p h hp hv => ends_prim (r := execGive t rd ra rb s) rfl rfl h (fun _ => hp) (by simpa using hv)
  case cancel => exact fun s t rd ra p h hp hv => ends_prim (r := execCancel t rd ra s) rfl rfl h (fun _ => hp) (by simpa using hv)
  case qflush => exact fun s t rd ra p h hp hv => ends_prim (r := execQflush t rd ra s) rfl rfl h (fun _ => hp) (by simpa using hv)
  case qget =>
    exact fun s t rd ra rb rc p h hp hv => ends_prim (r := execQget t rd ra rb rc s) rfl rfl h (fun _ => hp) (by simpa using hv)
  case qput =>
    exact fun s t rd ra rb rc p h hp hv => ends_prim (r := execQput t rd ra rb rc s) rfl rfl h (fun _ => hp) (by simpa using hv)
  case rget => exact fun s t rd ra rb p h hp hv => ends_prim (r := execRget t rd ra rb s) rfl rfl h (fun _ => hp) (by simpa using hv)
  case rdone =>
    exact fun s t rd ra rb rc p h hp hv => ends_prim (r := execRdone t rd ra rb rc s) rfl rfl h (fun _ => hp) (by simpa using hv)
  case aadd => exact fun s t rd ra rb h hd => ends_issue (r := execAadd t rd ra rb s) rfl rfl h (s.atomic_data _ hd)
  case aaddLoc => exact fun s t rd ra rb h hd => ends_issue (r := execAadd t rd ra rb s) rfl rfl h (s.atomic_loc _ hd)
  case cas => exact fun s t rd ra rb rc h hd => ends_issue (r := execCas t rd ra rb rc s) rfl rfl h (s.atomic_data _ hd)
  case casLoc => exact fun s t rd ra rb rc h hd => ends_issue (r := execCas t rd ra rb rc s) rfl rfl h (s.atomic_loc _ hd)
  case epost =>
    intro s t rd ra rb h h4 h255 h63 hp
    refine ends_issue (r := execEpost t rd ra rb s) rfl rfl h ?_
    dsimp only
    rw [if_neg (by omega), if_neg (by simp [hp])]
  case epostLow =>
    intro s t rd ra rb h h4
    exact ends_issue (r := execEpost t rd ra rb s) rfl rfl h (if_pos (.inl h4))

/-- Settles O48: a system primitive looks at the privilege before anything else (`ends_prim_user`). -/
theorem privilegedPrimitives : Obligations.PrivilegedPrimitives := by
  refine ⟨?psnd, ?prcv, ?take, ?takeq, ?give, ?cancel, ?qflush, ?qget, ?qput, ?rget, ?rdone⟩
  case psnd => exact fun s t rd ra rb h hp => ends_prim_user (r := execPsnd t rd ra rb s) rfl rfl h hp
  case prcv => exact fun s t rd ra rb h hp => ends_prim_user (r := execPrcv t rd ra rb s) rfl rfl h hp
  case take => exact fun s t rd ra rb h hp => ends_prim_user (r := execTake t rd ra rb s) rfl rfl h hp
  case takeq => exact fun s t rd ra rb h hp => ends_prim_user (r := execTakeq t rd ra rb s) rfl rfl h hp
  case give => exact fun s t rd ra rb h hp => ends_prim_user (r := execGive t rd ra rb s) rfl rfl h hp
  case cancel => exact fun s t rd ra h hp => ends_prim_user (r := execCancel t rd ra s) rfl rfl h hp
  case qflush => exact fun s t rd ra h hp => ends_prim_user (r := execQflush t rd ra s) rfl rfl h hp
  case qget => exact fun s t rd ra rb rc h hp => ends_prim_user (r := execQget t rd ra rb rc s) rfl rfl h hp
  case qput => exact fun s t rd ra rb rc h hp => ends_prim_user (r := execQput t rd ra rb rc s) rfl rfl h hp
  case rget => exact fun s t rd ra rb h hp => ends_prim_user (r := execRget t rd ra rb s) rfl rfl h hp
  case rdone => exact fun s t rd ra rb rc h hp => ends_prim_user (r := execRdone t rd ra rb rc s) rfl rfl h hp

end Sys2Proof.Machine
end

section
/-!
SUPPORT. Events, timers, thread commands and request mailboxes.
-/

namespace Sys2Proof.Machine

namespace State

variable (s : State) (t : Nat)

@[simp] theorem nextPc_thread : (s.nextPc t).thread t = { s.thread t with pc := (s.thread t).pc + 4 } := by simp [nextPc]

@[simp] theorem nextPc_timer (j : Nat) : (s.nextPc t).timer t j = s.timer t j := by simp [timer]

/-- A timer that is set. -/
theorem timerSet_timer (j v : Nat) (p : Bool) : (s.timerSet t j v p).timer t j =
    if v = 0 then {} else { on := true, due := s.timerDue v, reload := if p then v else 0 } := by
  simp [timerSet, timer]

theorem timerSet_pc (j v : Nat) (p : Bool) : ((s.timerSet t j v p).thread t).pc = (s.thread t).pc := by simp [timerSet]

theorem tDone_thread (x : Nat) : (s.tDone t).thread x = s.thread x := rfl

@[simp] theorem tDone_result : (s.tDone t).get (TK_TCTL.RESULT t) = 0 := by
  change (s.set (TK_TCTL.RESULT t) 0).get (TK_TCTL.RESULT t) = 0
  simp

/-- A thread command carried out writes RESULT alone. -/
theorem tDone_keepsFlds : s.KeepsFlds (s.tDone t) [TK_TCTL.RESULT t] := by
  intro g hg
  exact get_set_other s _ g 0 (hg _ (List.mem_singleton.2 rfl))

end State

open State

/-- Settles O49: each instruction's effect on its own thread. -/
theorem eventRows : Obligations.EventRows := by
  refine ⟨?wait, ?waitBlocks, ?wake, ?etest, ?etestNone, ?evs, ?evc, ?evr, ?evpr, ?tset, ?tsetStop, ?trd, ?trap, ?eret, ?eretNone, ?tid⟩
  case wait =>
    intro s t rd e h he
    refine ends_issue (r := execWait t rd s) rfl rfl h ?_
    rw [he]
  case waitBlocks =>
    intro s t rd h he
    refine ends_issue (r := execWait t rd s) rfl rfl h ?_
    rw [he]
    simp
  case wake => exact fun s t ha hw => ends_act (r := execWaitWake t s) rfl rfl ha (if_pos hw)
  case etest =>
    intro s t rd e h he
    refine ends_issue (r := execEtest t rd s) rfl rfl h ?_
    rw [he]
  case etestNone =>
    intro s t rd h he
    refine ends_issue (r := execEtest t rd s) rfl rfl h ?_
    rw [he]
  case evs => exact fun s t i ra h => ends_issue (r := execEvs t i ra s) rfl rfl h (by simp)
  case evc => exact fun s t i ra h => ends_issue (r := execEvc t i ra s) rfl rfl h (by simp)
  case evr => exact fun s t rd i h => ends_issue (r := execEvr t rd i s) rfl rfl h rfl
  case evpr => exact fun s t rd i h => ends_issue (r := execEvpr t rd i s) rfl rfl h rfl
  case tset =>
    intro s t j p ra h hv
    have hn : (s.g t ra).toNat ≠ 0 := fun h0 => hv (BitVec.eq_of_toNat_eq h0)
    refine ends_issue (r := execTset t j p ra s) rfl rfl h ?_
    simp [timerSet_timer, timerSet_pc, timerSet_flds, hn, timerDue]
  case tsetStop =>
    intro s t j p ra h hv
    refine ends_issue (r := execTset t j p ra s) rfl rfl h ?_
    simp [timerSet_timer, timerSet_pc, hv]
  case trd => exact fun s t rd j h => ends_issue (r := execTrd t rd j s) rfl rfl h rfl
  case trap => exact fun s t code h => ends_issue (r := execTrap t code s) rfl rfl h rfl
  case eret => exact fun s t h hp he => ends_issue (r := execEret t s) rfl rfl h (by simp [hp, he])
  case eretNone => exact fun s t h he => ends_issue (r := execEret t s) rfl rfl h (by simp [he])
  case tid => exact fun s t rd h => ends_issue (r := execTid t rd s) rfl rfl h rfl

/-! ### Thread commands and mailboxes -/

/-- Settles O50: each command by the thread's state; a request enters the mailbox or is stalled. -/
theorem threadCommandRows : Obligations.ThreadCommandRows := by
  refine ⟨?start, ?startNot, ?halt, ?haltNot, ?resume, ?stop, ?stopStall, ?complete, ?completeStop, ?timer, ?timerOff, ?entry, ?long,
    ?timeout⟩
  case start =>
    intro s t ha ho hm
    refine ends_act (r := execStart t s) rfl rfl ha ?_
    simp only [tStart, ho, ne_eq, hm, not_false_eq_true, and_self, if_true, tDone_thread, modThread_thread_same, tDone_result, true_and]
    exact ⟨rfl, rfl, tDone_keepsFlds _ t⟩
  case startNot =>
    intro s t ha ho
    refine ends_act (r := execStart t s) rfl rfl ha ?_
    rw [tStart, if_neg fun h => ho h.1]
    exact ⟨rfl, rfl⟩
  case halt =>
    intro s t ha hs
    refine ends_act (r := execHalt t s) rfl rfl ha ?_
    rw [tHalt]
    rcases hs with h | h | h <;> rw [h]
  case haltNot =>
    intro s t ha hs
    refine ends_act (r := execHalt t s) rfl rfl ha ?_
    rw [tHalt, hs]
  case resume =>
    intro s t ha hs hm
    refine ends_act (r := execResume t s) rfl rfl ha ?_
    simp only [tResume, hs, ne_eq, hm, not_false_eq_true, and_self, if_true, tDone_thread, modThread_thread_same, tDone_result, true_and]
    exact tDone_keepsFlds _ t
  case stop =>
    intro s t ha hs
    refine ends_act (r := execStop t s) rfl rfl ha ?_
    rw [tStop, hs]
  case stopStall =>
    intro s t ha hs
    refine ends_act (r := execStop t s) rfl rfl ha ?_
    rw [tStop, hs]
    simp [tDone_thread, hs]
  case complete =>
    intro s t ha hs hw hc
    refine ends_act (r := execOperationComplete t s) rfl rfl ha ?_
    simp [opComplete, hs, hw, hc]
  case completeStop =>
    intro s t ha hs hw hc
    refine ends_act (r := execOperationComplete t s) rfl rfl ha ?_
    simp [opComplete, hs, hw, hc]
  case timer =>
    intro s t j ha ho hd hr hs
    refine ends_act (r := execThreadTimerExpiry t j s) rfl rfl ha ?_
    simp [ho, hd, hr, hs]
  case timerOff =>
    intro s t j ha ho
    refine ends_act (r := execThreadTimerExpiry t j s) rfl rfl ha ?_
    simp [ho]
  case entry =>
    intro s u target w1 w2 data hh ht hv hl hm
    refine ends_act (r := execHostRequestEntry u target false w1 w2 data s) rfl rfl (alive_of_hostSide hh) ?_
    have hold : ((s.mbox u).filter fun m => m.kind == 0 && m.target == target) = [] :=
      List.filter_eq_nil_iff.2 fun m hm' => by simp [hm m hm']
    have hlen : ¬ 52 < data.length := by omega
    rw [atU_hostSide _ hh]
    simp [ht, hv, hlen, hold]
  case long =>
    intro s u target w1 w2 data hh ht hv hl
    refine ends_act (r := execHostRequestEntry u target false w1 w2 data s) rfl rfl (alive_of_hostSide hh) ?_
    rw [atU_hostSide _ hh]
    simp [ht, hv, hl]
  case timeout =>
    intro s u tag m hh hm htag
    refine ends_act (r := execHostRequestTimeout u tag s) rfl rfl (alive_of_hostSide hh) ?_
    rw [atU_hostSide _ hh, if_pos (List.any_eq_true.2 ⟨m, hm, by simp [htag]⟩)]

end Sys2Proof.Machine
end

section
/-!
SUPPORT. Boot, fuses and UPDATE (chapter 12).
-/

namespace Sys2Proof.Machine

namespace State

variable (s : State)

/-- A record touches the log, and the count of lost records. -/
theorem logRec_eq (kind code arg0 arg1 : Nat) : ∃ c l, s.logRec kind code arg0 arg1 = { s with cnts := c, log := l } := by
  unfold logRec
  split
  · exact ⟨s.cnts, _, rfl⟩
  · exact ⟨_, _, rfl⟩

/-- An event touches its thread, or the counts of events lost or coalesced. -/
theorem post_eq (t e : Nat) : ∃ c th, s.post t e = { s with cnts := c, threads := th } := by
  unfold post
  split
  · exact ⟨_, s.threads, rfl⟩
  · split
    · exact ⟨_, s.threads, rfl⟩
    · exact ⟨s.cnts, _, rfl⟩

theorem postRouted_eq (e : Nat) : ∃ c th, s.postRouted e = { s with cnts := c, threads := th } := by
  unfold postRouted
  split
  · exact s.post_eq ..
  · exact ⟨_, s.threads, rfl⟩

/-- The note of a mode change touches counters, log and threads alone. -/
theorem modeNote_eq (old : State) : ∃ c l th, s.modeNote old = { s with cnts := c, log := l, threads := th } := by
  unfold modeNote
  split
  · exact ⟨s.cnts, s.log, s.threads, rfl⟩
  · obtain ⟨c, l, hl⟩ := s.logRec_eq 0x0B 0x02 0 s.modeWord
    obtain ⟨c', th, hp⟩ := (s.logRec 0x0B 0x02 0 s.modeWord).postRouted_eq 11
    exact ⟨c', l, th, by rw [hp, hl]⟩

@[simp] theorem modeNote_boot (old : State) : (s.modeNote old).boot = s.boot := by
  obtain ⟨c, l, th, h⟩ := s.modeNote_eq old
  rw [h]

@[simp] theorem modeNote_fab (old : State) : (s.modeNote old).fab = s.fab := by
  obtain ⟨c, l, th, h⟩ := s.modeNote_eq old
  rw [h]

/-! ### Refusals -/

theorem updRefuse_result {r : RC} (h : r.code < 2 ^ 4) : (s.updRefuse r).get G_UPD_CTL.RESULT = r.code := by
  change (s.set G_UPD_CTL.RESULT r.code).get G_UPD_CTL.RESULT = r.code
  rw [get_set_same]
  exact Nat.mod_eq_of_lt h

/-! ### UPDATE commands -/

theorem updBegin_refused {m : Master} (h : s.get G_UPD_ST.ACTIVE ≠ 0 ∨ m = .boot ∨ s.on G_READY.TORIK = false) :
    s.updBegin m = s.updRefuse .wrongState := by
  refine if_pos ?_
  rcases h with h | h | h
  · exact .inl (s.on_true h)
  · exact .inr (.inr (.inr (.inl h)))
  · exact .inr (.inr (.inr (.inr h)))

theorem updBegin_taken {m : Master} (ha : s.get G_UPD_ST.ACTIVE = 0) (h1 : s.mode ≠ .selftest) (h2 : s.mode ≠ .safe) (hm : m ≠ .boot)
    (hr : s.on G_READY.TORIK = true) : s.updBegin m =
      (((((s.set G_UPD_ST.ACTIVE 1).set G_UPD_ST.ABORTED 0).set G_UPD_ST.OWNER (ownerCode m)).modBoot fun b =>
        { b with owner := some m }).updDone).modeNote s := by
  refine if_neg ?_
  simp [s.on_false ha, h1, h2, hm, hr]

/-- Erasing a sector leaves every other byte of the flash. -/
theorem eraseAt_flash (a x : Nat) : Tbl.get (s.eraseAt a).boot.flash 0xFF x =
    if a ≤ x ∧ x < a + 4096 then 0xFF else Tbl.get s.boot.flash 0xFF x := by
  change Tbl.get (s.boot.flash.filter fun e => decide (e.1 < a) || decide (a + 4096 ≤ e.1)) 0xFF x = _
  generalize s.boot.flash = l
  induction l with
  | nil => simp [Tbl.get]
  | cons e l ih =>
    by_cases hk : e.1 = x
    · by_cases hin : a ≤ x ∧ x < a + 4096
      · have : (decide (e.1 < a) || decide (a + 4096 ≤ e.1)) = false := by simp; omega
        rw [List.filter_cons, if_neg (by simp [this]), ih, if_pos hin, if_pos hin]
      · have : (decide (e.1 < a) || decide (a + 4096 ≤ e.1)) = true := by simp; omega
        rw [List.filter_cons, if_pos this, if_neg hin]
        simp [Tbl.get, hk]
    · have hget : Tbl.get (e :: l) 0xFF x = Tbl.get l 0xFF x := by simp [Tbl.get, hk]
      rw [hget, List.filter_cons]
      split
      · rw [← ih]; simp [Tbl.get, hk]
      · exact ih

/-- A page programmed byte by byte: each byte of the page is cut by its own value, every other byte stays. -/
theorem programPage_get (f : Tbl Byte) (v : Nat → Byte) (a n x : Nat) :
    Tbl.get ((List.range n).foldl (fun f i => Tbl.set f 0xFF (a + i) (Tbl.get f 0xFF (a + i) &&& v i)) f) 0xFF x =
      if a ≤ x ∧ x < a + n then Tbl.get f 0xFF x &&& v (x - a) else Tbl.get f 0xFF x := by
  induction n with
  | zero => rw [if_neg (by omega)]; rfl
  | succ n ih =>
    rw [List.range_succ, List.foldl_append, List.foldl_cons, List.foldl_nil, Tbl.get_set]
    by_cases hx : x = a + n
    · subst hx
      have hnot : ¬ (a ≤ a + n ∧ a + n < a + n) := by omega
      rw [if_pos rfl, ih, if_neg hnot, if_pos (by omega), Nat.add_sub_cancel_left]
    · have hiff : (a ≤ x ∧ x < a + (n + 1)) ↔ (a ≤ x ∧ x < a + n) := by omega
      rw [if_neg hx, ih]
      simp only [hiff]

theorem programAt_flash (a x : Nat) : Tbl.get (s.programAt a).boot.flash 0xFF x =
    if a ≤ x ∧ x < a + 256 then Tbl.get s.boot.flash 0xFF x &&& s.updByte (x - a) else Tbl.get s.boot.flash 0xFF x := by
  unfold programAt modBoot
  dsimp only
  rw [programPage_get]

/-- Starting a flash operation keeps what the flash holds. -/
theorem opStarted_flash (op : FlashOp) (o : Out) :
    ((((s.modBoot fun b => { b with op := op }).set G_UPD_ST.BUSY 1).emit o).updDone).boot.flash = s.boot.flash := rfl

/-- The flash reports ready after a check: BUSY falls and VERIFY gives the code. -/
theorem flashReady_verify {b : Nat} (hb : s.get G_UPD_ST.BUSY ≠ 0) (hop : s.boot.op = .verify b) (hab : s.boot.abortAfter = false)
    (hre : s.boot.resetAfter = none) : s.flashReady =
      ((s.set G_UPD_ST.VERIFY (s.bankCheck b)).set G_UPD_ST.BUSY 0).modBoot fun x =>
        { x with op := .none, abortAfter := false, resetAfter := none } := by
  unfold flashReady
  rw [hop, hab, hre, if_pos (s.on_true hb)]
  dsimp only
  rw [if_neg Bool.false_ne_true]

/-- What such an end leaves, whatever the code. -/
theorem verifyEnd_effects {c : Nat} {t : State} (h : t = ((s.set G_UPD_ST.VERIFY c).set G_UPD_ST.BUSY 0).modBoot fun x =>
    { x with op := .none, abortAfter := false, resetAfter := none }) : t.get G_UPD_ST.BUSY = 0 ∧ t.get G_UPD_ST.VERIFY = c % 16 ∧
      t.boot.op = .none ∧ s.KeepsFlds t [G_UPD_ST.BUSY, G_UPD_ST.VERIFY] := by
  subst h
  refine ⟨by simp, ?_, rfl, fun g hg => ?_⟩
  · simp (disch := decide) [get_set_other]
  · simp at hg
    simp [get_set_other, hg]

end State

open State

/-- Settles O51: each command by what it requires; the flash through `eraseAt_flash` and `programAt_flash`. -/
theorem bootRows : Obligations.BootRows := by
  refine ⟨?confirm, ?confirmNot, ?confirmTimeout, ?noTimeout, ?fuse, ?fuseLocked, ?fuseUser, ?begin, ?beginNot, ?erase, ?eraseRange,
    ?program, ?programRunning, ?verify, ?updEnd, ?endForeign, ?complete, ?idle, ?timeout, ?timeoutIdle, ?image, ?imageNot⟩
  case confirm =>
    intro s ha hw
    refine ends_act (r := execConfirm s) rfl rfl ha ?_
    rw [State.confirm, if_pos hw]
    refine ⟨?_, ?_, rfl, rfl, fun g hg => ?_⟩
    · simp (disch := decide) [get_set_other]
    · simp (disch := decide) [get_set_other]
    · simp at hg
      simp [get_set_other, hg]
  case confirmNot =>
    intro s ha hw
    refine ends_act (r := execConfirm s) rfl rfl ha ?_
    rw [State.confirm, if_neg (by simp [hw])]
    exact ⟨s.cnt_inc_same _, rfl, rfl⟩
  case confirmTimeout => exact fun s ha hw => ends_act (r := execConfirmTimeout s) rfl rfl ha (if_pos hw)
  case noTimeout => exact fun s ha hw => ends_act (r := execConfirmTimeout s) rfl rfl ha (if_neg (by simp [hw]))
  case fuse =>
    intro s m i v ha hm hi hl
    have h8 : i ≠ 8 := by omega
    refine ends_act (r := execFuseWrite m i v s) rfl rfl ha ?_
    rw [wrFuse]
    simp only [hm, fuseFld, h8, decide_false, Bool.false_and, hl, Bool.not_true, Bool.false_eq_true, if_false]
    refine ⟨by simp, rfl, rfl, fun g hg => ?_⟩
    simp at hg
    simp [get_set_other, hg]
  case fuseLocked =>
    intro s m i v ha hm hi hl
    have h8 : i ≠ 8 := by omega
    refine ends_act (r := execFuseWrite m i v s) rfl rfl ha ?_
    rw [wrFuse]
    simp only [hm, fuseFld, h8, decide_false, Bool.false_and, hl, Bool.not_true, Bool.false_eq_true, if_false, if_true]
    exact ⟨(logRec_cnt_other _ _ _ _ _ _ (by decide)).trans (s.cnt_inc_same _), rfl, logRec_flds ..⟩
  case fuseUser => exact fun s m i v ha hm => ends_act (r := execFuseWrite m i v s) rfl rfl ha (if_pos (by simp [hm]))
  case begin =>
    intro s m ha h0 h1 h2 hm hr
    refine ends_act (r := execUpdBegin m s) rfl rfl ha ?_
    have hc : ownerCode m < 8 := by cases m <;> simp [ownerCode]
    rw [s.updBegin_taken h0 h1 h2 hm hr]
    refine ⟨?_, ?_, ?_, ?_, by rw [modeNote_boot]; rfl, by rw [modeNote_fab]; rfl, fun g hg => ?_⟩
    · simp (disch := decide) [updDone, get_set_other]
    · simp (disch := decide) [updDone, get_set_other]
    · simp (disch := decide) [updDone, get_set_other, Nat.mod_eq_of_lt hc]
    · simp [updDone]
    · simp at hg
      simp [updDone, get_set_other, hg]
  case beginNot =>
    intro s m ha h
    refine ends_act (r := execUpdBegin m s) rfl rfl ha ?_
    rw [s.updBegin_refused h]
    exact ⟨rfl, s.updRefuse_result (by decide), rfl⟩
  case erase =>
    intro s m ha hf hb ho
    refine ends_act (r := execErase m s) rfl rfl ha ?_
    rw [updErase, if_neg (by simp [hf, hb]), if_neg (fun h => h ho)]
    refine ⟨fun a => by rw [opStarted_flash, eraseAt_flash], ?_, by simp [updDone], rfl, fun g hg => ?_⟩
    · simp (disch := decide) [updDone, get_set_other]
    · simp at hg
      simp [updDone, get_set_other, eraseAt, hg]
  case eraseRange =>
    intro s m ha hf hb ho
    refine ends_act (r := execErase m s) rfl rfl ha ?_
    rw [updErase, if_neg (by simp [hf, hb]), if_pos ho]
  case program =>
    intro s m ha hf hb ho
    refine ends_act (r := execProgram m s) rfl rfl ha ?_
    rw [updProgram, if_neg (by simp [hf, hb]), if_neg (fun h => h ho)]
    refine ⟨fun a => by rw [opStarted_flash, programAt_flash], ?_, by simp [updDone], rfl, fun g hg => ?_⟩
    · simp (disch := decide) [updDone, get_set_other]
    · simp at hg
      simp [updDone, get_set_other, programAt, hg]
  case programRunning => exact fun s m ha hf hb => ends_act (r := execProgram m s) rfl rfl ha (if_pos (by simp [hb]))
  case verify =>
    intro s m ha hf
    refine ends_act (r := execVerify m s) rfl rfl ha ?_
    rw [updVerify, if_neg (by simp [hf])]
    refine ⟨rfl, ?_, by simp [updDone], rfl, fun g hg => ?_⟩
    · simp (disch := decide) [updDone, get_set_other]
    · simp at hg
      simp [updDone, get_set_other, hg]
  case updEnd =>
    intro s m ha hf
    refine ends_act (r := execUpdEnd m s) rfl rfl ha ?_
    rw [updEnd, if_neg (by simp [hf])]
    refine ⟨?_, ?_, by rw [modeNote_boot]; rfl, by simp [updDone], by rw [modeNote_fab]; rfl, fun g hg => ?_⟩
    · simp (disch := decide) [updDone, get_set_other]
    · simp (disch := decide) [updDone, get_set_other]
    · simp at hg
      simp [updDone, get_set_other, hg]
  case endForeign => exact fun s m ha hf => ends_act (r := execUpdEnd m s) rfl rfl ha (if_pos hf)
  case complete =>
    intro s b ha hb hop hab hre
    exact ends_act (r := execFlashOpComplete s) rfl rfl ha (s.verifyEnd_effects (s.flashReady_verify hb hop hab hre))
  case idle => exact fun s ha hb => ends_act (r := execFlashOpComplete s) rfl rfl ha (if_neg (by simp [on, hb]))
  case timeout =>
    intro s ha h1 h0
    refine ends_act (r := execUpdateTimeout s) rfl rfl ha ?_
    rw [if_pos (s.on_true h1), updateAbort, if_pos (s.on_true h1), if_neg (by simp [on, h0])]
    refine ⟨?_, ?_, ?_, by rw [modeNote_boot]; rfl, fun g hg => ?_⟩
    · simp (disch := decide) [get_set_other]
    · simp (disch := decide) [get_set_other]
    · simp
    · simp at hg
      simp [get_set_other, hg]
  case timeoutIdle => exact fun s ha h0 => ends_act (r := execUpdateTimeout s) rfl rfl ha (if_neg (by simp [on, h0]))
  case image => exact fun s a b ha hm hu ht => ends_act (r := execImageLoaded a b s) rfl rfl ha (if_pos ⟨hm, hu, ht⟩)
  case imageNot => exact fun s a b ha hm => ends_act (r := execImageLoaded a b s) rfl rfl ha (if_neg fun h => hm h.1)

end Sys2Proof.Machine
end

section
/-!
SUPPORT. The fault collector's commands (chapter 17).
-/

namespace Sys2Proof.Machine

namespace State

variable (s : State)

/-- A source with no action of its own only reaches the collector. -/
theorem sourceOnset_plain {i : Nat} (inst detail : Nat) (h : 24 ≤ i) :
    s.sourceOnset i inst detail = if 46 ≤ i ∧ i ≤ 55 then s else s.faultOnset i inst detail := by
  unfold sourceOnset
  split
  all_goals try omega
  rfl

theorem ventMode_le : s.ventMode.toNat % 2 = s.ventMode.toNat := by cases s.ventMode <;> rfl

/-- The operand of an ARM, taken apart as a write of FC_INJ is. -/
theorem armWord {i inst : Nat} (hi : i < 64) (hn : inst < 2 ^ 20) : (1 + 4 * i + 2 ^ 8 * inst) % 4 = 1 ∧
    (1 + 4 * i + 2 ^ 8 * inst) / 4 % 64 = i ∧ (1 + 4 * i + 2 ^ 8 * inst) / 2 ^ 8 = inst ∧
    (1 + 4 * i + 2 ^ 8 * inst) / 2 ^ 8 % 2 ^ 20 = inst := by
  omega

/-- SRC and INST as a write of FC_INJ leaves them, before its command runs. -/
def injNamed (i inst : Nat) : State := (s.set FC_INJ.INST inst).set FC_INJ.SRC (i + 64 * inst)

theorem wrInj_arm {i inst : Nat} (hi : i < 64) (hn : inst < 2 ^ 20) :
    s.wrInj (1 + 4 * i + 2 ^ 8 * inst) = (s.injNamed i inst).injArm i inst := by
  obtain ⟨h1, h2, h3, h4⟩ := armWord hi hn
  have h5 : (1 + 4 * i + 2 ^ 8 * inst) / 4 = i + 64 * inst := by omega
  rw [wrInj, h1, h2, h4, h3, h5]
  rfl

theorem injNamed_get_other (i inst : Nat) {g : Fld} (h1 : g.key ≠ FC_INJ.INST.key) (h2 : g.key ≠ FC_INJ.SRC.key) :
    (s.injNamed i inst).get g = s.get g := by
  simp [injNamed, get_set_other, h1, h2]

/-- SRC and INST bear neither on the mode an injection needs nor on the bank it names. -/
theorem injNamed_injMode (i inst : Nat) : (s.injNamed i inst).injMode = s.injMode := by
  simp (disch := decide) only [injMode, cService, on, injNamed, get_set_other]
  rfl

theorem injNamed_bankBar (i inst a b : Nat) : (s.injNamed i inst).injBankBar a b = s.injBankBar a b := by
  simp (disch := decide) [injBankBar, injNamed, get_set_other]

end State

open State

/-- Settles O52: each command by its own condition. -/
theorem faultRows : Obligations.FaultRows := by
  refine ⟨?onset, ?reserved, ?clock, ?hold, ?react, ?restart, ?restartNot, ?auto, ?autoNot, ?kick, ?watchdog, ?watchdogOff, ?checkOk,
    ?checkBad, ?software, ?arm, ?armNot, ?disarm, ?disarmNot, ?expiry⟩
  case onset =>
    intro s i inst detail ha h1 h2
    refine ends_act (r := execFaultOnset i inst detail s) rfl rfl ha ?_
    rw [s.sourceOnset_plain _ _ h1, if_neg (by omega)]
  case reserved =>
    intro s i inst detail ha h1 h2
    refine ends_act (r := execFaultOnset i inst detail s) rfl rfl ha ?_
    rw [s.sourceOnset_plain _ _ (by omega), if_pos ⟨h1, h2⟩]
  case clock => exact fun s inst detail ha => ends_act (r := execFaultOnset 0 inst detail s) rfl rfl ha rfl
  case hold =>
    intro s i ha hv
    refine ends_act (r := execFaultHoldExpiry i s) rfl rfl ha ?_
    rw [stopEnd, if_neg]
    · exact ⟨rfl, rfl, rfl, rfl⟩
    · rw [Bool.and_eq_true, not_and]
      intro _ h
      exact absurd (hv.symm.trans h) Bool.false_ne_true
  case react => exact fun s j v ha => ends_act (r := execReactionClassWrite j v s) rfl rfl ha ⟨rfl, rfl⟩
  case restart =>
    intro s ha hl hs
    refine ends_act (r := execRestart s) rfl rfl ha ?_
    rw [ventRestart, if_neg (by simp [s.on_true hl, hs])]
    refine ⟨?_, ?_, by simp, rfl, fun g hg => ?_⟩
    · simp (disch := decide) [get_set_other]
    · simp (disch := decide) [get_set_other, ventMode_le]
    · simp at hg
      simp [get_set_other, hg]
  case restartNot =>
    intro s ha h
    refine ends_act (r := execRestart s) rfl rfl ha ?_
    rw [ventRestart, if_pos (by rcases h with h | h <;> simp [on, h])]
    refine ⟨by simp [fcRefuse], s.cnt_inc_same _, rfl, fun g hg => ?_, fun a hna => ?_⟩
    · simp at hg
      simp [fcRefuse, get_set_other, hg]
    · exact s.cnt_inc_other _ _ (by simpa using hna)
  case auto =>
    intro s ha hw hv hs hl
    refine ends_act (r := execVentAutoRestart s) rfl rfl ha ?_
    rw [if_pos (by simp [hw, s.on_true hv, hs, s.on_false hl])]
    refine ⟨by simp [ventMode_le], rfl, fun g hg => ?_⟩
    simp at hg
    simp [get_set_other, hg]
  case autoNot => exact fun s ha hw => ends_act (r := execVentAutoRestart s) rfl rfl ha (if_neg (by simp [hw]))
  case kick => exact fun s ha => ends_act (r := execKick s) rfl rfl ha ⟨rfl, rfl⟩
  case watchdog => exact fun s ha hp => ends_act (r := execWatchdogExpiry s) rfl rfl ha (if_pos (s.on_true hp))
  case watchdogOff => exact fun s ha hp => ends_act (r := execWatchdogExpiry s) rfl rfl ha (if_neg (by simp [on, hp]))
  case checkOk => exact fun s d i ha hd => ends_act (r := execConverterCheck d i true s) rfl rfl ha (if_pos hd)
  case checkBad => exact fun s d i ha hd => ends_act (r := execConverterCheck d i false s) rfl rfl ha (if_pos hd)
  case software => exact fun s v ha => ends_act (r := execSoftwareSourceWrite v s) rfl rfl ha ⟨rfl, rfl⟩
  case arm =>
    intro s i inst ha hi hn hm hst hb hr
    refine ends_act (r := execArm i inst s) rfl rfl ha ?_
    have hst' : (s.injNamed i inst).get FC_INJ_ST.STATE ≠ 1 := by rwa [injNamed_get_other _ _ _ (by decide) (by decide)]
    have hsrc : (i + 64 * inst) % 64 = i := by omega
    rw [s.wrInj_arm hi hn, injArm, if_neg (by simp [injNamed_injMode, injNamed_bankBar, hm, hst', hb]), if_neg (by simp [hr])]
    refine ⟨?_, ?_, ?_, ?_, by simp, rfl, rfl, fun g hg => ?_⟩
    · simp (disch := decide) [get_set_other]
    · simp (disch := decide) [get_set_other, Nat.mod_eq_of_lt hi]
    · simp (disch := decide) [injNamed, get_set_other, hsrc]
    · simp (disch := decide) [injNamed, get_set_other]
      omega
    · simp at hg
      simp [injNamed, get_set_other, hg]
  case armNot =>
    intro s i inst ha hi hn hm
    refine ends_act (r := execArm i inst s) rfl rfl ha ?_
    rw [s.wrInj_arm hi hn, injArm, if_pos (by simp [injNamed_injMode, hm])]
    refine ⟨?_, cnt_inc_same _ _, rfl, ?_⟩
    · simp [injRefuse, RC.code]
    · simp (disch := decide) [injRefuse, injNamed, get_set_other]
  case disarm =>
    intro s ha h1
    refine ends_act (r := execDisarm s) rfl rfl ha ?_
    rw [injDisarm, if_pos h1]
    refine ⟨?_, by simp, rfl, fun g hg => ?_⟩
    · simp (disch := decide) [get_set_other]
    · simp at hg
      simp [get_set_other, hg]
  case disarmNot =>
    intro s ha h1
    refine ends_act (r := execDisarm s) rfl rfl ha ?_
    rw [injDisarm, if_neg h1]
    exact ⟨rfl, rfl⟩
  case expiry => exact fun s ha => ends_act (r := execInjectionExpiry s) rfl rfl ha rfl

end Sys2Proof.Machine
end

section
/-!
SUPPORT. Register accesses while the root clock is absent (R458), counter resets, the log engine, the analog test routes, and
management requests.
-/

namespace Sys2Proof.Machine

open State

theorem regAt_capUnits : ∃ r i, regAt (regOf R.G_CAP_UNITS) = some (r, i) := ⟨_, _, rfl⟩

/-- Refutes O53: a write at a guard address answers GUARD with no slot held, the clause says, but says nothing of the root clock. In RUN
with the root clock absent, G_CAP_UNITS is shut out (R458) and its guard address answers WRONG_STATE. -/
theorem not_registerRows : ¬ Obligations.RegisterRows := by
  rintro ⟨-, -, -, -, -, h, -⟩
  obtain ⟨r, i, hr⟩ := regAt_capUnits
  obtain ⟨t, ht, hrc, -⟩ := h { State.reset with mode := .run, pins := { State.reset.pins with clockAbsent := true } } .console
    R.G_CAP_UNITS 0 r i rfl rfl hr rfl
  have he : Host.Outcome.next _ = Host.Outcome.next t := ht
  rw [← Host.Outcome.next.inj he] at hrc
  revert hrc
  decide

/-! ### Counter resets and the log engine -/

namespace State

variable (s : State)

/-- While the log has room a record is kept, and nothing else changes. -/
theorem logRec_room (kind code arg0 arg1 : Nat) (h : s.log.wait.length < 64) :
    ∃ f, s.logRec kind code arg0 arg1 = s.modLog f := ⟨fun _ => _, if_pos h⟩

theorem cntRec_room (m : Master) (a cmd pre : Nat) (h : s.log.wait.length < 64) :
    ∃ f, s.cntRec m a cmd pre = s.modLog f := s.logRec_room _ _ _ _ h

theorem clearOne_cnt {m : Master} {r : RegRow} {i : Nat} (hr : regAt (4 * s.get G_CNT_ADDR.ADDR) = some (r, i)) (hk : r.kind = 1) :
    s.clearOne m = (((s.clearAt 1 (4 * s.get G_CNT_ADDR.ADDR)).set G_CNT_CTL.RESULT 0).cntRec m (4 * s.get G_CNT_ADDR.ADDR) 1 0).answer .ok := by
  simp [clearOne, hr, hk]

theorem clearOne_none {m : Master} (hr : regAt (4 * s.get G_CNT_ADDR.ADDR) = none) :
    s.clearOne m = (s.set G_CNT_CTL.RESULT 2).answer .range := by
  simp [clearOne, hr]

theorem clearAt_cnt (a x : Nat) : (s.clearAt 1 a).cnt x = if x = a then 0 else s.cnt x := by
  change Tbl.get (Tbl.set s.cnts 0 a 0) 0 x = _
  rw [Tbl.get_set]
  rfl

/-- A table whose entries at some keys are dropped reads its default there, and as before elsewhere. -/
theorem get_filter_keys (l : Tbl Nat) (p : Nat → Bool) (x : Nat) :
    Tbl.get (l.filter fun e => !(p e.1)) 0 x = if p x then 0 else Tbl.get l 0 x := by
  induction l with
  | nil => simp [Tbl.get]
  | cons e l ih =>
    rw [List.filter_cons]
    by_cases hk : e.1 = x
    · subst hk
      cases hp : p e.1
      · simp [Tbl.get]
      · simpa [hp] using ih
    · cases hp : p e.1
      · rw [if_pos (by simp)]
        simpa [Tbl.get, hk] using ih
      · rw [if_neg (by simp), ih]
        simp [Tbl.get, hk]

theorem clearWhere_cnt (p : Nat → Bool) (a : Nat) : (s.clearWhere p).cnt a = if p a then 0 else s.cnt a := get_filter_keys ..

theorem clearPrefix_done {m : Master} {p : Nat} (h : p ≤ 12) : s.clearPrefix m p =
    (((s.clearWhere (hasPrefix p)).set G_CNT_CTL.RESULT 0).cntRec m R.G_CNT_CTL 2 p).answer .ok := if_neg (by omega)

/-- Copies of a record to the notice paths change neither log nor fields. -/
theorem notice_log (r : LogRec) (u : Nat) : (s.notice r u).log = s.log ∧ (s.notice r u).flds = s.flds := by
  unfold notice
  split
  · dsimp only
    split <;> exact ⟨rfl, rfl⟩
  · exact ⟨rfl, rfl⟩

theorem allUps_notice_log (r : LogRec) : (s.allUps fun s u => s.notice r u).log = s.log ∧ (s.allUps fun s u => s.notice r u).flds = s.flds := by
  unfold allUps
  generalize List.range (usPorts s.variant) = us
  induction us generalizing s with
  | nil => exact ⟨rfl, rfl⟩
  | cons u us ih =>
    obtain ⟨h1, h2⟩ := ih (s.notice r u)
    obtain ⟨h3, h4⟩ := s.notice_log r u
    exact ⟨h1.trans h3, h2.trans h4⟩

/-- The oldest record is coalesced. -/
theorem logStep_coalesced {r : LogRec} {l : List LogRec} (hw : s.log.wait = r :: l) (hc : s.coalesces r = true) (hd : s.log.dropped = 0) :
    s.logStep = (s.modLog fun x => { x with wait := l }).inc R.G_LOG_COAL_CNT := by
  unfold logStep
  rw [hw]
  dsimp only
  simp only [hc, if_true]
  exact if_neg (by change ¬ 0 < s.log.dropped; omega)

/-- The oldest record is written. -/
theorem logStep_written {r : LogRec} {l : List LogRec} (hw : s.log.wait = r :: l) (hc : s.coalesces r = false) (hd : s.log.dropped = 0) :
    s.logStep = ((s.modLog fun x => { x with wait := l }).modLog fun x => { x with
      slots := Tbl.set x.slots {} (x.count % 4096) r
      count := x.count + 1
      recent := { r with time := s.timeUs } :: x.recent.filter fun y => decide (s.timeUs < y.time + 100) }).allUps fun s u => s.notice r u := by
  unfold logStep
  rw [hw]
  dsimp only
  simp only [hc, Bool.false_eq_true, if_false]
  refine if_neg ?_
  rw [(allUps_notice_log _ r).1]
  change ¬ 0 < s.log.dropped
  omega

/-! ### Analog test routes -/

/-- The operand of an enabled route, taken apart as a write of SV_ATB is. -/
theorem atbOperand {route i : Nat} (hr : route < 256) (hi : i < 256) : (2 ^ 31 + route * 65536 + i) / 2 ^ 31 % 2 = 1 ∧
    (2 ^ 31 + route * 65536 + i) / 65536 % 256 = route ∧ (2 ^ 31 + route * 65536 + i) % 256 = i := by
  omega

/-- A write of SV_ATB with EN = 0. -/
theorem wrAtb_off {v : Nat} (h : v < 2 ^ 31) : ∃ route i, s.wrAtb v =
    ((((((s.set SV_ATB.EN 0).set SV_ATB.ROUTE route).set SV_ATB.INDEX i).set SV_ATB_ST.SETTLED 0).set SV_ATB_ST.ROUTE 0).set
      SV_ATB_ST.INDEX 0).answer .ok := by
  have h0 : v / 2 ^ 31 % 2 = 0 := by omega
  refine ⟨v / 65536 % 256, v % 256, ?_⟩
  unfold wrAtb
  rw [h0]
  exact if_pos rfl

theorem wrAtb_range {route i : Nat} (hr : route < 256) (hi : i < 256) (ho : s.atbOk route i = false) :
    s.wrAtb (2 ^ 31 + route * 65536 + i) = s.atbRefuse .range := by
  obtain ⟨h1, h2, h3⟩ := atbOperand hr hi
  unfold wrAtb
  rw [h1, h2, h3]
  simp [ho]

theorem wrAtb_new {route i : Nat} (hr : route < 256) (hi : i < 256) (ho : s.atbOk route i = true)
    (hd : ∀ d, atbDie route i = some d → s.atbDead d = false) (he : s.get SV_ATB.EN = 0) : s.wrAtb (2 ^ 31 + route * 65536 + i) =
      ((((((s.set SV_ATB.EN 1).set SV_ATB.ROUTE route).set SV_ATB.INDEX i).set SV_ATB_ST.SETTLED 0).set SV_ATB_ST.ROUTE route).set
        SV_ATB_ST.INDEX i).answer .ok := by
  obtain ⟨h1, h2, h3⟩ := atbOperand hr hi
  have hdead : (match atbDie route i with | some d => s.dieHere d && s.atbDead d | none => false) = false := by
    split
    · next d hd' => rw [hd d hd', Bool.and_false]
    · rfl
  unfold wrAtb
  rw [h1, h2, h3]
  dsimp only
  rw [if_neg (by decide), if_neg (by rw [ho, Bool.true_and]; exact ne_true_of_eq_false hdead), if_neg (by simp [ho]),
    if_neg (by simp [s.on_false he])]

end State

/-- Settles O54: what each reset clears, what the log engine does with the oldest record, and the three cases of a write of SV_ATB. -/
theorem counterLogRows : Obligations.CounterLogRows := by
  refine ⟨?one, ?oneNone, ?pfx, ?pfxRange, ?all, ?logIdle, ?logCoalesced, ?logWritten, ?atbOff, ?atbRange, ?atbNew, ?settled, ?unsettled⟩
  case one =>
    intro s m r i ha hr hk hw
    refine ends_act (r := execClearOne m s) rfl rfl ha ?_
    obtain ⟨f, hl⟩ := ((s.clearAt 1 (4 * s.get G_CNT_ADDR.ADDR)).set G_CNT_CTL.RESULT 0).cntRec_room m (4 * s.get G_CNT_ADDR.ADDR) 1 0 hw
    rw [s.clearOne_cnt hr hk, hl]
    refine ⟨(s.clearAt_cnt ..).trans (if_pos rfl), by simp, rfl, fun a hna => ?_, fun g hg => ?_⟩
    · exact (s.clearAt_cnt ..).trans (if_neg (by simpa using hna))
    · simp at hg
      simp [get_set_other, hg, clearAt_get]
  case oneNone =>
    intro s m ha hr
    refine ends_act (r := execClearOne m s) rfl rfl ha ?_
    rw [s.clearOne_none hr]
    refine ⟨by simp, rfl, rfl, fun g hg => ?_⟩
    simp at hg
    simp [get_set_other, hg]
  case pfx =>
    intro s m p ha hp hw
    refine ends_act (r := execClearPrefix m p s) rfl rfl ha ?_
    obtain ⟨f, hl⟩ := (((s.set G_CNT_CTL.PREFIX p).clearWhere (hasPrefix p)).set G_CNT_CTL.RESULT 0).cntRec_room m R.G_CNT_CTL 2 p hw
    rw [clearPrefix_done _ hp, hl]
    have hp' : p % 16 = p := Nat.mod_eq_of_lt (by omega)
    refine ⟨clearWhere_cnt _ _, ?_, by simp, rfl⟩
    simp (disch := decide) [get_set_other, clearWhere_get, hp']
  case pfxRange =>
    intro s m p ha hp
    refine ends_act (r := execClearPrefix m p s) rfl rfl ha ?_
    rw [clearPrefix, if_pos hp]
    exact ⟨by simp, rfl, rfl⟩
  case all =>
    intro s m ha hw
    refine ends_act (r := execClearAll m s) rfl rfl ha ?_
    obtain ⟨f, hl⟩ := ((s.clearWhere fun _ => true).set G_CNT_CTL.RESULT 0).cntRec_room m R.G_CNT_CTL 3 0 hw
    rw [clearAll, hl]
    refine ⟨by simp [clearWhere], by simp [clearWhere], by simp, rfl, fun g hg => ?_⟩
    simp at hg
    simp [get_set_other, hg, clearWhere_get]
  case logIdle =>
    intro s ha hw
    refine ends_act (r := execLogRecordWrite s) rfl rfl ha ?_
    rw [logStep, hw]
  case logCoalesced =>
    intro s r l ha hw hc hd
    refine ends_act (r := execLogRecordWrite s) rfl rfl ha ?_
    rw [s.logStep_coalesced hw hc hd]
    exact ⟨cnt_inc_same _ _, rfl, rfl, rfl⟩
  case logWritten =>
    intro s r l ha hw hc hd
    refine ends_act (r := execLogRecordWrite s) rfl rfl ha ?_
    rw [s.logStep_written hw hc hd, (allUps_notice_log _ r).1, (allUps_notice_log _ r).2]
    exact ⟨rfl, (Tbl.get_set ..).trans (if_pos rfl), rfl, rfl⟩
  case atbOff =>
    intro s v ha hv
    refine ends_act (r := execAtbRouteWrite v s) rfl rfl ha ?_
    obtain ⟨route, i, h⟩ := s.wrAtb_off hv
    rw [h]
    refine ⟨?_, ?_, ?_, by simp, rfl⟩
    all_goals simp (disch := decide) [get_set_other]
  case atbRange =>
    intro s route i ha hr hi ho
    refine ends_act (r := execAtbRouteWrite _ s) rfl rfl ha ?_
    rw [s.wrAtb_range hr hi ho]
    exact ⟨rfl, rfl, s.cnt_inc_same _⟩
  case atbNew =>
    intro s route i ha hr hi ho hd he
    refine ends_act (r := execAtbRouteWrite _ s) rfl rfl ha ?_
    rw [s.wrAtb_new hr hi ho hd he]
    refine ⟨?_, ?_, ?_, ?_, rfl⟩
    all_goals simp (disch := decide) [get_set_other, Nat.mod_eq_of_lt hr, Nat.mod_eq_of_lt hi]
  case settled =>
    intro s ha he
    refine ends_act (r := execAtbSettled s) rfl rfl ha ?_
    rw [if_pos (s.on_true he)]
    refine ⟨by simp, fun g hg => ?_⟩
    simp at hg
    simp [get_set_other, hg]
  case unsettled => exact fun s ha he => ends_act (r := execAtbSettled s) rfl rfl ha (if_neg (by simp [on, he]))

/-! ### Management requests and frames -/

namespace State

variable {s : State} {u : Nat}

theorem mgmtSide_host (h : s.mgmtSide u = true) : s.hostSide u = true ∧ (s.up u).mgmtNow = true := by
  simpa [mgmtSide] using h

/-- A host's vendor request reaches the management function of its tree. -/
theorem atMgmt_side (f : State → State) (h : s.mgmtSide u = true) : s.atMgmt u f = f s := by
  obtain ⟨hh, hm⟩ := mgmtSide_host h
  rw [atMgmt, atU_hostSide _ hh, if_pos hm]

/-- A management frame for this part is served. -/
theorem mgmtIn_mine {seq dest len : Nat} (src hops mc : Nat) (body : List Nat) (f : State → State) (h : s.linkTakes u seq = true)
    (hd : (s.frameIn u seq 0 len).toMe dest = true) : s.mgmtIn u seq dest src hops mc len body f = f (s.frameIn u seq 0 len) := by
  rw [mgmtIn, kAccept_takes _ _ _ h, if_pos hd]

/-- One that has travelled 4,095 hops goes no further. -/
theorem mgmtIn_far {seq dest len hops : Nat} (src mc : Nat) (body : List Nat) (f : State → State) (h : s.linkTakes u seq = true)
    (hd : (s.frameIn u seq 0 len).toMe dest = false) (hh : hops = 4095) :
    s.mgmtIn u seq dest src hops mc len body f = (s.frameIn u seq 0 len).inc R.KL_MGMT_HOP_CNT := by
  rw [mgmtIn, kAccept_takes _ _ _ h, if_neg (by simp [hd]), if_pos hh]

end State

section
variable {c : Instr} {s : State} {r : Res State} {Q : State → Prop} {u : Nat}

/-- A vendor request to a management function that is presented. -/
theorem ends_mgmt {f : State → State} (hr : r = act s fun s => s.atMgmt u f) (he : exec c s = r) (hm : s.mgmtSide u = true)
    (hq : Q (f s)) : Ends c s Q :=
  ends_act hr he (alive_of_hostSide (mgmtSide_host hm).1) (by rwa [atMgmt_side f hm])

/-- A management frame for this part. -/
theorem ends_mgmtIn {seq dest src hops mc len : Nat} {body : List Nat} {f : State → State}
    (hr : r = act s fun s => s.mgmtIn u seq dest src hops mc len body f) (he : exec c s = r) (h : s.linkTakes u seq = true)
    (hd : (s.frameIn u seq 0 len).toMe dest = true) (hq : Q (f (s.frameIn u seq 0 len))) : Ends c s Q :=
  ends_act hr he (alive_of_linkTakes h) (by rwa [mgmtIn_mine src hops mc body f h hd])

end

/-- Settles O55: a host's requests where its management function is presented (`ends_mgmt`), a peer's where the frame is for this part
(`ends_mgmtIn`), and the master's own frames. -/
theorem managementRows : Obligations.ManagementRows := by
  refine ⟨?read, ?readLen, ?write, ?writeStatus, ?result, ?resultOk, ?resultLen, ?log, ?unknown, ?regRd, ?far, ?regWr, ?regRsp, ?mbx,
    ?mbxFull, ?busy, ?retry, ?retryNone, ?sendBusy, ?sendLong, ?send, ?timeout, ?timeoutNone⟩
  case read =>
    intro s u a len _ hm h4 h64 hl
    refine ends_mgmt (r := execRegRead u a len s) rfl rfl hm ?_
    rw [if_pos (by simp [regLen, h4, h64, hl])]
  case readLen =>
    intro s u a len _ hm hl
    refine ends_mgmt (r := execRegRead u a len s) rfl rfl hm ?_
    rw [if_neg (by simp [hl])]
  case write =>
    intro s u a data _ hm hl
    refine ends_mgmt (r := execRegWrite u a data false s) rfl rfl hm ?_
    rw [if_pos hl]
    simp
  case writeStatus =>
    intro s u a data a1 d1 _ hm hl hw
    refine ends_mgmt (r := execRegWrite u a data true s) rfl rfl hm ⟨_, rfl, ?_⟩
    rw [if_pos hl, hw]
    rfl
  case result => exact fun s u _ hm hl => ends_mgmt (r := execGetResult u 8 s) rfl rfl hm (if_neg hl)
  case resultOk => exact fun s u _ hm hl => ends_mgmt (r := execGetResult u 8 s) rfl rfl hm ⟨_, if_pos hl⟩
  case resultLen => exact fun s u len _ hm hl => ends_mgmt (r := execGetResult u len s) rfl rfl hm (if_neg hl)
  case log => exact fun s u slot _ hm => ends_mgmt (r := execLogRead u slot 16 s) rfl rfl hm rfl
  case unknown =>
    intro s u req len _ hm h4 hv
    have h12 : ¬ (req = 1 ∨ req = 2) := by omega
    have hge : ¬ s.vndFirst ≤ req := by omega
    refine ends_mgmt (r := execVendorRequestUnknown u req len s) rfl rfl hm ?_
    simp [h12, hge, show req ≠ 3 by omega, show req ≠ 4 by omega]
  case regRd =>
    exact fun s u seq dest src hops addrs h hd => ends_mgmtIn (r := execRegRd u seq dest src hops addrs s) rfl rfl h hd ⟨_, rfl, rfl⟩
  case far =>
    intro s u seq dest src hops addrs h hd hh
    refine ends_act (r := execRegRd u seq dest src hops addrs s) rfl rfl (alive_of_linkTakes h) ?_
    rw [mgmtIn_far _ _ _ _ h hd hh]
  case regWr =>
    exact fun s u seq dest src hops pairs h hd => ends_mgmtIn (r := execRegWr u seq dest src hops pairs s) rfl rfl h hd ⟨_, rfl, rfl⟩
  case regRsp =>
    intro s u seq dest src hops data h hd hf
    refine ends_mgmtIn (r := execRegRsp u seq dest src hops data s) rfl rfl h hd ?_
    rw [if_neg (by simp [hf])]
  case mbx =>
    intro s u seq dest src hops data h hd hf
    refine ends_mgmtIn (r := execMbx u seq dest src hops data s) rfl rfl h hd ?_
    rw [if_neg (by simp [hf])]
  case mbxFull =>
    exact fun s u seq dest src hops data h hd hf => ends_mgmtIn (r := execMbx u seq dest src hops data s) rfl rfl h hd (if_pos hf)
  case busy =>
    exact fun s u seq dest src hops h hd => ends_mgmtIn (r := execMbxRsp u seq dest src hops true s) rfl rfl h hd (if_pos rfl)
  case retry =>
    intro s dest body ha hb
    refine ends_act (r := execMbxRetry dest s) rfl rfl ha ?_
    have hfind : (s.kcl.mbxBusy.find? fun b => b.1 == dest && b.2.2) = some (dest, body, true) := by simp [hb]
    rw [hfind]
    simp [modKcl, hb]
  case retryNone =>
    intro s dest ha hb
    refine ends_act (r := execMbxRetry dest s) rfl rfl ha ?_
    rw [hb]
    rfl
  case sendBusy =>
    intro s v ha hk hb
    refine ends_act (r := execMgmtSend v s) rfl rfl ha ?_
    rw [if_pos hk, State.mgmtSend, if_pos hb]
    refine ⟨by simp, rfl, rfl, fun g hg => ?_⟩
    simp at hg
    simp [get_set_other, hg]
  case sendLong =>
    intro s v ha hk hb hl
    refine ends_act (r := execMgmtSend v s) rfl rfl ha ?_
    rw [if_pos hk, State.mgmtSend, if_neg (by simp [hb]), if_pos (.inr hl)]
    exact ⟨by simp, rfl, rfl⟩
  case send =>
    intro s v ha hk hb hm hl
    refine ends_act (r := execMgmtSend v s) rfl rfl ha ?_
    have hor : ¬ (4 < v / 2 ^ 8 % 16 ∨ 60 < v % 64) := by omega
    rw [if_pos hk, State.mgmtSend, if_neg (by simp [hb])]
    dsimp only
    rw [if_neg hor, hm]
    refine ⟨_, rfl, ?_, ?_, rfl⟩
    · simp (disch := decide) [get_set_other]
    · simp
  case timeout =>
    intro s dest mcode ha hr
    refine ends_act (r := execMgmtRequestTimeout dest mcode s) rfl rfl ha ?_
    rw [if_pos hr]
    exact ⟨rfl, cnt_inc_same _ _, rfl⟩
  case timeoutNone =>
    exact fun s dest mcode ha hr => ends_act (r := execMgmtRequestTimeout dest mcode s) rfl rfl ha (if_neg (by rw [hr]; exact Bool.false_ne_true))

end Sys2Proof.Machine
end

section
/-!
SUPPORT. Console commands: what a session lets through (R541, R545), and what prints.
-/

namespace Sys2Proof.Machine

open State

section
variable {c : Instr} {s : State} {r : Res State} {Q : State → Prop} {n need : Nat} {safe : Bool}

/-- A command that the session's kind lets through runs. -/
theorem ends_con {f : State → State} (hr : r = act s fun s => s.conGate need safe f) (he : exec c s = r) (ho : s.conOpen n = true)
    (hn : need ≤ n) (hq : Q (f s)) : Ends c s Q :=
  ends_act hr he (alive_of_conOpen ho) (by rwa [conGate_open _ _ ho hn])

/-- A service command on a port that the session holds runs. -/
theorem ends_held {k : Nat} {f : State → State} (hr : r = act s fun s => s.conHeld k f) (he : exec c s = r) (hh : s.conHolds k = true)
    (hq : Q (f s)) : Ends c s Q := by
  have ho : s.conOpen 2 = true := by simp only [conHolds, Bool.and_eq_true] at hh; exact hh.1.1.1
  exact ends_act hr he (alive_of_conOpen ho) (by rwa [conHeld_holds _ hh])

/-- A printing command shows its registers and values. -/
theorem ends_view {l : State → List Nat} {more : State → List Nat} {u : State} (hr : r = act s fun s => s.conView safe (l s) more)
    (he : exec c s = r) (ho : s.conOpen 1 = true) (hu : s.conShow (l s) more = u) : Ends c s fun t => t = u :=
  ends_con hr he ho (Nat.le_refl 1) hu

/-- A printing command on an index within its range. -/
theorem ends_viewAt {i last : Nat} {l : List Nat} {more : State → List Nat} {u : State}
    (hr : r = act s fun s => s.conViewAt i last l more) (he : exec c s = r) (ho : s.conOpen 1 = true) (hi : i ≤ last)
    (hu : s.conShow l more = u) : Ends c s fun t => t = u :=
  ends_con hr he ho (Nat.le_refl 1) (by rwa [if_neg (Nat.not_lt.2 hi)])

end

/-- A view command through its gate. -/
theorem State.conViewAt_open {s : State} {i last : Nat} (l : List Nat) (more : State → List Nat) (ho : s.conOpen 1 = true) (hi : i ≤ last) :
    s.conViewAt i last l more = s.conShow l more := by
  rw [conViewAt, conGate_open _ _ ho (Nat.le_refl 1), if_neg (Nat.not_lt.2 hi)]

/-- Settles O56: each command is one view of its registers. -/
theorem consolePortPrints : Obligations.ConsolePortPrints := by
  refine ⟨?cap, ?mode, ?ready, ?rst, ?safe, ?boot, ?updateStatus, ?map, ?port, ?tc, ?moist, ?lp, ?lpU, ?lpN, ?pp, ?pd, ?pdLog, ?sb⟩
  case cap => exact fun s ho => ends_view (r := execConCap s) rfl rfl ho rfl
  case mode => exact fun s ho => ends_view (r := execConMode s) rfl rfl ho rfl
  case ready => exact fun s ho => ends_view (r := execConReady s) rfl rfl ho rfl
  case rst => exact fun s ho => ends_view (r := execConRst s) rfl rfl ho rfl
  case safe => exact fun s ho => ends_view (r := execConSafe s) rfl rfl ho rfl
  case boot => exact fun s ho => ends_view (r := execConBoot s) rfl rfl ho rfl
  case updateStatus => exact fun s ho => ends_view (r := execConUpdateStatus s) rfl rfl ho rfl
  case map => exact fun s ho => ends_view (r := execConMap s) rfl rfl ho rfl
  case port => exact fun s n ho hi => ends_viewAt (r := execConPort n s) rfl rfl ho hi rfl
  case tc => exact fun s n ho hi => ends_viewAt (r := execConTc n s) rfl rfl ho hi rfl
  case lp => exact fun s ho => ends_view (r := execConLp s) rfl rfl ho rfl
  case lpU => exact fun s u ho hi => ends_viewAt (r := execConLpU u s) rfl rfl ho hi rfl
  case lpN => exact fun s n ho hi => ends_viewAt (r := execConLpN n s) rfl rfl ho hi rfl
  case pp => exact fun s k ho hi => ends_viewAt (r := execConPp k s) rfl rfl ho hi rfl
  case pd => exact fun s k ho hi => ends_viewAt (r := execConPd k s) rfl rfl ho hi rfl
  case pdLog => exact fun s k ho hi => ends_viewAt (r := execConPdLog k s) rfl rfl ho hi rfl
  case sb => exact fun s ho => ends_view (r := execConSb s) rfl rfl ho rfl
  case moist =>
    intro s n ho hi
    refine ends_act (r := execConMoist n s) rfl rfl (alive_of_conOpen ho) ?_
    rw [conMoist, conViewAt_open _ _ ho hi]

/-- Settles O57: each command is one view of its registers; `rd` answers by the result of its read. -/
theorem consoleUnitPrints : Obligations.ConsoleUnitPrints := by
  refine ⟨?bsn, ?bsnG, ?temp, ?caldera, ?ept, ?eptN, ?pol, ?shp, ?sched, ?kcl, ?kclRoute, ?kclPres, ?tk, ?tkT, ?fault, ?prot, ?log,
    ?logPlume, ?atb, ?rdErr, ?rd⟩
  case bsn => exact fun s ho => ends_view (r := execConBsn s) rfl rfl ho rfl
  case bsnG => exact fun s g ho hi => ends_viewAt (r := execConBsnG g s) rfl rfl ho hi rfl
  case temp => exact fun s ho => ends_view (r := execConTemp s) rfl rfl ho rfl
  case ept => exact fun s ho => ends_view (r := execConEpt s) rfl rfl ho rfl
  case eptN => exact fun s n ho hi => ends_viewAt (r := execConEptN n s) rfl rfl ho hi rfl
  case pol => exact fun s p ho hi => ends_viewAt (r := execConPol p s) rfl rfl ho hi rfl
  case shp => exact fun s x ho hi => ends_viewAt (r := execConShp x s) rfl rfl ho hi rfl
  case kcl => exact fun s ho => ends_view (r := execConKcl s) rfl rfl ho rfl
  case kclRoute => exact fun s c ho hi => ends_viewAt (r := execConKclRoute c s) rfl rfl ho hi rfl
  case kclPres => exact fun s n ho hi => ends_viewAt (r := execConKclPres n s) rfl rfl ho hi rfl
  case tk => exact fun s ho => ends_view (r := execConTk s) rfl rfl ho rfl
  case tkT => exact fun s i ho hi => ends_viewAt (r := execConTkT i s) rfl rfl ho hi rfl
  case fault => exact fun s ho => ends_view (r := execConFault s) rfl rfl ho rfl
  case prot => exact fun s ho => ends_view (r := execConProt s) rfl rfl ho rfl
  case log => exact fun s ho => ends_view (r := execConLog s) rfl rfl ho rfl
  case logPlume => exact fun s ho => ends_view (r := execConLogPlume s) rfl rfl ho rfl
  case atb => exact fun s ho => ends_view (r := execConAtb s) rfl rfl ho rfl
  case caldera =>
    intro s ho
    refine ends_act (r := execConCaldera s) rfl rfl (alive_of_conOpen ho) ?_
    rw [conCaldera, conView, conGate_open _ _ ho (Nat.le_refl 1)]
  case sched =>
    intro s x ho hi
    refine ends_act (r := execConSched x s) rfl rfl (alive_of_conOpen ho) ?_
    rw [conSched, conViewAt_open _ _ ho hi]
  case rdErr => exact fun s a ho hrc => ends_con (r := execConRd a s) rfl rfl ho (Nat.le_refl 1) (if_neg hrc)
  case rd => exact fun s a ho hrc => ends_con (r := execConRd a s) rfl rfl ho (Nat.le_refl 1) ⟨_, if_pos hrc⟩

/-! ### Sessions (R539 to R542) -/

namespace State

variable (s : State)

@[simp] theorem conLine_svc (t : String) : (s.conLine t).svc = s.svc := rfl
@[simp] theorem conOk_svc : s.conOk.svc = s.svc := rfl
@[simp] theorem conErr_svc (e : String) : (s.conErr e).svc = s.svc := rfl

theorem conErr_cnt (e : String) : (s.conErr e).cnt R.SV_CMD_REJ_CNT = min (s.cnt R.SV_CMD_REJ_CNT + 1) 0xFFFF := cnt_inc_same _ _

theorem conErr_cnt_other (e : String) {a : Nat} (h : a ≠ R.SV_CMD_REJ_CNT) : (s.conErr e).cnt a = s.cnt a := cnt_inc_other _ _ _ h


@[simp] theorem logRec_svc (kind code arg0 arg1 : Nat) : (s.logRec kind code arg0 arg1).svc = s.svc := by
  obtain ⟨c, l, h⟩ := s.logRec_eq kind code arg0 arg1
  rw [h]

@[simp] theorem svcRec_svc (code v : Nat) : (s.svcRec code v).svc = s.svc := s.logRec_svc ..

theorem svcRec_cnt_other (code v : Nat) {a : Nat} (h : a ≠ R.G_LOG_DROP_CNT) : (s.svcRec code v).cnt a = s.cnt a :=
  logRec_cnt_other _ _ _ _ _ _ h

/-- What an open console says of the session. -/
theorem conOpen_iff {n : Nat} : s.conOpen n = true ↔
    s.conAlive = true ∧ s.svc.passed = none ∧ s.mode ≠ .safe ∧ n ≤ s.get SV_ST.SESSION := by
  simp [conOpen, and_assoc]

/-- `hello` with no session opens one, and says so. -/
theorem sessionOpen_effects {osp : Nat} {t u w : State} {line : String} (hc : s.cnt R.SV_SESSION_CNT < 0xFFFF)
    (ht : t = ((s.set SV_ST.OSP osp).set SV_ST.SESSION 1).inc R.SV_SESSION_CNT)
    (hu : u = (t.modSvc fun x => { x with opened := t.cnt R.SV_SESSION_CNT }).svcRec 0x01 (1 * 2 ^ 30 + osp))
    (hw : w = (u.conLine line).conOk) :
    w.get SV_ST.SESSION = 1 ∧ w.get SV_ST.OSP = osp % 2 ^ 8 ∧ w.cnt R.SV_SESSION_CNT = s.cnt R.SV_SESSION_CNT + 1 ∧
      w.svc.opened = s.cnt R.SV_SESSION_CNT + 1 ∧ s.KeepsFlds w [SV_ST.SESSION, SV_ST.OSP] := by
  have hcnt : t.cnt R.SV_SESSION_CNT = s.cnt R.SV_SESSION_CNT + 1 := by
    rw [ht, cnt_inc_same]
    change min (s.cnt R.SV_SESSION_CNT + 1) 0xFFFF = _
    omega
  have hget : ∀ f, w.get f = ((s.set SV_ST.OSP osp).set SV_ST.SESSION 1).get f := fun f => by
    rw [hw, conOk_get, conLine_get, hu, svcRec_get, ht]
    rfl
  refine ⟨?_, ?_, ?_, ?_, fun g hg => ?_⟩
  · rw [hget]; simp
  · rw [hget]; simp (disch := decide) [get_set_other]
  · rw [hw, conOk_cnt, conLine_cnt, hu, svcRec_cnt_other _ _ _ (by decide)]
    exact hcnt
  · rw [hw, conOk_svc, conLine_svc, hu, svcRec_svc]
    exact hcnt
  · simp at hg
    rw [hget]
    simp [get_set_other, hg]

/-- A view session closes with nothing to free. -/
theorem sessionClose_view (why : Nat) (h : s.get SV_ST.SESSION = 1) :
    s.sessionClose why = ((s.svcRec 0x02 why).set SV_ST.SESSION 0).set SV_ST.OSP 0 := by
  rw [sessionClose, serviceEnd, if_neg (by omega)]

theorem sessionClose_view_get {why : Nat} {w : State} (h : s.get SV_ST.SESSION = 1) (hw : w.flds = (s.sessionClose why).flds) :
    w.get SV_ST.SESSION = 0 ∧ w.get SV_ST.OSP = 0 ∧ s.KeepsFlds w [SV_ST.SESSION, SV_ST.OSP] := by
  have hget : ∀ f, w.get f = (((s.svcRec 0x02 why).set SV_ST.SESSION 0).set SV_ST.OSP 0).get f := fun f => by
    rw [s.sessionClose_view why h] at hw
    rw [get, hw, get]
  refine ⟨?_, ?_, fun g hg => ?_⟩
  · rw [hget]; simp (disch := decide) [get_set_other]
  · rw [hget]; simp
  · simp at hg
    rw [hget]
    simp [get_set_other, hg]

/-- The third wrong PIN in a row locks the service session out. -/
theorem pinFail_third (h : s.svc.pinRun = 2) : s.pinFail =
    ((((s.modSvc fun v => { v with pinRun := 0 }).inc R.SV_PIN_FAIL_CNT).svcRec 0x05 3).set SV_ST.LOCKOUT 1).conErr "PRIV" := by
  simp [pinFail, h]

/-- A passed line that is given up counts as one refused command. -/
theorem passedDrop_effects {tag : Nat} (e : String) (h : s.svc.passed = some tag) : (s.passedDrop e).svc.passed = none ∧
    (s.passedDrop e).cnt R.SV_CMD_REJ_CNT = min (s.cnt R.SV_CMD_REJ_CNT + 1) 0xFFFF ∧
    (∀ a, a ≠ R.SV_CMD_REJ_CNT → (s.passedDrop e).cnt a = s.cnt a) ∧ (s.passedDrop e).flds = s.flds := by
  rw [passedDrop, h]
  dsimp only
  rw [conErr_cnt, conErr_svc, conErr_flds]
  exact ⟨rfl, rfl, fun a ha => conErr_cnt_other _ _ ha, rfl⟩

end State

/-- Settles O58: each command by its condition on the session, the PIN and the line that runs. -/
theorem consoleSessions : Obligations.ConsoleSessions := by
  refine ⟨?hello, ?helloLow, ?helloNew, ?bye, ?byeNone, ?help, ?service, ?pin, ?lockout, ?view, ?viewService, ?baud, ?baudStrap, ?echoOn,
    ?echoOff, ?ctrlCNone, ?ctrlC, ?ctrlCSelftest, ?pass, ?passBusy, ?passTimeout, ?passNone, ?idle, ?lockoutEnd⟩
  case hello =>
    intro s ho h0 hc
    refine ends_con (r := execConHello false 0 s) rfl rfl ho (Nat.le_refl 0) ?_
    simp only [Bool.false_and, Bool.false_eq_true, if_false, h0, if_true]
    exact s.sessionOpen_effects hc rfl rfl rfl
  case helloLow =>
    intro s v ho hv
    refine ends_con (r := execConHello true v s) rfl rfl ho (Nat.le_refl 0) ?_
    rw [if_pos (by simp [hv])]
    exact ⟨rfl, s.conErr_cnt _, rfl⟩
  case helloNew =>
    intro s v ho hv
    obtain ⟨-, -, -, h1⟩ := s.conOpen_iff.1 ho
    refine ends_con (r := execConHello true v s) rfl rfl ho (Nat.zero_le 1) ?_
    rw [if_neg (by simp; omega)]
    simp only [Bool.true_and, hv, decide_true, if_true, show s.get SV_ST.SESSION ≠ 0 by omega, if_false]
    refine ⟨?_, ?_, fun g hg => ?_⟩
    · simp [conLine]
    · simp (disch := decide) [conLine, get_set_other]
    · simp at hg
      simp [conLine, get_set_other, hg]
  case bye =>
    intro s ho h1
    refine ends_con (r := execConBye s) rfl rfl ho (Nat.zero_le 1) ?_
    rw [if_neg (by omega)]
    exact s.sessionClose_view_get (why := 0) h1 rfl
  case byeNone => exact fun s ho h0 => ends_con (r := execConBye s) rfl rfl ho (Nat.le_refl 0) (if_pos h0)
  case help => exact fun s ho => ends_con (r := execConHelp s) rfl rfl ho (Nat.le_refl 0) ⟨rfl, rfl, rfl⟩
  case service =>
    intro s hasPin pin ho he hl hp
    refine ends_con (r := execConService hasPin pin s) rfl rfl ho (Nat.le_refl 1) ?_
    rw [if_neg (by simp [he, s.on_false hl]), if_neg (by simp [hp])]
    refine ⟨by simp, rfl, fun g hg => ?_⟩
    simp at hg
    simp [get_set_other, hg]
  case pin =>
    intro s pin ho he hl hp
    refine ends_con (r := execConService true pin s) rfl rfl ho (Nat.le_refl 1) ?_
    rw [if_neg (by simp [he, s.on_false hl]), if_neg (by simp [hp])]
    exact ⟨by simp, rfl⟩
  case lockout =>
    intro s pin ho he hl hp hne hr
    refine ends_con (r := execConService true pin s) rfl rfl ho (Nat.le_refl 1) ?_
    rw [if_neg (by simp [he, s.on_false hl]), if_pos ⟨hp, .inr (Ne.symm hne)⟩, s.pinFail_third hr]
    refine ⟨by simp, ?_, ?_, by simp⟩
    · simp (disch := decide) [get_set_other]
    · rw [conErr_cnt_other _ _ (by decide)]
      exact (svcRec_cnt_other _ _ _ (by decide)).trans (cnt_inc_same _ _)
  case view =>
    intro s ho h1
    refine ends_con (r := execConView s) rfl rfl ho (Nat.le_refl 1) ?_
    rw [serviceEnd, if_neg (by omega)]
  case viewService =>
    intro s ho h2
    refine ends_con (r := execConView s) rfl rfl ho (by omega) ?_
    rw [serviceEnd, if_pos h2]
    exact ⟨rfl, by simp⟩
  case baud =>
    intro s ho hs
    refine ends_con (r := execConBaud 9600 s) rfl rfl ho (Nat.le_refl 1) ?_
    rw [if_neg (by simp [on, hs])]
    refine ⟨by simp [rateCode], fun g hg => ?_⟩
    simp at hg
    simp [rateCode, get_set_other, hg]
  case baudStrap => exact fun s rt ho hs => ends_con (r := execConBaud rt s) rfl rfl ho (Nat.le_refl 1) (if_pos (s.on_true hs))
  case echoOn =>
    intro s ho
    refine ends_con (r := execConEchoOn s) rfl rfl ho (Nat.le_refl 1) ⟨by simp, fun g hg => ?_⟩
    simp at hg
    simp [get_set_other, hg]
  case echoOff =>
    intro s ho
    refine ends_con (r := execConEchoOff s) rfl rfl ho (Nat.le_refl 1) ⟨by simp, fun g hg => ?_⟩
    simp at hg
    simp [get_set_other, hg]
  case ctrlCNone =>
    intro s ha hp hm
    refine ends_act (r := execCtrlC s) rfl rfl ha ?_
    rw [if_neg hm, passedDrop, hp, ite_self]
  case ctrlC =>
    intro s tag ha hp hm
    refine ends_act (r := execCtrlC s) rfl rfl (alive_of_conAlive ha) ?_
    obtain ⟨h1, h2, -, h3⟩ := s.passedDrop_effects "ABORTED" hp
    rw [if_neg (by simp [ha]), if_neg hm]
    exact ⟨h1, h2, h3⟩
  case ctrlCSelftest =>
    intro s hm
    have ha : s.conAlive = true := by rw [conAlive, hm]
    refine ends_act (r := execCtrlC s) rfl rfl (alive_of_conAlive ha) ?_
    rw [if_neg (by simp [ha]), if_pos hm]
  case pass =>
    intro s text ho hr hb
    obtain ⟨ha, hp, hm, -⟩ := s.conOpen_iff.1 ho
    refine ends_act (r := execConsoleLinePassed text s) rfl rfl (alive_of_conOpen ho) ?_
    rw [conPass, if_neg (by simp [ha, hp]), if_neg hm, if_neg (by simp [hr]), if_neg (by omega)]
  case passBusy =>
    intro s text ho hr hb
    obtain ⟨ha, hp, hm, -⟩ := s.conOpen_iff.1 ho
    refine ends_act (r := execConsoleLinePassed text s) rfl rfl (alive_of_conOpen ho) ?_
    rw [conPass, if_neg (by simp [ha, hp]), if_neg hm, if_neg (by simp [hr]), if_pos hb]
  case passTimeout =>
    intro s tag ha hp
    refine ends_act (r := execConsolePassTimeout s) rfl rfl ha ?_
    obtain ⟨h1, -, h2, h3⟩ := (s.inc (R.TK_REQ_TO_CNT 4)).passedDrop_effects "TIMEOUT" hp
    rw [if_pos (by simp [hp])]
    exact ⟨h1, (h2 _ (by decide)).trans (s.cnt_inc_same _), h3⟩
  case passNone => exact fun s ha hp => ends_act (r := execConsolePassTimeout s) rfl rfl ha (if_neg (by simp [hp]))
  case idle =>
    intro s ha h1 hi hp
    refine ends_act (r := execSessionIdleTimeout s) rfl rfl ha ?_
    rw [if_pos ⟨by omega, hi, hp⟩]
    exact (s.conLine "CLOSED").sessionClose_view_get (why := 1) h1 rfl
  case lockoutEnd =>
    intro s ha
    refine ends_act (r := execPinLockoutEnd s) rfl rfl ha ⟨by simp, fun g hg => ?_, rfl⟩
    simp at hg
    simp [get_set_other, hg]

end Sys2Proof.Machine
end

section
/-!
SUPPORT. Console commands that act: on ports the session holds (R544), on registers, tests and lines (R543 to R546).
-/

namespace Sys2Proof.Machine

namespace State

variable {s : State}

/-- What holding a port says. -/
theorem conHolds_iff {k : Nat} : s.conHolds k = true ↔ s.conOpen 2 = true ∧ k ≤ 99 ∧ s.kHere k = true ∧ (96 ≤ k ∨ s.held k = true) := by
  simp [conHolds, and_assoc]

/-- A command on a present downstream port that the session does not hold is refused. -/
theorem conHeld_free {k : Nat} (f : State → State) (ho : s.conOpen 2 = true) (hk : k < 96) (hh : s.kHere k = true) (hf : s.held k = false) :
    s.conHeld k f = s.conErr "SESSION" := by
  have h99 : ¬ 99 < k := by omega
  rw [conHeld, conGate_open _ _ ho (Nat.le_refl 2)]
  simp [h99, hh, hk, hf]

/-- In SAFE only what is allowed there runs. -/
theorem conGate_safe {need : Nat} {safe : Bool} (f : State → State) (hm : s.mode = .safe) (hp : s.svc.passed = none) :
    s.conGate need safe f = if safe = false then s.conErr "WRONG_STATE" else if s.get SV_ST.SESSION < need then s.conErr "SESSION" else f s := by
  have ha : s.conAlive = true := by rw [conAlive, hm]
  simp [conGate, ha, hp, hm]

theorem alive_of_mode {m : Mode} (hm : s.mode = m) (h : m ≠ .off ∧ m ≠ .hold) : s.alive = true := by
  rw [alive, hm]
  cases m <;> simp_all

end State

open State

/-- Settles O59: a command runs where the session holds its port (`ends_held`) or is a service session (`ends_con`). -/
theorem consolePowerCommands : Obligations.ConsolePowerCommands := by
  refine ⟨?hold, ?holdRange, ?holdAll, ?free, ?freeNot, ?freeAll, ?ppOn, ?ppOff, ?ppRelease, ?ppClear, ?ppNotHeld, ?steam, ?recheck,
    ?caps, ?capsNone, ?epr, ?eprNot, ?hardreset, ?sb, ?sbRange, ?sbOff⟩
  case hold => exact fun s n ho hn => ends_con (r := execConHold n s) rfl rfl ho (Nat.le_refl 2) (if_pos hn)
  case holdRange => exact fun s n ho hn => ends_con (r := execConHold n s) rfl rfl ho (Nat.le_refl 2) (if_neg (by simp [hn]))
  case holdAll => exact fun s ho => ends_con (r := execConHoldAll s) rfl rfl ho (Nat.le_refl 2) rfl
  case free =>
    intro s n ho hn hh
    refine ends_con (r := execConFree n s) rfl rfl ho (Nat.le_refl 2) ?_
    rw [if_neg (by simp [hn]), if_pos hh]
  case freeNot =>
    intro s n ho hn hh
    refine ends_con (r := execConFree n s) rfl rfl ho (Nat.le_refl 2) ?_
    rw [if_neg (by simp [hn]), if_neg (by simp [hh])]
  case freeAll => exact fun s ho => ends_con (r := execConFreeAll s) rfl rfl ho (Nat.le_refl 2) rfl
  case ppOn => exact fun s k hh => ends_held (r := execConPpOn k s) rfl rfl hh rfl
  case ppOff => exact fun s k hh => ends_held (r := execConPpOff k s) rfl rfl hh rfl
  case ppRelease => exact fun s k hh => ends_held (r := execConPpRelease k s) rfl rfl hh rfl
  case ppClear => exact fun s k hh => ends_held (r := execConPpClear k s) rfl rfl hh rfl
  case ppNotHeld =>
    intro s k ho hk hh hf
    refine ends_act (r := execConPpOn k s) rfl rfl (alive_of_conOpen ho) ?_
    rw [conPpCmd, conHeld_free _ ho hk hh hf]
  case steam =>
    intro s n hh hn
    obtain ⟨ho, -⟩ := conHolds_iff.1 hh
    refine ends_act (r := execConSteamRelease n s) rfl rfl (alive_of_conOpen ho) ?_
    rw [conTcCmd, if_neg (by omega), conHeld_holds _ hh]
  case recheck =>
    intro s n hh hn
    obtain ⟨ho, -⟩ := conHolds_iff.1 hh
    refine ends_act (r := execConTcRecheck n s) rfl rfl (alive_of_conOpen ho) ?_
    rw [conTcCmd, if_neg (by omega), conHeld_holds _ hh]
  case caps =>
    intro s k hh hp hr ht hs
    refine ends_held (r := execConPdCaps k s) rfl rfl hh ?_
    rw [if_neg (by simp [hp, s.on_true hr, s.on_false ht, s.on_false hs])]
  case capsNone =>
    intro s k hh hp
    refine ends_held (r := execConPdCaps k s) rfl rfl hh ?_
    rw [if_pos (by simp [hp])]
    exact ⟨rfl, rfl⟩
  case epr =>
    intro s k hh he
    refine ends_held (r := execConPdEprExit k s) rfl rfl hh ?_
    rw [if_neg (by simp [s.on_true he])]
  case eprNot =>
    intro s k hh he
    refine ends_held (r := execConPdEprExit k s) rfl rfl hh ?_
    rw [if_pos (by simp [s.on_false he])]
  case hardreset => exact fun s k hh => ends_held (r := execConPdHardreset k s) rfl rfl hh rfl
  case sb =>
    intro s c ho hc
    refine ends_con (r := execConSbC c s) rfl rfl ho (Nat.le_refl 2) ?_
    rw [if_pos hc]
    exact ⟨rfl, by simp⟩
  case sbRange =>
    intro s c ho hc
    refine ends_con (r := execConSbC c s) rfl rfl ho (Nat.le_refl 2) ?_
    rw [hc, if_neg Bool.false_ne_true]
  case sbOff => exact fun s ho => ends_con (r := execConSbOff s) rfl rfl ho (Nat.le_refl 2) rfl

/-! ### Register writes, tests and lines -/

/-- A line that is empty has no words. -/
theorem lineWords_nil : lineWords [] = [] := by simp [lineWords, List.splitOn]

/-- An empty line has no effect but the prompt. -/
theorem conReceive_nil (s : State) : (s.conReceive [] false).flds = s.flds ∧ (s.conReceive [] false).cnts = s.cnts := by
  have hw : ∀ x : State, x.conWords [] = x.conPrompt := fun x => by rw [conWords, lineWords_nil]
  simp only [conReceive, lineEdit, List.foldl_nil, Bool.false_or, List.length_nil, Nat.not_lt_zero, decide_false,
    Bool.false_eq_true, if_false, lineCheck, List.reverse_nil, hw]
  split <;> exact ⟨rfl, rfl⟩

/-- Settles O60: each command is the register writes it names; a test, or a line, by its own condition. -/
theorem consoleServiceCommands : Obligations.ConsoleServiceCommands := by
  refine ⟨?wr, ?atbRoute, ?atbOff, ?cntOne, ?cntPrefix, ?cntAll, ?inj, ?disarm, ?restart, ?update, ?erase, ?eraseRange, ?page, ?verify,
    ?updEnd, ?selftest, ?reset, ?safeEnter, ?safeRelease, ?wake, ?releaseInSafe, ?wakeInSafe, ?testMode, ?testPort, ?testFree, ?lineBad,
    ?lineEmpty, ?lineWaits⟩
  case wr => exact fun s a v ho => ends_con (r := execConWr a v s) rfl rfl ho (Nat.le_refl 2) rfl
  case atbRoute => exact fun s route i ho => ends_con (r := execConAtbRoute route i s) rfl rfl ho (Nat.le_refl 2) rfl
  case atbOff => exact fun s ho => ends_con (r := execConAtbOff s) rfl rfl ho (Nat.le_refl 2) rfl
  case cntOne => exact fun s a ho => ends_con (r := execConCntClearOne a s) rfl rfl ho (Nat.le_refl 2) rfl
  case cntPrefix => exact fun s p ho => ends_con (r := execConCntClearPrefix p s) rfl rfl ho (Nat.le_refl 2) rfl
  case cntAll => exact fun s ho => ends_con (r := execConCntClearAll s) rfl rfl ho (Nat.le_refl 2) rfl
  case inj =>
    intro s i inst ho hi hn
    refine ends_con (r := execConFaultInj i inst s) rfl rfl ho (Nat.le_refl 2) ⟨_, rfl, ?_⟩
    rw [Nat.mod_eq_of_lt hi, Nat.mod_eq_of_lt hn]
  case disarm => exact fun s ho => ends_con (r := execConFaultDisarm s) rfl rfl ho (Nat.le_refl 2) ⟨_, rfl, rfl⟩
  case restart => exact fun s ho => ends_con (r := execConFaultRestart s) rfl rfl ho (Nat.le_refl 2) rfl
  case update => exact fun s ho => ends_con (r := execConUpdate s) rfl rfl ho (Nat.le_refl 2) rfl
  case erase =>
    intro s b off ho hl
    refine ends_act (r := execConUpdateErase b off s) rfl rfl (alive_of_conOpen ho) ?_
    rw [conUpdateErase, offOk, if_pos hl, conUpd, conGate_open _ _ ho (Nat.le_refl 2)]
    rfl
  case eraseRange =>
    intro s b off ho hl
    refine ends_act (r := execConUpdateErase b off s) rfl rfl (alive_of_conOpen ho) ?_
    rw [conUpdateErase, offOk, if_neg (by omega), conGate_open _ _ ho (Nat.le_refl 2)]
  case page =>
    intro s b off data ho hl hd
    refine ends_act (r := execConUpdatePage b off data s) rfl rfl (alive_of_conOpen ho) ?_
    rw [conUpdatePage, if_neg (fun h => h hd), offOk, if_pos hl, conUpd, conGate_open _ _ ho (Nat.le_refl 2), List.append_assoc]
    rfl
  case verify =>
    intro s b ho
    refine ends_act (r := execConUpdateVerify b s) rfl rfl (alive_of_conOpen ho) ?_
    rw [conUpdateVerify, conUpd, conGate_open _ _ ho (Nat.le_refl 2), updAddr, Nat.add_zero, List.singleton_append]
  case updEnd => exact fun s ho => ends_con (r := execConUpdateEnd s) rfl rfl ho (Nat.le_refl 2) rfl
  case selftest => exact fun s ho => ends_con (r := execConSelftest s) rfl rfl ho (Nat.le_refl 2) rfl
  case reset => exact fun s ho => ends_con (r := execConReset s) rfl rfl ho (Nat.le_refl 2) rfl
  case safeEnter => exact fun s ho => ends_con (r := execConSafeEnter s) rfl rfl ho (Nat.le_refl 2) rfl
  case safeRelease => exact fun s ho => ends_con (r := execConSafeRelease s) rfl rfl ho (Nat.le_refl 2) rfl
  case wake => exact fun s ho => ends_con (r := execConWake s) rfl rfl ho (Nat.le_refl 2) rfl
  case releaseInSafe =>
    intro s hm hp h2
    refine ends_act (r := execConSafeRelease s) rfl rfl (alive_of_mode hm (by decide)) ?_
    rw [conModeCtl, conGate_safe _ hm hp, if_neg (by decide), if_neg (by omega)]
  case wakeInSafe =>
    intro s hm hp
    refine ends_act (r := execConWake s) rfl rfl (alive_of_mode hm (by decide)) ?_
    rw [conModeCtl, conGate_safe _ hm hp, if_pos (by decide)]
  case testMode =>
    intro s n hasK k v ok ho hn hm
    refine ends_con (r := execConTest n hasK k v ok s) rfl rfl ho (Nat.le_refl 2) ?_
    rw [if_pos (List.contains_iff_mem.2 hn), if_neg hm]
  case testPort =>
    intro s n k v ok hh hn hk
    obtain ⟨ho, h99, hh', hor⟩ := conHolds_iff.1 hh
    have hheld : s.held k = true := hor.resolve_left (by omega)
    have hmode : [106, 107, 108, 308, 309].contains n = false ∧ portTests.contains n = true := by
      rcases List.mem_cons.1 hn with rfl | hn
      · decide
      · rcases List.mem_singleton.1 hn with rfl
        decide
    refine ends_con (r := execConTest n true k v ok s) rfl rfl ho (Nat.le_refl 2) ?_
    rw [if_neg (by rw [hmode.1]; decide), if_pos hmode.2, if_neg (by decide), if_neg (by simp [hh']; omega), if_neg (by simp [hheld])]
  case testFree =>
    intro s hasK k v ok ho
    refine ends_con (r := execConTest 601 hasK k v ok s) rfl rfl ho (Nat.le_refl 2) ?_
    rw [if_neg (by decide), if_neg (by decide), if_pos (by decide)]
  case lineBad =>
    intro s text ha hp
    refine ends_act (r := execConsoleLine text true s) rfl rfl (alive_of_conAlive ha) ?_
    rw [if_neg (by simp [ha, hp]), conReceive, if_pos (by simp)]
    exact ⟨cnt_inc_same _ _, rfl⟩
  case lineEmpty =>
    intro s ha hp
    refine ends_act (r := execConsoleLine [] false s) rfl rfl (alive_of_conAlive ha) ?_
    rw [if_neg (by simp [ha, hp])]
    exact conReceive_nil s
  case lineWaits =>
    intro s text bad tag ha hp
    refine ends_act (r := execConsoleLine text bad s) rfl rfl ha ?_
    rw [if_pos (by simp [hp])]

end Sys2Proof.Machine
end

section
/-!
SUPPORT. The power path (chapter 08): a gate check whose rows are refuted, and PPS current limiting in VSET_TRIM; the serial bridge.
-/

namespace Sys2Proof.Machine

open State

/-- What a command whose meaning is an `act` ends in. -/
theorem Ends.of_act {c : Instr} {s : State} {f : State → State} {Q : State → Prop} {r : Res State} (hr : r = act s f)
    (he : exec c s = r) (ha : s.alive = true) (h : Ends c s Q) : Q (f s) := by
  obtain ⟨t, ht, hq⟩ := h
  rw [he, hr, act, if_pos ha] at ht
  exact Host.Outcome.next.inj ht ▸ hq

/-- Port 0 in ENHANCE with VBUS at 4.75 V and no fault timer running. -/
def enhancedState : State := (State.reset.set (PP_ST.STATE 0) Pp.enhance).set (PP_MEAS.VBUS 0) 475

/-- Refutes O34: its clause on GATE_RISE_END keeps every field, while the ramp of `enhancedState` is complete and PGOOD rises (R264). -/
theorem not_powerRiseRows : ¬ Obligations.PowerRiseRows := by
  rintro ⟨-, -, -, -, -, -, -, -, -, h, -⟩
  obtain ⟨-, hf⟩ := Ends.of_act (r := execGateRiseEnd 0 true enhancedState) rfl rfl rfl (h enhancedState 0 rfl (by decide) (by decide))
  have hp : enhancedState.get (PP_ST.PGOOD 0) = 1 := by
    rw [State.get, ← hf]
    decide
  exact absurd hp (by decide)

/-- Port 0 in ON at its target of 5 V, with a PPS contract whose current limiting has lowered the VSET code from its nominal 819 to 0. -/
def ppsLimitedState : State :=
  ((((((State.reset.modPath 0 fun p => { p with target := 5000, nominal := 819 }).set (PP_ST.PGOOD 0) 1).set (PP_ST.STATE 0) Pp.on).set
    (PP_MEAS.VBUS 0) 500).set (PD_ST.KIND 0) 1).set (PD_ST.CONTRACT 0) 2)

/-- Refutes O35: its clauses on VSET_TRIM set the code to nominal plus trim, also while PPS current limiting has the code (R229). -/
theorem not_powerCommandRows : ¬ Obligations.PowerCommandRows := by
  rintro ⟨-, h, -⟩
  obtain ⟨-, hv⟩ := Ends.of_act (r := execVsetTrim 0 ppsLimitedState) rfl rfl rfl
    (h ppsLimitedState 0 rfl (by decide) (by decide) rfl (by decide))
  exact absurd hv (by decide)

/-- Settles O31: each row by the branch its conditions choose. -/
theorem bridgeRows : Obligations.BridgeRows := by
  refine ⟨?config, ?coding, ?codingNot, ?rx, ?rxConsole, ?tx, ?txConsole, ?txNak⟩
  case config =>
    intro s c v ha hc
    exact ends_act (r := execSbConfigWrite c v s) rfl rfl ha (if_pos hc)
  case coding =>
    intro s u c rate bits parity stop ha hu hc hs h1 h2 hb hp ht
    refine ends_act (r := execSetLineCoding u c rate bits parity stop s) rfl rfl ha ?_
    rw [if_neg (by simp [hu, hc]), if_pos (by simp [hs, h1, h2, hb, hp, ht])]
    simp
  case codingNot =>
    intro s u c rate bits parity stop ha hu hc hr
    refine ends_act (r := execSetLineCoding u c rate bits parity stop s) rfl rfl ha ?_
    have h12 : ¬ 1200 ≤ rate := by omega
    rw [if_neg (by simp [hu, hc]), if_neg (by simp [h12])]
  case rx =>
    intro s c bytes ha hc hl hf
    refine ends_act (r := execBridgeRxData _ bytes s) rfl rfl ha ?_
    rw [List.length_append] at hl
    have he : (s.chan c).rx.length + bytes.length - 4096 = 0 := by omega
    simp [hc, he, s.on_false hf]
  case rxConsole =>
    intro s c bytes ha hc hf
    refine ends_act (r := execBridgeRxData _ bytes s) rfl rfl ha ?_
    simp [hc, s.on_true hf]
  case tx =>
    intro s u c bytes ha hc hf hs
    refine ends_act (r := execBridgeTxData (.host u) c bytes s) rfl rfl ha ?_
    exact if_pos (by simp [hc, s.on_false hf, hs])
  case txConsole =>
    intro s c bytes ha hc hf
    refine ends_act (r := execBridgeTxData .console c bytes s) rfl rfl ha ?_
    exact if_pos (by simp [hc, s.on_true hf])
  case txNak =>
    intro s u c bytes ha hf
    refine ends_act (r := execBridgeTxData (.host u) c bytes s) rfl rfl ha ?_
    exact if_neg (by simp [s.on_true hf])

end Sys2Proof.Machine
end

section
/-!
SUPPORT. Basin: a row refuted; clocks (R29, R30, R137) and modes (chapter 14).
-/

namespace Sys2Proof.Machine

open State

/-- Board sensor 0 is switched on and has not read yet. -/
def boardSensorState : State := State.reset.set (BSN_BRD_CFG.SRC 0) 1

/-- The state that BOARD_SENSOR_READ's clause names for a valid reading of 0 °C. -/
def boardSensorClaim : State :=
  ((((((boardSensorState.set (BSN_BRD_T.VALID 0) 1).set (BSN_BRD_T.FAULT 0) 0).set (BSN_BRD_T.TEMP 0) 0).modBsn fun b =>
    { b with invalid := Tbl.set b.invalid 0 0 0 }).fltFall 33 0).basinRefresh)

/-- Refutes O37: a first valid reading also enters the sensor among those that have a temperature (R297), which the clause on
BOARD_SENSOR_READ leaves out. -/
theorem not_basinRows : ¬ Obligations.BasinRows := by
  rintro ⟨-, -, -, -, -, h, -⟩
  have ht := Ends.of_act (r := execBoardSensorRead 0 true 0 boardSensorState) rfl rfl rfl
    (h boardSensorState 0 0 rfl (by decide) (by decide))
  have hr : boardSensorClaim.bsn.brdRead ≠ [] := by
    rw [show boardSensorClaim = _ from ht.symm]
    decide +kernel
  exact hr (by decide +kernel)

namespace State

variable {s : State}

/-- SOFs to ports change the outputs alone. -/
theorem sofs_frame (l : List Nat) (s : State) : ∃ o, l.foldl (fun s n => if s.get (P_LPST.SUSP_KIND n) = Susp.none then
    s.emit (.usb2 n .sof) else s) s = { s with out := o } := by
  induction l generalizing s with
  | nil => exact ⟨s.out, rfl⟩
  | cons n r ih =>
    rw [List.foldl_cons]
    split
    · obtain ⟨o, ho⟩ := ih (s.emit (.usb2 n .sof))
      exact ⟨o, ho⟩
    · exact ih s

end State

/-- Settles O36: each row by the branch its conditions choose. -/
theorem clockRows : Obligations.ClockRows := by
  refine ⟨?die, ?root, ?pll, ?sof, ?boundary, ?step, ?tick, ?tickNot, ?shaper, ?shapers, ?ms⟩
  case die =>
    intro s d ha h
    exact ends_act (r := execPaLinkLoss d s) rfl rfl ha (if_pos h)
  case root =>
    intro s ha h
    exact ends_act (r := execRootClockLoss s) rfl rfl ha (if_neg (by simp [h]))
  case pll =>
    intro s ha h hm
    exact ends_act (r := execPllUnlock s) rfl rfl ha (if_pos (by simp [h, hm]))
  case sof =>
    intro s u frame hs
    refine ends_act (r := execSofReceived u frame s) rfl rfl (alive_of_hostSide hs) ?_
    rw [atU_hostSide _ hs]
    dsimp only
    split
    · obtain ⟨o, ho⟩ := sofs_frame ((s.modUp u fun x => { x with frame := frame, mf := if x.frame = frame then x.mf else 0 }).hsPorts u)
        (s.modUp u fun x => { x with frame := frame, mf := if x.frame = frame then x.mf else 0 })
      rw [ho]
      simp [up, modUp]
    · simp
  case boundary =>
    intro s u ha hu hd hm hc
    refine ends_act (r := execMicroframeBoundary u s) rfl rfl ha ?_
    rw [if_neg (by simp [hu, hm, hc]), if_pos hd]
  case step =>
    intro s u ha hu hd hm hc
    refine ends_act (r := execMicroframeBoundary u s) rfl rfl ha ?_
    rw [if_neg (by simp [hu, hm, hc]), if_neg (by simp [hd])]
  case tick =>
    intro s ha hm hc hd
    refine ends_act (r := execTbTick125us s) rfl rfl ha ?_
    rw [if_neg (by simp [hm, hc]), if_pos hd]
  case tickNot =>
    intro s ha hm
    exact ends_act (r := execTbTick125us s) rfl rfl ha (if_pos hm)
  case shaper =>
    intro s ha hm hc hd
    refine ends_act (r := execShaperTickUpdate s) rfl rfl ha ?_
    rw [if_neg (by simp [hm, hc])]
    dsimp only
    rw [if_neg (by simp [hd])]
    exact ⟨rfl, rfl, rfl⟩
  case shapers =>
    intro s ha hm hc hd
    refine ends_act (r := execShaperTickUpdate s) rfl rfl ha ?_
    rw [if_neg (by simp [hm, hc])]
    exact if_pos hd
  case ms =>
    intro s ha hm hc
    refine ends_act (r := execOneMsTick s) rfl rfl ha ?_
    rw [if_neg (by simp [hm, hc])]
    exact ⟨rfl, by simp⟩

namespace State

variable (s : State)

/-- What a level that falls leaves of the rest. -/
theorem fltFall_eq (i inst : Nat) : ∃ f, s.fltFall i inst = { s with flt := f } := by
  unfold fltFall
  dsimp only
  split <;> exact ⟨_, rfl⟩

/-- A supply that rises lets F08 and F09 fall, which no other component shows. -/
theorem supplyRise_faults (l : List Nat) (s : State) :
    ∃ f, l.foldl (fun s d => if s.dieSupplied d then s.fltFall (8 + d) 0 else s) s = { s with flt := f } := by
  induction l generalizing s with
  | nil => exact ⟨s.flt, rfl⟩
  | cons d r ih =>
    rw [List.foldl_cons]
    split
    · obtain ⟨f, hf⟩ := s.fltFall_eq (8 + d) 0
      obtain ⟨f', hf'⟩ := ih (s.fltFall (8 + d) 0)
      exact ⟨f', by rw [hf', hf]⟩
    · exact ih s

end State

namespace State

variable (s old : State)

theorem modeNote_mode : (s.modeNote old).mode = s.mode := by
  obtain ⟨c, l, th, h⟩ := s.modeNote_eq old
  rw [h]

theorem modeNote_tk : (s.modeNote old).tk = s.tk := by
  obtain ⟨c, l, th, h⟩ := s.modeNote_eq old
  rw [h]

theorem modeNote_pins : (s.modeNote old).pins = s.pins := by
  obtain ⟨c, l, th, h⟩ := s.modeNote_eq old
  rw [h]

theorem modeNote_dormant : (s.modeNote old).dormant = s.dormant := by
  obtain ⟨c, l, th, h⟩ := s.modeNote_eq old
  rw [h]

end State

/-- Settles O38: each row by the branch its conditions choose. -/
theorem modeRows : Obligations.ModeRows := by
  refine ⟨?fall0, ?fall, ?rise, ?low, ?lowHeld, ?high, ?hold, ?lock, ?lockNot, ?romBad, ?romOk, ?unit, ?calib, ?timeout, ?safe, ?safeNot,
    ?release, ?releaseNot, ?selftestNot, ?selftest, ?selftestEnd, ?reset, ?resetBusy, ?wake, ?wakeNot⟩
  case fall0 => exact fun s => ⟨_, rfl, rfl⟩
  case fall =>
    intro s i h1 h4 hm
    refine ⟨_, rfl, ?_⟩
    rw [if_neg (by omega), if_pos h4, if_neg hm]
  case rise =>
    intro s i h4 hm hs hl
    refine ⟨_, rfl, ?_⟩
    dsimp only
    rw [if_pos ⟨hm, hs⟩]
    obtain ⟨f, hf⟩ := supplyRise_faults [0, 1] ((s.modPins fun p => { p with supply := p.supply.set i true }).enterMode .hold)
    rw [hf]
    exact ⟨rfl, rfl⟩
  case low => exact fun s ha => ⟨_, rfl, if_pos ha⟩
  case lowHeld => exact fun s ha => ⟨_, rfl, if_neg (by simp [ha])⟩
  case high => exact fun s => ⟨_, rfl, rfl⟩
  case hold =>
    intro s hm hr hl
    refine ⟨_, rfl, ?_⟩
    rw [if_pos ⟨hm, hr, hl⟩]
    refine ⟨rfl, by simp, by simp, by simp, by simp, fun g hg => ?_⟩
    simp at hg
    simp [get_set_other, hg]
  case lock =>
    intro s hm ha hp
    refine ends_act (r := execPllLock s) rfl rfl ha ?_
    rw [if_pos ⟨hm, hp⟩]
    refine ⟨rfl, by simp, hm, fun g hg => ?_⟩
    simp at hg
    simp [get_set_other, hg]
  case lockNot =>
    intro s hm ha hp
    exact ends_act (r := execPllLockTimeout s) rfl rfl ha (if_pos ⟨hm, hp⟩)
  case romBad =>
    intro s hm ha hp
    refine ends_act (r := execRiseEntry false s) rfl rfl ha ?_
    rw [if_pos ⟨hm, hp⟩]
    rfl
  case romOk =>
    intro s hm ha hp hd hv
    refine ends_act (r := execRiseEntry true s) rfl rfl ha ?_
    rw [if_pos ⟨hm, hp⟩]
    dsimp only
    rw [if_neg (by simp)]
    simp [modeNote_mode, modeNote_tk, modeNote_pins, modeNote_get, logRec_mode, hd, dieHere, hv]
  case unit =>
    intro s i ha hi hw hm
    refine ends_act (r := execUnitReady i s) rfl rfl ha ?_
    rw [if_neg (by omega), if_pos (by simp [hw, hm])]
  case calib =>
    intro s i ha hw hi
    refine ends_act (r := execCalibrationFail i s) rfl rfl ha ?_
    rw [readyFail, if_pos hw, if_neg (by omega)]
  case timeout =>
    intro s i ha hw hi
    refine ends_act (r := execReadinessTimeout i s) rfl rfl ha ?_
    rw [readyFail, if_pos hw, if_pos hi]
  case safe =>
    intro s ha hm
    exact ends_act (r := execModeSafe s) rfl rfl ha (if_neg hm)
  case safeNot =>
    intro s ha hm
    refine ends_act (r := execModeSafe s) rfl rfl ha ?_
    rw [cmdSafe, if_pos hm]
    exact ⟨rfl, rfl, by simp [modeRefuse], by simp [modeRefuse]⟩
  case release =>
    intro s ha h
    exact ends_act (r := execRelease s) rfl rfl ha (if_pos h)
  case releaseNot =>
    intro s ha h
    exact ends_act (r := execRelease s) rfl rfl ha (if_neg (by simp [h]))
  case selftestNot =>
    intro s ha h
    exact ends_act (r := execSelftest s) rfl rfl ha (if_pos (.inl h))
  case selftest =>
    intro s ha hm hu
    refine ends_act (r := execSelftest s) rfl rfl ha ?_
    rw [cmdSelftest, if_neg (by simp [hm, s.on_false hu])]
    exact ⟨modeNote_mode .., modeNote_dormant ..⟩
  case selftestEnd =>
    intro s first ha hm
    exact ends_act (r := execSelftestEnd first s) rfl rfl ha (if_pos hm)
  case reset =>
    intro s ha hb
    refine ends_act (r := execModeReset s) rfl rfl ha ?_
    rw [cmdReset, if_neg (by simp [s.on_false hb])]
  case resetBusy =>
    intro s ha hb
    refine ends_act (r := execModeReset s) rfl rfl ha ?_
    rw [cmdReset, if_pos (s.on_true hb)]
    refine ⟨rfl, rfl, rfl, fun g hg => ?_⟩
    simp at hg
    simp [modeDone, get_set_other, hg]
  case wake =>
    intro s ha h
    exact ends_act (r := execWake s) rfl rfl ha (if_pos h)
  case wakeNot =>
    intro s ha h
    exact ends_act (r := execWake s) rfl rfl ha (if_neg (by simp [h]))

end Sys2Proof.Machine
end

section
/-!
SUPPORT. Cascade links (chapter 13): commands of a link, frames a link takes, and frames addressed to this part.
-/

namespace Sys2Proof.Machine

namespace State

variable {s : State} {u : Nat}

theorem linkSide_iff : s.linkSide u = true ↔ s.kOn = true ∧ s.usHere u = true ∧ s.isKcl u = true ∧ s.alive = true := by
  simp [linkSide, and_assoc]

/-- Nothing waits on a link, so nothing leaves it. -/
theorem kFlush_empty (h : (s.klink u).txq = []) : s.kFlush u = s := by
  rw [kFlush, h]
  rfl

/-- Credit frames change the outputs alone. -/
theorem credits_frame (l : Tbl Nat) (s : State) :
    ∃ o, l.foldl (fun s e => s.linkFrame u Lc.credit [e.1, e.2]) s = { s with out := o } := by
  induction l generalizing s with
  | nil => exact ⟨s.out, rfl⟩
  | cons e r ih =>
    obtain ⟨o, ho⟩ := ih (s.linkFrame u Lc.credit [e.1, e.2])
    exact ⟨o, ho⟩

end State

open State

/-- A command of a running link. -/
theorem ends_atK {c : Instr} {s : State} {u : Nat} {f : State → State} {Q : State → Prop} {r : Res State}
    (hr : r = act s fun s => s.atK u f) (he : exec c s = r) (hs : s.linkSide u = true) (hq : Q (f s)) : Ends c s Q := by
  obtain ⟨hk, hu, hl, ha⟩ := linkSide_iff.mp hs
  refine ends_act hr he ha ?_
  rwa [atK, if_pos (by simp [hk, hu, hl])]

/-- A frame the link expects, on the state that accounts for it. -/
theorem ends_take {c : Instr} {s : State} {u seq vc len : Nat} {f : State → State} {Q : State → Prop} {r : Res State}
    (hr : r = act s fun s => s.kAccept u seq vc len f) (he : exec c s = r) (hs : s.linkTakes u seq = true)
    (hq : Q (f (s.frameIn u seq vc len))) : Ends c s Q := by
  refine ends_act hr he (alive_of_linkTakes hs) ?_
  rwa [kAccept_takes _ _ _ hs]

/-- A PORTOP frame for this part. -/
theorem ends_portop {c : Instr} {s : State} {u seq dest len : Nat} {args : List Nat} {f : State → State} {Q : State → Prop}
    {r : Res State} (hr : r = act s fun s => s.portopIn u seq dest args f) (he : exec c s = r) 
    (hs : s.linkTakes u seq = true) (hm : (s.frameIn u seq 0 len).toMe dest = true) (hl : args.length = len) (hq : Q (f (s.frameIn u seq 0 len))) :
    Ends c s Q := by
  subst hl
  exact ends_take hr he hs (by rwa [if_pos hm])

/-- Settles O39: link commands by `ends_atK`, each by the branch its conditions choose. -/
theorem cascadeLinkRows : Obligations.CascadeLinkRows := by
  refine ⟨?auto, ?term, ?lock, ?refused, ?done, ?timeout, ?retry, ?lack, ?lnak4, ?lnak, ?credit, ?keepalive, ?probe, ?echo, ?echoLate,
    ?crc, ?unknown, ?lackTimer, ?creditTimer, ?keepaliveTimer, ?loss, ?probeTimer⟩
  case auto =>
    intro s u ha hk hu hm hd hl hr
    refine ends_act (r := execKclAutoDetect u s) rfl rfl ha ?_
    rw [if_pos (by simp [hk, hu, hm, s.on_false hd, hl, hr])]
  case term =>
    intro s u hs hl
    exact ends_atK (r := execKclTerminationDetect u s) rfl rfl hs (if_pos (.inl hl))
  case lock =>
    intro s u hs hl
    exact ends_atK (r := execKclPollLock u s) rfl rfl hs (if_pos hl)
  case refused =>
    intro s u swap ver peerLink hasId peerChip peerDie hs hl hv
    refine ends_atK (r := execKclConfigDone u swap ver peerLink hasId peerChip peerDie s) rfl rfl hs ?_
    rw [if_neg (fun h => h hl), if_pos hv]
  case done =>
    intro s u swap peerLink peerDie hs hl hd hn
    refine ends_atK (r := execKclConfigDone u swap 0x11 peerLink false 0 peerDie s) rfl rfl hs ?_
    rw [if_neg (fun h => h hl), if_neg (by decide)]
    dsimp only
    rw [if_pos (by simp [numbered, hn])]
    simp only [hd, hn, decide_false, Bool.false_and, Bool.false_eq_true, if_false]
    refine ⟨_, rfl, ?_, ?_⟩
    · simp (disch := (dsimp only [Fld.key]; omega)) [get_set_other]
    · simp
  case timeout =>
    intro s u one hs hl
    exact ends_atK (r := execKclTrainTimeout u one s) rfl rfl hs (if_pos hl)
  case retry =>
    intro s u hs hl
    exact ends_atK (r := execKclTrainRetry u s) rfl rfl hs (if_pos hl)
  case lack =>
    intro s u seq f r hs hu hq
    refine ends_atK (r := execLack u seq s) rfl rfl hs ?_
    have hi : (s.klink u).unacked.findIdx? (fun f => f.1 == seq) = some 0 := by simp [hu, List.findIdx?_cons]
    simp only [hi]
    rw [kFlush_empty (by simpa using hq)]
    simp [hu]
  case lnak4 =>
    intro s u seq hs hl hn
    refine ends_atK (r := execLnak u seq s) rfl rfl hs ?_
    rw [if_neg (by simp [hl])]
    simp [hn]
  case lnak =>
    intro s u seq hs hl hn hu hq
    refine ends_atK (r := execLnak u seq s) rfl rfl hs ?_
    rw [if_neg (by simp [hl])]
    simp [hn, hu]
    rw [kFlush_empty (by simpa using hq)]
    simp
  case credit =>
    intro s u vc n hs hq
    refine ends_atK (r := execCredit u vc n s) rfl rfl hs ?_
    rw [kFlush_empty (by simpa using hq)]
    simp
  case keepalive => exact fun s u ha => ends_act (r := execKeepalive u s) rfl rfl ha rfl
  case probe =>
    intro s u tb hs hl
    exact ends_atK (r := execProbe u tb s) rfl rfl hs (if_pos hl)
  case echo =>
    intro s u tb rtt hs hp hv hr
    refine ends_atK (r := execProbeEcho u tb rtt s) rfl rfl hs ?_
    rw [if_pos ⟨hp, s.on_true hv⟩]
    refine ⟨?_, ?_, by simp, fun g hg => ?_⟩
    · simp (disch := (dsimp only [Fld.key]; omega)) [get_set_other, Nat.min_eq_right hr]
      omega
    · simp [Nat.not_lt.mpr hr]
    · simp at hg
      simp [get_set_other, hg]
  case echoLate =>
    intro s u tb rtt hs hp hv hr
    refine ends_atK (r := execProbeEcho u tb rtt s) rfl rfl hs ?_
    rw [if_pos ⟨hp, s.on_true hv⟩]
    simp (disch := (dsimp only [Fld.key]; omega)) [get_set_other, Nat.min_eq_left (Nat.le_of_lt hr), hr]
  case crc =>
    intro s u seq vc len hs hl
    refine ends_atK (r := execFrameError u false seq vc len s) rfl rfl hs ?_
    rw [if_neg (by decide), if_pos hl]
    simp [linkFrame]
  case unknown =>
    intro s u seq len hs ht
    refine ends_atK (r := execFrameError u true seq 0 len s) rfl rfl hs ?_
    rw [if_pos rfl, kAccept_takes _ _ _ ht]
    rfl
  case lackTimer =>
    intro s u hs hl hc
    refine ends_atK (r := execLackTimer u s) rfl rfl hs ?_
    rw [if_pos (by simp [hl, hc])]
    simp [linkFrame]
  case creditTimer =>
    intro s u hs hl
    refine ends_atK (r := execCreditTimer u s) rfl rfl hs ?_
    obtain ⟨o, ho⟩ := credits_frame (u := u) (s.klink u).owed (s.modKlink u fun l => { l with owed := [] })
    rw [if_pos hl, ho]
    simp [klink, modKlink]
  case keepaliveTimer =>
    intro s u hs hl
    exact ends_atK (r := execKeepaliveTimer u s) rfl rfl hs (if_pos hl)
  case loss =>
    intro s u hs hl hq
    refine ends_atK (r := execKclLinkLoss u s) rfl rfl hs ?_
    rw [if_pos hl]
    dsimp only
    rw [hq]
    rfl
  case probeTimer =>
    intro s u hs hl hv
    refine ends_atK (r := execProbeTimer u s) rfl rfl hs ?_
    rw [if_pos (by simp [hl, s.on_true hv])]
    simp [linkFrame]

/-- Settles O40: frames by `ends_take`, timers by the branch their conditions choose. -/
theorem cascadeIdRows : Obligations.CascadeIdRows := by
  refine ⟨?route, ?own, ?loss, ?flood, ?floodNot, ?expiry, ?worse, ?same, ?announce, ?become, ?lost, ?fixed, ?full, ?grant, ?claim,
    ?refuse, ?claimRoot, ?claimTimer, ?free, ?retry, ?retryNot⟩
  case route =>
    intro s u seq origin rseq hops lat hs hu hm hq
    refine ends_take (r := execRouteFrame u seq origin rseq hops lat s) rfl rfl hs ?_
    generalize s.frameIn u seq 0 12 = x at *
    rw [if_neg (by simp [hu, hm])]
    simp [hq]
  case own =>
    intro s u seq origin rseq hops lat hs hm
    exact ends_take (r := execRouteFrame u seq origin rseq hops lat s) rfl rfl hs (if_pos (.inr hm))
  case loss => exact fun s u seq origins hs => ends_take (r := execRouteLoss u seq origins s) rfl rfl hs rfl
  case flood => exact fun s ha hk => ends_act (r := execRouteFloodTimer s) rfl rfl ha (if_pos hk)
  case floodNot => exact fun s ha hk => ends_act (r := execRouteFloodTimer s) rfl rfl ha (if_neg (by simp [hk]))
  case expiry => exact fun s origin u ha hk => ends_act (r := execRouteEntryExpiry origin u s) rfl rfl ha (if_pos hk)
  case worse =>
    intro s u seq die rid d hs hb hd hr
    refine ends_take (r := execRootFrame u seq die rid s) rfl rfl hs ?_
    generalize s.frameIn u seq 0 12 = x at *
    simp [hb, hr, Nat.not_lt.mpr (Nat.le_of_lt hd)]
  case same =>
    intro s u seq die rid d hs hb hd hr
    refine ends_take (r := execRootFrame u seq die rid s) rfl rfl hs ?_
    generalize s.frameIn u seq 0 12 = x at *
    simp [hb, hr, hd]
  case announce =>
    intro s ha hk hr
    refine ends_act (r := execRootAnnounceTimer s) rfl rfl ha ?_
    simp [hk, s.on_true hr]
  case become =>
    intro s ha hk hb hr he
    refine ends_act (r := execRootAnnounceTimer s) rfl rfl ha ?_
    simp [hk, hb, s.on_false hr, s.on_true he]
  case lost =>
    intro s d ha hk hr he
    refine ends_act (r := execRootLost s) rfl rfl ha ?_
    rw [if_pos (by simp [hk, hr])]
    simp [s.on_false he]
  case fixed =>
    intro s u seq die want hs hr hf
    refine ends_take (r := execIdReq u seq die true want s) rfl rfl hs ?_
    rw [if_pos (on_true _ hr), if_pos rfl, if_pos hf]
  case full =>
    intro s u seq die want hs hr hf
    refine ends_take (r := execIdReq u seq die false want s) rfl rfl hs ?_
    rw [if_pos (on_true _ hr), if_neg (by decide), hf]
  case grant =>
    intro s u seq id hs hn
    refine ends_take (r := execIdGrant u seq _ id s) rfl rfl hs ?_
    rw [if_pos rfl, if_neg (by simp [hn])]
  case claim =>
    intro s u seq dest die id hs hr hf
    refine ends_take (r := execIdClaim u seq dest die id s) rfl rfl hs ?_
    rw [if_pos (on_true _ hr)]
    exact if_pos hf
  case refuse =>
    intro s u seq cause hs hc
    refine ends_take (r := execIdRefuse u seq _ cause s) rfl rfl hs ?_
    rw [if_neg (fun h => h rfl), if_neg (by simp [hc])]
  case claimRoot =>
    intro s ha hk hn hr
    refine ends_act (r := execIdClaimTimer s) rfl rfl ha ?_
    rw [if_pos (by simp [hk, hn]), if_pos (on_true _ hr)]
  case claimTimer =>
    intro s ha hk hn hr
    refine ends_act (r := execIdClaimTimer s) rfl rfl ha ?_
    rw [if_pos (by simp [hk, hn]), if_neg (by simp [s.on_false hr])]
  case free =>
    intro s id ha hk hr hi
    refine ends_act (r := execIdFreeTimeout id s) rfl rfl ha ?_
    rw [if_pos (by simp [hk, s.on_true hr, hi])]
    simp [modKcl]
  case retry =>
    intro s ha hk hi
    exact ends_act (r := execIdReqRetry s) rfl rfl ha (if_pos (by simp [hk, hi]))
  case retryNot =>
    intro s ha hi
    exact ends_act (r := execIdReqRetry s) rfl rfl ha (if_neg (by simp [hi]))

/-- Settles O41: PORTOP frames by `ends_portop`, timers by the branch their conditions choose. -/
theorem cascadePresentRows : Obligations.CascadePresentRows := by
  refine ⟨?req, ?reqNot, ?ack, ?nak, ?presEnd, ?status, ?cmd, ?rsp, ?event, ?noAnswer, ?retry, ?timeout⟩
  case req =>
    intro s u seq dest gchip port tr h l lat ss hs hm hc
    exact ends_portop (r := execPresReq u seq dest gchip port tr h l ⟨lat, ss⟩ s) rfl rfl hs hm rfl (if_pos hc)
  case reqNot =>
    intro s u seq dest gchip port tr h l lat ss hs hm hc
    exact ends_portop (r := execPresReq u seq dest gchip port tr h l ⟨lat, ss⟩ s) rfl rfl hs hm rfl (if_neg hc)
  case ack =>
    intro s u seq dest n lat x hs hm hp hn hr hl hv
    refine ends_portop (r := execPresAck u seq dest n lat s) rfl rfl hs hm rfl ?_
    generalize s.frameIn u seq 0 3 = y at *
    simp [hp, hn, hr, hv, Nat.min_eq_right hl]
    omega
  case nak =>
    intro s u seq dest n cause x hs hm hn hc hp hst
    refine ends_portop (r := execPresNak u seq dest n cause s) rfl rfl hs hm rfl ?_
    generalize s.frameIn u seq 0 3 = y at *
    simp (disch := (dsimp only [Fld.key]; omega)) [hp, hst, get_set_other, Nat.mod_eq_of_lt hc]
  case presEnd =>
    intro s u seq dest gchip port i hs hm hi
    refine ends_portop (r := execPresEnd u seq dest gchip port s) rfl rfl hs hm rfl ?_
    rw [hi]
  case status =>
    intro s u seq dest gchip port sp ss chg i hs hm hi
    refine ends_portop (r := execPortSt u seq dest gchip port Ps.enabled sp ss chg false s) rfl rfl hs hm rfl ?_
    have hf := s.frameIn_flds u seq 0 8
    generalize s.frameIn u seq 0 8 = y at *
    have he : Ps.disabled ≤ Ps.enabled ∧ Ps.enabled ≤ Ps.suspended := by decide
    simp [hi, he, hf, slot, modSlot, modKcl]
  case cmd =>
    intro s u seq dest n code val c r hs hm hp hr hc
    refine ends_portop (r := execPortCmd u seq dest n code val s) rfl rfl hs hm rfl ?_
    simp [hp, hr, hc]
  case rsp =>
    intro s u seq dest gchip port res i o hs hm hi ho
    refine ends_portop (r := execPortRsp u seq dest gchip port res s) rfl rfl hs hm rfl ?_
    rw [hi]
    dsimp only
    rw [ho]
  case event =>
    exact fun s u seq dest c tr ev hs hm => ends_portop (r := execTreeEvt u seq dest c tr ev s) rfl rfl hs hm rfl rfl
  case noAnswer =>
    intro s n ha hst hp
    refine ends_act (r := execPresNoAnswer n s) rfl rfl ha ?_
    rw [if_pos ⟨hst, hp⟩]
    refine ⟨?_, by simp, fun g hg => ?_, by simp⟩
    · simp (disch := (dsimp only [Fld.key]; omega)) [get_set_other]
    · simp at hg
      simp [get_set_other, hg]
  case retry =>
    intro s n ha hk hst
    exact ends_act (r := execPresReqRetry n s) rfl rfl ha (if_pos (by simp [hk, hst]))
  case timeout =>
    intro s i o ha ho
    refine ends_act (r := execPortopTimeout i s) rfl rfl ha ?_
    rw [ho]

/-- Settles O42: frames by `ends_take` and `ends_portop`, the rest by the branch their conditions choose. -/
theorem cascadeDataRows : Obligations.CascadeDataRows := by
  refine ⟨?sync, ?syncOn, ?sendNone, ?send, ?transit, ?owned, ?proxy, ?isopf, ?token, ?pollEnd, ?poll, ?timeout⟩
  case sync =>
    intro s u seq dest c tr frame n hs hm hn
    refine ends_portop (r := execSofSync u seq dest c tr frame s) rfl rfl hs hm rfl ?_
    have hf := s.frameIn_flds u seq 0 4
    generalize s.frameIn u seq 0 4 = y at *
    rw [hn, List.foldl_cons, List.foldl_nil]
    dsimp only
    split <;> simp [hf]
  case syncOn =>
    intro s u seq dest c tr frame v hs hm hv
    refine ends_take (r := execSofSync u seq dest c tr frame s) (len := 4) rfl rfl hs ?_
    rw [if_neg (by simp [hm]), kForward, hv]
    rfl
  case sendNone =>
    intro s ha hk hf
    refine ends_act (r := execSofSyncSend s) rfl rfl ha ?_
    rw [if_pos hk, hf, List.foldl_nil]
  case send =>
    intro s u ha hk hf
    refine ends_act (r := execSofSyncSend s) rfl rfl ha ?_
    rw [if_pos hk, hf, List.foldl_cons, List.foldl_nil]
  case transit =>
    intro s u seq dest gchip port epn dirIn colour poison toHost addr pseq numP hs hm
    refine ends_act (r := execDataFrame u seq dest gchip port epn dirIn colour poison toHost 0 false addr 0 pseq numP s) rfl rfl
      (alive_of_linkTakes hs) ?_
    exact congrArg gatesRefresh ((kAccept_takes 2 16 _ hs).trans (if_neg (by simp [hm])))
  case owned =>
    intro s u seq dest gchip port epn dirIn colour poison addr pseq numP hs hm
    refine ends_act (r := execDataFrame u seq dest gchip port epn dirIn colour poison false 0 false addr 0 pseq numP s) rfl rfl
      (alive_of_linkTakes hs) ?_
    exact congrArg gatesRefresh ((kAccept_takes 2 16 _ hs).trans (if_pos hm))
  case proxy =>
    intro s u seq dest gchip port epn dirIn toHost kind pid res len colour poison s0 p hs h0 hm hp
    refine ends_act (r := execProxyFrame u seq dest gchip port epn dirIn toHost kind pid res ⟨len, colour, poison⟩ s) rfl rfl
      (alive_of_linkTakes hs) ?_
    rw [kAccept_takes _ _ _ hs, ← h0]
    dsimp only
    rw [if_pos hm, ← hp]
  case isopf =>
    intro s u seq dest gchip port epn len colour s0 s1 p hs h0 hm hp h1 hd hpr
    refine ends_act (r := execIsopfFrame u seq dest gchip port epn false false ⟨len, colour, false⟩ s) rfl rfl
      (alive_of_linkTakes hs) ?_
    rw [kAccept_takes _ _ _ hs, ← h0]
    dsimp only
    rw [if_pos hm, ← hp, ← h1]
    simp [hd, hpr]
  case token =>
    intro s u addr epn pid len dirIn ack i hs ha hr hi hx
    refine ends_act (r := execProxyHostToken u addr epn 0 pid len dirIn ack s) rfl rfl (alive_of_hostSide hs) ?_
    rw [atU_hostSide _ hs]
    simp [ha, hr, hi, hx, afterSetup]
  case pollEnd =>
    intro s n epn len c ha hc h8
    refine ends_act (r := execIsoPrefetchPoll n epn len s) rfl rfl ha ?_
    simp [hc, h8]
  case poll =>
    intro s n epn len c ha hc h8
    refine ends_act (r := execIsoPrefetchPoll n epn len s) rfl rfl ha ?_
    simp [hc, Nat.not_le.mpr h8]
  case timeout =>
    intro s j ha hj
    refine ends_act (r := execProxyEntryTimeout j s) rfl rfl ha ?_
    rw [if_pos hj]
    exact ⟨rfl, rfl⟩

end Sys2Proof.Machine
end

section
/-!
SUPPORT. The hub tree (chapter 02): ports, upstream ports and transaction translators.
-/

namespace Sys2Proof.Machine

open State

/-- A command on a host-facing upstream port. -/
theorem ends_atU {c : Instr} {s : State} {u : Nat} {f : State → State} {Q : State → Prop} {r : Res State}
    (hr : r = act s fun s => s.atU u f) (he : exec c s = r) (hs : s.hostSide u = true) (hq : Q (f s)) : Ends c s Q :=
  ends_act hr he (alive_of_hostSide hs) (by rwa [atU_hostSide _ hs])

/-- A command on a downstream port. -/
theorem ends_atD {c : Instr} {s : State} {n : Nat} {f : State → State} {Q : State → Prop} {r : Res State}
    (hr : r = act s fun s => s.atD n f) (he : exec c s = r) (hs : s.portSide n = true) (hq : Q (f s)) : Ends c s Q :=
  ends_act hr he (alive_of_portSide hs) (by rwa [atD_portSide _ hs])

/-- A host's request that reaches a port of this part. -/
theorem ends_portReq {c : Instr} {s : State} {u h l n : Nat} {q : Req} {Q : State → Prop} {r : Res State}
    (hr : r = act s fun s => s.hostReq u h l q) (he : exec c s = r) (hs : s.hostSide u = true)
    (hc : s.carrier u h l q.ss = some (.port n)) (hq : Q (s.portReq n q)) : Ends c s Q :=
  ends_act hr he (alive_of_hostSide hs) (by rwa [hostReq_port q hs hc])

/-- A host's request that reaches a port of this part and is answered ACK at once. -/
theorem ends_portReqAck {c : Instr} {s : State} {u h l n : Nat} {q : Req} {Q : State → Prop} {r : Res State}
    (hr : r = act s fun s => s.hostReqAck u h l q) (he : exec c s = r) (hs : s.hostSide u = true)
    (hc : s.carrier u h l q.ss = some (.port n)) (hq : Q ((s.portReq n q).emit (.ctl u true []))) : Ends c s Q :=
  ends_act hr he (alive_of_hostSide hs) (by rwa [hostReqAck_port q hs hc])

namespace State

variable (s : State)

/-- A port that takes its address. -/
theorem portReq_address_get {n a : Nat} (ha : a < 128) : (s.portReq n (.address a)).get (P_PORTST.ADDR n) = a ∧
    (s.portReq n (.address a)).get (P_PORTST.ADDR_VALID n) = 1 := by
  rw [portReq, stallClear_get_other _ _ _ (by dsimp only [Fld.key]; omega), stallClear_get_other _ _ _ (by dsimp only [Fld.key]; omega),
    get_set_other _ _ _ _ (by dsimp only [Fld.key]; omega)]
  simp
  omega

theorem portReq_address_up (n a u : Nat) : (s.portReq n (.address a)).up u = s.up u := by simp [portReq]

/-- A USB 2.0 reset of Dn drives it, and marks what drives it. -/
theorem resetPort_rst {n : Nat} (hl : s.get (P_PORTST.SS_LINK n) = 0)
    (hp : s.ps n = Ps.enabled ∨ s.ps n = Ps.disabled ∨ s.ps n = Ps.suspended) : ((s.resetPort n false).port n).rst = 1 := by
  have hq : s.ps n = Ps.disabled ∨ s.ps n = Ps.enabled ∨ s.ps n = Ps.suspended := by
    rcases hp with h | h | h <;> simp [h]
  simp only [resetPort, on_false _ hl, hq, and_self, if_true, Bool.false_eq_true, if_false]
  split <;> simp

end State

/-- Settles O24: host requests by `ends_portReq`, the rest by the branch their conditions choose. -/
theorem hubPortRows : Obligations.HubPortRows := by
  refine ⟨?map, ?se0, ?se0Mgmt, ?stall, ?address, ?addressSs, ?reset, ?resetEnd, ?bhReset, ?hot, ?lfps, ?warmFail, ?connect, ?disconnect,
    ?error, ?clearEnable, ?power, ?powerOff, ?powerNot, ?powerOffNot⟩
  case map =>
    intro s n v ha hn
    refine ends_act (r := execPortMapWrite n v s) rfl rfl ha ?_
    rw [atPort, if_pos hn]
    exact ⟨rfl, rfl⟩
  case se0 =>
    intro s k ha hk hm hp
    refine ends_act (r := execMoveSe0End k s) rfl rfl ha ?_
    rw [if_pos hk, if_pos hm]
    dsimp only
    split
    · rename_i h
      exact absurd h (hp _ _ _ _)
    · simp
  case se0Mgmt =>
    intro s u ha hm
    refine ends_act (r := execMoveSe0End (96 + u) s) rfl rfl ha ?_
    rw [if_neg (by omega)]
    simp [hm]
  case stall =>
    intro s n u ha ht hl he hs hp
    refine ends_act (r := execEnumStall n s) rfl rfl ha ?_
    rw [ht]
    simp [s.on_true hl, s.on_true he, s.on_false hs, hp]
  case address =>
    intro s u a n h l hs ht hn ha
    refine ends_atU (r := execSetAddressComplete u a false h l s) rfl rfl hs ?_
    rw [if_neg (by decide), ht]
    dsimp only [takeAddress]
    obtain ⟨h1, h2⟩ := portReq_address_get (s.modUp u fun x => { x with routes := Tbl.ins (Tbl.erase x.routes a) a (.port n), target0 := none })
      (n := n) ha
    refine ⟨h1, h2, ?_⟩
    simp [portReq_address_up]
  case addressSs =>
    intro s u a h l n hs hu hl hc hn hk ha
    refine ends_atU (r := execSetAddressComplete u a true h l s) rfl rfl hs ?_
    rw [if_pos rfl, if_pos (s.on_true hu), ssNamed, if_pos hl, hc]
    dsimp only
    rw [if_pos (s.on_true hk)]
    exact portReq_address_get s ha
  case reset =>
    intro s u h l n hs hc hl hp
    exact ends_portReq (r := execSetPortReset u h l false s) (q := .reset false) rfl rfl hs hc ⟨rfl, s.resetPort_rst hl hp⟩
  case resetEnd =>
    intro s n ha hn hr hp hd ht
    refine ends_act (r := execUsb2PortResetEnd n true s) rfl rfl ha ?_
    rw [if_pos ⟨hr, hp⟩, if_neg (by simp [hd])]
    simp (disch := (dsimp only [Fld.key]; omega)) [ht, hd, setPs_get_other]
    decide
  case bhReset =>
    intro s u h l n hs hc hn hl hp
    refine ends_portReq (r := execBhPortReset u h l s) (q := .bhReset) rfl rfl hs hc ?_
    have hr : Ps.disabled ≤ Ps.enabled ∧ Ps.enabled ≤ Ps.suspended := by decide
    simp [portReq, s.on_true (f := P_PORTST.SS_LINK n) (by simp [hl]), hp, hr, warmReset]
  case hot =>
    intro s n ha hr
    refine ends_act (r := execHotResetEscalation n s) rfl rfl ha ?_
    rw [if_pos hr]
    simp [warmReset]
  case lfps =>
    intro s n ha hn hr
    refine ends_act (r := execWarmResetLfpsEnd n s) rfl rfl ha ?_
    rw [if_pos hr]
    simp
    decide
  case warmFail =>
    intro s n ha hn hr
    refine ends_act (r := execWarmResetFail n s) rfl rfl ha ?_
    rw [if_pos hr]
    simp
    decide
  case connect => exact fun s n sp ss hs => ends_atD (r := execDeviceConnect n sp ss s) rfl rfl hs rfl
  case disconnect => exact fun s n hs => ends_atD (r := execDeviceDisconnect n s) rfl rfl hs rfl
  case error =>
    intro s n ha hn hp
    refine ends_act (r := execPortEnableError n s) rfl rfl ha ?_
    rw [if_pos hp]
    simp (disch := (dsimp only [Fld.key]; omega)) [setPs_get_other]
    decide
  case clearEnable =>
    intro s u h l n hs hc hn hl hp
    refine ends_portReq (r := execClearPortEnable u h l s) (q := .clearEnable) rfl rfl hs hc ?_
    simp [portReq, hp, s.on_false hl]
    decide
  case power =>
    intro s u h l n hs hp hc
    refine ends_atU (r := execSetPortPower u h l s) rfl rfl hs ?_
    rw [if_pos (s.on_true hp), hostReqAck_port .setPower hs hc]
  case powerOff =>
    intro s u h l n hs hp hc
    refine ends_atU (r := execClearPortPower u h l s) rfl rfl hs ?_
    rw [if_pos (s.on_true hp), hostReqAck_port .clearPower hs hc]
  case powerNot =>
    intro s u h l hs hp
    exact ends_atU (r := execSetPortPower u h l s) rfl rfl hs (if_neg (by simp [s.on_false hp]))
  case powerOffNot =>
    intro s u h l hs hp
    exact ends_atU (r := execClearPortPower u h l s) rfl rfl hs (if_neg (by simp [s.on_false hp]))

namespace State

variable (s : State)

@[simp] theorem forwards_up (l : List Nat) (s : State) (u : Nat) :
    (l.foldl (fun s n => s.emit (.usb2 n .forward)) s).up u = s.up u := by
  induction l generalizing s with
  | nil => rfl
  | cons n r ih => exact ih _

@[simp] theorem repeatTo_tokenTo (u : Nat) (l : List Nat) : ((s.repeatTo u l).up u).tokenTo = l := by
  unfold repeatTo
  dsimp only
  split <;> simp

/-- Repeating a transaction changes the outputs, and what Uu last repeated to. -/
theorem repeatTo_frame (u : Nat) (l : List Nat) : (s.repeatTo u l).flds = s.flds ∧ (s.repeatTo u l).cnts = s.cnts := by
  have h : ∀ (r : List Nat) (x : State), (r.foldl (fun s n => s.emit (.usb2 n .forward)) x).flds = x.flds ∧
      (r.foldl (fun s n => s.emit (.usb2 n .forward)) x).cnts = x.cnts := by
    intro r
    induction r with
    | nil => exact fun _ => ⟨rfl, rfl⟩
    | cons n r ih => exact fun x => ih (x.emit (.usb2 n .forward))
  unfold repeatTo
  dsimp only
  split
  · exact h l _
  · exact h l _

@[simp] theorem repeatTo_flds (u : Nat) (l : List Nat) : (s.repeatTo u l).flds = s.flds := (s.repeatTo_frame u l).1
@[simp] theorem repeatTo_cnt (u : Nat) (l : List Nat) (a : Nat) : (s.repeatTo u l).cnt a = s.cnt a := by
  rw [cnt, (s.repeatTo_frame u l).2]
  rfl

theorem upPartner_attached {u : Nat} (h : (s.up u).attached = true) : s.upPartner u = s := if_pos h

/-- A source attaches on Uu, which presented Rd: Uu becomes UFP. -/
theorem upPartner_sink {u : Nat} (h : (s.up u).attached = false) (hr : (s.up u).rp = false) :
    ((s.upPartner u).up u).attached = true ∧ (s.upPartner u).get (PD_ST.DATA_ROLE (96 + u)) = 0 := by
  simp [upPartner, h, hr]

/-- A tree without ports loses its USB 3 hubs. -/
theorem usb3Off_empty {u : Nat} (h : s.portsIn u = []) : s.usb3Off u = (s.set (U_TREEST.USB3_HUB u) 0).modUp u fun x =>
    { x with depth := 0, bhDepth := [], u1En := false, u2En := false, ssRoutes := [] } := by
  simp [usb3Off, h]

theorem portsIn_congr {t : State} (h : t.ports = s.ports) (u : Nat) : t.portsIn u = s.portsIn u := by
  rw [portsIn, h]
  rfl

end State

/-- Settles O25: a detached or lost host by `hostGone`, the rest by the branch their conditions choose. -/
theorem hubTreeRows : Obligations.HubTreeRows := by
  refine ⟨?reset, ?endHs, ?endSs, ?token, ?noRoute, ?depth, ?bhDepth, ?attached, ?sink, ?source, ?absent, ?u0, ?loss, ?lossEmpty,
    ?detach, ?detachEmpty, ?desc, ?bos⟩
  case reset =>
    intro s u ss hs
    refine ends_atU (r := execUpstreamBusReset u ss s) rfl rfl hs ⟨rfl, ?_⟩
    cases ss <;> simp
  case endHs =>
    intro s u hs hr
    refine ends_atU (r := execBusResetEnd ⟨u, false⟩ s) rfl rfl hs ?_
    simp [hr]
  case endSs =>
    intro s u hs hr
    refine ends_atU (r := execBusResetEnd ⟨u, true⟩ s) rfl rfl hs ?_
    simp [hr]
  case token =>
    intro s u addr epn dirIn len seen n hs hr hl ha h0 hf
    refine ends_atU (r := execHsDownstreamToken u addr epn dirIn ⟨len, seen⟩ s) rfl rfl hs ?_
    rw [if_neg (by simp [hr, hl, ha])]
    simp [h0, hf]
  case noRoute =>
    intro s u addr epn dirIn len seen hs hr hl ha h0 hf
    refine ends_atU (r := execHsDownstreamToken u addr epn dirIn ⟨len, seen⟩ s) rfl rfl hs ?_
    rw [if_neg (by simp [hr, hl, ha])]
    simp [h0, hf]
  case depth =>
    intro s u d hs
    refine ends_atU (r := execSetHubDepth u 0 d s) rfl rfl hs ?_
    simp
  case bhDepth =>
    intro s u h d hs h0
    refine ends_atU (r := execSetHubDepth u h d s) rfl rfl hs ?_
    simp [h0]
  case attached =>
    intro s u hs hh hu ha hd
    refine ends_atU (r := execUpstreamHostAttach u hs s) rfl rfl hh ?_
    rw [s.upPartner_attached ha]
    exact if_neg (by simp [s.on_false hd])
  case sink =>
    intro s u hs hh hu ha hr
    obtain ⟨h1, h2⟩ := s.upPartner_sink ha hr
    refine ends_atU (r := execUpstreamHostAttach u hs s) rfl rfl hh ⟨?_, h1⟩
    exact if_neg (by simp [on_false _ h2])
  case source =>
    intro s u hs hh hu ha hr
    refine ends_atU (r := execUpstreamHostAttach u hs s) rfl rfl hh ?_
    dsimp only
    split <;> simp_all [on]
  case absent =>
    intro s u hs hl
    exact ends_atU (r := execSsUpstreamAbsent u s) rfl rfl hs (if_pos hl)
  case u0 =>
    intro s u gen hs hu hv hl
    refine ends_atU (r := execSsUpstreamU0 u gen s) rfl rfl hs ?_
    rw [if_pos (by simpa using hv)]
    simp [hl]
  case loss =>
    intro s u hs hg hl
    refine ends_atU (r := execSsUpstreamLoss u s) rfl rfl hs ?_
    rw [if_neg hg]
    simp [hl]
  case lossEmpty =>
    intro s u hs hl hp hu hg
    refine ends_atU (r := execSsUpstreamLoss u s) rfl rfl hs ?_
    rw [if_neg hg, if_pos hl]
    have hp1 : ((s.setPort (96 + u) (U_TREEST.LINK u) 2).setPort (96 + u) (U_LPST.SS_LS u) Ls.disabled).portsIn u = [] :=
      (s.portsIn_congr (by simp) u).trans hp
    dsimp only
    rw [usb3Off_empty _ hp1, s.portsIn_congr (by simp [modUp]), hp]
    simp (disch := (dsimp only [Fld.key]; omega)) [sleepRefresh_get, get_set_other, setPort_get_other]
    decide
  case detach => exact fun s u hs hu => ends_atU (r := execUpstreamHostDetach u s) rfl rfl hs rfl
  case detachEmpty =>
    intro s u hs hu hp
    refine ends_atU (r := execUpstreamHostDetach u s) rfl rfl hs ⟨_, ?_, ?_, ?_, rfl⟩
    all_goals
      rw [usb3Off_empty _ hp]
      simp (disch := (dsimp only [Fld.key]; omega)) [setPort_get_other]
    decide
  case desc =>
    intro s u target ht h1 h2
    have h8 : target ≠ 8 := by omega
    by_cases h0 : target = 0 <;> simp [deviceDesc, idVendor, idProduct, h1, h2, h8, h0, descColumn, word2, descOf]
  case bos =>
    intro s u target ht
    have h8 : target ≠ 8 := by omega
    exact ⟨(bosDesc true).take ((bosDesc true).length - 3), by simp only [descriptor, if_neg h8]; decide⟩

/-- Settles O26: each row by the branch its conditions choose. -/
theorem splitRows : Obligations.SplitRows := by
  refine ⟨?start, ?startFlush, ?complete, ?running, ?late, ?early, ?none, ?npStart, ?npFull, ?npComplete, ?npPending, ?doneNot, ?done,
    ?clear, ?reset, ?resetAll, ?state, ?stop⟩
  case start =>
    intro s n addr epn dirIn len o ha ht hf hl ho
    refine ends_act (r := execPeriodicStartSplit n addr epn dirIn len s) rfl rfl ha ?_
    rw [if_neg (by simp [ht]), if_neg (by simp [hf]), if_neg (Nat.not_le.mpr hl)]
    dsimp only
    rw [ho]
  case startFlush =>
    intro s n addr epn dirIn len ha ht hf
    refine ends_act (r := execPeriodicStartSplit n addr epn dirIn len s) rfl rfl ha ?_
    rw [if_neg (by simp [ht]), if_pos hf]
  case complete =>
    intro s n addr epn dirIn one two x ha ht hd hx
    refine ends_act (r := execPeriodicCompleteSplit n addr epn dirIn ⟨one, two⟩ s) rfl rfl ha ?_
    rw [if_neg (by simp [ht]), hd]
    exact if_pos hx
  case running =>
    intro s n addr epn dirIn one two x ha ht hd hx hr
    refine ends_act (r := execPeriodicCompleteSplit n addr epn dirIn ⟨one, two⟩ s) rfl rfl ha ?_
    rw [if_neg (by simp [ht]), hd]
    exact (if_neg (fun h => h hx)).trans (if_pos hr)
  case late =>
    intro s n addr epn dirIn one two x ha ht hd hx hr
    refine ends_act (r := execPeriodicCompleteSplit n addr epn dirIn ⟨one, two⟩ s) rfl rfl ha ?_
    rw [if_neg (by simp [ht]), hd]
    exact (if_neg (fun h => h hx)).trans (if_neg hr)
  case early =>
    intro s n addr epn dirIn one two ha ht hd he
    refine ends_act (r := execPeriodicCompleteSplit n addr epn dirIn ⟨one, two⟩ s) rfl rfl ha ?_
    rw [if_neg (by simp [ht]), hd]
    exact if_pos he
  case none =>
    intro s n addr epn dirIn one two ha ht hn
    refine ends_act (r := execPeriodicCompleteSplit n addr epn dirIn ⟨one, two⟩ s) rfl rfl ha ?_
    have hd : s.ttDue n addr epn dirIn = none := List.find?_eq_none.mpr fun x hx => by simp [hn x hx]
    rw [if_neg (by simp [ht]), hd]
    dsimp only
    rw [if_neg (by simpa using fun x hx h => absurd h (by simp [hn x hx]))]
    unfold ttErr ttAnswer
    split <;> simp
  case npStart =>
    intro s n addr epn dirIn len o ha ht hf hl ho
    refine ends_act (r := execNonperiodicStartSplit n addr epn dirIn len s) rfl rfl ha ?_
    rw [if_neg (by simp [ht]), if_neg (by simpa [hf] using hl)]
    dsimp only
    rw [ho]
  case npFull =>
    intro s n addr epn dirIn len ha ht hl
    refine ends_act (r := execNonperiodicStartSplit n addr epn dirIn len s) rfl rfl ha ?_
    rw [if_neg (by simp [ht]), if_pos (by simp [hl])]
  case npComplete =>
    intro s n addr epn dirIn one two seen x ha ht hf hx
    refine ends_act (r := execNonperiodicCompleteSplit n addr epn dirIn ⟨⟨one, two⟩, seen⟩ s) rfl rfl ha ?_
    rw [if_neg (by simp [ht]), hf]
    exact if_neg hx
  case npPending =>
    intro s n addr epn dirIn one two seen x ha ht hf hx
    refine ends_act (r := execNonperiodicCompleteSplit n addr epn dirIn ⟨⟨one, two⟩, seen⟩ s) rfl rfl ha ?_
    rw [if_neg (by simp [ht]), hf]
    exact if_pos hx
  case doneNot =>
    intro s n addr epn len res one two x ha ht hper hnp h1 h2 h3 hx hr
    refine ends_act (r := execTtTransactionDone n addr epn true res len ⟨one, two⟩ s) rfl rfl ha ?_
    have hs : splitResult res ≠ .done := by
      unfold splitResult
      split <;> simp_all
    rw [if_neg (by simp [ht])]
    simp [ttRunning, hper, hnp, splitIs, h1, h2, h3, hx, hs]
  case done =>
    intro s n addr epn len one two x ha ht hr hx
    refine ends_act (r := execTtTransactionDone n addr epn true 0 len ⟨one, two⟩ s) rfl rfl ha ?_
    rw [if_neg (by simp [ht])]
    simp [hr, hx, splitResult, Option.filter]
  case clear =>
    intro s u h l addr epn n hs hc
    exact ends_portReqAck (r := execClearTtBuffer u h l addr epn s) (q := .clearTt addr epn) rfl rfl hs hc rfl
  case reset =>
    intro s u h l value n hs hc h1
    refine ends_act (r := execResetTt u h l value s) rfl rfl (alive_of_hostSide hs) ?_
    rw [if_pos h1, hostReqAck_port .resetTt hs hc]
  case resetAll =>
    intro s u h l value ha h1
    exact ends_act (r := execResetTt u h l value s) rfl rfl ha (if_neg h1)
  case state => exact fun s u ha => ends_act (r := execGetTtState u s) rfl rfl ha rfl
  case stop => exact fun s u ha => ends_act (r := execStopTt u s) rfl rfl ha rfl

end Sys2Proof.Machine
end

section
/-!
SUPPORT. Suspend, resume, L1 and SuperSpeed links (chapter 05).
-/

namespace Sys2Proof.Machine

namespace State

variable (s : State)

/-! ### What has been put out stays put out -/

theorem kRoute_mem_out {o : Out} (f : KFrame) (h : o ∈ s.out) : o ∈ (s.kRoute f).out := by
  unfold kRoute kSend kTransmit
  split
  · split
    · exact List.mem_cons_of_mem _ h
    · exact h
  · exact h

theorem portStatus_mem_out {o : Out} (n : Nat) (h : o ∈ s.out) : o ∈ (s.portStatus n).out := by
  unfold portStatus portOp
  split
  · exact s.kRoute_mem_out _ h
  · exact h

theorem setPort_mem_out {o : Out} (k : Nat) (f : Fld) (v : Nat) (h : o ∈ s.out) : o ∈ (s.setPort k f v).out := by
  unfold setPort
  split
  · exact h
  · refine portStatus_mem_out _ k ?_
    obtain ⟨c, th, hp⟩ := (s.set f v).postRouted_eq (116 + k)
    rw [postPort, hp]
    exact h

theorem stallClear_mem_out {o : Out} (n : Nat) (h : o ∈ s.out) : o ∈ (s.stallClear n).out := by
  unfold stallClear
  obtain ⟨f, hf⟩ := (s.setPort n (P_PORTST.ENUM_STALL n) 0).fltFall_eq 44 n
  rw [hf]
  exact s.setPort_mem_out _ _ _ h

theorem refreshCause_out (n : Nat) : (s.refreshCause n).out = s.out := by
  unfold refreshCause
  split <;> rfl

theorem setPs_mem_out {o : Out} (n v : Nat) (h : o ∈ s.out) : o ∈ (s.setPs n v).out := by
  have hp := s.setPort_mem_out n (P_PORTST.STATE n) v h
  unfold setPs
  dsimp only
  split
  · rwa [refreshCause_out]
  · split
    · exact hp
    · exact hp

/-! ### L1 -/

/-- The outcome of a test of L1: one field, the request that waited, and what goes out. -/
theorem l1Done_frame (n code : Nat) : (s.l1Done n code).flds = (s.set (P_LPST.L1_RESULT n) code).flds ∧
    (s.l1Done n code).port n = { s.port n with l1Ask := none } := by
  unfold l1Done
  dsimp only
  constructor
  · repeat' split
    all_goals simp [set]
  · repeat' split
    all_goals simp

theorem l1Done_get (n code : Nat) (f : Fld) : (s.l1Done n code).get f = (s.set (P_LPST.L1_RESULT n) code).get f := by
  rw [get, (s.l1Done_frame n code).1]
  rfl

/-- The LPM token leaves with the outcome. -/
theorem l1Done_token {n besl code : Nat} {rwe : Bool} (h : (s.port n).l1Ask = some (besl, rwe)) (hc : code ≠ 5) :
    .usb2 n (.lpmToken besl rwe) ∈ (s.l1Done n code).out := by
  have ha : ∀ (t : State) d, .usb2 n (.lpmToken besl rwe) ∈ t.out → .usb2 n (.lpmToken besl rwe) ∈ (t.answerHost n true d).out := by
    intro t d ht
    unfold answerHost
    split
    · exact List.mem_cons_of_mem _ ht
    · exact ht
  unfold l1Done
  dsimp only
  rw [if_neg hc, h, decide_eq_true hc]
  have hb := ha (((s.emit (.usb2 n (.lpmToken besl rwe))).set (P_LPST.L1_RESULT n) code).modPort n fun p => { p with l1Ask := none })
    [code] List.mem_cons_self
  split
  · exact kRoute_mem_out _ _ hb
  · exact hb

/-- What a test of L1 that fails leaves: its outcome, and nothing else in the fields. -/
theorem l1Done_ends {n code : Nat} (hc : code < 8) : (s.l1Done n code).get (P_LPST.L1_RESULT n) = code ∧
    ((s.l1Done n code).port n).l1Ask = none ∧ s.KeepsFlds (s.l1Done n code) [P_LPST.L1_RESULT n] := by
  refine ⟨?_, by rw [(s.l1Done_frame n code).2], fun g hg => ?_⟩
  · simp [l1Done_get, Nat.mod_eq_of_lt hc]
  · simp at hg
    simp [l1Done_get, get_set_other, hg]

/-- The port goes to L1 once its device has acknowledged: the fields of the state after the outcome, and what has gone out. -/
theorem l1Enter_ends {n besl : Nat} (rwe : Bool) (hb : besl < 16) {o : Out} (ho : o ∈ s.out) :
    let t := ((((s.stallClear n).set (P_LPST.BESL n) besl).set (P_LPST.L1_RWE n) rwe.toNat).set (P_LPST.SUSP_KIND n) Susp.l1).setPs n
      Ps.suspended
    t.get (P_PORTST.STATE n) = Ps.suspended ∧ t.get (P_LPST.SUSP_KIND n) = Susp.l1 ∧
      t.get (P_LPST.L1_RESULT n) = s.get (P_LPST.L1_RESULT n) ∧ t.get (P_LPST.BESL n) = besl ∧ t.get (P_LPST.L1_RWE n) = rwe.toNat ∧
      (t.port n).l1Ask = (s.port n).l1Ask ∧ o ∈ t.out := by
  refine ⟨?_, ?_, ?_, ?_, ?_, ?_, setPs_mem_out _ _ _ (show o ∈ (s.stallClear n).out from s.stallClear_mem_out n ho)⟩
  · simp
    decide
  · simp (disch := (dsimp only [Fld.key]; omega)) [setPs_get_other]
    decide
  · simp (disch := (dsimp only [Fld.key]; omega)) [setPs_get_other, get_set_other, stallClear_get_other]
  · simp (disch := (dsimp only [Fld.key]; omega)) [setPs_get_other, get_set_other, Nat.mod_eq_of_lt hb]
  · cases rwe <;> simp (disch := (dsimp only [Fld.key]; omega)) [setPs_get_other, get_set_other]
  · simp

end State

open State

/-- Settles O28: host requests by `ends_portReq`, the L1 test by `l1Done_frame`, the rest by the branch their conditions choose. -/
theorem suspendRows : Obligations.SuspendRows := by
  refine ⟨?suspend, ?suspendNot, ?portSuspend, ?portClear, ?endHost, ?endDevice, ?driving, ?resume, ?resumeEndEmpty, ?resumeEnd, ?device,
    ?wake, ?driveStart, ?driveEnd, ?noResume, ?test, ?ack, ?nyet, ?timeout, ?lpm, ?lpmNot, ?l1Exit, ?dormant⟩
  case suspend =>
    intro s u hs hh hl hp
    refine ends_atU (r := execTreeSuspend u s) rfl rfl hs ?_
    rw [if_pos ⟨hh, s.on_true hl⟩, hp, List.foldl_nil]
    simp (disch := (dsimp only [Fld.key]; omega)) [sleepRefresh_get]
    decide
  case suspendNot =>
    intro s u hs hh
    exact ends_atU (r := execTreeSuspend u s) rfl rfl hs (if_neg fun h => hh h.1)
  case portSuspend =>
    intro s u h l n hs hc hn hp hl hk
    refine ends_portReq (r := execSetPortSuspend u h l s) (q := .suspend) rfl rfl hs hc ?_
    simp (disch := (dsimp only [Fld.key]; omega)) [portReq, hp, s.on_false hl, hk, setPs_get_other]
    decide
  case portClear =>
    intro s u h l n hs hc hn hp hk hr
    refine ends_portReq (r := execClearPortSuspend u h l s) (q := .clearSuspend) rfl rfl hs hc ?_
    simp [portReq, hp, hk, hr]
  case endHost =>
    intro s n ha hn hp hr
    refine ends_act (r := execPortResumeEnd n s) rfl rfl ha ?_
    dsimp only
    rw [if_pos (by simp [hr, hp])]
    simp (disch := (dsimp only [Fld.key]; omega)) [hr, setPs_get_other, get_set_other]
    decide
  case endDevice =>
    intro s n ha hn hp hr
    refine ends_act (r := execPortResumeEnd n s) rfl rfl ha ?_
    dsimp only
    rw [if_pos (by simp [hr, hp])]
    simp (disch := (dsimp only [Fld.key]; omega)) [hr, setPs_get_other]
    decide
  case driving =>
    intro s u hs hh hd
    refine ends_atU (r := execHostResume u s) rfl rfl hs ?_
    dsimp only
    rw [if_pos hh]
    simp
  case resume =>
    intro s u hs hh hw
    refine ends_atU (r := execHostResume u s) rfl rfl hs ?_
    dsimp only
    rw [if_neg (by rw [hh]; decide), if_pos hh, if_neg (by simp [hw])]
  case resumeEndEmpty =>
    intro s u hs hh hp hk
    refine ends_atU (r := execHostResumeEnd u s) rfl rfl hs ?_
    rw [if_pos hh, hp, hk]
    rfl
  case resumeEnd =>
    intro s u hs hh
    exact ends_atU (r := execHostResumeEnd u s) rfl rfl hs (if_pos hh)
  case device =>
    intro s n hs hn hl ht hp hk
    refine ends_atD (r := execDeviceResume n s) rfl rfl hs ?_
    have he : (s.wakeNote n WakeBy.device).takeOver n = (s.wakeNote n WakeBy.device).takeOver n ∧
        .usb2 n .driveK ∈ ((s.wakeNote n WakeBy.device).takeOver n).out := ⟨rfl, List.mem_cons_self⟩
    simpa [treeAt, ht, s.on_false hl, hp, hk] using he
  case wake =>
    intro s n u h l hs hn ht
    refine ends_atD (r := execDeviceWake n s) rfl rfl hs ?_
    rw [ht]
  case driveStart =>
    intro s u hs hw hh hd
    refine ends_atU (r := execUpstreamWakeDriveStart u s) rfl rfl hs ?_
    rw [if_pos (by simp [hw, hh])]
    refine ⟨?_, by simp, rfl⟩
    simp (disch := (dsimp only [Fld.key]; omega)) [sleepRefresh_get]
    decide
  case driveEnd =>
    intro s u hs hh hk
    refine ends_atU (r := execUpstreamWakeDriveEnd u s) rfl rfl hs ?_
    rw [if_pos hh, if_neg (by simp [hk])]
    simp (disch := (dsimp only [Fld.key]; omega)) [sleepRefresh_get]
    decide
  case noResume =>
    intro s u n h l hs hh hw hp ht
    refine ends_atU (r := execWakeNoHostResume u s) rfl rfl hs ?_
    rw [if_pos ⟨hh, hw⟩, hp, List.foldl_cons, List.foldl_nil, ht]
    dsimp only
    split <;> simp
  case test =>
    intro s u h l n addr besl rwe hs hc hn hp hsp hv ha hk
    refine ends_portReq (r := execSetAndTestPortL1 u h l addr besl rwe s) (q := .testL1 addr besl rwe) rfl rfl hs hc ?_
    simp [portReq, hp, Nat.not_lt.mpr hsp, s.on_true hv, ha, hk]
  case ack =>
    intro s n besl rwe ha hn hb hl
    refine ends_act (r := execL1TokenResponse n 0 s) rfl rfl ha ?_
    rw [hl]
    have hr := s.l1Done_ends (n := n) (code := 1) (by decide)
    have ho := s.l1Done_token (code := 1) hl (by decide)
    obtain ⟨hst, hk, hres, hbl, hw, hask, hout⟩ := (s.l1Done n 1).l1Enter_ends rwe hb ho
    exact ⟨hst, hk, hres.trans hr.1, hbl, hw, hask.trans hr.2.1, hout⟩
  case nyet =>
    intro s n resp a ha hn hl h1 h2
    refine ends_act (r := execL1TokenResponse n resp s) rfl rfl ha ?_
    obtain ⟨besl, rwe⟩ := a
    rw [hl]
    dsimp only
    rw [if_neg (by omega)]
    exact s.l1Done_ends (by omega)
  case timeout =>
    intro s n ha hn hl
    refine ends_act (r := execL1TokenTimeout n s) rfl rfl ha ?_
    rw [if_pos (Option.isSome_iff_ne_none.mpr hl)]
    exact s.l1Done_ends (by decide)
  case lpm =>
    intro s u hs hh hl
    refine ends_atU (r := execUpstreamLpmToken u s) rfl rfl hs ?_
    rw [if_pos ⟨hh, hl⟩]
    simp (disch := (dsimp only [Fld.key]; omega)) [sleepRefresh_get]
  case lpmNot =>
    intro s u hs hl
    exact ends_atU (r := execUpstreamLpmToken u s) rfl rfl hs (if_neg (by simp [hl]))
  case l1Exit =>
    intro s u hs hh hd
    refine ends_atU (r := execUpstreamL1Exit u s) rfl rfl hs ?_
    rw [if_pos hh]
    simp (disch := (dsimp only [Fld.key]; omega)) [sleepRefresh_get]
  case dormant =>
    intro s hm hd hf ha hb
    refine ends_act (r := execDormantEntry s) rfl rfl (alive_of_mode hm (by decide)) ?_
    rw [if_pos (by simpa [hm, hd, hb, hf] using ha)]

end Sys2Proof.Machine
end

section
/-!
SUPPORT. SuperSpeed links: U1, U2 and U3 (chapter 05).
-/

namespace Sys2Proof.Machine

namespace State

variable (s : State)

/-- Forwarding the Function Wakes that wait moves no field. -/
@[simp] theorem flushWakes_flds (u : Nat) : (s.flushWakes u).flds = s.flds := by
  have hf : ∀ (l : List Nat) (t : State), (l.foldl (fun s _ => s.emit (.ss (96 + u) .packet 0)) t).flds = t.flds := by
    intro l
    induction l with
    | nil => exact fun _ => rfl
    | cons x xs ih => exact fun t => ih _
  exact hf _ _

@[simp] theorem flushWakes_get (u : Nat) (f : Fld) : (s.flushWakes u).get f = s.get f := by
  rw [get, flushWakes_flds]
  rfl

/-- Uu's link state moves alone. -/
theorem setPort_ls_ends {u v : Nat} (hv : v < 16) : (s.setPort (96 + u) (U_LPST.SS_LS u) v).get (U_LPST.SS_LS u) = v ∧
    s.KeepsFlds (s.setPort (96 + u) (U_LPST.SS_LS u) v) [U_LPST.SS_LS u] := by
  refine ⟨by rw [setPort_get_same]; exact Nat.mod_eq_of_lt hv, fun g hg => ?_⟩
  simp at hg
  rw [setPort_get_other _ _ _ _ _ hg]

/-- Uu initiates U1 or U2 where nothing forbids it (R167). -/
theorem upInitiate_ends {u ls : Nat} {sig : SsSig} (hu : s.get (U_LP_CFG.US_INIT_EN u) ≠ 0) (hl : s.get (U_LPST.SS_LS u) = Ls.u0)
    (hb : s.get (U_TREEST.USB3_HUB u) ≠ 0) (hq : s.egressQueued (96 + u) = false) (hw : s.linksLow u = true) (hv : ls < 16) :
    (s.upInitiate u true ls sig).get (U_LPST.SS_LS u) = ls ∧ s.KeepsFlds (s.upInitiate u true ls sig) [U_LPST.SS_LS u] := by
  rw [upInitiate, if_pos (by simp [s.on_true hu, hl, s.on_true hb, hq, hw])]
  exact (s.emit (.ss (96 + u) sig 0)).setPort_ls_ends hv

end State

open State

/-- Settles O29: host requests by `ends_portReq`, Uu's link by `setPort_ls_ends`, the rest by the branch their conditions choose. -/
theorem linkRows : Obligations.LinkRows := by
  refine ⟨?u1, ?u2, ?u1Idle, ?u2Idle, ?lgo, ?lgoNot, ?exit, ?exitTimeout, ?fail, ?linkU3, ?linkU0, ?devU3, ?upLgo3, ?upLgoNot, ?upLgo, ?init1,
    ?init2, ?upExit, ?upU3, ?upU3Exit, ?upU3ExitEq⟩
  case u1 =>
    intro s u h l v n hs hc hn hv
    refine ends_portReq (r := execSetPortU1Timeout u h l v s) (q := .u1Timeout v) rfl rfl hs hc ⟨rfl, ?_⟩
    simp [portReq, Nat.mod_eq_of_lt hv]
  case u2 =>
    intro s u h l v n hs hc hn hv
    refine ends_portReq (r := execSetPortU2Timeout u h l v s) (q := .u2Timeout v) rfl rfl hs hc ?_
    dsimp only [portReq]
    split
    case isTrue h1 =>
      exact ⟨by simp [Nat.mod_eq_of_lt hv], fun _ _ => List.mem_cons_self, fun g hg => by simp at hg; simp [get_set_other, hg]⟩
    case isFalse h1 =>
      exact ⟨by simp [Nat.mod_eq_of_lt hv], fun h2 h3 => absurd ⟨h2, h3⟩ h1, fun g hg => by simp at hg; simp [get_set_other, hg]⟩
  case u1Idle =>
    intro s n hs hn hl h1 h2 hq
    refine ends_atD (r := execU1IdleTimeout n s) rfl rfl hs ?_
    dsimp only
    rw [if_pos ⟨hl, h1, h2, hq⟩]
    exact setSs_get_ls _ _ _
  case u2Idle =>
    intro s n hs hn hl h1 h2 he
    refine ends_atD (r := execU2InactivityTimeout n s) rfl rfl hs ?_
    dsimp only
    rw [if_pos ⟨h1, h2, he⟩, if_pos hl]
    exact setSs_get_ls _ _ _
  case lgo =>
    intro s n k hs hn hl hk
    refine ends_atD (r := execDeviceLgo n k s) rfl rfl hs ?_
    rcases hk with ⟨rfl, ht⟩ | ⟨rfl, ht⟩
    · rw [if_pos ⟨hl, .inl rfl⟩, if_pos rfl, if_pos (s.on_true ht)]
      exact setSs_get_ls _ _ _
    · rw [if_pos ⟨hl, .inr rfl⟩, if_neg (by decide : (2 : Nat) ≠ 1), if_pos (s.on_true ht)]
      exact setSs_get_ls _ _ _
  case lgoNot =>
    intro s n k hs hn hl hk
    refine ends_atD (r := execDeviceLgo n k s) rfl rfl hs ?_
    rcases hk with ⟨rfl, ht⟩ | ⟨rfl, ht⟩
    · rw [if_pos ⟨hl, .inl rfl⟩, if_pos rfl, if_neg (by simp [s.on_false ht])]
    · rw [if_pos ⟨hl, .inr rfl⟩, if_neg (by decide : (2 : Nat) ≠ 1), if_neg (by simp [s.on_false ht])]
  case exit =>
    intro s n hs hn hl he
    refine ends_atD (r := execUxExit n s) rfl rfl hs ?_
    rw [if_pos hl]
    simp [exitStart, he]
  case exitTimeout =>
    intro s n hs hn hl he
    refine ends_atD (r := execUxExitTimeout n s) rfl rfl hs ?_
    rw [if_pos ⟨he, hl⟩]
  case fail =>
    intro s n hs hn hl he
    refine ends_atD (r := execRecoveryFail n s) rfl rfl hs ?_
    rw [if_pos ⟨he, hl⟩]
  case linkU3 =>
    intro s u h l n hs hc hn hk hl
    refine ends_portReq (r := execSetPortLinkStateU3 u h l s) (q := .linkU3) rfl rfl hs hc ?_
    dsimp only [portReq]
    rw [if_pos (by simp [s.on_true hk, hl])]
    refine ⟨?_, ?_, ?_⟩
    · simp
      decide
    · simp (disch := (dsimp only [Fld.key]; omega)) [setPs_get_other]
      decide
    · simp (disch := (dsimp only [Fld.key]; omega)) [setPs_get_other, get_set_other]
      decide
  case linkU0 =>
    intro s u h l n hs hc hn hk hl he
    refine ends_portReq (r := execSetPortLinkStateU0 u h l s) (q := .linkU0) rfl rfl hs hc ?_
    have h1 : 1 ≤ Ls.u3 := by decide
    dsimp only [portReq]
    rw [if_pos (by simp [s.on_true hk, hl, h1])]
    simp [exitStart, he]
  case devU3 =>
    intro s n hs hn hl
    refine ends_atD (r := execDeviceU3Exit n s) rfl rfl hs ?_
    rw [if_pos hl]
    simp
  case upLgo3 =>
    intro s u hs hl hb
    refine ends_atU (r := execUpstreamLgo u 3 s) rfl rfl hs ?_
    rw [if_neg (by simp [hl, s.on_true hb]), if_pos rfl]
  case upLgoNot =>
    intro s u k hs hl hb hk hq
    refine ends_atU (r := execUpstreamLgo u k s) rfl rfl hs ?_
    rw [if_neg (by simp [hl, s.on_true hb]), if_neg (by omega), if_pos hk, if_pos hq]
  case upLgo =>
    intro s u k hs hl hb hk hq
    refine ends_atU (r := execUpstreamLgo u k s) rfl rfl hs ?_
    rw [if_neg (by simp [hl, s.on_true hb]), if_neg (by omega), if_pos hk, if_neg (by simp [hq])]
    exact (s.emit (.ss (96 + u) .lau 0)).setPort_ls_ends (by omega)
  case init1 =>
    intro s u hs he hu hl hb hq hw
    refine ends_atU (r := execUpstreamU1Initiate u s) rfl rfl hs ?_
    rw [he]
    exact s.upInitiate_ends hu hl hb hq hw (by decide)
  case init2 =>
    intro s u hs he hu hl hb hq hw
    refine ends_atU (r := execUpstreamU2Initiate u s) rfl rfl hs ?_
    rw [he]
    exact s.upInitiate_ends hu hl hb hq hw (by decide)
  case upExit =>
    intro s u hs hl
    refine ends_atU (r := execUpstreamUxExit u s) rfl rfl hs ?_
    rw [if_pos hl]
    have hk := (s.setPort_ls_ends (u := u) (v := Ls.u0) (by decide)).2
    exact ⟨rfl, by simp, fun g hg => by simpa using hk g hg⟩
  case upU3 =>
    intro s u hs hl hb hp
    refine ends_atU (r := execUpstreamU3Entry u s) rfl rfl hs ?_
    rw [if_pos ⟨hl, s.on_true hb⟩, hp, List.foldl_nil]
    simp (disch := (dsimp only [Fld.key]; omega)) [sleepRefresh_get]
    decide
  case upU3Exit =>
    intro s u hs hl hw hd
    refine ends_atU (r := execUpstreamU3Exit u s) rfl rfl hs ?_
    rw [if_pos hl]
    simp (disch := (dsimp only [Fld.key]; omega)) [sleepRefresh_get]
  case upU3ExitEq =>
    intro s u hs hl
    exact ends_atU (r := execUpstreamU3Exit u s) rfl rfl hs (if_pos hl)

end Sys2Proof.Machine
end

section
/-!
SUPPORT. Type-C ports (chapter 06).
-/

namespace Sys2Proof.Machine

open State

/-- A command of Dn's Type-C logic. -/
theorem ends_tc {c : Instr} {s : State} {n : Nat} {f : State → State} {Q : State → Prop} {r : Res State}
    (hr : r = tcAct s n f) (he : exec c s = r) (hs : s.tcSide n = true) (hq : Q (f s)) : Ends c s Q := by
  rw [tcSide, Bool.and_eq_true] at hs
  exact ends_act hr he hs.2 (by rwa [if_pos hs.1])

/-- A command at port k that is present. -/
theorem ends_atPort {c : Instr} {s : State} {k : Nat} {f : State → State} {Q : State → Prop} {r : Res State}
    (hr : r = act s fun s => s.atPort k f) (he : exec c s = r) (ha : s.alive = true) (hk : s.kHere k = true) (hq : Q (f s)) :
    Ends c s Q :=
  ends_act hr he ha (by rwa [atPort, if_pos hk])

/-- Settles O30: the Type-C logic by `ends_tc`, the commands of the port by `ends_atPort`, each by the branch its conditions choose. -/
theorem typeCRows : Obligations.TypeCRows := by
  refine ⟨?attach, ?audio, ?check, ?wet, ?dry, ?seat, ?seatWait, ?seatLost, ?seatPower, ?recovery, ?open_, ?cancel, ?cancelAbort, ?pdDebounce,
    ?report, ?reportSteam, ?retest, ?override, ?overrideNot, ?recheck, ?recheckNot, ?cradle, ?vconn, ?sbu, ?drp, ?drpOff⟩
  case attach =>
    intro s n c hs hn ht hst hc
    refine ends_tc (r := execCcAttach n 2 c s) rfl rfl hs ?_
    have hp : ((s.set (P_TCST.CC1 n) 2).set (P_TCST.CC2 n) c).ccPartner n = true := by
      simp (disch := (dsimp only [Fld.key]; omega)) [ccPartner, ccRd, get_set_other]
    dsimp only
    rw [if_neg (by simp [hp]), if_neg (by simp [hst]), if_pos (.inl ht)]
    simp (disch := (dsimp only [Fld.key]; omega)) [setTc_get_other, get_set_other]
    decide
  case audio =>
    intro s n hs hn ht h1 h2
    refine ends_tc (r := execAttachDebounceEnd n s) rfl rfl hs ?_
    rw [if_pos ht, if_pos (by simp [ccUnsupported, h1, h2])]
    exact setTc_get_state _ _ _
  case check =>
    intro s n hs hn ht h1 h2 hm
    refine ends_tc (r := execAttachDebounceEnd n s) rfl rfl hs ?_
    rw [if_pos ht, if_neg (by simp [ccUnsupported, h1, h2]), if_neg (by simp [ccRd, h1]), if_pos (s.on_true (by simp [hm]))]
    exact ⟨rfl, setTc_get_state _ _ _⟩
  case wet =>
    intro s n cc1 cc2 sbu1 sbu2 hs hn ht hf
    refine ends_tc (r := execMoistureCheckDone n cc1 cc2 sbu1 sbu2 s) rfl rfl hs ?_
    rw [if_pos ht, if_pos hf]
    exact setTc_get_state _ _ _
  case dry =>
    intro s n cc1 cc2 sbu1 sbu2 hs ht hf hst hc
    refine ends_tc (r := execMoistureCheckDone n cc1 cc2 sbu1 sbu2 s) rfl rfl hs ?_
    rw [if_pos ht, if_neg (by simp [hf]), if_neg (by simp [hst]), hc, hf]
  case seat =>
    intro s n ha hn hd hc ht
    refine ends_act (r := execSeatConfirmed n s) rfl rfl ha ?_
    rw [if_pos hd, if_neg (by simp [ht]), if_neg (by simp [s.on_false hc])]
    exact ⟨by simp, by simp, fun g hg => by simp at hg; simp [get_set_other, hg]⟩
  case seatWait =>
    intro s n hs hn ht hc hg
    obtain ⟨⟨hd, hl⟩, ha⟩ : (s.dsHere n = true ∧ s.tcLive n = true) ∧ s.alive = true := by simpa [tcSide] using hs
    refine ends_act (r := execSeatConfirmed n s) rfl rfl ha ?_
    rw [if_pos hd, if_pos (by simp [ht, hl]), if_neg (by simp [hg])]
  case seatLost =>
    intro s n ha hn hd hc
    refine ends_act (r := execSeatLoss n s) rfl rfl ha ?_
    rw [if_pos hd, if_neg (by simp [s.on_false hc])]
    exact ⟨by simp, by simp, fun g hg => by simp at hg; simp [get_set_other, hg]⟩
  case seatPower =>
    intro s n ha hn hd hc hp
    refine ends_act (r := execSeatLoss n s) rfl rfl ha ?_
    rw [if_pos hd, if_pos (by simp [s.on_true hc, s.on_true hp])]
    exact setTc_get_state _ _ _
  case recovery =>
    intro s n hs hn ht
    refine ends_tc (r := execErrorRecoveryEnd n 2 0 s) rfl rfl hs ?_
    rw [if_pos ht]
    dsimp only
    rw [if_pos (by simp (disch := (dsimp only [Fld.key]; omega)) [ccRd, get_set_other])]
    simp (disch := (dsimp only [Fld.key]; omega)) [setTc_get_other, get_set_other]
    decide
  case open_ =>
    intro s n hs hn h1 ht hst
    refine ends_tc (r := execCcOpen n s) rfl rfl hs ?_
    have hne : ¬ Tc.attached = Tc.detaching := by decide
    dsimp only
    rw [if_neg (by simp [ccPartner, ccRd, h1, ht, hne]), if_neg (by simp [hst]), if_neg (by rw [ht]; decide), if_pos (.inl ht)]
    exact setTc_get_state _ _ _
  case cancel =>
    intro s n cc1 cc2 hs hn hd hst hb hr
    refine ends_tc (r := execDetachCancelled n cc1 cc2 s) rfl rfl hs ?_
    rw [if_pos hd, if_neg (by simp [hst]), if_neg hr, if_neg (by simp [hb])]
  case cancelAbort =>
    intro s n cc1 cc2 hs hn hd hst hb hr
    refine ends_tc (r := execDetachCancelled n cc1 cc2 s) rfl rfl hs ?_
    rw [if_pos hd, if_neg (by simp [hst]), if_neg hr, if_pos hb]
  case pdDebounce =>
    intro s n hs hd
    exact ends_tc (r := execTpddebounceEnd n s) rfl rfl hs (if_pos hd)
  case report =>
    intro s n hs hd hst
    refine ends_tc (r := execDetachReported n s) rfl rfl hs ?_
    rw [if_pos hd, if_neg (by simp [hst])]
    refine ⟨rfl, fun hc => ?_⟩
    rw [detachReport, if_neg (by simp [hc])]
    exact setTc_get_state _ _ _
  case reportSteam =>
    intro s n hs hd hst
    refine ends_tc (r := execDetachReported n s) rfl rfl hs ?_
    rw [if_pos hd, if_pos hst]
  case retest =>
    intro s n hs ht
    refine ends_tc (r := execMoistureRetest n s) rfl rfl hs ?_
    rw [if_pos ht]
    exact ⟨rfl, setTc_get_state _ _ _⟩
  case override =>
    intro s n ha hk hr hst
    refine ends_atPort (r := execOverride n s) rfl rfl ha hk ?_
    rw [tcOverride, if_pos (by simp [hr, hst])]
    simp [on]
  case overrideNot =>
    intro s n ha hk hst
    refine ends_atPort (r := execOverride n s) rfl rfl ha hk ?_
    rw [tcOverride, if_neg (by simp [hst])]
    exact ⟨rfl, rfl⟩
  case recheck =>
    intro s n ha hk hn hl hv ht hp
    refine ends_atPort (r := execRecheck n s) rfl rfl ha hk ?_
    dsimp only [tcRecheck]
    rw [if_pos (by simp [hl, hv, ht, s.on_false hp])]
    refine ⟨?_, by simp, rfl⟩
    rw [answer_get, get_set_other _ _ _ _ (by dsimp only [Fld.key]; omega)]
    exact setTc_get_state _ _ _
  case recheckNot =>
    intro s n ha hk hv
    refine ends_atPort (r := execRecheck n s) rfl rfl ha hk ?_
    dsimp only [tcRecheck]
    rw [if_neg (by simp [hv])]
  case cradle =>
    intro s n v ha hk hc hp hn hv
    refine ends_atPort (r := execCradleWrite n v s) rfl rfl ha hk ?_
    dsimp only [wrCradle]
    rw [if_neg (by simp [s.on_false hp]), if_neg (by simp [s.on_false hc])]
    exact ⟨by simp; omega, rfl, fun g hg => by simp at hg; simp [get_set_other, hg]⟩
  case vconn =>
    intro s n hs hv
    exact ends_tc (r := execVconnTrip n s) rfl rfl hs (if_pos (s.on_true hv))
  case sbu =>
    intro s n hs
    exact ends_tc (r := execSbuOvervoltage n s) rfl rfl hs rfl
  case drp =>
    intro s u ha hu hd hat hdie
    refine ends_act (r := execDrpToggle u s) rfl rfl ha ?_
    rw [if_pos (by simp [hu, s.on_true hd, hat, hdie])]
    simp
  case drpOff =>
    intro s u ha hd
    refine ends_act (r := execDrpToggle u s) rfl rfl ha ?_
    rw [if_neg (by simp [s.on_false hd])]
    simp

end Sys2Proof.Machine
end

section
/-!
SUPPORT. USB PD (chapter 07): two families of rows refuted, each by a row whose clause leaves out what the engine does beside it.
-/

namespace Sys2Proof.Machine

open State

/-- Port 0's message is on the wire after its last retry, and SINKTX stands as an earlier contract left it. -/
def lostMessageState : State :=
  (State.reset.set (PD_ST.SINKTX 0) 1).modEng 0 fun g => { g with tx := .wire, retries := 2 }

/-- Refutes O32: the end of a transmission also brings SINKTX up to date (R217), which the clause on a failed PD_RETRY_TIMEOUT keeps. -/
theorem not_pdMessageRows : ¬ Obligations.PdMessageRows := by
  rintro ⟨-, -, -, h, -⟩
  have ht := Ends.of_act (r := execPdRetryTimeout 0 lostMessageState) rfl rfl rfl
    (h lostMessageState 0 rfl (by decide +kernel) (by decide +kernel) (by decide +kernel))
  obtain ⟨-, -, hk⟩ := ht
  exact absurd (hk (PD_ST.SINKTX 0) (by decide)) (by decide +kernel)

/-- U0 is a sink at 5 V whose Hard Reset has been signalled. -/
def sinkResetState : State := (State.reset.set (PP_MEAS.VBUS 96) 500).modEng 96 fun g => { g with hr := .psHardReset }

/-- Refutes O33: a sink waits for VBUS to fall below vSafe0V before its Hard Reset goes on (R238), where the clause on TPSHARDRESET_END sends
every port whose path does not discharge to tSrcRecover. -/
theorem not_pdContractRows : ¬ Obligations.PdContractRows := by
  rintro ⟨-, -, -, -, -, h, -⟩
  have ht := Ends.of_act (r := execTpshardresetEnd 96 sinkResetState) rfl rfl rfl (h sinkResetState 96 _ rfl (by decide +kernel) rfl)
  exact absurd (congrArg (fun t : State => (t.eng 96).hr) ht) (by decide +kernel)

end Sys2Proof.Machine
end

section
/-!
SUPPORT. SuperSpeed packets (chapter 03): staged fields, the endpoint table's entries, and the protection of a bank.
-/

namespace Sys2Proof.Machine

namespace State

variable (s : State)

/-! ### Staged fields -/

@[simp] theorem pendingOf_stage_same (f : Fld) (v : Nat) : (s.stage f v).pendingOf f = v % 2 ^ f.wid :=
  Tbl.get_ins_same _ _ _ _

theorem pendingOf_stage_other (f g : Fld) (v : Nat) (h : g.key ≠ f.key) : (s.stage f v).pendingOf g = s.pendingOf g :=
  (Tbl.get_ins_other _ _ _ _ _ h).trans (Tbl.get_erase_other _ _ _ _ h)

/-- The entry the ROM program stages for an endpoint (R120). -/
theorem epInstall_pending {n addr e : Nat} {d : EpDesc} (hn : n < 96) (ha : addr < 128) (ht : d.ty < 4)
    (he : s.epRoom n addr (d.epAddr % 16) (decide (128 ≤ d.epAddr)) d.ty = some e) :
    (s.epInstall n addr d).pendingOf (EP_KEY.VALID e) = 1 ∧ (s.epInstall n addr d).pendingOf (EP_KEY.TYPE e) = d.ty ∧
      (s.epInstall n addr d).pendingOf (EP_KEY.PORT e) = n ∧ (s.epInstall n addr d).pendingOf (EP_KEY.ADDR e) = addr ∧
      (s.epInstall n addr d).pendingOf (EP_MAP.CLASS e) = d.ty ∧ (s.epInstall n addr d).flds = s.flds := by
  dsimp only [epInstall]
  rw [he]
  refine ⟨?_, ?_, ?_, ?_, ?_, by simp⟩
  all_goals simp (disch := (dsimp only [Fld.key]; omega)) [pendingOf_stage_other]
  all_goals omega

/-- The entry that makes room is a bulk one of the fullest port. -/
theorem epVictim_bulk {e : Nat} (h : s.epVictim = some e) :
    s.pendingOf (EP_KEY.TYPE e) = 2 ∧ s.pendingOf (EP_KEY.PORT e) = s.epFullest := by
  obtain ⟨-, hp⟩ := List.mem_filter.mp (List.min?_mem h)
  simpa [and_comm] using hp

/-! ### Protection of banks -/

/-- Marking queues that hold words of the old code leaves the codes of the banks. -/
theorem markOld_secded (l : List Nat) :
    (l.foldl (fun s q => (s.modQueue q fun x => { x with oldWords := s.qOcc q }).set (CD_QST.PROT_OLD q) 1) s).get CD_PROT.SECDED =
      s.get CD_PROT.SECDED := by
  induction l generalizing s with
  | nil => rfl
  | cons q r ih =>
    rw [List.foldl_cons, ih, get_set_other _ _ _ _ (by dsimp only [Fld.key]; omega), modQueue_get]

/-- The bank's own bit is turned over. -/
theorem protBank_secded (b : Nat) : (s.protBank b).get CD_PROT.SECDED = (s.get CD_PROT.SECDED ^^^ 2 ^ b) % 2 ^ 32 := by
  dsimp only [protBank]
  split <;> split <;>
    simp (disch := (dsimp only [Fld.key]; omega)) [markOld_secded, get_set_other]

/-- Turning the bits of some banks over, each once. -/
theorem foldl_protBank_secded {l : List Nat} (hl : l.Nodup) {x : Nat} (hx : x < 32) :
    ((l.foldl protBank s).get CD_PROT.SECDED).testBit x = ((s.get CD_PROT.SECDED).testBit x ^^ l.contains x) := by
  induction l generalizing s with
  | nil => simp
  | cons b r ih =>
    obtain ⟨hb, hr⟩ := List.nodup_cons.mp hl
    rw [List.foldl_cons, ih _ hr, protBank_secded, Nat.testBit_mod_two_pow, Nat.testBit_xor, Nat.testBit_two_pow]
    by_cases he : b = x
    · subst he
      simp [hx, hb]
    · simp [hx, he, Ne.symm he]

theorem recordBanks_get (l : List Nat) (f : Fld) :
    (l.foldl (fun s b => s.logRec 0x07 0x03 b (s.get CD_PROT.SECDED)) s).get f = s.get f := by
  induction l generalizing s with
  | nil => rfl
  | cons b r ih => rw [List.foldl_cons, ih, logRec_get]

/-- A write of CD_PROT reaches every bank whose change is not pending (R108). -/
theorem wrProt_secded {v x : Nat} (hx : x < 32) (hp : (s.get CD_PROT_PEND.PEND).testBit x = false) :
    ((s.wrProt v).get CD_PROT.SECDED).testBit x = v.testBit x := by
  have hg : ∀ good : List Nat, good.Nodup → (x ∈ good ↔ (s.get CD_PROT.SECDED).testBit x ≠ v.testBit x) →
      ((good.foldl (fun s b => s.logRec 0x07 0x03 b (s.get CD_PROT.SECDED)) (good.foldl protBank s)).get CD_PROT.SECDED).testBit x =
        v.testBit x := by
    intro good hn hc
    rw [recordBanks_get, foldl_protBank_secded s hn hx, List.contains_eq_mem]
    by_cases hm : x ∈ good
    · simp [hm, Bool.eq_not_of_ne (hc.mp hm)]
    · simp [hm, Classical.not_not.mp (mt hc.mpr hm)]
  dsimp only [wrProt]
  split
  · exact hg _ ((List.nodup_range.filter _).filter _) (by simp [hx, hp])
  · exact hg _ ((List.nodup_range.filter _).filter _) (by simp [hx, hp])

/-- A bank whose parity failed in two microframes within 1 s goes to SECDED (R107). -/
theorem romBank_secded {b : Nat} (hb : b < 32) (ht : s.parTwice b = true) (hs : (s.get CD_PROT.SECDED).testBit b = false)
    (hp : (s.get CD_PROT_PEND.PEND).testBit b = false) :
    ((s.romBank b).get CD_PROT.SECDED).testBit b = true ∧ (s.romBank b).boot.work.recov.testBit b = true := by
  have hw := s.wrProt_secded (v := s.get CD_PROT.SECDED + 2 ^ b) hb hp
  have hv : (s.get CD_PROT.SECDED + 2 ^ b).testBit b = true := by
    rw [Nat.add_comm, Nat.testBit_two_pow_add_eq, hs]
    rfl
  dsimp only [romBank]
  rw [if_pos (by simp [ht, hs, hp])]
  refine ⟨?_, by simp [modWork]⟩
  rw [modWork, modBoot_get, modFlow_get, romProt, answer_get]
  exact hw.trans hv

end State

open State

/-- Settles O27: the rows by the branch their conditions choose, the endpoint table by `epInstall_pending`, the bank by `romBank_secded`. -/
theorem packetRows : Obligations.PacketRows := by
  refine ⟨?down, ?downNot, ?up, ?itp, ?itpNone, ?itpEnd, ?request, ?noWait, ?grant, ?config, ?cutNone, ?cutEnd, ?cutBegin, ?abort, ?pick, ?staged,
    ?seen, ?prot, ?flush, ?flushNot, ?boundary, ?flushEnd, ?flushAbort, ?hold, ?forgive, ?recovered, ?trained, ?install, ?room, ?roomVictim,
    ?victim, ?bank⟩
  case down =>
    intro s u route addr epn dirIn ty len seq numP whole seen n hs hl hb hr
    refine ends_atU (r := execSsDownstreamPacket u route addr epn dirIn ty ⟨len, seen⟩ seq numP whole s) rfl rfl hs ?_
    dsimp only
    rw [if_pos ⟨hl, s.on_true hb⟩, hr]
  case downNot =>
    intro s u route addr epn dirIn ty len seq numP whole seen hs hl hb hr
    refine ends_atU (r := execSsDownstreamPacket u route addr epn dirIn ty ⟨len, seen⟩ seq numP whole s) rfl rfl hs ?_
    dsimp only
    rw [if_pos ⟨hl, s.on_true hb⟩, hr]
  case up =>
    intro s n addr epn dirIn ty len numP whole u hs hc hl ht
    refine ends_atD (r := execSsUpstreamPacket n addr epn dirIn ty len numP whole s) rfl rfl hs ?_
    dsimp only
    rw [if_pos (by simp [hc, hl]), ht]
  case itp =>
    intro s u l hs hls hb hl hne
    refine ends_atU (r := execItpReceived u s) rfl rfl hs ?_
    dsimp only
    rw [if_pos ⟨hls, s.on_true hb⟩, hl, if_neg (by simp [hne])] <;> rfl
  case itpNone =>
    intro s u hs hls hb hp hi
    refine ends_atU (r := execItpReceived u s) rfl rfl hs ?_
    dsimp only
    rw [if_pos ⟨hls, s.on_true hb⟩, hp, List.filter_nil, if_pos List.isEmpty_nil, hi]
    rfl
  case itpEnd =>
    intro s u p ha hp
    refine ends_act (r := execItpReleaseTimeout u s) rfl rfl ha ?_
    dsimp only
    rw [hp]
  case request =>
    intro s q src x cls len ha hc
    refine ends_act (r := execQueueWriteRequest q src x cls len s) rfl rfl ha ?_
    rw [if_pos hc]
  case noWait =>
    intro s q ha hw
    refine ends_act (r := execQueueSpaceGranted q s) rfl rfl ha ?_
    rw [qGrant, hw]
  case grant =>
    intro s q p a ha hg hp
    refine ends_act (r := execQueueSpaceGranted q s) rfl rfl ha ?_
    dsimp only
    rw [hg]
    dsimp only
    rw [if_neg (by omega)]
  case config =>
    intro s q v ha
    exact ends_act (r := execQueueConfigWrite q v s) rfl rfl ha rfl
  case cutNone =>
    intro s q words left one two ha hp
    refine ends_act (r := execCutThroughStart ⟨q, one, two⟩ words left s) rfl rfl ha ?_
    rw [hp]
  case cutEnd =>
    intro s q p k words left one two ha hp hk hst
    refine ends_act (r := execCutThroughStart ⟨q, one, two⟩ words left s) rfl rfl ha ?_
    rw [hp]
    dsimp only
    rw [hk]
    dsimp only
    rw [if_neg (by simp [hst])]
  case cutBegin =>
    intro s q p k words left one two ha hp hk hst hr hx hi
    refine ends_act (r := execCutThroughStart ⟨q, one, two⟩ words left s) rfl rfl ha ?_
    rw [hp]
    dsimp only
    rw [hk]
    dsimp only
    rw [if_pos (by simp [hst, hr, hx, hi])]
  case abort =>
    intro s q p one two ha hp
    refine ends_act (r := execCutThroughAbort ⟨q, one, two⟩ s) rfl rfl ha ?_
    rw [hp]
  case pick =>
    intro s x left q p ha hr hp
    refine ends_act (r := execEgressPick x left s) rfl rfl ha ?_
    dsimp only [egressStart]
    rw [if_pos hr, hp]
  case staged =>
    intro s x one two q o rest p ha hst hp hw
    refine ends_act (r := execPacketStaged x ⟨one, two⟩ s) rfl rfl ha ?_
    rw [hst]
    dsimp only
    rw [hp]
    dsimp only
    rw [if_neg (by omega)] <;> rfl
  case seen =>
    intro s q ha
    exact ends_act (r := execEpisodeSeenRead q s) rfl rfl ha rfl
  case prot =>
    intro s v ha
    exact ends_act (r := execProtectionWrite v s) rfl rfl ha rfl
  case flush =>
    intro s q ha hr
    refine ends_act (r := execQueueFlush q s) rfl rfl ha ?_
    rw [wrFlush, if_pos (s.on_true hr)]
    exact ⟨rfl, rfl⟩
  case flushNot =>
    intro s q ha hr
    refine ends_act (r := execQueueFlush q s) rfl rfl ha ?_
    rw [wrFlush, if_neg (by simp [s.on_false hr])]
  case boundary =>
    intro s q ha hw
    exact ends_act (r := execFlushBoundary q s) rfl rfl ha (if_neg (by simp [hw]))
  case flushEnd =>
    intro s q ha hb hp
    refine ends_act (r := execFlushProducerTimeout q s) rfl rfl ha ?_
    rw [if_pos (s.on_true hb), hp]
  case flushAbort =>
    intro s q p ha hb hp hst
    refine ends_act (r := execFlushProducerTimeout q s) rfl rfl ha ?_
    rw [if_pos (s.on_true hb), hp]
    exact if_pos hst
  case hold =>
    intro s p h ha hh
    refine ends_act (r := execRedHoldForced p s) rfl rfl ha ?_
    rw [hh]
  case forgive =>
    intro s x ha
    refine ends_act (r := execForgive x s) rfl rfl ha ?_
    simp [State.forgive]
  case recovered =>
    intro s n gen hs hk hl hr hw
    refine ends_atD (r := execSsLinkU0 n gen s) rfl rfl hs ?_
    dsimp only
    rw [if_pos (by simp [s.on_true hk, hl]), if_neg (by rw [hl]; decide), if_neg (by simp [hw]), if_neg (by omega),
      if_neg (by rw [hl]; decide)]
  case trained =>
    intro s n gen hs hk hl hr hw
    refine ends_atD (r := execSsLinkU0 n gen s) rfl rfl hs ?_
    dsimp only
    rw [if_pos (by simp [s.on_true hk, hl]), if_pos hl, if_neg (by simp [hw]), if_pos (.inr hr)]
  case install =>
    intro s n addr d e hn ha ht he hr
    exact ⟨_, rfl, s.epInstall_pending hn ha ht hr⟩
  case room =>
    intro s n addr epn dirIn ty hh h1 h3
    rw [epRoom, hh, if_neg (by omega), Option.or_none, Option.none_or]
  case roomVictim =>
    intro s n addr epn dirIn ty hh ht
    rw [epRoom, hh, if_pos ht, Option.none_or]
  case victim =>
    intro s e he
    exact s.epVictim_bulk he
  case bank =>
    intro s b hb ht hs hp
    exact s.romBank_secded hb ht hs hp

end Sys2Proof.Machine
end
